-- ==== Sys2Proof/Word.lean ====
section
/-! DEFINITION. The word types of the unit: register words (05 R157), bytes, Field Time and link words, store words with their
check bits (06 R191). -/

namespace Sys2Proof

/-- A register word (05 R157). -/
abbrev Word := BitVec 32
/-- A byte of a frame, a record or a bus transaction. -/
abbrev Byte := BitVec 8
/-- A 16-bit quantity: link sequence, HSP address and length. -/
abbrev Half := BitVec 16
/-- A 64-bit quantity: Field Time, a store word's data bits. -/
abbrev DWord := BitVec 64
/-- A store word: 64 data bits in [63:0] and 8 check bits in [71:64] (06 R191). -/
abbrev StoreWord := BitVec 72
/-- A 256-bit key, hash or MAC. -/
abbrev Key := BitVec 256
/-- A station number S0 to S3 (01 R29). -/
abbrev Stn := Fin 4

end Sys2Proof
end

