-- ==== Sys2Proof/Syntax.lean ====
section
/-! DEFINITION. The commands of the block as data: one constructor of Instr per row of the table of steps, and what a command
carries (a host frame, a bus transaction, levels and codes that the environment presents). -/

namespace Sys2Proof

/-- The operations of the Host Serial Port (08 R285). -/
inductive HspOp where
  | regRead | regWrite | regWriteVerify | streamPut | streamGet | streamPeek | cmd | statusDigest | nop
  | sessionOpen | sessionAuth | sessionClose
  deriving DecidableEq, Repr

/-- A host frame without its operation code and CRCs (08 R277): `stream` is the STREAM byte, `payload` the payload bytes. -/
structure Frame where
  stream : Byte
  seq : Byte
  flags : Byte
  addr : Half
  len : Half
  payload : List Byte
  deriving DecidableEq, Repr

/-- How a transaction of the management bus uses the bus (09 R324): write, read, Quick Command, or an unsupported protocol. -/
inductive MbKind where
  | quick | write | read | other
  deriving DecidableEq, Repr

/-- A management bus transaction addressed to the unit: command code, data bytes of a write without the block count, the block
count byte where one was sent, and the PEC byte where one was sent. -/
structure MbTxn where
  kind : MbKind
  cmd : Byte
  count : Option Byte
  data : List Byte
  pec : Option Byte
  deriving DecidableEq, Repr

/-- How a message arrived over a lane (02 R43, R47, R53): with the ten-bit codes that were sent, or with others in their place. -/
inductive Rx where
  | asSent
  | altered (codes : List (BitVec 10))
  deriving DecidableEq, Repr

/-- The level channels from the field side (02 R76). -/
inductive LevelCh where
  | alert | fault
  deriving DecidableEq, Repr

/-- The cause of a Tailstock reset other than PON (00 R14, 10 R376). -/
inductive RstCause where
  | fwAct | wdog | therm | clkStop | storeCheck | host | imgFail
  deriving DecidableEq, Repr

/-- A filtered input of the D1 connector (10 R394, R395): DI0 to DI7; STO_A, STO_B and ESTOP_N as DIO_IN shows them; LEVER_SEL. -/
inductive DiIn where
  | di (k : Fin 8)
  | safe (k : Fin 3)
  | leverSel
  deriving DecidableEq, Repr

/-- The filtered levels of a station's encoder connector (11). -/
structure EncLevels where
  a : Bool
  b : Bool
  z : Bool
  xa : Bool
  xb : Bool
  xz : Bool
  cap : Bool
  deriving DecidableEq, Repr

/-- What an input has shown, and for how long: in samples or cycles of its filter, or in µs. -/
structure Held (α : Type) where
  level : α
  held : Nat
  deriving DecidableEq, Repr

/-- What a housekeeping slot converts (20 R704, R708): the quantity in the unit of its type, and the codes of its conversions. -/
structure HkInput where
  quantity : Int
  codes : List (BitVec 16)
  deriving DecidableEq, Repr

/-- What the data inputs A, B, C and DC of a station showed up to the last MCLK edge at or before an instant (12 R457 to R461): per period
of MCLK, oldest first, the level 0 to 4 CLK_FB cycles after its rising edge. -/
structure SampleIn where
  a : List (BitVec 5)
  b : List (BitVec 5)
  c : List (BitVec 5)
  dc : List (BitVec 5)
  deriving DecidableEq, Repr

/-- What ends an active short circuit (18 R660). -/
inductive AscEnd where
  | slow | timeout | blocked
  deriving DecidableEq, Repr

/-- The readings of one off-state diagnostic step (19). -/
structure DiagMeas where
  v : List Int
  ok : Bool
  deriving DecidableEq, Repr

/-- An Orbit frame as received (16). -/
structure OrbFrame where
  bytes : List Byte
  good : Bool
  deriving DecidableEq, Repr

/-- How a push to the concentrator ends (09 R358, R359): every byte acknowledged, byte `k` refused, or arbitration lost in byte `k`,
`own` where that is an address byte equal to the unit's own address. -/
inductive PushResult where
  | acked | nacked (k : Nat) | arbLost (own : Bool) (k : Nat)
  deriving DecidableEq, Repr

/-- A command of the block: one constructor per row of the table of steps, named after its row. -/
inductive Instr where
  /-- PON (R14). Field supply A or B rises through the start threshold and the whole field side starts, implying TRST. -/
  | pon (a : Bool) (b : Bool) (cold : Bool)
  /-- TRST (R867). Tailstock reset: PD2 to PD7 are restarted from step T2, Tailstock registers, streams and state reset, and TIME_EPOCH increments. -/
  | trst (c : RstCause) (cold : Bool)
  /-- HRST (R866). HS_RST_N held low resets the Headstock HSP registers and empties the duplicate table. -/
  | hrst (ns : Nat)
  /-- MBRST (R354). MB_RST_N held low resets the management bus block and MBUS page and releases both lines. -/
  | mbrst (ns : Nat)
  /-- HS_3V3_RISE (R122). Host 3.3 V rises through the power-on release, causing HRST and MBRST and restarting the LSEQ counters. -/
  | hs3v3Rise
  /-- HS_3V3_FALL (R122). Host 3.3 V falls through the power-down threshold; the Headstock stops and answers no WAKE interrogation. -/
  | hs3v3Fall
  /-- PGRST (R169). A write of 1 to PG_CTRL.SRST resets the configuration and status fields of that page. -/
  | pgrst (page : Byte)
  /-- REG_WRITE (R162). REG_WRITE frame commits its register writes in ascending offset order under one store sequence number; also serves writes to registers without a row of their own. -/
  | regWrite (f : Frame)
  /-- REG_READ (R178). REG_READ returns registers of one page from a single snapshot. -/
  | regRead (f : Frame)
  /-- REG_WRITE_VERIFY (R288). Writes registers and returns the read-back, with status PARTIAL on a mismatch. -/
  | regWriteVerify (f : Frame)
  /-- STREAM_PUT (R212). Writes a PUT record into a host-writable stream under its overflow policy. -/
  | streamPut (f : Frame)
  /-- STREAM_GET (R303). Consumes the previous delivery of the stream and delivers whole records, preceded by a SYNC. -/
  | streamGet (f : Frame)
  /-- STREAM_PEEK (R289). Returns records after a skip count without consuming or delivering them. -/
  | streamPeek (f : Frame)
  /-- STATUS_DIGEST (R310). Returns the 64-byte status digest from one snapshot. -/
  | statusDigest (f : Frame)
  /-- NOP (R311). Executes nothing and counts as host activity. -/
  | nop (f : Frame)
  /-- SESSION_OPEN (R798). Draws a SID and NONCE and holds them as the pending challenge. -/
  | sessionOpen (f : Frame)
  /-- SESSION_AUTH (R799). Opens the session on a correct MAC, or counts a failure and discards the challenge. -/
  | sessionAuth (f : Frame)
  /-- SESSION_CLOSE (R801). Closes the open session named by its SID. -/
  | sessionClose (f : Frame)
  /-- FAULT_CLEAR (R670). CMD code 0x0001 on a PROT page clears the masked station latches whose clear condition holds, guarded by its token. -/
  | faultClear (n : Stn) (f : Frame)
  /-- FAULT_CLEAR_ALL (R669). CMD code 0x0001 on the STO page clears unit-scope faults and applies FAULT_CLEAR to every station. -/
  | faultClearAll (f : Frame)
  /-- HSP_HEADER (R278). The Headstock checks a received 12-byte header and sends HACK 0xC3 or rejects it with 0x5A and a status. -/
  | hspHeader (bytes : List Byte)
  /-- HSP_REQUEST_END (R292). At the last request byte the Headstock checks the PCRC and the duplicate table and decides the DISP of the Varfen request. -/
  | hspRequestEnd (bytes : List Byte)
  /-- FRAME_ABORT (R315). HS_CS_N rises before the last request byte; the begun message is abandoned and no entry is made. -/
  | frameAbort (k : Nat)
  /-- FIELD_TIMEOUT (R312). The wait-byte count reaches HSP_WAIT_MAX without 0xA5, and the frame ends with FIELD_TIMEOUT. -/
  | fieldTimeout
  /-- HSP_CNT_CLR (R319). HSP_CTRL.CNT_CLR clears the HSP counters. -/
  | hspCntClr
  /-- DUP_CLR (R300). HSP_CTRL.DUP_CLR empties the duplicate table of the channels named. -/
  | dupClr (mask : Byte)
  /-- REQ_HSP (R62). The field side receives a whole H2F request and accepts, discards, NAKs, replays or executes it. -/
  | reqHsp (rx : Rx)
  /-- REQ_MB (R62). The field side receives a management bus request and executes or discards it. -/
  | reqMb (rx : Rx)
  /-- NAK_H (R62). The field side receives a NAK_H and retransmits the segment named with RETX = 1. -/
  | nakH (rx : Rx)
  /-- RSP_HSP (R67). The Headstock receives an RSP_HSP segment, checks it and passes it to the host or answers it with NAK_H. -/
  | rspHsp (rx : Rx)
  /-- RSP_MB (R329). The Headstock receives RSP_MB, ends the stretch and acknowledges or fails the bus command. -/
  | rspMb (rx : Rx)
  /-- NAK_F (R64). The Headstock receives a NAK_F and ends the frame concerned with PCRC_ERR or fails the bus command. -/
  | nakF (rx : Rx)
  /-- NAK_H_REPEAT (R68). No good segment copy within 32 wait bytes or SCL clocks; a further NAK_H is sent or the frame fails after two. -/
  | nakHRepeat (mb : Bool)
  /-- OPEN_MESSAGE_TIMEOUT (R62). No symbol for 40 ms inside an open message; the field side discards it. -/
  | openMessageTimeout
  /-- HS_PRESENT_FALL (R306). Four WAKE interrogations go unanswered; the field side discards the open message, cancels deliveries and forgets LSEQs. -/
  | hsPresentFall
  /-- WAKE_INTERROGATION (R83). AON interrogates the Headstock WAKE cell and acts on two consecutive asserted answers in Deep sleep. -/
  | wakeInterrogation (err : BitVec 3) (cold : Bool)
  /-- LEVEL_REFRESH (R78). A valid ALERT or FAULT refresh arrives at the Headstock and drives the host pin and presence state. -/
  | levelRefresh (ch : LevelCh) (err : BitVec 3)
  /-- LEVEL_TIMEOUT (R76). No valid refresh of ALERT or FAULT within 3.6 to 4.4 µs; the channel takes its asserted default. -/
  | levelTimeout (ch : LevelCh)
  /-- LINK_TRAINED (R72). Loopback calibration passes and the field side sets LINK_RDY. -/
  | linkTrained
  /-- TRAINING_RETRY (R74). After a double training failure, training is repeated every 1.0 s. -/
  | trainingRetry
  /-- RETRAIN (R75). BLNK_CTRL.RETRAIN is committed and waits for all outstanding responses to be sent. -/
  | retrain
  /-- RETRAIN_EFFECT (R75). After the outstanding responses are sent, LINK_RDY clears and training restarts. -/
  | retrainEffect
  /-- BLNK_CNT_CLR (R88). BLNK_CTRL.CNT_CLR clears BLNK_ERR, BLNK_RETX and SEQ_GAP. -/
  | blnkCntClr
  /-- FT_REPLICA_CHECK (R97). Every 2^20 ticks each Field Time replica is compared with the master and reloaded on a slip. -/
  | ftReplicaCheck (ce : Int) (fb : Int) (sq : Int)
  /-- CDC_TIMEOUT (R112). A configuration transfer is not acknowledged within 1,024 cycles and is abandoned, setting STALE. -/
  | cdcTimeout (id : Nat) (page : Byte)
  /-- DS_UNSTABLE (R105). None of 8 double-sample attempts agrees; the receiver keeps the previous value and reports UNSTABLE. -/
  | dsUnstable (id : Nat)
  /-- CLOCK_STOPPED (R110). A watched clock or the crystal shows no edge for 1.5 to 2.5 µs; gates block, FAULT asserts and the watchdog is left to expire. -/
  | clockStopped (clk : Fin 8)
  /-- PLL_RETRY (R111). A PLL that did not lock is retried every 1.0 s within BOOT. -/
  | pllRetry (lock : Bool)
  /-- WATCHDOG_EXPIRY (R377). The SQC watchdog is unserviced for 10 ms and causes a TRST with cause WDOG. -/
  | watchdogExpiry
  /-- A_FAILED (R125). Supply A stays below the low threshold for the deglitch time with B valid, and a hand-over starts in COMMIT. -/
  | aFailed
  /-- B_CONNECTED (R126). B is connected at commit, the hand-over is counted and the selector moves to DWELL or ON_B. -/
  | bConnected (aRet : Bool)
  /-- A_RETURN (R124). A reaches the return threshold in ON_B and the dwell starts. -/
  | aReturn
  /-- A_EXCURSION (R127). A drops below the return threshold for 10 µs or longer, ending DWELL. -/
  | aExcursion
  /-- DWELL_COMPLETE (R127). A has stayed returned for 500 ms and the selector returns to A, connecting A before releasing B. -/
  | dwellComplete
  /-- B_FAILED (R131). Supply B fails; it aborts a committing hand-over, returns to A, or only marks B invalid. -/
  | bFailed
  /-- UNSTABLE_CLR (R130). PWR_CTRL.UNSTABLE_CLR clears SUPPLY_UNSTABLE and releases HELD_B. -/
  | unstableClr
  /-- BOTH_SUPPLIES_FAILED (R134). Both field supplies have failed; AON blocks gates, flushes the log and powers down all domains in order. -/
  | bothSuppliesFailed (cut : Option Nat)
  /-- COLD_HOLD_RELEASE (R144). All AON temperature comparators reach the release level and the held domains are powered. -/
  | coldHoldRelease
  /-- REQ_RUN (R146). PWR_CTRL.REQ_RUN requests a Standby-to-Run transition. -/
  | reqRun
  /-- REQ_STANDBY (R145). PWR_CTRL.REQ_STANDBY requests Standby, accepted only in READY_SAFE or SLEEP with every station DISABLED. -/
  | reqStandby
  /-- REQ_DEEP (R145). PWR_CTRL.REQ_DEEP requests Deep sleep, accepted only with every station DISABLED and every DIO output off. -/
  | reqDeep
  /-- TRANSITION_START (R147). After the response of the requesting frame is sent, the accepted power-state transition starts, including Deep sleep entry. -/
  | transitionStart
  /-- RUN_TRANSITION_DONE (R152). PD7, PD5 and PD6 are powered and the unit reaches Run with every station DISABLED. -/
  | runTransitionDone
  /-- STANDBY_TRANSITION_DONE (R153). PD6, PD5 and PD7 are off and PD4 enters retention if RETAIN = 1. -/
  | standbyTransitionDone
  /-- WAKE_COMPLETE (R151). After the wake, SQC, store and link are ready and LINK_RDY = 1 reaches the Headstock. -/
  | wakeComplete
  /-- STORE_INIT_DONE (R255). All banks are tested and zeroed, the default layout is placed and INIT_DONE is set, or a failed check forces a repeat. -/
  | storeInitDone (fail : Bool)
  /-- BOOT_COMPLETE (R374). Start-up conditions have all passed and the unit enters READY_SAFE. -/
  | bootComplete
  /-- STRD_CFG_WRITE (R199). A descriptor write is checked for ring placement and overlap, and enables, empties or reconfigures the stream. -/
  | strdCfgWrite (k : Byte) (word : Word)
  /-- STREAM_RESET (R218). CSG_SCMD RESET empties a stream, clears LOST and WMHIGH and sets SYNCREQ. -/
  | streamReset (k : Byte)
  /-- STREAM_SYNC (R229). CSG_SCMD SYNC sets SYNCREQ of a stream. -/
  | streamSync (k : Byte)
  /-- BACKPRESSURE_RETRY (R212). A queued SQC record is retried at a consumption of its BACKPRESSURE stream. -/
  | backpressureRetry (k : Byte)
  /-- CORRECTION_WRITEBACK (R246). In an idle bank cycle a queued corrected word or poisoned word is written back. -/
  | correctionWriteback (bank : Fin 8)
  /-- SCRUB_READ (R261). The scrubber reads its next word in an idle cycle and classifies, queues write-back or poisons it. -/
  | scrubRead (bank : Fin 8) (upset : BitVec 72) (mirrorBad : Bool)
  /-- SCRUB_SKIP (R262). A bank has no idle cycle for 1 ms and the waiting word is deferred to the catch-up list. -/
  | scrubSkip (bank : Fin 8)
  /-- CSA_INJ (R268). A write of CSA_INJ queues an error injection into a stream-area word. -/
  | csaInj (word : Word)
  /-- ERROR_INJECTION (R268). In an idle cycle the named word is read, its data bits flipped and written back without new check bits. -/
  | errorInjection
  /-- ARM (R369). SEQ_CMD.ARM moves READY_SAFE to ARMED unless an ARM_BLOCK bit refuses it. -/
  | arm
  /-- DISARM (R371). SEQ_CMD.DISARM returns ARMED to READY_SAFE or stops every running station. -/
  | disarm
  /-- SEQ_RESET (R402). A keyed write of SEQ_RESET with the current epoch schedules a TRST after the response. -/
  | seqReset (word : Word)
  /-- START (R379). STN_CMD.START is committed, to be taken at the station's next command point. -/
  | start (n : Stn)
  /-- STOP (R380). STN_CMD.STOP makes a category 1 stop request taken at the next command point. -/
  | stop (n : Stn)
  /-- COMMAND_POINT (R381). At each current-loop boundary the SQC takes pending STARTs, stop requests, releases, policies and fault exits together. -/
  | commandPoint (n : Stn)
  /-- FLUX_BUILT (R383). FLUX_MS has passed in MAGNETIZING and torque proving or brake opening begins. -/
  | fluxBuilt (n : Stn)
  /-- PROVING_END (R384). PROVE_MS has passed; proving passes and the brake output switches on, or the station faults with PROVE. -/
  | provingEnd (n : Stn)
  /-- TAKEOVER (R494). T_REL expires after the brake opens, the speed loop takes over bumplessly and the station enters RUNNING. -/
  | takeover (n : Stn)
  /-- ZERO_SPEED_HELD (R385). Speed stays within ZSPD for 10 current-loop samples during a stop and zero speed is held, the brake output switching off. -/
  | zeroSpeedHeld (n : Stn)
  /-- BRAKE_SET_DONE (R385). T_SET expires after the brake confirms closed, the gates block and the station enters READY. -/
  | brakeSetDone (n : Stn)
  /-- VOLT_LIM (R378). VSAT has stayed 1 (or 0) for 200 ms and the station enters (or leaves) VOLTAGE_LIMITED. -/
  | voltLim (n : Stn)
  /-- CHARGE (R387). PCHG_CMD.CHARGE starts the internal pre-charge sequence of a group. -/
  | charge (mask : BitVec 2)
  /-- DISCHARGE (R391). PCHG_CMD.DISCHARGE opens the contactors of a group and enters DISCHARGING unless a station runs. -/
  | discharge (mask : BitVec 2)
  /-- VLINK_UPDATE (R388). Each 1 ms link-voltage update checks VDONE, VSAFE and the dV/dt window of a pre-charge group. -/
  | vlinkUpdate (g : Fin 2) (v : Nat)
  /-- PCHG_TIMEOUT (R388). RAMP lasts longer than TMAX and the group fails with cause TIMEOUT. -/
  | pchgTimeout (g : Fin 2)
  /-- RETRY_WAIT_END (R389). RETRY_WAIT expires and the pre-charge sequence is repeated from CLOSE_K1. -/
  | retryWaitEnd (g : Fin 2)
  /-- DI_ACCEPT (R395). A digital input holds a new level for DEB ms and is accepted, advancing contactor, brake or lever functions. -/
  | diAccept (k : DiIn) (level : Bool)
  /-- AUX_FAIL (R397). An auxiliary input does not confirm its output within T_AUX, latching AUX_FAIL for the owning function. -/
  | auxFail (k : Fin 8)
  /-- DO_OVERLOAD (R398). An output carries over 0.7 A for 1 ms or is shorted and is switched off with OVL set. -/
  | doOverload (k : Fin 8)
  /-- SAMPLE_INSTANT (R461). At each current-loop sample instant sensing and feedback deliver samples and records, and the CE computes the due loops and filters. -/
  | sampleInstant (n : Stn) (raw : SampleIn)
  /-- GATE_COMMAND_UPDATE (R37). New compare values take effect at the end of S6 or at TAPPLY, or are discarded as a deadline miss. -/
  | gateCommandUpdate (n : Stn) (late : Bool)
  /-- ENCODER_EDGE (R416). An accepted encoder edge updates the counter, latch, preset and compare in that order. -/
  | encoderEdge (n : Stn) (lv : Held EncLevels)
  /-- COMPARE_PULSE_END (R442). The CMP_OUT pulse width expires and the output returns to idle. -/
  | comparePulseEnd (n : Stn)
  /-- SSI_FRAME_START (R421). An SSI frame starts LEAD ticks before the sample instant, or is skipped if one still runs. -/
  | ssiFrameStart (n : Stn)
  /-- SSI_FRAME_END (R425). A completed SSI frame updates the counter, or counts as a frame error. -/
  | ssiFrameEnd (n : Stn) (bits : List Bool) (pbHigh : Bool)
  /-- HALL_CHANGE (R427). The filtered Hall code changes and the sector and auxiliary counter update or an error is counted. -/
  | hallChange (n : Stn) (code : Held (BitVec 3))
  /-- HALL_ILLEGAL_TIMEOUT (R427). An illegal Hall code lasts 1 ms and asserts auxiliary loss. -/
  | hallIllegalTimeout (n : Stn)
  /-- SWITCH_CHANGE (R429). A filtered switch level changes and sets PG_EVT.SWk, acting as a travel limit where configured. -/
  | switchChange (n : Stn) (k : Fin 4) (level : Held Bool)
  /-- PAIR_LOSS (R448). An RS-422 pair stays out of range for T_LOSS, or back in range, and its loss state changes. -/
  | pairLoss (n : Stn) (p : Fin 6) (lost : Held Bool)
  /-- ENC_OC (R451). Encoder supply overcurrent for 1 ms switches the supply off and sets ENC_OC. -/
  | encOc (n : Stn)
  /-- FBP_PRESET_CMD (R418). FBP_CMD.PRESET loads the primary counter with FBP_PRESET.VALUE. -/
  | fbpPresetCmd (n : Stn)
  /-- FBA_PRESET_CMD (R428). FBA_CMD.PRESET loads the auxiliary counter. -/
  | fbaPresetCmd (n : Stn)
  /-- LATCH_ARM (R437). LCMP_CMD.ARM arms the one-shot latch. -/
  | latchArm (n : Stn)
  /-- GT_CLR (R447). LCMP_CMD.GT_CLR returns the gate timer to Idle without recording. -/
  | gtClr (n : Stn)
  /-- AIN_CONVERSION (R469). A fast analogue input converts every 1 µs and forms a new output every L conversions. -/
  | ainConversion (k : Fin 8) (code : Int)
  /-- SD_STUCK (R478). A sigma-delta data input shows one level for 256 bits and is marked stuck. -/
  | sdStuck (n : Stn) (ch : Fin 4)
  /-- CAL (R481). ISNS_CMD.CAL starts an offset calibration in DISABLED or READY. -/
  | cal (n : Stn)
  /-- CALIBRATION_DONE (R479). 256 valid samples are averaged and the offsets written, or calibration fails. -/
  | calibrationDone (n : Stn)
  /-- RECAL_SETTLE_END (R482). SETTLE ms after entry to READY, the recalibration starts. -/
  | recalSettleEnd (n : Stn)
  /-- TRACKING_SAMPLE (R483). At a zero-vector centre with upper switches on, an offset tracking update is taken. -/
  | trackingSample (n : Stn) (raw : SampleIn)
  /-- BNKA_SWAP (R534). A host bank request is made pending to take effect at the next boundary of its scope. -/
  | bnkaSwap (n : Stn) (word : Word)
  /-- SWAP_RETURN_TIMEOUT (R538). The return timer of a shock swap expires and a return swap becomes pending. -/
  | swapReturnTimeout (n : Stn) (d : Fin 3)
  /-- COPY (R542). BNKA_CMD.COPY copies every bank A register into bank B. -/
  | copy (n : Stn)
  /-- TRC_ARM (R551). TRC_CMD.ARM arms the trace trigger engine. -/
  | trcArm
  /-- FORCE (R552). TRC_CMD.FORCE triggers the armed engine at its commit. -/
  | force
  /-- TRC_DISARM (R551). TRC_CMD.DISARM returns the trigger engine to IDLE. -/
  | trcDisarm
  /-- TRACE_POST_END (R551). Field Time reaches TFT plus POST and the trigger engine enters DONE. -/
  | tracePostEnd
  /-- FOLLOWER_LOST (R575). A follower input stays invalid (or valid again) for TLOST and LOST sets or clears. -/
  | followerLost (n : Stn) (lost : Bool)
  /-- ORBIT_FRAME_RX (R604). A share frame is received, stored, forwarded or stripped, and applied or refreshed by accepting members. -/
  | orbitFrameRx (port : Bool) (f : OrbFrame)
  /-- FRAME_REPEAT (R600). 62.5 µs pass without a new group frame and the last frame is sent again with REPEAT. -/
  | frameRepeat (g : Nat)
  /-- ORBIT_LINK_DOWN (R608). A port loses its receive clock or sees 4 code violations in 100 µs, and traffic wraps. -/
  | orbitLinkDown (port : Bool)
  /-- ORBIT_LINK_UP (R608). A port runs 100 µs without code violations and its link comes up. -/
  | orbitLinkUp (port : Bool)
  /-- UNWRAP (R609). Both links stay up for 100 ms and the route changes back. -/
  | unwrap
  /-- ORB_LOSS (R611). A running Follower gets no frame for 250 µs, and Orbit loss asserts. -/
  | orbLoss (g : Nat)
  /-- SUCCESSION_TAKEOVER (R614). The designated successor takes over on a PLOST frame or after 130 µs without frames. -/
  | successionTakeover (g : Nat)
  /-- PWM_BIT_CHANGE (R633). The carrier reaches a compare value and the PWM bit of a switch changes. -/
  | pwmBitChange (n : Stn) (ch : Nat) (level : Bool)
  /-- TURN_ON (R639). A waiting switch turns on once DT_MIN has passed and the complementary off confirmation is usable. -/
  | turnOn (n : Stn) (ch : Nat)
  /-- GATE_CONFIRMATION (R625). A feedback edge toward the commanded level confirms the channel. -/
  | gateConfirmation (n : Stn) (ch : Nat) (level : Bool)
  /-- DEPARTURE (R626). A feedback edge leaves a confirmed level, asserts the gate block and is classified DRV_FAULT or FB_FAULT. -/
  | departure (n : Stn) (ch : Nat) (gaps : List Nat)
  /-- HS_FAULT (R643). A confirmation is not usable within THS_MAX and a handshake fault blocks the station. -/
  | hsFault (n : Stn) (ch : Nat)
  /-- NPC_INNER_OFF (R645). 0.5 µs after an NPC block, the inner switches S2 and S3 turn off. -/
  | npcInnerOff (n : Stn)
  /-- CHOP_LIM (R649). The chopper has been on for TMAX and is turned off for TMAX ms. -/
  | chopLim (n : Stn)
  /-- PROT_SOURCE_ASSERT (R667). An armed protection source asserts, latches and moves the station per its reaction class. -/
  | protSourceAssert (n : Stn) (src : Fin 15)
  /-- ASC_END (R660). The active short circuit ends on low speed for 10 ms, TASC expiry or an overriding block. -/
  | ascEnd (n : Stn) (why : AscEnd)
  /-- CTO (R662). A class C stop has not reached zero speed within TMAX, and CTO latches. -/
  | cto (n : Stn)
  /-- STO_DEMAND (R674). An STO channel is de-energized beyond the filter time and blocks every station's gates. -/
  | stoDemand (b : Bool) (us : Nat)
  /-- STO_READBACK (R677). 10 µs after an STO demand the gate-block lines are read back, latching DIAG_FAIL if one fails. -/
  | stoReadback (a : Bool) (b : Bool)
  /-- STO_DISC (R678). The two STO channels disagree for longer than TDISC and STO_DISC latches. -/
  | stoDisc
  /-- ESTOP (R680). ESTOP_N low beyond the filter blocks gates (category 0) or starts category 1 stops. -/
  | estop
  /-- BACKSTOP (R681). ETMAX after ESTOP_N fell, the delay cell blocks every station's gates. -/
  | backstop
  /-- DIAG_RUN (R689). DIAG_CMD.RUN starts an off-state diagnostic sequence on a station. -/
  | diagRun (word : Word)
  /-- DIAG_ABORT (R692). DIAG_CMD.ABORT ends the running sequence and returns the station. -/
  | diagAbort
  /-- DIAG_STEP_END (R694). A diagnostic step completes its measurements or comparator check and records its result. -/
  | diagStepEnd (m : DiagMeas)
  /-- HK_SLOT_END (R709). A housekeeping slot ends and its result is committed to the stream and registers. -/
  | hkSlotEnd (raw : HkInput)
  /-- HK_OD (R713). HK_OD.REQ queues an on-demand conversion. -/
  | hkOd (word : Word)
  /-- RESUME (R724). AOUT_CMD.RESUME clears FAILED and returns the output target to SET. -/
  | resume (k : Fin 4)
  /-- GRACE_OVER (R744). The derating grace timer expires and the torque clamp begins. -/
  | graceOver (n : Stn)
  /-- DWELL_END (R749). An inserted dwell expires and the waiting operation proceeds. -/
  | dwellEnd
  /-- HW_SHUTDOWN (R754). A hardware thermal comparator confirms a trip; gates block and the event log flush begins. -/
  | hwShutdown (sensor : Nat)
  /-- THERMAL_DOMAINS_OFF (R754). 3.0 ms after the trip, PD6, PD5, PD7, PD4, PD3 and PD2 are switched off. -/
  | thermalDomainsOff
  /-- THERMAL_RESTART (R756). All comparators confirm cool and 120 s have passed, causing a TRST with cause THERM. -/
  | thermalRestart
  /-- EMG_STOP (R762). EMG_CMD STOP makes a category 1 or 2 stop request for the stations named. -/
  | emgStop (word : Word)
  /-- RELEASE (R786). EMG_CMD RELEASE returns a station from EMERGENCY to RUNNING at its next command point. -/
  | release (mask : BitVec 4)
  /-- C1_TIMEOUT (R765). A monitored ramp has not reached zero within TMON and switches to emergency limits. -/
  | c1Timeout (n : Stn)
  /-- LEV_DISC (R770). The lever channels disagree for TDISC and the lever reference ramps to zero. -/
  | levDisc (n : Stn)
  /-- ECLIPSE (R774). No host activity for HB_PERIOD and the unit declares Eclipse. -/
  | eclipse
  /-- HOLD_BRAKE_PROVING_END (R780). Zero speed has been held for PROVE_MS under HOLD_BRAKE and the brake is set. -/
  | holdBrakeProvingEnd (n : Stn)
  /-- CHALLENGE_EXPIRY (R798). A pending session challenge expires 10 s after SESSION_OPEN. -/
  | challengeExpiry
  /-- LOCKOUT_END (R800). The 60 s session lockout ends. -/
  | lockoutEnd
  /-- SESSION_TIMEOUT (R801). The open session reaches its idle or lifetime limit and closes. -/
  | sessionTimeout
  /-- PROG (R793). SEC_CMD.PROG programs the device key into OTP when its CRC matches SEC_KCHK. -/
  | prog
  /-- PROGCS (R795). SEC_CMD.PROGCS programs the integrator co-signing key hash into OTP. -/
  | progcs
  /-- BEGIN (R809). FW_CMD.BEGIN targets the other slot, resets stream 168 and erases the slot. -/
  | begin
  /-- ERASE_DONE (R809). The slot erase ends and loading enters LOADING. -/
  | eraseDone
  /-- IMAGE_RECORD_CONSUMED (R810). The SQC consumes a stream 168 record and programs it into flash, or fails the load. -/
  | imageRecordConsumed
  /-- COMMIT (R811). FW_CMD.COMMIT waits for stream 168 to drain and then starts verification. -/
  | commit
  /-- VERIFY_DONE (R807). Image verification completes and the slot becomes VERIFIED or INVALID. -/
  | verifyDone
  /-- CANCEL (R812). FW_CMD.CANCEL returns the load to IDLE. -/
  | cancel
  /-- CONFIRM (R815). FW_CMD.CONFIRM makes the TRIAL slot CONFIRMED and raises the rollback counter. -/
  | confirm
  /-- MB_COMMAND_BYTE (R348). At the command byte the bus block acknowledges, stretches for a wake or refuses with NACK. -/
  | mbCommandByte (t : MbTxn)
  /-- MB_STRETCH_LIMIT (R348). The wake stretch reaches 18 to 22 ms and the block NACKs with WAKE_TIMEOUT. -/
  | mbStretchLimit
  /-- MB_RESPONSE_WAIT (R333). The response-wait cell expires after 1.6 to 2.4 ms and the command fails. -/
  | mbResponseWait
  /-- SCL_TIMEOUT (R351). SCL held low 25 to 35 ms releases both lines and discards any unsent request. -/
  | sclTimeout
  /-- SDA_TIMEOUT (R352). SDA held low 25 to 35 ms with SCL high releases SDA and recovers the bus. -/
  | sdaTimeout
  /-- STATUS_WORD (R337). Read Word returning alarm flags and the unit state. -/
  | statusWord
  /-- ALARM_SUMMARY (R337). Block Read returning digest bytes 16 to 31. -/
  | alarmSummary
  /-- UNIT_STATE (R337). Read Byte returning the unit state, answered locally when the field side is absent. -/
  | unitState
  /-- MAX_TEMP (R337). Read Word returning the overall temperature maximum and its channel. -/
  | maxTemp
  /-- GROUP_TEMPS (R337). Block Read returning the five group maxima. -/
  | groupTemps
  /-- STATION_STATUS (R337). Block Read returning 8 bytes of status per station. -/
  | stationStatus
  /-- MB_FAULT_CLEAR (R346). Management bus FAULT_CLEAR with a token acts as the all-stations FAULT_CLEAR unless the token repeats. -/
  | mbFaultClear (token : Byte) (pec : Option Byte)
  /-- PAGE_SEL_WRITE (R338). PAGE_SEL write sets the MBUS_WIN page, offset and read length. -/
  | pageSelWrite (data : List Byte) (pec : Option Byte)
  /-- PAGE_SEL_READ (R338). PAGE_SEL read returns the window settings. -/
  | pageSelRead
  /-- REG_DATA_READ (R339). REG_DATA read returns RLEN bytes from the window. -/
  | regDataRead
  /-- REG_DATA_WRITE (R340). REG_DATA write writes registers at the window, ignoring WO fields. -/
  | regDataWrite (data : List Byte) (pec : Option Byte)
  /-- EVENT_FETCH_WRITE (R342). EVENT_FETCH write sets MBUS_EVACK. -/
  | eventFetchWrite (data : List Byte) (pec : Option Byte)
  /-- EVENT_FETCH_READ (R343). EVENT_FETCH read returns the oldest event record following MBUS_EVACK. -/
  | eventFetchRead
  /-- HEARTBEAT (R773). Send Byte that counts as host activity. -/
  | heartbeat (pec : Option Byte)
  /-- SLEEP_REQ (R344). Write Byte acting as REQ_STANDBY or REQ_DEEP. -/
  | sleepReq (v : Byte) (pec : Option Byte)
  /-- IDENTITY (R337). Block Read of the Headstock-local identity registers. -/
  | identity
  /-- WAKE_PING (R336). Local Send Byte or Quick Command whose address match may assert WAKE. -/
  | wakePing (quick : Bool)
  /-- PUSH_START (R356). When push conditions hold, the block fetches the next enabled event record on CSTR 9. -/
  | pushStart
  /-- PUSH_TRANSACTION (R358). The fetched record is pushed to the target and MBUS_PUSH advances on full acknowledge, or the try fails. -/
  | pushTransaction (r : PushResult)
  /-- PUSH_BACKOFF_END (R360). The backoff after a failed try or lost arbitration ends and push conditions are re-checked. -/
  | pushBackoffEnd
  /-- POLL_EXPIRY (R356). The poll interval ends after a fetch found no record and push conditions are re-checked. -/
  | pollExpiry
  /-- DEEP_SLEEP_ENTERED (R150). The Deep sleep entry ends once PD7 to PD2 are off, after which a held power request or a WAKE proceeds. -/
  | deepSleepEntered
  /-- HS_CS_N_RISE (R297). HS_CS_N rises after the request's last byte but before a good response, ending the frame and leaving its duplicate-table entry PENDING. -/
  | hsCsNRise
  /-- TRAIN_FAIL (R74). Loopback calibration fails a second time in a row, setting TRAIN_FAIL and PG_STAT.FAULT, and start-up continues without the link. -/
  | trainFail
  /-- PLL_LOCKED (R94). The PLLs lock after PD2 powers up, Field Time starts counting from 0 and the replicas are loaded. -/
  | pllLocked
  /-- PLL_UNLOCK (R115). A PLL loses lock while running and the CLK page latches PG_EVT.PLL_UNLOCK. -/
  | pllUnlock (b : Bool)
  /-- SQC_IMAGE_VERIFIED (R375). The SQC image read from the active slot finishes verification at T6, so the SQC runs, or a failure causes a TRST with IMG_FAIL. -/
  | sqcImageVerified (ok : Bool)
  /-- EVENT_LOG_RESTORED (R135). At T7 the flushed event records are restored to stream 160, INDEX is continued and the register images are loaded. -/
  | eventLogRestored
  /-- STO_ENERGIZED (R676). An STO channel returns to the energized level, updating STO_STAT, ARM_BLOCK and the STO_DISC clearing condition. -/
  | stoEnergized (b : Bool)
  /-- ESTOP_N_HIGH (R665). ESTOP_N returns high, clearing ESTOP_ACT and ARM_BLOCK[2] and meeting the clear condition of the ESTOP latch. -/
  | estopNHigh
  /-- SUPPLY_VALID (R121). A failed field input returns between the low threshold and the overvoltage disconnect and counts as valid again, for example B_VALID setting. -/
  | supplyValid (b : Bool)
  /-- DIO_SUPPLY_LOW (R827). DIO_24V falls below 15 V, so every DIO output turns off and DIO_OSTAT.ON reads 0, or rises above it again. -/
  | dioSupplyLow (low : Bool)
  deriving DecidableEq, Repr

end Sys2Proof
end

