-- ==== Sys2Proof/Decode.lean ====
section
/-! DEFINITION. Commands from words: the table of steps gives none of its rows any bits, so no word spells a command. -/

namespace Sys2Proof

/-- The command that `nbits` bits `w` spell by the table of steps: none. -/
def decodeTableWord (_nbits _w : Nat) : Option Instr := none

end Sys2Proof
end

