-- ==== Sys2Proof/Config.lean ====
section
/-! DEFINITION. What the spec leaves free: opaque values with no body, so that no proof can lean on one of them. Each is applied
to the operands it depends on, or to the state's counter `fresh` for a new value each time. -/

namespace Sys2Proof.Config

/-- A reset pulse of HS_RST_N or MB_RST_N between 0.1 us and 1.0 us: whether it acts (08 R866). -/
opaque shortPulseResets : Nat → Bool

/-- The session identifier that SESSION_OPEN draws (23 R798). -/
opaque sessionId : Nat → Word

/-- The 16-byte nonce that SESSION_OPEN draws (23 R798), as a number. -/
opaque nonce : Nat → BitVec 128

/-- The encoder angle with FBP_CPR 0, where the quotient of 13 R511 has no value; of the angle before and the position. -/
opaque angleNoCpr : Nat → Int → BitVec 16

/-- The square root of 15 R565 where kc is 0 (FBP_CPR 0), of the distance. -/
opaque posNoScale : Int → Nat

/-- The speed of pulse counts where FBP_CPR is 0 (15 R574), of the counts. -/
opaque pulseNoCpr : Int → BitVec 16

/-- The ID of the member in a slot of a ring group in another unit, which no frame carries (16 R599, R605); of GID and slot. -/
opaque memberId : Nat → Nat → BitVec 6

/-- Whether an AON temperature comparator reads below its hold level at a Tailstock reset that another step causes (04 R144). -/
opaque coldAtReset : Nat → Bool

/-- VALUE of a housekeeping result whose quantity lies outside the range of its type (20 R704); of the channel and the quantity. -/
opaque hkOutOfRange : Nat → Int → BitVec 16

/-- The vendor session key K3 in OTP (23 R794). -/
opaque vendorKey : List (BitVec 8)

/-- Whether the OTP reads back as programmed (23 R793). -/
opaque otpMatches : Nat → Bool

/-- What PWR_VSUP measures (04 R156) in the given millisecond since the reset; VB above VA. -/
opaque supplyVolts : Nat → Word

/-- What CSA_IDLEMIN shows (07 R264) in the given 10 ms window since the reset; the bank above its idle fraction. -/
opaque idleMin : Nat → BitVec 11

/-- Whether a signature over a message is valid under the vendor's P-256 key in OTP (23 R807 step 4): message, signature. -/
opaque vendorSigOk : List (BitVec 8) → List (BitVec 8) → Bool

/-- Whether an ECDSA P-256 signature is valid (23 R807 step 5): public key, message, signature. -/
opaque ecdsaOk : List (BitVec 8) → List (BitVec 8) → List (BitVec 8) → Bool

/-- The clock pulse at which a target that holds SDA low lets go of it (09 R352), at the given Field Time. -/
opaque sdaPulses : Nat → Nat

end Sys2Proof.Config
end

