-- ==== Sys2Proof/Machine/Regs.lean ====
section
/-! DEFINITION. The register map: every field of every register page (spec/02 to spec/23, the field maps), with its place, access
type, reset value and the reset kinds that restore it; the page header of spec/05 R164 to R167; and the page map of R190.
A field is named as the spec writes it, REGISTER.FIELD; `n` is the station, `i` the index of a repeated register. -/

namespace Sys2Proof.Machine

/-- Access types of a register field (00 R11). -/
inductive Acc where
  | ro | rw | rwl | w1c | w1s | wo
  deriving DecidableEq, Repr

/-- The reset kinds that restore a field (the "Reset by" column of a field map; 00 R14). `trstPg` is "TRST, PGRST" and so on. -/
inductive RstBy where
  | never | pon | trst | trstPg | hrst | hrstPg | mbrst | mbrstPg
  deriving DecidableEq, Repr

/-- One field of one register: the register's address (page times 256 plus offset, 00 R8), its bit range, its access, its
reset value and what restores it. -/
structure Fd where
  addr : Nat
  hi : Nat
  lo : Nat
  acc : Acc
  rst : Nat
  rby : RstBy
  deriving DecidableEq, Repr

/-- Page of block `b` of station `n` (00 R9). -/
def stnPage (n b : Nat) : Nat := 0x40 + 0x10 * n + b

/-- Address of register `off` of page `p` (00 R8). -/
def regAddr (p off : Nat) : Nat := p * 256 + off

/-- The page map's ENABLE column (05 R190): true where PG_CTRL.ENABLE is fixed. -/
def enableFixed (p : Nat) : Bool :=
  if 0x40 ≤ p && p < 0x80 then (p % 16 == 0x9 || p % 16 == 0xA || p % 16 == 0xE)
  else !(p == 0x21 || p == 0x22 || p == 0x25 || p == 0x32 || p == 0x33 || p == 0x36 || p == 0x37 || p == 0x38)

/-- PG_LOCK.NEEDS_SESSION of the page map (05 R190). -/
def needsSession (p : Nat) : Bool :=
  p == 0x0A || p == 0x0B || p == 0x23 || p == 0x24 || p == 0x34 || p == 0x36 || (0x40 ≤ p && p < 0x80 && p % 16 == 0xE)

/-- PG_LOCK.LOCK_LEVEL of the page map (05 R190). -/
def lockLevel (p : Nat) : Nat :=
  if p == 0x0A || p == 0x0B then 2 else if needsSession p then 1 else 0

/-- Reserved pages (05 R159). -/
def reservedPage (p : Nat) : Bool :=
  (0x0C ≤ p && p ≤ 0x0F) || (0x26 ≤ p && p ≤ 0x2F) || (0x39 ≤ p && p ≤ 0x3F) || (0x80 ≤ p && p ≤ 0xEF)

/-- Vendor-test pages (05 R160). -/
def vendorPage (p : Nat) : Bool := 0xF0 ≤ p && p ≤ 0xFF

/-- PG_ID.TYPE of the page map (05 R190). -/
def pageType (p : Nat) : Nat :=
  if p < 0x10 then p + 1
  else if p < 0x20 then 0x10
  else if p < 0x40 then p
  else if p < 0x80 then 0x40 + p % 16
  else 0

/-- PG_ID.INSTANCE (05 R166). -/
def pageInstance (p : Nat) : Nat :=
  if 0x10 ≤ p && p < 0x20 then p - 0x10
  else if 0x40 ≤ p && p < 0x80 then (p - 0x40) / 16
  else 0

/-- The home reset of a page (05 R165), alone and together with PGRST. -/
def homeRst (p : Nat) : RstBy := if p == 1 then .hrst else if p == 2 then .mbrst else .trst
def homePgRst (p : Nat) : RstBy := if p == 1 then .hrstPg else if p == 2 then .mbrstPg else .trstPg

/-! ## The common header (05 R164): LOCKED, PG_SNAP and PG_CFGSUM are computed when read (`Tail.view`). -/

def PG_ID.TYPE (p : Nat) : Fd := ⟨p * 256 + 0x00, 31, 24, .ro, pageType p, .never⟩
def PG_ID.VERSION (p : Nat) : Fd := ⟨p * 256 + 0x00, 23, 16, .ro, 1, .never⟩
def PG_ID.INSTANCE (p : Nat) : Fd := ⟨p * 256 + 0x00, 15, 8, .ro, pageInstance p, .never⟩
def PG_ID.PAGE (p : Nat) : Fd := ⟨p * 256 + 0x00, 7, 0, .ro, p, .never⟩
def PG_CTRL.SRST (p : Nat) : Fd := ⟨p * 256 + 0x04, 1, 1, .w1s, 0, .never⟩
def PG_CTRL.ENABLE (p : Nat) : Fd := ⟨p * 256 + 0x04, 0, 0, (if enableFixed p then .ro else .rw), (if enableFixed p then 1 else 0), homePgRst p⟩
def PG_STAT.STALE (p : Nat) : Fd := ⟨p * 256 + 0x08, 5, 5, .ro, 0, homeRst p⟩
def PG_STAT.LOCKED (p : Nat) : Fd := ⟨p * 256 + 0x08, 4, 4, .ro, 0, homeRst p⟩
def PG_STAT.WARN (p : Nat) : Fd := ⟨p * 256 + 0x08, 3, 3, .ro, 0, homePgRst p⟩
def PG_STAT.FAULT (p : Nat) : Fd := ⟨p * 256 + 0x08, 2, 2, .ro, 0, homePgRst p⟩
def PG_STAT.BUSY (p : Nat) : Fd := ⟨p * 256 + 0x08, 1, 1, .ro, 0, homePgRst p⟩
def PG_STAT.READY (p : Nat) : Fd := ⟨p * 256 + 0x08, 0, 0, .ro, 0, homePgRst p⟩
def PG_EVT.EVT (p : Nat) : Fd := ⟨p * 256 + 0x0C, 31, 0, .w1c, 0, homePgRst p⟩
def PG_EVTEN.EN (p : Nat) : Fd := ⟨p * 256 + 0x10, 31, 0, .rw, 0, homePgRst p⟩
def PG_LOCK.HOLD (p : Nat) : Fd := ⟨p * 256 + 0x14, 8, 8, .rw, 0, homeRst p⟩
def PG_LOCK.LOCK_LEVEL (p : Nat) : Fd := ⟨p * 256 + 0x14, 3, 2, .ro, lockLevel p, .never⟩
def PG_LOCK.NEEDS_SESSION (p : Nat) : Fd := ⟨p * 256 + 0x14, 1, 1, .ro, (if needsSession p then 1 else 0), .never⟩
def PG_LOCK.LOCKED (p : Nat) : Fd := ⟨p * 256 + 0x14, 0, 0, .ro, 0, homeRst p⟩
def PG_SNAP.SNAP (p : Nat) : Fd := ⟨p * 256 + 0x18, 31, 0, .ro, 0, homeRst p⟩
def PG_CFGSUM.CFGSUM (p : Nat) : Fd := ⟨p * 256 + 0x1C, 31, 0, .ro, 0, homePgRst p⟩

/-- The header fields of page `p`. -/
def headerFields (p : Nat) : List Fd :=
  [PG_ID.TYPE p, PG_ID.VERSION p, PG_ID.INSTANCE p, PG_ID.PAGE p, PG_CTRL.SRST p, PG_CTRL.ENABLE p, PG_STAT.STALE p, PG_STAT.LOCKED p, PG_STAT.WARN p, PG_STAT.FAULT p, PG_STAT.BUSY p, PG_STAT.READY p, PG_EVT.EVT p, PG_EVTEN.EN p, PG_LOCK.HOLD p, PG_LOCK.LOCK_LEVEL p, PG_LOCK.NEEDS_SESSION p, PG_LOCK.LOCKED p, PG_SNAP.SNAP p, PG_CFGSUM.CFGSUM p]

/-- Reset values of the threshold registers of the five thermal groups (21 R759): entry `i` of a list, 0 beyond it. -/
def nth (l : List Nat) (i : Nat) : Nat := l.getD i 0

/-- Access of a descriptor field: the fields of the streams that the host cannot configure are RO (06 R204, R232). -/
def strdAcc (fixed : Bool) : Acc := if fixed then .ro else .rw

/-! ## DEV (spec/05_register_pages.md R189, spec/10_sequencer_and_operating_states.md R403) -/

def DEV_VARIANT.GRADE : Fd := ⟨0x0020, 11, 8, .ro, 0x1, .never⟩
def DEV_VARIANT.ORBIT : Fd := ⟨0x0020, 4, 4, .ro, 0, .never⟩
def DEV_VARIANT.STN_COUNT : Fd := ⟨0x0020, 3, 0, .ro, 0, .never⟩
def DEV_SERNO_LO.SERNO : Fd := ⟨0x0024, 31, 0, .ro, 0, .never⟩
def DEV_SERNO_HI.SERNO : Fd := ⟨0x0028, 31, 0, .ro, 0, .never⟩
def DEV_HWVER.MAJOR : Fd := ⟨0x002C, 15, 8, .ro, 0, .never⟩
def DEV_HWVER.MINOR : Fd := ⟨0x002C, 7, 0, .ro, 0, .never⟩
def DEV_STATE.PREV : Fd := ⟨0x0030, 15, 8, .ro, 0x0, .trst⟩
def DEV_STATE.STATE : Fd := ⟨0x0030, 7, 0, .ro, 0x1, .trst⟩
def DEV_RSTCAUSE.IMG_FAIL : Fd := ⟨0x0034, 7, 7, .w1c, 0x0, .pon⟩
def DEV_RSTCAUSE.HOST : Fd := ⟨0x0034, 6, 6, .w1c, 0x0, .pon⟩
def DEV_RSTCAUSE.STORE_CHECK : Fd := ⟨0x0034, 5, 5, .w1c, 0x0, .pon⟩
def DEV_RSTCAUSE.CLK_STOP : Fd := ⟨0x0034, 4, 4, .w1c, 0x0, .pon⟩
def DEV_RSTCAUSE.THERM : Fd := ⟨0x0034, 3, 3, .w1c, 0x0, .pon⟩
def DEV_RSTCAUSE.WDOG : Fd := ⟨0x0034, 2, 2, .w1c, 0x0, .pon⟩
def DEV_RSTCAUSE.FW_ACT : Fd := ⟨0x0034, 1, 1, .w1c, 0x0, .pon⟩
def DEV_RSTCAUSE.PON : Fd := ⟨0x0034, 0, 0, .w1c, 0x1, .pon⟩
def DEV_BOOTMS.MS : Fd := ⟨0x0038, 15, 0, .ro, 0x0, .trst⟩

/-- The block fields of page DEV. -/
def fields_DEV : List Fd :=
  [ DEV_VARIANT.GRADE, DEV_VARIANT.ORBIT, DEV_VARIANT.STN_COUNT, DEV_SERNO_LO.SERNO, DEV_SERNO_HI.SERNO, DEV_HWVER.MAJOR, DEV_HWVER.MINOR, DEV_STATE.PREV, DEV_STATE.STATE, DEV_RSTCAUSE.IMG_FAIL, DEV_RSTCAUSE.HOST, DEV_RSTCAUSE.STORE_CHECK, DEV_RSTCAUSE.CLK_STOP, DEV_RSTCAUSE.THERM, DEV_RSTCAUSE.WDOG, DEV_RSTCAUSE.FW_ACT, DEV_RSTCAUSE.PON, DEV_BOOTMS.MS]

/-! ## HSP (spec/08_host_serial_port.md R319) -/

def HSP_CFG.WAIT_MAX : Fd := ⟨0x0120, 12, 0, .rw, 0x100, .hrstPg⟩
def HSP_STAT.LAST_CH : Fd := ⟨0x0124, 26, 24, .ro, 0x0, .hrstPg⟩
def HSP_STAT.LAST_SEQ : Fd := ⟨0x0124, 23, 16, .ro, 0x0, .hrstPg⟩
def HSP_STAT.LAST_STATUS : Fd := ⟨0x0124, 15, 8, .ro, 0x0, .hrstPg⟩
def HSP_STAT.FIELD_READY : Fd := ⟨0x0124, 2, 2, .ro, 0x0, .hrst⟩
def HSP_STAT.FIELD_PRESENT : Fd := ⟨0x0124, 1, 1, .ro, 0x0, .hrst⟩
def HSP_STAT.HRST_SEEN : Fd := ⟨0x0124, 0, 0, .w1c, 0x1, .hrst⟩
def HSP_CTRL.DUP_CLR : Fd := ⟨0x0128, 15, 8, .wo, 0x0, .never⟩
def HSP_CTRL.CNT_CLR : Fd := ⟨0x0128, 0, 0, .wo, 0x0, .never⟩
def HSP_CNT_A.ABORTED : Fd := ⟨0x012C, 31, 16, .ro, 0x0, .hrstPg⟩
def HSP_CNT_A.FRAMES : Fd := ⟨0x012C, 15, 0, .ro, 0x0, .hrstPg⟩
def HSP_CNT_B.PCRC_ERR : Fd := ⟨0x0130, 31, 16, .ro, 0x0, .hrstPg⟩
def HSP_CNT_B.HCRC_ERR : Fd := ⟨0x0130, 15, 0, .ro, 0x0, .hrstPg⟩
def HSP_CNT_C.DUP : Fd := ⟨0x0134, 31, 16, .ro, 0x0, .hrstPg⟩
def HSP_CNT_C.TIMEOUT : Fd := ⟨0x0134, 15, 0, .ro, 0x0, .hrstPg⟩
def HSP_LNK.NAK_H_TX : Fd := ⟨0x0138, 31, 16, .ro, 0x0, .hrstPg⟩
def HSP_LNK.RSP_DISCARD : Fd := ⟨0x0138, 15, 0, .ro, 0x0, .hrstPg⟩
def HSP_CH.NEWEST_PENDING (i : Nat) : Fd := ⟨0x0140 + 4 * i, 12, 12, .ro, 0x0, .hrst⟩
def HSP_CH.ENTRIES (i : Nat) : Fd := ⟨0x0140 + 4 * i, 11, 8, .ro, 0x0, .hrst⟩
def HSP_CH.NEWEST_SEQ (i : Nat) : Fd := ⟨0x0140 + 4 * i, 7, 0, .ro, 0x0, .hrst⟩

/-- The block fields of page HSP. -/
def fields_HSP : List Fd :=
  [ HSP_CFG.WAIT_MAX, HSP_STAT.LAST_CH, HSP_STAT.LAST_SEQ, HSP_STAT.LAST_STATUS, HSP_STAT.FIELD_READY, HSP_STAT.FIELD_PRESENT, HSP_STAT.HRST_SEEN, HSP_CTRL.DUP_CLR, HSP_CTRL.CNT_CLR, HSP_CNT_A.ABORTED, HSP_CNT_A.FRAMES, HSP_CNT_B.PCRC_ERR, HSP_CNT_B.HCRC_ERR, HSP_CNT_C.DUP, HSP_CNT_C.TIMEOUT, HSP_LNK.NAK_H_TX, HSP_LNK.RSP_DISCARD]
  ++ (List.range 8).flatMap (fun i => [ HSP_CH.NEWEST_PENDING i, HSP_CH.ENTRIES i, HSP_CH.NEWEST_SEQ i])

/-! ## MBUS (spec/09_management_bus.md R363) -/

def MBUS_CFG.ADDR : Fd := ⟨0x0220, 14, 8, .ro, 0, .mbrst⟩
def MBUS_CFG.PEC_REQ : Fd := ⟨0x0220, 0, 0, .rw, 0x0, .mbrstPg⟩
def MBUS_STAT.MBRST_SEEN : Fd := ⟨0x0224, 18, 18, .w1c, 0x1, .mbrst⟩
def MBUS_STAT.SDA_TO : Fd := ⟨0x0224, 17, 17, .w1c, 0x0, .mbrstPg⟩
def MBUS_STAT.SCL_TO : Fd := ⟨0x0224, 16, 16, .w1c, 0x0, .mbrstPg⟩
def MBUS_STAT.LAST_RESULT : Fd := ⟨0x0224, 15, 8, .ro, 0x0, .mbrstPg⟩
def MBUS_STAT.LAST_CMD : Fd := ⟨0x0224, 7, 0, .ro, 0x0, .mbrstPg⟩
def MBUS_WIN.RLEN : Fd := ⟨0x0228, 23, 16, .rw, 0x4, .mbrstPg⟩
def MBUS_WIN.OFFSET : Fd := ⟨0x0228, 15, 8, .rw, 0x20, .mbrstPg⟩
def MBUS_WIN.PAGE : Fd := ⟨0x0228, 7, 0, .rw, 0x0, .mbrstPg⟩
def MBUS_EVACK.INDEX : Fd := ⟨0x022C, 31, 0, .rw, 0xFFFFFFFF, .mbrstPg⟩
def MBUS_CTLR.TARGET : Fd := ⟨0x0230, 14, 8, .rw, 0x0, .mbrstPg⟩
def MBUS_CTLR.POLL : Fd := ⟨0x0230, 4, 3, .rw, 0x1, .mbrstPg⟩
def MBUS_CTLR.SPEED : Fd := ⟨0x0230, 2, 1, .rw, 0x1, .mbrstPg⟩
def MBUS_CTLR.EN : Fd := ⟨0x0230, 0, 0, .rw, 0x0, .mbrstPg⟩
def MBUS_PUSH.INDEX : Fd := ⟨0x0234, 31, 0, .rw, 0xFFFFFFFF, .mbrstPg⟩
def MBUS_PSTAT.TRIES : Fd := ⟨0x0238, 27, 24, .ro, 0x0, .mbrstPg⟩
def MBUS_PSTAT.PUSH_STALLED : Fd := ⟨0x0238, 23, 23, .ro, 0x0, .mbrstPg⟩
def MBUS_PSTAT.ARB_LOST : Fd := ⟨0x0238, 22, 16, .ro, 0x0, .mbrstPg⟩
def MBUS_PSTAT.PUSHED : Fd := ⟨0x0238, 15, 0, .ro, 0x0, .mbrstPg⟩
def MBUS_CNT_A.NACKS : Fd := ⟨0x023C, 31, 16, .ro, 0x0, .mbrstPg⟩
def MBUS_CNT_A.CMDS : Fd := ⟨0x023C, 15, 0, .ro, 0x0, .mbrstPg⟩
def MBUS_CNT_B.TIMEOUTS : Fd := ⟨0x0240, 31, 16, .ro, 0x0, .mbrstPg⟩
def MBUS_CNT_B.PEC_ERR : Fd := ⟨0x0240, 15, 0, .ro, 0x0, .mbrstPg⟩

/-- The block fields of page MBUS. -/
def fields_MBUS : List Fd :=
  [ MBUS_CFG.ADDR, MBUS_CFG.PEC_REQ, MBUS_STAT.MBRST_SEEN, MBUS_STAT.SDA_TO, MBUS_STAT.SCL_TO, MBUS_STAT.LAST_RESULT, MBUS_STAT.LAST_CMD, MBUS_WIN.RLEN, MBUS_WIN.OFFSET, MBUS_WIN.PAGE, MBUS_EVACK.INDEX, MBUS_CTLR.TARGET, MBUS_CTLR.POLL, MBUS_CTLR.SPEED, MBUS_CTLR.EN, MBUS_PUSH.INDEX, MBUS_PSTAT.TRIES, MBUS_PSTAT.PUSH_STALLED, MBUS_PSTAT.ARB_LOST, MBUS_PSTAT.PUSHED, MBUS_CNT_A.NACKS, MBUS_CNT_A.CMDS, MBUS_CNT_B.TIMEOUTS, MBUS_CNT_B.PEC_ERR]

/-! ## BLNK (spec/02_barrier_and_varfen_link.md R88) -/

def BLNK_STAT.TRAIN_CNT : Fd := ⟨0x0320, 15, 8, .ro, 0x0, .trstPg⟩
def BLNK_STAT.TRAIN_FAIL : Fd := ⟨0x0320, 3, 3, .ro, 0x0, .trst⟩
def BLNK_STAT.WAKE_LVL : Fd := ⟨0x0320, 2, 2, .ro, 0x0, .trst⟩
def BLNK_STAT.HS_PRESENT : Fd := ⟨0x0320, 1, 1, .ro, 0x0, .trst⟩
def BLNK_STAT.LINK_RDY : Fd := ⟨0x0320, 0, 0, .ro, 0x0, .trst⟩
def BLNK_CTRL.CNT_CLR : Fd := ⟨0x0324, 1, 1, .wo, 0x0, .never⟩
def BLNK_CTRL.RETRAIN : Fd := ⟨0x0324, 0, 0, .wo, 0x0, .never⟩
def BLNK_ERR.RX_OTHER : Fd := ⟨0x0328, 31, 16, .ro, 0x0, .trstPg⟩
def BLNK_ERR.RX_CRC : Fd := ⟨0x0328, 15, 0, .ro, 0x0, .trstPg⟩
def BLNK_RETX.NAK_TX : Fd := ⟨0x032C, 31, 16, .ro, 0x0, .trstPg⟩
def BLNK_RETX.NAK_RX : Fd := ⟨0x032C, 15, 0, .ro, 0x0, .trstPg⟩
def BLNK_SEQ.SEQ_GAP : Fd := ⟨0x0330, 31, 16, .ro, 0x0, .trstPg⟩
def BLNK_SEQ.LAST_LSEQ : Fd := ⟨0x0330, 15, 0, .ro, 0x0, .trst⟩
def BLNK_UTIL.H2F_UTIL : Fd := ⟨0x0334, 15, 8, .ro, 0x0, .trstPg⟩
def BLNK_UTIL.F2H_UTIL : Fd := ⟨0x0334, 7, 0, .ro, 0x0, .trstPg⟩

/-- The block fields of page BLNK. -/
def fields_BLNK : List Fd :=
  [ BLNK_STAT.TRAIN_CNT, BLNK_STAT.TRAIN_FAIL, BLNK_STAT.WAKE_LVL, BLNK_STAT.HS_PRESENT, BLNK_STAT.LINK_RDY, BLNK_CTRL.CNT_CLR, BLNK_CTRL.RETRAIN, BLNK_ERR.RX_OTHER, BLNK_ERR.RX_CRC, BLNK_RETX.NAK_TX, BLNK_RETX.NAK_RX, BLNK_SEQ.SEQ_GAP, BLNK_SEQ.LAST_LSEQ, BLNK_UTIL.H2F_UTIL, BLNK_UTIL.F2H_UTIL]

/-! ## PWR (spec/04_supplies_and_power_domains.md R156) -/

def PWR_STAT.COLD_HOLD : Fd := ⟨0x0420, 12, 12, .ro, 0x0, .pon⟩
def PWR_STAT.PSTATE : Fd := ⟨0x0420, 11, 10, .ro, 0x1, .trst⟩
def PWR_STAT.RETAINED : Fd := ⟨0x0420, 9, 9, .ro, 0x0, .trst⟩
def PWR_STAT.UNSTABLE : Fd := ⟨0x0420, 8, 8, .ro, 0x0, .pon⟩
def PWR_STAT.B_VALID : Fd := ⟨0x0420, 7, 7, .ro, 0x0, .pon⟩
def PWR_STAT.A_VALID : Fd := ⟨0x0420, 6, 6, .ro, 0x0, .pon⟩
def PWR_STAT.HO_STATE : Fd := ⟨0x0420, 5, 3, .ro, 0x0, .pon⟩
def PWR_STAT.ON_B : Fd := ⟨0x0420, 0, 0, .ro, 0x0, .pon⟩
def PWR_CTRL.UNSTABLE_CLR : Fd := ⟨0x0424, 16, 16, .wo, 0x0, .never⟩
def PWR_CTRL.RETAIN : Fd := ⟨0x0424, 8, 8, .rw, 0x0, .trstPg⟩
def PWR_CTRL.REQ_DEEP : Fd := ⟨0x0424, 2, 2, .wo, 0x0, .never⟩
def PWR_CTRL.REQ_STANDBY : Fd := ⟨0x0424, 1, 1, .wo, 0x0, .never⟩
def PWR_CTRL.REQ_RUN : Fd := ⟨0x0424, 0, 0, .wo, 0x0, .never⟩
def PWR_HOCNT.ABORTS : Fd := ⟨0x0428, 31, 24, .ro, 0x0, .pon⟩
def PWR_HOCNT.WINDOW : Fd := ⟨0x0428, 19, 16, .ro, 0x0, .pon⟩
def PWR_HOCNT.TOTAL : Fd := ⟨0x0428, 15, 0, .ro, 0x0, .pon⟩
def PWR_VSUP.VB : Fd := ⟨0x042C, 31, 16, .ro, 0x0, .trst⟩
def PWR_VSUP.VA : Fd := ⟨0x042C, 15, 0, .ro, 0x0, .trst⟩
def PWR_DOM.ON : Fd := ⟨0x0430, 7, 0, .ro, 0x0, .never⟩
def PWR_LASTDN.FLUSH_OK : Fd := ⟨0x0434, 8, 8, .ro, 0x0, .never⟩
def PWR_LASTDN.CAUSE : Fd := ⟨0x0434, 7, 0, .ro, 0x0, .never⟩

/-- The block fields of page PWR. -/
def fields_PWR : List Fd :=
  [ PWR_STAT.COLD_HOLD, PWR_STAT.PSTATE, PWR_STAT.RETAINED, PWR_STAT.UNSTABLE, PWR_STAT.B_VALID, PWR_STAT.A_VALID, PWR_STAT.HO_STATE, PWR_STAT.ON_B, PWR_CTRL.UNSTABLE_CLR, PWR_CTRL.RETAIN, PWR_CTRL.REQ_DEEP, PWR_CTRL.REQ_STANDBY, PWR_CTRL.REQ_RUN, PWR_HOCNT.ABORTS, PWR_HOCNT.WINDOW, PWR_HOCNT.TOTAL, PWR_VSUP.VB, PWR_VSUP.VA, PWR_DOM.ON, PWR_LASTDN.FLUSH_OK, PWR_LASTDN.CAUSE]

/-! ## CLK (spec/03_clocks_and_crossings.md R116) -/

def CLK_STAT.RUN : Fd := ⟨0x0520, 15, 8, .ro, 0x0, .trst⟩
def CLK_STAT.PLLB_LOCK : Fd := ⟨0x0520, 1, 1, .ro, 0x0, .trst⟩
def CLK_STAT.PLLA_LOCK : Fd := ⟨0x0520, 0, 0, .ro, 0x0, .trst⟩
def CLK_STOP.CAUSE : Fd := ⟨0x0524, 7, 0, .w1c, 0x0, .pon⟩
def CLK_CDC.FIRST_ID : Fd := ⟨0x0528, 13, 8, .ro, 0x0, .trstPg⟩
def CLK_CDC.TO_COUNT : Fd := ⟨0x0528, 7, 0, .ro, 0x0, .trstPg⟩
def CLK_UNST_LO.ID : Fd := ⟨0x052C, 31, 0, .w1c, 0x0, .trstPg⟩
def CLK_UNST_HI.ID : Fd := ⟨0x0530, 15, 0, .w1c, 0x0, .trstPg⟩
def CLK_UNST_CNT.COUNT : Fd := ⟨0x0534, 15, 0, .ro, 0x0, .trstPg⟩
def CLK_FTCHK.SEQ_SLIP : Fd := ⟨0x0538, 23, 16, .ro, 0x0, .trstPg⟩
def CLK_FTCHK.FB_SLIP : Fd := ⟨0x0538, 15, 8, .ro, 0x0, .trstPg⟩
def CLK_FTCHK.CE_SLIP : Fd := ⟨0x0538, 7, 0, .ro, 0x0, .trstPg⟩

/-- The block fields of page CLK. -/
def fields_CLK : List Fd :=
  [ CLK_STAT.RUN, CLK_STAT.PLLB_LOCK, CLK_STAT.PLLA_LOCK, CLK_STOP.CAUSE, CLK_CDC.FIRST_ID, CLK_CDC.TO_COUNT, CLK_UNST_LO.ID, CLK_UNST_HI.ID, CLK_UNST_CNT.COUNT, CLK_FTCHK.SEQ_SLIP, CLK_FTCHK.FB_SLIP, CLK_FTCHK.CE_SLIP]

/-! ## CSG (spec/06_central_store_streams.md R229) -/

def CSG_STAT.INIT_DONE : Fd := ⟨0x0620, 0, 0, .ro, 0x0, .trst⟩
def CSG_USED.HIGH : Fd := ⟨0x0624, 27, 16, .ro, 0, .trst⟩
def CSG_USED.UNITS : Fd := ⟨0x0624, 11, 0, .ro, 0, .trst⟩
def CSG_SCMD.OP : Fd := ⟨0x0628, 9, 8, .wo, 0x0, .never⟩
def CSG_SCMD.STREAM : Fd := ⟨0x0628, 7, 0, .wo, 0x0, .never⟩
def CSG_REFUSE.VALID : Fd := ⟨0x062C, 16, 16, .ro, 0x0, .trstPg⟩
def CSG_REFUSE.OTHER : Fd := ⟨0x062C, 15, 8, .ro, 0x0, .trstPg⟩
def CSG_REFUSE.STREAM : Fd := ⟨0x062C, 7, 0, .ro, 0x0, .trstPg⟩

/-- The block fields of page CSG. -/
def fields_CSG : List Fd :=
  [ CSG_STAT.INIT_DONE, CSG_USED.HIGH, CSG_USED.UNITS, CSG_SCMD.OP, CSG_SCMD.STREAM, CSG_REFUSE.VALID, CSG_REFUSE.OTHER, CSG_REFUSE.STREAM]

/-! ## CSA (spec/07_central_store_arbitration_integrity.md R267) -/

def CSA_CTRL.PERIOD : Fd := ⟨0x0720, 15, 8, .rw, 0x8, .trstPg⟩
def CSA_CTRL.SCRUB_EN : Fd := ⟨0x0720, 0, 0, .rw, 0x1, .trstPg⟩
def CSA_WRR.W7 : Fd := ⟨0x0724, 31, 28, .rw, 0xF, .trstPg⟩
def CSA_WRR.W6 : Fd := ⟨0x0724, 27, 24, .rw, 0x8, .trstPg⟩
def CSA_WRR.W5 : Fd := ⟨0x0724, 23, 20, .rw, 0x8, .trstPg⟩
def CSA_WRR.W4 : Fd := ⟨0x0724, 19, 16, .rw, 0x4, .trstPg⟩
def CSA_WRR.W3 : Fd := ⟨0x0724, 15, 12, .rw, 0x4, .trstPg⟩
def CSA_WRR.W2 : Fd := ⟨0x0724, 11, 8, .rw, 0x2, .trstPg⟩
def CSA_WRR.W1 : Fd := ⟨0x0724, 7, 4, .rw, 0x1, .trstPg⟩
def CSA_WRR.W0 : Fd := ⟨0x0724, 3, 0, .rw, 0x1, .trstPg⟩
def CSA_SCRUB_STAT.PASS_CNT : Fd := ⟨0x0728, 31, 16, .ro, 0x0, .trst⟩
def CSA_SCRUB_STAT.PROGRESS : Fd := ⟨0x0728, 15, 0, .ro, 0x0, .trst⟩
def CSA_SCRUB_TIME.MAX_PASS : Fd := ⟨0x072C, 31, 16, .ro, 0x0, .trstPg⟩
def CSA_SCRUB_TIME.LAST_PASS : Fd := ⟨0x072C, 15, 0, .ro, 0x0, .trst⟩
def CSA_SKIP.BANKS : Fd := ⟨0x0730, 23, 16, .w1c, 0x0, .trstPg⟩
def CSA_SKIP.COUNT : Fd := ⟨0x0730, 15, 0, .ro, 0x0, .trstPg⟩
def CSA_CORR.WB_DROP : Fd := ⟨0x0734, 31, 24, .ro, 0x0, .trstPg⟩
def CSA_CORR.COUNT : Fd := ⟨0x0734, 23, 0, .ro, 0x0, .trstPg⟩
def CSA_UNCORR.POISON_RD : Fd := ⟨0x0738, 31, 16, .ro, 0x0, .trstPg⟩
def CSA_UNCORR.DETECT : Fd := ⟨0x0738, 15, 0, .ro, 0x0, .trstPg⟩
def CSA_ELOG.SYND : Fd := ⟨0x073C, 31, 24, .ro, 0x0, .trstPg⟩
def CSA_ELOG.TYPE : Fd := ⟨0x073C, 22, 21, .ro, 0x0, .trstPg⟩
def CSA_ELOG.ADDR : Fd := ⟨0x073C, 20, 0, .ro, 0x0, .trstPg⟩
def CSA_INJ.MODE : Fd := ⟨0x0740, 31, 30, .wo, 0x0, .never⟩
def CSA_INJ.BIT : Fd := ⟨0x0740, 29, 24, .wo, 0x0, .never⟩
def CSA_INJ.ADDR : Fd := ⟨0x0740, 20, 0, .wo, 0x0, .never⟩
def CSA_IDLEMIN.BANK : Fd := ⟨0x0744, 10, 8, .ro, 0x0, .trst⟩
def CSA_IDLEMIN.IDLE : Fd := ⟨0x0744, 7, 0, .ro, 0xFF, .trst⟩

/-- The block fields of page CSA. -/
def fields_CSA : List Fd :=
  [ CSA_CTRL.PERIOD, CSA_CTRL.SCRUB_EN, CSA_WRR.W7, CSA_WRR.W6, CSA_WRR.W5, CSA_WRR.W4, CSA_WRR.W3, CSA_WRR.W2, CSA_WRR.W1, CSA_WRR.W0, CSA_SCRUB_STAT.PASS_CNT, CSA_SCRUB_STAT.PROGRESS, CSA_SCRUB_TIME.MAX_PASS, CSA_SCRUB_TIME.LAST_PASS, CSA_SKIP.BANKS, CSA_SKIP.COUNT, CSA_CORR.WB_DROP, CSA_CORR.COUNT, CSA_UNCORR.POISON_RD, CSA_UNCORR.DETECT, CSA_ELOG.SYND, CSA_ELOG.TYPE, CSA_ELOG.ADDR, CSA_INJ.MODE, CSA_INJ.BIT, CSA_INJ.ADDR, CSA_IDLEMIN.BANK, CSA_IDLEMIN.IDLE]

/-! ## TIME (spec/03_clocks_and_crossings.md R117) -/

def TIME_FT_LO.FT : Fd := ⟨0x0820, 31, 0, .ro, 0x0, .trst⟩
def TIME_FT_HI.FT : Fd := ⟨0x0824, 31, 0, .ro, 0x0, .trst⟩
def TIME_EPOCH.EPOCH : Fd := ⟨0x0828, 31, 0, .ro, 0x0, .pon⟩
def TIME_STAT.BRIDGED : Fd := ⟨0x082C, 0, 0, .w1c, 0x0, .trstPg⟩

/-- The block fields of page TIME. -/
def fields_TIME : List Fd :=
  [ TIME_FT_LO.FT, TIME_FT_HI.FT, TIME_EPOCH.EPOCH, TIME_STAT.BRIDGED]

/-! ## EVT (spec/06_central_store_streams.md R227) -/

def EVT_NEWEST.INDEX : Fd := ⟨0x0920, 31, 0, .ro, 0xFFFFFFFF, .trst⟩
def EVT_OLDEST.INDEX : Fd := ⟨0x0924, 31, 0, .ro, 0xFFFFFFFF, .trst⟩
def EVT_STAT.RESTORED : Fd := ⟨0x0928, 7, 0, .ro, 0x0, .trst⟩

/-- The block fields of page EVT. -/
def fields_EVT : List Fd :=
  [ EVT_NEWEST.INDEX, EVT_OLDEST.INDEX, EVT_STAT.RESTORED]

/-! ## SEC (spec/23_security_and_firmware.md R818) -/

def SEC_STAT.FAILS : Fd := ⟨0x0A20, 15, 12, .ro, 0x0, .pon⟩
def SEC_STAT.COSIGN : Fd := ⟨0x0A20, 10, 10, .ro, 0, .never⟩
def SEC_STAT.LOCKOUT : Fd := ⟨0x0A20, 9, 9, .ro, 0x0, .pon⟩
def SEC_STAT.PENDING : Fd := ⟨0x0A20, 8, 8, .ro, 0x0, .trst⟩
def SEC_STAT.LEVEL : Fd := ⟨0x0A20, 6, 5, .ro, 0x0, .trst⟩
def SEC_STAT.OPEN : Fd := ⟨0x0A20, 4, 4, .ro, 0x0, .trst⟩
def SEC_STAT.KEY_STATE : Fd := ⟨0x0A20, 1, 0, .ro, 0, .never⟩
def SEC_SID.SID : Fd := ⟨0x0A24, 31, 0, .ro, 0x0, .trst⟩
def SEC_CFG.LIFE : Fd := ⟨0x0A28, 31, 16, .rwl, 0x1E0, .trstPg⟩
def SEC_CFG.IDLE : Fd := ⟨0x0A28, 15, 0, .rwl, 0x12C, .trstPg⟩
def SEC_LEFT.LIFE_LEFT : Fd := ⟨0x0A2C, 31, 16, .ro, 0x0, .trst⟩
def SEC_LEFT.IDLE_LEFT : Fd := ⟨0x0A2C, 15, 0, .ro, 0x0, .trst⟩
def SEC_CNT.FAILS_TOT : Fd := ⟨0x0A30, 31, 16, .ro, 0x0, .trstPg⟩
def SEC_CNT.OPENS : Fd := ⟨0x0A30, 15, 0, .ro, 0x0, .trstPg⟩
def SEC_KEYW.KEY (i : Nat) : Fd := ⟨0x0A40 + 4 * i, 31, 0, .wo, 0x0, .trstPg⟩
def SEC_CMD.PROGCS : Fd := ⟨0x0A60, 1, 1, .wo, 0x0, .never⟩
def SEC_CMD.PROG : Fd := ⟨0x0A60, 0, 0, .wo, 0x0, .never⟩
def SEC_KCHK.KCHK : Fd := ⟨0x0A64, 31, 0, .wo, 0x0, .trstPg⟩

/-- The block fields of page SEC. -/
def fields_SEC : List Fd :=
  [ SEC_STAT.FAILS, SEC_STAT.COSIGN, SEC_STAT.LOCKOUT, SEC_STAT.PENDING, SEC_STAT.LEVEL, SEC_STAT.OPEN, SEC_STAT.KEY_STATE, SEC_SID.SID, SEC_CFG.LIFE, SEC_CFG.IDLE, SEC_LEFT.LIFE_LEFT, SEC_LEFT.IDLE_LEFT, SEC_CNT.FAILS_TOT, SEC_CNT.OPENS]
  ++ (List.range 8).flatMap (fun i => [ SEC_KEYW.KEY i])
  ++ [ SEC_CMD.PROGCS, SEC_CMD.PROG, SEC_KCHK.KCHK]

/-! ## FW (spec/23_security_and_firmware.md R818) -/

def FW_STAT.BOOTFAIL : Fd := ⟨0x0B20, 17, 16, .ro, 0x0, .pon⟩
def FW_STAT.RECOVERY : Fd := ⟨0x0B20, 13, 13, .ro, 0x0, .trst⟩
def FW_STAT.FALLBACK : Fd := ⟨0x0B20, 12, 12, .ro, 0x0, .trst⟩
def FW_STAT.CAUSE : Fd := ⟨0x0B20, 11, 8, .ro, 0x0, .trst⟩
def FW_STAT.LOAD_STATE : Fd := ⟨0x0B20, 6, 4, .ro, 0x0, .trst⟩
def FW_STAT.NEXT : Fd := ⟨0x0B20, 1, 1, .ro, 0, .never⟩
def FW_STAT.BOOTED : Fd := ⟨0x0B20, 0, 0, .ro, 0, .never⟩
def FW_SLOT.VERSION (i : Nat) : Fd := ⟨0x0B24 + 4 * i, 31, 16, .ro, 0, .never⟩
def FW_SLOT.ARC (i : Nat) : Fd := ⟨0x0B24 + 4 * i, 13, 8, .ro, 0, .never⟩
def FW_SLOT.STATE (i : Nat) : Fd := ⟨0x0B24 + 4 * i, 2, 0, .ro, 0, .never⟩
def FW_ARC.OTP : Fd := ⟨0x0B2C, 5, 0, .ro, 0, .never⟩
def FW_LOAD.NEXT : Fd := ⟨0x0B30, 21, 0, .ro, 0x0, .trst⟩
def FW_CMD.CANCEL : Fd := ⟨0x0B34, 3, 3, .wo, 0x0, .never⟩
def FW_CMD.CONFIRM : Fd := ⟨0x0B34, 2, 2, .wo, 0x0, .never⟩
def FW_CMD.COMMIT : Fd := ⟨0x0B34, 1, 1, .wo, 0x0, .never⟩
def FW_CMD.BEGIN : Fd := ⟨0x0B34, 0, 0, .wo, 0x0, .never⟩

/-- The block fields of page FW. -/
def fields_FW : List Fd :=
  [ FW_STAT.BOOTFAIL, FW_STAT.RECOVERY, FW_STAT.FALLBACK, FW_STAT.CAUSE, FW_STAT.LOAD_STATE, FW_STAT.NEXT, FW_STAT.BOOTED]
  ++ (List.range 2).flatMap (fun i => [ FW_SLOT.VERSION i, FW_SLOT.ARC i, FW_SLOT.STATE i])
  ++ [ FW_ARC.OTP, FW_LOAD.NEXT, FW_CMD.CANCEL, FW_CMD.CONFIRM, FW_CMD.COMMIT, FW_CMD.BEGIN]

/-! ## STRD (spec/06_central_store_streams.md R233) -/

def STRD_CFG.SYNCREQ (k : Nat) : Fd := ⟨0x1000 + (k / 16) * 256 + 0x20 + 12 * (k % 16), 30, 30, .ro, 0x1, .trstPg⟩
def STRD_CFG.WMHIGH (k : Nat) : Fd := ⟨0x1000 + (k / 16) * 256 + 0x20 + 12 * (k % 16), 29, 29, .ro, 0x0, .trstPg⟩
def STRD_CFG.EN (k : Nat) : Fd := ⟨0x1000 + (k / 16) * 256 + 0x20 + 12 * (k % 16), 28, 28, strdAcc (160 ≤ k && k < 192), 0, .trstPg⟩
def STRD_CFG.QUOTA (k : Nat) : Fd := ⟨0x1000 + (k / 16) * 256 + 0x20 + 12 * (k % 16), 27, 22, strdAcc (160 ≤ k && k < 192), 0, .trstPg⟩
def STRD_CFG.PRIO (k : Nat) : Fd := ⟨0x1000 + (k / 16) * 256 + 0x20 + 12 * (k % 16), 21, 19, strdAcc (160 ≤ k && k < 192), 0, .trstPg⟩
def STRD_CFG.POLICY (k : Nat) : Fd := ⟨0x1000 + (k / 16) * 256 + 0x20 + 12 * (k % 16), 18, 17, strdAcc (160 ≤ k && k < 192), 0, .trstPg⟩
def STRD_CFG.SIZE_LOG2 (k : Nat) : Fd := ⟨0x1000 + (k / 16) * 256 + 0x20 + 12 * (k % 16), 16, 12, strdAcc (160 ≤ k && k < 192), 0, .trstPg⟩
def STRD_CFG.BASE (k : Nat) : Fd := ⟨0x1000 + (k / 16) * 256 + 0x20 + 12 * (k % 16), 11, 0, strdAcc (160 ≤ k && k < 192), 0, .trstPg⟩
def STRD_LVL.FILL (k : Nat) : Fd := ⟨0x1000 + (k / 16) * 256 + 0x24 + 12 * (k % 16), 31, 16, .ro, 0x0, .trstPg⟩
def STRD_LVL.WATERMARK (k : Nat) : Fd := ⟨0x1000 + (k / 16) * 256 + 0x24 + 12 * (k % 16), 15, 0, .rw, 0x0, .trstPg⟩
def STRD_SEQ.SEQ (k : Nat) : Fd := ⟨0x1000 + (k / 16) * 256 + 0x28 + 12 * (k % 16), 31, 0, .ro, 0x0, .trst⟩
def STRD_LOST.LOST_ODD (k : Nat) : Fd := ⟨0x1000 + (k / 8) * 256 + 0xE0 + 4 * (k % 8), 31, 16, .ro, 0x0, .trstPg⟩
def STRD_LOST.LOST_EVEN (k : Nat) : Fd := ⟨0x1000 + (k / 8) * 256 + 0xE0 + 4 * (k % 8), 15, 0, .ro, 0x0, .trstPg⟩

/-- The block fields of a page STRD `p`. -/
def fields_STRD (p : Nat) : List Fd :=
  (List.range 16).flatMap (fun j => let k := (p - 0x10) * 16 + j
    [STRD_CFG.SYNCREQ k, STRD_CFG.WMHIGH k, STRD_CFG.EN k, STRD_CFG.QUOTA k, STRD_CFG.PRIO k, STRD_CFG.POLICY k, STRD_CFG.SIZE_LOG2 k, STRD_CFG.BASE k, STRD_LVL.FILL k, STRD_LVL.WATERMARK k, STRD_SEQ.SEQ k])
  ++ (List.range 8).flatMap (fun j => let k := (p - 0x10) * 8 + j
    [STRD_LOST.LOST_ODD k, STRD_LOST.LOST_EVEN k])

/-! ## SEQ (spec/10_sequencer_and_operating_states.md R404) -/

def SEQ_STAT.ARM_BLOCK : Fd := ⟨0x2020, 20, 16, .ro, 0x0, .trst⟩
def SEQ_STAT.PREV_STATE : Fd := ⟨0x2020, 15, 8, .ro, 0x0, .trst⟩
def SEQ_STAT.UNIT_STATE : Fd := ⟨0x2020, 7, 0, .ro, 0x1, .trst⟩
def SEQ_CMD.DISARM : Fd := ⟨0x2024, 1, 1, .wo, 0x0, .never⟩
def SEQ_CMD.ARM : Fd := ⟨0x2024, 0, 0, .wo, 0x0, .never⟩
def SEQ_RESET.KEY : Fd := ⟨0x2028, 31, 16, .wo, 0x0, .never⟩
def SEQ_RESET.EPOCH : Fd := ⟨0x2028, 15, 0, .wo, 0x0, .never⟩
def SEQ_CNT.ARM_REFUSED : Fd := ⟨0x202C, 31, 16, .ro, 0x0, .trstPg⟩
def SEQ_CNT.ARMS : Fd := ⟨0x202C, 15, 0, .ro, 0x0, .trstPg⟩
def SEQ_BG.PREEMPT : Fd := ⟨0x2030, 31, 16, .ro, 0x0, .trstPg⟩
def SEQ_BG.ACTIVE : Fd := ⟨0x2030, 15, 0, .ro, 0x0, .trstPg⟩

/-- The block fields of page SEQ. -/
def fields_SEQ : List Fd :=
  [ SEQ_STAT.ARM_BLOCK, SEQ_STAT.PREV_STATE, SEQ_STAT.UNIT_STATE, SEQ_CMD.DISARM, SEQ_CMD.ARM, SEQ_RESET.KEY, SEQ_RESET.EPOCH, SEQ_CNT.ARM_REFUSED, SEQ_CNT.ARMS, SEQ_BG.PREEMPT, SEQ_BG.ACTIVE]

/-! ## PCHG (spec/10_sequencer_and_operating_states.md R406) -/

def PCHG_GCFG.RETRIES (i : Nat) : Fd := ⟨0x2120 + 32 * i, 15, 14, .rw, 0x0, .trstPg⟩
def PCHG_GCFG.LINKLOSS (i : Nat) : Fd := ⟨0x2120 + 32 * i, 12, 12, .rw, 0x0, .trstPg⟩
def PCHG_GCFG.VSRC (i : Nat) : Fd := ⟨0x2120 + 32 * i, 9, 8, .rw, 0x0, .trstPg⟩
def PCHG_GCFG.STN_MASK (i : Nat) : Fd := ⟨0x2120 + 32 * i, 7, 4, .rw, 0x0, .trstPg⟩
def PCHG_GCFG.MODE (i : Nat) : Fd := ⟨0x2120 + 32 * i, 1, 0, .rw, 0x0, .trstPg⟩
def PCHG_GTHR.VSAFE (i : Nat) : Fd := ⟨0x2124 + 32 * i, 31, 16, .rw, 0x0, .trstPg⟩
def PCHG_GTHR.VDONE (i : Nat) : Fd := ⟨0x2124 + 32 * i, 15, 0, .rw, 0x0, .trstPg⟩
def PCHG_GDVDT.DVDT_MAX (i : Nat) : Fd := ⟨0x2128 + 32 * i, 31, 16, .rw, 0x0, .trstPg⟩
def PCHG_GDVDT.DVDT_MIN (i : Nat) : Fd := ⟨0x2128 + 32 * i, 15, 0, .rw, 0x0, .trstPg⟩
def PCHG_GTIME.RETRY_WAIT (i : Nat) : Fd := ⟨0x212C + 32 * i, 31, 24, .rw, 0x0, .trstPg⟩
def PCHG_GTIME.BLANK (i : Nat) : Fd := ⟨0x212C + 32 * i, 23, 16, .rw, 0x0, .trstPg⟩
def PCHG_GTIME.TMAX (i : Nat) : Fd := ⟨0x212C + 32 * i, 15, 0, .rw, 0x0, .trstPg⟩
def PCHG_GSTAT.VLINK (i : Nat) : Fd := ⟨0x2130 + 32 * i, 31, 16, .ro, 0x0, .trst⟩
def PCHG_GSTAT.CAUSE (i : Nat) : Fd := ⟨0x2130 + 32 * i, 7, 4, .ro, 0x0, .trstPg⟩
def PCHG_GSTAT.STATE (i : Nat) : Fd := ⟨0x2130 + 32 * i, 3, 0, .ro, 0x0, .trstPg⟩
def PCHG_CMD.DISCHARGE : Fd := ⟨0x2160, 5, 4, .wo, 0x0, .never⟩
def PCHG_CMD.CHARGE : Fd := ⟨0x2160, 1, 0, .wo, 0x0, .never⟩

/-- The block fields of page PCHG. -/
def fields_PCHG : List Fd :=
  (List.range 2).flatMap (fun i => [ PCHG_GCFG.RETRIES i, PCHG_GCFG.LINKLOSS i, PCHG_GCFG.VSRC i, PCHG_GCFG.STN_MASK i, PCHG_GCFG.MODE i])
  ++ (List.range 2).flatMap (fun i => [ PCHG_GTHR.VSAFE i, PCHG_GTHR.VDONE i])
  ++ (List.range 2).flatMap (fun i => [ PCHG_GDVDT.DVDT_MAX i, PCHG_GDVDT.DVDT_MIN i])
  ++ (List.range 2).flatMap (fun i => [ PCHG_GTIME.RETRY_WAIT i, PCHG_GTIME.BLANK i, PCHG_GTIME.TMAX i])
  ++ (List.range 2).flatMap (fun i => [ PCHG_GSTAT.VLINK i, PCHG_GSTAT.CAUSE i, PCHG_GSTAT.STATE i])
  ++ [ PCHG_CMD.DISCHARGE, PCHG_CMD.CHARGE]

/-! ## DIO (spec/10_sequencer_and_operating_states.md R407) -/

def DIO_IN.IN : Fd := ⟨0x2220, 11, 0, .ro, 0x0, .trst⟩
def DIO_OUT.OUT : Fd := ⟨0x2224, 7, 0, .rw, 0x0, .trstPg⟩
def DIO_OSTAT.OVL : Fd := ⟨0x2228, 15, 8, .w1c, 0x0, .trstPg⟩
def DIO_OSTAT.ON : Fd := ⟨0x2228, 7, 0, .ro, 0x0, .trst⟩
def DIO_OCFG.T_AUX (i : Nat) : Fd := ⟨0x222C + 4 * i, 23, 16, .rw, 0xA, .trstPg⟩
def DIO_OCFG.AUX_POL (i : Nat) : Fd := ⟨0x222C + 4 * i, 8, 8, .rw, 0x0, .trstPg⟩
def DIO_OCFG.AUX_EN (i : Nat) : Fd := ⟨0x222C + 4 * i, 7, 7, .rw, 0x0, .trstPg⟩
def DIO_OCFG.AUX_IN (i : Nat) : Fd := ⟨0x222C + 4 * i, 6, 4, .rw, 0x0, .trstPg⟩
def DIO_OCFG.FUNC (i : Nat) : Fd := ⟨0x222C + 4 * i, 3, 0, .rw, 0x0, .trstPg⟩
def DIO_IFILT.DEB : Fd := ⟨0x224C, 7, 0, .rw, 0x5, .trstPg⟩

/-- The block fields of page DIO. -/
def fields_DIO : List Fd :=
  [ DIO_IN.IN, DIO_OUT.OUT, DIO_OSTAT.OVL, DIO_OSTAT.ON]
  ++ (List.range 8).flatMap (fun i => [ DIO_OCFG.T_AUX i, DIO_OCFG.AUX_POL i, DIO_OCFG.AUX_EN i, DIO_OCFG.AUX_IN i, DIO_OCFG.FUNC i])
  ++ [ DIO_IFILT.DEB]

/-! ## STO (spec/18_protection_and_fault_reactions.md R685) -/

def STO_CFG.ETMAX : Fd := ⟨0x2320, 31, 16, .rwl, 0x2710, .trstPg⟩
def STO_CFG.TDISC : Fd := ⟨0x2320, 15, 8, .rwl, 0xA, .trstPg⟩
def STO_CFG.ECAT : Fd := ⟨0x2320, 4, 4, .rwl, 0x0, .trstPg⟩
def STO_CFG.TPF : Fd := ⟨0x2320, 1, 0, .rwl, 0x0, .trstPg⟩
def STO_STAT.DIAG_FAIL : Fd := ⟨0x2324, 9, 9, .ro, 0x0, .trst⟩
def STO_STAT.STO_DISC : Fd := ⟨0x2324, 8, 8, .ro, 0x0, .trst⟩
def STO_STAT.ESTOP_ACT : Fd := ⟨0x2324, 4, 4, .ro, 0x0, .trst⟩
def STO_STAT.STO_ACT : Fd := ⟨0x2324, 3, 3, .ro, 0x0, .trst⟩
def STO_STAT.ESTOP_N : Fd := ⟨0x2324, 2, 2, .ro, 0x0, .trst⟩
def STO_STAT.STO_B : Fd := ⟨0x2324, 1, 1, .ro, 0x0, .trst⟩
def STO_STAT.STO_A : Fd := ⟨0x2324, 0, 0, .ro, 0x0, .trst⟩
def STO_CNT.DISC : Fd := ⟨0x2328, 31, 16, .ro, 0x0, .trstPg⟩
def STO_CNT.DEMANDS : Fd := ⟨0x2328, 15, 0, .ro, 0x0, .trstPg⟩
def STO_TPCNT.PULSES : Fd := ⟨0x232C, 15, 0, .ro, 0x0, .trstPg⟩

/-- The block fields of page STO. -/
def fields_STO : List Fd :=
  [ STO_CFG.ETMAX, STO_CFG.TDISC, STO_CFG.ECAT, STO_CFG.TPF, STO_STAT.DIAG_FAIL, STO_STAT.STO_DISC, STO_STAT.ESTOP_ACT, STO_STAT.STO_ACT, STO_STAT.ESTOP_N, STO_STAT.STO_B, STO_STAT.STO_A, STO_CNT.DISC, STO_CNT.DEMANDS, STO_TPCNT.PULSES]

/-! ## EMG (spec/22_emergency_modes_and_lost_host.md R789) -/

def EMG_CFG.HB_PERIOD : Fd := ⟨0x2420, 25, 16, .rwl, 0x14, .trstPg⟩
def EMG_CFG.RESUME : Fd := ⟨0x2420, 8, 8, .rwl, 0x0, .trstPg⟩
def EMG_CFG.FAST : Fd := ⟨0x2420, 4, 4, .rwl, 0x0, .trstPg⟩
def EMG_POL.LEV_EN3 : Fd := ⟨0x2424, 15, 15, .rwl, 0x0, .trstPg⟩
def EMG_POL.POL3 : Fd := ⟨0x2424, 14, 12, .rwl, 0x0, .trstPg⟩
def EMG_POL.LEV_EN2 : Fd := ⟨0x2424, 11, 11, .rwl, 0x0, .trstPg⟩
def EMG_POL.POL2 : Fd := ⟨0x2424, 10, 8, .rwl, 0x0, .trstPg⟩
def EMG_POL.LEV_EN1 : Fd := ⟨0x2424, 7, 7, .rwl, 0x0, .trstPg⟩
def EMG_POL.POL1 : Fd := ⟨0x2424, 6, 4, .rwl, 0x0, .trstPg⟩
def EMG_POL.LEV_EN0 : Fd := ⟨0x2424, 3, 3, .rwl, 0x0, .trstPg⟩
def EMG_POL.POL0 : Fd := ⟨0x2424, 2, 0, .rwl, 0x0, .trstPg⟩
def EMG_LEVCFG.DISC : Fd := ⟨0x2428, 31, 16, .rwl, 0x666, .trstPg⟩
def EMG_LEVCFG.TDISC : Fd := ⟨0x2428, 15, 8, .rwl, 0xA, .trstPg⟩
def EMG_LEVCFG.AIN_B : Fd := ⟨0x2428, 6, 4, .rwl, 0x1, .trstPg⟩
def EMG_LEVCFG.AIN_A : Fd := ⟨0x2428, 2, 0, .rwl, 0x0, .trstPg⟩
def EMG_LEVGAIN.GAIN : Fd := ⟨0x242C, 19, 0, .rwl, 0x14000, .trstPg⟩
def EMG_LEVLIM.NEUTRAL : Fd := ⟨0x2430, 30, 16, .rwl, 0x148, .trstPg⟩
def EMG_LEVLIM.LIM : Fd := ⟨0x2430, 14, 0, .rwl, 0x7FFF, .trstPg⟩
def EMG_LEVSLEW.SLEW : Fd := ⟨0x2434, 23, 0, .rwl, 0x0, .trstPg⟩
def EMG_C1.TMON : Fd := ⟨0x2438, 15, 0, .rwl, 0x2710, .trstPg⟩
def EMG_CMD.RELEASE : Fd := ⟨0x243C, 11, 8, .wo, 0x0, .never⟩
def EMG_CMD.STOP : Fd := ⟨0x243C, 7, 4, .wo, 0x0, .never⟩
def EMG_CMD.CAT : Fd := ⟨0x243C, 1, 0, .wo, 0x0, .never⟩
def EMG_STAT.SINCE : Fd := ⟨0x2440, 31, 16, .ro, 0xFFFF, .trst⟩
def EMG_STAT.EMERG : Fd := ⟨0x2440, 15, 12, .ro, 0x0, .trst⟩
def EMG_STAT.LEVER : Fd := ⟨0x2440, 11, 8, .ro, 0x0, .trst⟩
def EMG_STAT.C2_HOLD : Fd := ⟨0x2440, 7, 4, .ro, 0x0, .trst⟩
def EMG_STAT.LEV_DISC : Fd := ⟨0x2440, 3, 3, .ro, 0x0, .trstPg⟩
def EMG_STAT.LEVER_SEL : Fd := ⟨0x2440, 2, 2, .ro, 0x0, .trst⟩
def EMG_STAT.HB_ARMED : Fd := ⟨0x2440, 1, 1, .ro, 0x0, .trst⟩
def EMG_STAT.ECLIPSE : Fd := ⟨0x2440, 0, 0, .ro, 0x0, .trst⟩
def EMG_LEVIN.XB : Fd := ⟨0x2444, 31, 16, .ro, 0x0, .trstPg⟩
def EMG_LEVIN.XA : Fd := ⟨0x2444, 15, 0, .ro, 0x0, .trstPg⟩
def EMG_LEVREF.REF : Fd := ⟨0x2448, 15, 0, .ro, 0x0, .trstPg⟩
def EMG_CNT.ECLIPSES : Fd := ⟨0x244C, 31, 16, .ro, 0x0, .trstPg⟩
def EMG_CNT.C1_TO : Fd := ⟨0x244C, 15, 0, .ro, 0x0, .trstPg⟩

/-- The block fields of page EMG. -/
def fields_EMG : List Fd :=
  [ EMG_CFG.HB_PERIOD, EMG_CFG.RESUME, EMG_CFG.FAST, EMG_POL.LEV_EN3, EMG_POL.POL3, EMG_POL.LEV_EN2, EMG_POL.POL2, EMG_POL.LEV_EN1, EMG_POL.POL1, EMG_POL.LEV_EN0, EMG_POL.POL0, EMG_LEVCFG.DISC, EMG_LEVCFG.TDISC, EMG_LEVCFG.AIN_B, EMG_LEVCFG.AIN_A, EMG_LEVGAIN.GAIN, EMG_LEVLIM.NEUTRAL, EMG_LEVLIM.LIM, EMG_LEVSLEW.SLEW, EMG_C1.TMON, EMG_CMD.RELEASE, EMG_CMD.STOP, EMG_CMD.CAT, EMG_STAT.SINCE, EMG_STAT.EMERG, EMG_STAT.LEVER, EMG_STAT.C2_HOLD, EMG_STAT.LEV_DISC, EMG_STAT.LEVER_SEL, EMG_STAT.HB_ARMED, EMG_STAT.ECLIPSE, EMG_LEVIN.XB, EMG_LEVIN.XA, EMG_LEVREF.REF, EMG_CNT.ECLIPSES, EMG_CNT.C1_TO]

/-! ## DIAG (spec/19_offstate_diagnostics.md R701) -/

def DIAG_CFG.ITEST : Fd := ⟨0x2520, 20, 16, .rw, 0xA, .trstPg⟩
def DIAG_CFG.MASK : Fd := ⟨0x2520, 15, 0, .rw, 0xFFFF, .trstPg⟩
def DIAG_PSCFG.VMIN : Fd := ⟨0x2524, 31, 16, .rw, 0x64, .trstPg⟩
def DIAG_PSCFG.RATIO : Fd := ⟨0x2524, 15, 0, .rw, 0x1F4, .trstPg⟩
def DIAG_THR.DVMIN : Fd := ⟨0x2528, 31, 16, .rw, 0x32, .trstPg⟩
def DIAG_THR.VSHORT : Fd := ⟨0x2528, 15, 0, .rw, 0x14, .trstPg⟩
def DIAG_OPENTHR.VOPEN : Fd := ⟨0x252C, 15, 0, .rw, 0x32, .trstPg⟩
def DIAG_CMD.STN : Fd := ⟨0x2530, 5, 4, .wo, 0x0, .never⟩
def DIAG_CMD.ABORT : Fd := ⟨0x2530, 1, 1, .wo, 0x0, .never⟩
def DIAG_CMD.RUN : Fd := ⟨0x2530, 0, 0, .wo, 0x0, .never⟩
def DIAG_STAT.OPENPH : Fd := ⟨0x2534, 18, 16, .ro, 0x7, .trstPg⟩
def DIAG_STAT.FAIL : Fd := ⟨0x2534, 12, 12, .ro, 0x0, .trstPg⟩
def DIAG_STAT.STEP : Fd := ⟨0x2534, 11, 8, .ro, 0x0, .trstPg⟩
def DIAG_STAT.STN : Fd := ⟨0x2534, 5, 4, .ro, 0x0, .trstPg⟩
def DIAG_STAT.STATE : Fd := ⟨0x2534, 2, 0, .ro, 0x0, .trstPg⟩
def DIAG_RES_LO.RES : Fd := ⟨0x2538, 31, 0, .ro, 0x0, .trstPg⟩
def DIAG_RES_HI.RES : Fd := ⟨0x253C, 31, 0, .ro, 0x0, .trstPg⟩
def DIAG_SHORT.DV (i : Nat) : Fd := ⟨0x2540 + 4 * i, 31, 16, .ro, 0x0, .trstPg⟩
def DIAG_SHORT.V0 (i : Nat) : Fd := ⟨0x2540 + 4 * i, 15, 0, .ro, 0x0, .trstPg⟩
def DIAG_OPEN.VXY (i : Nat) : Fd := ⟨0x254C + 4 * i, 15, 0, .ro, 0x0, .trstPg⟩
def DIAG_CNT.ABORTS : Fd := ⟨0x2558, 31, 16, .ro, 0x0, .trstPg⟩
def DIAG_CNT.RUNS : Fd := ⟨0x2558, 15, 0, .ro, 0x0, .trstPg⟩

/-- The block fields of page DIAG. -/
def fields_DIAG : List Fd :=
  [ DIAG_CFG.ITEST, DIAG_CFG.MASK, DIAG_PSCFG.VMIN, DIAG_PSCFG.RATIO, DIAG_THR.DVMIN, DIAG_THR.VSHORT, DIAG_OPENTHR.VOPEN, DIAG_CMD.STN, DIAG_CMD.ABORT, DIAG_CMD.RUN, DIAG_STAT.OPENPH, DIAG_STAT.FAIL, DIAG_STAT.STEP, DIAG_STAT.STN, DIAG_STAT.STATE, DIAG_RES_LO.RES, DIAG_RES_HI.RES]
  ++ (List.range 3).flatMap (fun i => [ DIAG_SHORT.DV i, DIAG_SHORT.V0 i])
  ++ (List.range 3).flatMap (fun i => [ DIAG_OPEN.VXY i])
  ++ [ DIAG_CNT.ABORTS, DIAG_CNT.RUNS]

/-! ## HK (spec/20_housekeeping_and_analog_io.md R727) -/

def HK_STAT.ROUNDS : Fd := ⟨0x3020, 31, 16, .ro, 0x0, .trst⟩
def HK_STAT.CH : Fd := ⟨0x3020, 13, 8, .ro, 0x0, .trstPg⟩
def HK_STAT.OD_SLOT : Fd := ⟨0x3020, 7, 7, .ro, 0x0, .trstPg⟩
def HK_STAT.OD_PEND : Fd := ⟨0x3020, 3, 0, .ro, 0x0, .trstPg⟩
def HK_OD.REQ : Fd := ⟨0x3024, 8, 8, .wo, 0x0, .never⟩
def HK_OD.CH : Fd := ⟨0x3024, 5, 0, .wo, 0x0, .never⟩
def HK_ODRES.VALUE : Fd := ⟨0x3028, 31, 16, .ro, 0x0, .trstPg⟩
def HK_ODRES.CH : Fd := ⟨0x3028, 13, 8, .ro, 0x0, .trstPg⟩
def HK_ODRES.FLAGS : Fd := ⟨0x3028, 7, 0, .ro, 0x0, .trstPg⟩
def HK_RTIME.MAX : Fd := ⟨0x302C, 31, 16, .ro, 0x0, .trstPg⟩
def HK_RTIME.LAST : Fd := ⟨0x302C, 15, 0, .ro, 0x0, .trstPg⟩
def HK_CNT.OD_DEFER : Fd := ⟨0x3030, 31, 16, .ro, 0x0, .trstPg⟩
def HK_CNT.INVALID : Fd := ⟨0x3030, 15, 0, .ro, 0x0, .trstPg⟩
def HK_INV_LO.INV : Fd := ⟨0x3034, 31, 0, .ro, 0xFFFFFFFF, .trst⟩
def HK_INV_HI.INV : Fd := ⟨0x3038, 31, 0, .ro, 0xFFFFFFFF, .trst⟩
def HK_VAL.VAL_ODD (i : Nat) : Fd := ⟨0x3040 + 4 * i, 31, 16, .ro, 0x0, .trst⟩
def HK_VAL.VAL_EVEN (i : Nat) : Fd := ⟨0x3040 + 4 * i, 15, 0, .ro, 0x0, .trst⟩

/-- The block fields of page HK. -/
def fields_HK : List Fd :=
  [ HK_STAT.ROUNDS, HK_STAT.CH, HK_STAT.OD_SLOT, HK_STAT.OD_PEND, HK_OD.REQ, HK_OD.CH, HK_ODRES.VALUE, HK_ODRES.CH, HK_ODRES.FLAGS, HK_RTIME.MAX, HK_RTIME.LAST, HK_CNT.OD_DEFER, HK_CNT.INVALID, HK_INV_LO.INV, HK_INV_HI.INV]
  ++ (List.range 32).flatMap (fun i => [ HK_VAL.VAL_ODD i, HK_VAL.VAL_EVEN i])

/-! ## HKCH (spec/20_housekeeping_and_analog_io.md R728) -/

def HKCH_NTC.B (i : Nat) : Fd := ⟨0x3120 + 4 * i, 31, 16, .rw, 0xD6B, .trstPg⟩
def HKCH_NTC.SEL (i : Nat) : Fd := ⟨0x3120 + 4 * i, 1, 1, .rw, 0x0, .trstPg⟩
def HKCH_NTC.EN (i : Nat) : Fd := ⟨0x3120 + 4 * i, 0, 0, .rw, 0x1, .trstPg⟩
def HKCH_PT.SEL (i : Nat) : Fd := ⟨0x3150 + 4 * i, 1, 1, .rw, 0x0, .trstPg⟩
def HKCH_PT.EN (i : Nat) : Fd := ⟨0x3150 + 4 * i, 0, 0, .rw, 0x1, .trstPg⟩
def HKCH_OT.EN (i : Nat) : Fd := ⟨0x3180 + 4 * i, 0, 0, .rw, 0x1, .trstPg⟩
def HKCH_SP.SRC (i : Nat) : Fd := ⟨0x31B0 + 4 * i, 21, 16, .rw, 0x0, .trstPg⟩
def HKCH_SP.EN (i : Nat) : Fd := ⟨0x31B0 + 4 * i, 0, 0, .rw, 0x0, .trstPg⟩

/-- The block fields of page HKCH. -/
def fields_HKCH : List Fd :=
  (List.range 12).flatMap (fun i => [ HKCH_NTC.B i, HKCH_NTC.SEL i, HKCH_NTC.EN i])
  ++ (List.range 12).flatMap (fun i => [ HKCH_PT.SEL i, HKCH_PT.EN i])
  ++ (List.range 12).flatMap (fun i => [ HKCH_OT.EN i])
  ++ (List.range 6).flatMap (fun i => [ HKCH_SP.SRC i, HKCH_SP.EN i])

/-! ## AOUT (spec/20_housekeeping_and_analog_io.md R729) -/

def AOUT_CFG.HEADMIN (i : Nat) : Fd := ⟨0x3220 + 16 * i, 15, 8, .rw, 0x32, .trstPg⟩
def AOUT_CFG.FAILMODE (i : Nat) : Fd := ⟨0x3220 + 16 * i, 5, 4, .rw, 0x0, .trstPg⟩
def AOUT_CFG.CLAMP (i : Nat) : Fd := ⟨0x3220 + 16 * i, 2, 2, .rw, 0x0, .trstPg⟩
def AOUT_CFG.MODE (i : Nat) : Fd := ⟨0x3220 + 16 * i, 1, 1, .rw, 0x0, .trstPg⟩
def AOUT_CFG.EN (i : Nat) : Fd := ⟨0x3220 + 16 * i, 0, 0, .rw, 0x0, .trstPg⟩
def AOUT_SET.UA (i : Nat) : Fd := ⟨0x3224 + 16 * i, 15, 0, .rw, 0xFA0, .trstPg⟩
def AOUT_STAT.OPEN (i : Nat) : Fd := ⟨0x3228 + 16 * i, 4, 4, .ro, 0x0, .trstPg⟩
def AOUT_STAT.FAILED (i : Nat) : Fd := ⟨0x3228 + 16 * i, 3, 3, .ro, 0x0, .trstPg⟩
def AOUT_STAT.COMPL (i : Nat) : Fd := ⟨0x3228 + 16 * i, 2, 2, .ro, 0x0, .trstPg⟩
def AOUT_STAT.CLAMPED (i : Nat) : Fd := ⟨0x3228 + 16 * i, 1, 1, .ro, 0x0, .trstPg⟩
def AOUT_STAT.ON (i : Nat) : Fd := ⟨0x3228 + 16 * i, 0, 0, .ro, 0x0, .trstPg⟩
def AOUT_MEAS.HEAD (i : Nat) : Fd := ⟨0x322C + 16 * i, 31, 16, .ro, 0x0, .trstPg⟩
def AOUT_MEAS.RB (i : Nat) : Fd := ⟨0x322C + 16 * i, 15, 0, .ro, 0x0, .trstPg⟩
def AOUT_CMD.RESUME : Fd := ⟨0x3260, 3, 0, .wo, 0x0, .never⟩

/-- The block fields of page AOUT. -/
def fields_AOUT : List Fd :=
  (List.range 4).flatMap (fun i => [ AOUT_CFG.HEADMIN i, AOUT_CFG.FAILMODE i, AOUT_CFG.CLAMP i, AOUT_CFG.MODE i, AOUT_CFG.EN i])
  ++ (List.range 4).flatMap (fun i => [ AOUT_SET.UA i])
  ++ (List.range 4).flatMap (fun i => [ AOUT_STAT.OPEN i, AOUT_STAT.FAILED i, AOUT_STAT.COMPL i, AOUT_STAT.CLAMPED i, AOUT_STAT.ON i])
  ++ (List.range 4).flatMap (fun i => [ AOUT_MEAS.HEAD i, AOUT_MEAS.RB i])
  ++ [ AOUT_CMD.RESUME]

/-! ## AIN (spec/12_current_sensing_and_sample_validity.md R487) -/

def AIN_CFG.STN (i : Nat) : Fd := ⟨0x3320 + 4 * i, 9, 8, .rw, 0x0, .trstPg⟩
def AIN_CFG.AVG (i : Nat) : Fd := ⟨0x3320 + 4 * i, 6, 4, .rw, 0x0, .trstPg⟩
def AIN_CFG.GAIN (i : Nat) : Fd := ⟨0x3320 + 4 * i, 2, 1, .rw, 0x0, .trstPg⟩
def AIN_CFG.EN (i : Nat) : Fd := ⟨0x3320 + 4 * i, 0, 0, .rw, 0x0, .trstPg⟩
def AIN_STAT.OVR : Fd := ⟨0x3340, 15, 8, .w1c, 0x0, .trstPg⟩
def AIN_STAT.VALID : Fd := ⟨0x3340, 7, 0, .ro, 0x0, .trstPg⟩
def AIN_CNT.INVALID : Fd := ⟨0x3344, 15, 0, .ro, 0x0, .trstPg⟩
def AIN_VAL.VALUE (i : Nat) : Fd := ⟨0x3348 + 4 * i, 31, 0, .ro, 0x0, .trstPg⟩

/-- The block fields of page AIN. -/
def fields_AIN : List Fd :=
  (List.range 8).flatMap (fun i => [ AIN_CFG.STN i, AIN_CFG.AVG i, AIN_CFG.GAIN i, AIN_CFG.EN i])
  ++ [ AIN_STAT.OVR, AIN_STAT.VALID, AIN_CNT.INVALID]
  ++ (List.range 8).flatMap (fun i => [ AIN_VAL.VALUE i])

/-! ## THM (spec/21_thermal_management.md R759) -/

def THM_GLOW.LOW_WARN (i : Nat) : Fd := ⟨0x3420 + 16 * i, 31, 16, .rw, nth [0xFED4, 0xFF6A, 0xFF38, 0x32, 0x0] i, .trstPg⟩
def THM_GLOW.LOW_INHIBIT (i : Nat) : Fd := ⟨0x3420 + 16 * i, 15, 0, .rw, nth [0xFE70, 0xFF06, 0xFED4, 0xFF9C, 0xFF38] i, .trstPg⟩
def THM_GHI.DERATE_START (i : Nat) : Fd := ⟨0x3424 + 16 * i, 31, 16, .rw, nth [0x3B6, 0x3E8, 0x578, 0x1F4, 0x384] i, .trstPg⟩
def THM_GHI.HIGH_WARN (i : Nat) : Fd := ⟨0x3424 + 16 * i, 15, 0, .rw, nth [0x352, 0x384, 0x514, 0x1C2, 0x320] i, .trstPg⟩
def THM_GTOP.TRIP (i : Nat) : Fd := ⟨0x3428 + 16 * i, 31, 16, .rwl, nth [0x44C, 0x4B0, 0x672, 0x28A, 0x44C] i, .trstPg⟩
def THM_GTOP.DERATE_FULL (i : Nat) : Fd := ⟨0x3428 + 16 * i, 15, 0, .rw, nth [0x41A, 0x47E, 0x60E, 0x258, 0x3E8] i, .trstPg⟩
def THM_GVAL.MIN (i : Nat) : Fd := ⟨0x342C + 16 * i, 31, 16, .ro, 0x8000, .trst⟩
def THM_GVAL.MAX (i : Nat) : Fd := ⟨0x342C + 16 * i, 15, 0, .ro, 0x8000, .trst⟩
def THM_TMAX.ID : Fd := ⟨0x3470, 21, 16, .ro, 0x0, .trst⟩
def THM_TMAX.MAX : Fd := ⟨0x3470, 15, 0, .ro, 0x8000, .trst⟩
def THM_STAT.BLIND : Fd := ⟨0x3474, 29, 25, .ro, 0x0, .trst⟩
def THM_STAT.G4 : Fd := ⟨0x3474, 24, 20, .ro, 0x0, .trst⟩
def THM_STAT.G3 : Fd := ⟨0x3474, 19, 15, .ro, 0x0, .trst⟩
def THM_STAT.G2 : Fd := ⟨0x3474, 14, 10, .ro, 0x0, .trst⟩
def THM_STAT.G1 : Fd := ⟨0x3474, 9, 5, .ro, 0x0, .trst⟩
def THM_STAT.G0 : Fd := ⟨0x3474, 4, 0, .ro, 0x0, .trst⟩
def THM_ASGN.STNMASK (i : Nat) : Fd := ⟨0x3478 + 4 * i, 31, 0, .rw, 0xFFFFFFFF, .trstPg⟩
def THM_HWCFG.HWNTC : Fd := ⟨0x3484, 31, 16, .rwl, 0x4E2, .pon⟩
def THM_HWCFG.HWMASK : Fd := ⟨0x3484, 11, 0, .rwl, 0xFFF, .pon⟩
def THM_HWLIM.INT : Fd := ⟨0x3488, 31, 16, .ro, 0x47E, .never⟩
def THM_HWLIM.NTC : Fd := ⟨0x3488, 15, 0, .ro, 0, .never⟩
def THM_HWSTAT.COUNT : Fd := ⟨0x348C, 31, 16, .ro, 0x0, .pon⟩
def THM_HWSTAT.SENSOR : Fd := ⟨0x348C, 13, 8, .ro, 0x0, .pon⟩
def THM_HWSTAT.VALID : Fd := ⟨0x348C, 0, 0, .ro, 0x0, .pon⟩

/-- The block fields of page THM. -/
def fields_THM : List Fd :=
  (List.range 5).flatMap (fun i => [ THM_GLOW.LOW_WARN i, THM_GLOW.LOW_INHIBIT i])
  ++ (List.range 5).flatMap (fun i => [ THM_GHI.DERATE_START i, THM_GHI.HIGH_WARN i])
  ++ (List.range 5).flatMap (fun i => [ THM_GTOP.TRIP i, THM_GTOP.DERATE_FULL i])
  ++ (List.range 5).flatMap (fun i => [ THM_GVAL.MIN i, THM_GVAL.MAX i])
  ++ [ THM_TMAX.ID, THM_TMAX.MAX, THM_STAT.BLIND, THM_STAT.G4, THM_STAT.G3, THM_STAT.G2, THM_STAT.G1, THM_STAT.G0]
  ++ (List.range 3).flatMap (fun i => [ THM_ASGN.STNMASK i])
  ++ [ THM_HWCFG.HWNTC, THM_HWCFG.HWMASK, THM_HWLIM.INT, THM_HWLIM.NTC, THM_HWSTAT.COUNT, THM_HWSTAT.SENSOR, THM_HWSTAT.VALID]

/-! ## THD (spec/21_thermal_management.md R760) -/

def THD_CFG.GRACE : Fd := ⟨0x3520, 31, 16, .rw, 0x32, .trstPg⟩
def THD_CFG.FLOOR : Fd := ⟨0x3520, 7, 0, .rw, 0x1E, .trstPg⟩
def THD_DWELL.DWELL_K : Fd := ⟨0x3524, 31, 16, .rw, 0x40, .trstPg⟩
def THD_DWELL.DWELL_BASE : Fd := ⟨0x3524, 15, 0, .rw, 0x1F4, .trstPg⟩
def THD_TRATED.TRATED (i : Nat) : Fd := ⟨0x3528 + 4 * i, 15, 0, .rw, 0x7FFF, .trstPg⟩
def THD_REQ.ENFORCED (i : Nat) : Fd := ⟨0x3538 + 4 * i, 26, 26, .ro, 0x0, .trstPg⟩
def THD_REQ.GRACE_OVER (i : Nat) : Fd := ⟨0x3538 + 4 * i, 25, 25, .ro, 0x0, .trstPg⟩
def THD_REQ.ACTIVE (i : Nat) : Fd := ⟨0x3538 + 4 * i, 24, 24, .ro, 0x0, .trstPg⟩
def THD_REQ.PCT (i : Nat) : Fd := ⟨0x3538 + 4 * i, 22, 16, .ro, 0x64, .trstPg⟩
def THD_REQ.REQ (i : Nat) : Fd := ⟨0x3538 + 4 * i, 15, 0, .ro, 0x7FFF, .trstPg⟩
def THD_GRACE.LEFT (i : Nat) : Fd := ⟨0x3548 + 4 * i, 15, 0, .ro, 0x0, .trstPg⟩
def THD_DWSTAT.LAST : Fd := ⟨0x3558, 31, 16, .ro, 0x0, .trstPg⟩
def THD_DWSTAT.START : Fd := ⟨0x3558, 11, 8, .ro, 0x0, .trstPg⟩
def THD_DWSTAT.OPS : Fd := ⟨0x3558, 4, 0, .ro, 0x0, .trstPg⟩
def THD_CNT.ENFORCE : Fd := ⟨0x355C, 31, 16, .ro, 0x0, .trstPg⟩
def THD_CNT.DWELLS : Fd := ⟨0x355C, 15, 0, .ro, 0x0, .trstPg⟩

/-- The block fields of page THD. -/
def fields_THD : List Fd :=
  [ THD_CFG.GRACE, THD_CFG.FLOOR, THD_DWELL.DWELL_K, THD_DWELL.DWELL_BASE]
  ++ (List.range 4).flatMap (fun i => [ THD_TRATED.TRATED i])
  ++ (List.range 4).flatMap (fun i => [ THD_REQ.ENFORCED i, THD_REQ.GRACE_OVER i, THD_REQ.ACTIVE i, THD_REQ.PCT i, THD_REQ.REQ i])
  ++ (List.range 4).flatMap (fun i => [ THD_GRACE.LEFT i])
  ++ [ THD_DWSTAT.LAST, THD_DWSTAT.START, THD_DWSTAT.OPS, THD_CNT.ENFORCE, THD_CNT.DWELLS]

/-! ## ORB (spec/16_load_sharing_and_orbit.md R620) -/

def ORB_CFG.UNIT : Fd := ⟨0x3620, 3, 0, .rwl, 0x0, .trstPg⟩
def ORB_PACE.PACE : Fd := ⟨0x3624, 15, 1, .rwl, 0x0, .trstPg⟩
def ORB_STAT.ISOLATED : Fd := ⟨0x3628, 4, 4, .ro, 0x0, .trstPg⟩
def ORB_STAT.WRAPPED : Fd := ⟨0x3628, 3, 3, .ro, 0x0, .trstPg⟩
def ORB_STAT.LINK2 : Fd := ⟨0x3628, 1, 1, .ro, 0x0, .trstPg⟩
def ORB_STAT.LINK1 : Fd := ⟨0x3628, 0, 0, .ro, 0x0, .trstPg⟩
def ORB_CNT.CRC_ERR (i : Nat) : Fd := ⟨0x362C + 4 * i, 31, 16, .ro, 0x0, .trstPg⟩
def ORB_CNT.FRAMES (i : Nat) : Fd := ⟨0x362C + 4 * i, 15, 0, .ro, 0x0, .trstPg⟩
def ORB_LOAD.DROPPED : Fd := ⟨0x3634, 15, 8, .ro, 0x0, .trstPg⟩
def ORB_LOAD.UTIL : Fd := ⟨0x3634, 7, 0, .ro, 0x0, .trstPg⟩

/-- The block fields of page ORB. -/
def fields_ORB : List Fd :=
  [ ORB_CFG.UNIT, ORB_PACE.PACE, ORB_STAT.ISOLATED, ORB_STAT.WRAPPED, ORB_STAT.LINK2, ORB_STAT.LINK1]
  ++ (List.range 2).flatMap (fun i => [ ORB_CNT.CRC_ERR i, ORB_CNT.FRAMES i])
  ++ [ ORB_LOAD.DROPPED, ORB_LOAD.UTIL]

/-! ## SHR (spec/16_load_sharing_and_orbit.md R619) -/

def SHR_GCFG.NSLOT (i : Nat) : Fd := ⟨0x3720 + 8 * i, 15, 12, .rw, 0x0, .trstPg⟩
def SHR_GCFG.GID (i : Nat) : Fd := ⟨0x3720 + 8 * i, 11, 8, .rw, 0x0, .trstPg⟩
def SHR_GCFG.RING (i : Nat) : Fd := ⟨0x3720 + 8 * i, 4, 4, .rw, 0x0, .trstPg⟩
def SHR_GCFG.MODE (i : Nat) : Fd := ⟨0x3720 + 8 * i, 2, 1, .rw, 0x0, .trstPg⟩
def SHR_GCFG.EN (i : Nat) : Fd := ⟨0x3720 + 8 * i, 0, 0, .rw, 0x0, .trstPg⟩
def SHR_GDROOP.KDROOP (i : Nat) : Fd := ⟨0x3724 + 8 * i, 19, 0, .rw, 0x0, .trstPg⟩
def SHR_STN.SLOT (i : Nat) : Fd := ⟨0x3740 + 8 * i, 19, 16, .rw, 0x0, .trstPg⟩
def SHR_STN.RANK (i : Nat) : Fd := ⟨0x3740 + 8 * i, 11, 8, .rw, 0x0, .trstPg⟩
def SHR_STN.GRP (i : Nat) : Fd := ⟨0x3740 + 8 * i, 5, 4, .rw, 0x0, .trstPg⟩
def SHR_STN.ROLE (i : Nat) : Fd := ⟨0x3740 + 8 * i, 1, 0, .rw, 0x0, .trstPg⟩
def SHR_KSHARE.KSHARE (i : Nat) : Fd := ⟨0x3744 + 8 * i, 19, 0, .rw, 0x0, .trstPg⟩
def SHR_KTI.KTI (i : Nat) : Fd := ⟨0x3760 + 4 * i, 19, 0, .rw, 0x14000, .trstPg⟩
def SHR_STAT.PACE_DENIED : Fd := ⟨0x3770, 11, 8, .ro, 0x0, .trstPg⟩
def SHR_STAT.ROLE_ACT : Fd := ⟨0x3770, 7, 0, .ro, 0x0, .trstPg⟩
def SHR_GSTAT.FSEQ (i : Nat) : Fd := ⟨0x3774 + 4 * i, 31, 24, .ro, 0x0, .trstPg⟩
def SHR_GSTAT.PACER (i : Nat) : Fd := ⟨0x3774 + 4 * i, 23, 16, .ro, 0xFF, .trstPg⟩
def SHR_GSTAT.NEXT (i : Nat) : Fd := ⟨0x3774 + 4 * i, 15, 8, .ro, 0xFF, .trstPg⟩
def SHR_GSTAT.FRESH (i : Nat) : Fd := ⟨0x3774 + 4 * i, 1, 1, .ro, 0x0, .trstPg⟩
def SHR_GSTAT.LOST (i : Nat) : Fd := ⟨0x3774 + 4 * i, 0, 0, .ro, 0x0, .trstPg⟩
def SHR_CNT.TAKEOVERS : Fd := ⟨0x3784, 31, 16, .ro, 0x0, .trstPg⟩
def SHR_CNT.MISSED : Fd := ⟨0x3784, 15, 0, .ro, 0x0, .trstPg⟩

/-- The block fields of page SHR. -/
def fields_SHR : List Fd :=
  (List.range 4).flatMap (fun i => [ SHR_GCFG.NSLOT i, SHR_GCFG.GID i, SHR_GCFG.RING i, SHR_GCFG.MODE i, SHR_GCFG.EN i])
  ++ (List.range 4).flatMap (fun i => [ SHR_GDROOP.KDROOP i])
  ++ (List.range 4).flatMap (fun i => [ SHR_STN.SLOT i, SHR_STN.RANK i, SHR_STN.GRP i, SHR_STN.ROLE i])
  ++ (List.range 4).flatMap (fun i => [ SHR_KSHARE.KSHARE i])
  ++ (List.range 4).flatMap (fun i => [ SHR_KTI.KTI i])
  ++ [ SHR_STAT.PACE_DENIED, SHR_STAT.ROLE_ACT]
  ++ (List.range 4).flatMap (fun i => [ SHR_GSTAT.FSEQ i, SHR_GSTAT.PACER i, SHR_GSTAT.NEXT i, SHR_GSTAT.FRESH i, SHR_GSTAT.LOST i])
  ++ [ SHR_CNT.TAKEOVERS, SHR_CNT.MISSED]

/-! ## TRC (spec/14_loop_timing_banks_and_trace.md R557) -/

def TRC_CFG.COND : Fd := ⟨0x3820, 17, 16, .rw, 0x0, .trstPg⟩
def TRC_CFG.NODE : Fd := ⟨0x3820, 14, 8, .rw, 0x0, .trstPg⟩
def TRC_CFG.NSTN : Fd := ⟨0x3820, 5, 4, .rw, 0x0, .trstPg⟩
def TRC_CFG.SRC : Fd := ⟨0x3820, 1, 0, .rw, 0x0, .trstPg⟩
def TRC_THR.THR : Fd := ⟨0x3824, 31, 0, .rw, 0x0, .trstPg⟩
def TRC_EVSEL.ANYBIT : Fd := ⟨0x3828, 15, 15, .rw, 0x0, .trstPg⟩
def TRC_EVSEL.BIT : Fd := ⟨0x3828, 12, 8, .rw, 0x0, .trstPg⟩
def TRC_EVSEL.PAGE : Fd := ⟨0x3828, 7, 0, .rw, 0x0, .trstPg⟩
def TRC_POST.POST : Fd := ⟨0x382C, 23, 0, .rw, 0x0, .trstPg⟩
def TRC_CMD.DISARM : Fd := ⟨0x3830, 2, 2, .wo, 0x0, .never⟩
def TRC_CMD.FORCE : Fd := ⟨0x3830, 1, 1, .wo, 0x0, .never⟩
def TRC_CMD.ARM : Fd := ⟨0x3830, 0, 0, .wo, 0x0, .never⟩
def TRC_STAT.CAUSE : Fd := ⟨0x3834, 9, 8, .ro, 0x0, .trstPg⟩
def TRC_STAT.TSTN : Fd := ⟨0x3834, 5, 4, .ro, 0x0, .trstPg⟩
def TRC_STAT.STATE : Fd := ⟨0x3834, 1, 0, .ro, 0x0, .trstPg⟩
def TRC_TFT_LO.FT : Fd := ⟨0x3838, 31, 0, .ro, 0x0, .trstPg⟩
def TRC_TFT_HI.FT : Fd := ⟨0x383C, 31, 0, .ro, 0x0, .trstPg⟩
def TRC_TSSEQ.SSEQ : Fd := ⟨0x3840, 31, 0, .ro, 0x0, .trstPg⟩
def TRC_HOLD.HOLDOFF : Fd := ⟨0x3844, 15, 0, .rw, 0x0, .trstPg⟩

/-- The block fields of page TRC. -/
def fields_TRC : List Fd :=
  [ TRC_CFG.COND, TRC_CFG.NODE, TRC_CFG.NSTN, TRC_CFG.SRC, TRC_THR.THR, TRC_EVSEL.ANYBIT, TRC_EVSEL.BIT, TRC_EVSEL.PAGE, TRC_POST.POST, TRC_CMD.DISARM, TRC_CMD.FORCE, TRC_CMD.ARM, TRC_STAT.CAUSE, TRC_STAT.TSTN, TRC_STAT.STATE, TRC_TFT_LO.FT, TRC_TFT_HI.FT, TRC_TSSEQ.SSEQ, TRC_HOLD.HOLDOFF]

/-! ## STN (spec/10_sequencer_and_operating_states.md R405) -/

def STN_STAT.CAUSE (n : Nat) : Fd := ⟨stnPage n 0x0 * 256 + 0x20, 31, 28, .ro, 0x0, .trstPg⟩
def STN_STAT.BLOCK (n : Nat) : Fd := ⟨stnPage n 0x0 * 256 + 0x20, 23, 16, .ro, 0x3, .trst⟩
def STN_STAT.PREV (n : Nat) : Fd := ⟨stnPage n 0x0 * 256 + 0x20, 15, 8, .ro, 0x0, .trstPg⟩
def STN_STAT.STATE (n : Nat) : Fd := ⟨stnPage n 0x0 * 256 + 0x20, 7, 0, .ro, 0x0, .trstPg⟩
def STN_CMD.STOP (n : Nat) : Fd := ⟨stnPage n 0x0 * 256 + 0x24, 1, 1, .wo, 0x0, .never⟩
def STN_CMD.START (n : Nat) : Fd := ⟨stnPage n 0x0 * 256 + 0x24, 0, 0, .wo, 0x0, .never⟩
def STN_CFG.FLUX_MS (n : Nat) : Fd := ⟨stnPage n 0x0 * 256 + 0x28, 31, 16, .rw, 0x0, .trstPg⟩
def STN_CFG.ZSPD (n : Nat) : Fd := ⟨stnPage n 0x0 * 256 + 0x28, 15, 8, .rw, 0xA, .trstPg⟩
def STN_CFG.HOLD_DIR (n : Nat) : Fd := ⟨stnPage n 0x0 * 256 + 0x28, 2, 2, .rw, 0x0, .trstPg⟩
def STN_CFG.BRAKE_EN (n : Nat) : Fd := ⟨stnPage n 0x0 * 256 + 0x28, 1, 1, .rw, 0x0, .trstPg⟩
def STN_CFG.MOTOR (n : Nat) : Fd := ⟨stnPage n 0x0 * 256 + 0x28, 0, 0, .rw, 0x0, .trstPg⟩
def STN_IBASE.VALUE (n : Nat) : Fd := ⟨stnPage n 0x0 * 256 + 0x2C, 23, 0, .rw, 0x0, .trstPg⟩
def STN_NBASE.VALUE (n : Nat) : Fd := ⟨stnPage n 0x0 * 256 + 0x30, 23, 0, .rw, 0x0, .trstPg⟩
def STN_TBASE.VALUE (n : Nat) : Fd := ⟨stnPage n 0x0 * 256 + 0x34, 23, 0, .rw, 0x0, .trstPg⟩
def STN_UBASE.VALUE (n : Nat) : Fd := ⟨stnPage n 0x0 * 256 + 0x38, 23, 0, .rw, 0x0, .trstPg⟩
def STN_BRK1.PROVE_MS (n : Nat) : Fd := ⟨stnPage n 0x0 * 256 + 0x3C, 31, 16, .rw, 0x0, .trstPg⟩
def STN_BRK1.PROVE_TQ (n : Nat) : Fd := ⟨stnPage n 0x0 * 256 + 0x3C, 15, 0, .rw, 0x0, .trstPg⟩
def STN_BRK2.T_SET (n : Nat) : Fd := ⟨stnPage n 0x0 * 256 + 0x40, 31, 16, .rw, 0x0, .trstPg⟩
def STN_BRK2.T_REL (n : Nat) : Fd := ⟨stnPage n 0x0 * 256 + 0x40, 15, 0, .rw, 0x0, .trstPg⟩
def STN_TIMING.SCHED (n : Nat) : Fd := ⟨stnPage n 0x0 * 256 + 0x44, 16, 16, .rw, 0x0, .trstPg⟩
def STN_TIMING.TAPPLY (n : Nat) : Fd := ⟨stnPage n 0x0 * 256 + 0x44, 10, 0, .rw, 0x730, .trstPg⟩
def STN_DL.DL_MISS (n : Nat) : Fd := ⟨stnPage n 0x0 * 256 + 0x48, 16, 16, .w1c, 0x0, .trstPg⟩
def STN_DL.DL_COUNT (n : Nat) : Fd := ⟨stnPage n 0x0 * 256 + 0x48, 15, 0, .ro, 0x0, .trstPg⟩
def STN_CNT.REFUSED (n : Nat) : Fd := ⟨stnPage n 0x0 * 256 + 0x4C, 31, 16, .ro, 0x0, .trstPg⟩
def STN_CNT.START_DROP (n : Nat) : Fd := ⟨stnPage n 0x0 * 256 + 0x4C, 15, 0, .ro, 0x0, .trstPg⟩

/-- The block fields of a page STN of station `n`. -/
def fields_STN (n : Nat) : List Fd :=
  [ STN_STAT.CAUSE n, STN_STAT.BLOCK n, STN_STAT.PREV n, STN_STAT.STATE n, STN_CMD.STOP n, STN_CMD.START n, STN_CFG.FLUX_MS n, STN_CFG.ZSPD n, STN_CFG.HOLD_DIR n, STN_CFG.BRAKE_EN n, STN_CFG.MOTOR n, STN_IBASE.VALUE n, STN_NBASE.VALUE n, STN_TBASE.VALUE n, STN_UBASE.VALUE n, STN_BRK1.PROVE_MS n, STN_BRK1.PROVE_TQ n, STN_BRK2.T_SET n, STN_BRK2.T_REL n, STN_TIMING.SCHED n, STN_TIMING.TAPPLY n, STN_DL.DL_MISS n, STN_DL.DL_COUNT n, STN_CNT.REFUSED n, STN_CNT.START_DROP n]

/-! ## FBP (spec/11_feedback_interface.md R454) -/

def FBP_CFG.QERR_MAX (n : Nat) : Fd := ⟨stnPage n 0x1 * 256 + 0x20, 23, 16, .rw, 0x0, .trstPg⟩
def FBP_CFG.N (n : Nat) : Fd := ⟨stnPage n 0x1 * 256 + 0x20, 15, 8, .rw, 0x3, .trstPg⟩
def FBP_CFG.PRESET_SRC (n : Nat) : Fd := ⟨stnPage n 0x1 * 256 + 0x20, 5, 4, .rw, 0x0, .trstPg⟩
def FBP_CFG.DIR (n : Nat) : Fd := ⟨stnPage n 0x1 * 256 + 0x20, 2, 2, .rw, 0x0, .trstPg⟩
def FBP_CFG.MODE (n : Nat) : Fd := ⟨stnPage n 0x1 * 256 + 0x20, 1, 0, .rw, 0x0, .trstPg⟩
def FBP_CPR.CPR (n : Nat) : Fd := ⟨stnPage n 0x1 * 256 + 0x24, 23, 0, .rw, 0x0, .trstPg⟩
def FBP_SSI.DLY (n : Nat) : Fd := ⟨stnPage n 0x1 * 256 + 0x28, 31, 24, .rw, 0x0, .trstPg⟩
def FBP_SSI.GRAY (n : Nat) : Fd := ⟨stnPage n 0x1 * 256 + 0x28, 20, 20, .rw, 0x0, .trstPg⟩
def FBP_SSI.PAR (n : Nat) : Fd := ⟨stnPage n 0x1 * 256 + 0x28, 19, 18, .rw, 0x0, .trstPg⟩
def FBP_SSI.POS_SHIFT (n : Nat) : Fd := ⟨stnPage n 0x1 * 256 + 0x28, 17, 12, .rw, 0x0, .trstPg⟩
def FBP_SSI.POS_BITS (n : Nat) : Fd := ⟨stnPage n 0x1 * 256 + 0x28, 11, 6, .rw, 0x0, .trstPg⟩
def FBP_SSI.LEN (n : Nat) : Fd := ⟨stnPage n 0x1 * 256 + 0x28, 5, 0, .rw, 0x0, .trstPg⟩
def FBP_SSICLK.LEAD (n : Nat) : Fd := ⟨stnPage n 0x1 * 256 + 0x2C, 31, 16, .rw, 0x0, .trstPg⟩
def FBP_SSICLK.MONO (n : Nat) : Fd := ⟨stnPage n 0x1 * 256 + 0x2C, 15, 10, .rw, 0x0, .trstPg⟩
def FBP_SSICLK.CLKDIV (n : Nat) : Fd := ⟨stnPage n 0x1 * 256 + 0x2C, 9, 0, .rw, 0x19, .trstPg⟩
def FBP_SPDTO.ERRMAX (n : Nat) : Fd := ⟨stnPage n 0x1 * 256 + 0x30, 23, 16, .rw, 0x3, .trstPg⟩
def FBP_SPDTO.TO (n : Nat) : Fd := ⟨stnPage n 0x1 * 256 + 0x30, 15, 0, .rw, 0x7D0, .trstPg⟩
def FBP_LOSS.MASK (n : Nat) : Fd := ⟨stnPage n 0x1 * 256 + 0x34, 10, 8, .rw, 0x7, .trstPg⟩
def FBP_LOSS.T_LOSS (n : Nat) : Fd := ⟨stnPage n 0x1 * 256 + 0x34, 7, 0, .rw, 0xA, .trstPg⟩
def FBP_SUP.VSEL (n : Nat) : Fd := ⟨stnPage n 0x1 * 256 + 0x38, 1, 1, .rw, 0x0, .trstPg⟩
def FBP_SUP.ON (n : Nat) : Fd := ⟨stnPage n 0x1 * 256 + 0x38, 0, 0, .rw, 0x0, .trstPg⟩
def FBP_PRESET.VALUE (n : Nat) : Fd := ⟨stnPage n 0x1 * 256 + 0x3C, 31, 0, .rw, 0x0, .trstPg⟩
def FBP_CMD.PRESET (n : Nat) : Fd := ⟨stnPage n 0x1 * 256 + 0x40, 0, 0, .wo, 0x0, .never⟩
def FBP_POS.POS (n : Nat) : Fd := ⟨stnPage n 0x1 * 256 + 0x44, 31, 0, .ro, 0x0, .trstPg⟩
def FBP_SPEED.SPEED (n : Nat) : Fd := ⟨stnPage n 0x1 * 256 + 0x48, 31, 0, .ro, 0x0, .trstPg⟩
def FBP_STAT.QERR_CNT (n : Nat) : Fd := ⟨stnPage n 0x1 * 256 + 0x4C, 31, 16, .ro, 0x0, .trstPg⟩
def FBP_STAT.ENC_OC (n : Nat) : Fd := ⟨stnPage n 0x1 * 256 + 0x4C, 8, 8, .ro, 0x0, .trstPg⟩
def FBP_STAT.Z_SEEN (n : Nat) : Fd := ⟨stnPage n 0x1 * 256 + 0x4C, 7, 7, .ro, 0x0, .trstPg⟩
def FBP_STAT.PAIR_LOSS (n : Nat) : Fd := ⟨stnPage n 0x1 * 256 + 0x4C, 6, 4, .ro, 0x0, .trstPg⟩
def FBP_STAT.FB_LOSS (n : Nat) : Fd := ⟨stnPage n 0x1 * 256 + 0x4C, 3, 3, .ro, 0x0, .trstPg⟩
def FBP_STAT.LOWSPD (n : Nat) : Fd := ⟨stnPage n 0x1 * 256 + 0x4C, 2, 2, .ro, 0x0, .trstPg⟩
def FBP_STAT.SPD_VALID (n : Nat) : Fd := ⟨stnPage n 0x1 * 256 + 0x4C, 1, 1, .ro, 0x0, .trstPg⟩
def FBP_STAT.POS_VALID (n : Nat) : Fd := ⟨stnPage n 0x1 * 256 + 0x4C, 0, 0, .ro, 0x0, .trstPg⟩
def FBP_SSICNT.SKIP (n : Nat) : Fd := ⟨stnPage n 0x1 * 256 + 0x50, 31, 16, .ro, 0x0, .trstPg⟩
def FBP_SSICNT.ERR (n : Nat) : Fd := ⟨stnPage n 0x1 * 256 + 0x50, 15, 0, .ro, 0x0, .trstPg⟩

/-- The block fields of a page FBP of station `n`. -/
def fields_FBP (n : Nat) : List Fd :=
  [ FBP_CFG.QERR_MAX n, FBP_CFG.N n, FBP_CFG.PRESET_SRC n, FBP_CFG.DIR n, FBP_CFG.MODE n, FBP_CPR.CPR n, FBP_SSI.DLY n, FBP_SSI.GRAY n, FBP_SSI.PAR n, FBP_SSI.POS_SHIFT n, FBP_SSI.POS_BITS n, FBP_SSI.LEN n, FBP_SSICLK.LEAD n, FBP_SSICLK.MONO n, FBP_SSICLK.CLKDIV n, FBP_SPDTO.ERRMAX n, FBP_SPDTO.TO n, FBP_LOSS.MASK n, FBP_LOSS.T_LOSS n, FBP_SUP.VSEL n, FBP_SUP.ON n, FBP_PRESET.VALUE n, FBP_CMD.PRESET n, FBP_POS.POS n, FBP_SPEED.SPEED n, FBP_STAT.QERR_CNT n, FBP_STAT.ENC_OC n, FBP_STAT.Z_SEEN n, FBP_STAT.PAIR_LOSS n, FBP_STAT.FB_LOSS n, FBP_STAT.LOWSPD n, FBP_STAT.SPD_VALID n, FBP_STAT.POS_VALID n, FBP_SSICNT.SKIP n, FBP_SSICNT.ERR n]

/-! ## FBA (spec/11_feedback_interface.md R455) -/

def FBA_CFG.PSW (n : Nat) : Fd := ⟨stnPage n 0x2 * 256 + 0x20, 27, 24, .rw, 0xA, .trstPg⟩
def FBA_CFG.NSW (n : Nat) : Fd := ⟨stnPage n 0x2 * 256 + 0x20, 23, 16, .rw, 0x64, .trstPg⟩
def FBA_CFG.N (n : Nat) : Fd := ⟨stnPage n 0x2 * 256 + 0x20, 15, 8, .rw, 0x3, .trstPg⟩
def FBA_CFG.HALL_5V (n : Nat) : Fd := ⟨stnPage n 0x2 * 256 + 0x20, 3, 3, .rw, 0x0, .trstPg⟩
def FBA_CFG.DIR (n : Nat) : Fd := ⟨stnPage n 0x2 * 256 + 0x20, 2, 2, .rw, 0x0, .trstPg⟩
def FBA_CFG.MODE (n : Nat) : Fd := ⟨stnPage n 0x2 * 256 + 0x20, 1, 0, .rw, 0x0, .trstPg⟩
def FBA_CPR.CPR (n : Nat) : Fd := ⟨stnPage n 0x2 * 256 + 0x24, 23, 0, .rw, 0x0, .trstPg⟩
def FBA_SWCFG.POL3 (n : Nat) : Fd := ⟨stnPage n 0x2 * 256 + 0x28, 14, 14, .rw, 0x0, .trstPg⟩
def FBA_SWCFG.FUNC3 (n : Nat) : Fd := ⟨stnPage n 0x2 * 256 + 0x28, 13, 12, .rw, 0x0, .trstPg⟩
def FBA_SWCFG.POL2 (n : Nat) : Fd := ⟨stnPage n 0x2 * 256 + 0x28, 10, 10, .rw, 0x0, .trstPg⟩
def FBA_SWCFG.FUNC2 (n : Nat) : Fd := ⟨stnPage n 0x2 * 256 + 0x28, 9, 8, .rw, 0x0, .trstPg⟩
def FBA_SWCFG.POL1 (n : Nat) : Fd := ⟨stnPage n 0x2 * 256 + 0x28, 6, 6, .rw, 0x0, .trstPg⟩
def FBA_SWCFG.FUNC1 (n : Nat) : Fd := ⟨stnPage n 0x2 * 256 + 0x28, 5, 4, .rw, 0x0, .trstPg⟩
def FBA_SWCFG.POL0 (n : Nat) : Fd := ⟨stnPage n 0x2 * 256 + 0x28, 2, 2, .rw, 0x0, .trstPg⟩
def FBA_SWCFG.FUNC0 (n : Nat) : Fd := ⟨stnPage n 0x2 * 256 + 0x28, 1, 0, .rw, 0x0, .trstPg⟩
def FBA_HALLOFS.OFS (n : Nat) : Fd := ⟨stnPage n 0x2 * 256 + 0x2C, 15, 0, .rw, 0x0, .trstPg⟩
def FBA_LOSS.MASK (n : Nat) : Fd := ⟨stnPage n 0x2 * 256 + 0x30, 2, 0, .rw, 0x0, .trstPg⟩
def FBA_PRESET.VALUE (n : Nat) : Fd := ⟨stnPage n 0x2 * 256 + 0x34, 31, 0, .rw, 0x0, .trstPg⟩
def FBA_CMD.PRESET (n : Nat) : Fd := ⟨stnPage n 0x2 * 256 + 0x38, 0, 0, .wo, 0x0, .never⟩
def FBA_POS.POS (n : Nat) : Fd := ⟨stnPage n 0x2 * 256 + 0x3C, 31, 0, .ro, 0x0, .trstPg⟩
def FBA_SPEED.SPEED (n : Nat) : Fd := ⟨stnPage n 0x2 * 256 + 0x40, 31, 0, .ro, 0x0, .trstPg⟩
def FBA_STAT.ERR_CNT (n : Nat) : Fd := ⟨stnPage n 0x2 * 256 + 0x44, 31, 16, .ro, 0x0, .trstPg⟩
def FBA_STAT.LOSS (n : Nat) : Fd := ⟨stnPage n 0x2 * 256 + 0x44, 10, 10, .ro, 0x0, .trstPg⟩
def FBA_STAT.SECTOR (n : Nat) : Fd := ⟨stnPage n 0x2 * 256 + 0x44, 9, 7, .ro, 0x0, .trstPg⟩
def FBA_STAT.HALL (n : Nat) : Fd := ⟨stnPage n 0x2 * 256 + 0x44, 6, 4, .ro, 0x0, .trstPg⟩
def FBA_STAT.SW (n : Nat) : Fd := ⟨stnPage n 0x2 * 256 + 0x44, 3, 0, .ro, 0x0, .trstPg⟩

/-- The block fields of a page FBA of station `n`. -/
def fields_FBA (n : Nat) : List Fd :=
  [ FBA_CFG.PSW n, FBA_CFG.NSW n, FBA_CFG.N n, FBA_CFG.HALL_5V n, FBA_CFG.DIR n, FBA_CFG.MODE n, FBA_CPR.CPR n, FBA_SWCFG.POL3 n, FBA_SWCFG.FUNC3 n, FBA_SWCFG.POL2 n, FBA_SWCFG.FUNC2 n, FBA_SWCFG.POL1 n, FBA_SWCFG.FUNC1 n, FBA_SWCFG.POL0 n, FBA_SWCFG.FUNC0 n, FBA_HALLOFS.OFS n, FBA_LOSS.MASK n, FBA_PRESET.VALUE n, FBA_CMD.PRESET n, FBA_POS.POS n, FBA_SPEED.SPEED n, FBA_STAT.ERR_CNT n, FBA_STAT.LOSS n, FBA_STAT.SECTOR n, FBA_STAT.HALL n, FBA_STAT.SW n]

/-! ## LCMP (spec/11_feedback_interface.md R456) -/

def LCMP_CFG.GT_EN (n : Nat) : Fd := ⟨stnPage n 0x3 * 256 + 0x20, 24, 24, .rw, 0x0, .trstPg⟩
def LCMP_CFG.GT_STOP (n : Nat) : Fd := ⟨stnPage n 0x3 * 256 + 0x20, 23, 22, .rw, 0x0, .trstPg⟩
def LCMP_CFG.GT_START (n : Nat) : Fd := ⟨stnPage n 0x3 * 256 + 0x20, 21, 20, .rw, 0x0, .trstPg⟩
def LCMP_CFG.CMP_INV (n : Nat) : Fd := ⟨stnPage n 0x3 * 256 + 0x20, 17, 17, .rw, 0x0, .trstPg⟩
def LCMP_CFG.CMP_EN (n : Nat) : Fd := ⟨stnPage n 0x3 * 256 + 0x20, 16, 16, .rw, 0x0, .trstPg⟩
def LCMP_CFG.NCAP (n : Nat) : Fd := ⟨stnPage n 0x3 * 256 + 0x20, 15, 8, .rw, 0x3, .trstPg⟩
def LCMP_CFG.CAP_5V (n : Nat) : Fd := ⟨stnPage n 0x3 * 256 + 0x20, 4, 4, .rw, 0x0, .trstPg⟩
def LCMP_CFG.CAP_EDGE (n : Nat) : Fd := ⟨stnPage n 0x3 * 256 + 0x20, 3, 3, .rw, 0x0, .trstPg⟩
def LCMP_CFG.LCONT (n : Nat) : Fd := ⟨stnPage n 0x3 * 256 + 0x20, 2, 2, .rw, 0x0, .trstPg⟩
def LCMP_CFG.LSRC (n : Nat) : Fd := ⟨stnPage n 0x3 * 256 + 0x20, 1, 0, .rw, 0x0, .trstPg⟩
def LCMP_CMD.GT_CLR (n : Nat) : Fd := ⟨stnPage n 0x3 * 256 + 0x24, 1, 1, .wo, 0x0, .never⟩
def LCMP_CMD.ARM (n : Nat) : Fd := ⟨stnPage n 0x3 * 256 + 0x24, 0, 0, .wo, 0x0, .never⟩
def LCMP_LPOS.POS (n : Nat) : Fd := ⟨stnPage n 0x3 * 256 + 0x28, 31, 0, .ro, 0x0, .trstPg⟩
def LCMP_LFT_LO.FT (n : Nat) : Fd := ⟨stnPage n 0x3 * 256 + 0x2C, 31, 0, .ro, 0x0, .trstPg⟩
def LCMP_LFT_HI.FT (n : Nat) : Fd := ⟨stnPage n 0x3 * 256 + 0x30, 31, 0, .ro, 0x0, .trstPg⟩
def LCMP_CMPVAL.VAL (n : Nat) : Fd := ⟨stnPage n 0x3 * 256 + 0x34, 31, 0, .rw, 0x0, .trstPg⟩
def LCMP_CMPSTEP.STEP (n : Nat) : Fd := ⟨stnPage n 0x3 * 256 + 0x38, 31, 0, .rw, 0x0, .trstPg⟩
def LCMP_CMPW.WIDTH (n : Nat) : Fd := ⟨stnPage n 0x3 * 256 + 0x3C, 15, 0, .rw, 0x64, .trstPg⟩
def LCMP_CMPCNT.MISSED (n : Nat) : Fd := ⟨stnPage n 0x3 * 256 + 0x40, 31, 16, .ro, 0x0, .trstPg⟩
def LCMP_CMPCNT.HITS (n : Nat) : Fd := ⟨stnPage n 0x3 * 256 + 0x40, 15, 0, .ro, 0x0, .trstPg⟩
def LCMP_GTW.WIDTH (n : Nat) : Fd := ⟨stnPage n 0x3 * 256 + 0x44, 31, 0, .ro, 0x0, .trstPg⟩
def LCMP_GTCNT.ZW (n : Nat) : Fd := ⟨stnPage n 0x3 * 256 + 0x48, 23, 16, .ro, 0x0, .trstPg⟩
def LCMP_GTCNT.RESTART (n : Nat) : Fd := ⟨stnPage n 0x3 * 256 + 0x48, 15, 8, .ro, 0x0, .trstPg⟩
def LCMP_GTCNT.ORDER (n : Nat) : Fd := ⟨stnPage n 0x3 * 256 + 0x48, 7, 0, .ro, 0x0, .trstPg⟩
def LCMP_STAT.CMP_DONE (n : Nat) : Fd := ⟨stnPage n 0x3 * 256 + 0x4C, 6, 6, .ro, 0x0, .trstPg⟩
def LCMP_STAT.CMP_OUT (n : Nat) : Fd := ⟨stnPage n 0x3 * 256 + 0x4C, 5, 5, .ro, 0x0, .trstPg⟩
def LCMP_STAT.GT_SAT (n : Nat) : Fd := ⟨stnPage n 0x3 * 256 + 0x4C, 4, 4, .ro, 0x0, .trstPg⟩
def LCMP_STAT.ZW (n : Nat) : Fd := ⟨stnPage n 0x3 * 256 + 0x4C, 3, 3, .ro, 0x0, .trstPg⟩
def LCMP_STAT.GT_RUN (n : Nat) : Fd := ⟨stnPage n 0x3 * 256 + 0x4C, 2, 2, .ro, 0x0, .trstPg⟩
def LCMP_STAT.LATCHED (n : Nat) : Fd := ⟨stnPage n 0x3 * 256 + 0x4C, 1, 1, .w1c, 0x0, .trstPg⟩
def LCMP_STAT.ARMED (n : Nat) : Fd := ⟨stnPage n 0x3 * 256 + 0x4C, 0, 0, .ro, 0x0, .trstPg⟩

/-- The block fields of a page LCMP of station `n`. -/
def fields_LCMP (n : Nat) : List Fd :=
  [ LCMP_CFG.GT_EN n, LCMP_CFG.GT_STOP n, LCMP_CFG.GT_START n, LCMP_CFG.CMP_INV n, LCMP_CFG.CMP_EN n, LCMP_CFG.NCAP n, LCMP_CFG.CAP_5V n, LCMP_CFG.CAP_EDGE n, LCMP_CFG.LCONT n, LCMP_CFG.LSRC n, LCMP_CMD.GT_CLR n, LCMP_CMD.ARM n, LCMP_LPOS.POS n, LCMP_LFT_LO.FT n, LCMP_LFT_HI.FT n, LCMP_CMPVAL.VAL n, LCMP_CMPSTEP.STEP n, LCMP_CMPW.WIDTH n, LCMP_CMPCNT.MISSED n, LCMP_CMPCNT.HITS n, LCMP_GTW.WIDTH n, LCMP_GTCNT.ZW n, LCMP_GTCNT.RESTART n, LCMP_GTCNT.ORDER n, LCMP_STAT.CMP_DONE n, LCMP_STAT.CMP_OUT n, LCMP_STAT.GT_SAT n, LCMP_STAT.ZW n, LCMP_STAT.GT_RUN n, LCMP_STAT.LATCHED n, LCMP_STAT.ARMED n]

/-! ## ISNS (spec/12_current_sensing_and_sample_validity.md R486) -/

def ISNS_CFG.DSKEW (n : Nat) : Fd := ⟨stnPage n 0x4 * 256 + 0x20, 22, 20, .rw, 0x2, .trstPg⟩
def ISNS_CFG.POSR (n : Nat) : Fd := ⟨stnPage n 0x4 * 256 + 0x20, 17, 16, .rw, 0x1, .trstPg⟩
def ISNS_CFG.OSR (n : Nat) : Fd := ⟨stnPage n 0x4 * 256 + 0x20, 13, 12, .rw, 0x2, .trstPg⟩
def ISNS_CFG.ORD (n : Nat) : Fd := ⟨stnPage n 0x4 * 256 + 0x20, 9, 8, .rw, 0x3, .trstPg⟩
def ISNS_CFG.TRK_EN (n : Nat) : Fd := ⟨stnPage n 0x4 * 256 + 0x20, 5, 5, .rw, 0x0, .trstPg⟩
def ISNS_CFG.LOC (n : Nat) : Fd := ⟨stnPage n 0x4 * 256 + 0x20, 4, 4, .rw, 0x0, .trstPg⟩
def ISNS_CFG.CH_EN (n : Nat) : Fd := ⟨stnPage n 0x4 * 256 + 0x20, 3, 0, .rw, 0xF, .trstPg⟩
def ISNS_CMD.CAL (n : Nat) : Fd := ⟨stnPage n 0x4 * 256 + 0x24, 0, 0, .wo, 0x0, .never⟩
def ISNS_STAT.TRK_LIMIT (n : Nat) : Fd := ⟨stnPage n 0x4 * 256 + 0x28, 13, 13, .ro, 0x0, .trstPg⟩
def ISNS_STAT.TRK_ACT (n : Nat) : Fd := ⟨stnPage n 0x4 * 256 + 0x28, 12, 12, .ro, 0x0, .trstPg⟩
def ISNS_STAT.VALID (n : Nat) : Fd := ⟨stnPage n 0x4 * 256 + 0x28, 11, 8, .ro, 0x0, .trstPg⟩
def ISNS_STAT.STUCK (n : Nat) : Fd := ⟨stnPage n 0x4 * 256 + 0x28, 7, 4, .ro, 0x0, .trstPg⟩
def ISNS_STAT.CAL_STATE (n : Nat) : Fd := ⟨stnPage n 0x4 * 256 + 0x28, 1, 0, .ro, 0x0, .trstPg⟩
def ISNS_INV.RUN_MAX (n : Nat) : Fd := ⟨stnPage n 0x4 * 256 + 0x2C, 23, 16, .ro, 0x0, .trstPg⟩
def ISNS_INV.RUN (n : Nat) : Fd := ⟨stnPage n 0x4 * 256 + 0x2C, 15, 8, .ro, 0x0, .trstPg⟩
def ISNS_INV.INVALID_MAX (n : Nat) : Fd := ⟨stnPage n 0x4 * 256 + 0x2C, 7, 0, .rw, 0x8, .trstPg⟩
def ISNS_CALCFG.TRK_SHIFT (n : Nat) : Fd := ⟨stnPage n 0x4 * 256 + 0x30, 27, 24, .rw, 0x8, .trstPg⟩
def ISNS_CALCFG.SETTLE (n : Nat) : Fd := ⟨stnPage n 0x4 * 256 + 0x30, 23, 16, .rw, 0xA, .trstPg⟩
def ISNS_CALCFG.CALLIM (n : Nat) : Fd := ⟨stnPage n 0x4 * 256 + 0x30, 15, 0, .rw, 0xA00, .trstPg⟩
def ISNS_TRKLIM.TRKLIM (n : Nat) : Fd := ⟨stnPage n 0x4 * 256 + 0x34, 15, 0, .rw, 0x400, .trstPg⟩
def ISNS_GAIN.GAIN (n : Nat) (i : Nat) : Fd := ⟨stnPage n 0x4 * 256 + 0x38 + 4 * i, 15, 0, .rw, 0x2000, .trstPg⟩
def ISNS_OFS.OFS (n : Nat) (i : Nat) : Fd := ⟨stnPage n 0x4 * 256 + 0x48 + 4 * i, 23, 0, .rw, 0x0, .trstPg⟩
def ISNS_CNT.STUCK (n : Nat) : Fd := ⟨stnPage n 0x4 * 256 + 0x58, 31, 16, .ro, 0x0, .trstPg⟩
def ISNS_CNT.INVALID (n : Nat) : Fd := ⟨stnPage n 0x4 * 256 + 0x58, 15, 0, .ro, 0x0, .trstPg⟩

/-- The block fields of a page ISNS of station `n`. -/
def fields_ISNS (n : Nat) : List Fd :=
  [ ISNS_CFG.DSKEW n, ISNS_CFG.POSR n, ISNS_CFG.OSR n, ISNS_CFG.ORD n, ISNS_CFG.TRK_EN n, ISNS_CFG.LOC n, ISNS_CFG.CH_EN n, ISNS_CMD.CAL n, ISNS_STAT.TRK_LIMIT n, ISNS_STAT.TRK_ACT n, ISNS_STAT.VALID n, ISNS_STAT.STUCK n, ISNS_STAT.CAL_STATE n, ISNS_INV.RUN_MAX n, ISNS_INV.RUN n, ISNS_INV.INVALID_MAX n, ISNS_CALCFG.TRK_SHIFT n, ISNS_CALCFG.SETTLE n, ISNS_CALCFG.CALLIM n, ISNS_TRKLIM.TRKLIM n]
  ++ (List.range 4).flatMap (fun i => [ ISNS_GAIN.GAIN n i])
  ++ (List.range 4).flatMap (fun i => [ ISNS_OFS.OFS n i])
  ++ [ ISNS_CNT.STUCK n, ISNS_CNT.INVALID n]

/-! ## CURL (spec/13_control_loops.md R522) -/

def CURL_CFG.ANG_SRC (n : Nat) : Fd := ⟨stnPage n 0x5 * 256 + 0x20, 9, 8, .rw, 0x0, .trstPg⟩
def CURL_CFG.DSRC (n : Nat) : Fd := ⟨stnPage n 0x5 * 256 + 0x20, 4, 4, .rw, 0x0, .trstPg⟩
def CURL_KP.K (n : Nat) : Fd := ⟨stnPage n 0x5 * 256 + 0x24, 19, 0, .rw, 0x0, .trstPg⟩
def CURL_KI.K (n : Nat) : Fd := ⟨stnPage n 0x5 * 256 + 0x28, 19, 0, .rw, 0x0, .trstPg⟩
def CURL_KD.K (n : Nat) : Fd := ⟨stnPage n 0x5 * 256 + 0x2C, 19, 0, .rw, 0x0, .trstPg⟩
def CURL_DPOLE.A (n : Nat) : Fd := ⟨stnPage n 0x5 * 256 + 0x30, 15, 0, .rw, 0x0, .trstPg⟩
def CURL_OLIM.LIM (n : Nat) : Fd := ⟨stnPage n 0x5 * 256 + 0x34, 31, 0, .rw, 0x7FFF8000, .trstPg⟩
def CURL_ILIM.LIM (n : Nat) : Fd := ⟨stnPage n 0x5 * 256 + 0x38, 31, 0, .rw, 0x7FFF8000, .trstPg⟩
def CURL_KT.K (n : Nat) : Fd := ⟨stnPage n 0x5 * 256 + 0x3C, 19, 0, .rw, 0x14000, .trstPg⟩
def CURL_IDREF.IDREF (n : Nat) : Fd := ⟨stnPage n 0x5 * 256 + 0x40, 15, 0, .rw, 0x0, .trstPg⟩
def CURL_IMAX.IMAX (n : Nat) : Fd := ⟨stnPage n 0x5 * 256 + 0x44, 15, 0, .rw, 0x7FFF, .trstPg⟩
def CURL_ANG.THETA_OFS (n : Nat) : Fd := ⟨stnPage n 0x5 * 256 + 0x48, 31, 16, .rw, 0x0, .trstPg⟩
def CURL_ANG.PP (n : Nat) : Fd := ⟨stnPage n 0x5 * 256 + 0x48, 7, 0, .rw, 0x1, .trstPg⟩
def CURL_KSLIP.K (n : Nat) : Fd := ⟨stnPage n 0x5 * 256 + 0x4C, 19, 0, .rw, 0x0, .trstPg⟩
def CURL_STAT.DCLAMP (n : Nat) : Fd := ⟨stnPage n 0x5 * 256 + 0x50, 18, 18, .ro, 0x0, .trstPg⟩
def CURL_STAT.IQLIM (n : Nat) : Fd := ⟨stnPage n 0x5 * 256 + 0x50, 17, 17, .ro, 0x0, .trstPg⟩
def CURL_STAT.VSAT (n : Nat) : Fd := ⟨stnPage n 0x5 * 256 + 0x50, 16, 16, .ro, 0x0, .trstPg⟩
def CURL_STAT.VSAT_CNT (n : Nat) : Fd := ⟨stnPage n 0x5 * 256 + 0x50, 15, 0, .ro, 0x0, .trstPg⟩
def CURL_IDQ.IQ (n : Nat) : Fd := ⟨stnPage n 0x5 * 256 + 0x54, 31, 16, .ro, 0x0, .trstPg⟩
def CURL_IDQ.ID (n : Nat) : Fd := ⟨stnPage n 0x5 * 256 + 0x54, 15, 0, .ro, 0x0, .trstPg⟩
def CURL_VDQ.VQ (n : Nat) : Fd := ⟨stnPage n 0x5 * 256 + 0x58, 31, 16, .ro, 0x0, .trstPg⟩
def CURL_VDQ.VD (n : Nat) : Fd := ⟨stnPage n 0x5 * 256 + 0x58, 15, 0, .ro, 0x0, .trstPg⟩
def CURL_UDC.VMAX (n : Nat) : Fd := ⟨stnPage n 0x5 * 256 + 0x5C, 31, 16, .ro, 0x0, .trstPg⟩
def CURL_UDC.UDC (n : Nat) : Fd := ⟨stnPage n 0x5 * 256 + 0x5C, 15, 0, .ro, 0x0, .trstPg⟩

/-- The block fields of a page CURL of station `n`. -/
def fields_CURL (n : Nat) : List Fd :=
  [ CURL_CFG.ANG_SRC n, CURL_CFG.DSRC n, CURL_KP.K n, CURL_KI.K n, CURL_KD.K n, CURL_DPOLE.A n, CURL_OLIM.LIM n, CURL_ILIM.LIM n, CURL_KT.K n, CURL_IDREF.IDREF n, CURL_IMAX.IMAX n, CURL_ANG.THETA_OFS n, CURL_ANG.PP n, CURL_KSLIP.K n, CURL_STAT.DCLAMP n, CURL_STAT.IQLIM n, CURL_STAT.VSAT n, CURL_STAT.VSAT_CNT n, CURL_IDQ.IQ n, CURL_IDQ.ID n, CURL_VDQ.VQ n, CURL_VDQ.VD n, CURL_UDC.VMAX n, CURL_UDC.UDC n]

/-! ## SPDL (spec/13_control_loops.md R522) -/

def SPDL_CFG.DV (n : Nat) : Fd := ⟨stnPage n 0x6 * 256 + 0x20, 10, 8, .rw, 0x0, .trstPg⟩
def SPDL_CFG.FMT (n : Nat) : Fd := ⟨stnPage n 0x6 * 256 + 0x20, 4, 4, .rw, 0x0, .trstPg⟩
def SPDL_CFG.DSRC (n : Nat) : Fd := ⟨stnPage n 0x6 * 256 + 0x20, 2, 2, .rw, 0x0, .trstPg⟩
def SPDL_CFG.AFF_EN (n : Nat) : Fd := ⟨stnPage n 0x6 * 256 + 0x20, 1, 1, .rw, 0x0, .trstPg⟩
def SPDL_KP.K (n : Nat) : Fd := ⟨stnPage n 0x6 * 256 + 0x24, 19, 0, .rw, 0x0, .trstPg⟩
def SPDL_KI.K (n : Nat) : Fd := ⟨stnPage n 0x6 * 256 + 0x28, 19, 0, .rw, 0x0, .trstPg⟩
def SPDL_KD.K (n : Nat) : Fd := ⟨stnPage n 0x6 * 256 + 0x2C, 19, 0, .rw, 0x0, .trstPg⟩
def SPDL_DPOLE.A (n : Nat) : Fd := ⟨stnPage n 0x6 * 256 + 0x30, 15, 0, .rw, 0x0, .trstPg⟩
def SPDL_OLIM.LIM (n : Nat) : Fd := ⟨stnPage n 0x6 * 256 + 0x34, 31, 0, .rw, 0x7FFF8000, .trstPg⟩
def SPDL_ILIM.LIM (n : Nat) : Fd := ⟨stnPage n 0x6 * 256 + 0x38, 31, 0, .rw, 0x7FFF8000, .trstPg⟩
def SPDL_KAFF.K (n : Nat) : Fd := ⟨stnPage n 0x6 * 256 + 0x3C, 19, 0, .rw, 0x0, .trstPg⟩
def SPDL_STAT.ES (n : Nat) : Fd := ⟨stnPage n 0x6 * 256 + 0x40, 29, 24, .ro, 0x0, .trstPg⟩
def SPDL_STAT.BFP_OVF (n : Nat) : Fd := ⟨stnPage n 0x6 * 256 + 0x40, 18, 18, .ro, 0x0, .trstPg⟩
def SPDL_STAT.IFRZ (n : Nat) : Fd := ⟨stnPage n 0x6 * 256 + 0x40, 17, 17, .ro, 0x0, .trstPg⟩
def SPDL_STAT.OSAT (n : Nat) : Fd := ⟨stnPage n 0x6 * 256 + 0x40, 16, 16, .ro, 0x0, .trstPg⟩
def SPDL_REF.NREF (n : Nat) : Fd := ⟨stnPage n 0x6 * 256 + 0x44, 31, 16, .ro, 0x0, .trstPg⟩
def SPDL_REF.TREF (n : Nat) : Fd := ⟨stnPage n 0x6 * 256 + 0x44, 15, 0, .ro, 0x0, .trstPg⟩

/-- The block fields of a page SPDL of station `n`. -/
def fields_SPDL (n : Nat) : List Fd :=
  [ SPDL_CFG.DV n, SPDL_CFG.FMT n, SPDL_CFG.DSRC n, SPDL_CFG.AFF_EN n, SPDL_KP.K n, SPDL_KI.K n, SPDL_KD.K n, SPDL_DPOLE.A n, SPDL_OLIM.LIM n, SPDL_ILIM.LIM n, SPDL_KAFF.K n, SPDL_STAT.ES n, SPDL_STAT.BFP_OVF n, SPDL_STAT.IFRZ n, SPDL_STAT.OSAT n, SPDL_REF.NREF n, SPDL_REF.TREF n]

/-! ## OUTL (spec/13_control_loops.md R522) -/

def OUTL_CFG.AINSEL (n : Nat) : Fd := ⟨stnPage n 0x7 * 256 + 0x20, 18, 16, .rw, 0x0, .trstPg⟩
def OUTL_CFG.PSH (n : Nat) : Fd := ⟨stnPage n 0x7 * 256 + 0x20, 15, 12, .rw, 0x0, .trstPg⟩
def OUTL_CFG.DO (n : Nat) : Fd := ⟨stnPage n 0x7 * 256 + 0x20, 10, 8, .rw, 0x0, .trstPg⟩
def OUTL_CFG.FMT (n : Nat) : Fd := ⟨stnPage n 0x7 * 256 + 0x20, 4, 4, .rw, 0x0, .trstPg⟩
def OUTL_CFG.DSRC (n : Nat) : Fd := ⟨stnPage n 0x7 * 256 + 0x20, 2, 2, .rw, 0x0, .trstPg⟩
def OUTL_CFG.MODE (n : Nat) : Fd := ⟨stnPage n 0x7 * 256 + 0x20, 0, 0, .rw, 0x0, .trstPg⟩
def OUTL_KP.K (n : Nat) : Fd := ⟨stnPage n 0x7 * 256 + 0x24, 19, 0, .rw, 0x0, .trstPg⟩
def OUTL_KI.K (n : Nat) : Fd := ⟨stnPage n 0x7 * 256 + 0x28, 19, 0, .rw, 0x0, .trstPg⟩
def OUTL_KD.K (n : Nat) : Fd := ⟨stnPage n 0x7 * 256 + 0x2C, 19, 0, .rw, 0x0, .trstPg⟩
def OUTL_DPOLE.A (n : Nat) : Fd := ⟨stnPage n 0x7 * 256 + 0x30, 15, 0, .rw, 0x0, .trstPg⟩
def OUTL_OLIM.LIM (n : Nat) : Fd := ⟨stnPage n 0x7 * 256 + 0x34, 31, 0, .rw, 0x7FFF8000, .trstPg⟩
def OUTL_ILIM.LIM (n : Nat) : Fd := ⟨stnPage n 0x7 * 256 + 0x38, 31, 0, .rw, 0x7FFF8000, .trstPg⟩
def OUTL_FBK.K (n : Nat) : Fd := ⟨stnPage n 0x7 * 256 + 0x3C, 19, 0, .rw, 0x0, .trstPg⟩
def OUTL_FBOFS.FBOFS (n : Nat) : Fd := ⟨stnPage n 0x7 * 256 + 0x40, 15, 0, .rw, 0x0, .trstPg⟩
def OUTL_STAT.ES (n : Nat) : Fd := ⟨stnPage n 0x7 * 256 + 0x44, 29, 24, .ro, 0x0, .trstPg⟩
def OUTL_STAT.BFP_OVF (n : Nat) : Fd := ⟨stnPage n 0x7 * 256 + 0x44, 18, 18, .ro, 0x0, .trstPg⟩
def OUTL_STAT.OSAT (n : Nat) : Fd := ⟨stnPage n 0x7 * 256 + 0x44, 16, 16, .ro, 0x0, .trstPg⟩
def OUTL_FB.FB (n : Nat) : Fd := ⟨stnPage n 0x7 * 256 + 0x48, 15, 0, .ro, 0x0, .trstPg⟩

/-- The block fields of a page OUTL of station `n`. -/
def fields_OUTL (n : Nat) : List Fd :=
  [ OUTL_CFG.AINSEL n, OUTL_CFG.PSH n, OUTL_CFG.DO n, OUTL_CFG.FMT n, OUTL_CFG.DSRC n, OUTL_CFG.MODE n, OUTL_KP.K n, OUTL_KI.K n, OUTL_KD.K n, OUTL_DPOLE.A n, OUTL_OLIM.LIM n, OUTL_ILIM.LIM n, OUTL_FBK.K n, OUTL_FBOFS.FBOFS n, OUTL_STAT.ES n, OUTL_STAT.BFP_OVF n, OUTL_STAT.OSAT n, OUTL_FB.FB n]

/-! ## FILT (spec/13_control_loops.md R522) -/

def FILT_NB.B1 (n : Nat) (i : Nat) : Fd := ⟨stnPage n 0x8 * 256 + 0x20 + 16 * i, 31, 16, .rw, 0x0, .trstPg⟩
def FILT_NB.B0 (n : Nat) (i : Nat) : Fd := ⟨stnPage n 0x8 * 256 + 0x20 + 16 * i, 15, 0, .rw, 0x0, .trstPg⟩
def FILT_NA.A1 (n : Nat) (i : Nat) : Fd := ⟨stnPage n 0x8 * 256 + 0x24 + 16 * i, 31, 16, .rw, 0x0, .trstPg⟩
def FILT_NA.B2 (n : Nat) (i : Nat) : Fd := ⟨stnPage n 0x8 * 256 + 0x24 + 16 * i, 15, 0, .rw, 0x0, .trstPg⟩
def FILT_NC.EN (n : Nat) (i : Nat) : Fd := ⟨stnPage n 0x8 * 256 + 0x28 + 16 * i, 24, 24, .rw, 0x0, .trstPg⟩
def FILT_NC.NSH (n : Nat) (i : Nat) : Fd := ⟨stnPage n 0x8 * 256 + 0x28 + 16 * i, 17, 16, .rw, 0x0, .trstPg⟩
def FILT_NC.A2 (n : Nat) (i : Nat) : Fd := ⟨stnPage n 0x8 * 256 + 0x28 + 16 * i, 15, 0, .rw, 0x0, .trstPg⟩
def FILT_LPF.EN (n : Nat) : Fd := ⟨stnPage n 0x8 * 256 + 0x50, 16, 16, .rw, 0x0, .trstPg⟩
def FILT_LPF.A (n : Nat) : Fd := ⟨stnPage n 0x8 * 256 + 0x50, 15, 0, .rw, 0x0, .trstPg⟩

/-- The block fields of a page FILT of station `n`. -/
def fields_FILT (n : Nat) : List Fd :=
  (List.range 3).flatMap (fun i => [ FILT_NB.B1 n i, FILT_NB.B0 n i])
  ++ (List.range 3).flatMap (fun i => [ FILT_NA.A1 n i, FILT_NA.B2 n i])
  ++ (List.range 3).flatMap (fun i => [ FILT_NC.EN n i, FILT_NC.NSH n i, FILT_NC.A2 n i])
  ++ [ FILT_LPF.EN n, FILT_LPF.A n]

/-! ## BNKA (spec/14_loop_timing_banks_and_trace.md R554) -/

def BNKA_STAT.SWAPS (n : Nat) : Fd := ⟨stnPage n 0x9 * 256 + 0x20, 31, 16, .ro, 0x0, .trstPg⟩
def BNKA_STAT.LAST_SRC (n : Nat) : Fd := ⟨stnPage n 0x9 * 256 + 0x20, 10, 8, .ro, 0x0, .trstPg⟩
def BNKA_STAT.HP_SCOPE (n : Nat) : Fd := ⟨stnPage n 0x9 * 256 + 0x20, 5, 4, .ro, 0x0, .trstPg⟩
def BNKA_STAT.HP_BANK (n : Nat) : Fd := ⟨stnPage n 0x9 * 256 + 0x20, 3, 3, .ro, 0x0, .trstPg⟩
def BNKA_STAT.HPEND (n : Nat) : Fd := ⟨stnPage n 0x9 * 256 + 0x20, 2, 2, .ro, 0x0, .trstPg⟩
def BNKA_STAT.ACT_SO (n : Nat) : Fd := ⟨stnPage n 0x9 * 256 + 0x20, 1, 1, .ro, 0x0, .trstPg⟩
def BNKA_STAT.ACT_CUR (n : Nat) : Fd := ⟨stnPage n 0x9 * 256 + 0x20, 0, 0, .ro, 0x0, .trstPg⟩
def BNKA_SWAP.BANK (n : Nat) : Fd := ⟨stnPage n 0x9 * 256 + 0x24, 8, 8, .wo, 0x0, .never⟩
def BNKA_SWAP.SCOPE (n : Nat) : Fd := ⟨stnPage n 0x9 * 256 + 0x24, 5, 4, .wo, 0x0, .never⟩
def BNKA_SWAP.REQ (n : Nat) : Fd := ⟨stnPage n 0x9 * 256 + 0x24, 0, 0, .wo, 0x0, .never⟩
def BNKA_TRIGCFG.SCOPE3 (n : Nat) : Fd := ⟨stnPage n 0x9 * 256 + 0x28, 15, 14, .rw, 0x0, .trstPg⟩
def BNKA_TRIGCFG.BANK3 (n : Nat) : Fd := ⟨stnPage n 0x9 * 256 + 0x28, 13, 13, .rw, 0x0, .trstPg⟩
def BNKA_TRIGCFG.EN3 (n : Nat) : Fd := ⟨stnPage n 0x9 * 256 + 0x28, 12, 12, .rw, 0x0, .trstPg⟩
def BNKA_TRIGCFG.SCOPE2 (n : Nat) : Fd := ⟨stnPage n 0x9 * 256 + 0x28, 11, 10, .rw, 0x0, .trstPg⟩
def BNKA_TRIGCFG.BANK2 (n : Nat) : Fd := ⟨stnPage n 0x9 * 256 + 0x28, 9, 9, .rw, 0x0, .trstPg⟩
def BNKA_TRIGCFG.EN2 (n : Nat) : Fd := ⟨stnPage n 0x9 * 256 + 0x28, 8, 8, .rw, 0x0, .trstPg⟩
def BNKA_TRIGCFG.SCOPE1 (n : Nat) : Fd := ⟨stnPage n 0x9 * 256 + 0x28, 7, 6, .rw, 0x0, .trstPg⟩
def BNKA_TRIGCFG.BANK1 (n : Nat) : Fd := ⟨stnPage n 0x9 * 256 + 0x28, 5, 5, .rw, 0x0, .trstPg⟩
def BNKA_TRIGCFG.EN1 (n : Nat) : Fd := ⟨stnPage n 0x9 * 256 + 0x28, 4, 4, .rw, 0x0, .trstPg⟩
def BNKA_TRIGCFG.SCOPE0 (n : Nat) : Fd := ⟨stnPage n 0x9 * 256 + 0x28, 3, 2, .rw, 0x0, .trstPg⟩
def BNKA_TRIGCFG.BANK0 (n : Nat) : Fd := ⟨stnPage n 0x9 * 256 + 0x28, 1, 1, .rw, 0x0, .trstPg⟩
def BNKA_TRIGCFG.EN0 (n : Nat) : Fd := ⟨stnPage n 0x9 * 256 + 0x28, 0, 0, .rw, 0x0, .trstPg⟩
def BNKA_RET.ICE (n : Nat) : Fd := ⟨stnPage n 0x9 * 256 + 0x2C, 23, 16, .rw, 0x0, .trstPg⟩
def BNKA_RET.VENT (n : Nat) : Fd := ⟨stnPage n 0x9 * 256 + 0x2C, 15, 8, .rw, 0x0, .trstPg⟩
def BNKA_RET.SNATCH (n : Nat) : Fd := ⟨stnPage n 0x9 * 256 + 0x2C, 7, 0, .rw, 0x0, .trstPg⟩
def BNKA_DETTHR.SR_THR (n : Nat) (i : Nat) : Fd := ⟨stnPage n 0x9 * 256 + 0x30 + 8 * i, 31, 16, .rw, 0x0, .trstPg⟩
def BNKA_DETTHR.TER_THR (n : Nat) (i : Nat) : Fd := ⟨stnPage n 0x9 * 256 + 0x30 + 8 * i, 15, 0, .rw, 0x0, .trstPg⟩
def BNKA_DETCFG.W (n : Nat) (i : Nat) : Fd := ⟨stnPage n 0x9 * 256 + 0x34 + 8 * i, 4, 0, .rw, 0x1, .trstPg⟩
def BNKA_FIRECNT.FIRE3 (n : Nat) : Fd := ⟨stnPage n 0x9 * 256 + 0x48, 31, 24, .ro, 0x0, .trstPg⟩
def BNKA_FIRECNT.FIRE2 (n : Nat) : Fd := ⟨stnPage n 0x9 * 256 + 0x48, 23, 16, .ro, 0x0, .trstPg⟩
def BNKA_FIRECNT.FIRE1 (n : Nat) : Fd := ⟨stnPage n 0x9 * 256 + 0x48, 15, 8, .ro, 0x0, .trstPg⟩
def BNKA_FIRECNT.FIRE0 (n : Nat) : Fd := ⟨stnPage n 0x9 * 256 + 0x48, 7, 0, .ro, 0x0, .trstPg⟩
def BNKA_DEFCNT.DEFER (n : Nat) : Fd := ⟨stnPage n 0x9 * 256 + 0x4C, 15, 0, .ro, 0x0, .trstPg⟩
def BNKA_CMD.COPY (n : Nat) : Fd := ⟨stnPage n 0x9 * 256 + 0x50, 0, 0, .wo, 0x0, .never⟩

/-- The block fields of a page BNKA of station `n`. -/
def fields_BNKA (n : Nat) : List Fd :=
  [ BNKA_STAT.SWAPS n, BNKA_STAT.LAST_SRC n, BNKA_STAT.HP_SCOPE n, BNKA_STAT.HP_BANK n, BNKA_STAT.HPEND n, BNKA_STAT.ACT_SO n, BNKA_STAT.ACT_CUR n, BNKA_SWAP.BANK n, BNKA_SWAP.SCOPE n, BNKA_SWAP.REQ n, BNKA_TRIGCFG.SCOPE3 n, BNKA_TRIGCFG.BANK3 n, BNKA_TRIGCFG.EN3 n, BNKA_TRIGCFG.SCOPE2 n, BNKA_TRIGCFG.BANK2 n, BNKA_TRIGCFG.EN2 n, BNKA_TRIGCFG.SCOPE1 n, BNKA_TRIGCFG.BANK1 n, BNKA_TRIGCFG.EN1 n, BNKA_TRIGCFG.SCOPE0 n, BNKA_TRIGCFG.BANK0 n, BNKA_TRIGCFG.EN0 n, BNKA_RET.ICE n, BNKA_RET.VENT n, BNKA_RET.SNATCH n]
  ++ (List.range 3).flatMap (fun i => [ BNKA_DETTHR.SR_THR n i, BNKA_DETTHR.TER_THR n i])
  ++ (List.range 3).flatMap (fun i => [ BNKA_DETCFG.W n i])
  ++ [ BNKA_FIRECNT.FIRE3 n, BNKA_FIRECNT.FIRE2 n, BNKA_FIRECNT.FIRE1 n, BNKA_FIRECNT.FIRE0 n, BNKA_DEFCNT.DEFER n, BNKA_CMD.COPY n]

/-! ## BNKB (spec/14_loop_timing_banks_and_trace.md R555) -/

def BNKB_CURL_KP.K (n : Nat) : Fd := ⟨stnPage n 0xA * 256 + 0x20, 19, 0, .rw, 0x0, .trstPg⟩
def BNKB_CURL_KI.K (n : Nat) : Fd := ⟨stnPage n 0xA * 256 + 0x24, 19, 0, .rw, 0x0, .trstPg⟩
def BNKB_CURL_KD.K (n : Nat) : Fd := ⟨stnPage n 0xA * 256 + 0x28, 19, 0, .rw, 0x0, .trstPg⟩
def BNKB_CURL_DPOLE.A (n : Nat) : Fd := ⟨stnPage n 0xA * 256 + 0x2C, 15, 0, .rw, 0x0, .trstPg⟩
def BNKB_CURL_OLIM.LIM (n : Nat) : Fd := ⟨stnPage n 0xA * 256 + 0x30, 31, 0, .rw, 0x7FFF8000, .trstPg⟩
def BNKB_CURL_ILIM.LIM (n : Nat) : Fd := ⟨stnPage n 0xA * 256 + 0x34, 31, 0, .rw, 0x7FFF8000, .trstPg⟩
def BNKB_CURL_KT.K (n : Nat) : Fd := ⟨stnPage n 0xA * 256 + 0x38, 19, 0, .rw, 0x14000, .trstPg⟩
def BNKB_CURL_IDREF.IDREF (n : Nat) : Fd := ⟨stnPage n 0xA * 256 + 0x3C, 15, 0, .rw, 0x0, .trstPg⟩
def BNKB_CURL_IMAX.IMAX (n : Nat) : Fd := ⟨stnPage n 0xA * 256 + 0x40, 15, 0, .rw, 0x7FFF, .trstPg⟩
def BNKB_CURL_KSLIP.K (n : Nat) : Fd := ⟨stnPage n 0xA * 256 + 0x44, 19, 0, .rw, 0x0, .trstPg⟩
def BNKB_SPDL_KP.K (n : Nat) : Fd := ⟨stnPage n 0xA * 256 + 0x48, 19, 0, .rw, 0x0, .trstPg⟩
def BNKB_SPDL_KI.K (n : Nat) : Fd := ⟨stnPage n 0xA * 256 + 0x4C, 19, 0, .rw, 0x0, .trstPg⟩
def BNKB_SPDL_KD.K (n : Nat) : Fd := ⟨stnPage n 0xA * 256 + 0x50, 19, 0, .rw, 0x0, .trstPg⟩
def BNKB_SPDL_DPOLE.A (n : Nat) : Fd := ⟨stnPage n 0xA * 256 + 0x54, 15, 0, .rw, 0x0, .trstPg⟩
def BNKB_SPDL_OLIM.LIM (n : Nat) : Fd := ⟨stnPage n 0xA * 256 + 0x58, 31, 0, .rw, 0x7FFF8000, .trstPg⟩
def BNKB_SPDL_ILIM.LIM (n : Nat) : Fd := ⟨stnPage n 0xA * 256 + 0x5C, 31, 0, .rw, 0x7FFF8000, .trstPg⟩
def BNKB_SPDL_KAFF.K (n : Nat) : Fd := ⟨stnPage n 0xA * 256 + 0x60, 19, 0, .rw, 0x0, .trstPg⟩
def BNKB_OUTL_KP.K (n : Nat) : Fd := ⟨stnPage n 0xA * 256 + 0x64, 19, 0, .rw, 0x0, .trstPg⟩
def BNKB_OUTL_KI.K (n : Nat) : Fd := ⟨stnPage n 0xA * 256 + 0x68, 19, 0, .rw, 0x0, .trstPg⟩
def BNKB_OUTL_KD.K (n : Nat) : Fd := ⟨stnPage n 0xA * 256 + 0x6C, 19, 0, .rw, 0x0, .trstPg⟩
def BNKB_OUTL_DPOLE.A (n : Nat) : Fd := ⟨stnPage n 0xA * 256 + 0x70, 15, 0, .rw, 0x0, .trstPg⟩
def BNKB_OUTL_OLIM.LIM (n : Nat) : Fd := ⟨stnPage n 0xA * 256 + 0x74, 31, 0, .rw, 0x7FFF8000, .trstPg⟩
def BNKB_OUTL_ILIM.LIM (n : Nat) : Fd := ⟨stnPage n 0xA * 256 + 0x78, 31, 0, .rw, 0x7FFF8000, .trstPg⟩
def BNKB_OUTL_FBK.K (n : Nat) : Fd := ⟨stnPage n 0xA * 256 + 0x7C, 19, 0, .rw, 0x0, .trstPg⟩
def BNKB_OUTL_FBOFS.FBOFS (n : Nat) : Fd := ⟨stnPage n 0xA * 256 + 0x80, 15, 0, .rw, 0x0, .trstPg⟩
def BNKB_FILT_NB.B1 (n : Nat) (i : Nat) : Fd := ⟨stnPage n 0xA * 256 + 0x84 + 12 * i, 31, 16, .rw, 0x0, .trstPg⟩
def BNKB_FILT_NB.B0 (n : Nat) (i : Nat) : Fd := ⟨stnPage n 0xA * 256 + 0x84 + 12 * i, 15, 0, .rw, 0x0, .trstPg⟩
def BNKB_FILT_NA.A1 (n : Nat) (i : Nat) : Fd := ⟨stnPage n 0xA * 256 + 0x88 + 12 * i, 31, 16, .rw, 0x0, .trstPg⟩
def BNKB_FILT_NA.B2 (n : Nat) (i : Nat) : Fd := ⟨stnPage n 0xA * 256 + 0x88 + 12 * i, 15, 0, .rw, 0x0, .trstPg⟩
def BNKB_FILT_NC.EN (n : Nat) (i : Nat) : Fd := ⟨stnPage n 0xA * 256 + 0x8C + 12 * i, 24, 24, .rw, 0x0, .trstPg⟩
def BNKB_FILT_NC.NSH (n : Nat) (i : Nat) : Fd := ⟨stnPage n 0xA * 256 + 0x8C + 12 * i, 17, 16, .rw, 0x0, .trstPg⟩
def BNKB_FILT_NC.A2 (n : Nat) (i : Nat) : Fd := ⟨stnPage n 0xA * 256 + 0x8C + 12 * i, 15, 0, .rw, 0x0, .trstPg⟩
def BNKB_FILT_LPF.EN (n : Nat) : Fd := ⟨stnPage n 0xA * 256 + 0xA8, 16, 16, .rw, 0x0, .trstPg⟩
def BNKB_FILT_LPF.A (n : Nat) : Fd := ⟨stnPage n 0xA * 256 + 0xA8, 15, 0, .rw, 0x0, .trstPg⟩

/-- The block fields of a page BNKB of station `n`. -/
def fields_BNKB (n : Nat) : List Fd :=
  [ BNKB_CURL_KP.K n, BNKB_CURL_KI.K n, BNKB_CURL_KD.K n, BNKB_CURL_DPOLE.A n, BNKB_CURL_OLIM.LIM n, BNKB_CURL_ILIM.LIM n, BNKB_CURL_KT.K n, BNKB_CURL_IDREF.IDREF n, BNKB_CURL_IMAX.IMAX n, BNKB_CURL_KSLIP.K n, BNKB_SPDL_KP.K n, BNKB_SPDL_KI.K n, BNKB_SPDL_KD.K n, BNKB_SPDL_DPOLE.A n, BNKB_SPDL_OLIM.LIM n, BNKB_SPDL_ILIM.LIM n, BNKB_SPDL_KAFF.K n, BNKB_OUTL_KP.K n, BNKB_OUTL_KI.K n, BNKB_OUTL_KD.K n, BNKB_OUTL_DPOLE.A n, BNKB_OUTL_OLIM.LIM n, BNKB_OUTL_ILIM.LIM n, BNKB_OUTL_FBK.K n, BNKB_OUTL_FBOFS.FBOFS n]
  ++ (List.range 3).flatMap (fun i => [ BNKB_FILT_NB.B1 n i, BNKB_FILT_NB.B0 n i])
  ++ (List.range 3).flatMap (fun i => [ BNKB_FILT_NA.A1 n i, BNKB_FILT_NA.B2 n i])
  ++ (List.range 3).flatMap (fun i => [ BNKB_FILT_NC.EN n i, BNKB_FILT_NC.NSH n i, BNKB_FILT_NC.A2 n i])
  ++ [ BNKB_FILT_LPF.EN n, BNKB_FILT_LPF.A n]

/-! ## PROF (spec/15_setpoint_sources.md R584) -/

def PROF_CFG.SRC (n : Nat) : Fd := ⟨stnPage n 0xB * 256 + 0x20, 18, 16, .rw, 0x0, .trstPg⟩
def PROF_CFG.WARM (n : Nat) : Fd := ⟨stnPage n 0xB * 256 + 0x20, 4, 4, .rw, 0x0, .trstPg⟩
def PROF_VMAX.VMAX (n : Nat) : Fd := ⟨stnPage n 0xB * 256 + 0x24, 14, 0, .rw, 0x7FFF, .trstPg⟩
def PROF_AMAX.AMAX (n : Nat) : Fd := ⟨stnPage n 0xB * 256 + 0x28, 23, 0, .rw, 0x0, .trstPg⟩
def PROF_DMAX.DMAX (n : Nat) : Fd := ⟨stnPage n 0xB * 256 + 0x2C, 23, 0, .rw, 0x0, .trstPg⟩
def PROF_JMAX.JMAX (n : Nat) : Fd := ⟨stnPage n 0xB * 256 + 0x30, 23, 0, .rw, 0x0, .trstPg⟩
def PROF_EDEC.EDEC (n : Nat) : Fd := ⟨stnPage n 0xB * 256 + 0x34, 23, 0, .rw, 0x0, .trstPg⟩
def PROF_EJMAX.EJMAX (n : Nat) : Fd := ⟨stnPage n 0xB * 256 + 0x38, 23, 0, .rw, 0x0, .trstPg⟩
def PROF_RCFG.EN (n : Nat) : Fd := ⟨stnPage n 0xB * 256 + 0x3C, 31, 31, .rw, 0x0, .trstPg⟩
def PROF_RCFG.PDIR (n : Nat) : Fd := ⟨stnPage n 0xB * 256 + 0x3C, 30, 30, .rw, 0x0, .trstPg⟩
def PROF_RCFG.HAUL (n : Nat) : Fd := ⟨stnPage n 0xB * 256 + 0x3C, 29, 29, .rw, 0x0, .trstPg⟩
def PROF_RCFG.W (n : Nat) : Fd := ⟨stnPage n 0xB * 256 + 0x3C, 4, 0, .rw, 0x4, .trstPg⟩
def PROF_RTHR.TREC (n : Nat) : Fd := ⟨stnPage n 0xB * 256 + 0x40, 31, 16, .rw, 0x7FFF, .trstPg⟩
def PROF_RTHR.TREND (n : Nat) : Fd := ⟨stnPage n 0xB * 256 + 0x40, 15, 0, .rw, 0x7FFF, .trstPg⟩
def PROF_RSPD.VHAUL (n : Nat) : Fd := ⟨stnPage n 0xB * 256 + 0x44, 31, 16, .rw, 0x0, .trstPg⟩
def PROF_RSPD.VPAY (n : Nat) : Fd := ⟨stnPage n 0xB * 256 + 0x44, 15, 0, .rw, 0x0, .trstPg⟩
def PROF_WLIM.WTMAX (n : Nat) : Fd := ⟨stnPage n 0xB * 256 + 0x48, 31, 16, .rw, 0x0, .trstPg⟩
def PROF_WLIM.WVMAX (n : Nat) : Fd := ⟨stnPage n 0xB * 256 + 0x48, 15, 0, .rw, 0x0, .trstPg⟩
def PROF_STAT.SRC_ACT (n : Nat) : Fd := ⟨stnPage n 0xB * 256 + 0x4C, 10, 8, .ro, 0x0, .trstPg⟩
def PROF_STAT.STOPRAMP (n : Nat) : Fd := ⟨stnPage n 0xB * 256 + 0x4C, 7, 6, .ro, 0x0, .trstPg⟩
def PROF_STAT.RSTATE (n : Nat) : Fd := ⟨stnPage n 0xB * 256 + 0x4C, 5, 4, .ro, 0x0, .trstPg⟩
def PROF_STAT.WARM_ACT (n : Nat) : Fd := ⟨stnPage n 0xB * 256 + 0x4C, 2, 2, .ro, 0x0, .trstPg⟩
def PROF_STAT.SRC_INV (n : Nat) : Fd := ⟨stnPage n 0xB * 256 + 0x4C, 1, 1, .ro, 0x0, .trstPg⟩
def PROF_STAT.AT_TARGET (n : Nat) : Fd := ⟨stnPage n 0xB * 256 + 0x4C, 0, 0, .ro, 0x0, .trstPg⟩
def PROF_REF.VALUE (n : Nat) : Fd := ⟨stnPage n 0xB * 256 + 0x50, 31, 0, .ro, 0x0, .trstPg⟩
def PROF_TGT.VALUE (n : Nat) : Fd := ⟨stnPage n 0xB * 256 + 0x54, 31, 0, .ro, 0x0, .trstPg⟩
def PROF_CNT.RENDERS (n : Nat) : Fd := ⟨stnPage n 0xB * 256 + 0x58, 31, 16, .ro, 0x0, .trstPg⟩
def PROF_CNT.BADREC (n : Nat) : Fd := ⟨stnPage n 0xB * 256 + 0x58, 15, 0, .ro, 0x0, .trstPg⟩

/-- The block fields of a page PROF of station `n`. -/
def fields_PROF (n : Nat) : List Fd :=
  [ PROF_CFG.SRC n, PROF_CFG.WARM n, PROF_VMAX.VMAX n, PROF_AMAX.AMAX n, PROF_DMAX.DMAX n, PROF_JMAX.JMAX n, PROF_EDEC.EDEC n, PROF_EJMAX.EJMAX n, PROF_RCFG.EN n, PROF_RCFG.PDIR n, PROF_RCFG.HAUL n, PROF_RCFG.W n, PROF_RTHR.TREC n, PROF_RTHR.TREND n, PROF_RSPD.VHAUL n, PROF_RSPD.VPAY n, PROF_WLIM.WTMAX n, PROF_WLIM.WVMAX n, PROF_STAT.SRC_ACT n, PROF_STAT.STOPRAMP n, PROF_STAT.RSTATE n, PROF_STAT.WARM_ACT n, PROF_STAT.SRC_INV n, PROF_STAT.AT_TARGET n, PROF_REF.VALUE n, PROF_TGT.VALUE n, PROF_CNT.RENDERS n, PROF_CNT.BADREC n]

/-! ## EXTS (spec/15_setpoint_sources.md R585) -/

def EXTS_ACFG.AIN (n : Nat) : Fd := ⟨stnPage n 0xC * 256 + 0x20, 18, 16, .rw, 0x0, .trstPg⟩
def EXTS_ACFG.MA (n : Nat) : Fd := ⟨stnPage n 0xC * 256 + 0x20, 12, 12, .rw, 0x0, .trstPg⟩
def EXTS_AOFS.OFS (n : Nat) : Fd := ⟨stnPage n 0xC * 256 + 0x24, 15, 0, .rw, 0x0, .trstPg⟩
def EXTS_ADB.DB (n : Nat) : Fd := ⟨stnPage n 0xC * 256 + 0x28, 14, 0, .rw, 0x0, .trstPg⟩
def EXTS_AGAIN.GAIN (n : Nat) : Fd := ⟨stnPage n 0xC * 256 + 0x2C, 19, 0, .rw, 0x14000, .trstPg⟩
def EXTS_ALIM.LIM (n : Nat) : Fd := ⟨stnPage n 0xC * 256 + 0x30, 31, 0, .rw, 0x7FFF8000, .trstPg⟩
def EXTS_AFILT.A (n : Nat) : Fd := ⟨stnPage n 0xC * 256 + 0x34, 15, 0, .rw, 0x0, .trstPg⟩
def EXTS_SLEW.SLEW (n : Nat) : Fd := ⟨stnPage n 0xC * 256 + 0x38, 23, 0, .rw, 0x0, .trstPg⟩
def EXTS_PCFG.NUM (n : Nat) : Fd := ⟨stnPage n 0xC * 256 + 0x3C, 31, 16, .rw, 0x1, .trstPg⟩
def EXTS_PCFG.PSTN (n : Nat) : Fd := ⟨stnPage n 0xC * 256 + 0x3C, 9, 8, .rw, 0x0, .trstPg⟩
def EXTS_PCFG.PD (n : Nat) : Fd := ⟨stnPage n 0xC * 256 + 0x3C, 4, 4, .rw, 0x0, .trstPg⟩
def EXTS_PDEN.DEN (n : Nat) : Fd := ⟨stnPage n 0xC * 256 + 0x40, 15, 0, .rw, 0x1, .trstPg⟩
def EXTS_TLOST.MS (n : Nat) : Fd := ⟨stnPage n 0xC * 256 + 0x44, 15, 0, .rw, 0x64, .trstPg⟩
def EXTS_STAT.LOST (n : Nat) : Fd := ⟨stnPage n 0xC * 256 + 0x48, 2, 2, .ro, 0x0, .trstPg⟩
def EXTS_STAT.WIREBRK (n : Nat) : Fd := ⟨stnPage n 0xC * 256 + 0x48, 1, 1, .ro, 0x0, .trstPg⟩
def EXTS_STAT.VALID (n : Nat) : Fd := ⟨stnPage n 0xC * 256 + 0x48, 0, 0, .ro, 0x0, .trstPg⟩
def EXTS_OUT.VALUE (n : Nat) : Fd := ⟨stnPage n 0xC * 256 + 0x4C, 31, 0, .ro, 0x0, .trstPg⟩
def EXTS_PCNT.COUNT (n : Nat) : Fd := ⟨stnPage n 0xC * 256 + 0x50, 31, 0, .ro, 0x0, .trstPg⟩

/-- The block fields of a page EXTS of station `n`. -/
def fields_EXTS (n : Nat) : List Fd :=
  [ EXTS_ACFG.AIN n, EXTS_ACFG.MA n, EXTS_AOFS.OFS n, EXTS_ADB.DB n, EXTS_AGAIN.GAIN n, EXTS_ALIM.LIM n, EXTS_AFILT.A n, EXTS_SLEW.SLEW n, EXTS_PCFG.NUM n, EXTS_PCFG.PSTN n, EXTS_PCFG.PD n, EXTS_PDEN.DEN n, EXTS_TLOST.MS n, EXTS_STAT.LOST n, EXTS_STAT.WIREBRK n, EXTS_STAT.VALID n, EXTS_OUT.VALUE n, EXTS_PCNT.COUNT n]

/-! ## MOD (spec/17_gate_channels_and_modulation.md R652) -/

def MOD_CFG.UPD (n : Nat) : Fd := ⟨stnPage n 0xD * 256 + 0x20, 2, 2, .rw, 0x0, .trstPg⟩
def MOD_CFG.METHOD (n : Nat) : Fd := ⟨stnPage n 0xD * 256 + 0x20, 1, 1, .rw, 0x0, .trstPg⟩
def MOD_CFG.TOPO (n : Nat) : Fd := ⟨stnPage n 0xD * 256 + 0x20, 0, 0, .rw, 0x0, .trstPg⟩
def MOD_CAR.HALF (n : Nat) : Fd := ⟨stnPage n 0xD * 256 + 0x24, 17, 0, .rw, 0x30D4, .trstPg⟩
def MOD_PHASE.PHASE (n : Nat) : Fd := ⟨stnPage n 0xD * 256 + 0x28, 18, 0, .rw, 0x0, .trstPg⟩
def MOD_DT.THS_MAX (n : Nat) : Fd := ⟨stnPage n 0xD * 256 + 0x2C, 31, 16, .rw, 0x640, .trstPg⟩
def MOD_DT.DT_MIN (n : Nat) : Fd := ⟨stnPage n 0xD * 256 + 0x2C, 15, 0, .rw, 0x320, .trstPg⟩
def MOD_MINPW.MINPW (n : Nat) : Fd := ⟨stnPage n 0xD * 256 + 0x30, 15, 0, .rw, 0x190, .trstPg⟩
def MOD_MAXMI.MI (n : Nat) : Fd := ⟨stnPage n 0xD * 256 + 0x34, 15, 0, .rw, 0x4000, .trstPg⟩
def MOD_NPOFS.NPOFS (n : Nat) : Fd := ⟨stnPage n 0xD * 256 + 0x38, 15, 0, .rw, 0x0, .trstPg⟩
def MOD_CHOP.CMODE (n : Nat) : Fd := ⟨stnPage n 0xD * 256 + 0x3C, 25, 24, .rw, 0x0, .trstPg⟩
def MOD_CHOP.CHALF (n : Nat) : Fd := ⟨stnPage n 0xD * 256 + 0x3C, 17, 0, .rw, 0x30D4, .trstPg⟩
def MOD_CHOPV.V_OFF (n : Nat) : Fd := ⟨stnPage n 0xD * 256 + 0x40, 31, 16, .rw, 0x7FFF, .trstPg⟩
def MOD_CHOPV.V_ON (n : Nat) : Fd := ⟨stnPage n 0xD * 256 + 0x40, 15, 0, .rw, 0x7FFF, .trstPg⟩
def MOD_CHOPF.TMAX (n : Nat) : Fd := ⟨stnPage n 0xD * 256 + 0x44, 31, 16, .rw, 0x0, .trstPg⟩
def MOD_CHOPF.V_FULL (n : Nat) : Fd := ⟨stnPage n 0xD * 256 + 0x44, 15, 0, .rw, 0x7FFF, .trstPg⟩
def MOD_STAT.HS_CH (n : Nat) : Fd := ⟨stnPage n 0xD * 256 + 0x48, 28, 24, .ro, 0x0, .trstPg⟩
def MOD_STAT.CAUSE (n : Nat) : Fd := ⟨stnPage n 0xD * 256 + 0x48, 22, 20, .ro, 0x0, .trstPg⟩
def MOD_STAT.ASC (n : Nat) : Fd := ⟨stnPage n 0xD * 256 + 0x48, 18, 18, .ro, 0x0, .trstPg⟩
def MOD_STAT.OVM (n : Nat) : Fd := ⟨stnPage n 0xD * 256 + 0x48, 17, 17, .ro, 0x0, .trstPg⟩
def MOD_STAT.CHOP_LIM (n : Nat) : Fd := ⟨stnPage n 0xD * 256 + 0x48, 16, 16, .ro, 0x0, .trstPg⟩
def MOD_GATES.FB (n : Nat) : Fd := ⟨stnPage n 0xD * 256 + 0x4C, 28, 16, .ro, 0x0, .trstPg⟩
def MOD_GATES.CMD (n : Nat) : Fd := ⟨stnPage n 0xD * 256 + 0x4C, 12, 0, .ro, 0x0, .trstPg⟩
def MOD_CONF.CH (n : Nat) : Fd := ⟨stnPage n 0xD * 256 + 0x50, 20, 16, .ro, 0x0, .trstPg⟩
def MOD_CONF.TICKS (n : Nat) : Fd := ⟨stnPage n 0xD * 256 + 0x50, 15, 0, .ro, 0x0, .trstPg⟩
def MOD_CNT.SKIP (n : Nat) : Fd := ⟨stnPage n 0xD * 256 + 0x54, 31, 16, .ro, 0x0, .trstPg⟩
def MOD_CNT.PDROP (n : Nat) : Fd := ⟨stnPage n 0xD * 256 + 0x54, 15, 0, .ro, 0x0, .trstPg⟩

/-- The block fields of a page MOD of station `n`. -/
def fields_MOD (n : Nat) : List Fd :=
  [ MOD_CFG.UPD n, MOD_CFG.METHOD n, MOD_CFG.TOPO n, MOD_CAR.HALF n, MOD_PHASE.PHASE n, MOD_DT.THS_MAX n, MOD_DT.DT_MIN n, MOD_MINPW.MINPW n, MOD_MAXMI.MI n, MOD_NPOFS.NPOFS n, MOD_CHOP.CMODE n, MOD_CHOP.CHALF n, MOD_CHOPV.V_OFF n, MOD_CHOPV.V_ON n, MOD_CHOPF.TMAX n, MOD_CHOPF.V_FULL n, MOD_STAT.HS_CH n, MOD_STAT.CAUSE n, MOD_STAT.ASC n, MOD_STAT.OVM n, MOD_STAT.CHOP_LIM n, MOD_GATES.FB n, MOD_GATES.CMD n, MOD_CONF.CH n, MOD_CONF.TICKS n, MOD_CNT.SKIP n, MOD_CNT.PDROP n]

/-! ## PROT (spec/18_protection_and_fault_reactions.md R684) -/

def PROT_LATCH.LATCH (n : Nat) : Fd := ⟨stnPage n 0xE * 256 + 0x20, 14, 0, .ro, 0x0, .trst⟩
def PROT_ACT.GF_NA (n : Nat) : Fd := ⟨stnPage n 0xE * 256 + 0x24, 16, 16, .ro, 0x0, .trstPg⟩
def PROT_ACT.ACT (n : Nat) : Fd := ⟨stnPage n 0xE * 256 + 0x24, 14, 0, .ro, 0x0, .trstPg⟩
def PROT_FIRST.CLASS (n : Nat) : Fd := ⟨stnPage n 0xE * 256 + 0x28, 17, 16, .ro, 0x0, .trst⟩
def PROT_FIRST.VALID (n : Nat) : Fd := ⟨stnPage n 0xE * 256 + 0x28, 8, 8, .ro, 0x0, .trst⟩
def PROT_FIRST.SRC (n : Nat) : Fd := ⟨stnPage n 0xE * 256 + 0x28, 4, 0, .ro, 0x0, .trst⟩
def PROT_FT_LO.FT (n : Nat) : Fd := ⟨stnPage n 0xE * 256 + 0x2C, 31, 0, .ro, 0x0, .trst⟩
def PROT_FT_HI.FT (n : Nat) : Fd := ⟨stnPage n 0xE * 256 + 0x30, 31, 0, .ro, 0x0, .trst⟩
def PROT_CLASS.SINV (n : Nat) : Fd := ⟨stnPage n 0xE * 256 + 0x34, 11, 10, .rwl, 0x0, .trstPg⟩
def PROT_CLASS.ORB (n : Nat) : Fd := ⟨stnPage n 0xE * 256 + 0x34, 9, 8, .rwl, 0x2, .trstPg⟩
def PROT_CLASS.FBL (n : Nat) : Fd := ⟨stnPage n 0xE * 256 + 0x34, 7, 6, .rwl, 0x0, .trstPg⟩
def PROT_CLASS.OSPD (n : Nat) : Fd := ⟨stnPage n 0xE * 256 + 0x34, 5, 4, .rwl, 0x0, .trstPg⟩
def PROT_CLASS.UV (n : Nat) : Fd := ⟨stnPage n 0xE * 256 + 0x34, 3, 2, .rwl, 0x2, .trstPg⟩
def PROT_CLASS.OV (n : Nat) : Fd := ⟨stnPage n 0xE * 256 + 0x34, 1, 0, .rwl, 0x0, .trstPg⟩
def PROT_IOC.IOC (n : Nat) : Fd := ⟨stnPage n 0xE * 256 + 0x38, 14, 0, .rwl, 0x6666, .trstPg⟩
def PROT_VDC.OV (n : Nat) : Fd := ⟨stnPage n 0xE * 256 + 0x3C, 31, 16, .rwl, 0x7999, .trstPg⟩
def PROT_VDC.UV (n : Nat) : Fd := ⟨stnPage n 0xE * 256 + 0x3C, 15, 0, .rwl, 0x4000, .trstPg⟩
def PROT_HYS.HYS (n : Nat) : Fd := ⟨stnPage n 0xE * 256 + 0x40, 14, 0, .rwl, 0x148, .trstPg⟩
def PROT_OSPD.OSPD (n : Nat) : Fd := ⟨stnPage n 0xE * 256 + 0x44, 14, 0, .rwl, 0x7333, .trstPg⟩
def PROT_GF.GF_N (n : Nat) : Fd := ⟨stnPage n 0xE * 256 + 0x48, 23, 16, .rwl, 0x14, .trstPg⟩
def PROT_GF.IGF (n : Nat) : Fd := ⟨stnPage n 0xE * 256 + 0x48, 14, 0, .rwl, 0xCCD, .trstPg⟩
def PROT_ASC.NOFF (n : Nat) : Fd := ⟨stnPage n 0xE * 256 + 0x4C, 31, 16, .rwl, 0xCCD, .trstPg⟩
def PROT_ASC.NON (n : Nat) : Fd := ⟨stnPage n 0xE * 256 + 0x4C, 15, 0, .rwl, 0x1333, .trstPg⟩
def PROT_ASCT.TASC (n : Nat) : Fd := ⟨stnPage n 0xE * 256 + 0x50, 15, 0, .rwl, 0x1388, .trstPg⟩
def PROT_CSTOP.TMAX (n : Nat) : Fd := ⟨stnPage n 0xE * 256 + 0x54, 15, 0, .rwl, 0x2710, .trstPg⟩
def PROT_CNT.CLEARS (n : Nat) : Fd := ⟨stnPage n 0xE * 256 + 0x58, 31, 16, .ro, 0x0, .trstPg⟩
def PROT_CNT.TRIPS (n : Nat) : Fd := ⟨stnPage n 0xE * 256 + 0x58, 15, 0, .ro, 0x0, .trstPg⟩

/-- The block fields of a page PROT of station `n`. -/
def fields_PROT (n : Nat) : List Fd :=
  [ PROT_LATCH.LATCH n, PROT_ACT.GF_NA n, PROT_ACT.ACT n, PROT_FIRST.CLASS n, PROT_FIRST.VALID n, PROT_FIRST.SRC n, PROT_FT_LO.FT n, PROT_FT_HI.FT n, PROT_CLASS.SINV n, PROT_CLASS.ORB n, PROT_CLASS.FBL n, PROT_CLASS.OSPD n, PROT_CLASS.UV n, PROT_CLASS.OV n, PROT_IOC.IOC n, PROT_VDC.OV n, PROT_VDC.UV n, PROT_HYS.HYS n, PROT_OSPD.OSPD n, PROT_GF.GF_N n, PROT_GF.IGF n, PROT_ASC.NOFF n, PROT_ASC.NON n, PROT_ASCT.TASC n, PROT_CSTOP.TMAX n, PROT_CNT.CLEARS n, PROT_CNT.TRIPS n]

/-! ## STRC (spec/14_loop_timing_banks_and_trace.md R556) -/

def STRC_SLOT.NODE3 (n : Nat) (i : Nat) : Fd := ⟨stnPage n 0xF * 256 + 0x20 + 4 * i, 30, 24, .rw, 0x0, .trstPg⟩
def STRC_SLOT.NODE2 (n : Nat) (i : Nat) : Fd := ⟨stnPage n 0xF * 256 + 0x20 + 4 * i, 22, 16, .rw, 0x0, .trstPg⟩
def STRC_SLOT.NODE1 (n : Nat) (i : Nat) : Fd := ⟨stnPage n 0xF * 256 + 0x20 + 4 * i, 14, 8, .rw, 0x0, .trstPg⟩
def STRC_SLOT.NODE0 (n : Nat) (i : Nat) : Fd := ⟨stnPage n 0xF * 256 + 0x20 + 4 * i, 6, 0, .rw, 0x0, .trstPg⟩
def STRC_TR.EN (n : Nat) (i : Nat) : Fd := ⟨stnPage n 0xF * 256 + 0x40 + 4 * i, 31, 31, .rw, 0x0, .trstPg⟩
def STRC_TR.FREEZE (n : Nat) (i : Nat) : Fd := ⟨stnPage n 0xF * 256 + 0x40 + 4 * i, 30, 30, .rw, 0x0, .trstPg⟩
def STRC_TR.COUNT (n : Nat) (i : Nat) : Fd := ⟨stnPage n 0xF * 256 + 0x40 + 4 * i, 29, 24, .rw, 0x0, .trstPg⟩
def STRC_TR.FIRST (n : Nat) (i : Nat) : Fd := ⟨stnPage n 0xF * 256 + 0x40 + 4 * i, 20, 16, .rw, 0x0, .trstPg⟩
def STRC_TR.DEC (n : Nat) (i : Nat) : Fd := ⟨stnPage n 0xF * 256 + 0x40 + 4 * i, 10, 0, .rw, 0x1, .trstPg⟩
def STRC_APPLY.MAX (n : Nat) : Fd := ⟨stnPage n 0xF * 256 + 0x60, 31, 16, .ro, 0x0, .trstPg⟩
def STRC_APPLY.LAST (n : Nat) : Fd := ⟨stnPage n 0xF * 256 + 0x60, 15, 0, .ro, 0x0, .trstPg⟩
def STRC_STAT.FROZEN (n : Nat) : Fd := ⟨stnPage n 0xF * 256 + 0x64, 15, 8, .ro, 0x0, .trstPg⟩
def STRC_STAT.WRITING (n : Nat) : Fd := ⟨stnPage n 0xF * 256 + 0x64, 7, 0, .ro, 0x0, .trstPg⟩

/-- The block fields of a page STRC of station `n`. -/
def fields_STRC (n : Nat) : List Fd :=
  (List.range 8).flatMap (fun i => [ STRC_SLOT.NODE3 n i, STRC_SLOT.NODE2 n i, STRC_SLOT.NODE1 n i, STRC_SLOT.NODE0 n i])
  ++ (List.range 8).flatMap (fun i => [ STRC_TR.EN n i, STRC_TR.FREEZE n i, STRC_TR.COUNT n i, STRC_TR.FIRST n i, STRC_TR.DEC n i])
  ++ [ STRC_APPLY.MAX n, STRC_APPLY.LAST n, STRC_STAT.FROZEN n, STRC_STAT.WRITING n]

/-- Every field of page `p` (header and block); none on reserved and vendor-test pages (05 R159, R160). -/
def pageFields (p : Nat) : List Fd :=
  if reservedPage p || vendorPage p then []
  else if 0x40 ≤ p && p < 0x80 then
    let n := (p - 0x40) / 16
    headerFields p ++ (match p % 16 with
      | 0x0 => fields_STN n
      | 0x1 => fields_FBP n
      | 0x2 => fields_FBA n
      | 0x3 => fields_LCMP n
      | 0x4 => fields_ISNS n
      | 0x5 => fields_CURL n
      | 0x6 => fields_SPDL n
      | 0x7 => fields_OUTL n
      | 0x8 => fields_FILT n
      | 0x9 => fields_BNKA n
      | 0xA => fields_BNKB n
      | 0xB => fields_PROF n
      | 0xC => fields_EXTS n
      | 0xD => fields_MOD n
      | 0xE => fields_PROT n
      | 0xF => fields_STRC n
      | _ => [])
  else if 0x10 ≤ p && p < 0x20 then headerFields p ++ fields_STRD p
  else headerFields p ++ (match p with
      | 0x00 => fields_DEV
      | 0x01 => fields_HSP
      | 0x02 => fields_MBUS
      | 0x03 => fields_BLNK
      | 0x04 => fields_PWR
      | 0x05 => fields_CLK
      | 0x06 => fields_CSG
      | 0x07 => fields_CSA
      | 0x08 => fields_TIME
      | 0x09 => fields_EVT
      | 0x0A => fields_SEC
      | 0x0B => fields_FW
      | 0x20 => fields_SEQ
      | 0x21 => fields_PCHG
      | 0x22 => fields_DIO
      | 0x23 => fields_STO
      | 0x24 => fields_EMG
      | 0x25 => fields_DIAG
      | 0x30 => fields_HK
      | 0x31 => fields_HKCH
      | 0x32 => fields_AOUT
      | 0x33 => fields_AIN
      | 0x34 => fields_THM
      | 0x35 => fields_THD
      | 0x36 => fields_ORB
      | 0x37 => fields_SHR
      | 0x38 => fields_TRC
      | _ => [])

/-- The fields of the register at address `a`. -/
def regFields (a : Nat) : List Fd := (pageFields (a / 256)).filter (fun f => f.addr == a)

end Sys2Proof.Machine
end

