-- ==== Sys2Proof/Machine/Bits.lean ====
section
/-! DEFINITION. Bit fields, two's complement, byte order, saturation, the CRCs and the sparse maps that every block uses. -/

namespace Sys2Proof.Machine

/-! ## Fields of a register word -/

/-- The width of a field in bits. -/
def Fd.width (f : Fd) : Nat := f.hi + 1 - f.lo

/-- The mask of a field within its register word. -/
def Fd.mask (f : Fd) : Word := (BitVec.allOnes 32 >>> (31 - (f.hi - f.lo))) <<< f.lo

/-- The value of field `f` in the register word `v`. -/
def fdGet (f : Fd) (v : Word) : Nat := ((v &&& f.mask) >>> f.lo).toNat

/-- The register word `v` with field `f` set to `x`, taken modulo the field's width. -/
def fdPut (f : Fd) (x : Nat) (v : Word) : Word := (v &&& ~~~f.mask) ||| ((BitVec.ofNat 32 x <<< f.lo) &&& f.mask)

/-! ## Numbers -/

/-- The signed value of the `w`-bit code `v`. -/
def sx (w v : Nat) : Int := if v < 2 ^ (w - 1) then (v : Int) else (v : Int) - (2 ^ w : Nat)

/-- The `w`-bit two's-complement code of `i`, modulo `2 ^ w`. -/
def enc (w : Nat) (i : Int) : Nat := (i % ((2 ^ w : Nat) : Int)).toNat

/-- `i` limited to the range of a signed `w`-bit code. -/
def satS (w : Nat) (i : Int) : Int := max (-((2 ^ (w - 1) : Nat) : Int)) (min (((2 ^ (w - 1) : Nat) : Int) - 1) i)

/-- `x` limited to `lo` to `hi`: a setting outside its range acts as the nearest limit. -/
def clampN (lo hi x : Nat) : Nat := max lo (min hi x)

def clampI (lo hi x : Int) : Int := max lo (min hi x)

/-- `a + 1`, stopping at the largest `w`-bit value (the saturating counters of the spec). -/
def satInc (w a : Nat) : Nat := min (2 ^ w - 1) (a + 1)

/-- `a + k`, stopping at the largest `w`-bit value. -/
def satAdd (w a k : Nat) : Nat := min (2 ^ w - 1) (a + k)

/-- Bit `i` of `x`. -/
def bitOf (x i : Nat) : Bool := x.testBit i

/-- `x` with bit `i` set or cleared. -/
def setBit (x i : Nat) (b : Bool) : Nat := if b then x ||| (1 <<< i) else if x.testBit i then x - (1 <<< i) else x

def b2n (b : Bool) : Nat := if b then 1 else 0

/-- The number of 1 bits among the low `n` bits of `x`. -/
def popcount : Nat → Nat → Nat
  | 0, _ => 0
  | n + 1, x => b2n (x.testBit n) + popcount n x

/-- Nearest integer to `a / b` for `b > 0`, halves away from zero (00 R17). -/
def roundDiv (a : Int) (b : Nat) : Int :=
  if b = 0 then 0
  else if 0 ≤ a then (2 * a + b) / (2 * b) else -((2 * (-a) + b) / (2 * b))

/-! ## Byte order: every multi-byte value is little-endian (00 R7) -/

/-- The low `k` bytes of `x`, least significant first. -/
def leBytes : Nat → Nat → List Byte
  | 0, _ => []
  | k + 1, x => BitVec.ofNat 8 x :: leBytes k (x / 256)

/-- The number that the bytes spell, least significant first. -/
def leNat : List Byte → Nat
  | [] => 0
  | b :: t => b.toNat + 256 * leNat t

/-- The bytes in words of four, the last one filled with zeros. -/
def bytesToWords : Nat → List Byte → List Word
  | 0, _ => []
  | k + 1, l => BitVec.ofNat 32 (leNat (l.take 4)) :: bytesToWords k (l.drop 4)

def wordsToBytes (l : List Word) : List Byte := l.flatMap (fun w => leBytes 4 w.toNat)

/-- `l` filled with zero bytes, or cut, to exactly `n`. -/
def padTo (n : Nat) (l : List Byte) : List Byte := (l ++ List.replicate (n - l.length) 0).take n

/-! ## CRCs -/

/-- One bit of the reflected CRC-32C (02 R58: polynomial 0x82F63B78). -/
def crcBit (c : Word) : Word := if c.getLsbD 0 then (c >>> 1) ^^^ 0x82F63B78#32 else c >>> 1

def crcByte (c : Word) (b : Byte) : Word :=
  crcBit (crcBit (crcBit (crcBit (crcBit (crcBit (crcBit (crcBit (c ^^^ b.setWidth 32))))))))

/-- The running CRC-32C register over `l`. -/
def crcRun (c : Word) (l : List Byte) : Word := l.foldl crcByte c

/-- CRC-32C (02 R58): initial value and final XOR 0xFFFFFFFF. -/
def crc32c (l : List Byte) : Word := crcRun (BitVec.allOnes 32) l ^^^ BitVec.allOnes 32

/-- One bit of the CRC-8 of the management bus PEC (09 R324: polynomial 0x07). -/
def pecBit (c : Byte) : Byte := if c.getLsbD 7 then (c <<< 1) ^^^ 0x07#8 else c <<< 1

/-- PEC over the bytes of a bus transaction (09 R324, R325), initial value 0. -/
def pec8 (l : List Byte) : Byte :=
  l.foldl (fun c b => pecBit (pecBit (pecBit (pecBit (pecBit (pecBit (pecBit (pecBit (c ^^^ b))))))))) 0

/-! ## Sparse maps: entries in strictly rising key order, none equal to what an unlisted key reads as -/

/-- A sparse map from numbers. -/
abbrev SMap (α : Type) := List (Nat × α)

/-- What key `k` reads as: its entry, or the default. -/
def smGet {α : Type} (d : Nat → α) (m : SMap α) (k : Nat) : α :=
  match m with
  | [] => d k
  | (a, v) :: t => if a = k then v else smGet d t k

/-- `m` without an entry for `k`. -/
def smDel {α : Type} (m : SMap α) (k : Nat) : SMap α := m.filter (fun e => e.1 != k)

/-- `m` with the entry `(k, v)` in key order. -/
def smIns {α : Type} (m : SMap α) (k : Nat) (v : α) : SMap α :=
  match m with
  | [] => [(k, v)]
  | (a, w) :: t => if k < a then (k, v) :: (a, w) :: t else if a = k then (k, v) :: t else (a, w) :: smIns t k v

/-- `m` with `k` reading as `v`: writing what an unlisted key reads as removes the entry. -/
def smSet {α : Type} [DecidableEq α] (d : Nat → α) (m : SMap α) (k : Nat) (v : α) : SMap α :=
  if v = d k then smDel m k else smIns m k v

/-- The canonical form of a sparse map: keys strictly rising, no entry equal to the default. -/
abbrev SMap.wf {α : Type} [DecidableEq α] (d : Nat → α) (m : SMap α) : Prop :=
  m.Pairwise (fun x y => x.1 < y.1) ∧ ∀ e ∈ m, e.2 ≠ d e.1

end Sys2Proof.Machine
end

