-- ==== Sys2Proof/Machine/State.lean ====
section
/-! DEFINITION. The state of the unit: the queue of waiting commands, the Headstock, the messages on the Varfen lanes and the
Tailstock (spec/01 section 1), as plain data; its faults and refusals; and the state right after reset. -/

namespace Sys2Proof.Machine

/-- Why the machine stops with a fault. -/
inductive Fault where
  /-- The model's own: no meaning raises it (every stop of the spec is a state or a status, see INVENTORY.md, Faults). Safe. -/
  | stuck
  deriving DecidableEq, Repr

/-- Why a command is refused. -/
inductive Refusal where
  /-- A command of the table that has no meaning yet; raised by the dispatcher only. Safe. -/
  | notModelled (mnemonic : String)
  deriving DecidableEq, Repr

/-- A deadline in the model's own physical time (ticks of 2.5 ns since PON), or no interval running. -/
abbrev Timer := Option Nat

/-! ## What is fixed per unit -/

/-- The order code and the identity of the unit (00 R1, R2; 05 R189), its address straps (09 R323) and its -F ports. -/
structure UnitInfo where
  tw2 : Bool
  orbit : Bool
  serno : DWord
  hwMajor : Byte
  hwMinor : Byte
  straps : BitVec 3
  deriving DecidableEq, Repr

/-! ## The Headstock (02 section 6, 08, 09) -/

/-- One entry of a channel's duplicate table (08 R296). -/
structure DupEntry where
  seq : Byte
  chk : Word
  complete : Bool
  status : Nat
  snap : Word
  n : Nat
  data : List Byte
  deriving DecidableEq, Repr

/-- A receive cell of ALERT or FAULT (02 R76 to R78): whether valid refreshes arrive, and what the last one carried. -/
structure LevelCell where
  alive : Bool
  level : Bool
  linkRdy : Bool
  deriving DecidableEq, Repr

/-- Where an HSP frame stands (08 R276): the payload phase, the wait bytes after the request's last byte, the response data,
or nothing more to drive. -/
inductive HspPhase where
  | payload | waiting | data | over
  deriving DecidableEq, Repr

/-- How a request went out (02 R56, 08 R292). -/
inductive Disp where
  | execute | replay | abandon
  deriving DecidableEq, Repr

/-- The HSP frame in progress. -/
structure HspFrame where
  op : HspOp
  fr : Frame
  hcrc : Word
  phase : HspPhase
  deriving DecidableEq, Repr

/-- A request the Headstock has outstanding (02 section 7): its command stream and LSEQ, its disposition, the segments that have
checked good (number, MORE, body), how many of them it has passed on in order (02 R67), and the segments it has asked for again, one
entry per NAK_H (02 R68, R69). -/
structure OutReq where
  cstr : Nat
  lseq : Half
  disp : Disp
  parts : List (Nat × Bool × List Byte)
  passed : Nat
  naks : List Nat
  deriving DecidableEq, Repr

/-- What a management bus transaction is waiting for (09): nothing, the wake stretch at the command byte, or the response. -/
inductive MbPhase where
  | idle | stretch | response
  deriving DecidableEq, Repr

/-- What a controller-mode push is doing (09 section 8). -/
inductive PushPhase where
  | idle | fetching | ready | backoff | poll
  deriving DecidableEq, Repr

/-- The management bus block beside its page (09): the transaction and what it waits for, whether it has found the field side ready
(02 R82), the request outstanding, the push in progress with its record, what the last transaction drove (its data and PEC bytes, or the
bytes of a push) and whether it was acknowledged; the end of the stretch that an analogue cell times (R333, R348), that of a backoff or
poll interval (R356, R360), and the clock pulses with which the block freed the bus before its STOP (R352). -/
structure MbState where
  phase : MbPhase
  txn : Option MbTxn
  found : Bool
  out : Option OutReq
  push : PushPhase
  pushRec : List Byte
  drive : List Byte
  acked : Bool
  cellT : Timer
  pushT : Timer
  freed : Option Nat
  deriving DecidableEq, Repr

/-- What came over the F2H lane for a request: the body of a good response, one that did not check good, or a NAK_F. -/
inductive LateRes where
  | body (b : List Byte) | bad | nak
  deriving DecidableEq, Repr

/-- What stands in the receive buffer and no transaction of its port has clocked out yet (01 R22, 03 R91, R92): the port, the request it
names, and the result. -/
structure LateRsp where
  mb : Bool
  cstr : Nat
  lseq : Half
  res : LateRes
  deriving DecidableEq, Repr

/-- A byte that the Headstock drives on the HSP, on four lanes where `quad` (08 R272, R273, R276, R283). -/
structure Driven where
  quad : Bool
  byte : Byte
  deriving DecidableEq, Repr

/-- The Headstock: it changes only inside a transaction or by a reset (01 R22). `dup` is newest first; `drive` are the bytes
driven in the current frame, HACK first (08 R276). -/
structure Head where
  powered : Bool
  regs : SMap Word
  mbAddr : BitVec 3
  lseq : Vector Half 10
  dup : Vector (List DupEntry) 8
  alert : LevelCell
  fault : LevelCell
  wake : Bool
  frame : Option HspFrame
  drive : List Driven
  out : Option OutReq
  mb : MbState
  deriving DecidableEq, Repr

/-! ## Messages on the lanes (02 section 3) -/

/-- A message on the H2F lane (02 R54, R55); `ins` is true for a NAK_H that goes out inside a REQ_HSP (R48). -/
inductive H2F where
  | reqHsp (cstr : Nat) (lseq : Half) (op : HspOp) (fr : Frame) (chk : Word) (disp : Disp)
  | reqMb (cstr : Nat) (lseq : Half) (cmd : Byte) (data : List Byte) (disp : Disp)
  | nakH (cstr : Nat) (lseq : Half) (seg : Nat) (reason : Nat) (ins : Bool)
  deriving DecidableEq, Repr

/-- A message on the F2H lane: a segment of a response (02 R66), or a NAK_F; `hdr` is false for a NAK_F whose referenced header
was unreadable (02 R63). -/
inductive F2H where
  | seg (mb : Bool) (cstr : Nat) (lseq : Half) (segNo : Nat) (more : Bool) (retx : Bool) (body : List Byte)
  | nakF (hdr : Bool) (cstr : Nat) (lseqRef : Half) (reason : Nat)
  deriving DecidableEq, Repr

/-- An H2F message half received at the field side (02 R62): none, one, or one already discarded. -/
inductive OpenMsg where
  | none | open | discarded
  deriving DecidableEq, Repr

/-- A response the field side keeps for its command stream (02 R70). -/
structure Retained where
  mb : Bool
  lseq : Half
  seq : Byte
  chk : Word
  status : Nat
  snap : Word
  data : List Byte
  deriving DecidableEq, Repr

/-- A response being sent segment by segment, with the stream whose QUOTA is its share of the lane, and its credit (02 R85). -/
structure PendRsp where
  mb : Bool
  cstr : Nat
  lseq : Half
  stream : Nat
  urgent : Bool
  credit : Int
  body : List Byte
  next : Nat
  deriving DecidableEq, Repr

/-- The field side's end of the link (02): last accepted LSEQ and retained response per command stream, the LSEQ and body of the response
last sent on it (02 R62: what a NAK_H asks for again), responses being sent, messages ahead of them (02 R86), the open H2F message, a
RETRAIN that waits (02 R75), training failures in a row, the runs of asserted and of unanswered WAKE interrogations (02 R76, R83), when
the training run began (R72), and what the lanes carried in the last 1 ms: the time, and the symbols of H2F and of F2H messages (R88). -/
structure Link where
  lastLseq : Vector (Option Half) 16
  retained : Vector (Option Retained) 16
  sent : Vector (Option (Half × List Byte)) 16
  rsps : List PendRsp
  prio : List F2H
  openMsg : OpenMsg
  retrain : Bool
  ready : Bool
  trainFail : Bool
  hsPresent : Bool
  wakeLvl : Bool
  wakeRun : Nat
  deafRun : Nat
  trainAt : Nat
  busy : List (Nat × Nat × Nat)
  deriving DecidableEq, Repr

/-! ## Central Store (06, 07) -/

/-- An entry of the SQC index of a stream: a stored record, its place in the ring and what its tag and length word say
(06 R205 to R211, 07 R253). `words` counts the tag and all payload words; `len` the data bytes. -/
structure RecIx where
  pos : Nat
  kind : Nat
  words : Nat
  len : Nat
  ssn : Word
  ft : DWord
  delivered : Bool
  deriving DecidableEq, Repr

/-- A record to write, or one that waits under BACKPRESSURE (06 R205, R212): the STREAM byte of its tag, KIND, VALID, whether it carries
LOSS whatever its ring has lost, and its data. -/
structure HeldRec where
  src : Nat
  kind : Nat
  valid : Bool
  loss : Bool
  data : List Byte
  deriving DecidableEq, Repr

/-- What a stream holds beside its descriptor's configuration (06 R198): pointers in words, the index oldest first, SYNCREQ,
WMHIGH, SEQ, LOST, the loss that the next record written must carry (R215), the one that the next record returned must carry for a
record skipped before it (07 R252, R253), the upper halves of the numbers of the last data record (06 R209), and the records held
back. -/
structure StreamSt where
  wr : Nat
  rd : Nat
  recs : List RecIx
  syncReq : Bool
  wmHigh : Bool
  seq : Word
  lost : Nat
  loss : Bool
  skip : Bool
  hiSsn : Nat
  hiFt : Nat
  held : List HeldRec
  deriving DecidableEq, Repr

/-- A stream right after TRST (06 R195, R233). -/
def StreamSt.fresh : StreamSt := ⟨0, 0, [], true, false, 0, 0, false, false, 0, 0, []⟩

/-- An entry of a bank's correction write-back queue: a corrected word to write, or a word to poison (07 R246, R247). -/
structure WbEntry where
  addr : Nat
  poison : Bool
  word : StoreWord
  deriving DecidableEq, Repr

/-- An injection waiting for an idle cycle (07 R268). -/
structure Injection where
  addr : Nat
  flips : DWord
  deriving DecidableEq, Repr

/-- The store: the words of the stream area, and of the system area the error patterns of its words (those not listed have none: the
registers, descriptors and responses they hold stand elsewhere in the state), the streams, and its background work, per bank the
write-back queue, the scrubber's next word and its catch-up list (07 section 6); the time the scrub pass began, its dwell included
(R264), and the time its first word was due (R259). -/
structure Store where
  mem : SMap StoreWord
  sys : SMap StoreWord
  streams : SMap StreamSt
  wb : Vector (List WbEntry) 8
  inj : List Injection
  scrub : Vector Nat 8
  catchUp : Vector (List Nat) 8
  passStart : Nat
  paceFrom : Nat
  deriving DecidableEq, Repr

/-- A PG_EVT change waiting to be logged (06 R223 to R225): `ssn` is none until the commit that set the latch ends, `value`
while the block's PG_STAT under that commit is still to be taken. -/
structure PendEvt where
  page : Nat
  bit : Nat
  enabled : Bool
  ssn : Option Word
  value : Option Word
  ft : DWord
  deriving DecidableEq, Repr

/-- The event log's writer: latches waiting for it, the next INDEX, the INDEX of the newest and oldest record held, and whether
logging is open (06 R226). -/
structure EvtLog where
  queue : List PendEvt
  index : Word
  ready : Bool
  deriving DecidableEq, Repr

/-! ## The always-on domain (04) -/

/-- The supply selector's states (04 R124). -/
inductive HoState where
  | onA | commit | onB | dwell | heldB
  deriving DecidableEq, Repr

/-- The power states (04 R140) and the switching between two of them. -/
inductive PwrState where
  | run | standby | deep | thermal | off
  deriving DecidableEq, Repr

/-- Host requests for a power state (04 section 5). -/
inductive PwrReq where
  | run | standby | deep
  deriving DecidableEq, Repr

/-- The non-volatile log area (04 R135): the data of the flushed event records, oldest first, why they were flushed, whether the
flush completed, and whether a restore has consumed them. -/
structure LogArea where
  recs : List (List Byte)
  cause : Nat
  flushOk : Bool
  consumed : Bool
  deriving DecidableEq, Repr

/-- PD1: the selector and the supplies, the domains that are on (bit n is PDn; bit 0 follows HS_PRESENT), the power state with a
transition accepted, in progress or held (04 R147, R148), the cold hold (04 R144), the hardware gate block, the log area, the
retention memory (04 R139), when the count of CLK_AON cycles across Deep sleep began (03 R95), the time a thermal shutdown was
confirmed (21 R756), the end of a lockout (23 R800), and per NTC the HWNTC, B and SEL of which its comparator holds the level (21 R753). -/
structure Aon where
  ho : HoState
  aValid : Bool
  bValid : Bool
  aRet : Bool
  hoTimes : List Nat
  hoTotal : Nat
  hoAborts : Nat
  unstable : Bool
  dwell : Timer
  dom : BitVec 8
  ps : PwrState
  accepted : Option PwrReq
  switching : Option PwrReq
  wakePend : Bool
  held : Option PwrReq
  retained : Bool
  cold : Bool
  coldSeen : Bool
  gateBlock : Bool
  log : LogArea
  lastCause : Nat
  lastFlushOk : Bool
  retention : Option (SMap Word)
  sleptAt : Nat
  epoch : Word
  shutAt : Option Nat
  lockT : Timer
  hwLevel : List (Int × Nat × Bool)
  deriving DecidableEq, Repr

/-- A replica of Field Time (03 R96): the master's value it was loaded with, and the ticks it has gained on its pattern since. -/
structure Replica where
  base : DWord
  gain : Int
  deriving DecidableEq, Repr

/-- Clocks (03): which are present (bit order of 03 R116) and which PLLs are locked; Field Time counts; when a SQC watchdog that is
serviced no more expires (R110); a clock was declared stopped; and the replicas of Field Time in CLK_CE, CLK_FB and CLK_SEQ. -/
structure Clocks where
  run : BitVec 8
  pllA : Bool
  pllB : Bool
  ftRun : Bool
  wdogT : Timer
  clkStopped : Bool
  ce : Replica
  fb : Replica
  sq : Replica
  deriving DecidableEq, Repr

/-! ## The sequencer (10) -/

/-- Unit states (10 R364). -/
inductive UnitSt where
  | off | boot | readySafe | armed | run | stopping | fault | eclipse | sleep | thermalShutdown
  deriving DecidableEq, Repr

/-- Station states (10 R365). -/
inductive StnSt where
  | disabled | diag | ready | magnetizing | running | voltLimited | stopping | faulted | emergency
  deriving DecidableEq, Repr

/-- Start-up steps passed (10 R372): T3 PLLs, T4 link or TRAIN_FAIL, T5 store, T6 SQC image, T7 log, T8 housekeeping round; the
store check that failed once already (07 R256), the time of the TRST, when the domains' power-up began (T1 or the TRST; a wake), when
T3 passed, and when the last of the later steps did. -/
structure Boot where
  t3 : Bool
  t4 : Bool
  t5 : Bool
  t6 : Bool
  t7 : Bool
  t8 : Bool
  checkFailed : Bool
  dead : Bool
  start : Nat
  therm : Bool
  upAt : Nat
  t3At : Nat
  last : Nat
  deriving DecidableEq, Repr

/-- Pre-charge group states (10 R406). -/
inductive GrpSt where
  | idle | closeK1 | ramp | closeK2 | openK1 | charged | discharging | failed | aborted | waitRetry
  deriving DecidableEq, Repr

/-- A pre-charge group (10 section 6): its state, retries left, when RAMP was entered, the link voltage in 10 mV now and 1 ms
ago with the time of its last update, and the end of RETRY_WAIT or of the dwell before the sequence. -/
structure Grp where
  st : GrpSt
  retries : Nat
  rampAt : Nat
  v : Nat
  vPrev : Nat
  vAt : Nat
  wait : Timer
  dwell : Bool
  deriving DecidableEq, Repr

/-- Digital I/O (10 section 7): accepted levels of DI0 to DI7, of STO_A, STO_B and ESTOP_N (R395), and of LEVER_SEL, outputs driven,
and DIO_24V below 15 V (24 R827). -/
structure Dio where
  di : BitVec 8
  safe : BitVec 3
  lever : Bool
  out : BitVec 8
  low : Bool
  deriving DecidableEq, Repr

/-- STO and ESTOP_N (18 section 5): levels after the filter, the gate-output stage's blocks, the stations that ran at the demand and have
not been started again, whether both channels were de-energized since STO_DISC latched, and the running times: discrepancy, backstop, and
the read-back after a demand (R677). -/
structure Sto where
  a : Bool
  b : Bool
  estopN : Bool
  blockSto : Bool
  blockEstop : Bool
  backstop : Bool
  ran : BitVec 4
  bothLow : Bool
  discT : Timer
  backT : Timer
  readT : Timer
  deriving DecidableEq, Repr
/-! ## A station (01 section 3) -/

/-- A speed estimator (11 R430): decoded steps so far, the last edge (steps and Field Time), and the edge that the previous
estimate used. -/
structure Enc where
  acc : Int
  edge : Option (Int × Nat)
  used : Option (Int × Nat)
  deriving DecidableEq, Repr

/-- Writes to the FBP, FBA and LCMP pages that act at the next sample instant (11 R453): FBP_CMD.PRESET, FBA_CMD.PRESET,
LCMP_CMD.ARM and GT_CLR, FBP_SUP with ON = 1 (R451), PRESET_SRC = 1 (R418), and the clearing of LCMP_STAT.LATCHED. -/
structure FbPend where
  preset : Bool
  aux : Bool
  arm : Bool
  gtClr : Bool
  sup : Bool
  zsrc : Bool
  latched : Bool
  deriving DecidableEq, Repr

/-- Feedback (11): filtered input levels and switches, estimators, illegal transitions within the last 1 ms, an illegal transition since
the last record, POS_VALID held at 0 since a loss (R420), the first Z edge still to preset, the SSI frame in progress (its end, the last
start time, the end of its MONO time, its Field Time), the last good field, errors in a row, a frame skipped or bad for the next record,
pairs out of range for their time (PA, PB, PZ, XA, XB, XZ), since when the Hall code is illegal and whether that asserted auxiliary loss,
the compare pulse, the gate timer's start, and the written commands that wait for the next sample instant. -/
structure Fb where
  lv : EncLevels
  sw : BitVec 4
  prim : Enc
  aux : Enc
  qerrAt : List Nat
  qerrLoss : Bool
  illegal : Bool
  lossHold : Bool
  zArmed : Bool
  ssiStart : Option Nat
  ssiLast : Nat
  ssiFree : Nat
  ssiFt : Nat
  ssiField : Option Nat
  ssiRun : Nat
  ssiSkip : Bool
  ssiGood : Bool
  out : BitVec 6
  hallAt : Option Nat
  hallLoss : Bool
  pulse : Timer
  gtStart : Option Nat
  pend : FbPend
  deriving DecidableEq, Repr

/-- What an offset calibration is for (12 section 6): none, the one before READY, a recalibration in READY that waits for SETTLE,
a running recalibration, or one commanded by ISNS_CMD.CAL. -/
inductive CalFor where
  | none | enter | settle | recal | command
  deriving DecidableEq, Repr

/-- Current sensing (12): per channel the end of the invalid span and the last valid values IA, IB, IC and UDC, the codes D of
the last sample and its validity, the ISNS_CFG in effect (R473); the calibration in progress (sums, samples, restarts), a failed
one (BLOCK[6]), the last calibrated offsets, the channels whose tracking has stopped, a tracking sample taken since the last
record, SAMPLE_INVALID asserted, and per fast analogue input the last valid value delivered to the station and its validity at the
last sample (R470, R475); the protection filters' last outputs (R465, 18 R654), the MCLK periods in a row with a ground fault (18
R653), and until when the comparators report no trip (R467). -/
structure Isns where
  validAt : Vector Nat 4
  last : Vector Int 4
  code : Vector Int 4
  ok : BitVec 4
  cfg : Word
  cal : CalFor
  calT : Timer
  sum : Vector Int 3
  n : Nat
  restarts : Nat
  calFail : Bool
  calOfs : Vector Int 3
  trkStop : BitVec 3
  trkTaken : Bool
  inv : Bool
  ain : Vector Int 8
  ainOk : BitVec 8
  prot : Vector Int 4
  gfRun : Nat
  blankT : Nat
  deriving DecidableEq, Repr

/-- A fast analogue input (12 section 4): converting, with the GAIN and AVG in effect, the sum and number of conversions of the
output in progress, whether it holds an invalid one, and the conversions and outputs still invalid (R472). -/
structure Ain where
  on : Bool
  gain : Nat
  avg : Nat
  sum : Int
  n : Nat
  bad : Bool
  badConv : Nat
  badOut : Nat
  deriving DecidableEq, Repr

/-- A PID instance (13 R501, R504): integrator, filtered difference, previous source, error, clamp flags, stage exponent, and
the terms of its trace block (14 R544). -/
structure Pid where
  ai : Int
  df : Int
  xprev : Int
  e : Int
  hi : Bool
  lo : Bool
  es : Int
  deriving DecidableEq, Repr

/-- A notch (13 R508): its states at the stage exponent. -/
structure Notch where
  x1 : Int
  x2 : Int
  y1 : Int
  y2 : Int
  es : Int
  deriving DecidableEq, Repr

/-- A block floating point value m * 2 ^ e (13 R503). -/
structure Bfp where
  m : Int
  e : Int
  deriving DecidableEq, Repr

/-- The loops of a station (13): sample index, PIDs, notches, low-pass, angles, references and outputs that hold until the next
boundary, the flags of the last current-loop sample, the last valid feedback, TREF of the last speed boundary, and the trace nodes (14 R543)
of the current loop, the speed loop and the outer loop at their last boundaries, and all 96 of the last sample. -/
structure Loops where
  k : Nat
  pd : Pid
  pq : Pid
  ps : Pid
  po : Pid
  n0 : Notch
  n1 : Notch
  n2 : Notch
  lpf : Int
  theta : Nat
  slip : Nat
  tref : Int
  nref : Bfp
  iq : Int
  id : Int
  iqRef : Int
  vAlpha : Int
  vBeta : Int
  vsat : Bool
  dclamp : Bool
  iqlim : Bool
  spdOk : Int
  posOk : Int
  trefPrev : Int
  curNodes : List Nat
  spdNodes : List Nat
  outNodes : List Nat
  nodes : List Nat
  deriving DecidableEq, Repr

/-- A shock swap waiting for its return (14 R538): scope, recorded banks, timer, and the return swap pending. -/
structure RetSwap where
  scope : Nat
  cur : Bool
  so : Bool
  t : Timer
  due : Bool
  deriving DecidableEq, Repr

/-- Coefficient banks (14) beside the BNKA page, which holds the banks in use and the host's request: hardware swaps pending per
trigger (scope, bank), returns per detector, the detectors' histories (newest first: torque error and speed) and metrics, the
detectors met, whether the last sample found the station in EMERGENCY, and `reqAt`, the CLK_CE time of the host's request (R534). -/
structure Banks where
  hw : Vector (Option (Nat × Bool)) 4
  ret : Vector (Option RetSwap) 3
  hist : List (Int × Int)
  mt : Vector Int 3
  ms : Vector Int 3
  met : BitVec 3
  emerg : Bool
  reqAt : DWord
  deriving DecidableEq, Repr

/-- Stop ramps (15 R569, R570): none, with the normal limits, with the emergency limits. -/
inductive StopRamp where
  | none | normal | emergency
  deriving DecidableEq, Repr

/-- Render states (15 R579); `down` is RENDERING in its ramp to 0. -/
inductive RenderSt where
  | normal | rendering | down | haulBack
  deriving DecidableEq, Repr

/-- The kinds of a reference (15 R558). -/
inductive Kind where
  | position | tension | speed | torque
  deriving DecidableEq, Repr

/-- What drives a station's reference: a source of R560, or the generator in a stop ramp (R568) or in Render (R579). -/
inductive Drive where
  | host | profile | analog | pulse | lever | stop | pay | down | haul
  deriving DecidableEq, Repr

/-- The set-point source of a station (15): the generator's value and rate (units of 2 ^ -24 code) and position (2 ^ -16 count); what
drives the reference and the kind it drives; whether it still has to enter from the present reference; HOST waiting for a record
after the one numbered here (R576); the number of the last set-point record looked at and the VALUE of the newest good one; the
reference and AREF; the stop ramp; Render with its haul position and the boundaries above TREND; the followers' filter, slewed
output (2 ^ -24 code), remainder, pulse count of the last boundary, the timers of R575 and LOST. -/
structure SetPt where
  v : Int
  a : Int
  p : Int
  drv : Drive
  kind : Kind
  enter : Bool
  hostFrom : Option Word
  seen : Word
  target : Option Int
  ref : Int
  aref : Int
  stop : StopRamp
  render : RenderSt
  haul : Int
  above : Nat
  yf : Int
  out : Int
  rem : Int
  cnt : Int
  lostT : Timer
  okT : Timer
  deriving DecidableEq, Repr

/-- Acting roles (16 R589). -/
inductive Role where
  | none | pacer | follower
  deriving DecidableEq, Repr

/-- What a share frame says (16 R599): its fields, and STATUS and TA per slot. -/
structure OrbInfo where
  gid : Nat
  flags : Nat
  fseq : Nat
  pacer : Nat
  next : Nat
  mode : Nat
  nslot : Nat
  hop : Nat
  tref : Int
  tap : Int
  slots : List (Nat × Int)
  deriving DecidableEq, Repr

/-- A station's part in sharing (16): acting role, the share it applied last (R594), what it last received (14 node 0x53), its
actual torque (R592), a STOP it saw in a frame that waits for its command point (R617); the acting Pacer it knows, the successor
and FSEQ of the last frame applied (R604), the frames that wait for its next sample with their arrival, oldest first (R594), the time of
the last accepting or refreshing frame, a PLOST applied, and of a successor that its frames carry SUCC and that its loops have yet to start
(R614). -/
structure Share where
  role : Role
  share : Int
  recv : Int
  ta : Int
  stopReq : Bool
  pacer : Option Nat
  next : Nat
  fseq : Option Nat
  wait : List (Nat × OrbInfo)
  seen : Nat
  plost : Bool
  succ : Bool
  join : Bool
  deriving DecidableEq, Repr

/-- A local group as its Pacer's unit sends for it (16 R600, R605): FSEQ of the last frame, the frame, the commit of its record in
stream 130, when it is repeated, the STATUS bytes of the newest returned frame, and per slot the returned frames in a row that left it
empty; `heard` is the arrival of the group's newest valid frame with its PACER (R589). -/
structure ShrGrp where
  seq : Nat
  tx : List Byte
  txAt : Word
  repT : Timer
  ret : List Nat
  empty : List Nat
  heard : Option (Nat × Nat)
  deriving DecidableEq, Repr

/-- The Orbit ports O1 and O2 (16 sections 4, 5): until when each sends; received frames that wait to be forwarded, with the port they came
in at and whether their CRC was good; own frames that wait, with their local group (R607); the frame
each port sent last, the ports the routes use, the end of the 100 ms before unwrapping, and what O2 sent in the last 1 ms. -/
structure Orb where
  busy : Vector Nat 2
  fwd : List (Fin 2 × OrbInfo × Bool)
  own : List (Fin 4 × List Byte)
  out : Vector (List Byte) 2
  use : Vector Bool 2
  unwrapT : Timer
  tx : List (Nat × Nat)
  deriving DecidableEq, Repr

/-- The gate block of crossing 0x16 (10 R366, 18 R659): enabled, OFF, or the active short circuit. -/
inductive Gate where
  | enabled | off | asc
  deriving DecidableEq, Repr

/-- Compare values in effect (17 R632, R636): CMP of phases A, B, C and, in NPC, the region (true is PO). -/
structure CmpSet where
  c : Vector Nat 3
  po : BitVec 3
  deriving DecidableEq, Repr

/-- The modulator of a station (17): compare values in effect and computed, the sample instant they belong to and, in the Fixed
schedule, their apply time; gate block of crossing 0x16, hardware gate block of path H, PWM bits, commands before and on the
outputs, feedback levels, confirmed channels, turn-ons skipped until the carrier period ends (R641), the time of each channel's last
output change; the chopper's compare value, its present span on, its last turn-off and its forced off time; the end of an NPC
block's inner delay, and since when every used feedback has been low. -/
structure Modu where
  cmp : CmpSet
  next : Option CmpSet
  sampleAt : Nat
  applyAt : Timer
  gate : Gate
  hwBlock : Bool
  pwm : BitVec 13
  want : BitVec 13
  cmd : BitVec 13
  fb : BitVec 13
  conf : BitVec 13
  skip : BitVec 13
  skipEnd : Nat
  edgeAt : Vector Nat 13
  chopCmp : Nat
  chopOnAt : Option Nat
  chopOffAt : Nat
  chopOffT : Timer
  innerT : Timer
  lowAt : Option Nat
  deriving DecidableEq, Repr

/-- What a stop request asks for (10 R380, 15 R569, 22 R762): a normal or an emergency ramp, by category 1 or 2, whether a class C
source made it, and whether the monitor of 22 R765 watches it. -/
structure StopReq where
  emergency : Bool
  cat2 : Bool
  classC : Bool
  watched : Bool
  deriving DecidableEq, Repr

/-- Where the start and stop sequences of a station stand (10 R383, R385, 22 R780): no sequence; flux build, a dwell before
proving (21 R748), torque proving, waiting for the brake to open, T_REL; the ramp to zero speed, proving at zero speed under
HOLD_BRAKE, waiting for the brake to close, T_SET. -/
inductive SeqStep where
  | none | flux | dwell | prove | brakeOpen | tRel | ramp | zeroProve | brakeClose | tSet
  deriving DecidableEq, Repr

/-- Protection of a station (18): the class with which each latched source latched, the end of the active short circuit, since when the
speed has been below NOFF, and the end of a class C stop's watch. -/
structure Prot where
  cls : List (Nat × Nat)
  ascT : Timer
  slowAt : Option Nat
  ctoT : Timer
  deriving DecidableEq, Repr

/-- A station's operating state and its sequence (10, 22): its state and the one DIAG was entered from; what waits for the next
command point (START, a stop request, the exit from FAULTED, a RELEASE); the step reached, the end of its time, the stop in
progress, samples at zero speed, the verdict of a proving and whether it still takes samples, the brake output; the monitor of
R765 and the category 2 hold; Lever Direct, by selection or by policy, and the Eclipse policy followed (0 none); since when
VSAT has differed from the state; a start to be abandoned at the next command point (22 R778); and gates that wait for the next sample
(10 R383 step 1). -/
structure Sq where
  st : StnSt
  diagFrom : StnSt
  pendStart : Bool
  pendStop : Option StopReq
  pendExit : Bool
  pendRelease : Bool
  step : SeqStep
  t : Timer
  stop : Option StopReq
  zcount : Nat
  proved : Bool
  brake : Bool
  c1T : Timer
  c2 : Bool
  lever : Bool
  bySel : Bool
  pol : Nat
  vsT : Option Nat
  abandon : Bool
  gateWait : Bool
  deriving DecidableEq, Repr

/-- The threshold states of one group of one station (21 R732, R735), and its maximum in 0.1 degrees over the sensors that count
(R731). -/
structure ThmSt where
  lowInh : Bool
  lowWarn : Bool
  highWarn : Bool
  derate : Bool
  trip : Bool
  blind : Bool
  max : Option Int
  deriving DecidableEq, Repr

/-- A station (01 section 3). -/
structure Station where
  sq : Sq
  fb : Fb
  isns : Isns
  loops : Loops
  banks : Banks
  setp : SetPt
  share : Share
  modu : Modu
  prot : Prot
  thm : Vector ThmSt 5
  deriving DecidableEq, Repr

/-- Emergency modes beside the EMG page (22): the detector armed and declared, the time of the last host activity; the end of the
discrepancy time of the lever channels, and since when their check has passed; and the commit of the frame that ended the last
ECLIPSE of the unit (10 R369). -/
structure Emg where
  armed : Bool
  declared : Bool
  lastAt : Nat
  discT : Timer
  okAt : Option Nat
  back : Option Word
  deriving DecidableEq, Repr

/-- The trigger engine beside its page (14 R551, R552): Field Time of the ARM, the node value of the sample before, what the
trigger's MARK carries (cause, station, node or bit, value), and the traces (8 n + t) whose next record needs a MARK for the
trigger or for a changed configuration (R549). -/
structure Trc where
  armAt : Nat
  prev : Option Int
  cause : Nat
  tstn : Nat
  node : Nat
  value : Nat
  marks : BitVec 32
  cfgMarks : BitVec 32
  deriving DecidableEq, Repr

/-! ## Diagnostics, housekeeping, thermal management, security and firmware -/

/-- The off-state diagnostic sequence beside the DIAG page (19): the end of a dwell, a disturbance of the step in progress, the DC link at
its first measurement, when it began, and the current at PS_INJ in 0.1 mA, sunk positive: from which time on which (R686, R687); none
stands for 0 A. -/
structure Diag where
  dwellT : Timer
  disturbed : Bool
  vlink : Int
  stepAt : Nat
  psInj : List (Nat × Int)
  deriving DecidableEq, Repr

/-- The housekeeping round (20): the slot in progress with its index in the round, its channel, whether it is on demand, and the
entries of its channel and of its source that hold for it (R726); the next channel of the round; requests waiting, and how many of
them were counted as deferred; on-demand slots since channel 0; when the round began; the outputs' headroom slots in a row without
a condition (R723); a round has completed since PD7 powered up, so that the thermal groups are known (10 R372 T8). -/
structure Hk where
  slot : Nat
  ch : Nat
  od : Bool
  entry : Word
  srcEntry : Word
  next : Nat
  queue : List Nat
  deferred : Nat
  ins : Nat
  since : Nat
  clear : Vector Nat 4
  known : Bool
  deriving DecidableEq, Repr

/-- Thermal management beside its pages (21): the grace times, the end of the dwell after a trace upload (R750) and of the one before
a scrub pass. -/
structure Thd where
  grace : Vector Timer 4
  traceT : Timer
  scrubT : Timer
  deriving DecidableEq, Repr

/-- A pending challenge (23 R798). -/
structure Chal where
  level : Nat
  sid : Word
  nonce : List Byte
  expT : Nat
  deriving DecidableEq, Repr

/-- Sessions beside the SEC page (23 section 3): the challenge, the open session's SID, MAC and opening time, the last host activity;
the held key words and check (R793). -/
structure Sec where
  pend : Option Chal
  sid : Word
  mac : List Byte
  openedAt : Nat
  actAt : Nat
  keyw : Vector Word 8
  kchk : Word
  deriving DecidableEq, Repr

/-- One-time programmable memory (23): the key's state (0 BLANK, 1 PROVISIONED, 2 FAILED) and bytes, co-signing and its hash, the
anti-rollback counter, and the factory limit of the NTC comparators in 0.1 degrees (21 R753). -/
structure Otp where
  keyState : Nat
  key : List Byte
  cosign : Bool
  csHash : List Byte
  arc : Nat
  ntcLim : Nat
  deriving DecidableEq, Repr

/-- Slot states (23 R808). -/
inductive SlotSt where
  | empty | invalid | verified | trial | confirmed
  deriving DecidableEq, Repr

/-- A flash slot (23 R805, R808): its state, the VERSION and ARC of its image, and the bytes programmed. -/
structure Slot where
  st : SlotSt
  version : Word
  arc : Nat
  img : List Byte
  deriving DecidableEq, Repr

/-- Load states (23 R818). -/
inductive LoadSt where
  | idle | erasing | loading | verifying | verified | failed
  deriving DecidableEq, Repr

/-- Firmware (23): the slots, the one to boot next and the one booted, failed boots in a row (AON); the load with its cause and next
offset, a COMMIT waiting for stream 168, a poisoned word met, a load cut off (R817), and the slot of the load in progress; FALLBACK
and RECOVERY (R814, R816). -/
structure Fw where
  slots : Vector Slot 2
  next : Fin 2
  booted : Fin 2
  bootFail : Vector Nat 2
  load : LoadSt
  cause : Nat
  ofs : Nat
  commitWait : Bool
  poisoned : Bool
  cut : Bool
  target : Fin 2
  fallback : Bool
  recovery : Bool
  deriving DecidableEq, Repr

/-- The Tailstock (01 section 2), with the interface's present time: `now` is the model's physical time in ticks of 2.5 ns, `fresh` the
number of free values drawn so far. `ft` is Field Time (03 R93), `ssn` the store sequence number (06 R219); `toks` are the last tokens of
executed CMD frames with page and RESULT, newest first (08 R309), `mbToks` those of the management bus (09 R346), and `resetDue` a
Tailstock reset accepted (10 R402, 23 R816). `xfer` are the words that configuration transfers since replaced, `held` those that blocks
keep after an abandoned one (03 R112), `xferWait` the pages whose transfer waits for its domain (R103); `ds` are the words that receivers
of running values still hold, `dsOld` those they held before the last update (R105). `late` holds the words in effect of registers whose
new words take effect at the next sample instant of their station (11 R453, 13 R497, 16 R590, 17 R651), `ceWords` the CLK_CE time of the
last write of a loop register with the words that stood before the writes of that CLK_CE cycle (13 R497). -/
structure Tail where
  u : UnitInfo
  now : Nat
  fresh : Nat
  ft : DWord
  ssn : Word
  regs : SMap Word
  xfer : SMap Word
  held : SMap Word
  xferWait : List Nat
  ds : SMap Word
  dsOld : SMap Word
  late : SMap Word
  ceWords : DWord × SMap Word
  log : EvtLog
  store : Store
  link : Link
  clk : Clocks
  aon : Aon
  us : UnitSt
  boot : Boot
  grp : Vector Grp 2
  dio : Dio
  sto : Sto
  stn : Vector Station 4
  ain : Vector Ain 8
  emg : Emg
  shr : Vector ShrGrp 4
  orb : Orb
  sess : Nat
  trc : Trc
  diag : Diag
  hk : Hk
  thd : Thd
  sec : Sec
  otp : Otp
  fw : Fw
  toks : List (Nat × Word × Word)
  mbToks : List Byte
  resetDue : Option RstCause
  deriving DecidableEq, Repr

/-- The last response of an operation-level command: status, sequence byte, store sequence number and data (08 R293). -/
structure Resp where
  status : Nat
  seq : Byte
  snap : Word
  data : List Byte
  deriving DecidableEq, Repr

/-- The unit with its queue of waiting commands: the Headstock, the messages on the two lanes, what waits in the receive buffer between
transactions, the Tailstock. -/
structure State where
  pending : List Instr
  hs : Head
  h2f : List H2F
  f2h : List F2H
  rxBuf : List LateRsp
  rsp : Option Resp
  fs : Tail
  deriving DecidableEq, Repr

/-! ## The state right after reset

The initial values of every typed part, and `State.reset`: both supplies have brought the field side up (PON and the TRST it
implies, 00 R14) and the host 3.3 V has brought the Headstock up (04 R122), on a TW4-F. -/

def encLow : EncLevels := ⟨false, false, false, false, false, false, false⟩
def Enc.init : Enc := ⟨0, none, none⟩

/-- Feedback after TRST (11): no edge yet, every level low. -/
def FbPend.init : FbPend := ⟨false, false, false, false, false, false, false⟩

def Fb.init : Fb :=
  { lv := encLow, sw := 0, prim := Enc.init, aux := Enc.init, qerrAt := [], qerrLoss := false, illegal := false
    lossHold := false, zArmed := true, ssiStart := none, ssiLast := 0, ssiFree := 0, ssiFt := 0, ssiField := none, ssiRun := 0, ssiSkip := false
    ssiGood := false, out := 0, hallAt := none, hallLoss := false, pulse := none, gtStart := none
    pend := FbPend.init }

/-- Current sensing after TRST (12); the configuration in effect is the reset value of ISNS_CFG. -/
def Isns.init : Isns :=
  { validAt := Vector.replicate 4 0, last := Vector.replicate 4 0, code := Vector.replicate 4 0, ok := 0, cfg := 0, cal := .none
    calT := none, sum := Vector.replicate 3 0, n := 0, restarts := 0, calFail := false, calOfs := Vector.replicate 3 0, trkStop := 0
    trkTaken := false, inv := false, ain := Vector.replicate 8 0, ainOk := 0, prot := Vector.replicate 4 0, gfRun := 0, blankT := 0 }

def Ain.init : Ain := ⟨false, 0, 0, 0, 0, false, 0, 0⟩
def Pid.init : Pid := ⟨0, 0, 0, 0, false, false, 0⟩
def Notch.init : Notch := ⟨0, 0, 0, 0, 0⟩

/-- The loops after TRST (13). -/
def Loops.init : Loops :=
  { k := 0, pd := Pid.init, pq := Pid.init, ps := Pid.init, po := Pid.init, n0 := Notch.init, n1 := Notch.init, n2 := Notch.init
    lpf := 0, theta := 0, slip := 0, tref := 0, nref := ⟨0, 0⟩, iq := 0, id := 0, iqRef := 0, vAlpha := 0, vBeta := 0, vsat := false
    dclamp := false, iqlim := false, spdOk := 0, posOk := 0, trefPrev := 0, curNodes := [], spdNodes := [], outNodes := [], nodes := [] }

/-- The coefficient banks after TRST (14 R531). -/
def Banks.init : Banks :=
  { hw := Vector.replicate 4 none, ret := Vector.replicate 3 none, hist := [], mt := Vector.replicate 3 0, ms := Vector.replicate 3 0
    met := 0, emerg := false, reqAt := 0 }

/-- The set-point source after TRST (15): nothing drives a reference. -/
def SetPt.init : SetPt :=
  { v := 0, a := 0, p := 0, drv := .host, kind := .speed, enter := false, hostFrom := none, seen := 0, target := none, ref := 0
    aref := 0, stop := .none, render := .normal, haul := 0, above := 0, yf := 0, out := 0, rem := 0, cnt := 0, lostT := none
    okT := none }

def Share.init : Share :=
  { role := .none, share := 0, recv := 0, ta := 0, stopReq := false, pacer := none, next := 0, fseq := none, wait := [], seen := 0
    plost := false, succ := false, join := false }

def ShrGrp.init : ShrGrp := ⟨0, [], 0, none, [], [], none⟩

/-- The Orbit ports after TRST (16): idle, normal routes. -/
def Orb.init : Orb :=
  { busy := Vector.replicate 2 0, fwd := [], own := [], out := Vector.replicate 2 [], use := Vector.replicate 2 true
    unwrapT := none, tx := [] }

def CmpSet.init : CmpSet := ⟨Vector.replicate 3 0, 0⟩

/-- The modulator after TRST (17): every output and every feedback off. -/
def Modu.init : Modu :=
  { cmp := CmpSet.init, next := none, sampleAt := 0, applyAt := none, gate := .off, hwBlock := false, pwm := 0, want := 0, cmd := 0
    fb := 0, conf := 0, skip := 0, skipEnd := 0, edgeAt := Vector.replicate 13 0, chopCmp := 0, chopOnAt := none, chopOffAt := 0, chopOffT := none
    innerT := none, lowAt := none }

/-- Protection after TRST (18). -/
def Prot.init : Prot := ⟨[], none, none, none⟩

/-- A station after TRST (10 R373): DISABLED, nothing pending. -/
def Sq.init : Sq :=
  { st := .disabled, diagFrom := .disabled, pendStart := false, pendStop := none, pendExit := false, pendRelease := false
    step := .none, t := none, stop := none, zcount := 0, proved := true, brake := false, c1T := none, c2 := false, lever := false
    bySel := false, pol := 0, vsT := none, abandon := false, gateWait := false }

def ThmSt.init : ThmSt := ⟨false, false, false, false, false, false, none⟩

/-- Station `n` after TRST. -/
def Station.init (n : Nat) : Station :=
  { sq := Sq.init, fb := Fb.init, loops := Loops.init, banks := Banks.init, setp := SetPt.init, share := Share.init, modu := Modu.init
    isns := { Isns.init with cfg := BitVec.ofNat 32 ((pageFields (stnPage n 0x4)).foldl (fun w f =>
      if f.addr = (ISNS_CFG.CH_EN n).addr then w + f.rst * 2 ^ f.lo else w) 0) }
    prot := Prot.init
    thm := Vector.replicate 5 ThmSt.init }

/-- The link's field end after TRST (02): untrained, no response kept. -/
def Link.init : Link :=
  { lastLseq := Vector.replicate 16 none, retained := Vector.replicate 16 none, sent := Vector.replicate 16 none
    rsps := [], prio := [], openMsg := .none, retrain := false, ready := false, trainFail := false, hsPresent := false
    wakeLvl := false, wakeRun := 0, deafRun := 0, trainAt := 0, busy := [] }

/-- The store after its power-up (07 R254): every word zero, every stream empty. -/
def Store.init : Store :=
  { mem := [], sys := [], streams := [], wb := Vector.replicate 8 [], inj := [], scrub := Vector.replicate 8 0
    catchUp := Vector.replicate 8 [], passStart := 0, paceFrom := 0 }

def EvtLog.init : EvtLog := ⟨[], 0, false⟩
def LogArea.init : LogArea := ⟨[], 0, false, true⟩

/-- The always-on domain after PON with supplies `a` and `b`, and the field domains held off where `cold` (04). DESIGN CHOICE (log entry
123): with supply B alone the selector stands in ON_B from the start; that is no hand-over. -/
def Aon.init (a b cold : Bool) : Aon :=
  { ho := if a then .onA else .onB, aValid := a, bValid := b, aRet := a, hoTimes := [], hoTotal := 0, hoAborts := 0, unstable := false
    dwell := none, dom := if cold then 0x02 else 0xFE, ps := .run, accepted := none, switching := none, wakePend := false
    held := none, retained := false, cold := cold, coldSeen := cold, gateBlock := false, log := LogArea.init, lastCause := 0
    lastFlushOk := false, retention := none, sleptAt := 0, epoch := 0, shutAt := none, lockT := none, hwLevel := [] }

/-- Clocks before the PLLs have locked (03). -/
def Clocks.init : Clocks := ⟨0, false, false, false, none, false, ⟨0, 0⟩, ⟨0, 0⟩, ⟨0, 0⟩⟩

/-- Start-up at its beginning (10 R372). -/
def Boot.init : Boot := ⟨false, false, false, false, false, false, false, false, 0, false, 0, 0, 0⟩

def Grp.init : Grp := ⟨.idle, 0, 0, 0, 0, 0, none, false⟩
def Dio.init : Dio := ⟨0, 0, false, 0, false⟩

/-- The safety inputs before a level is accepted (18 R674): de-energized, so blocking. -/
def Sto.init : Sto := ⟨false, false, false, true, false, false, 0, false, none, none, none⟩

def Emg.init : Emg := ⟨false, false, 0, none, none, none⟩
def Trc.init : Trc := ⟨0, none, 0, 0, 0, 0, 0, 0⟩
def Diag.init : Diag := ⟨none, false, 0, 0, []⟩
/-- The round at the start of channel 0's slot (20 R711). -/
def Hk.init : Hk := ⟨0, 0, false, 1, 1, 1, [], 0, 0, 0, Vector.replicate 4 0, false⟩
def Thd.init : Thd := ⟨Vector.replicate 4 none, none, none⟩
def Sec.init : Sec := ⟨none, 0, [], 0, 0, Vector.replicate 8 0, 0⟩

/-- One-time programmable memory as delivered (23): no key, no co-signing. -/
def Otp.init : Otp := ⟨0, [], false, [], 0, 0x04E2⟩

def Slot.empty : Slot := ⟨.empty, 0, 0, []⟩

/-- Firmware as delivered (23): slot 0 confirmed and booted, slot 1 empty. -/
def Fw.init : Fw :=
  { slots := #v[⟨.confirmed, 0, 0, []⟩, Slot.empty], next := 0, booted := 0, bootFail := Vector.replicate 2 0, load := .idle, cause := 0
    ofs := 0, commitWait := false, poisoned := false, cut := false, target := 0, fallback := false
    recovery := false }

/-- The Tailstock of unit `u` right after PON. -/
def Tail.init (u : UnitInfo) (a b cold : Bool) : Tail :=
  { u := u, now := 0, fresh := 0, ft := 0, ssn := 0, regs := [], xfer := [], held := [], xferWait := [], ds := [], dsOld := [], late := []
    ceWords := (0, []), log := EvtLog.init, store := Store.init
    link := Link.init, clk := Clocks.init, aon := Aon.init a b cold, us := .boot, boot := Boot.init, grp := Vector.replicate 2 Grp.init
    dio := Dio.init, sto := Sto.init, stn := Vector.ofFn (fun n => Station.init n.val), ain := Vector.replicate 8 Ain.init
    emg := Emg.init, shr := Vector.replicate 4 ShrGrp.init, orb := Orb.init, sess := 0, trc := Trc.init, diag := Diag.init
    hk := Hk.init, thd := Thd.init, sec := Sec.init, otp := Otp.init, fw := Fw.init, toks := [], mbToks := [], resetDue := none }

def MbState.init : MbState := ⟨.idle, none, false, none, .idle, [], [], false, none, none, none⟩

/-- The level cells at their asserted defaults (02 R79). -/
def LevelCell.init : LevelCell := ⟨false, true, false⟩

/-- The Headstock right after the host 3.3 V rose: HRST, MBRST and new LSEQ counters (04 R122, 08 R865), with straps `mb`. -/
def Head.init (mb : BitVec 3) : Head :=
  { powered := true, regs := [], mbAddr := mb, lseq := Vector.replicate 10 0, dup := Vector.replicate 8 [], alert := LevelCell.init
    fault := LevelCell.init, wake := false, frame := none, drive := [], out := none, mb := MbState.init }

/-- The unit that State.reset is: a TW4-F. -/
def UnitInfo.delivered : UnitInfo := ⟨false, true, 0, 0, 0, 0⟩

/-- The field side right after PON: PG_EVT.RESET of DEV is latched and waits to be logged with PG_STAT, READY (10 R403, 06 R226), and T1 is
due 3.5 ms later (10 R372). -/
def Tail.afterPon (t : Tail) : Tail :=
  { t with
    regs := [((PG_EVT.EVT 0).addr, 1)]
    log := { t.log with queue := [⟨0, 0, false, some 0, some 1, 0⟩] }
    boot := { t.boot with upAt := 1400000 } }

/-- The machine right after reset: PON with both supplies valid, above the low-temperature hold, and HS_3V3_RISE. -/
def State.reset : State :=
  { pending := [], hs := Head.init 0, h2f := [], f2h := [], rxBuf := [], rsp := none
    fs := (Tail.init UnitInfo.delivered true true false).afterPon }

end Sys2Proof.Machine
end

