-- ==== Sys2Proof/Machine/Ops.lean ====
section
/-! DEFINITION. The named operations over the Tailstock that every block uses: register words and fields, their reset values,
event latches, stations, time and timers. -/

namespace Sys2Proof.Machine

/-! ## Default stream descriptors (06 R194, R195) -/

/-- The defaults of one stream context (06 R194). -/
structure StrdDef where
  en : Bool
  size : Nat
  policy : Nat
  prio : Nat
  quota : Nat
  deriving DecidableEq, Repr

/-- A stream that is absent on the variant: streams 96 to 127 on a TW2 (06 R204). -/
def strdAbsent (u : UnitInfo) (k : Nat) : Bool := u.tw2 && (96 ≤ k && k < 128)

/-- The defaults of stream `k` (06 R194); streams 169 to 191 present only EN (R204). -/
def strdDef (u : UnitInfo) (k : Nat) : StrdDef :=
  if strdAbsent u k then ⟨false, 0, 0, 0, 0⟩
  else if k < 8 then ⟨true, 16, 1, 6, 16⟩
  else if k < 12 then ⟨true, 14, 1, 6, 16⟩
  else if k < 16 then ⟨false, 12, 1, 6, 16⟩
  else if k < 64 then ⟨false, 12, 0, 2, 8⟩
  else if k < 128 then
    match k % 16 with
    | 0 => ⟨true, 16, 1, 3, 4⟩
    | 1 => ⟨true, 18, 1, 3, 4⟩
    | 2 => ⟨true, 17, 1, 3, 4⟩
    | 3 => ⟨true, 12, 1, 5, 8⟩
    | 4 => ⟨true, 18, 1, 3, 4⟩
    | 13 => ⟨true, 14, 1, 5, 8⟩
    | 14 => ⟨false, 12, 0, 2, 8⟩
    | 15 => ⟨false, 12, 0, 2, 8⟩
    | _ => ⟨false, 21, 1, 1, 32⟩
  else if k < 131 then ⟨u.orbit, 16, 1, 4, 4⟩
  else if k < 144 then ⟨false, 12, 0, 0, 1⟩
  else if k = 144 then ⟨true, 16, 1, 2, 8⟩
  else if k = 145 then ⟨true, 12, 1, 2, 8⟩
  else if k < 160 then ⟨false, 12, 0, 0, 1⟩
  else if k = 160 then ⟨true, 20, 1, 5, 8⟩
  else if k = 161 then ⟨true, 20, 2, 5, 8⟩
  else if k < 168 then ⟨false, 12, 0, 0, 1⟩
  else if k = 168 then ⟨true, 21, 2, 2, 8⟩
  else if k < 192 then ⟨true, 0, 0, 0, 0⟩
  else ⟨false, 12, 0, 2, 8⟩

/-- The 4 KiB units that stream `k` takes in the default layout (06 R195). -/
def strdUnits (u : UnitInfo) (k : Nat) : Nat :=
  let d := strdDef u k
  if d.en && !(169 ≤ k && k < 192) then 2 ^ (d.size - 12) else 0

/-- The 4 KiB unit at which stream `k` is placed at TRST: packed from 0 in ascending stream number (06 R195). -/
def strdBase (u : UnitInfo) : Nat → Nat
  | 0 => 0
  | k + 1 => strdBase u k + strdUnits u k

/-- The configuration word of stream `k`'s descriptor at TRST (06 R194, R195, R198, R204). -/
def strdCfgRst (u : UnitInfo) (k : Nat) : Word :=
  let d := strdDef u k
  let base := if strdUnits u k = 0 then 0 else strdBase u k
  BitVec.ofNat 32 (b2n d.en <<< 28 ||| d.quota <<< 22 ||| d.prio <<< 19 ||| d.policy <<< 17 ||| d.size <<< 12 ||| base)

/-! ## Register words and fields -/

/-- The stream whose descriptor configuration stands at address `a`, if `a` is an STRD_CFG register (06 R230). -/
def strdCfgAt (a : Nat) : Option Nat :=
  let p := a / 256
  let o := a % 256
  if 0x10 ≤ p && p < 0x20 && 0x20 ≤ o && o < 0xE0 && (o - 0x20) % 12 == 0 then some (16 * (p - 0x10) + (o - 0x20) / 12) else none

/-- The word at address `a` after every reset: the reset values of its fields (00 R14, the field maps). -/
def regDefault (u : UnitInfo) (a : Nat) : Word :=
  match strdCfgAt a with
  | some k => strdCfgRst u k
  | none => (regFields a).foldl (fun w f => fdPut f f.rst w) 0

/-- The stored word of register `a`. -/
def Tail.word (t : Tail) (a : Nat) : Word := smGet (regDefault t.u) t.regs a

/-- `t` with register `a` holding `w`. -/
def Tail.setWord (t : Tail) (a : Nat) (w : Word) : Tail := { t with regs := smSet (regDefault t.u) t.regs a w }

/-- The stored value of field `f`. -/
def Tail.g (t : Tail) (f : Fd) : Nat := fdGet f (t.word f.addr)

/-- The stored value of field `f` as a two's-complement number. -/
def Tail.gi (t : Tail) (f : Fd) : Int := sx f.width (t.g f)

/-- Whether field `f` is not 0. -/
def Tail.b (t : Tail) (f : Fd) : Bool := t.g f != 0

/-- `t` with field `f` set to `x`. -/
def Tail.p (t : Tail) (f : Fd) (x : Nat) : Tail := t.setWord f.addr (fdPut f x (t.word f.addr))

/-- `t` with field `f` set to the code of `x`. -/
def Tail.pi (t : Tail) (f : Fd) (x : Int) : Tail := t.p f (enc f.width x)

/-- `t` with the one-bit field `f` set to `x`. -/
def Tail.pb (t : Tail) (f : Fd) (x : Bool) : Tail := t.p f (b2n x)

/-- `t` with the counter `f` incremented, saturating. -/
def Tail.inc (t : Tail) (f : Fd) : Tail := t.p f (satInc f.width (t.g f))

/-- `t` with the counter `f` increased by `k`, saturating. -/
def Tail.incBy (t : Tail) (f : Fd) (k : Nat) : Tail := t.p f (satAdd f.width (t.g f) k)

/-- `t` with the counter `f` incremented, wrapping. -/
def Tail.incW (t : Tail) (f : Fd) : Tail := t.p f (t.g f + 1)

/-- The ticks that a replica's pattern has added `f` ticks of the master after it was loaded (03 R96): 1, 1, 2 in CLK_CE, 4 in CLK_FB, 3, 3,
2 in CLK_SEQ. -/
def tickCe (f : Nat) : Nat := 4 * (f / 4) + (f % 4 * 3 / 4)
def tickFb (f : Nat) : Nat := 4 * (f / 4)
def tickSq (f : Nat) : Nat := 8 * (f / 8) + 3 * (f % 8 * 3 / 8)

/-- The value of replica `r` when the master reads `ft`. -/
def Replica.value (r : Replica) (pat : Nat → Nat) (ft : DWord) : DWord :=
  r.base + BitVec.ofNat 64 (pat (ft - r.base).toNat) + BitVec.ofInt 64 r.gain

/-- Field Time in CLK_CE, in CLK_FB and in CLK_SEQ. -/
def Tail.ftCe (t : Tail) : DWord := t.clk.ce.value tickCe t.ft
def Tail.ftFb (t : Tail) : DWord := t.clk.fb.value tickFb t.ft
def Tail.ftSq (t : Tail) : DWord := t.clk.sq.value tickSq t.ft

/-- The word of register `a` of a loop page or of BNKB, which the CE reads (13 R497, 14 R541). -/
def loopReg (a : Nat) : Bool :=
  0x40 ≤ a / 256 && a / 256 < 0x80 && (5 ≤ a / 256 % 16 && a / 256 % 16 ≤ 8 || a / 256 % 16 = 0xA)

/-- The station whose next current-loop sample instant brings a new word of register `a` into effect: the FBP, FBA, LCMP and MOD pages
(11 R453, 17 R651), the loop pages and BNKB (13 R497, 14 R541), STRC (14 R550), STN_TIMING (14 R527), the classes and thresholds of PROT
(18 R666) and the station registers of SHR (16 R590). The PROF and EXTS pages stand here
too: their words wait for the next source boundary (15 R583), which is a sample instant. -/
def sampleReg (a : Nat) : Option Nat :=
  let p := a / 256
  let b := p % 16
  if 0x40 ≤ p && p < 0x80 then
    if ((1 ≤ b && b ≤ 3 || 0xB ≤ b && b ≤ 0xD) && (a % 256 = 4 || 0x20 ≤ a % 256)) || (b = 0xE && 0x34 ≤ a % 256 && a % 256 < 0x50)
        || ((loopReg a || (b = 0xF && a % 256 < 0x60)) && 0x20 ≤ a % 256) || (b = 0 && a % 256 = 0x44)
      then some ((p - 0x40) / 16) else none
  else if 0x3740 ≤ a && a < 0x3760 then some ((a - 0x3740) / 8)
  else if 0x3760 ≤ a && a < 0x3770 then some ((a - 0x3760) / 4)
  else none

/-- The word of register `a` of a station's PROF or EXTS page (15 R583). -/
def sourceReg (a : Nat) : Bool := 0x40 ≤ a / 256 && a / 256 < 0x80 && (a / 256 % 16 = 0xB || a / 256 % 16 = 0xC)

/-- The word of register `a` in effect in its block: the one kept after an abandoned transfer (03 R112), or the one still in effect until
the next sample instant, else the stored one. -/
def Tail.inEff (t : Tail) (a : Nat) : Word := smGet (smGet t.word t.late) t.held a

/-- Field `f` of the configuration in effect in its block. -/
def Tail.cf (t : Tail) (f : Fd) : Nat := fdGet f (t.inEff f.addr)

/-! ## Running values that cross between clocks (03 R104, R105, 05 R180) -/

/-- The word of register `a` as the receiver of its crossing holds it. -/
def Tail.accepted (t : Tail) (a : Nat) : Word := smGet t.word t.ds a

/-- Field `f` as the receiver of its crossing holds it. -/
def Tail.ag (t : Tail) (f : Fd) : Nat := fdGet f (t.accepted f.addr)
def Tail.agi (t : Tail) (f : Fd) : Int := sx f.width (t.ag f)

/-- Register `a` gets a new value at its source: what the receiver held is the word it falls back on (R105). -/
def Tail.dsNote (t : Tail) (a : Nat) : Tail := { t with dsOld := smIns t.dsOld a (t.accepted a), ds := smDel t.ds a }

/-- `t` with the running value `f` set to `x` at its source. -/
def Tail.pDs (t : Tail) (f : Fd) (x : Nat) : Tail := (t.dsNote f.addr).p f x

/-! ## Configuration in effect -/

/-- `t` with field `f` of the configuration in effect set to `x` by its block. -/
def Tail.pEff (t : Tail) (f : Fd) (x : Nat) : Tail :=
  let w := fdPut f x (t.inEff f.addr)
  if t.held.any (fun e => e.1 = f.addr) then { t with held := smIns t.held f.addr w }
  else if t.late.any (fun e => e.1 = f.addr) then { t with late := smIns t.late f.addr w }
  else t.setWord f.addr w

/-- Register `a` keeps its present word in effect until the next sample instant of its station, if it is one of those. -/
def Tail.lateAdd (t : Tail) (a : Nat) (w : Word) : Tail :=
  if (sampleReg a).isSome && !t.late.any (fun e => e.1 = a) then { t with late := smIns t.late a w } else t

/-- The words that stood before the writes of the present CLK_CE cycle, of the loop registers written in it (13 R497). -/
def Tail.ceOld (t : Tail) : SMap Word := if t.ceWords.1 = t.ftCe then t.ceWords.2 else []

/-- A write of register `a` is noted with its CLK_CE cycle, where the register is a loop's (13 R497). -/
def Tail.ceNote (t : Tail) (a : Nat) : Tail :=
  if !loopReg a then t
  else { t with ceWords := (t.ftCe, if t.ceOld.any (fun e => e.1 = a) then t.ceOld else smIns t.ceOld a (t.word a)) }

/-- The entry `e` of the words in effect after a sample instant: gone, unless the register was written in this same CLK_CE cycle; what
stood before that write is then in effect until the next instant (13 R497). -/
def Tail.lateNext (t : Tail) (e : Nat × Word) : Option (Nat × Word) := t.ceOld.find? (fun o => o.1 = e.1)

/-- The configuration in effect as a two's-complement number. -/
def Tail.cfi (t : Tail) (f : Fd) : Int := sx f.width (t.cf f)

/-- Whether field `f` of the configuration in effect is not 0. -/
def Tail.cfb (t : Tail) (f : Fd) : Bool := t.cf f != 0

/-- Whether the block of page `p` is enabled (05 R167, R168). -/
def Tail.enabled (t : Tail) (p : Nat) : Bool := t.cfb (PG_CTRL.ENABLE p)

/-- The fields of page `p` that reset kinds `ks` restore. -/
def fieldsBy (ks : List RstBy) (p : Nat) : List Fd := (pageFields p).filter (fun f => ks.contains f.rby)

/-- `t` with the fields `fs` at their reset values (00 R14). -/
def Tail.restore (t : Tail) (fs : List Fd) : Tail := fs.foldl (fun t f => t.p f (fdGet f (regDefault t.u f.addr))) t

/-- A host write of word `w` to register `a`: the word that was in effect is kept until the next transfer of its page, for a transfer
that is abandoned. -/
def Tail.cfgWrite (t : Tail) (a : Nat) (w : Word) : Tail :=
  let old := t.inEff a
  let t := (t.lateAdd a (t.word a)).ceNote a
  { t.setWord a w with xfer := if t.xfer.any (fun e => e.1 = a) then t.xfer else smIns t.xfer a old }

/-- The field-side pages, on which event latches and register images stand. -/
def fieldPages : List Nat := (List.range 0x80).filter (fun p => !reservedPage p && p != 1 && p != 2)

/-! ## Presence -/

/-- Station `n` is fitted: all four on a TW4, S0 and S1 on a TW2 (00 R2, R3). -/
def Tail.fitted (t : Tail) (n : Nat) : Bool := n < 4 && !(t.u.tw2 && 2 ≤ n)

/-- The number of stations fitted. -/
def Tail.stnCount (t : Tail) : Nat := if t.u.tw2 then 2 else 4

/-- The fitted stations. -/
def Tail.stns (t : Tail) : List Stn := (List.finRange 4).filter (fun n => t.fitted n.val)

/-- Page `p` belongs to a station that is not fitted (00 R3). -/
def Tail.absentPage (t : Tail) (p : Nat) : Bool := t.u.tw2 && 0x60 ≤ p && p < 0x80

/-- Power domain PDn is on (04 R138). -/
def Tail.pd (t : Tail) (n : Nat) : Bool := t.aon.dom.getLsbD n

/-- The clock of power domain PDn (03 R90, R116). -/
def domClock : Nat → Nat
  | 2 => 4 | 3 => 3 | 4 => 1 | 5 => 1 | 6 => 0 | _ => 2

/-- Clock `c` runs (bit order of 03 R116): every clock comes from the crystal. -/
def Tail.runs (t : Tail) (c : Nat) : Bool := t.clk.run.getLsbD c && t.clk.run.getLsbD 7

/-- Domain PDn is on and its clock runs: with the clock stopped its blocks stand still (03 R114). -/
def Tail.on (t : Tail) (n : Nat) : Bool := t.pd n && t.runs (domClock n)

/-! ## Stations -/

def Tail.stnGet (t : Tail) (n : Stn) : Station := t.stn[n]

/-- `t` with station `n` changed by `f`. -/
def Tail.stnMap (t : Tail) (n : Stn) (f : Station → Station) : Tail := { t with stn := t.stn.set n (f t.stn[n]) }

def Tail.sqMap (t : Tail) (n : Stn) (f : Sq → Sq) : Tail := t.stnMap n (fun s => { s with sq := f s.sq })
def Tail.fbMap (t : Tail) (n : Stn) (f : Fb → Fb) : Tail := t.stnMap n (fun s => { s with fb := f s.fb })
def Tail.isnsMap (t : Tail) (n : Stn) (f : Isns → Isns) : Tail := t.stnMap n (fun s => { s with isns := f s.isns })
def Tail.loopsMap (t : Tail) (n : Stn) (f : Loops → Loops) : Tail := t.stnMap n (fun s => { s with loops := f s.loops })
def Tail.banksMap (t : Tail) (n : Stn) (f : Banks → Banks) : Tail := t.stnMap n (fun s => { s with banks := f s.banks })
def Tail.setpMap (t : Tail) (n : Stn) (f : SetPt → SetPt) : Tail := t.stnMap n (fun s => { s with setp := f s.setp })
def Tail.shareMap (t : Tail) (n : Stn) (f : Share → Share) : Tail := t.stnMap n (fun s => { s with share := f s.share })
def Tail.moduMap (t : Tail) (n : Stn) (f : Modu → Modu) : Tail := t.stnMap n (fun s => { s with modu := f s.modu })
def Tail.protMap (t : Tail) (n : Stn) (f : Prot → Prot) : Tail := t.stnMap n (fun s => { s with prot := f s.prot })

/-- The running states of a station (10 R366): those in which a stop is needed before its pages may be reset (05 R171). -/
def StnSt.isRunning : StnSt → Bool
  | .magnetizing | .running | .voltLimited | .stopping | .emergency => true
  | _ => false

/-- Some fitted station is in a running state. -/
def Tail.anyRunning (t : Tail) : Bool := t.stns.any (fun n => (t.stnGet n).sq.st.isRunning)

/-! ## Time -/

/-- Ticks of 2.5 ns in a microsecond, a millisecond and a second. -/
def us1 : Nat := 400
def ms1 : Nat := 400000
def s1 : Nat := 400000000

/-- `d` ticks pass: Field Time counts while it runs, CLK_AON cycles count while it does not (03 R93 to R95). -/
def Tail.elapse (t : Tail) (d : Nat) : Tail :=
  if t.clk.ftRun then { t with now := t.now + d, ft := t.ft + BitVec.ofNat 64 d } else { t with now := t.now + d }

/-- A tick with no command waiting: one tick of Field Time, or one cycle of CLK_AON where Field Time stands (03 R90, R93). -/
def Tail.tick (t : Tail) : Tail := t.elapse (if t.clk.ftRun then 1 else us1)

/-- Time passes up to the deadline `at`, if it lies ahead. -/
def Tail.elapseTo (t : Tail) (dl : Nat) : Tail := t.elapse (dl - t.now)

/-- The clocks with every replica loaded from the master at `ft` (03 R96). -/
def Clocks.load (c : Clocks) (ft : DWord) : Clocks := { c with ce := ⟨ft, 0⟩, fb := ⟨ft, 0⟩, sq := ⟨ft, 0⟩ }

/-- The clocks that run once the PLLs have locked (03 R109), CLK_ORB only on -F units, with the replicas loaded (R96). -/
def Clocks.up (orbit : Bool) (ft : DWord) : Clocks :=
  Clocks.load { Clocks.init with run := if orbit then 0xFF else 0xBF, pllA := true, pllB := true, ftRun := true } ft

/-- The typical times of start-up (10 R372): T1 after PON, T3 after T1, T4, T5 and T6 after T3, T7 and T9 after the steps they wait for. -/
def bootT1 : Nat := 1400000
def bootT3 : Nat := 600000
def bootT4 : Nat := 1000000
def bootT5 : Nat := 22372000
def bootT6 : Nat := 42000000
def bootT7 : Nat := 1200000
def bootT9 : Nat := 20000

/-- A deadline `d` ticks from now. -/
def Tail.after (t : Tail) (d : Nat) : Timer := some (t.now + d)

/-- A free value is drawn: the counter that names it advances. -/
def Tail.draw (t : Tail) : Tail := { t with fresh := t.fresh + 1 }

/-! ## What the Varfen lanes carried (02 R88) -/

/-- The lanes carried `h` symbols of H2F and `f` of F2H messages at time `now`; what is older than 1 ms is forgotten (02 R88). -/
def Link.carried (l : Link) (now h f : Nat) : Link := { l with busy := (now, h, f) :: l.busy.filter (fun e => now < e.1 + ms1) }

/-- BLNK_UTIL (02 R88): the 1/256 of the last 1 ms that `n` symbols of 25 ns took. -/
def laneUtil (n : Nat) : Nat := min 0xFF (n * 10 * 256 / ms1)

/-- The symbols of the last 1 ms on a lane. -/
def Link.symbolsSince (l : Link) (now : Nat) (lane : Nat × Nat × Nat → Nat) : Nat := ((l.busy.filter (fun e => now < e.1 + ms1)).map lane).sum

/-! ## Event latches (00 R11, 05 R173) -/

/-- Bit `i` of the PG_EVT register of page `p`. -/
def Tail.evtBit (t : Tail) (p i : Nat) : Bool := (t.g (PG_EVT.EVT p)).testBit i

/-- Latch `i` of page `p` is set; a latch that was 0 waits to be logged with VALUE `v`, or with PG_STAT where `v` is none
(06 R223 to R225). -/
def Tail.evtV (t : Tail) (p i : Nat) (v : Option Word) : Tail :=
  if t.evtBit p i then t
  else
    let t := t.p (PG_EVT.EVT p) (setBit (t.g (PG_EVT.EVT p)) i true)
    { t with log := { t.log with queue := t.log.queue ++
        [⟨p, i, (t.g (PG_EVTEN.EN p)).testBit i, none, v, t.ftCe⟩] } }

/-- Latch `i` of page `p` is set, its EVENT record carrying PG_STAT (06 R225). -/
def Tail.evt (t : Tail) (p i : Nat) : Tail := t.evtV p i none

/-- Ticks of one symbol of an Orbit port: 80 ns (16 R597). -/
def orbSym : Nat := 32

end Sys2Proof.Machine
end

