-- ==== Sys2Proof/Machine/Flags.lean ====
section
/-! DEFINITION. The flags that pages show: PG_STAT with its lock and ready bits (05 section 2), and PG_LOCK. -/

namespace Sys2Proof.Machine

/-- PG_LOCK.LOCKED as it applies to the HSP (05 R175). -/
def Tail.locked (t : Tail) (p : Nat) : Bool := t.b (PG_LOCK.HOLD p) || (needsSession p && t.sess < lockLevel p)

/-- A page as locked for the management bus (05 R170, R177). -/
def Tail.lockedMb (t : Tail) (p : Nat) : Bool := t.b (PG_LOCK.HOLD p) || needsSession p

/-- A command of the block of page `p` is in progress (05 R172; log entry 13): a retraining that waits, a power transition, an injection
that waits, a load's erasing, verification or waiting COMMIT, a charge, a diagnostic sequence, on-demand conversions; of a station,
presets and commands of LCMP that wait for the sample instant (11 R453), an offset calibration by command, a host request that waits for
its boundary (14 R534). -/
def Tail.pgBusy (t : Tail) (p : Nat) : Bool :=
  if p = 0x03 then t.link.retrain
  else if p = 0x04 then t.aon.accepted.isSome || t.aon.switching.isSome
  else if p = 0x07 then !t.store.inj.isEmpty
  else if p = 0x0B then t.fw.load = .erasing || t.fw.load = .verifying || t.fw.commitWait
  else if p = 0x21 then t.grp.toList.any (fun g => !(g.st = .idle || g.st = .charged || g.st = .failed || g.st = .aborted))
  else if p = 0x25 then t.g DIAG_STAT.STATE = 1 || t.g DIAG_STAT.STATE = 2
  else if p = 0x30 then !t.hk.queue.isEmpty || t.hk.od
  else if 0x40 ≤ p && p < 0x80 then
    let n : Stn := Fin.ofNat 4 ((p - 0x40) / 16)
    let f := t.stn[n].fb.pend
    match p % 16 with
    | 0x1 => f.preset
    | 0x2 => f.aux
    | 0x3 => f.arm || f.gtClr
    | 0x4 => t.stn[n].isns.cal = .command
    | 0x9 => t.b (BNKA_STAT.HPEND n.val)
    | _ => false
  else false

/-- PG_STAT of page `p` as it stands (05 R172): READY follows ENABLE as stored and as in effect, BUSY a command in progress, LOCKED
mirrors PG_LOCK.LOCKED, FAULT reads 1 while the block holds a latched fault, WARN of a MOD page while 17 R648 says so; the other bits are
kept by their blocks. -/
def Tail.pgStat (t : Tail) (p : Nat) : Word :=
  let w := t.word (p * 256 + 0x08)
  let fault := if p = 0x03 then t.link.trainFail
    else if p = 0x22 then t.b DIO_OSTAT.OVL
    else if p = 0x23 then t.b STO_STAT.STO_DISC || t.b STO_STAT.DIAG_FAIL
    else if p = 0x32 then (List.range 4).any (fun m => t.b (AOUT_STAT.FAILED m))
    else if 0x40 ≤ p && p < 0x80 && p % 16 = 0xE then t.b (PROT_LATCH.LATCH ((p - 0x40) / 16))
    else fdGet (PG_STAT.FAULT p) w != 0
  let n := (p - 0x40) / 16
  let warn := if 0x40 ≤ p && p < 0x80 && p % 16 = 0xD then
      (t.cf (MOD_CHOP.CMODE n) = 1 && t.cfi (MOD_CHOPV.V_ON n) ≤ t.cfi (MOD_CHOPV.V_OFF n))
        || (t.cf (MOD_CHOP.CMODE n) = 2 && t.cfi (MOD_CHOPF.V_FULL n) ≤ t.cfi (MOD_CHOPV.V_ON n))
    else fdGet (PG_STAT.WARN p) w != 0
  fdPut (PG_STAT.BUSY p) (b2n (t.pgBusy p)) <| fdPut (PG_STAT.WARN p) (b2n warn)
    <| fdPut (PG_STAT.READY p) (b2n (t.b (PG_CTRL.ENABLE p) && t.enabled p))
    (fdPut (PG_STAT.LOCKED p) (b2n (t.locked p)) (fdPut (PG_STAT.FAULT p) (b2n fault) w))

end Sys2Proof.Machine
end

