-- ==== Sys2Proof/Machine/Store.lean ====
section
/-! DEFINITION. The Central Store (06, 07): words with their check bits, the streams as rings of records, commits and store
sequence numbers, and the event log. -/

namespace Sys2Proof.Machine

/-! ## The error-correcting code (07 R243 to R245) -/

/-- The check columns of the data bits d[0] to d[63] (07 R243). -/
def dataCols : List Nat :=
  [0x07, 0x0B, 0x0D, 0x0E, 0x13, 0x15, 0x16, 0x19, 0x1A, 0x1C, 0x23, 0x25, 0x26, 0x29, 0x2A, 0x2C,
   0x31, 0x32, 0x34, 0x38, 0x43, 0x45, 0x46, 0x49, 0x4A, 0x4C, 0x51, 0x52, 0x54, 0x58, 0x61, 0x62,
   0x64, 0x68, 0x70, 0x83, 0x85, 0x86, 0x89, 0x8A, 0x8C, 0x91, 0x92, 0x94, 0x98, 0xA1, 0xA2, 0xA4,
   0xA8, 0xB0, 0xC1, 0xC2, 0xC4, 0xC8, 0xD0, 0xE0, 0x1F, 0x2F, 0x37, 0x3B, 0x3D, 0x3E, 0x4F, 0x57]

/-- The check columns of the word-address bits a[0] to a[20] (07 R243). -/
def addrCols : List Nat :=
  [0x03, 0x05, 0x06, 0x09, 0x0A, 0x0C, 0x11, 0x12, 0x14, 0x18, 0x21, 0x22, 0x24, 0x28, 0x30, 0x41, 0x42, 0x44, 0x48, 0x50, 0x60]

/-- The XOR of the columns at whose places `x` has a 1. -/
def colXor : List Nat → Nat → Nat
  | [], _ => 0
  | c :: t, x => if x % 2 = 1 then c ^^^ colXor t (x / 2) else colXor t (x / 2)

/-- The check bits of data `d` at word address `a` (07 R243). -/
def checkBits (a d : Nat) : Nat := colXor dataCols d ^^^ colXor addrCols a

/-- The store word of data `d` at word address `a`, with fresh check bits (07 R248). -/
def encWord (a d : Nat) : StoreWord := BitVec.ofNat 72 (d % 2 ^ 64 + checkBits a (d % 2 ^ 64) * 2 ^ 64)

/-- The data bits and the check bits of a store word. -/
def wordData (w : StoreWord) : Nat := w.toNat % 2 ^ 64
def wordCheck (w : StoreWord) : Nat := w.toNat / 2 ^ 64

/-- A poisoned store word: the data as read, the check bits recomputed and inverted (07 R247). -/
def poisonWord (a d : Nat) : StoreWord := BitVec.ofNat 72 (d % 2 ^ 64 + (0xFF ^^^ checkBits a (d % 2 ^ 64)) * 2 ^ 64)

/-- The classes of a read (07 R244). -/
inductive EccClass where
  | good
  | corrected (data : Nat)
  | poisoned
  | uncorrectable
  deriving DecidableEq, Repr

/-- The syndrome of a word read at address `a` (07 R244). -/
def syndrome (a : Nat) (w : StoreWord) : Nat := wordCheck w ^^^ checkBits a (wordData w)

/-- Syndrome `s` of data `d` classified (07 R244). -/
def classify (s d : Nat) : EccClass :=
  if s = 0 then .good
  else if s = 0xFF then .poisoned
  else match dataCols.findIdx? (· == s) with
    | some i => .corrected (d ^^^ 2 ^ i)
    | none => if popcount 8 s = 1 then .corrected d else .uncorrectable

/-! ## Words of the store -/

/-- What an unwritten word holds: the zero that initialisation wrote, with its check bits (07 R254). -/
def memDefault (a : Nat) : StoreWord := encWord a 0

def Tail.memGet (t : Tail) (a : Nat) : StoreWord := smGet memDefault t.store.mem a

def Tail.memPut (t : Tail) (a : Nat) (w : StoreWord) : Tail :=
  { t with store := { t.store with mem := smSet memDefault t.store.mem a w } }

/-- The bank of word `a` (06 R192). -/
def bankOf (a : Nat) : Fin 8 := Fin.ofNat 8 a

def Tail.wbMap (t : Tail) (b : Fin 8) (f : List WbEntry → List WbEntry) : Tail :=
  { t with store := { t.store with wb := t.store.wb.set b (f t.store.wb[b]) } }

/-- Data `d` is written to word `a` with fresh check bits; a write-back that waits for the word is cancelled (07 R246, R248). -/
def Tail.memWrite (t : Tail) (a d : Nat) : Tail :=
  (t.memPut a (encWord a d)).wbMap (bankOf a) (fun q => q.filter (fun e => e.addr != a))

/-- The error log of a classification other than good (07 R249). -/
def Tail.elog (t : Tail) (a s ty : Nat) : Tail :=
  ((t.p CSA_ELOG.SYND s).p CSA_ELOG.TYPE ty).p CSA_ELOG.ADDR a

/-- A correction joins the write-back queue of its bank, or is dropped when the queue is full (07 R246). DESIGN CHOICE (log entry 117): a
word that waits there already joins no second time, and nothing is counted. -/
def Tail.queueCorrection (t : Tail) (a : Nat) (w : StoreWord) : Tail :=
  let q := t.store.wb[bankOf a]
  if q.any (fun e => e.addr == a) then t
  else if q.length < 4 then t.wbMap (bankOf a) (fun q => q ++ [⟨a, false, w⟩])
  else t.inc CSA_CORR.WB_DROP

/-- A poisoning goes before every other entry of its bank's queue (07 R247). DESIGN CHOICE (log entry 117): in a full queue the last
correction makes room for it and counts as dropped; one that meets four poisonings is dropped. -/
def Tail.queuePoison (t : Tail) (a : Nat) (w : StoreWord) : Tail :=
  let q := t.store.wb[bankOf a]
  let q1 := q.filter (fun e => e.addr != a)
  if q1.length < 4 then t.wbMap (bankOf a) (fun _ => ⟨a, true, w⟩ :: q1)
  else if (q1.getLast?.map (·.poison)).getD true then t
  else (t.wbMap (bankOf a) (fun _ => ⟨a, true, w⟩ :: q1.dropLast)).inc CSA_CORR.WB_DROP

/-- The counters, the error log and the latch of a read of word `a` with syndrome `s` and class `c` (07 R249, R267). -/
def Tail.countRead (t : Tail) (a s : Nat) (c : EccClass) : Tail :=
  match c with
  | .good => t
  | .corrected _ => ((t.inc CSA_CORR.COUNT).elog a s 1).evtV 0x07 0 (some (BitVec.ofNat 32 a))
  | .poisoned => (t.inc CSA_UNCORR.POISON_RD).elog a s 3
  | .uncorrectable => ((t.inc CSA_UNCORR.DETECT).elog a s 2).evtV 0x07 1 (some (BitVec.ofNat 32 a))

/-- A read of word `a` (07 R244 to R249): its data where it is usable, and the state with counters, log, latches and write-backs. -/
def Tail.memRead (t : Tail) (a : Nat) : Option Nat × Tail :=
  let w := t.memGet a
  let d := wordData w
  let s := syndrome a w
  let c := classify s d
  match c with
  | .good => (some d, t)
  | .corrected d1 => (some d1, (t.countRead a s c).queueCorrection a (encWord a d1))
  | .poisoned => (none, t.countRead a s c)
  | .uncorrectable => (none, (t.countRead a s c).queuePoison a (poisonWord a d))

/-! ## The system area (06 R193, 07 R250, R251)

What its words hold stands elsewhere in the state: register images, descriptors, retained responses. Here each has the pattern of its
errors, 0 where it has none. The place of each word is the model's choice (log entry 69): of 0x4401 words, register `a` of 16 bits of
page and offset in word `a` / 8, descriptor k in words 0x2000 + 2 k and the next, the response of command stream c from word
0x2200 + 520 c; a second copy of all of it follows, whose words lie in the next bank. -/

/-- The first word of the system area (06 R193), and the place of the second copies behind it. -/
def sysWord : Nat := 0x1E0000
def sysCopy : Nat := 0x4401

/-- Word `a` of the system area has a second copy: at `sysTwin a`. -/
def sysTwinned (a : Nat) : Bool := a < sysWord + 2 * sysCopy
def sysTwin (a : Nat) : Nat := if a < sysWord + sysCopy then a + sysCopy else a - sysCopy

/-- The words of the register at `a`, of descriptor `k`, and of the retained response of command stream `c`. -/
def imgX (a : Nat) : Nat := a / 8
def descX (k : Nat) : Nat := 0x2000 + 2 * k
def rspX (c : Nat) : Nat := 0x2200 + 520 * c

/-- The words that hold register `a`: of its stream's descriptor, or of its page's image. -/
def regWords (a : Nat) : List Nat :=
  let p := a / 256
  let o := a % 256
  if 0x10 ≤ p && p < 0x20 && 0x20 ≤ o then
    (if o < 0xE0 then [16 * (p - 0x10) + (o - 0x20) / 12] else [16 * (p - 0x10) + (o - 0xE0) / 2, 16 * (p - 0x10) + (o - 0xE0) / 2 + 1]).flatMap
      (fun k => [descX k, descX k + 1])
  else [imgX a]

def Tail.sysPat (t : Tail) (a : Nat) : StoreWord := smGet (fun _ => 0) t.store.sys a
def Tail.sysPut (t : Tail) (a : Nat) (p : StoreWord) : Tail := { t with store := { t.store with sys := smSet (fun _ => 0) t.store.sys a p } }

/-- The error pattern of a poisoned word (07 R247), and the syndrome of an error pattern (R244: the code is linear). -/
def sysPoison : StoreWord := 0xFF0000000000000000
def sysSyndrome (p : StoreWord) : Nat := colXor dataCols (wordData p) ^^^ wordCheck p

/-- Word `a` of the system area is written: no error is left in it, and a write-back that waits for it is cancelled (07 R246, R248). -/
def Tail.sysClear (t : Tail) (a : Nat) : Tail := (t.sysPut a 0).wbMap (bankOf a) (fun q => q.filter (fun e => e.addr != a))

/-- An entry of a write-back queue is written (07 R246, R247). -/
def Tail.wbWrite (t : Tail) (e : WbEntry) : Tail := if e.addr < sysWord then t.memPut e.addr e.word else t.sysPut e.addr e.word

/-- A register whose image is lost reads its TRST value; its block keeps the word that was in effect (07 R251). -/
def Tail.imgLost (t : Tail) (r : Nat) : Tail :=
  let old := t.inEff r
  { t.setWord r (regDefault t.u r) with held := smIns t.held r old }

/-- The descriptor of stream `k` lost: its TRST value, and the ring empty (07 R251; log entry 69). -/
def Tail.descLost (t : Tail) (k : Nat) : Tail :=
  let a := (STRD_CFG.EN k).addr
  let s := smGet (fun _ => StreamSt.fresh) t.store.streams k
  let s := { s with wr := 0, rd := 0, recs := [], syncReq := true, seq := 0 }
  { t.setWord a (strdCfgRst t.u k) with
    held := smDel t.held a, store := { t.store with streams := smSet (fun _ => StreamSt.fresh) t.store.streams k s } }

/-- Both copies of word `a` of the system area are lost (07 R251): its TRST value is written into them. -/
def Tail.sysLost (t : Tail) (a : Nat) : Tail :=
  let x := (a - sysWord) % sysCopy
  let t :=
    if x < 0x2000 then
      if fieldPages.contains (x / 32) && regWords (8 * x) = [x] then ((t.imgLost (8 * x)).imgLost (8 * x + 4)).p (PG_STAT.STALE (x / 32)) 1 else t
    else if x < 0x2200 then t.descLost ((x - 0x2000) / 2)
    else { t with link := { t.link with retained := t.link.retained.set (Fin.ofNat 16 ((x - 0x2200) / 520)) none } }
  t.evtV 0x07 5 (some (BitVec.ofNat 32 a))

/-- A read of word `a` of the system area (07 R244 to R251): a bad copy is rewritten from the other one; with both bad the word is lost. -/
def Tail.sysRead (t : Tail) (a : Nat) : Tail :=
  let s := sysSyndrome (t.sysPat a)
  let c := classify s 0
  match c with
  | .good => t
  | .corrected _ => (t.countRead a s c).queueCorrection a 0
  | _ =>
    let t := t.countRead a s c
    if !sysTwinned a then (if c = .poisoned then t else t.queuePoison a sysPoison)
    else
      let b := sysTwin a
      let s2 := sysSyndrome (t.sysPat b)
      let c2 := classify s2 0
      let t := (t.countRead b s2 c2).sysClear a
      match c2 with
      | .good => t.evtV 0x07 4 (some (BitVec.ofNat 32 a))
      | .corrected _ => (t.queueCorrection b 0).evtV 0x07 4 (some (BitVec.ofNat 32 a))
      | _ => (t.sysClear b).sysLost a

/-- The words `x` to `x + n - 1` of the area's first copies are read, and are written in both copies. -/
def Tail.sysReads (t : Tail) (x n : Nat) : Tail :=
  ((t.store.sys.map (·.1)).filter (fun a => sysWord + x ≤ a && a < sysWord + x + n)).foldl Tail.sysRead t

def Tail.sysWrites (t : Tail) (x n : Nat) : Tail :=
  ((t.store.sys.map (·.1)).filter (fun a => a < sysWord + 2 * sysCopy && x ≤ (a - sysWord) % sysCopy && (a - sysWord) % sysCopy < x + n)).foldl
    Tail.sysClear t

/-- The words of the registers `as` are read, and are written. -/
def Tail.regReads (t : Tail) (as : List Nat) : Tail := ((as.flatMap regWords).eraseDups).foldl (fun t x => t.sysReads x 1) t
def Tail.regWrites (t : Tail) (as : List Nat) : Tail := ((as.flatMap regWords).eraseDups).foldl (fun t x => t.sysWrites x 1) t

/-! ## Streams -/

def Tail.sst (t : Tail) (k : Nat) : StreamSt := smGet (fun _ => StreamSt.fresh) t.store.streams k

def Tail.sstMap (t : Tail) (k : Nat) (f : StreamSt → StreamSt) : Tail :=
  { t with store := { t.store with streams := smSet (fun _ => StreamSt.fresh) t.store.streams k (f (t.sst k)) } }

/-- The page and index of stream `k`'s descriptor (06 R230). -/
def strdPage (k : Nat) : Nat := 0x10 + k / 16

/-- The words of the ring of stream `k`, and its first word address (06 R198). -/
def Tail.ringWords (t : Tail) (k : Nat) : Nat := 2 ^ (t.cf (STRD_CFG.SIZE_LOG2 k) - 3)
def Tail.ringBase (t : Tail) (k : Nat) : Nat := t.cf (STRD_CFG.BASE k) * 512

/-- The words a ring holds between `rd` and `wr` (06 section 5). -/
def fillOf (w wr rd : Nat) : Nat := (wr + w - rd) % w

def Tail.fill (t : Tail) (k : Nat) : Nat := fillOf (t.ringWords k) (t.sst k).wr (t.sst k).rd

/-- Who uses a stream from the host side (06 R194): PUT, GET and PEEK. -/
def hostPut (k : Nat) : Bool :=
  (16 ≤ k && k < 64) || (64 ≤ k && k < 128 && (k % 16 == 3 || 14 ≤ k % 16)) || k == 168 || 192 ≤ k

def hostGet (k : Nat) : Bool :=
  (16 ≤ k && k < 64) || (64 ≤ k && k < 128 && k % 16 != 3) || k == 128 || k == 129 || k == 144 || k == 145 || k == 160 || k == 161
    || 192 ≤ k

def hostPeek (k : Nat) : Bool :=
  k < 131 || k == 144 || k == 145 || k == 160 || k == 161 || 192 ≤ k

/-- The stream exists and is enabled. -/
def Tail.streamOn (t : Tail) (k : Nat) : Bool := !strdAbsent t.u k && t.cfb (STRD_CFG.EN k)

/-- WMHIGH after a commit that touched stream `k`, with its watermark latch (06 R217). -/
def Tail.wmUpdate (t : Tail) (k : Nat) : Tail :=
  let wm := t.cf (STRD_LVL.WATERMARK k)
  let high := wm != 0 && t.streamOn k && wm * 32 ≤ t.fill k
  let was := (t.sst k).wmHigh
  let t := t.sstMap k (fun s => { s with wmHigh := high })
  if high && !was then t.evt (strdPage k) (k % 16) else t

/-- `c` records of stream `k` are lost (06 R212, R214, R215). -/
def Tail.lose (t : Tail) (k c : Nat) : Tail :=
  (t.sstMap k (fun s => { s with lost := satAdd 16 s.lost c, loss := true })).evt (strdPage k) (16 + k % 16)

/-- How an append ends (06 R212). -/
inductive AppendRes where
  | ok | lost | busy | queued | off
  deriving DecidableEq, Repr

/-- Producers of records (06 R212): a host frame, the SQC, or a block that never waits. -/
inductive Producer where
  | host | sqc | engine
  deriving DecidableEq, Repr

/-- The tag word of a record (06 R205). -/
def tagWord (k kind : Nat) (valid poison loss : Bool) (ssn : Word) (ft : DWord) : Nat :=
  k + (b2n valid + 2 * b2n poison + 4 * kind + 128 * b2n loss) * 2 ^ 8 + (ssn.toNat % 2 ^ 16) * 2 ^ 16 + (ft.toNat % 2 ^ 32) * 2 ^ 32

/-- The payload word of a SYNC record (06 R206). -/
def syncWord (ssn : Word) (ft : DWord) : Nat := ssn.toNat + ft.toNat / 2 ^ 32 * 2 ^ 32

/-- The words of a record with `n` data bytes: tag, length word and padded data (06 R207). -/
def recWords (n : Nat) : Nat := 2 + (n + 7) / 8

/-- The data bytes in words of eight, padded with zeros (06 R207). -/
def dataWords : Nat → List Byte → List Nat
  | 0, _ => []
  | k + 1, l => leNat (l.take 8) :: dataWords k (l.drop 8)

/-- The words `ws` written from word `pos` of the ring of stream `k`. -/
def Tail.ringWrite (t : Tail) (k pos : Nat) : List Nat → Tail
  | [] => t
  | w :: ws => (t.memWrite (t.ringBase k + pos) w).ringWrite k (pos + 1) ws

/-- A record joins the index of stream `k` and WR moves past it (06 R210). -/
def Tail.pushRec (t : Tail) (k kind words len : Nat) (delivered : Bool) : Tail :=
  let w := t.ringWords k
  t.sstMap k (fun s => { s with recs := s.recs ++ [⟨s.wr, kind, words, len, t.ssn, t.ftCe, delivered⟩], wr := (s.wr + words) % w })

/-- Whether a SYNC goes before the next data record of stream `k` (06 R209). -/
def Tail.syncNeeded (t : Tail) (k : Nat) : Bool :=
  let s := t.sst k
  s.syncReq || s.hiSsn != t.ssn.toNat / 2 ^ 16 || s.hiFt != t.ftCe.toNat / 2 ^ 32

/-- The words left before the ring end that become a PAD when `need` words do not fit there; none on an empty ring (06 R208). -/
def padOf (w wr fill need : Nat) : Nat := if fill = 0 then 0 else if w - wr < need then w - wr else 0

/-- RD advances past the oldest records until `need` words and their PAD fit (06 R212): the records kept, their words, and the
undelivered data records passed. -/
def dropOld (w wr need : Nat) : List RecIx → Nat → Nat → List RecIx × Nat × Nat
  | [], _, lost => ([], 0, lost)
  | r :: rs, fill, lost =>
    if padOf w wr fill need + need + fill + 1 ≤ w then (r :: rs, fill, lost)
    else dropOld w wr need rs (fill - r.words) (if 2 ≤ r.kind && !r.delivered then lost + 1 else lost)

/-- Record `r`, which fits, is written with its PAD and SYNC (06 R207 to R211, R215). -/
def Tail.putRec (t : Tail) (k : Nat) (r : HeldRec) : Tail :=
  let w := t.ringWords k
  let n := recWords r.data.length
  let sync := t.syncNeeded k
  let need := n + (if sync then 2 else 0)
  let fill := t.fill k
  let t := if fill = 0 then t.sstMap k (fun s => { s with wr := 0, rd := 0, recs := [] }) else t
  let pad := padOf w (t.sst k).wr fill need
  let t := if pad = 0 then t
    else (t.ringWrite k (t.sst k).wr [tagWord k 0 true false false t.ssn t.ftCe]).pushRec k 0 pad 0 true
  let t := if sync
    then (t.ringWrite k (t.sst k).wr [tagWord k 1 true false false t.ssn t.ftCe, syncWord t.ssn t.ftCe]).pushRec k 1 2 8 true
    else t
  let t := t.ringWrite k (t.sst k).wr
    (tagWord r.src r.kind r.valid false ((t.sst k).loss || r.loss) t.ssn t.ftCe :: r.data.length :: dataWords (n - 2) r.data)
  let t := t.pushRec k r.kind n r.data.length (!hostGet k)
  (t.sstMap k (fun s =>
    { s with syncReq := false, loss := false, seq := s.seq + 1, hiSsn := t.ssn.toNat / 2 ^ 16, hiFt := t.ftCe.toNat / 2 ^ 32 })).wmUpdate k

/-- Whether a record of `n` data bytes fits stream `k` as it stands (06 R212). -/
def Tail.fits (t : Tail) (k n : Nat) : Bool :=
  let w := t.ringWords k
  let need := recWords n + (if t.syncNeeded k then 2 else 0)
  let fill := t.fill k
  padOf w (t.sst k).wr fill need + need + fill + 1 ≤ w

/-- RD advances until a record of `n` data bytes fits (06 R212, R214). -/
def Tail.makeRoom (t : Tail) (k n : Nat) : Tail :=
  let w := t.ringWords k
  let need := recWords n + (if t.syncNeeded k then 2 else 0)
  let s := t.sst k
  let (recs, _, lost) := dropOld w s.wr need s.recs (t.fill k) 0
  let t := t.sstMap k (fun s => { s with recs := recs, rd := (recs.head?.map (·.pos)).getD s.wr })
  if lost = 0 then t else t.lose k lost

/-- The words of a record of `n` data bytes with the SYNC it would need now can never fit stream `k` (06 R212). -/
def Tail.neverFits (t : Tail) (k n : Nat) : Bool := t.ringWords k < recWords n + (if t.syncNeeded k then 2 else 0) + 1

/-- Record `r` waits for stream `k` under BACKPRESSURE. DESIGN CHOICE (log entry 118): the queue of 64 is one per stream. -/
def Tail.holdRec (t : Tail) (k : Nat) (r : HeldRec) : AppendRes × Tail :=
  if t.neverFits k r.data.length || 64 ≤ (t.sst k).held.length then (.lost, t.lose k 1)
  else (.queued, t.sstMap k (fun s => { s with held := s.held ++ [r] }))

/-- Record `r` of producer `who` for stream `k`, whose descriptor has been read. -/
def Tail.appendAs (t : Tail) (who : Producer) (k : Nat) (r : HeldRec) : AppendRes × Tail :=
  let n := r.data.length
  let pol := t.cf (STRD_CFG.POLICY k)
  if !t.streamOn k then (.off, t)
  else if pol = 2 && who = .sqc && !(t.sst k).held.isEmpty then t.holdRec k r
  else if t.fits k n then (.ok, t.putRec k r)
  else if pol = 1 && !t.neverFits k n then (.ok, (t.makeRoom k n).putRec k r)
  else if pol = 2 && who = .host then (.busy, t)
  else if pol = 2 && who = .sqc then t.holdRec k r
  else (.lost, t.lose k 1)

/-- Record `r` for stream `k`, under the present commit (06 R207 to R217): the descriptor is read, and written back with the new pointers.
While PD4 is in retention there is no access (07 R258), and nothing is written (log entry 119). -/
def Tail.appendRec (t : Tail) (who : Producer) (k : Nat) (r : HeldRec) : AppendRes × Tail :=
  if t.aon.retained then (.off, t)
  else
    let (res, t) := (t.sysReads (descX k) 2).appendAs who k r
    (res, if res = .ok then t.sysWrites (descX k) 2 else t)

/-- One record of stream `k`'s own, under the present commit. -/
def Tail.append (t : Tail) (who : Producer) (k kind : Nat) (valid : Bool) (data : List Byte) : AppendRes × Tail :=
  t.appendRec who k ⟨k, kind, valid, false, data⟩

/-- A record of a unit block for stream `k`, whatever becomes of it. -/
def Tail.record (t : Tail) (who : Producer) (k kind : Nat) (valid : Bool) (data : List Byte) : Tail :=
  (t.append who k kind valid data).2

/-- Stream `k` emptied: WR and RD 0, no record (06 R201, R218, R232). DESIGN CHOICE (log entry 118): the records held for it under
BACKPRESSURE are dropped with it, and LOST does not count them. -/
def Tail.emptyRing (t : Tail) (k : Nat) : Tail :=
  t.sstMap k (fun s => { s with wr := 0, rd := 0, recs := [], held := [], skip := false })

/-! ## Reading streams (06 R221, 07 R252, R253, 08 R301 to R303) -/

/-- `n` words from word `a` on, poisoned words as zero (07 R252): the words, whether one was poisoned, and the state after. -/
def Tail.readWords (t : Tail) (a : Nat) : Nat → List Nat × Bool × Tail
  | 0 => ([], false, t)
  | n + 1 =>
    let (v, t1) := t.memRead a
    let (vs, bad, t2) := t1.readWords (a + 1) n
    (v.getD 0 :: vs, bad || v.isNone, t2)

/-- A record of stream `k` read back: its tag, its other words, and whether one of them was poisoned; none where the tag or the
length word is poisoned (07 R252, R253). -/
def Tail.readRec (t : Tail) (k : Nat) (r : RecIx) : Option (Nat × List Nat × Bool) × Tail :=
  let a := t.ringBase k + r.pos
  let (tag, t1) := t.memRead a
  let (ws, bad, t2) := t1.readWords (a + 1) (r.words - 1)
  match tag with
  | none => (none, t2)
  | some tg =>
    if 2 ≤ r.kind && (t1.memRead (a + 1)).1.isNone then (none, t2) else (some (tg, ws, bad), t2)

/-- The bytes of store words. -/
def wordBytes (ws : List Nat) : List Byte := ws.flatMap (fun w => leBytes 8 w)

/-- A tag as returned: with POISON set where a word was poisoned, LOSS where a record before it was skipped (07 R252). -/
def tagOut (tag : Nat) (poison loss : Bool) : Nat :=
  setBit (if poison then setBit tag 9 true else tag) 15 (loss || tag.testBit 15)

/-- What a stream read has gathered so far: the bytes, stored SYNCs waiting for a record behind them, the records delivered (by
place), a record skipped before the next one, and the number of skipped records. -/
structure Gather where
  out : List Byte
  sync : List Byte
  taken : List Nat
  skipped : Bool
  lost : Nat
  full : Bool
  partialRec : Bool
  deriving DecidableEq, Repr

/-- One record more for a stream read of `len` bytes (06 R221, 08 R301, R302): PADs are passed, SYNCs wait for the record
behind them, the first data record opens the response with its own SYNC and is cut when it does not fit. -/
def Tail.gatherStep (len k : Nat) (g : Gather) (t : Tail) (r : RecIx) : Gather × Tail :=
  if g.full || r.kind = 0 then (g, t)
  else
    let (x, t1) := t.readRec k r
    match x with
    | none => if 2 ≤ r.kind then ({ g with skipped := true, lost := g.lost + 1, taken := g.taken ++ [r.pos] }, t1) else (g, t1)
    | some (tag, ws, bad) =>
      if r.kind = 1 then ({ g with sync := if g.out = [] then [] else g.sync ++ wordBytes (tagOut tag bad false :: ws) }, t1)
      else
        let b := wordBytes (tagOut tag bad g.skipped :: ws)
        if g.out = [] then
          let lead := wordBytes [tagWord k 1 true false false r.ssn r.ft, syncWord r.ssn r.ft]
          if 16 + b.length ≤ len then ({ g with out := lead ++ b, taken := g.taken ++ [r.pos], skipped := false }, t1)
          else ({ g with out := (lead ++ b).take len, taken := g.taken ++ [r.pos], skipped := false, full := true, partialRec := true }, t1)
        else if g.out.length + g.sync.length + b.length ≤ len then
          ({ g with out := g.out ++ g.sync ++ b, sync := [], taken := g.taken ++ [r.pos], skipped := false }, t1)
        else ({ g with full := true }, t)

def Tail.gather (len k : Nat) : List RecIx → Gather → Tail → Gather × Tail
  | [], g, t => (g, t)
  | r :: rs, g, t =>
    let (g1, t1) := t.gatherStep len k g r
    t1.gather len k rs g1

/-- `c` records of stream `k` were skipped as poisoned (07 R252): they are lost (06 R215), and it is the next record returned, not the
next one written, that says so. -/
def Tail.skipLost (t : Tail) (k c : Nat) : Tail :=
  if c = 0 then t
  else
    let before := (t.sst k).loss
    (t.lose k c).sstMap k (fun s => { s with loss := before })

/-- The data of a stream read of `len` bytes from the records `rs` of stream `k` (08 R301, R302), `skipped` where a record was skipped
before them: whether the status is PARTIAL, the bytes, the places of the records delivered, whether a record was skipped since the
last one returned, and the state after. -/
def Tail.streamData (t : Tail) (k len : Nat) (rs : List RecIx) (skipped : Bool) : Bool × List Byte × List Nat × Bool × Tail :=
  if len < 24 then (false, List.replicate len 0, [], skipped, t)
  else
    let (g, t) := t.gather len k rs ⟨[], [], [], skipped, 0, false, false⟩
    (g.partialRec, padTo len g.out, g.taken, g.skipped, t.skipLost k g.lost)

/-- The records of the previous delivery are consumed: RD moves past them and past a PAD or SYNC that then stands first
(08 R303). -/
def Tail.consume (t : Tail) (k : Nat) : Tail :=
  let s := t.sst k
  if s.recs.any (fun r => 2 ≤ r.kind && r.delivered) then
    let recs := s.recs.dropWhile (fun r => r.kind < 2 || r.delivered)
    ((t.sysWrites (descX k) 2).sstMap k (fun s => { s with recs := recs, rd := (recs.head?.map (·.pos)).getD s.wr })).wmUpdate k
  else t

/-- The records at the places `ps` of stream `k` count as delivered (06 R214). -/
def Tail.markDelivered (t : Tail) (k : Nat) (ps : List Nat) : Tail :=
  t.sstMap k (fun s => { s with recs := s.recs.map (fun r => if 2 ≤ r.kind && ps.contains r.pos then { r with delivered := true } else r) })

/-- Every delivery of a host-read stream not yet consumed is cancelled (08 R306). -/
def Tail.cancelDeliveries (t : Tail) : Tail :=
  { t with store := { t.store with streams := t.store.streams.map (fun e =>
      if hostGet e.1 then (e.1, { e.2 with recs := e.2.recs.map (fun r => if 2 ≤ r.kind then { r with delivered := false } else r) })
      else e) } }

/-! ## Commits (06 R219) and the event log (06 section 7) -/

/-- The latches that the commit of number `t.ssn` set take its number, and PG_STAT as it stands (06 R224, R225). -/
def Tail.seal (t : Tail) : Tail :=
  { t with log := { t.log with queue := t.log.queue.map (fun e =>
      match e.ssn with
      | some _ => e
      | none => { e with ssn := some t.ssn, value := some (e.value.getD (t.pgStat e.page)) }) } }

/-- One commit: the next store sequence number, the writes `f`, and the latches they set (06 R219). -/
def Tail.commit (t : Tail) (f : Tail → Tail) : Tail := (f { t with ssn := t.ssn + 1 }).seal

/-- What a producer other than a frame does with at most one record in each stream of `ks` (06 R219): a commit, if a record is written. -/
def Tail.commitAny (t : Tail) (ks : List Nat) (f : Tail → Tail) : Tail :=
  let t1 := f { t with ssn := t.ssn + 1 }
  if ks.all (fun k => (t1.sst k).seq = (t.sst k).seq) then { t1 with ssn := t.ssn } else t1.seal

/-- The same with one stream `k`. -/
def Tail.commitOn (t : Tail) (k : Nat) (f : Tail → Tail) : Tail := t.commitAny [k] f

/-- The 24 data bytes of an EVENT record (06 R224). -/
def eventData (index : Word) (e : PendEvt) (ssn value : Word) : List Byte :=
  let st := if 0x40 ≤ e.page && e.page < 0x80 then (e.page - 0x40) / 16 else 0xFF
  leBytes 4 index.toNat ++ [BitVec.ofNat 8 e.page, BitVec.ofNat 8 e.bit, BitVec.ofNat 8 st, BitVec.ofNat 8 (2 * b2n e.enabled)]
    ++ leBytes 4 ssn.toNat ++ leBytes 4 value.toNat ++ leBytes 8 e.ft.toNat

/-- The trigger of an armed engine by a latch (14 R552): the event condition, once the holdoff has passed since the ARM. -/
def Tail.trcEvent (t : Tail) (e : PendEvt) (index ssn : Word) : Tail :=
  let page := t.cf TRC_EVSEL.PAGE
  if t.g TRC_STAT.STATE = 1 && t.enabled 0x38 && 2 ≤ t.cf TRC_CFG.SRC && e.page != 0x38
      && (page = 0xFF || page = e.page) && (t.cfb TRC_EVSEL.ANYBIT || t.cf TRC_EVSEL.BIT = e.bit)
      && t.trc.armAt + t.cf TRC_HOLD.HOLDOFF * 4000000 ≤ e.ft.toNat then
    let stn := if 0x40 ≤ e.page && e.page < 0x80 then (e.page - 0x40) / 16 else 0
    let t := ((((t.p TRC_STAT.STATE 2).p TRC_STAT.CAUSE 3).p TRC_STAT.TSTN stn).p TRC_TFT_LO.FT e.ft.toNat).p TRC_TFT_HI.FT
      (e.ft.toNat / 2 ^ 32)
    ({ t.p TRC_TSSEQ.SSEQ ssn.toNat with
      trc := { t.trc with cause := 3, tstn := stn, node := e.bit, value := index.toNat, marks := BitVec.allOnes 32 } }).evt 0x38 0
  else t

/-- Room for a record of `n` data bytes in stream `k`, if its policy makes any (06 R212). -/
def Tail.roomFor (t : Tail) (k n : Nat) : Tail :=
  if t.streamOn k && t.cf (STRD_CFG.POLICY k) = 1 && !t.fits k n && !t.neverFits k n then t.makeRoom k n else t

/-- The pair of identical EVENT records of a station page (06 R223). DESIGN CHOICE (log entry 120): both carry the STREAM byte of stream
160, and LOSS if either of the two streams has lost a record. -/
def Tail.eventPair (t : Tail) (k : Nat) (d : List Byte) : Tail :=
  let t := (t.roomFor 160 d.length).roomFor k d.length
  let r : HeldRec := ⟨160, 8, true, (t.streamOn 160 && (t.sst 160).loss) || (t.streamOn k && (t.sst k).loss), d⟩
  ((t.appendRec .sqc 160 r).2.appendRec .sqc k r).2

/-- The EVENT records of one latch, the pair of a station page under one commit (06 R223, R224); a latch that no commit of R219 set takes
the number of this one (log entry 121). -/
def Tail.logEvent (t : Tail) (e : PendEvt) : Tail :=
  t.commit (fun t =>
    let ix := t.log.index
    let d := eventData ix e (e.ssn.getD t.ssn) (e.value.getD (t.pgStat e.page))
    let t := { t with log := { t.log with index := ix + 1 } }
    let t := t.trcEvent e ix (e.ssn.getD t.ssn)
    if 0x40 ≤ e.page && e.page < 0x80 then t.eventPair (64 + (e.page - 0x40) / 16 * 16 + 13) d else t.record .sqc 160 8 true d)

/-- The waiting latches are logged in the order in which they were set, each under a commit of its own (06 R223). -/
def Tail.flush : Nat → Tail → Tail
  | 0, t => t
  | n + 1, t =>
    match t.log.queue with
    | [] => t
    | e :: q => Tail.flush n (({ t with log := { t.log with queue := q } }).logEvent e)

/-- The latches a step has set are logged; before the log is ready (step T7, 06 R226) and while the store is in retention (07 R258) they
wait, with the number of the last commit. -/
def Tail.logAll (t : Tail) : Tail := if t.log.ready && !t.aon.retained then t.flush 16384 else t.seal

end Sys2Proof.Machine
end

