-- ==== Sys2Proof/Machine/Seq.lean ====
section
/-! DEFINITION. Operating states (10): BLOCK and ARM_BLOCK, the gate blocks, the outputs of the D1 connector, the changes of
station and unit states, and what every step does at its end. -/

namespace Sys2Proof.Machine

/-! ## Levels and reasons -/

/-- A unit-scope fault is latched (18 R677 to R679): STO_DISC or DIAG_FAIL. -/
def Tail.unitFault (t : Tail) : Bool := t.b STO_STAT.STO_DISC || t.b STO_STAT.DIAG_FAIL

/-- FAULT at the level channel (02 R81): the unit in FAULT or THERMAL_SHUTDOWN, a station FAULTED, or FAULT asserted by the AON
supervisor (03 R110, R111, 04 R134, 07 R256), or firmware recovery (23 R816). -/
def Tail.faultLevel (t : Tail) : Bool :=
  t.us = .fault || t.us = .thermalShutdown || t.stns.any (fun n => (t.stnGet n).sq.st = .faulted) || t.clk.clkStopped || t.boot.dead
    || t.fw.recovery

/-- ALERT at the level channel (02 R80, 21 R754). -/
def Tail.alertLevel (t : Tail) : Bool :=
  t.us = .boot || t.us = .thermalShutdown || fieldPages.any (fun p => t.g (PG_EVT.EVT p) &&& t.g (PG_EVTEN.EN p) != 0)

/-- Station `n` is named in the mask of pre-charge group `g` (10 R386). -/
def Tail.inGroup (t : Tail) (g n : Nat) : Bool := (t.g (PCHG_GCFG.STN_MASK g)).testBit n

/-- Station `n` belongs to a group whose MODE is not 0 and that is CHARGED (10 R386). -/
def Tail.charged (t : Tail) (n : Nat) : Bool :=
  (List.finRange 2).any (fun g => t.inGroup g.val n && t.b (PCHG_GCFG.MODE g.val) && t.grp[g].st = .charged)

/-- STALE on a page of station `n` (10 R404, R405). -/
def Tail.staleStn (t : Tail) (n : Nat) : Bool := (List.range 16).any (fun b => t.b (PG_STAT.STALE (stnPage n b)))

/-- The unit is ARMED for a START (10 R405): ARMED or RUN. -/
def Tail.armedUnit (t : Tail) : Bool := t.us = .armed || t.us = .run

/-- The unit is in Run, not switching to another power state nor about to (04 R140, R143, 10 R367): there a station can leave DISABLED. -/
def Tail.inRun (t : Tail) : Bool := t.aon.ps = .run && t.aon.switching.isNone && t.us != .sleep

/-- STN_STAT.BLOCK of station `n` (10 R379, R405), bits [6:0]: why it cannot be READY. Before the SQC runs it reads its reset
value. -/
def Tail.block7 (t : Tail) (n : Stn) : Nat :=
  if t.us = .boot then 3
  else
    let s := t.stnGet n
    b2n (!t.inRun)
      + 2 * b2n (!(t.b (STN_IBASE.VALUE n) && t.b (STN_NBASE.VALUE n) && t.b (STN_TBASE.VALUE n) && t.b (STN_UBASE.VALUE n)))
      + 4 * b2n (!t.charged n)
      + 8 * b2n (t.b (PROT_LATCH.LATCH n))
      + 16 * b2n (t.staleStn n)
      + 32 * b2n (!t.cfb (PROF_CFG.WARM n) && s.thm.toList.any (·.lowInh))
      + 64 * b2n s.isns.calFail

/-- STN_STAT.BLOCK whole: bit [7] while the unit is not ARMED (10 R405). -/
def Tail.block (t : Tail) (n : Stn) : Nat := t.block7 n + (if t.us = .boot then 0 else 128 * b2n (!t.armedUnit))

/-- SEQ_STAT.ARM_BLOCK (10 R404); its reset value before the SQC runs. -/
def Tail.armBlock (t : Tail) : Nat :=
  if t.us = .boot then 0
  else
    b2n t.unitFault + 2 * b2n (!(t.sto.a && t.sto.b)) + 4 * b2n (!t.sto.estopN)
      + 8 * b2n (t.stns.any (fun n => t.b (PG_CTRL.ENABLE (stnPage n 0)) && t.staleStn n)) + 16 * b2n (!t.inRun)

/-! ## Gate blocks (10 R366, 17 R645, 18) -/

/-- The unit states in which gates may be enabled (10 R366). -/
def UnitSt.gatesMay : UnitSt → Bool
  | .armed | .run | .stopping | .eclipse => true
  | _ => false

/-- The gates of station `n` are enabled by the sequencer (10 R366): in MAGNETIZING from its first sample on (R383 step 1). -/
def Tail.gatesOn (t : Tail) (n : Stn) : Bool :=
  t.us.gatesMay && (t.stnGet n).sq.st.isRunning && t.pd 6 && !(t.stnGet n).sq.gateWait

/-- A block of the gate-output stage or of the hardware path stands against station `n` (03 R110, 18 R658, R674, R680, R681). -/
def Tail.hardBlocked (t : Tail) (n : Stn) : Bool :=
  (t.stnGet n).modu.hwBlock || t.sto.blockSto || t.sto.blockEstop || t.sto.backstop || t.aon.gateBlock

/-- The switches S1 to S4 of every NPC leg (17 R623). -/
def npcS1 : BitVec 13 := 0x0111
def npcS2 : BitVec 13 := 0x0222
def npcS3 : BitVec 13 := 0x0444
def npcS4 : BitVec 13 := 0x0888

/-- The outputs `off` turn off and the outputs `on` turn on now; their confirmations are awaited (17 R625, R649). -/
def Modu.edges (m : Modu) (off on : BitVec 13) (now : Nat) : Modu :=
  let ch := off ||| on
  { m with
    cmd := (m.cmd &&& ~~~off) ||| on
    conf := m.conf &&& ~~~ch
    edgeAt := Vector.ofFn (fun c => if ch.getLsbD c.val then now else m.edgeAt[c])
    chopOnAt := if on.getLsbD 12 && (m.chopOnAt.isNone || m.chopOffAt + ms1 ≤ now) then some now else m.chopOnAt
    chopOffAt := if off.getLsbD 12 then now else m.chopOffAt }

/-- The commands follow what is wanted (17 R635, R640, R642): a switch turns off as soon as the NPC order allows; the chopper takes
no dead time (R647); other turn-ons wait for TURN_ON. -/
def Tail.gateStep (t : Tail) (n : Stn) : Tail :=
  let npc := t.cfb (MOD_CFG.TOPO n)
  t.moduMap n (fun m =>
    let confOff := m.conf &&& ~~~m.cmd
    let may := if npc then ~~~(npcS2 ||| npcS3) ||| ((confOff &&& npcS1) <<< 1) ||| ((confOff &&& npcS4) >>> 1) else BitVec.allOnes 13
    let off := m.cmd &&& ~~~m.want &&& may
    let on := m.want &&& ~~~m.cmd &&& 0x1000
    if off = 0 && on = 0 then m else m.edges off on t.now)

/-- Every command of a station off, the inner NPC switches 0.5 us later (17 R645). -/
def Tail.blockGates (t : Tail) (n : Stn) : Tail :=
  let npc := t.cfb (MOD_CFG.TOPO n)
  t.moduMap n (fun m =>
    let keep := if npc then m.cmd &&& (npcS2 ||| npcS3) else 0
    if m.innerT.isSome && keep = m.cmd then { m with want := 0 }
    else { m.edges (m.cmd &&& ~~~keep) 0 t.now with
      want := 0, skip := 0, chopOnAt := none, innerT := if keep = 0 then none else some (t.now + 200) })

/-- The gate block of crossing 0x16 follows the state of station `n` (10 R366, 18 R659): enabled, the active short circuit while
FAULTED under it, or off. A block that ends leaves the feedbacks taken as they stand: a low one of a switch that is off is its confirmation
(17 R628). -/
def Tail.gateUpdate (t : Tail) (n : Stn) : Tail :=
  let m := (t.stnGet n).modu
  let next : Gate := if t.gatesOn n then .enabled else if m.gate = .asc && (t.stnGet n).sq.st = .faulted && t.pd 6 then .asc else .off
  let t := if m.gate = next then t else t.moduMap n (fun m => { m with gate := next, conf := m.conf ||| (~~~m.fb &&& ~~~m.cmd) })
  if next = .off || t.hardBlocked n then (if m.cmd = 0 && m.want = 0 then t else t.blockGates n) else t

/-! ## Outputs of the DIO page (10 section 7) -/

/-- The level that the function of output `k` commands (10 R387, R396, R407). -/
def Tail.doCmd (t : Tail) (k : Nat) : Bool :=
  let f := t.g (DIO_OCFG.FUNC k)
  let grpSt (i : Fin 2) : GrpSt := t.grp[i].st
  let k1 (s : GrpSt) : Bool := s = .closeK1 || s = .ramp || s = .closeK2
  let ext (i : Fin 2) : Bool := t.g (PCHG_GCFG.MODE i.val) = 2
  let k2 (s : GrpSt) : Bool := s = .closeK2 || s = .openK1 || s = .charged
  let dis (s : GrpSt) : Bool := k1 s || k2 s || s = .aborted
  match f with
  | 0x0 => (t.g DIO_OUT.OUT).testBit k
  | 0x1 => !ext 0 && k1 (grpSt 0)
  | 0x2 => !ext 0 && k2 (grpSt 0)
  | 0x3 => !ext 0 && dis (grpSt 0)
  | 0x4 => !ext 1 && k1 (grpSt 1)
  | 0x5 => !ext 1 && k2 (grpSt 1)
  | 0x6 => !ext 1 && dis (grpSt 1)
  | 0x8 => t.stn[0].sq.brake
  | 0x9 => t.stn[1].sq.brake
  | 0xA => t.stn[2].sq.brake
  | 0xB => t.stn[3].sq.brake
  | 0xC => !t.faultLevel
  | 0xD => t.us.gatesMay
  | _ => false

/-- Output `k` is driven (10 R398, R407, 24 R827): DIO enabled and powered, no overload latched, DIO_24V present, and no thermal
shutdown (21 R755). -/
def Tail.doOn (t : Tail) (k : Nat) : Bool :=
  t.us != .thermalShutdown && t.doCmd k && t.b (PG_CTRL.ENABLE 0x22) && t.pd 3 && !t.dio.low && !(t.g DIO_OSTAT.OVL).testBit k

/-- The output with function `f`, if one has it (10 R408). -/
def Tail.outFor (t : Tail) (f : Nat) : Option Nat := (List.range 8).find? (fun k => t.g (DIO_OCFG.FUNC k) = f)

/-- The auxiliary input of the output with function `f` confirms the output's commanded level (10 R397); without a check the step
passes at once. -/
def Tail.auxOk (t : Tail) (f : Nat) : Bool :=
  match t.outFor f with
  | none => true
  | some k =>
    if t.b (DIO_OCFG.AUX_EN k) then t.dio.di.getLsbD (t.g (DIO_OCFG.AUX_IN k)) = (t.doCmd k != t.b (DIO_OCFG.AUX_POL k)) else true

/-! ## Station states (10 section 4) -/

/-- The code of a station state (10 R365). -/
def StnSt.code : StnSt → Nat
  | .disabled => 0 | .diag => 1 | .ready => 2 | .magnetizing => 3 | .running => 4 | .voltLimited => 5 | .stopping => 6
  | .faulted => 7 | .emergency => 8

/-- Station `n` takes state `st` (10 R378); STN_STAT.PREV keeps the one before. -/
def Tail.setSt (t : Tail) (n : Stn) (st : StnSt) : Tail :=
  if (t.stnGet n).sq.st = st then t
  else (t.p (STN_STAT.PREV n) (t.stnGet n).sq.st.code).sqMap n (fun s => { s with st := st })

/-- The code of a unit state (10 R364). -/
def UnitSt.code : UnitSt → Nat
  | .off => 0 | .boot => 1 | .readySafe => 2 | .armed => 3 | .run => 4 | .stopping => 5 | .fault => 6 | .eclipse => 7 | .sleep => 8
  | .thermalShutdown => 9

/-- No sequence in progress and the brake output off: what every state outside the running states has (10 R366, R385). What waits for
the next command point stays. -/
def Sq.rest (s : Sq) : Sq :=
  { s with
    step := .none, t := none, stop := none, zcount := 0, proved := true, brake := false, c1T := none, c2 := false, lever := false
    bySel := false, pol := 0, vsT := none, abandon := false, gateWait := false }

/-- The groups of a swap of scope `sc` (14 R533): CUR, and SO. -/
def scopeCur (sc : Nat) : Bool := sc != 1
def scopeSo (sc : Nat) : Bool := sc != 0

/-- Groups CUR and SO of station `n` take the banks named, by source `src` with latch `bit` (14 R532, R554). -/
def Tail.swapTo (t : Tail) (n : Stn) (cur so : Option Bool) (src bit : Nat) : Tail :=
  let c := cur.getD (t.b (BNKA_STAT.ACT_CUR n))
  let s := so.getD (t.b (BNKA_STAT.ACT_SO n))
  if c = t.b (BNKA_STAT.ACT_CUR n) && s = t.b (BNKA_STAT.ACT_SO n) then t
  else
    ((((t.pb (BNKA_STAT.ACT_CUR n) c).pb (BNKA_STAT.ACT_SO n) s).inc (BNKA_STAT.SWAPS n)).p (BNKA_STAT.LAST_SRC n) src).evt
      (stnPage n 9) bit

/-- The pending host request of station `n` takes effect (14 R534). -/
def Tail.swapHost (t : Tail) (n : Stn) : Tail :=
  if !t.b (BNKA_STAT.HPEND n) then t
  else
    let sc := t.g (BNKA_STAT.HP_SCOPE n)
    let b := t.b (BNKA_STAT.HP_BANK n)
    (t.p (BNKA_STAT.HPEND n) 0).swapTo n (if scopeCur sc then some b else none) (if scopeSo sc then some b else none) 1 1

/-- Outside the running states no hardware swap and no return is pending, and a host request takes effect at once (14 R535). -/
def Tail.banksIdle (t : Tail) (n : Stn) : Tail :=
  (t.banksMap n (fun b =>
    { b with hw := Vector.replicate 4 none, ret := Vector.replicate 3 none, hist := [], met := 0, emerg := false })).swapHost n

/-- A station outside FAULTED holds neither a block of the hardware path (18 R668) nor the active short circuit (R660). -/
def Tail.endBlocks (t : Tail) (n : Stn) : Tail :=
  let asc := (t.stnGet n).modu.gate = .asc
  let t := t.moduMap n (fun m => { m with hwBlock := false, gate := if asc then .off else m.gate })
  let t := t.protMap n (fun p => { p with ascT := none, slowAt := none })
  if asc then t.evt (stnPage n 0xE) 1 else t

/-- Render of station `n` ends at once (15 R581). -/
def Tail.renderStop (t : Tail) (n : Stn) : Tail :=
  if (t.stnGet n).setp.render = .normal then t
  else (t.setpMap n (fun p => { p with render := .normal, above := 0 })).evt (stnPage n 0xB) 4

/-- Station `n` leaves its running state, or FAULTED, for `st`: its sequences end, its set-point source and stop ramp are dropped, and
its gates are blocked (10 R366). -/
def Tail.leaveRunning (t : Tail) (n : Stn) (st : StnSt) : Tail :=
  let t := t.renderStop n
  let t := if st = .faulted then t else t.endBlocks n
  ((((((t.setSt n st).sqMap n Sq.rest).banksIdle n).setpMap n (fun p => { p with stop := .none })).protMap n
    (fun p => { p with ctoT := none })).moduMap n (fun m => { m with next := none })).gateUpdate n

/-- Station `n` enters FAULTED with cause `c` (10 R378, R405): 0 protection source, 1 UNIT, 2 BRAKE, 3 PROVE. -/
def Tail.enterFaulted (t : Tail) (n : Stn) (c : Nat) : Tail :=
  if (t.stnGet n).sq.st = .faulted then t
  else
    let t := ((t.leaveRunning n .faulted).p (STN_STAT.CAUSE n) c).isnsMap n (fun i => { i with cal := .none, calT := none })
    let t := t.evt (stnPage n 0) 0
    if c = 2 then t.evt (stnPage n 0) 4 else if c = 3 then t.evt (stnPage n 0) 5 else t

/-- A calibration of the offsets begins (12 R479, R481, R482). -/
def Tail.calBegin (t : Tail) (n : Stn) (why : CalFor) : Tail :=
  (t.isnsMap n (fun i => { i with cal := why, calT := none, sum := Vector.replicate 3 0, n := 0, restarts := 0 })).p
    (ISNS_STAT.CAL_STATE n) 1

/-- A calibration is abandoned; the previous offsets stay (12 R482). -/
def Tail.calAbandon (t : Tail) (n : Stn) : Tail :=
  match (t.stnGet n).isns.cal with
  | .none => t
  | .settle => t.isnsMap n (fun i => { i with cal := .none, calT := none })
  | _ => (t.isnsMap n (fun i => { i with cal := .none, calT := none })).p (ISNS_STAT.CAL_STATE n) 0

/-- Station `n` enters READY after a stop or a fault: the recalibration follows after SETTLE (12 R482). -/
def Tail.enterReady (t : Tail) (n : Stn) : Tail :=
  (t.leaveRunning n .ready).isnsMap n (fun i =>
    { i with cal := .settle, calT := some (t.now + t.cf (ISNS_CALCFG.SETTLE n) * ms1) })

/-- Station `n` goes to DISABLED (10 R378). -/
def Tail.enterDisabled (t : Tail) (n : Stn) : Tail := (t.leaveRunning n .disabled).calAbandon n

/-- The changes of station `n` that need no command (10 R378): READY after its calibration, DISABLED on BLOCK; the row of ENABLE written 0
is the write's effect. -/
def Tail.settleStn (t : Tail) (n : Stn) : Tail :=
  let s := t.stnGet n
  let en := t.b (PG_CTRL.ENABLE (stnPage n 0))
  if t.us = .boot then t
  else match s.sq.st with
    | .disabled =>
      if en && t.block7 n = 0 then (if s.isns.cal = .none then t.calBegin n .enter else t)
      else if s.isns.cal = .enter then t.calAbandon n else t
    | .ready => if en && t.block7 n = 0 then t else t.enterDisabled n
    | _ => t

/-- Channels of a station that are used (17 R623, R627): the legs of its topology, and the chopper in modes 1 and 2. -/
def Tail.usedCh (t : Tail) (n : Nat) : BitVec 13 :=
  (if t.cfb (MOD_CFG.TOPO n) then 0x0FFF#13 else 0x003F#13) |||
    (if t.cf (MOD_CHOP.CMODE n) = 1 || t.cf (MOD_CHOP.CMODE n) = 2 then 0x1000#13 else 0)

/-! ## The end of a diagnostic sequence (19 R692) -/

/-- A diagnostic sequence is in DWELL or RUNNING, and its station. -/
def Tail.diagOn (t : Tail) : Bool := t.g DIAG_STAT.STATE = 1 || t.g DIAG_STAT.STATE = 2
def Tail.diagStn (t : Tail) : Stn := Fin.ofNat 4 (t.g DIAG_STAT.STN)

/-- The result nibbles of the sequence (19 R701): bits [4s+3:4s] are step s. -/
def Tail.diagRes (t : Tail) (s : Nat) : Nat :=
  if s < 8 then t.g DIAG_RES_LO.RES / 16 ^ s % 16 else t.g DIAG_RES_HI.RES / 16 ^ (s - 8) % 16

/-- Step `s` has result `r`. -/
def Tail.diagPut (t : Tail) (s r : Nat) : Tail :=
  let put (x k : Nat) : Nat := x - x / 16 ^ k % 16 * 16 ^ k + r * 16 ^ k
  if s < 8 then t.p DIAG_RES_LO.RES (put (t.g DIAG_RES_LO.RES) s) else t.p DIAG_RES_HI.RES (put (t.g DIAG_RES_HI.RES) (s - 8))

/-- The comparator step of station `n` whose substitution stands (19 R697, R699): for 40 µs from the step's start, for CMP_OSPD at the two
sample instants of the step. -/
def Tail.diagSub (t : Tail) (n : Stn) : Option Nat :=
  let s := t.g DIAG_STAT.STEP
  if t.g DIAG_STAT.STATE = 2 && t.g DIAG_STAT.STN = n.val && 6 ≤ s && (s = 15 || t.now < t.diag.stepAt + 40 * us1) then some s else none

/-- The substituted input is the only one of source `src` of station `n`. -/
def Tail.sourceSub (t : Tail) (n : Stn) (src : Nat) : Bool :=
  match t.diagSub n with
  | some 12 => src = 4
  | some 13 => src = 5
  | some 14 => src = 7
  | some 15 => src = 6
  | _ => false

/-- Station `n` returns from DIAG to the state it came from (19 R692, R693). -/
def Tail.diagReturn (t : Tail) (n : Stn) : Tail :=
  if (t.stnGet n).sq.st = .diag then t.setSt n (t.stnGet n).sq.diagFrom else t

/-- The sequence ends early: ABORTED for the step in progress (19 R692). -/
def Tail.diagAbort (t : Tail) : Tail :=
  if !t.diagOn then t
  else
    let n := t.diagStn
    let t := if t.g DIAG_STAT.STATE = 2 then t.diagPut (t.g DIAG_STAT.STEP) 11 else t
    let t := { (t.p DIAG_STAT.STATE 4).inc DIAG_CNT.ABORTS with diag := { t.diag with dwellT := none, disturbed := false, psInj := [] } }
    (t.evt 0x25 2).diagReturn n

/-- What ends a sequence by itself: its station has left DIAG, a used feedback is high, or the page is disabled; a station in DIAG without
a sequence returns. -/
def Tail.diagSettle (t : Tail) : Tail :=
  if t.diagOn then
    let n := t.diagStn
    if (t.stnGet n).sq.st != .diag || (t.stnGet n).modu.fb &&& t.usedCh n != 0 || !t.enabled 0x25 then t.diagAbort else t
  else t.stns.foldl (fun t n => t.diagReturn n) t

/-! ## Unit states (10 section 2) -/

/-- The unit takes state `us` (10 R367); DEV_STATE.PREV and SEQ_STAT.PREV_STATE keep the one before. -/
def Tail.setUnit (t : Tail) (us : UnitSt) : Tail :=
  if t.us = us then t
  else { ((t.p DEV_STATE.PREV t.us.code).p SEQ_STAT.PREV_STATE t.us.code) with us := us }

/-- A pre-charge group fails (10 R389): outputs off, FAILED with its cause, and its latch. -/
def Tail.grpFail (t : Tail) (g : Fin 2) (cause : Nat) : Tail :=
  (({ t with grp := t.grp.set g { t.grp[g] with st := .failed, wait := none, dwell := false } }).p (PCHG_GSTAT.CAUSE g.val) cause).evt
    0x21 g.val

/-- The unit enters FAULT (10 R367, R368, R400): running stations are FAULTED with cause UNIT, retries are abandoned. -/
def Tail.enterFault (t : Tail) : Tail :=
  let t := ((t.setUnit .fault).evt 0x00 1).evt 0x20 0
  let t := t.stns.foldl (fun t n => if (t.stnGet n).sq.st.isRunning then t.enterFaulted n 1 else t) t
  (List.finRange 2).foldl (fun t g =>
    if t.grp[g].st = .waitRetry
      then ({ t with grp := t.grp.set g { t.grp[g] with st := .failed, wait := none, dwell := false } }).inc SEQ_BG.PREEMPT
      else t) t

/-- The changes of the unit state that need no command (10 R367). -/
def Tail.settleUnit (t : Tail) : Tail :=
  if t.unitFault && !(t.us = .boot || t.us = .sleep || t.us = .off || t.us = .thermalShutdown || t.us = .fault) then t.enterFault
  else match t.us with
    | .armed => if t.anyRunning then t.setUnit .run else t
    | .run => if t.anyRunning then t else t.setUnit .armed
    | .stopping => if t.anyRunning then t else t.setUnit .readySafe
    | _ => t

/-- The changes that follow from a step without a command: station states, the unit state, the gate blocks. -/
def Tail.settle (t : Tail) : Tail :=
  let t := t.diagSettle
  let t := (t.stns.foldl (fun t n => t.settleStn n) t).diagSettle
  let t := t.settleUnit
  t.stns.foldl (fun t n => t.gateUpdate n) t

/-- The end of a step whose effect may move states or set latches: states settle, then the latches are logged. -/
def Tail.finish (t : Tail) : Tail := t.settle.logAll

end Sys2Proof.Machine
end

