-- ==== Sys2Proof/Machine/Protect.lean ====
section
/-! DEFINITION. Protection (18): sources, classes and reactions, stop requests and their ramps (10, 22 section 2), the active short
circuit, and FAULT_CLEAR. -/

namespace Sys2Proof.Machine

/-! ## Stops (10 R380, R385, 22 R762 to R765) -/

/-- The monitor time of a category 1 or 2 ramp (22 R765, R789): none when TMON is 0; 1 to 99 act as 100. -/
def Tail.tmon (t : Tail) : Timer :=
  let v := t.cf EMG_C1.TMON
  if v = 0 then none else some (t.now + max 100 v * ms1)

/-- The watch of a class C stop (18 R662, R684). -/
def Tail.ctoEnd (t : Tail) (n : Nat) : Timer := some (t.now + clampN 100 60000 (t.cf (PROT_CSTOP.TMAX n)) * ms1)

/-- Two stop requests as one (22 R764): category 1 if either is, the emergency limits if either has them. -/
def StopReq.merge (a b : StopReq) : StopReq :=
  ⟨a.emergency || b.emergency, a.cat2 && b.cat2, a.classC || b.classC, a.watched && b.watched⟩

/-- The set-point ramp of a stop (15 R569): the emergency limits once any request carried them. -/
def StopReq.ramp (r : StopReq) : StopRamp := if r.emergency then .emergency else .normal

/-- What waits for an auxiliary input of the brake of station `n` goes on once the input confirms (10 R383 step 4, R385 step 3). -/
def Tail.brakeConfirm (t : Tail) (n : Stn) : Tail :=
  if !t.auxOk (8 + n.val) then t
  else match (t.stnGet n).sq.step with
    | .brakeOpen => t.sqMap n (fun s => { s with step := .tRel, t := t.after (t.cf (STN_BRK2.T_REL n) * ms1) })
    | .brakeClose => t.sqMap n (fun s => { s with step := .tSet, t := t.after (t.cf (STN_BRK2.T_SET n) * ms1) })
    | _ => t

/-- Step 3 of the stop sequence (10 R385): the brake output switches off; without a brake step 4 follows. -/
def Tail.closeBrake (t : Tail) (n : Stn) : Tail :=
  if t.cfb (STN_CFG.BRAKE_EN n)
    then (t.sqMap n (fun s => { s with brake := false, step := .brakeClose, t := none, c2 := false })).brakeConfirm n
    else t.sqMap n (fun s => { s with brake := false, step := .tSet, t := t.after 0, c2 := false })

/-- The set-point ramp of station `n` takes the limits of `r`; emergency limits are never given back (15 R569, R584). -/
def Tail.stopLimits (t : Tail) (n : Stn) (r : StopRamp) : Tail :=
  let p := (t.stnGet n).setp.stop
  if p = .emergency || p = r then t
  else
    let t := t.setpMap n (fun s => { s with stop := r, enter := s.enter || p = .none })
    if p = .normal then t.evt (stnPage n 0xB) 6 else t

/-- Station `n` begins the stop `r` in state `st` (10 R385): the ramp, with its watches; a Follower begins with step 3 and no torque
(16 R617, R618); a brake already setting goes on. -/
def Tail.stopBegin (t : Tail) (n : Stn) (r : StopReq) (st : StnSt) : Tail :=
  let step := (t.stnGet n).sq.step
  let setting := step = .brakeClose || step = .tSet
  let t := t.setSt n st
  let t := t.sqMap n (fun s =>
    { s with stop := some r, proved := true, c2 := false, lever := false, bySel := false, pol := 0, vsT := none })
  let t := t.renderStop n
  if (t.stnGet n).share.role = .follower then (t.shareMap n (fun s => { s with share := 0, stopReq := false })).closeBrake n
  else
    let t := t.stopLimits n r.ramp
    if setting then t
    else
      let t := t.sqMap n (fun s => { s with step := .ramp, t := none, zcount := 0, c1T := if r.watched then t.tmon else none })
      if r.classC then t.protMap n (fun p => { p with ctoT := t.ctoEnd n }) else t

/-- The stop request `r` joins the stop `o` in progress (15 R569, 22 R763, R764): a category 2 hold goes on with step 3. -/
def Tail.stopJoin (t : Tail) (n : Stn) (o r : StopReq) (st : StnSt) : Tail :=
  let m := o.merge r
  let s := (t.stnGet n).sq
  let t := ((t.setSt n st).sqMap n (fun s => { s with stop := some m, c1T := if m.watched then s.c1T else none })).stopLimits n m.ramp
  if s.c2 && !m.cat2 then t.closeBrake n
  else if r.classC && !o.classC && s.step = .ramp then t.protMap n (fun p => { p with ctoT := t.ctoEnd n }) else t

/-- Station `n` takes the stop request `r` (10 R378, R385, 22 R782): a stop begins, or the one in progress becomes both. -/
def Tail.takeStop (t : Tail) (n : Stn) (r : StopReq) : Tail :=
  let s := (t.stnGet n).sq
  let go (st : StnSt) : Tail := match s.stop with
    | some o => t.stopJoin n o r st
    | none => t.stopBegin n r st
  match s.st with
  | .magnetizing | .running | .voltLimited => t.stopBegin n r .stopping
  | .stopping => go .stopping
  | .emergency => go (if r.classC then .stopping else .emergency)
  | _ => t

/-! ## Sources (18 section 1 to 4) -/

/-- The reaction class of source `src` of station `n` in effect (18 R661, R665, R666): 0 A, 1 B, 2 C, 3 D. -/
def Tail.protClass (t : Tail) (n : Stn) (src : Nat) : Nat :=
  match src with
  | 4 => t.cf (PROT_CLASS.OV n)
  | 5 => t.cf (PROT_CLASS.UV n)
  | 6 => t.cf (PROT_CLASS.OSPD n)
  | 8 => t.cf (PROT_CLASS.FBL n)
  | 10 => if t.cfb STO_CFG.ECAT then 2 else 0
  | 11 => t.cf (PROT_CLASS.ORB n)
  | 12 => t.cf (PROT_CLASS.SINV n)
  | 13 => 2
  | _ => 0

/-- A source armed in the state of station `n` (18 R653). -/
def Tail.armedSrc (t : Tail) (n : Stn) (src : Nat) : Bool :=
  let st := (t.stnGet n).sq.st
  if src = 4 || src = 6 then st != .disabled else if src = 14 then st = .stopping else st.isRunning

/-- The magnitude of the primary speed estimate as Q15 (18 R656): the held value while SPD_VALID is 0 (11 R432). -/
def Tail.spdMag (t : Tail) (n : Stn) : Nat := (t.gi (FBP_SPEED.SPEED n)).natAbs / 2 ^ 16

/-- Some latched source of station `n` has class A (18 R659). -/
def Prot.hasA (p : Prot) : Bool := p.cls.any (fun e => e.2 = 0)

/-- The active short circuit may be used (18 R659): a PM motor at or above NON with no class A latch. -/
def Tail.ascMay (t : Tail) (n : Stn) : Bool :=
  t.b (STN_CFG.MOTOR n) && t.cfi (PROT_ASC.NON n) ≤ (t.spdMag n : Int) && !(t.stnGet n).prot.hasA && !t.hardBlocked n

/-- The active short circuit of station `n` ends in the OFF form (18 R660). -/
def Tail.endAsc (t : Tail) (n : Stn) : Tail :=
  if (t.stnGet n).modu.gate = .asc then
    let hw := (t.stnGet n).modu.hwBlock
    ((t.endBlocks n).moduMap n (fun m => { m with hwBlock := hw })).gateUpdate n
  else t

/-- The channels of the active short circuit's pattern (17 R646). -/
def ascPattern (npc : Bool) : BitVec 13 := if npc then 0x0CCC else 0x002A

/-- The active short circuit of station `n` begins (17 R646, 18 R659): its pattern is reached by the rules of dead time and order. -/
def Tail.beginAsc (t : Tail) (n : Stn) : Tail :=
  let t := (t.moduMap n (fun m =>
    { m with
      gate := .asc, want := ascPattern (t.cfb (MOD_CFG.TOPO n)), skip := 0, chopOnAt := none
      conf := m.conf ||| (~~~m.fb &&& ~~~m.cmd) })).gateStep n
  t.protMap n (fun p => { p with ascT := some (t.now + clampN 100 60000 (t.cf (PROT_ASCT.TASC n)) * ms1), slowAt := none })

/-- Station `n` goes to FAULTED by a protection source, in the OFF form, or in the ASC form (18 R658, R659, R667). -/
def Tail.protFault (t : Tail) (n : Stn) (hw asc : Bool) : Tail :=
  let was := (t.stnGet n).sq.st
  let t := if !asc then t.endAsc n else if (t.stnGet n).modu.gate = .asc then t else t.beginAsc n
  let t := if hw && !asc then t.moduMap n (fun m => { m with hwBlock := true }) else t
  if was = .disabled then t else t.enterFaulted n 0

/-- Source `src` is the one to record (18 R667): nothing was latched, or the source recorded at this same time has a higher bit. -/
def Tail.isFirst (t : Tail) (n : Stn) (src : Nat) : Bool :=
  t.g (PROT_LATCH.LATCH n) = 0
    || (t.b (PROT_FIRST.VALID n) && src < t.g (PROT_FIRST.SRC n) && t.g (PROT_FT_LO.FT n) + 2 ^ 32 * t.g (PROT_FT_HI.FT n) = t.ft.toNat)

/-- Source `src` of station `n` can never assert (18 R655, R657): GF with phase C calculated, ORB without Orbit ports. -/
def Tail.sourceNever (t : Tail) (n : Stn) (src : Nat) : Bool :=
  (src = 7 && !(fdGet (ISNS_CFG.CH_EN 0) (t.stnGet n).isns.cfg).testBit 2) || (src = 11 && !t.u.orbit)

/-- Source `src` of station `n` asserts (18 R653, R658 to R667): PROT_ACT, and where it is armed its latch and the reaction of
its class. Class B outside the conditions of R659 and class C in MAGNETIZING act, and are recorded, as class A. A station in DIAG goes
to FAULTED by any of them (19 R692). -/
def Tail.assertSource (t : Tail) (n : Stn) (src : Nat) : Tail :=
  let act := t.g (PROT_ACT.ACT n)
  if act.testBit src || t.sourceNever n src then t
  else
    let t := t.p (PROT_ACT.ACT n) (setBit act src true)
    if !t.armedSrc n src then t
    else
      let c := t.protClass n src
      if c = 3 then (t.pb (PG_STAT.WARN (stnPage n 0xE)) true).evt (stnPage n 0xE) 3
      else
        let c := if c = 1 && !t.ascMay n then 0 else if c = 2 && (t.stnGet n).sq.st = .magnetizing then 0 else c
        let first := t.isFirst n src
        let t := (t.p (PROT_LATCH.LATCH n) (setBit (t.g (PROT_LATCH.LATCH n)) src true)).inc (PROT_CNT.TRIPS n)
        let t := if first then
            ((((t.p (PROT_FIRST.CLASS n) c).p (PROT_FIRST.VALID n) 1).p (PROT_FIRST.SRC n) src).p (PROT_FT_LO.FT n) t.ft.toNat).p
              (PROT_FT_HI.FT n) (t.ft.toNat / 2 ^ 32)
          else t
        let t := t.protMap n (fun p => { p with cls := (src, c) :: p.cls.filter (fun e => e.1 != src) })
        let t := if c = 2 then t.takeStop n ⟨true, false, true, false⟩ else t.protFault n (src < 8) (c = 1)
        let t := if (t.stnGet n).sq.st = .diag then t.enterFaulted n 0 else t
        let t := t.evt (stnPage n 0xE) 0
        if src = 14 then t.evt (stnPage n 0xE) 2 else t

/-- Source `src` of station `n` no longer asserts: PROT_ACT, and WARN while no class D source is left (18 R663). -/
def Tail.dropSource (t : Tail) (n : Stn) (src : Nat) : Tail :=
  let act := t.g (PROT_ACT.ACT n)
  if !act.testBit src then t
  else
    let a := setBit act src false
    let t := t.p (PROT_ACT.ACT n) a
    t.pb (PG_STAT.WARN (stnPage n 0xE)) ((List.range 15).any (fun k => a.testBit k && t.armedSrc n k && t.protClass n k = 3))

/-- Source `src` of station `n` asserts or not, as `on` says. -/
def Tail.setSource (t : Tail) (n : Stn) (src : Nat) (on : Bool) : Tail := if on then t.assertSource n src else t.dropSource n src

/-- The clear condition of source `src` of station `n` (18 R665), on the last outputs of the protection filters. -/
def Tail.clearOk (t : Tail) (n : Stn) (src : Nat) : Bool :=
  let s := t.stnGet n
  let i := s.isns.prot
  match src with
  | 0 | 1 | 2 =>
    s.modu.gate != .enabled && s.modu.fb &&& t.usedCh n = 0 && (s.modu.lowAt.map (fun a => decide (a + 10 * ms1 ≤ t.now))).getD true
  | 3 => (List.finRange 3).all (fun k => i[k.val].natAbs < t.cf (PROT_IOC.IOC n))
  | 4 => i[3] ≤ t.cfi (PROT_VDC.OV n) - t.cf (PROT_HYS.HYS n)
  | 5 =>
    t.cfi (PROT_VDC.UV n) + t.cf (PROT_HYS.HYS n) ≤ i[3]
      && (List.finRange 2).all (fun g => !t.inGroup g.val n || !t.b (PCHG_GCFG.MODE g.val) || t.grp[g].st = .charged)
  | 6 => t.b (FBP_STAT.SPD_VALID n) && t.spdMag n < t.cf (PROT_OSPD.OSPD n)
  | 7 => (i[0] + i[1] + i[2]).natAbs < t.cf (PROT_GF.IGF n)
  | 8 => !t.b (FBP_STAT.FB_LOSS n)
  | 9 => t.sto.a && t.sto.b
  | 10 => t.sto.estopN
  | 11 => !t.b ORB_STAT.ISOLATED
  | 13 => !s.thm.toList.any (·.trip)
  | _ => true

/-- FAULT_CLEAR on station `n` under `mask` (18 R670, R671): latches whose clear condition holds are cleared; bit 14 needs its own
mask bit; a station left without a latch leaves FAULTED at its next command point. -/
def Tail.faultClear (t : Tail) (n : Stn) (mask : Nat) : Tail :=
  let l := t.g (PROT_LATCH.LATCH n)
  let l2 := (List.range 15).foldl (fun l k => if l.testBit k && mask.testBit k && t.clearOk n k then setBit l k false else l) l
  let t := if l2 = l then t else
    (((t.p (PROT_LATCH.LATCH n) l2).protMap n (fun p => { p with cls := p.cls.filter (fun e => l2.testBit e.1) })).inc
      (PROT_CNT.CLEARS n)).evt (stnPage n 0xE) 4
  if (t.stnGet n).sq.st = .faulted && l2 = 0 && !t.unitFault then t.sqMap n (fun s => { s with pendExit := true }) else t

/-- Station `n` stays FAULTED after a FAULT_CLEAR: it does not leave at its next command point (18 R671, R673, example of section 7). -/
def Tail.staysFaulted (t : Tail) (n : Stn) : Bool := (t.stnGet n).sq.st = .faulted && !(t.stnGet n).sq.pendExit

/-- RESULT of a FAULT_CLEAR on a PROT page (18 R673). -/
def Tail.clearResult (t : Tail) (n : Stn) : Nat :=
  t.g (PROT_LATCH.LATCH n) + 2 ^ 16 * b2n (t.staysFaulted n)

/-- The all-stations FAULT_CLEAR (18 R669, R678, 10 R367): STO_DISC where it may clear, then every station; FAULT ends where no
unit-scope fault is left. -/
def Tail.faultClearAll (t : Tail) (mask : Nat) : Tail :=
  let t := if t.b STO_STAT.STO_DISC && t.sto.bothLow && t.sto.a && t.sto.b then t.p STO_STAT.STO_DISC 0 else t
  let t := t.stns.foldl (fun t n => t.faultClear n mask) t
  if t.us = .fault && !t.unitFault then t.setUnit .readySafe else t

/-- RESULT of the all-stations FAULT_CLEAR (18 R673). -/
def Tail.clearAllResult (t : Tail) : Nat :=
  (t.stns.map (fun n => if t.staysFaulted n then 2 ^ n.val else 0)).sum
    + 2 ^ 8 * t.g STO_STAT.STO_DISC + 2 ^ 9 * t.g STO_STAT.DIAG_FAIL

/-! ## Lifting a change of the Tailstock to a command -/

/-- The unit with its Tailstock changed by `f`: neither the Headstock, nor the lanes, nor the queue. -/
def State.tail (s : State) (f : Tail → Tail) : State := { s with fs := f s.fs }

/-- The answer of a command that changes the Tailstock alone. -/
def tailNext (s : State) (f : Tail → Tail) : Host.Outcome State Fault Refusal := .next (s.tail f)

/-! ## The commands of protection -/

/-- PROT_SOURCE_ASSERT (18 R667): source `src` of station `n` asserts; the trip of a comparator whose input is substituted never does (R657,
19 R697, R699). -/
def execProtSourceAssert (n : Stn) (src : Fin 15) (s : State) : Host.Outcome State Fault Refusal :=
  tailNext s (fun t => if t.fitted n && t.on 3 && !t.sourceSub n src then (t.assertSource n src).finish else t)

/-- ASC_END (18 R660): the speed below NOFF for 10 ms, TASC expired, or an overriding block. -/
def execAscEnd (n : Stn) (why : AscEnd) (s : State) : Host.Outcome State Fault Refusal :=
  tailNext s (fun t =>
    if (t.stnGet n).modu.gate != .asc then t
    else match why with
      | .slow => match (t.stnGet n).prot.slowAt with
        | some a => ((t.elapseTo (a + 10 * ms1)).endAsc n).finish
        | none => t
      | .timeout => match (t.stnGet n).prot.ascT with
        | some d => ((t.elapseTo d).endAsc n).finish
        | none => t
      | .blocked => if (t.stnGet n).prot.hasA || t.hardBlocked n then (t.endAsc n).finish else t)

/-- CTO (18 R662): a class C stop has not reached zero speed within TMAX. -/
def execCto (n : Stn) (s : State) : Host.Outcome State Fault Refusal :=
  tailNext s (fun t =>
    match (t.stnGet n).prot.ctoT with
    | some d =>
      let t := (t.elapseTo d).protMap n (fun p => { p with ctoT := none })
      if (t.stnGet n).sq.step = .ramp then (t.assertSource n 14).finish else t
    | none => t)

/-! ## STO and the emergency stop (18 section 5) -/

/-- The STO filter in µs (18 R674). -/
def Tail.stoFilter (t : Tail) : Nat := match t.cf STO_CFG.TPF with
  | 0 => 0
  | 1 => 250
  | 2 => 500
  | _ => 1000

/-- The time of a discrepancy between the two STO channels (18 R678). -/
def Tail.discEnd (t : Tail) : Timer := some (t.now + clampN 1 100 (t.cf STO_CFG.TDISC) * 10 * ms1)

/-- The watch on the two channels after a level changed (18 R678): it runs while they differ. -/
def Tail.discWatch (t : Tail) : Tail :=
  { t with sto := { t.sto with discT := if t.sto.a = t.sto.b then none else if t.sto.discT.isSome then t.sto.discT else t.discEnd } }

/-- A source of every station follows `on`. -/
def Tail.setSourceAll (t : Tail) (src : Nat) (on : Bool) : Tail := t.stns.foldl (fun t n => t.setSource n src on) t

/-- An active short circuit ends wherever a block of the gate-output stage now overrides it (18 R660). -/
def Tail.ascOverride (t : Tail) : Tail := t.stns.foldl (fun t n => if t.hardBlocked n then t.endAsc n else t) t

/-- STO_DEMAND (18 R674 to R679): channel A (or B) has been de-energized for `us` µs; a pulse below the filter time is only counted. The
read-back follows (R677). -/
def execStoDemand (b : Bool) (us : Nat) (s : State) : Host.Outcome State Fault Refusal :=
  tailNext s (fun t =>
    let lvl := if b then t.sto.b else t.sto.a
    if !lvl || !t.pd 3 then t
    else if us < t.stoFilter then t.inc STO_TPCNT.PULSES
    else
      let demand := t.sto.a && t.sto.b
      let ran := t.stns.foldl (fun m n => if (t.stnGet n).sq.st.isRunning then m ||| ((1 : BitVec 4) <<< n.val) else m) 0
      let sto := { t.sto with a := t.sto.a && b, b := t.sto.b && !b }
      let t := { t with sto := { sto with
        blockSto := true, readT := t.after (10 * us1), ran := sto.ran ||| ran, bothLow := sto.bothLow || (!sto.a && !sto.b) } }
      let t := if demand then (t.inc STO_CNT.DEMANDS).evt 0x23 0 else t
      ((t.discWatch.ascOverride).setSourceAll 9 true).finish)

/-- The STO block of the gate-output stage ends (18 R676): both channels energized, and every station that ran at the demand has
been cleared and started again. -/
def Tail.stoRelease (t : Tail) : Tail :=
  if t.sto.a && t.sto.b && t.sto.ran = 0 then { t with sto := { t.sto with blockSto := false } } else t

/-- STO_ENERGIZED (18 R676, R678, R679): a channel returns to the energized level. -/
def execStoEnergized (b : Bool) (s : State) : Host.Outcome State Fault Refusal :=
  tailNext s (fun t =>
    if !t.pd 3 || (if b then t.sto.b else t.sto.a) then t
    else
      let t := { t with sto := { t.sto with a := t.sto.a || !b, b := t.sto.b || b } }
      let t := t.discWatch.stoRelease
      (if t.sto.a && t.sto.b then t.setSourceAll 9 false else t).finish)

/-- STO_READBACK (18 R677): 10 µs after a demand the gate-block line of each de-energized channel is read back; `a` and `b` say whether
the lines of channels A and B show the block. -/
def execStoReadback (a b : Bool) (s : State) : Host.Outcome State Fault Refusal :=
  tailNext s (fun t =>
    match t.sto.readT with
    | some d =>
      let t := { t.elapseTo d with sto := { t.sto with readT := none } }
      if (!t.sto.a && !a) || (!t.sto.b && !b) then ((t.p STO_STAT.DIAG_FAIL 1).evt 0x23 2).finish else t
    | none => t)

/-- STO_DISC (18 R678): the channels have differed for TDISC. -/
def execStoDisc (s : State) : Host.Outcome State Fault Refusal :=
  tailNext s (fun t =>
    match t.sto.discT with
    | some d =>
      let t := t.elapseTo d
      let t := { t with sto := { t.sto with discT := none } }
      if t.b STO_STAT.STO_DISC then t
      else
        let t := { t with sto := { t.sto with bothLow := false } }
        (((t.p STO_STAT.STO_DISC 1).inc STO_CNT.DISC).evt 0x23 1).finish
    | none => t)

/-- ESTOP (18 R680, R681): ESTOP_N has been low for the filter time; it blocks every station's gates in category 0; in category 1 every
running station stops and the backstop delay runs from its fall. -/
def execEstop (s : State) : Host.Outcome State Fault Refusal :=
  tailNext s (fun t =>
    if !t.sto.estopN || !t.pd 3 then t
    else
      let cat1 := t.cfb STO_CFG.ECAT
      let t := { t with sto :=
        { t.sto with
          estopN := false
          blockEstop := !cat1
          backT := if cat1 then some (t.now + clampN 100 60000 (t.cf STO_CFG.ETMAX) * ms1 - t.stoFilter * us1) else none } }
      (((t.evt 0x23 3).ascOverride).setSourceAll 10 true).finish)

/-- BACKSTOP (18 R681): ETMAX after ESTOP_N fell, every station's gates are blocked. -/
def execBackstop (s : State) : Host.Outcome State Fault Refusal :=
  tailNext s (fun t =>
    match t.sto.backT with
    | some d =>
      let t := t.elapseTo d
      (({ t with sto := { t.sto with backT := none, backstop := true } }.evt 0x23 4).ascOverride).finish
    | none => t)

/-- ESTOP_N_HIGH (18 R665, R681): ESTOP_N returns high; its blocks end. -/
def execEstopNHigh (s : State) : Host.Outcome State Fault Refusal :=
  tailNext s (fun t =>
    if t.sto.estopN || !t.pd 3 then t
    else
      (({ t with sto := { t.sto with estopN := true, blockEstop := false, backstop := false, backT := none } }).setSourceAll 10
        false).finish)

end Sys2Proof.Machine
end

