-- ==== Sys2Proof/Machine/Reset.lean ====
section
/-! DEFINITION. Reset kinds (00 section 5), what the always-on domain keeps (04), the non-volatile log area (04 R135), the boot slot
(23 R813 to R817), the Tailstock reset (10 R867), and configuration transfers (03 R102, R112). -/

namespace Sys2Proof.Machine

/-! ## What a reset keeps -/

/-- The register words `regs` with every field but those that `keep` names at its reset value. -/
def keepFields (u : UnitInfo) (keep : Fd → Bool) (regs : SMap Word) : SMap Word :=
  regs.filterMap (fun e =>
    let d := regDefault u e.1
    let w := (regFields e.1).foldl (fun x f => if keep f then fdPut f (fdGet f e.2) x else x) d
    if w = d then none else some (e.1, w))

/-- Fields that no Tailstock reset restores: those of PD1 and of OTP and flash (00 R14). -/
def Fd.keptTrst (f : Fd) : Bool := f.rby = .never || f.rby = .pon

/-- Configuration fields: what the retention memory holds (04 R139). -/
def Fd.isConfig (f : Fd) : Bool := f.acc = .rw || f.acc = .rwl

/-- The configuration fields of `cfg` over the register words of `t`. -/
def Tail.loadConfig (t : Tail) (cfg : SMap Word) : Tail :=
  cfg.foldl (fun t e =>
    (regFields e.1).foldl (fun t f => if f.isConfig && !f.keptTrst then t.p f (fdGet f e.2) else t) t) t

/-! ## The non-volatile log area (04 R135, R137) -/

/-- The data of the event records `rs` of stream 160 as they are read, oldest first, without those whose tag is poisoned. -/
def Tail.eventRecs (t : Tail) : List RecIx → List (List Byte) × Tail
  | [] => ([], t)
  | r :: rs =>
    if r.kind < 2 then t.eventRecs rs
    else
      let (x, t1) := t.readRec 160 r
      let (ds, t2) := t1.eventRecs rs
      (match x with
        | some (_, ws, _) => (wordBytes (ws.drop 1)).take r.len :: ds
        | none => ds, t2)

/-- The flush of cause `cause`: PWR_LASTDN, then the newest 128 records newest first, of which a supply that runs out after `n`
leaves the newest `n`. Nothing is flushed where the store is off or the log is not open yet. -/
def Tail.flushLog (t : Tail) (cause : Nat) (cut : Option Nat) : Tail :=
  if !(t.pd 4 && t.log.ready) then t
  else
    let (recs, t) := t.eventRecs (t.sst 160).recs
    let keep := min 128 (min recs.length (cut.getD 128))
    let ok := keep = min 128 recs.length
    { t with aon := { t.aon with log := ⟨recs.drop (recs.length - keep), cause, ok, false⟩ } }

/-- The INDEX that the data of an EVENT record carry (06 R224). -/
def evIndex (d : List Byte) : Word := BitVec.ofNat 32 (leNat (d.take 4))

/-- The data of a restored record: FLAGS.RESTORED set (06 R224). -/
def evRestored (d : List Byte) : List Byte := d.set 7 ((d.getD 7 0) ||| 1)

/-- The restore (04 R135, 06 R226): the flushed records into stream 160, INDEX continued, PWR_LASTDN loaded, and the area consumed. -/
def Tail.restoreLog (t : Tail) : Tail :=
  let a := t.aon.log
  if a.consumed then
    { t with
      aon := { t.aon with lastCause := 0, lastFlushOk := false }
      log := { t.log with ready := true } }
  else
    let t := a.recs.foldl (fun t d => t.commitOn 160 (fun t => t.record .sqc 160 8 true (evRestored d))) t
    let t := t.p EVT_STAT.RESTORED a.recs.length
    { t with
      aon := { t.aon with lastCause := a.cause, lastFlushOk := a.flushOk, log := { a with consumed := true } }
      log := { t.log with ready := true, index := ((a.recs.getLast?).map (fun d => evIndex d + 1)).getD t.log.index } }

/-! ## Audit records (23 R802 to R804) -/

/-- What an AUDIT record says of the frame that caused its event: SEQ, LEN and PCRC; all 0 when no frame did (23 R804). -/
structure FrameRef where
  seq : Byte
  len : Half
  pcrc : Word
  deriving DecidableEq, Repr

/-- No frame caused the event. -/
def noFrame : FrameRef := ⟨0, 0, 0⟩

/-- The 24 data bytes of an AUDIT record (23 R804). -/
def auditData (event level page : Nat) (fr : FrameRef) (sid ssn : Word) (addr : Nat) (value : Word) : List Byte :=
  [BitVec.ofNat 8 event, BitVec.ofNat 8 level, BitVec.ofNat 8 page, fr.seq] ++ leBytes 4 sid.toNat ++ leBytes 4 ssn.toNat
    ++ leBytes 2 addr ++ leBytes 2 fr.len.toNat ++ leBytes 4 fr.pcrc.toNat ++ leBytes 4 value.toNat

/-- An AUDIT record of an event, under the present commit; where it does not fit it waits (23 R803). -/
def Tail.audit (t : Tail) (event level : Nat) (fr : FrameRef) (sid : Word) (addr : Nat) (value : Word) : Tail :=
  t.record .sqc 161 9 true (auditData event level 0xFF fr sid t.ssn addr value)

/-- The AUDIT record of firmware step `step` on slot `i` (23 R804). -/
def Tail.auditFw (t : Tail) (step : Nat) (i : Fin 2) (fr : FrameRef) : Tail :=
  t.audit 6 t.sess fr t.sec.sid step (BitVec.ofNat 32 (i.val + 256 * t.fw.cause))

/-! ## The boot slot (23 R808, R813, R814, R816, R817) -/

def Tail.bootable (t : Tail) (i : Fin 2) : Bool :=
  let s := t.fw.slots[i]
  (s.st = .verified || s.st = .trial || s.st = .confirmed) && t.otp.arc ≤ s.arc

def otherSlot (i : Fin 2) : Fin 2 := if i = 0 then 1 else 0

def Tail.slotMap (t : Tail) (i : Fin 2) (f : Slot → Slot) : Tail :=
  { t with fw := { t.fw with slots := t.fw.slots.set i (f t.fw.slots[i]) } }

/-- A load in which a flash write may be under way is cut off (23 R817). -/
def Tail.cutLoad (t : Tail) : Tail :=
  if t.fw.load = .erasing || t.fw.load = .loading || t.fw.load = .verifying then
    { t.slotMap t.fw.target (fun s => { s with st := .invalid }) with fw :=
      { (t.slotMap t.fw.target (fun s => { s with st := .invalid })).fw with cut := true } }
  else t

/-- A failed boot of the booted slot (23 R814): its third in a row makes it INVALID and selects the other slot. -/
def Tail.countBoot (t : Tail) : Tail :=
  if t.fw.recovery then t
  else
    let b := t.fw.booted
    let n := min 3 (t.fw.bootFail[b] + 1)
    let t := { t with fw := { t.fw with bootFail := t.fw.bootFail.set b n } }
    if n < 3 then t
    else
      let t := t.slotMap b (fun s => { s with st := .invalid })
      let next := if t.bootable (otherSlot b) then otherSlot b else t.fw.next
      { t with fw := { t.fw with next := next, fallback := true } }

/-- The slot a reset boots: NEXT, else the other one; none where neither is bootable (23 R813, R816). -/
def Tail.bootSlot (t : Tail) : Option (Fin 2) :=
  if t.bootable t.fw.next then some t.fw.next
  else if t.bootable (otherSlot t.fw.next) then some (otherSlot t.fw.next)
  else none

/-- The boot of that slot: FW_ACT and ACTIVATED on a change, TRIAL for a VERIFIED image; recovery without one. -/
def Tail.bootFw (t : Tail) : Tail :=
  match t.bootSlot with
  | none => { t with fw := { t.fw with recovery := true } }
  | some i =>
    let t := { t with fw := { t.fw with recovery := false, next := i } }
    if i = t.fw.booted then t
    else
      let t := { t with fw := { t.fw with booted := i } }
      let t := t.slotMap i (fun s => if s.st = .verified then { s with st := .trial } else s)
      ((t.p DEV_RSTCAUSE.FW_ACT 1).evt 0x0B 2).commitOn 161 (fun t => t.auditFw 5 i noFrame)

/-! ## PON and TRST (00 R14, 04 R142 to R144, 10 R867) -/

/-- The cause bit of DEV_RSTCAUSE (10 R376). -/
def causeFd : RstCause → Fd
  | .fwAct => DEV_RSTCAUSE.FW_ACT | .wdog => DEV_RSTCAUSE.WDOG | .therm => DEV_RSTCAUSE.THERM | .clkStop => DEV_RSTCAUSE.CLK_STOP
  | .storeCheck => DEV_RSTCAUSE.STORE_CHECK | .host => DEV_RSTCAUSE.HOST | .imgFail => DEV_RSTCAUSE.IMG_FAIL

/-- The comparator levels of the NTCs (21 R753), each held as the temperature and the constants of the channel that it is converted from. -/
def Tail.hwLevels (t : Tail) : Tail :=
  { t with aon := { t.aon with hwLevel := (List.range 12).map (fun i =>
    (t.gi THM_HWCFG.HWNTC, clampN 2000 6000 (t.g (HKCH_NTC.B i)), t.b (HKCH_NTC.SEL i))) } }

/-- A low-temperature hold is recorded (04 R144). -/
def Tail.coldMark (t : Tail) (cold : Bool) : Tail := if cold then t.evt 0x04 6 else t

/-- The Orbit ports when the unit's power or CLK_ORB goes at `now` (16 R613): a frame on the fibre ends after its last whole byte, and what
waits is lost. -/
def Orb.cut (o : Orb) (now : Nat) : Orb :=
  { o with
    out := Vector.ofFn (fun p =>
      let left := (o.busy[p] - now + orbSym - 1) / orbSym
      if left = 0 then o.out[p] else o.out[p].take (o.out[p].length + 4 - left - 1))
    busy := o.busy.map (min now)
    fwd := []
    own := [] }

/-- The fresh Tailstock of a reset, with what the reset does not reach: the model's own time and counter, OTP and flash, and `aon`. -/
def Tail.renew (t : Tail) (aon : Aon) (regs : SMap Word) : Tail :=
  let i := Tail.init t.u true true false
  let fw := t.fw
  let cut := fw.cut
  { i with
    now := t.now
    fresh := t.fresh
    regs := regs
    aon := aon
    otp := t.otp
    boot := { i.boot with start := t.now, upAt := t.now }
    orb := { i.orb with out := (t.orb.cut t.now).out }
    fw := { fw with
      load := if cut then .failed else .idle
      cause := if cut then 9 else 0
      ofs := 0
      commitWait := false
      poisoned := false
      cut := false
      fallback := false } }

/-- TRST of cause `c` (10 R867, 23 R813, R814): every register, stream and state but those of PD1; Field Time and the sequence numbers
from 0, the next epoch; a reset before READY_SAFE is a failed boot. -/
def Tail.trst (c : RstCause) (cold : Bool) (t : Tail) : Tail :=
  let t := if t.us = .boot then t.countBoot else t
  let fell := t.us = .boot && t.fw.fallback
  let clk := t.clk.clkStopped
  let aon := { t.aon with
    dom := if cold then 0x02 else 0xFE
    ps := .run
    accepted := none
    switching := none
    wakePend := false
    held := none
    retained := false
    cold := cold
    coldSeen := t.aon.coldSeen || cold
    epoch := t.aon.epoch + 1
    shutAt := none }
  let t := t.renew aon (keepFields t.u Fd.keptTrst t.regs)
  let t := { t with boot := { t.boot with checkFailed := c = RstCause.storeCheck, therm := c = RstCause.therm } }
  let t := t.p (causeFd c) 1
  let t := if clk then t.p DEV_RSTCAUSE.CLK_STOP 1 else t
  let t := (t.evt 0x00 0).seal
  let t := if fell
    then (({ t with fw := { t.fw with fallback := true } }).evt 0x0B 3).commitOn 161 (fun t => t.auditFw 6 t.fw.next noFrame)
    else t
  let t := if c = RstCause.therm then t.evt 0x34 4 else t
  ((t.bootFw).coldMark cold).logAll

/-- A Tailstock reset that another step causes: whether the low-temperature hold applies is not known to that step. -/
def Tail.trstBy (t : Tail) (c : RstCause) : Tail := t.draw.trst c (Config.coldAtReset t.fresh)

/-- PON (00 R14, 04 R136, R139): the whole field side, the supplies as they stand. The log area, OTP and flash stay. -/
def Tail.pon (a b cold : Bool) (t : Tail) : Tail :=
  let aon := { Aon.init a b cold with log := t.aon.log }
  let t := if t.us = .off then t.elapse (100 * ms1) else t
  let t := t.renew aon (keepFields t.u (fun f => f.rby = .never) t.regs)
  let t := { t with fw := { t.fw with bootFail := Vector.replicate 2 0 }, boot := { t.boot with upAt := t.now + bootT1 } }
  ((t.evt 0x00 0).seal.bootFw.coldMark cold).logAll

/-- What a loss of the unit's power leaves (04 R134, R136): the unit OFF, every domain off. -/
def Tail.powerOff (t : Tail) : Tail :=
  let t := t.cutLoad
  let fw := t.fw
  let aon := { Aon.init false false false with log := t.aon.log, dom := 0 }
  let r := t.renew aon (keepFields t.u (fun f => f.rby = .never) t.regs)
  { r with us := .off, fw := { r.fw with cut := fw.cut, load := .idle, cause := 0 } }

/-! ## Configuration transfers (03 R102, R103, R112, R113) -/

/-- The crossing that carries the configuration of page `p` (03 R108; which page crosses where is DEDUCED from the crossings' names, log
entry 114); none for a page whose block is the SQC's own. -/
def pageCrossing (p : Nat) : Option Nat :=
  if p = 0x03 then some 0x2F
  else if p = 0x04 then some 0x0C
  else if p = 0x07 || (0x10 ≤ p && p < 0x20) || p = 0x37 || p = 0x38 then some 0x10
  else if p = 0x30 || p = 0x31 || p = 0x32 then some 0x29
  else if p = 0x33 then some 0x23
  else if p = 0x36 then some 0x2D
  else if 0x40 ≤ p && p < 0x80 then
    let b := p % 16
    if 1 ≤ b && b ≤ 4 then some 0x23 else if b = 0xD || b = 0xE then some 0x15 else some 0x10
  else none

/-- The power domain that receives the configuration of page `p` (03 R103, 04 R138): the store and its scrubber stand in PD4. -/
def pageDomain (p : Nat) : Nat :=
  match pageCrossing p with
  | some 0x2F => 2
  | some 0x0C => 1
  | some 0x10 => if p = 0x07 || (0x10 ≤ p && p < 0x20) then 4 else 5
  | some 0x2D => 5
  | some 0x15 => 6
  | some _ => 7
  | none => 3

/-- A transfer toward page `p`'s block can be sent: its domain is on (03 R103). -/
def Tail.xferReady (t : Tail) (p : Nat) : Bool := (pageCrossing p).isNone || t.pd (pageDomain p)

/-- A configuration transfer of page `p` completes: what an abandoned one had kept is replaced, and STALE clears (03 R113). -/
def Tail.xferDone (t : Tail) (p : Nat) : Tail :=
  let t := { t with
    held := t.held.filter (fun e => e.1 / 256 != p), xfer := t.xfer.filter (fun e => e.1 / 256 != p), xferWait := t.xferWait.filter (· != p) }
  if t.b (PG_STAT.STALE p) then t.p (PG_STAT.STALE p) 0 else t

/-- A transfer of page `p` begins (03 R102, R103, R112). Toward a domain that is off it waits, and the page stays as it is; else what its
block still holds from an abandoned one stays what an abandonment keeps. -/
def Tail.xferBegin (t : Tail) (p : Nat) : Tail :=
  if !t.xferReady p then { t with xferWait := p :: t.xferWait.filter (· != p) }
  else
    let kept := t.held.filter (fun e => e.1 / 256 = p)
    let t := kept.foldl (fun t e => t.lateAdd e.1 e.2) (t.xferDone p)
    { t with xfer := kept.foldl (fun (x : SMap Word) (e : Nat × Word) => smIns x e.1 e.2) t.xfer }

/-- The transfers that waited for a domain are sent once it is on (03 R103). -/
def Tail.xferSend (t : Tail) : Tail :=
  t.xferWait.foldl (fun t p =>
    if t.xferReady p then
      let new := t.xfer.filter (fun e => e.1 / 256 = p)
      let t := t.xferBegin p
      { t with xfer := new.foldl (fun (x : SMap Word) (e : Nat × Word) => smIns x e.1 e.2) t.xfer }
    else t) t

/-! ## The rows of the reset kinds of the field side -/

/-- PON (00 R14): supplies A and B valid as `a` and `b` say; `cold` while a comparator holds the domains off. -/
def execPon (a b cold : Bool) (s : State) : Host.Outcome State Fault Refusal :=
  if a || b then .next { s with h2f := [], f2h := [], fs := s.fs.pon a b cold } else .next s

/-- TRST (10 R867): a Tailstock reset of cause `c`; requests on the lane are lost. -/
def execTrst (c : RstCause) (cold : Bool) (s : State) : Host.Outcome State Fault Refusal :=
  if s.fs.us = .off then .next s else .next { s with h2f := [], fs := s.fs.trst c cold }

/-- The answer of a step that may end in a Tailstock reset: requests on the lane are lost with it. -/
def trstNext (s : State) (f : Tail → Tail) : Host.Outcome State Fault Refusal :=
  let t := f s.fs
  .next { s with h2f := if t.aon.epoch = s.fs.aon.epoch then s.h2f else [], fs := t }

/-- The 10 ms after which an unserviced SQC watchdog expires (10 R377). -/
def wdogTime : Nat := 10 * ms1

/-- WATCHDOG_EXPIRY (10 R377, 03 R110): the SQC watchdog, unserviced for 10 ms from now, or from the detection of a stopped clock. -/
def execWatchdogExpiry (s : State) : Host.Outcome State Fault Refusal :=
  trstNext s (fun t => if t.pd 3 then (t.elapseTo (t.clk.wdogT.getD (t.now + wdogTime))).trstBy .wdog else t)

end Sys2Proof.Machine
end

