-- ==== Sys2Proof/Machine/Clock.lean ====
section
/-! DEFINITION. Clocks, Field Time and crossings (03): PLL lock, replica checks, abandoned transfers, unstable values and stopped
clocks. -/

namespace Sys2Proof.Machine

/-! ## PLLs and Field Time (03 R93, R94, R111, R115) -/

/-- The PLLs lock: Field Time counts, the replicas are loaded, the first training run begins (02 R72), and the gate block and FAULT of a
stopped clock or a failed lock end. -/
def Tail.pllUp (t : Tail) : Tail :=
  { t.inc BLNK_STAT.TRAIN_CNT with
    clk := Clocks.up t.u.orbit t.ft
    aon := { t.aon with gateBlock := false }
    link := { t.link with trainAt := t.now }
    boot := { t.boot with t3 := true, dead := false, t3At := t.now, last := t.now } }

/-- PLL_LOCKED (03 R94, 10 R372 T3): the PLLs lock after PD2 powers up, and Field Time starts counting from 0. -/
def execPllLocked (s : State) : Host.Outcome State Fault Refusal :=
  tailNext s (fun t => if t.us = .boot && t.pd 2 && !t.boot.t3 then (t.elapseTo (t.boot.upAt + bootT3)).pllUp else t)

/-- PLL_RETRY (03 R111): a further lock attempt within BOOT, 1.0 s later; FAULT is asserted until one succeeds. -/
def execPllRetry (lock : Bool) (s : State) : Host.Outcome State Fault Refusal :=
  tailNext s (fun t =>
    if t.us = .boot && t.pd 2 && !t.boot.t3 then
      let t := t.elapse s1
      if lock then t.pllUp else { t with boot := { t.boot with dead := true } }
    else t)

/-- PLL_UNLOCK (03 R115): PLL A, or B, loses lock while running. R115 latches the event, and no rule says what follows: the lock bit
clears, and the clocks and Field Time go on until a reset (DESIGN CHOICE, log entry 115). -/
def execPllUnlock (b : Bool) (s : State) : Host.Outcome State Fault Refusal :=
  tailNext s (fun t =>
    if (if b then t.clk.pllB else t.clk.pllA) then
      (({ t with clk := { t.clk with pllA := t.clk.pllA && b, pllB := t.clk.pllB && !b } }).evt 0x05 4).finish
    else t)

/-- A value `d` ticks from the master has slipped where the replica's clock has a period of `num / den` ticks (03 R96, R97). -/
def slipped (d : Int) (num den : Nat) : Bool := decide (num < d.natAbs * den)

/-- The check of replica `r` (03 R97), which has gained `d` ticks on its pattern since the last one: where it has slipped, it is loaded
from the master. -/
def Replica.check (r : Replica) (pat : Nat → Nat) (num den : Nat) (d : Int) (ft : DWord) : Replica × Bool :=
  let r := { r with gain := r.gain + d }
  if slipped ((r.value pat ft - ft).toInt) num den then (⟨ft, 0⟩, true) else (r, false)

/-- A slip is counted and latched (03 R97). -/
def Tail.slip (t : Tail) (f : Fd) (slip : Bool) : Tail := if slip then (t.inc f).evt 0x05 3 else t

/-- The three replicas are checked: the clocks after it, and which slipped. -/
def Clocks.check (c : Clocks) (ft : DWord) (ce fb sq : Int) : Clocks × Bool × Bool × Bool :=
  let a := c.ce.check tickCe 4 3 ce ft
  let b := c.fb.check tickFb 4 1 fb ft
  let d := c.sq.check tickSq 8 3 sq ft
  ({ c with ce := a.1, fb := b.1, sq := d.1 }, a.2, b.2, d.2)

/-- The ticks to the next check of the replicas: one every 2^20 ticks (03 R97). -/
def Tail.checkIn (t : Tail) : Nat := 2 ^ 20 - t.ft.toNat % 2 ^ 20

/-- FT_REPLICA_CHECK (03 R97): the replicas of CLK_CE, CLK_FB and CLK_SEQ have gained `ce`, `fb` and `sq` ticks on their patterns since the
last check. -/
def execFtReplicaCheck (ce fb sq : Int) (s : State) : Host.Outcome State Fault Refusal :=
  tailNext s (fun t =>
    if t.clk.ftRun then
      let t := t.elapse t.checkIn
      let (c, a, b, d) := t.clk.check t.ft ce fb sq
      (((({ t with clk := c }).slip CLK_FTCHK.CE_SLIP a).slip CLK_FTCHK.FB_SLIP b).slip CLK_FTCHK.SEQ_SLIP d).finish
    else t)

/-! ## Crossings (03 R105, R108, R112) -/

/-- The configuration transfers among the crossings (03 R108). -/
def hsCrossings : List Nat := [0x0C, 0x10, 0x12, 0x15, 0x23, 0x29, 0x2D, 0x2F]

/-- The running values among the crossings (03 R108). -/
def dsCrossings : List Nat := [0x11, 0x14, 0x1B, 0x1D, 0x22, 0x27]

/-- A transfer of page `p` crosses over `id` (03 R108): its configuration, or the compare values of its station (0x12), for which the MOD
page stands. -/
def crosses (id p : Nat) : Bool := pageCrossing p = some id || (id = 0x12 && 0x40 ≤ p && p < 0x80 && p % 16 = 0xD)

/-- What the receiver of page `p` keeps after an abandoned transfer (03 R112): its configuration, or the compare values in effect. -/
def Tail.keepOld (t : Tail) (id p : Nat) : Tail :=
  if id = 0x12 then t.moduMap (Fin.ofNat 4 ((p - 0x40) / 16)) (fun m => { m with next := none })
  else t.xfer.foldl (fun t (e : Nat × Word) => if e.1 / 256 = p then { t with held := smIns t.held e.1 e.2 } else t) t

/-- CDC_TIMEOUT (03 R112): the transfer of page `page` over crossing `id` is abandoned; its block keeps what it had. No timeout runs while
the receiving domain is off (R103). -/
def execCdcTimeout (id : Nat) (page : Byte) (s : State) : Host.Outcome State Fault Refusal :=
  tailNext s (fun t =>
    let p := page.toNat
    if !(hsCrossings.contains id && crosses id p && t.pd (pageDomain p) && t.pd 3 && fieldPages.contains p && !t.absentPage p) then t
    else
      let t := if t.evtBit 0x05 0 then t else t.p CLK_CDC.FIRST_ID id
      let t := t.keepOld id p
      ((((t.inc CLK_CDC.TO_COUNT).p (PG_STAT.STALE p) 1).evt 0x05 0).finish))

/-- The registers whose values cross over `id` (03 R108). -/
def dsRegs (id : Nat) (a : Nat) : Bool :=
  let b := (a / 256) % 16
  if 0x4000 ≤ a && a < 0x8000 then (id = 0x11 && (b = 0 || b = 5)) || (id = 0x1D && (b = 1 || b = 2)) else id = 0x27

/-- DS_UNSTABLE (03 R105): no attempt of crossing `id` agrees; the receiver keeps what it held before the last update. -/
def execDsUnstable (id : Nat) (s : State) : Host.Outcome State Fault Refusal :=
  tailNext s (fun t =>
    if !(dsCrossings.contains id && t.pd 3) then t
    else
      let old := t.dsOld.filter (fun (e : Nat × Word) => dsRegs id e.1)
      let t := { t with ds := old.foldl (fun (m : SMap Word) (e : Nat × Word) => smIns m e.1 e.2) t.ds }
      let f := if id < 0x20 then CLK_UNST_LO.ID else CLK_UNST_HI.ID
      (((t.p f (setBit (t.g f) (id % 0x20) true)).inc CLK_UNST_CNT.COUNT).evt 0x05 1).finish)

/-! ## Stopped clocks (03 R109, R110) -/

/-- CLOCK_STOPPED (03 R109, R110): the AON supervisor blocks every gate, asserts FAULT, records the clock, restarts the watchdog and
withholds its service (10 R377). Without CLK_ORB a frame on the ring is cut short (16 R613). Field Time stands while CLK_PWM or the
crystal does. A lost crystal clears its own bit of CLK_STAT.RUN alone, and the lock bits stay, though every clock stands (DESIGN CHOICE,
log entry 116: the bits of the others are cleared as each is declared stopped). -/
def execClockStopped (clk : Fin 8) (s : State) : Host.Outcome State Fault Refusal :=
  tailNext s (fun t =>
    if !(t.pd 2 && t.clk.run.getLsbD clk) then t
    else
      let ft := t.clk.ftRun && clk.val != 0 && clk.val != 7
      let t := { t with
        clk := { t.clk with
          run := t.clk.run &&& ~~~((1 : BitVec 8) <<< clk.val)
          clkStopped := true
          wdogT := some (t.now + wdogTime) }
        orb := if clk.val = 6 || clk.val = 7 then t.orb.cut t.now else t.orb
        aon := { t.aon with gateBlock := true } }
      let t := (t.p CLK_STOP.CAUSE (setBit (t.g CLK_STOP.CAUSE) clk true)).evt 0x05 2
      let t := t.ascOverride.finish
      { t with clk := { t.clk with ftRun := ft } })

end Sys2Proof.Machine
end

