-- ==== Sys2Proof/Machine/Feedback.lean ====
section
/-! DEFINITION. Position and speed feedback (11): decoding, SSI, Hall, the speed estimate, latch, compare and gate timer, loss. -/

namespace Sys2Proof.Machine

/-! ## Loss and validity (11 section 11) -/

/-- The primary port works: enabled, in incremental (1) or SSI (2) mode (11 R449, R454). -/
def Tail.fbpMode (t : Tail) (n : Stn) : Nat :=
  if t.enabled (stnPage n 1) && (t.cf (FBP_CFG.MODE n) = 1 || t.cf (FBP_CFG.MODE n) = 2) then t.cf (FBP_CFG.MODE n) else 0

/-- The auxiliary port works: enabled, in Hall (1) or incremental (2) mode. -/
def Tail.fbaMode (t : Tail) (n : Stn) : Nat :=
  if t.enabled (stnPage n 2) && (t.cf (FBA_CFG.MODE n) = 1 || t.cf (FBA_CFG.MODE n) = 2) then t.cf (FBA_CFG.MODE n) else 0

/-- The lost pairs of a port whose block on page `b` is enabled (05 R168): those monitored among the pairs out of range (11 R448). -/
def Tail.lostPairs (t : Tail) (n : Stn) (b : Nat) (out : BitVec 6) (mask : Nat) : Nat :=
  if t.enabled (stnPage n b) then out.toNat % 8 &&& mask else 0

def Tail.primLost (t : Tail) (n : Stn) : Nat := t.lostPairs n 1 (t.stnGet n).fb.out (t.cf (FBP_LOSS.MASK n))
def Tail.auxLost (t : Tail) (n : Stn) : Nat := t.lostPairs n 2 ((t.stnGet n).fb.out >>> 3) (t.cf (FBA_LOSS.MASK n))

/-- Auxiliary loss (11 R449): a lost auxiliary pair or a lasting illegal Hall code, while FBA_CFG.MODE is on. -/
def Tail.auxLoss (t : Tail) (n : Stn) : Bool :=
  t.fbaMode n != 0 && (t.auxLost n != 0 || (t.fbaMode n = 1 && (t.stnGet n).fb.hallLoss))

/-- FB_LOSS of station `n` (11 R449). -/
def Tail.fbLossNow (t : Tail) (n : Stn) : Bool :=
  let f := (t.stnGet n).fb
  t.fbpMode n != 0 &&
    (t.primLost n != 0 || f.qerrLoss || (t.fbpMode n = 2 && max 1 (t.cf (FBP_SPDTO.ERRMAX n)) ≤ f.ssiRun) || t.auxLoss n
      || t.b (FBP_STAT.ENC_OC n))

/-- POS_VALID (11 R420, R424, R425, R450). -/
def Tail.posValidNow (t : Tail) (n : Stn) : Bool :=
  let f := (t.stnGet n).fb
  !t.fbLossNow n && ((t.fbpMode n = 1 && !f.lossHold) || (t.fbpMode n = 2 && f.ssiGood))

/-- SPD_VALID (11 R432, R450). -/
def Tail.spdValidNow (t : Tail) (n : Stn) : Bool :=
  !t.fbLossNow n && t.fbpMode n != 0 && t.cf (FBP_CPR.CPR n) != 0 && t.cfb (STN_NBASE.VALUE n)

/-- The status of the ports follows: lost pairs, FB_LOSS with its latch and its protection source, auxiliary loss, POS_VALID and SPD_VALID
(11 R420, R432, R448 to R450). -/
def Tail.fbStatus (t : Tail) (n : Stn) : Tail :=
  let loss := t.fbLossNow n
  let aux := t.auxLoss n
  let t := if loss && !t.b (FBP_STAT.FB_LOSS n) then
      (t.fbMap n (fun f => { f with lossHold := true })).evt (stnPage n 1) 1
    else t
  let t := if aux && !t.b (FBA_STAT.LOSS n) then t.evt (stnPage n 2) 2 else t
  let t := ((t.pb (FBP_STAT.FB_LOSS n) loss).pb (FBA_STAT.LOSS n) aux).p (FBP_STAT.PAIR_LOSS n) (t.primLost n)
  let t := (t.pb (FBP_STAT.POS_VALID n) (t.posValidNow n)).pb (FBP_STAT.SPD_VALID n) (t.spdValidNow n)
  t.setSource n 8 loss

/-! ## Positions, the compare and the latch -/

/-- The signed difference of two 32-bit positions (11 R440). -/
def posDiff (a b : Nat) : Int := sx 32 ((a + 2 ^ 32 - b) % 2 ^ 32)

/-- The output level of the compare while its pulse runs or not (11 R442). -/
def Tail.cmpOut (t : Tail) (n : Stn) (on : Bool) : Tail := t.pb (LCMP_STAT.CMP_OUT n) (on != t.cfb (LCMP_CFG.CMP_INV n))

/-- The compare works (11 R440). -/
def Tail.cmpOn (t : Tail) (n : Stn) : Bool := t.enabled (stnPage n 3) && t.cfb (LCMP_CFG.CMP_EN n)

/-- The compare check of one sample in which the position went from `p0` to the present one by counting (11 R440 to R442). -/
def Tail.compareCheck (t : Tail) (n : Stn) (p0 : Nat) : Tail :=
  let p := t.g (FBP_POS.POS n)
  let v := t.cf (LCMP_CMPVAL.VAL n)
  let st := t.cfi (LCMP_CMPSTEP.STEP n)
  let hit := p != p0 && p = v && (if st = 0 then !t.b (LCMP_STAT.CMP_DONE n) else if 0 < st then posDiff p0 v < 0 else 0 < posDiff p0 v)
  if !t.cmpOn n || !hit then t
  else
    let t := ((t.inc (LCMP_CMPCNT.HITS n)).evt (stnPage n 3) 6).pEff (LCMP_CMPVAL.VAL n) (enc 32 (v + st))
    let t := if st = 0 then t.p (LCMP_STAT.CMP_DONE n) 1 else t
    (t.fbMap n (fun f => { f with pulse := some (t.now + max 1 (t.cf (LCMP_CMPW.WIDTH n)) * 4) })).cmpOut n true

/-- The compare points that a preset from `p0` to `p1` passes (11 R444). -/
def presetMissed (p0 p1 v : Nat) (st : Int) : Nat :=
  let d := posDiff p1 p0
  let a := posDiff v p0
  if st = 0 then 0
  else if 0 < st then
    (if d ≤ 0 then 0 else
      let first := if 0 < a then 0 else (-a) / st + 1
      if a + first * st ≤ d then ((d - (a + first * st)) / st + 1).toNat else 0)
  else
    (if 0 ≤ d then 0 else
      let first := if a < 0 then 0 else a / (-st) + 1
      if d ≤ a + first * st then (((a + first * st) - d) / (-st) + 1).toNat else 0)

/-- The primary counter is preset to FBP_PRESET.VALUE, after the A/B transition of the sample (11 R418 to R420, R444). -/
def Tail.preset (t : Tail) (n : Stn) : Tail :=
  let p0 := t.g (FBP_POS.POS n)
  let p1 := t.cf (FBP_PRESET.VALUE n)
  let v := t.cf (LCMP_CMPVAL.VAL n)
  let st := t.cfi (LCMP_CMPSTEP.STEP n)
  let k := if t.cmpOn n then presetMissed p0 p1 v st else 0
  let t := ((t.pDs (FBP_POS.POS n) p1).fbMap n (fun f => { f with lossHold := false })).evt (stnPage n 1) 5
  if k = 0 then t
  else ((t.incBy (LCMP_CMPCNT.MISSED n) k).pEff (LCMP_CMPVAL.VAL n) (enc 32 (v + k * st))).evt (stnPage n 3) 5

/-- The timestamp of an edge accepted now by a filter of N samples (11 R411, R414). -/
def Tail.stamp (t : Tail) (nf : Nat) : Nat := t.ftFb.toNat - 4 * (max 1 nf + 1)

/-- A feedback record of 16 bytes in stream +2 (11 R434, R435), under a commit of its own. -/
def Tail.fbRecord (t : Tail) (n : Stn) (d : List Byte) : Tail :=
  t.commitOn (64 + 16 * n.val + 2) (fun t => t.record .engine (64 + 16 * n.val + 2) 5 true d)

/-- A latch event (11 R436 to R439): the registers in continuous mode or while armed, and a record always. -/
def Tail.latchEvent (t : Tail) (n : Stn) (src ts : Nat) : Tail :=
  let p := t.g (FBP_POS.POS n)
  let cont := t.cfb (LCMP_CFG.LCONT n)
  let t := if cont || t.b (LCMP_STAT.ARMED n) then
      let t := ((t.p (LCMP_LPOS.POS n) p).p (LCMP_LFT_LO.FT n) ts).p (LCMP_LFT_HI.FT n) (ts / 2 ^ 32)
      let t := (t.p (LCMP_STAT.LATCHED n) 1).evt (stnPage n 3) 0
      if cont then t else t.p (LCMP_STAT.ARMED n) 0
    else t
  t.fbRecord n ([2, BitVec.ofNat 8 src, 0, 0] ++ leBytes 4 p ++ leBytes 8 ts)

/-! ## The gate timer (11 section 10) -/

/-- Whether edge `sel` of the gate timer (0 CAP rising, 1 CAP falling, 2 Z rising, 3 Z falling) is in the sample from `o` to `l`. -/
def gtEdge (sel : Nat) (o l : EncLevels) : Bool :=
  match sel with
  | 0 => !o.cap && l.cap
  | 1 => o.cap && !l.cap
  | 2 => !o.z && l.z
  | _ => o.z && !l.z

/-- The timestamp of edge `sel` (11 R414). -/
def Tail.gtStamp (t : Tail) (n : Stn) (sel : Nat) : Nat := t.stamp (if sel < 2 then t.cf (LCMP_CFG.NCAP n) else t.cf (FBP_CFG.N n))

/-- A width is recorded (11 R447): `w` ticks of 10 ns from `start`. -/
def Tail.gtRecord (t : Tail) (n : Stn) (w start : Nat) (zw : Bool) : Tail :=
  let sat := 2 ^ 32 - 1 ≤ w
  let v := min w (2 ^ 32 - 1)
  let t := ((t.p (LCMP_GTW.WIDTH n) v).pb (LCMP_STAT.GT_SAT n) sat)
  let t := if zw then t.p (LCMP_STAT.ZW n) 1 else if v = 0 then t else t.p (LCMP_STAT.ZW n) 0
  t.fbRecord n ([3, BitVec.ofNat 8 (b2n zw + 2 * b2n sat), 0, 0] ++ leBytes 4 v ++ leBytes 8 start)

/-- The running measurement ends at `stop` (11 R446). -/
def Tail.gtStop (t : Tail) (n : Stn) (start stop : Nat) : Tail :=
  (((t.fbMap n (fun f => { f with gtStart := none })).p (LCMP_STAT.GT_RUN n) 0).gtRecord n ((stop - start) / 4) start false).evt
    (stnPage n 3) 1

/-- A measurement begins at `ts` (11 R446). -/
def Tail.gtBegin (t : Tail) (n : Stn) (ts : Nat) : Tail := (t.fbMap n (fun f => { f with gtStart := some ts })).p (LCMP_STAT.GT_RUN n) 1

/-- The gate timer's edges of one sample (11 R446). -/
def Tail.gateTimer (t : Tail) (n : Stn) (o l : EncLevels) : Tail :=
  let ss := t.cf (LCMP_CFG.GT_START n)
  let sp := t.cf (LCMP_CFG.GT_STOP n)
  let run := (t.stnGet n).fb.gtStart
  let eStart := gtEdge ss o l && !(ss = sp && run.isSome)
  let eStop := gtEdge sp o l && !(ss = sp && run.isNone)
  let tsStart := t.gtStamp n ss
  let tsStop := t.gtStamp n sp
  if !(t.enabled (stnPage n 3) && t.cfb (LCMP_CFG.GT_EN n)) then t
  else match run, eStart, eStop with
    | none, true, false => t.gtBegin n tsStart
    | none, false, true => (t.inc (LCMP_GTCNT.ORDER n)).evt (stnPage n 3) 2
    | none, true, true => ((t.gtRecord n 0 tsStart true).inc (LCMP_GTCNT.ZW n)).evt (stnPage n 3) 4
    | some s, false, true => t.gtStop n s tsStop
    | some _, true, false => ((t.gtBegin n tsStart).inc (LCMP_GTCNT.RESTART n)).evt (stnPage n 3) 3
    | some s, true, true => (t.gtStop n s tsStop).gtBegin n tsStart
    | _, false, false => t

/-! ## Decoding one sample (11 section 3) -/

/-- The place of a pair of levels in the quadrature cycle: A leads B in the positive direction. -/
def quadPlace (a b : Bool) : Nat :=
  match a, b with
  | false, false => 0
  | true, false => 1
  | true, true => 2
  | false, true => 3

/-- The count of a transition (11 R416): none where the levels are unchanged, `some 0` never; an illegal transition is `none`
beside a change. -/
def quadStep (a0 b0 a1 b1 : Bool) : Option Int :=
  match (quadPlace a1 b1 + 4 - quadPlace a0 b0) % 4 with
  | 0 => some 0
  | 1 => some 1
  | 3 => some (-1)
  | _ => none

/-- An edge of a counter for its estimator. -/
def Enc.step (e : Enc) (d : Int) (ts : Nat) : Enc := { e with acc := e.acc + d, edge := some (e.acc + d, ts) }

/-- An illegal transition of the primary port (11 R416, R417). -/
def Tail.qerr (t : Tail) (n : Stn) : Tail :=
  let t := (t.inc (FBP_STAT.QERR_CNT n)).evt (stnPage n 1) 0
  let mx := t.cf (FBP_CFG.QERR_MAX n)
  t.fbMap n (fun f =>
    let w := t.now :: f.qerrAt.filter (fun a => t.now < a + ms1)
    { f with illegal := true, qerrAt := w, qerrLoss := f.qerrLoss || (mx != 0 && mx < w.length) })

/-- The primary A/B transition from `o` to `l` (11 R416, R419). -/
def Tail.primStep (t : Tail) (n : Stn) (o l : EncLevels) : Tail :=
  if t.fbpMode n != 1 then t
  else match quadStep o.a o.b l.a l.b with
    | none => t.qerr n
    | some 0 => t
    | some d =>
      let d := if t.cfb (FBP_CFG.DIR n) then -d else d
      (t.pDs (FBP_POS.POS n) (enc 32 (t.g (FBP_POS.POS n) + d))).fbMap n (fun f =>
        { f with prim := f.prim.step d (t.stamp (t.cf (FBP_CFG.N n))) })

/-- The auxiliary A/B transition (11 R428). -/
def Tail.auxStep (t : Tail) (n : Stn) (o l : EncLevels) : Tail :=
  if t.fbaMode n != 2 then t
  else match quadStep o.xa o.xb l.xa l.xb with
    | none => (t.inc (FBA_STAT.ERR_CNT n)).evt (stnPage n 2) 0
    | some 0 => t
    | some d =>
      let d := if t.cfb (FBA_CFG.DIR n) then -d else d
      (t.pDs (FBA_POS.POS n) (enc 32 (t.g (FBA_POS.POS n) + d))).fbMap n (fun f =>
        { f with aux := f.aux.step d (t.stamp (t.cf (FBA_CFG.N n))) })

/-- The pulse followers that read the auxiliary pairs of station `n` (15 R573). -/
def Tail.pulseStep (t : Tail) (n : Stn) (o l : EncLevels) : Tail :=
  if t.cf (FBA_CFG.MODE n) != 0 then t
  else t.stns.foldl (fun t (m : Stn) =>
    let d : Int := if t.cfb (EXTS_PCFG.PD m)
      then (if !o.xa && l.xa then (if l.xb then 1 else -1) else 0) else (quadStep o.xa o.xb l.xa l.xb).getD 0
    if t.enabled (stnPage m 0xC) && t.cf (EXTS_PCFG.PSTN m) = n.val && d != 0
      then t.p (EXTS_PCNT.COUNT m) (enc 32 (t.g (EXTS_PCNT.COUNT m) + d)) else t) t

/-- The latch of one sample (11 R436, R439): Z and CAP edges of the same sample are one event. -/
def Tail.latchStep (t : Tail) (n : Stn) (o l : EncLevels) : Tail :=
  let src := t.cf (LCMP_CFG.LSRC n)
  let z := !o.z && l.z && (src = 1 || src = 3)
  let c := (if t.cfb (LCMP_CFG.CAP_EDGE n) then o.cap && !l.cap else !o.cap && l.cap) && (src = 2 || src = 3)
  let xz := !o.xz && l.xz
  if t.enabled (stnPage n 3) && (z || c) then
    t.latchEvent n (b2n z + 2 * b2n c + 4 * b2n xz) (t.stamp (if z then t.cf (FBP_CFG.N n) else t.cf (LCMP_CFG.NCAP n)))
  else t

/-- The Z edge's part in presetting (11 R418). -/
def Tail.zStep (t : Tail) (n : Stn) (o l : EncLevels) : Tail :=
  if !(t.fbpMode n = 1 && !o.z && l.z) then t
  else
    let t := t.p (FBP_STAT.Z_SEEN n) 1
    let ps := t.cf (FBP_CFG.PRESET_SRC n)
    if ps = 2 then t.preset n
    else if ps = 1 && (t.stnGet n).fb.zArmed then (t.preset n).fbMap n (fun f => { f with zArmed := false })
    else t

/-- One sample with new filtered levels `l` (11 R419): transition, latch, preset, compare; then the gate timer. -/
def Tail.encSample (t : Tail) (n : Stn) (l : EncLevels) : Tail :=
  let o := (t.stnGet n).fb.lv
  let p0 := t.g (FBP_POS.POS n)
  let t := t.fbMap n (fun f => { f with lv := l })
  let t := (((t.primStep n o l).auxStep n o l).pulseStep n o l).latchStep n o l
  let m := t.g (LCMP_CMPCNT.MISSED n)
  let v := t.cf (LCMP_CMPVAL.VAL n)
  let t := t.zStep n o l
  let t := if t.g (LCMP_CMPCNT.MISSED n) = m && t.cf (LCMP_CMPVAL.VAL n) = v then t.compareCheck n p0 else t
  t.gateTimer n o l

/-- The filtered levels once the inputs have shown `l` for `held` samples in a row (11 R411, R412): each group takes them after its N. -/
def Tail.filtered (t : Tail) (n : Stn) (o l : EncLevels) (held : Nat) : EncLevels :=
  let p := max 1 (t.cf (FBP_CFG.N n)) ≤ held
  let x := max 1 (t.cf (FBA_CFG.N n)) ≤ held
  { a := if p then l.a else o.a
    b := if p then l.b else o.b
    z := if p then l.z else o.z
    xa := if x then l.xa else o.xa
    xb := if x then l.xb else o.xb
    xz := if x then l.xz else o.xz
    cap := if max 1 (t.cf (LCMP_CFG.NCAP n)) ≤ held then l.cap else o.cap }

/-- ENCODER_EDGE (11 R411, R416): the inputs of station `n` have shown the levels `lv` for so many samples of 10 ns. -/
def execEncoderEdge (n : Stn) (lv : Held EncLevels) (s : State) : Host.Outcome State Fault Refusal :=
  tailNext s (fun t =>
    if t.fitted n && t.on 7 then ((t.encSample n (t.filtered n (t.stnGet n).fb.lv lv.level lv.held)).fbStatus n).finish else t)

/-- COMPARE_PULSE_END (11 R442): the pulse width expires. -/
def execComparePulseEnd (n : Stn) (s : State) : Host.Outcome State Fault Refusal :=
  tailNext s (fun t =>
    match (t.stnGet n).fb.pulse with
    | some d => ((t.elapseTo d).fbMap n (fun f => { f with pulse := none })).cmpOut n false
    | none => t)

/-- FBP_PRESET_CMD (11 R418): FBP_CMD.PRESET loads the primary counter; a preset that skips no point may reach one (R441). -/
def Tail.fbpPresetCmd (t : Tail) (n : Stn) : Tail :=
  if !t.enabled (stnPage n 1) then t
  else
    let r := t.preset n
    let r := if r.g (LCMP_CMPCNT.MISSED n) = t.g (LCMP_CMPCNT.MISSED n) && r.cf (LCMP_CMPVAL.VAL n) = t.cf (LCMP_CMPVAL.VAL n)
      then r.compareCheck n (t.g (FBP_POS.POS n)) else r
    r.fbStatus n

def execFbpPresetCmd (n : Stn) (s : State) : Host.Outcome State Fault Refusal :=
  tailNext s (fun t => if t.fitted n && t.on 7 then (t.fbpPresetCmd n).finish else t)

/-- FBA_PRESET_CMD (11 R428): FBA_CMD.PRESET loads the auxiliary counter. -/
def Tail.fbaPresetCmd (t : Tail) (n : Stn) : Tail :=
  if t.enabled (stnPage n 2) then t.pDs (FBA_POS.POS n) (t.cf (FBA_PRESET.VALUE n)) else t

def execFbaPresetCmd (n : Stn) (s : State) : Host.Outcome State Fault Refusal :=
  tailNext s (fun t => if t.fitted n && t.on 7 then t.fbaPresetCmd n else t)

/-- LATCH_ARM (11 R437): LCMP_CMD.ARM arms the one-shot latch. -/
def Tail.latchArm (t : Tail) (n : Stn) : Tail :=
  if t.enabled (stnPage n 3) && !t.cfb (LCMP_CFG.LCONT n) then t.p (LCMP_STAT.ARMED n) 1 else t

def execLatchArm (n : Stn) (s : State) : Host.Outcome State Fault Refusal :=
  tailNext s (fun t => if t.fitted n && t.on 7 then t.latchArm n else t)

/-- GT_CLR (11 R447): the gate timer returns to Idle without recording. -/
def Tail.gtClr (t : Tail) (n : Stn) : Tail :=
  if t.enabled (stnPage n 3) then (t.fbMap n (fun f => { f with gtStart := none })).p (LCMP_STAT.GT_RUN n) 0 else t

def execGtClr (n : Stn) (s : State) : Host.Outcome State Fault Refusal :=
  tailNext s (fun t => if t.fitted n && t.on 7 then t.gtClr n else t)

/-! ## SSI (11 section 4) -/

/-- The clock divider of SSI (11 R422). -/
def Tail.ssiDiv (t : Tail) (n : Stn) : Nat := clampN 25 1000 (t.cf (FBP_SSICLK.CLKDIV n))

/-- The number that frame bits spell: the last bit clocked is bit 0 (11 R423). -/
def bitsVal (l : List Bool) : Nat := l.foldl (fun v b => 2 * v + b2n b) 0

/-- Gray code `v` of `k` bits decoded (11 R423). -/
def grayDecode (k v : Nat) : Nat := (List.range k).foldl (fun r i => r ^^^ (v >>> i)) 0

/-- The parity of a frame passes (11 R423): PAR 1 even, 2 odd. -/
def parityOk (par : Nat) (l : List Bool) : Bool :=
  let x := l.foldl (fun a b => a != b) false
  if par = 1 then !x else if par = 2 then x else true

/-- A good frame with position field `v` (11 R425). -/
def Tail.ssiGoodFrame (t : Tail) (n : Stn) (v : Nat) : Tail :=
  let f := (t.stnGet n).fb
  let k := t.cf (FBP_SSI.POS_BITS n)
  let d := match f.ssiField with
    | none => (0 : Int)
    | some p => sx k ((v + 2 ^ k - p) % 2 ^ k)
  let t := match f.ssiField with
    | none => t.pDs (FBP_POS.POS n) v
    | some _ => t.pDs (FBP_POS.POS n) (enc 32 (t.g (FBP_POS.POS n) + d))
  t.fbMap n (fun f =>
    { f with
      ssiField := some v, ssiRun := 0, ssiGood := true
      prim := if d = 0 then f.prim else f.prim.step d f.ssiFt })

/-- SSI_FRAME_END (11 R423 to R425): the frame's bits in the order clocked, and whether PB was high at the first clock edge. -/
def execSsiFrameEnd (n : Stn) (bits : List Bool) (pbHigh : Bool) (s : State) : Host.Outcome State Fault Refusal :=
  tailNext s (fun t =>
    match (t.stnGet n).fb.ssiStart with
    | none => t
    | some d =>
      let t := (t.elapseTo d).fbMap n (fun f => { f with ssiStart := none })
      let len := t.cf (FBP_SSI.LEN n)
      let l := (bits ++ List.replicate len false).take len
      let bad := !pbHigh || !parityOk (t.cf (FBP_SSI.PAR n)) l || t.primLost n % 4 != 0
      let k := t.cf (FBP_SSI.POS_BITS n)
      let v := (bitsVal l >>> t.cf (FBP_SSI.POS_SHIFT n)) % 2 ^ k
      let v := if t.cfb (FBP_SSI.GRAY n) then grayDecode k v else v
      let p0 := t.g (FBP_POS.POS n)
      let t := if bad
        then ((t.fbMap n (fun f => { f with ssiRun := f.ssiRun + 1, ssiGood := false })).inc (FBP_SSICNT.ERR n)).evt (stnPage n 1) 2
        else (t.ssiGoodFrame n v).compareCheck n p0
      (t.fbStatus n).finish)

/-! ## The auxiliary port and the switches (11 section 5) -/

/-- The sector of a Hall code (11 R427): 0 where the code is illegal. -/
def hallSector (c : BitVec 3) : Nat :=
  match c.toNat with
  | 4 => 1
  | 6 => 2
  | 2 => 3
  | 3 => 4
  | 1 => 5
  | 5 => 6
  | _ => 0

/-- HALL_CHANGE (11 R411, R427): the inputs U, V, W have shown `code` for so many samples of 10 ns, and the filtered code changes. -/
def execHallChange (n : Stn) (code : Held (BitVec 3)) (s : State) : Host.Outcome State Fault Refusal :=
  tailNext s (fun t =>
    if !(t.fitted n && t.on 7 && t.fbaMode n = 1) || code.held < max 1 (t.cf (FBA_CFG.N n)) then t
    else
      let old := t.g (FBA_STAT.SECTOR n)
      let new := hallSector code.level
      let t := t.p (FBA_STAT.HALL n) code.level.toNat
      let t := t.fbMap n (fun f =>
        { f with hallAt := if new = 0 then (if f.hallAt.isSome then f.hallAt else some t.now) else none, hallLoss := f.hallLoss && new = 0 })
      let up := (new + 6 - old) % 6
      let err := new = 0 || (old != 0 && (up = 2 || up = 3 || up = 4))
      let t := if err then ((t.p (FBA_STAT.SECTOR n) 0).inc (FBA_STAT.ERR_CNT n)).evt (stnPage n 2) 1
        else
          let d : Int := if old = 0 || up = 0 then 0 else if up = 1 then 1 else -1
          let d := if t.cfb (FBA_CFG.DIR n) then -d else d
          let t := t.p (FBA_STAT.SECTOR n) new
          if d = 0 then t
          else (t.pDs (FBA_POS.POS n) (enc 32 (t.g (FBA_POS.POS n) + d))).fbMap n (fun f =>
            { f with aux := f.aux.step d (t.stamp (t.cf (FBA_CFG.N n))) })
      (t.fbStatus n).finish)

/-- HALL_ILLEGAL_TIMEOUT (11 R427): an illegal code has lasted 1 ms. -/
def execHallIllegalTimeout (n : Stn) (s : State) : Host.Outcome State Fault Refusal :=
  tailNext s (fun t =>
    match (t.stnGet n).fb.hallAt with
    | some a =>
      let t := (t.elapseTo (a + ms1)).fbMap n (fun f => { f with hallLoss := true })
      (t.fbStatus n).finish
    | none => t)

/-- SWITCH_CHANGE (11 R411, R412, R429): switch `k` has shown `level` for so many CLK_FB cycles, sampled every 2 ^ PSW of them; its filtered
level changes and is shown after its polarity. -/
def execSwitchChange (n : Stn) (k : Fin 4) (level : Held Bool) (s : State) : Host.Outcome State Fault Refusal :=
  tailNext s (fun t =>
    if !(t.fitted n && t.on 7 && t.enabled (stnPage n 2)) || (t.stnGet n).fb.sw.getLsbD k = level.level
      || level.held / 2 ^ t.cf (FBA_CFG.PSW n) < max 1 (t.cf (FBA_CFG.NSW n)) then t
    else
      let pol := (t.cf (match k with | 0 => FBA_SWCFG.POL0 n | 1 => FBA_SWCFG.POL1 n | 2 => FBA_SWCFG.POL2 n | 3 => FBA_SWCFG.POL3 n)) != 0
      let t := t.fbMap n (fun f => { f with sw := f.sw ^^^ ((1 : BitVec 4) <<< k.val) })
      let t := t.p (FBA_STAT.SW n) (setBit (t.g (FBA_STAT.SW n)) k (level.level != pol))
      (t.evt (stnPage n 2) (4 + k)).finish)

/-! ## Line loss and the encoder supply (11 section 11) -/

/-- PAIR_LOSS (11 R448): pair `p` (PA, PB, PZ, XA, XB, XZ) has been out of range, or back in it, for so many µs: it counts as such
after T_LOSS of them. -/
def execPairLoss (n : Stn) (p : Fin 6) (lost : Held Bool) (s : State) : Host.Outcome State Fault Refusal :=
  tailNext s (fun t =>
    if !(t.fitted n && t.on 7 && max 1 (t.cf (FBP_LOSS.T_LOSS n)) ≤ lost.held) then t
    else
      let t := t.fbMap n (fun f =>
        { f with out := if lost.level then f.out ||| ((1 : BitVec 6) <<< p.val) else f.out &&& ~~~((1 : BitVec 6) <<< p.val) })
      (t.fbStatus n).finish)

/-- The encoder supply is on (11 R451). -/
def Tail.encSupply (t : Tail) (n : Stn) : Bool :=
  t.cfb (FBP_SUP.ON n) && t.enabled (stnPage n 1) && !t.b (FBP_STAT.ENC_OC n)

/-- ENC_OC (11 R451): the supply trips on overcurrent. -/
def execEncOc (n : Stn) (s : State) : Host.Outcome State Fault Refusal :=
  tailNext s (fun t =>
    if t.fitted n && t.on 7 && t.encSupply n then
      ((((t.p (FBP_STAT.ENC_OC n) 1).evt (stnPage n 1) 3)).fbStatus n).finish
    else t)

/-! ## The speed estimate and the sample record (11 section 6, 7) -/

/-- A speed of `m` counts in `d` ticks as Q31 of NBASE (11 R430, R431). -/
def speedCode (m : Int) (d cpr nbase : Nat) : Int :=
  satS 32 (roundDiv (m * 60 * 400000000 * 2147483647) (cpr * d * nbase))

/-- The estimate of one counter at a sample instant (11 R430): the code, LOWSPD, and the estimator after. -/
def estimate (e : Enc) (prev : Int) (ft cpr nbase tmo : Nat) : Int × Bool × Enc :=
  if cpr = 0 || nbase = 0 then (prev, false, e)
  else match e.edge with
    | none => (0, true, e)
    | some (c, ts) =>
      if e.used = some (c, ts) then
        let tau := ft - ts
        if tau ≤ tmo * 40000 then
          let bound := if tau = 0 then prev.natAbs else (speedCode 1 tau cpr nbase).toNat
          let mag : Int := min prev.natAbs bound
          (if prev < 0 then -mag else mag, false, e)
        else (0, true, e)
      else match e.used with
        | none => (prev, false, { e with used := some (c, ts) })
        | some (c0, ts0) =>
          (if ts0 < ts then speedCode (c - c0) (ts - ts0) cpr nbase else prev, false, { e with used := some (c, ts) })

/-- The overspeed comparator (18 R653, R656). -/
def Tail.cmpOspd (t : Tail) (n : Stn) : Tail := t.setSource n 6 (t.cf (PROT_OSPD.OSPD n) ≤ t.spdMag n && t.fbpMode n != 0)

/-- The speed estimates of station `n` at a sample instant (11 R417, R430 to R433), with the overspeed comparator. -/
def Tail.fbEstimate (t : Tail) (n : Stn) : Tail :=
  let mx := t.cf (FBP_CFG.QERR_MAX n)
  let t := t.fbMap n (fun f =>
    let w := f.qerrAt.filter (fun a => t.now < a + ms1)
    { f with qerrAt := w, qerrLoss := mx != 0 && mx < w.length })
  let t := t.fbStatus n
  let nb := t.cf (STN_NBASE.VALUE n)
  let tmo := t.cf (FBP_SPDTO.TO n)
  let t :=
    if t.fbpMode n = 0 || t.fbLossNow n then t
    else
      let (v, low, e) := estimate (t.stnGet n).fb.prim (t.gi (FBP_SPEED.SPEED n)) t.ftFb.toNat (t.cf (FBP_CPR.CPR n)) nb tmo
      ((t.pDs (FBP_SPEED.SPEED n) (enc 32 v)).pb (FBP_STAT.LOWSPD n) low).fbMap n (fun f => { f with prim := e })
  let t :=
    if t.fbaMode n = 0 || t.auxLoss n then t
    else
      let (v, _, e) := estimate (t.stnGet n).fb.aux (t.gi (FBA_SPEED.SPEED n)) t.ftFb.toNat (t.cf (FBA_CPR.CPR n)) nb tmo
      (t.pDs (FBA_SPEED.SPEED n) (enc 32 v)).fbMap n (fun f => { f with aux := e })
  if t.diagSub n = some 15 then t else t.cmpOspd n

/-- The data of a feedback sample record (11 R434), the counters as they crossed into CLK_CE (03 R108). -/
def Tail.fbSampleData (t : Tail) (n : Stn) : List Byte :=
  let f := (t.stnGet n).fb
  let flags := t.g (FBP_STAT.POS_VALID n) + 2 * t.g (FBP_STAT.SPD_VALID n) + 4 * b2n (t.fbaMode n != 0 && !t.auxLoss n)
    + 8 * t.g (FBP_STAT.LOWSPD n) + 16 * b2n f.illegal + 32 * t.g (FBP_STAT.FB_LOSS n) + 64 * b2n f.ssiSkip
  [1, BitVec.ofNat 8 flags, BitVec.ofNat 8 (t.g (FBA_STAT.SW n) + 16 * b2n f.lv.cap + 32 * t.g (LCMP_STAT.CMP_OUT n)),
    BitVec.ofNat 8 (t.g (FBA_STAT.SECTOR n))]
    ++ leBytes 4 (t.ag (FBP_POS.POS n)) ++ leBytes 4 (t.ag (FBP_SPEED.SPEED n)) ++ leBytes 4 (t.ag (FBA_POS.POS n))

/-- The gate timer and the compare pulse stop with LCMP (05 R168, 11 R446). -/
def Tail.lcmpOff (t : Tail) (n : Stn) : Tail :=
  (t.fbMap n (fun f => { f with gtStart := none, pulse := none })).p (LCMP_STAT.GT_RUN n) 0

/-- The function of switch `k` (11 R429); 3 acts as 0. -/
def Tail.swFunc (t : Tail) (n : Stn) (k : Fin 4) : Nat :=
  t.cf (match k with | 0 => FBA_SWCFG.FUNC0 n | 1 => FBA_SWCFG.FUNC1 n | 2 => FBA_SWCFG.FUNC2 n | 3 => FBA_SWCFG.FUNC3 n)

/-- A switch of function `f` of station `n` has level 1 (11 R429): a travel limit acts. -/
def Tail.travelLimit (t : Tail) (n : Stn) (f : Nat) : Bool :=
  t.enabled (stnPage n 2) && (List.finRange 4).any (fun k => t.swFunc n k = f && (t.g (FBA_STAT.SW n)).testBit k)

/-- The switch levels as FBA_STAT.SW shows them, after their polarity (11 R429). -/
def Tail.swShown (t : Tail) (n : Stn) : Nat :=
  let pol := t.cf (FBA_SWCFG.POL0 n) + 2 * t.cf (FBA_SWCFG.POL1 n) + 4 * t.cf (FBA_SWCFG.POL2 n) + 8 * t.cf (FBA_SWCFG.POL3 n)
  ((t.stnGet n).fb.sw ^^^ BitVec.ofNat 4 pol).toNat

/-- The commands that waited for the sample instant (11 R418, R428, R437, R447, R451). -/
def Tail.fbCommands (t : Tail) (n : Stn) : Tail :=
  let q := (t.stnGet n).fb.pend
  let t := t.fbMap n (fun f => { f with pend := FbPend.init, zArmed := f.zArmed || q.zsrc })
  let t := if q.sup then t.p (FBP_STAT.ENC_OC n) 0 else t
  let t := if q.latched then t.p (LCMP_STAT.LATCHED n) 0 else t
  let t := if q.preset then t.fbpPresetCmd n else t
  let t := if q.aux then t.fbaPresetCmd n else t
  let t := if q.arm then t.latchArm n else t
  if q.gtClr then t.gtClr n else t

/-- The writes to the station's registers since its last sample instant take effect (11 R453, 13 R497, 14 R527, R541, R550, 16 R590, 17
R651, 18 R666), those to PROF and EXTS unless its source has yet to come to a boundary (15 R583), with what follows from a new SSI mode
(R424), a new running point (R441), a disabled LCMP page and new polarities. -/
def Tail.takeLate (t : Tail) (n : Stn) : Tail :=
  let old := t
  let wait (a : Nat) : Bool := sourceReg a && (t.stnGet n).sq.st.isRunning
  let t := { t with late := t.late.filterMap (fun (e : Nat × Word) => if sampleReg e.1 != some n.val || wait e.1 then some e else t.lateNext e) }
  let t := if t.cf (FBP_CFG.MODE n) = 2 && old.cf (FBP_CFG.MODE n) != 2
    then t.fbMap n (fun f => { f with ssiField := none, ssiRun := 0, ssiGood := false }) else t
  let t := if old.late.any (fun e => e.1 = (LCMP_CMPVAL.VAL n).addr) then t.p (LCMP_STAT.CMP_DONE n) 0 else t
  let t := if t.enabled (stnPage n 3) then t else t.lcmpOff n
  let t := t.cmpOut n (t.stnGet n).fb.pulse.isSome
  let t := if t.enabled (stnPage n 2) then t.p (FBA_STAT.SW n) (t.swShown n) else t
  (t.fbCommands n).fbStatus n

/-- The feedback sample record of a sample instant, under a commit of its own (11 R434, R435, 06 R219), while a port is enabled
(05 R168). -/
def Tail.fbSampleRecord (t : Tail) (n : Stn) : Tail :=
  if !(t.enabled (stnPage n 1) || t.enabled (stnPage n 2)) then t
  else
    (t.commitOn (64 + 16 * n.val + 2) (fun t =>
      t.record .engine (64 + 16 * n.val + 2) 5 (t.b (FBP_STAT.POS_VALID n)) (t.fbSampleData n))).fbMap n
      (fun f => { f with illegal := false, ssiSkip := false })

end Sys2Proof.Machine
end

