-- ==== Sys2Proof/Machine/Sense.lean ====
section
/-! DEFINITION. Current sensing and sample validity (12): filter codes and scaling, validity, the records of a sample instant,
offset calibration and tracking, the fast analogue inputs. -/

namespace Sys2Proof.Machine

/-! ## Filter codes (12 section 2) -/

/-- ORD of an ISNS_CFG word (12 R460, R486): 0 and 1 act as 3. -/
def isnsOrd (cfg : Word) : Nat := if fdGet (ISNS_CFG.ORD 0) cfg = 2 then 2 else 3

/-- log2 of OSR (12 R460). -/
def isnsLog (cfg : Word) : Nat := 5 + fdGet (ISNS_CFG.OSR 0) cfg

/-- DSKEW (12 R459): 5 to 7 act as 4. -/
def isnsSkew (cfg : Word) : Nat := min 4 (fdGet (ISNS_CFG.DSKEW 0) cfg)

/-- The filter window of ORD * OSR periods of MCLK in ticks (12 R458, R460). -/
def isnsWindow (cfg : Word) : Nat := isnsOrd cfg * 2 ^ isnsLog cfg * 20

/-- The bits sampled from a data input, +1 or -1 (12 R459). -/
def sdBits (cfg : Word) (l : List (BitVec 5)) : List Int := l.map (fun b => if b.getLsbD (isnsSkew cfg) then 1 else -1)

/-- The running sums of `l` from `a` on. -/
def prefixSums : Int → List Int → List Int
  | _, [] => []
  | a, x :: l => (a + x) :: prefixSums (a + x) l

/-- The sums of the last `k` entries at each place of `l`; before its first entry there is nothing. -/
def boxcar (k : Nat) (l : List Int) : List Int :=
  let p := prefixSums 0 l
  List.zipWith (· - ·) p (List.replicate k 0 ++ p)

/-- The outputs of a sinc filter of order `ord` and length `k` at each bit (12 R460, R465). -/
def sinc : Nat → Nat → List Int → List Int
  | 0, _, l => l
  | ord + 1, k, l => boxcar k (sinc ord k l)

/-- *raw* of the main filter: the filtered sum of the last ORD * OSR bits (12 R460, R461). -/
def isnsRaw (cfg : Word) (l : List (BitVec 5)) : Int :=
  let w := isnsOrd cfg * 2 ^ isnsLog cfg
  (sinc (isnsOrd cfg) (2 ^ isnsLog cfg) (sdBits cfg (l.drop (l.length - w)))).getLastD 0

/-- The code D of the sum `raw` of a filter whose taps sum to 2 ^ `k` (12 R462). -/
def sdCode (k : Nat) (raw : Int) : Int := satS 24 (if k ≤ 23 then raw * 2 ^ (23 - k) else roundDiv raw (2 ^ (k - 23)))

/-- The code D of a main filter sum (12 R462). -/
def isnsD (cfg : Word) (raw : Int) : Int := sdCode (isnsOrd cfg * isnsLog cfg) raw

/-- log2 of POSR (12 R465, R486): 3 acts as 2. -/
def isnsPlog (cfg : Word) : Nat := 3 + min 2 (fdGet (ISNS_CFG.POSR 0) cfg)

/-- The per-unit value of channel `k` with code `d` (12 R463). -/
def Tail.isnsValue (t : Tail) (n k : Nat) (d : Int) : Int :=
  satS 16 (roundDiv ((d - t.cfi (ISNS_OFS.OFS n k)) * (t.cf (ISNS_GAIN.GAIN n k) : Int)) (2 ^ 21))

/-- `t` with the configuration field `f` written by its block. -/
def Tail.pCfg (t : Tail) (f : Fd) (x : Int) : Tail :=
  let t := t.pi f x
  { t with held := smDel t.held f.addr, xfer := smDel t.xfer f.addr }

/-! ## Offset calibration (12 section 6) -/

/-- The phase channels enabled in an ISNS_CFG word. -/
def isnsPhases (cfg : Word) : List (Fin 3) := (List.finRange 3).filter (fun k => (fdGet (ISNS_CFG.CH_EN 0) cfg).testBit k.val)

/-- A calibration fails (12 R480, R482): the previous offsets stay. -/
def Tail.calFailed (t : Tail) (n : Stn) : Tail :=
  let why := (t.stnGet n).isns.cal
  let t := ((t.isnsMap n (fun i => { i with cal := .none, calT := none })).p (ISNS_STAT.CAL_STATE n) 3).evt (stnPage n 4) 1
  if why = .recal then t.pb (PG_STAT.WARN (stnPage n 4)) true else t.isnsMap n (fun i => { i with calFail := true })

/-- One delivered sample of a calibration in progress (12 R479, R480): codes `d`, and whether every enabled phase is valid. -/
def Tail.calSample (t : Tail) (n : Stn) (d : Vector Int 4) (ok : Bool) : Tail :=
  let i := (t.stnGet n).isns
  if i.cal = .none || i.cal = .settle || 256 ≤ i.n then t
  else if ok then
    t.isnsMap n (fun i => { i with sum := Vector.ofFn (fun k => i.sum[k] + d[k.val]), n := i.n + 1 })
  else if i.n = 0 then t
  else if i.restarts = 3 then (t.isnsMap n (fun i => { i with restarts := 4 })).calFailed n
  else t.isnsMap n (fun i => { i with sum := Vector.replicate 3 0, n := 0, restarts := i.restarts + 1 })

/-- The sources that assert in a state in which they are not armed latch when a state arms them (18 R653). -/
def Tail.rearm (t : Tail) (n : Stn) : Tail :=
  (List.range 15).foldl (fun t k =>
    if (t.g (PROT_ACT.ACT n)).testBit k && !(t.g (PROT_LATCH.LATCH n)).testBit k && t.armedSrc n k
      then (t.p (PROT_ACT.ACT n) (setBit (t.g (PROT_ACT.ACT n)) k false)).assertSource n k else t) t

/-- The average of a calibration is complete (12 R479, R480): the offsets, or a failure; the station that waited enters READY. -/
def Tail.calDone (t : Tail) (n : Stn) : Tail :=
  let i := (t.stnGet n).isns
  let ph := isnsPhases i.cfg
  let ofs (k : Fin 3) : Int := roundDiv i.sum[k] 256
  let lim : Int := t.cf (ISNS_CALCFG.CALLIM n) * 16
  if ph.any (fun k => lim < (ofs k).natAbs) then t.calFailed n
  else
    let t := t.commit (fun t =>
      (ph.foldl (fun t k => t.pCfg (ISNS_OFS.OFS n k.val) (ofs k)) t).evt (stnPage n 4) 0)
    let t := t.isnsMap n (fun i =>
      { i with
        cal := .none, calT := none, calFail := false, trkStop := 0
        calOfs := Vector.ofFn (fun k => if ph.contains k then ofs k else i.calOfs[k]) })
    let t := ((t.p (ISNS_STAT.CAL_STATE n) 2).p (ISNS_STAT.TRK_LIMIT n) 0).pb (PG_STAT.WARN (stnPage n 4)) false
    if (t.stnGet n).sq.st = .disabled && t.b (PG_CTRL.ENABLE (stnPage n 0)) && t.block7 n = 0 then (t.setSt n .ready).rearm n else t

/-- CALIBRATION_DONE (12 R479, R480): 256 valid samples have been averaged; with no phase channel enabled at once. -/
def execCalibrationDone (n : Stn) (s : State) : Host.Outcome State Fault Refusal :=
  tailNext s (fun t =>
    let i := (t.stnGet n).isns
    if i.cal = .none || i.cal = .settle || (i.n < 256 && isnsPhases i.cfg != []) then t else (t.calDone n).finish)

/-- The states in which ISNS_CMD.CAL is accepted (12 R481). -/
def Tail.calMay (t : Tail) (n : Stn) : Bool := (t.stnGet n).sq.st = .disabled || (t.stnGet n).sq.st = .ready

/-- ISNS_CMD.CAL (12 R481): a calibration starts and BLOCK[6] clears. -/
def Tail.calCmd (t : Tail) (n : Stn) : Tail := (t.isnsMap n (fun i => { i with calFail := false })).calBegin n .command

/-- CAL (12 R481): in every state but DISABLED and READY it changes nothing. -/
def execCal (n : Stn) (s : State) : Host.Outcome State Fault Refusal :=
  tailNext s (fun t => if t.fitted n && t.on 7 && t.calMay n then (t.calCmd n).finish else t)

/-- RECAL_SETTLE_END (12 R482): SETTLE ms after the entry to READY the recalibration begins. -/
def execRecalSettleEnd (n : Stn) (s : State) : Host.Outcome State Fault Refusal :=
  tailNext s (fun t =>
    match (t.stnGet n).isns.cal, (t.stnGet n).isns.calT with
    | .settle, some d => (t.elapseTo d).calBegin n .recal
    | _, _ => t)

/-! ## Offset tracking (12 R483, R484) -/

/-- Tracking takes place: lower-leg sensors, TRK_EN, a 2-level modulator. -/
def Tail.trkOn (t : Tail) (n : Stn) : Bool :=
  let c := (t.stnGet n).isns.cfg
  t.enabled (stnPage n 4) && fdGet (ISNS_CFG.LOC 0) c = 1 && fdGet (ISNS_CFG.TRK_EN 0) c = 1 && !t.cfb (MOD_CFG.TOPO n)

/-- The tracking update of phase channel `k` with code `d` (12 R483, R484). -/
def Tail.trkUpdate (t : Tail) (n : Stn) (k : Fin 3) (d : Int) : Tail :=
  let i := (t.stnGet n).isns
  let o := t.cfi (ISNS_OFS.OFS n k.val)
  let o2 := o + roundDiv (d - o) (2 ^ clampN 4 12 (t.cf (ISNS_CALCFG.TRK_SHIFT n)))
  if i.trkStop.getLsbD k.val then t
  else if t.cf (ISNS_TRKLIM.TRKLIM n) * 16 < (o2 - i.calOfs[k]).natAbs then
    ((t.isnsMap n (fun i => { i with trkStop := i.trkStop ||| ((1 : BitVec 3) <<< k.val) })).p (ISNS_STAT.TRK_LIMIT n) 1).evt
      (stnPage n 4) 4
  else t.pCfg (ISNS_OFS.OFS n k.val) o2

/-- The levels of the data input of channel `k`. -/
def sampleChan (r : SampleIn) (k : Fin 4) : List (BitVec 5) := match k with | 0 => r.a | 1 => r.b | 2 => r.c | 3 => r.dc

/-- Whether bits taken from a data input show both levels. -/
def toggles (l : List Int) : Bool := l.contains 1 && l.contains (-1)

/-- A data input shows one level for its last 256 bits (12 R472). -/
def stuckNow (l : List Int) : Bool := decide (256 ≤ l.length) && !toggles (l.drop (l.length - 256))

/-- TRACKING_SAMPLE (12 R483): the bits up to the centre of a zero-vector interval that covers the filter window. -/
def execTrackingSample (n : Stn) (raw : SampleIn) (s : State) : Host.Outcome State Fault Refusal :=
  tailNext s (fun t =>
    if !(t.fitted n && t.on 7 && t.trkOn n && t.gatesOn n) then t
    else
      let cfg := (t.stnGet n).isns.cfg
      let t := (isnsPhases cfg).foldl (fun t k =>
        let c : Fin 4 := ⟨k.val, by omega⟩
        if toggles (sdBits cfg (sampleChan raw c)) then t.trkUpdate n k (isnsD cfg (isnsRaw cfg (sampleChan raw c))) else t) t
      ((t.p (ISNS_STAT.TRK_ACT n) 1).isnsMap n (fun i => { i with trkTaken := true })).finish)

/-! ## Validity (12 section 5) -/

/-- MCLK of station `n` starts (12 R472): the span before the first valid sample; the configuration in effect is the present one. -/
def Tail.isnsStart (t : Tail) (n : Stn) : Tail :=
  let cfg := t.inEff (ISNS_CFG.CH_EN n).addr
  t.isnsMap n (fun i => { i with cfg := cfg, validAt := Vector.replicate 4 (t.now + isnsWindow cfg + 64 * 20) })

/-- The data input of channel `ch` is stuck (12 R472, R478). -/
def Tail.sdStuck (t : Tail) (n : Stn) (ch : Fin 4) : Tail :=
  let m := t.g (ISNS_STAT.STUCK n)
  if m.testBit ch then t
  else ((t.p (ISNS_STAT.STUCK n) (setBit m ch true)).inc (ISNS_CNT.STUCK n)).evt (stnPage n 4) 2

/-- SD_STUCK (12 R472, R478): a data input has kept one level for 256 bits. -/
def execSdStuck (n : Stn) (ch : Fin 4) (s : State) : Host.Outcome State Fault Refusal :=
  tailNext s (fun t => if t.fitted n && t.on 7 && t.enabled (stnPage n 4) then (t.sdStuck n ch).finish else t)

/-- The data inputs as the bits up to an instant show them (12 R472): one level for 256 bits is stuck; a stuck input that toggles again is
valid once a whole window has passed. -/
def Tail.stuckWatch (t : Tail) (n : Stn) (raw : SampleIn) : Tail :=
  (List.finRange 4).foldl (fun t (k : Fin 4) =>
    let cfg := (t.stnGet n).isns.cfg
    let bits := sdBits cfg (sampleChan raw k)
    let m := t.g (ISNS_STAT.STUCK n)
    if stuckNow bits then t.sdStuck n k
    else if m.testBit k.val && toggles bits then
      (t.p (ISNS_STAT.STUCK n) (setBit m k.val false)).isnsMap n (fun i =>
        { i with validAt := i.validAt.set k (t.now + isnsWindow i.cfg) })
    else t) t

/-! ## The protection filters (12 R465, R467, 18 R653 to R655) -/

/-- The outputs of channel `k`'s protection filter at the MCLK edges since the last sample instant whose window the bits cover and at which
the comparators are not blanked, oldest first. -/
def Tail.protOuts (t : Tail) (n : Stn) (raw : SampleIn) (k : Fin 4) : List Int :=
  let i := (t.stnGet n).isns
  let l := isnsPlog i.cfg
  let w := 2 * 2 ^ l
  let bits := sdBits i.cfg (sampleChan raw k)
  let edges := min ((t.now - max i.blankT (t.stnGet n).modu.sampleAt) / 20) (bits.length + 1 - w)
  let outs := sinc 2 (2 ^ l) (bits.drop (bits.length + 1 - w - edges))
  (outs.drop (outs.length - edges)).map (fun r => t.isnsValue n k.val (sdCode (2 * l) r))

/-- The MCLK periods in a row with a ground fault after the sums `l`, and whether GF_N of them were reached (18 R653). -/
def gfRuns (igf gfn : Nat) (l : List Int) (run : Nat) : Nat × Bool :=
  l.foldl (fun a x => let r := if igf ≤ x.natAbs then a.1 + 1 else 0; (r, a.2 || decide (gfn ≤ r))) (run, false)

/-- Station `n` belongs to a group that is LOST (10 R393). -/
def Tail.groupLost (t : Tail) (n : Stn) : Bool :=
  (List.finRange 2).any (fun g => t.inGroup g.val n.val && t.grp[g].st = .failed && t.g (PCHG_GSTAT.CAUSE g.val) = 7)

/-- The OC comparators of the phases `ks` with the outputs `o` (18 R653). -/
def Tail.cmpOc (t : Tail) (n : Stn) (ks : List (Fin 3)) (o : Fin 3 → List Int) : Tail :=
  let p := (t.stnGet n).isns.prot
  let ioc := t.cf (PROT_IOC.IOC n)
  if ks.any (fun k => (o k).any (fun x => ioc ≤ x.natAbs)) then t.assertSource n 3
  else if ks.all (fun k => p[k.val].natAbs < ioc) then t.dropSource n 3 else t

/-- The DC-link comparators with the outputs `o` (18 R653, 10 R393). -/
def Tail.cmpOv (t : Tail) (n : Stn) (o : List Int) : Tail :=
  let p := (t.stnGet n).isns.prot
  let ov := t.cfi (PROT_VDC.OV n)
  if o.any (fun x => ov ≤ x) then t.assertSource n 4 else if p[3] < ov then t.dropSource n 4 else t

def Tail.cmpUv (t : Tail) (n : Stn) (o : List Int) : Tail :=
  let p := (t.stnGet n).isns.prot
  let uv := t.cfi (PROT_VDC.UV n)
  if o.any (fun x => x ≤ uv) then t.assertSource n 5 else if uv < p[3] && !t.groupLost n then t.dropSource n 5 else t

/-- The ground-fault comparator with the sums `o` (18 R653, R655). -/
def Tail.cmpGf (t : Tail) (n : Stn) (o : List Int) : Tail :=
  let p := (t.stnGet n).isns.prot
  let gf := gfRuns (t.cf (PROT_GF.IGF n)) (max 1 (t.cf (PROT_GF.GF_N n))) o (t.stnGet n).isns.gfRun
  let t := t.isnsMap n (fun i => { i with gfRun := gf.1 })
  if gf.2 then t.assertSource n 7
  else if (p[0] + p[1] + p[2]).natAbs < t.cf (PROT_GF.IGF n) then t.dropSource n 7 else t

/-- The comparators on the protection filters' outputs (18 R653 to R655): OC, OV, UV and GF assert where an output reached its threshold,
and no longer where the last one lies within it. Without an output nothing changes, and an input that a diagnostic step substitutes is
not evaluated (19 R699). -/
def Tail.protSense (t : Tail) (n : Stn) (raw : SampleIn) : Tail :=
  let outs := (List.finRange 4).map (t.protOuts n raw)
  let ph (k : Fin 3) : List Int := outs.getD k.val []
  let dc := outs.getD 3 []
  let sub := t.diagSub n
  let t := t.isnsMap n (fun i => { i with prot := Vector.ofFn (fun k => (outs.getD k.val []).getLastD i.prot[k]) })
  let t := t.cmpOc n ((List.finRange 3).filter (fun k => sub != some (6 + 2 * k.val) && sub != some (7 + 2 * k.val))) ph
  let t := if sub = some 12 then t else t.cmpOv n dc
  let t := if sub = some 13 then t else t.cmpUv n dc
  if sub = some 14 then t.isnsMap n (fun i => { i with gfRun := 0 })
  else t.cmpGf n (List.zipWith (· + ·) (ph 0) (List.zipWith (· + ·) (ph 1) (ph 2)))

/-- The ISNS_CFG written since takes effect after the sample of this instant (12 R472, R473); a new POSR blanks the comparators (R467). -/
def Tail.isnsTakeOver (t : Tail) (n : Stn) : Tail :=
  let old := (t.stnGet n).isns.cfg
  let new := t.inEff (ISNS_CFG.CH_EN n).addr
  if old = new then t
  else
    let span := isnsOrd old != isnsOrd new || isnsLog old != isnsLog new || isnsSkew old != isnsSkew new
    t.isnsMap n (fun i =>
      { i with
        cfg := new
        blankT := if isnsPlog old = isnsPlog new then i.blankT else t.now + 2 * 2 ^ isnsPlog new * 20
        validAt := if span then i.validAt.map (fun v => max v (t.now + isnsWindow new)) else i.validAt })

/-! ## The fast analogue inputs (12 section 4) -/

/-- Input `k` converts (12 R468). -/
def Tail.ainOn (t : Tail) (k : Nat) : Bool := t.on 7 && t.enabled 0x33 && t.cfb (AIN_CFG.EN k)

/-- The number of conversions of an output is 2 ^ this (12 R469, R487). -/
def Tail.ainAvg (t : Tail) (k : Nat) : Nat := min 6 (t.cf (AIN_CFG.AVG k))

/-- Input `k` as it starts (12 R472). -/
def Tail.ainFresh (t : Tail) (k : Nat) : Ain := ⟨true, t.cf (AIN_CFG.GAIN k), t.ainAvg k, 0, 0, false, 2, 0⟩

/-- Inputs that no longer convert are stopped (12 R472): they start anew when enabled again. -/
def Tail.ainStop (t : Tail) : Tail :=
  (List.finRange 8).foldl (fun t (k : Fin 8) =>
    if t.ain[k].on && !t.ainOn k.val then
      { t.p AIN_STAT.VALID (setBit (t.g AIN_STAT.VALID) k.val false) with ain := t.ain.set k { t.ain[k] with on := false } }
    else t) t

/-- A completed output of input `k` (12 R469, R472). -/
def Tail.ainOutput (t : Tail) (k : Nat) (v : Int) (valid : Bool) : Tail :=
  let t := (t.pi (AIN_VAL.VALUE k) v).p AIN_STAT.VALID (setBit (t.g AIN_STAT.VALID) k valid)
  if valid then t else t.inc AIN_CNT.INVALID

/-- AIN_CONVERSION (12 R468 to R472): input `k` converts to the 16-bit code `code`; the configuration written since takes effect
at the next conversion. -/
def execAinConversion (k : Fin 8) (code : Int) (s : State) : Host.Outcome State Fault Refusal :=
  tailNext s (fun t =>
    if !t.ainOn k.val then t
    else
      let a := if t.ain[k].on then t.ain[k] else t.ainFresh k.val
      let c := satS 16 code
      let a := { a with sum := a.sum + c * 2 ^ (16 - a.gain), n := a.n + 1, bad := a.bad || a.badConv != 0, badConv := a.badConv - 1 }
      let t := if c = -32768 || c = 32767
        then (t.p AIN_STAT.OVR (setBit (t.g AIN_STAT.OVR) k.val true)).evt 0x33 k.val else t
      let done := 2 ^ a.avg ≤ a.n
      let t := if done then t.ainOutput k.val (satS 32 (roundDiv a.sum (2 ^ a.avg))) (!a.bad && a.badOut = 0) else t
      let a := if done then { a with sum := 0, n := 0, bad := false, badOut := a.badOut - 1 } else a
      let a := if a.gain = t.cf (AIN_CFG.GAIN k.val) then a else { a with gain := t.cf (AIN_CFG.GAIN k.val), badConv := 2 }
      let a := if a.avg = t.ainAvg k.val then a
        else { a with avg := t.ainAvg k.val, sum := 0, n := 0, bad := false, badOut := 2 ^ t.ainAvg k.val }
      ({ t with ain := t.ain.set k a }).finish)

/-- The inputs delivered to station `n` (12 R470). -/
def Tail.ainFor (t : Tail) (n : Nat) : List (Fin 8) :=
  (List.finRange 8).filter (fun k => t.ainOn k.val && t.cf (AIN_CFG.STN k.val) = n)

/-! ## A sample instant (12 R461 to R464, R474 to R477) -/

/-- What the sensing of a station delivers at one sample instant: codes, values of IA, IB, IC and the DC link with their
validity, whether phase C is calculated; the inputs delivered with their validity; whether every enabled phase channel, and
whether the DC link and every delivered input, is valid. -/
structure Sensed where
  d : Vector Int 4
  v : Vector Int 4
  ok : BitVec 4
  calcC : Bool
  ins : List (Fin 8)
  ainMask : Nat
  ainOk : Nat
  phOk : Bool
  inOk : Bool
  deriving DecidableEq, Repr

/-- The samples of station `n` from the bits `raw` (12 R461 to R464, R470, R472). -/
def Tail.sensed (t : Tail) (n : Stn) (raw : SampleIn) : Sensed :=
  let i := (t.stnGet n).isns
  let chEn := fdGet (ISNS_CFG.CH_EN 0) i.cfg
  let stuck := t.g (ISNS_STAT.STUCK n)
  let d : Vector Int 4 := Vector.ofFn (fun k => isnsD i.cfg (isnsRaw i.cfg (sampleChan raw k)))
  let ok (k : Fin 4) : Bool := chEn.testBit k.val && !stuck.testBit k.val && i.validAt[k] ≤ t.now
  let ia := t.isnsValue n 0 d[0]
  let ib := t.isnsValue n 1 d[1]
  let calcC := !chEn.testBit 2
  let ic := if calcC then satS 16 (-ia - ib) else t.isnsValue n 2 d[2]
  let okC := if calcC then ok 0 && ok 1 else ok 2
  let ins := t.ainFor n
  let mask := (ins.map (fun k => 2 ^ k.val)).sum
  let aok := t.g AIN_STAT.VALID &&& mask
  { d := d, v := Vector.ofFn (fun k => match k with | 0 => ia | 1 => ib | 2 => ic | 3 => t.isnsValue n 3 d[3])
    ok := BitVec.ofNat 4 (b2n (ok 0) + 2 * b2n (ok 1) + 4 * b2n okC + 8 * b2n (ok 3)), calcC := calcC
    ins := ins, ainMask := mask, ainOk := aok
    phOk := (isnsPhases i.cfg).all (fun k => ok ⟨k.val, by omega⟩), inOk := (!chEn.testBit 3 || ok 3) && aok = mask }

/-- The sample-in record (12 R474), under a commit of its own. -/
def Tail.sampleInRecord (t : Tail) (n : Stn) (x : Sensed) : Tail :=
  t.commitOn (64 + 16 * n.val) (fun t => t.record .engine (64 + 16 * n.val) 5 x.inOk
    ([0x11, BitVec.ofNat 8 (b2n (x.ok.getLsbD 3)), BitVec.ofNat 8 x.ainMask, BitVec.ofNat 8 x.ainOk] ++ leBytes 2 (enc 16 x.v[3])
      ++ [0, 0] ++ x.ins.flatMap (fun k => leBytes 4 (t.g (AIN_VAL.VALUE k.val)))))

/-- The current-sample record (12 R474), under a commit of its own; `trk` says that a tracking sample was taken. -/
def Tail.currentRecord (t : Tail) (n : Stn) (x : Sensed) (trk : Bool) : Tail :=
  t.commitOn (64 + 16 * n.val + 1) (fun t => t.record .engine (64 + 16 * n.val + 1) 5 x.phOk
    ([0x10, BitVec.ofNat 8 ((x.ok &&& 7).toNat + 8 * b2n x.calcC + 16 * b2n trk), 0, 0]
      ++ leBytes 2 (enc 16 x.v[0]) ++ leBytes 2 (enc 16 x.v[1]) ++ leBytes 2 (enc 16 x.v[2]) ++ [0, 0]))

/-- The run of invalid samples, and SAMPLE_INVALID (12 R476, R477). -/
def Tail.invalidRun (t : Tail) (n : Stn) (ok : Bool) : Tail :=
  let run := if ok then 0 else satInc 8 (t.g (ISNS_INV.RUN n))
  let t := (t.p (ISNS_INV.RUN n) run).p (ISNS_INV.RUN_MAX n) (max run (t.g (ISNS_INV.RUN_MAX n)))
  let bad := decide (max 1 (t.cf (ISNS_INV.INVALID_MAX n)) < run)
  (if bad then t.evt (stnPage n 4) 3 else t).setSource n 12 bad

/-- The samples of station `n` delivered at a sample instant: kept for the CE, calibration, records, the run of invalid samples,
and the configuration written since (12 R461 to R464, R473 to R477). -/
def Tail.senseSample (t : Tail) (n : Stn) (raw : SampleIn) : Tail :=
  if !t.enabled (stnPage n 4) then t.isnsMap n (fun i => { i with ok := 0, ainOk := 0 })
  else
    let t := (t.stuckWatch n raw).protSense n raw
    let x := t.sensed n raw
    let trk := (t.stnGet n).isns.trkTaken
    let t := t.isnsMap n (fun i =>
      { i with
        code := x.d
        ok := x.ok
        last := Vector.ofFn (fun k => if x.ok.getLsbD k.val then x.v[k] else i.last[k])
        ain := Vector.ofFn (fun k => if x.ainOk.testBit k.val then t.gi (AIN_VAL.VALUE k.val) else i.ain[k])
        ainOk := BitVec.ofNat 8 x.ainOk
        trkTaken := false })
    let t := t.p (ISNS_STAT.VALID n) x.ok.toNat
    let t := if t.trkOn n then t else t.p (ISNS_STAT.TRK_ACT n) 0
    let t := ((t.calSample n x.d x.phOk).sampleInRecord n x).currentRecord n x trk
    let t := t.incBy (ISNS_CNT.INVALID n) (b2n (!x.inOk) + b2n (!x.phOk))
    (t.invalidRun n (x.inOk && x.phOk)).isnsTakeOver n

end Sys2Proof.Machine
end

