-- ==== Sys2Proof/Machine/Precharge.lean ====
section
/-! DEFINITION. Dwell insertion (21 section 5), the pre-charge groups (10 section 6) and the digital inputs and outputs of connector D1
(10 section 7). -/

namespace Sys2Proof.Machine

/-! ## Dwell insertion (21 R748, R749) -/

/-- HIGH_WARN is set in a group of station `n`; INT is a group of every station (21 R730). -/
def Tail.highWarn (t : Tail) (n : Stn) : Bool := (t.stnGet n).thm.toList.any (·.highWarn)

/-- HIGH_WARN is set in INT. -/
def Tail.highWarnInt (t : Tail) : Bool := t.stn[0].thm[0].highWarn

/-- The excess of a group maximum over HIGH_WARN in 0.1 degrees (21 R749). -/
def thmExcess (t : Tail) (s : Station) (g : Fin 5) : Nat :=
  match s.thm[g].max with
  | some m => (m - t.gi (THM_GHI.HIGH_WARN g.val)).toNat
  | none => 0

/-- The dwell in ms for an excess of `d` tenths (21 R749). -/
def Tail.dwellFor (t : Tail) (d : Nat) : Nat :=
  min 10000 (roundDiv ((t.g THD_DWELL.DWELL_BASE * (2560 + t.g THD_DWELL.DWELL_K * d) : Nat) : Int) 2560).toNat

/-- The dwell before an operation on stations `ns` (21 R748): none while no HIGH_WARN of its groups is set, or with base 0. -/
def Tail.dwellStns (t : Tail) (ns : List Stn) : Option Nat :=
  if (t.highWarnInt || ns.any t.highWarn) && t.b THD_DWELL.DWELL_BASE then
    let xs := thmExcess t t.stn[0] 0 :: ns.flatMap (fun n => (List.finRange 5).map (thmExcess t (t.stnGet n)))
    some (t.dwellFor (xs.foldl max 0))
  else none

/-- A dwell of `ms` begins (21 R760). -/
def Tail.dwellBegin (t : Tail) (ms : Nat) : Tail := ((t.p THD_DWSTAT.LAST ms).inc THD_CNT.DWELLS).evt 0x35 3

/-! ## Groups -/

/-- The code of a group state (10 R406). -/
def GrpSt.code : GrpSt → Nat
  | .idle => 0 | .closeK1 => 1 | .ramp => 2 | .closeK2 => 3 | .openK1 => 4 | .charged => 5 | .discharging => 6 | .failed => 7
  | .aborted => 8 | .waitRetry => 9

def Tail.grpMap (t : Tail) (g : Fin 2) (f : Grp → Grp) : Tail := { t with grp := t.grp.set g (f t.grp[g]) }

/-- The stations of group `g`. -/
def Tail.grpStns (t : Tail) (g : Fin 2) : List Stn := t.stns.filter (fun n => t.inGroup g.val n.val)

/-- K1 of group `g` (false), or K2 (true): the function code of its output. -/
def kFunc (g : Fin 2) (k2 : Bool) : Nat := 1 + 3 * g.val + b2n k2

/-- The group fails (10 R389): with retries left it waits for the next try. -/
def Tail.grpFails (t : Tail) (g : Fin 2) (cause : Nat) : Tail :=
  let t := t.grpFail g cause
  let r := t.grp[g].retries
  if r = 0 then t
  else t.grpMap g (fun x =>
    { x with st := .waitRetry, retries := r - 1, wait := t.after (t.g (PCHG_GTIME.RETRY_WAIT g.val) * s1), dwell := false })

/-- A CHARGED group is lost (10 R393): its stations take the undervoltage reaction (18 R653). -/
def Tail.grpLost (t : Tail) (g : Fin 2) : Tail := (t.grpStns g).foldl (fun t n => t.assertSource n 5) (t.grpFail g 7)

/-- AUX_FAIL of the output with function `f` (10 R397). -/
def Tail.auxLatch (t : Tail) (f : Nat) : Tail := match t.outFor f with | some k => t.evt 0x22 k | none => t

/-- The steps of a sequence that wait for an auxiliary contact go on as far as the contacts allow (10 R387, R397). -/
def Tail.grpAuxStep (t : Tail) (g : Fin 2) : Tail :=
  match t.grp[g].st with
  | .closeK1 => if t.auxOk (kFunc g false) then t.grpMap g (fun x => { x with st := .ramp, rampAt := t.now }) else t
  | .closeK2 => if t.auxOk (kFunc g true) then t.grpMap g (fun x => { x with st := .openK1 }) else t
  | .openK1 => if t.auxOk (kFunc g false) then (t.grpMap g (fun x => { x with st := .charged })).evt 0x21 (2 + g.val) else t
  | .charged => if t.g (PCHG_GCFG.MODE g.val) = 1 && !t.auxOk (kFunc g true) then (t.auxLatch (kFunc g true)).grpLost g else t
  | _ => t

/-- As many steps as one change can set off. -/
def Tail.grpAux (t : Tail) (g : Fin 2) : Tail := ((t.grpAuxStep g).grpAuxStep g).grpAuxStep g

/-- The K2 auxiliary input of an external group confirms closed (10 R390); without a check the link voltage decides alone. -/
def Tail.extClosed (t : Tail) (g : Fin 2) : Bool :=
  match t.outFor (kFunc g true) with
  | none => true
  | some k =>
    if t.b (DIO_OCFG.AUX_EN k) then t.dio.di.getLsbD (t.g (DIO_OCFG.AUX_IN k)) != t.b (DIO_OCFG.AUX_POL k) else true

/-- The state of an external group (10 R390); a CHARGED one whose contact opens or whose voltage falls below VSAFE is lost (10 R393), and
stays FAILED until it is CHARGED again. -/
def Tail.grpExt (t : Tail) (g : Fin 2) : Tail :=
  if t.g (PCHG_GCFG.MODE g.val) != 2 || !t.b (PG_CTRL.ENABLE 0x21) then t
  else
    let on := t.g (PCHG_GTHR.VDONE g.val) * 100 ≤ t.grp[g].v && t.extClosed g
    let was := t.grp[g].st = .charged
    let lost := was && (!t.extClosed g || t.grp[g].v < t.g (PCHG_GTHR.VSAFE g.val) * 100)
    let go (st : GrpSt) : Tail := t.grpMap g (fun x => { x with st := st, wait := none, dwell := false })
    if on then (if was then t else (go .charged).evt 0x21 (2 + g.val))
    else if lost then t.grpLost g
    else if t.grp[g].st = .failed then t else go .idle

/-- A group whose mode changed is idle with its outputs off (10 R386, R406). -/
def Tail.grpReset (t : Tail) (g : Fin 2) : Tail :=
  (t.grpMap g (fun x => { x with st := .idle, wait := none, dwell := false, retries := 0 })).grpExt g

/-- Both groups after a change of an input. -/
def Tail.grpInputs (t : Tail) : Tail := (List.finRange 2).foldl (fun t (g : Fin 2) => (t.grpExt g).grpAux g) t

/-- The sequence of group `g` begins with K1 and the discharge contactor on (10 R387). -/
def Tail.grpClose (t : Tail) (g : Fin 2) : Tail := (t.grpMap g (fun x => { x with st := .closeK1, wait := none, dwell := false })).grpAux g

/-- The sequence of group `g` begins, after a dwell where one is due (21 R748); during it the group keeps its state. -/
def Tail.grpBegin (t : Tail) (g : Fin 2) : Tail :=
  match t.dwellStns (t.grpStns g) with
  | some ms =>
    (t.dwellBegin ms).grpMap g (fun x => { x with wait := t.after (ms * ms1), dwell := true })
  | none => t.grpClose g

/-- PCHG_CMD.CHARGE of group `g` (10 R387, R389): in IDLE, FAILED or ABORTED, with the internal mode in power state Run. -/
def Tail.charge1 (t : Tail) (g : Fin 2) : Tail :=
  let x := t.grp[g]
  if t.b (PG_CTRL.ENABLE 0x21) && t.g (PCHG_GCFG.MODE g.val) = 1 && t.inRun && !x.dwell && (x.st = .idle || x.st = .failed || x.st = .aborted)
    then (t.grpMap g (fun x => { x with retries := t.g (PCHG_GCFG.RETRIES g.val) })).grpBegin g else t

/-- PCHG_CMD.DISCHARGE of group `g`, in every mode (10 R391, R400, 21 R751); the state of an external group is that of R390 again at once
(DEDUCED, log entry 72). -/
def Tail.discharge1 (t : Tail) (g : Fin 2) : Tail :=
  if !t.b (PG_CTRL.ENABLE 0x21) then t
  else if (t.grpStns g).any (fun n => (t.stnGet n).sq.st.isRunning) then t.evt 0x21 4
  else
    let t := if t.grp[g].st = .waitRetry then t.inc SEQ_BG.PREEMPT else t
    (t.grpMap g (fun x => { x with st := .discharging, wait := none, dwell := false })).grpExt g

/-- The loss of the host link with group `g` in its first steps (10 R392, 22 R783); `ecl` where the unit enters ECLIPSE. -/
def Tail.grpLinkLoss (t : Tail) (g : Fin 2) (ecl : Bool) : Tail :=
  let s := t.grp[g].st
  if (s = .closeK1 || s = .ramp || (ecl && s = .waitRetry)) && !t.b (PCHG_GCFG.LINKLOSS g.val)
    then (t.grpMap g (fun x => { x with st := .aborted, wait := none, dwell := false })).p (PCHG_GSTAT.CAUSE g.val) 6
    else t

/-- The SQC runs and its pages answer: PD3 on, start-up complete. -/
def Tail.sqcUp (t : Tail) : Bool := t.on 3 && !(t.us = .boot || t.us = .off || t.us = .thermalShutdown)

/-- The groups named in a mask. -/
def maskGroups (m : BitVec 2) : List (Fin 2) := (List.finRange 2).filter (fun g => m.getLsbD g.val)

/-- CHARGE (10 R387). -/
def execCharge (mask : BitVec 2) (s : State) : Host.Outcome State Fault Refusal :=
  tailNext s (fun t => if t.sqcUp then ((maskGroups mask).foldl (fun t g => t.charge1 g) t).finish else t)

/-- DISCHARGE (10 R391). -/
def execDischarge (mask : BitVec 2) (s : State) : Host.Outcome State Fault Refusal :=
  tailNext s (fun t => if t.sqcUp then ((maskGroups mask).foldl (fun t g => t.discharge1 g) t).finish else t)

/-- The checks of a link voltage update (10 R387, R388, R391, R393). -/
def Tail.grpVoltage (t : Tail) (g : Fin 2) : Tail :=
  let x := t.grp[g]
  let mode := t.g (PCHG_GCFG.MODE g.val)
  let dv : Int := (x.v : Int) - x.vPrev
  if mode = 2 then t.grpExt g
  else match x.st with
    | .ramp =>
      if t.g (PCHG_GTHR.VDONE g.val) * 100 ≤ x.v then (t.grpMap g (fun x => { x with st := .closeK2 })).grpAux g
      else if t.now < x.rampAt + t.g (PCHG_GTIME.BLANK g.val) * ms1 then t
      else if dv < t.g (PCHG_GDVDT.DVDT_MIN g.val) then t.grpFails g 2
      else if t.g (PCHG_GDVDT.DVDT_MAX g.val) < dv then t.grpFails g 3
      else t
    | .charged => if x.v < t.g (PCHG_GTHR.VSAFE g.val) * 100 then t.grpLost g else t
    | .discharging => if x.v < t.g (PCHG_GTHR.VSAFE g.val) * 100 then t.grpMap g (fun x => { x with st := .idle }) else t
    | _ => t

/-- The DC-link voltage of station `n` in microvolts: its newest valid sample (12 R474). -/
def Tail.vlink (t : Tail) (n : Stn) : Int := roundDiv ((t.stnGet n).isns.last[3] * (t.g (STN_UBASE.VALUE n) : Int) * 1000000) 32767

/-- The link voltage of group `g` in 10 mV, of the station that VSRC names (10 section 6, R406); `v` where the unit has no such station.
DESIGN CHOICE (log entry 72). -/
def Tail.grpLink (t : Tail) (g : Fin 2) (v : Nat) : Nat :=
  let n := t.g (PCHG_GCFG.VSRC g.val)
  if t.fitted n then (roundDiv (t.vlink (Fin.ofNat 4 n)) 10000).toNat else v

/-- VLINK_UPDATE (10 R388, R406): the link voltage of group `g` is taken, 1 ms after the update before; GSTAT.VLINK shows whole volts,
rounded to the nearest. -/
def execVlinkUpdate (g : Fin 2) (v : Nat) (s : State) : Host.Outcome State Fault Refusal :=
  tailNext s (fun t =>
    if !t.sqcUp then t
    else
      let t := t.elapseTo (t.grp[g].vAt + ms1)
      let v := t.grpLink g v
      let t := t.grpMap g (fun x => { x with vPrev := x.v, v := v, vAt := t.now })
      ((t.p (PCHG_GSTAT.VLINK g.val) (min 0xFFFF ((v + 50) / 100))).grpVoltage g).finish)

/-- PCHG_TIMEOUT (10 R388): RAMP has lasted TMAX. -/
def execPchgTimeout (g : Fin 2) (s : State) : Host.Outcome State Fault Refusal :=
  tailNext s (fun t =>
    if t.grp[g].st = .ramp then ((t.elapseTo (t.grp[g].rampAt + t.g (PCHG_GTIME.TMAX g.val) * ms1)).grpFails g 4).finish else t)

/-- RETRY_WAIT_END (10 R389, 21 R748): the sequence is repeated, after a dwell where one is due. -/
def execRetryWaitEnd (g : Fin 2) (s : State) : Host.Outcome State Fault Refusal :=
  tailNext s (fun t =>
    let x := t.grp[g]
    match x.st, x.dwell, x.wait with
    | .waitRetry, false, some d => ((t.elapseTo d).grpBegin g).finish
    | _, _, _ => t)

/-! ## Digital inputs and outputs -/

/-- A changed digital input lets contactor and brake steps go on (10 R383, R385, R387, R393). -/
def Tail.inputsChanged (t : Tail) : Tail := t.stns.foldl (fun t n => t.brakeConfirm n) t.grpInputs

/-- DI_ACCEPT (10 R395, 22 R766): an input has held a new level for DEB. -/
def execDiAccept (k : DiIn) (level : Bool) (s : State) : Host.Outcome State Fault Refusal :=
  tailNext s (fun t =>
    if !t.pd 3 then t
    else match k with
      | .safe k =>
        let bit : BitVec 3 := (1 : BitVec 3) <<< k.val
        { t with dio := { t.dio with safe := if level then t.dio.safe ||| bit else t.dio.safe &&& ~~~bit } }
      | .leverSel => { t with dio := { t.dio with lever := level } }
      | .di k =>
        let bit : BitVec 8 := (1 : BitVec 8) <<< k.val
        ({ t with dio := { t.dio with di := if level then t.dio.di ||| bit else t.dio.di &&& ~~~bit } }).inputsChanged.finish)

/-- The reaction to an auxiliary contact that does not confirm output `k` (10 R384, R385, R388, R393, R397). -/
def Tail.auxReaction (t : Tail) (k : Nat) : Tail :=
  let f := t.g (DIO_OCFG.FUNC k)
  let grp (g : Fin 2) (k2 : Bool) : Tail :=
    let s := t.grp[g].st
    if t.g (PCHG_GCFG.MODE g.val) != 1 then t.grpExt g
    else if k2 then (if s = .closeK2 || s = .openK1 then t.grpFails g 5 else if s = .charged then t.grpLost g else t)
    else if s = .closeK1 || s = .ramp || s = .closeK2 || s = .openK1 then t.grpFails g 1 else t
  match f with
  | 1 => grp 0 false
  | 2 => grp 0 true
  | 4 => grp 1 false
  | 5 => grp 1 true
  | _ =>
    if h : 8 ≤ f ∧ f < 12 then
      let n : Stn := ⟨f - 8, by omega⟩
      let q := (t.stnGet n).sq
      if q.brake || q.step = .brakeClose || q.step = .tSet
        then (t.sqMap n (fun s => { s with brake := false })).enterFaulted n 2 else t
    else t

/-- AUX_FAIL (10 R397): the auxiliary input of output `k` does not stand at the commanded level within T_AUX. -/
def execAuxFail (k : Fin 8) (s : State) : Host.Outcome State Fault Refusal :=
  tailNext s (fun t =>
    let bad := t.b (DIO_OCFG.AUX_EN k.val) &&
      t.dio.di.getLsbD (t.g (DIO_OCFG.AUX_IN k.val)) != (t.doCmd k.val != t.b (DIO_OCFG.AUX_POL k.val))
    if t.sqcUp && t.b (PG_CTRL.ENABLE 0x22) && bad then ((t.evt 0x22 k.val).auxReaction k.val).finish else t)

/-- DO_OVERLOAD (10 R398): output `k` is overloaded or short-circuited and is latched off. -/
def execDoOverload (k : Fin 8) (s : State) : Host.Outcome State Fault Refusal :=
  tailNext s (fun t =>
    if t.doOn k.val
      then ((t.p DIO_OSTAT.OVL (setBit (t.g DIO_OSTAT.OVL) k.val true)).evt 0x22 (8 + k.val)).finish else t)

/-- DIO_SUPPLY_LOW (24 R827): DIO_24V falls below 15 V, or returns; the outputs are off meanwhile. -/
def execDioSupplyLow (low : Bool) (s : State) : Host.Outcome State Fault Refusal :=
  tailNext s (fun t => { t with dio := { t.dio with low := low } })

end Sys2Proof.Machine
end

