-- ==== Sys2Proof/Machine/Write.lean ====
section
/-! DEFINITION. The writes of one frame to one page (05): what was written, what the registers hold after it, and the statuses of
08 R291. -/

namespace Sys2Proof.Machine

/-! ## Status codes (08 R291) -/

def okSt : Nat := 0x00
def dupSt : Nat := 0x01
def seqConflict : Nat := 0x02
def hcrcErr : Nat := 0x03
def pcrcErr : Nat := 0x04
def lockedSt : Nat := 0x05
def badAddr : Nat := 0x06
def linkDown : Nat := 0x07
def fieldTimeout : Nat := 0x08
def busySt : Nat := 0x09
def badOp : Nat := 0x0A
def partialSt : Nat := 0x0B
def retrySt : Nat := 0x0C
def expiredSt : Nat := 0x0D

/-- The refusal that applies among several (05 R864): BAD_OP, BAD_ADDR, LOCKED, BUSY. -/
def refusal (l : List (Bool × Nat)) : Option Nat :=
  [badOp, badAddr, lockedSt, busySt].find? (fun st => l.any (fun e => e.1 && e.2 = st))

/-! ## The writes of a frame -/

/-- The register writes of one frame (05 R158, R162): the page, whether the management bus writes, which carries neither a session
(R177) nor WO fields (09 R340), and the addresses with the words written, ascending. -/
structure Wr where
  page : Nat
  mb : Bool
  words : List (Nat × Word)
  deriving DecidableEq, Repr

/-- The word written to register `a`, if the frame writes it. -/
def Wr.find (w : Wr) (a : Nat) : Option Word := (w.words.find? (fun e => e.1 = a)).map (·.2)

/-- The frame writes the register of field `f`. -/
def Wr.has (w : Wr) (f : Fd) : Bool := (w.find f.addr).isSome

/-- The value that the frame writes to the command field `f` (00 R11, R863): 0 where it does not write it, or may not. -/
def Wr.cmd (w : Wr) (f : Fd) : Nat :=
  if w.mb then 0 else match w.find f.addr with
    | some x => fdGet f x
    | none => 0

/-- The frame applies PGRST to its page (05 R169). -/
def Wr.srst (w : Wr) : Bool := match w.find (PG_CTRL.SRST w.page).addr with
  | some x => fdGet (PG_CTRL.SRST w.page) x = 1
  | none => false

/-- Register word `old` after a write of `x` (00 R11): RW and RWL fields take it, W1C bits clear. A frame that writes an RWL field under
lock is refused whole (05 R13, R864). -/
def writeWord (fs : List Fd) (old x : Word) : Word :=
  fs.foldl (fun v f =>
    match f.acc with
    | .rw | .rwl => fdPut f (fdGet f x) v
    | .w1c => v &&& ~~~(x &&& f.mask)
    | .w1s => v
    | .ro | .wo => v) old

/-- Field `f` ignores writes on unit `u`: without Orbit ports, ENABLE of ORB (00 R5), RING (16 R587) and EN of the Orbit streams; the
descriptors of streams that the variant lacks, and of streams 169 to 191 (06 R204; log entry 103). -/
def Fd.inert (u : UnitInfo) (f : Fd) : Bool :=
  (!u.orbit && (f = PG_CTRL.ENABLE 0x36 || (List.range 4).any (fun g => f = SHR_GCFG.RING g)
      || (0x18 = f.addr / 256 && (List.range 16).any (fun i => f = STRD_CFG.EN (128 + i)))))
    || (u.tw2 && (f.addr / 256 = 0x16 || f.addr / 256 = 0x17) && 0x20 ≤ f.addr % 256)
    || ((f.addr / 256 = 0x1A || f.addr / 256 = 0x1B) && (List.range 23).any (fun i => f = STRD_LVL.WATERMARK (169 + i)))

/-- The fields of register `a` that a write can change on unit `u`. -/
def wrFields (u : UnitInfo) (a : Nat) : List Fd := (regFields a).filter (fun f => !f.inert u)

/-- PGRST restores the field (05 R169). -/
def Fd.byPgrst (f : Fd) : Bool := f.rby = .trstPg || f.rby = .hrstPg || f.rby = .mbrstPg

/-- The word of register `a` after the page reset that the frame may carry. -/
def Tail.baseWord (t : Tail) (w : Wr) (a : Nat) : Word :=
  if w.srst then (regFields a).foldl (fun v f => if f.byPgrst then fdPut f (fdGet f (regDefault t.u a)) v else v) (t.word a) else t.word a

/-- The word of register `a` once the frame is committed. -/
def Tail.img (t : Tail) (w : Wr) (a : Nat) : Word :=
  match w.find a with
  | some x => writeWord (wrFields t.u a) (t.baseWord w a) x
  | none => t.baseWord w a

/-- Field `f` once the frame is committed. -/
def Tail.newv (t : Tail) (w : Wr) (f : Fd) : Nat := fdGet f (t.img w f.addr)

def Tail.newi (t : Tail) (w : Wr) (f : Fd) : Int := sx f.width (t.newv w f)

/-- The frame changes field `f`. -/
def Tail.changes (t : Tail) (w : Wr) (f : Fd) : Bool := t.newv w f != t.g f

/-- A write of one register by a row of its own. -/
def Wr.one (a : Nat) (x : Word) : Wr := ⟨a / 256, false, [(a, x)]⟩

end Sys2Proof.Machine
end

