-- ==== Sys2Proof/Machine/Streams.lean ====
section
/-! DEFINITION. The commands of the Central Store (06 sections 3, 5, 9; 07 sections 3, 4, 6, 8): descriptors, RESET and SYNC, held
records, write-back, scrub and error injection. -/

namespace Sys2Proof.Machine

/-! ## Descriptors (06 R199 to R204, R232) -/

/-- The ring that a descriptor word names, in 4 KiB units: its first unit and the first one after it. -/
def ringUnits (cfg : Word) : Nat × Nat :=
  let b := fdGet (STRD_CFG.BASE 0) cfg
  (b, b + 2 ^ (fdGet (STRD_CFG.SIZE_LOG2 0) cfg - 12))

/-- Streams whose descriptors exist and are configurable (06 R204). -/
def strdConfig (u : UnitInfo) (k : Nat) : Bool := !strdAbsent u k && !(169 ≤ k && k < 192)

/-- Streams +0 to +4 of a station in a running state (06 R202). -/
def Tail.strdBusy (t : Tail) (k : Nat) : Bool :=
  64 ≤ k && k < 128 && k % 16 ≤ 4 && t.stns.any (fun n => n.val = (k - 64) / 16 && (t.stnGet n).sq.st.isRunning)

/-- The streams that a PGRST of descriptor page `p` resets (06 R232). -/
def strdResets (u : UnitInfo) (p : Nat) : List Nat :=
  ((List.range 16).map (fun i => 16 * (p - 0x10) + i)).filter (fun k => strdConfig u k && !(k = 161 || k = 168))

/-- The streams whose descriptors the frame can change, ascending. -/
def strdWritten (u : UnitInfo) (w : Wr) : List Nat :=
  ((List.range 16).map (fun i => 16 * (w.page - 0x10) + i)).filter (fun k => !(160 ≤ k && k < 192) && strdConfig u k && w.has (STRD_CFG.EN k))

/-- A stream of the Orbit ring on a -N unit ignores EN = 1 (06 R204). -/
def strdNoOrbit (u : UnitInfo) (k : Nat) : Bool := !u.orbit && 128 ≤ k && k < 144

/-- The configuration word of stream `k` after the page reset that the frame may carry, which comes first (00 section 8). -/
def Tail.strdFrom (t : Tail) (w : Wr) (k : Nat) : Word :=
  if w.srst && (strdResets t.u w.page).contains k then strdCfgRst t.u k else t.word (STRD_CFG.EN k).addr

/-- The configuration word of stream `k` once the frame is committed. -/
def Tail.strdNew (t : Tail) (w : Wr) (k : Nat) : Word :=
  let base := t.strdFrom w k
  if (strdWritten t.u w).contains k then
    let x := writeWord (wrFields t.u (STRD_CFG.EN k).addr) base ((w.find (STRD_CFG.EN k).addr).getD base)
    if strdNoOrbit t.u k then fdPut (STRD_CFG.EN k) 0 x else x
  else base

/-- The rings in the stream area that `cfg` enables: stream and configuration word. -/
def ringsOf (u : UnitInfo) (cfg : Nat → Word) : List (Nat × Word) :=
  ((List.range 256).filter (fun k => strdConfig u k && fdGet (STRD_CFG.EN k) (cfg k) = 1)).map (fun k => (k, cfg k))

/-- Enabled rings in the stream area. -/
def Tail.ringsNow (t : Tail) : List (Nat × Word) := ringsOf t.u (fun k => t.word (STRD_CFG.EN k).addr)

/-- What refuses the enabling of ring `cfg` of stream `k` beside the enabled rings (06 R199): 0xFF, or the stream it overlaps. -/
def ringClash (rings : List (Nat × Word)) (k : Nat) (cfg : Word) : Option Nat :=
  let sz := fdGet (STRD_CFG.SIZE_LOG2 0) cfg
  let r := ringUnits cfg
  if !(12 ≤ sz && sz ≤ 24) || 0xF00 < r.2 then some 0xFF
  else (rings.find? (fun e => e.1 != k && (ringUnits e.2).1 < r.2 && r.1 < (ringUnits e.2).2)).map (·.1)

/-- The first enabling of the frame that R199 refuses: its stream and what it clashes with. -/
def Tail.strdClash (t : Tail) (w : Wr) : List Nat → List (Nat × Word) → Option (Nat × Nat)
  | [], _ => none
  | k :: ks, rings =>
    let new := t.strdNew w k
    let on := fdGet (STRD_CFG.EN k) new = 1
    match (if on && fdGet (STRD_CFG.EN k) (t.strdFrom w k) = 0 then ringClash rings k new else none) with
    | some o => some (k, o)
    | none => t.strdClash w ks (if on then (k, new) :: rings.filter (fun e => e.1 != k) else rings.filter (fun e => e.1 != k))

/-- The refusals of a frame on a descriptor page (06 R199, R200, R202, R232). -/
def Tail.strdCheck (t : Tail) (w : Wr) : List (Bool × Nat) :=
  let ks := strdWritten t.u w
  let moved (k : Nat) : Bool :=
    fdGet (STRD_CFG.BASE k) (t.strdNew w k) != fdGet (STRD_CFG.BASE k) (t.strdFrom w k)
      || fdGet (STRD_CFG.SIZE_LOG2 k) (t.strdNew w k) != fdGet (STRD_CFG.SIZE_LOG2 k) (t.strdFrom w k)
  let on (k : Nat) : Bool := fdGet (STRD_CFG.EN k) (t.strdFrom w k) = 1
  [ (ks.any (fun k => fdGet (STRD_CFG.POLICY k) (t.strdNew w k) = 3), badAddr),
    ((t.strdClash w ks (ringsOf t.u (t.strdFrom w))).isSome, badAddr),
    (ks.any (fun k => on k && moved k), busySt),
    (ks.any (fun k => t.strdBusy k && (moved k || (on k && fdGet (STRD_CFG.EN k) (t.strdNew w k) = 0))), busySt),
    (w.srst && (strdResets t.u w.page).any t.strdBusy, busySt) ]

/-- A refusal under R199 is recorded (06 R199, R228). -/
def Tail.strdRefuse (t : Tail) (w : Wr) : Tail :=
  match t.strdClash w (strdWritten t.u w) (ringsOf t.u (t.strdFrom w)) with
  | some (k, o) => (((t.p CSG_REFUSE.VALID 1).p CSG_REFUSE.OTHER o).p CSG_REFUSE.STREAM k).evt 0x06 1
  | none => t

/-- Stream `k` emptied with its counters as a reset leaves them (06 R218, R232): SEQ stays. -/
def Tail.streamClear (t : Tail) (k : Nat) : Tail :=
  ((t.sysWrites (descX k) 2).emptyRing k).sstMap k (fun s => { s with lost := 0, loss := false, wmHigh := false, syncReq := true })

/-- The effect of an accepted frame on the streams of its descriptor page, under its commit (06 R201, R217, R232): the descriptors are part
of the page's configuration transfer (03 R102, R112), and the rings are emptied at the commit. -/
def Tail.strdApply (t : Tail) (w : Wr) : Tail :=
  let old := t
  let t := if w.srst then (strdResets t.u w.page).foldl (fun t k => (t.streamClear k).cfgWrite (STRD_CFG.EN k).addr (strdCfgRst t.u k)) t
    else t
  (strdWritten t.u w).foldl (fun t k =>
    let new := old.strdNew w k
    let was := t.b (STRD_CFG.EN k)
    let t := (t.sysWrites (descX k) 2).cfgWrite (STRD_CFG.EN k).addr new
    if fdGet (STRD_CFG.EN k) new = 0 then (if was then t.emptyRing k else t)
    else if was then t else t.sstMap k (fun s => { s with syncReq := true })) t

/-- STRD_CFG_WRITE (06 R199 to R203): the host writes `word` to the configuration of stream `k`, as a frame of its own. -/
def execStrdCfgWrite (k : Byte) (word : Word) (s : State) : Host.Outcome State Fault Refusal :=
  tailNext s (fun t =>
    let w := Wr.one (STRD_CFG.EN k.toNat).addr word
    if !t.on 3 then t
    else match refusal (t.strdCheck w) with
      | some _ => (t.strdRefuse w).finish
      | none => (t.commit (fun t => ((t.xferBegin w.page).strdApply w).wmUpdate k.toNat)).finish)

/-! ## CSG_SCMD (06 R218, R229) -/

/-- The refusals of a stream command: `op` 1 RESET, 2 SYNC, 3 reserved. -/
def Tail.scmdCheck (t : Tail) (op k : Nat) : List (Bool × Nat) :=
  [ (op = 3 || (op != 0 && strdAbsent t.u k), badAddr),
    (op = 1 && (k = 161 || (168 ≤ k && k < 192)), badAddr),
    (op = 1 && t.strdBusy k, busySt) ]

/-- An accepted stream command, under its commit. -/
def Tail.scmdApply (t : Tail) (op k : Nat) : Tail :=
  if op = 1 then t.streamClear k else if op = 2 then t.sstMap k (fun s => { s with syncReq := true }) else t

/-- A stream command as a step of its own. -/
def Tail.scmd (t : Tail) (op k : Nat) : Tail :=
  if !t.on 3 || (refusal (t.scmdCheck op k)).isSome then t else (t.commit (fun t => t.scmdApply op k)).finish

/-- STREAM_RESET (06 R218). -/
def execStreamReset (k : Byte) (s : State) : Host.Outcome State Fault Refusal := tailNext s (fun t => t.scmd 1 k.toNat)

/-- STREAM_SYNC (06 R229). -/
def execStreamSync (k : Byte) (s : State) : Host.Outcome State Fault Refusal := tailNext s (fun t => t.scmd 2 k.toNat)

/-! ## Held records (06 R212) -/

/-- The oldest held record of stream `k` is retried: written under a commit of its own once it fits. -/
def Tail.retryHeld (t : Tail) (k : Nat) : Tail :=
  match (t.sst k).held with
  | [] => t
  | h :: hs =>
    if t.streamOn k && t.fits k h.data.length then
      t.commit (fun t => (t.sstMap k (fun s => { s with held := hs })).putRec k h)
    else t

/-- BACKPRESSURE_RETRY (06 R212): the oldest record held for stream `k` is retried. -/
def execBackpressureRetry (k : Byte) (s : State) : Host.Outcome State Fault Refusal :=
  tailNext s (fun t => if t.pd 4 && !t.aon.retained then (t.retryHeld k.toNat).logAll else t)

/-! ## Write-back, scrub and injection (07 R246, R247, R250, R251, R258 to R268) -/

/-- The store is in service: initialised, powered, and not in retention (07 R258). -/
def Tail.storeUp (t : Tail) : Bool := t.pd 4 && !t.aon.retained && t.b CSG_STAT.INIT_DONE

/-- CORRECTION_WRITEBACK (07 R246, R247, R260): the first entry of the bank's queue is written back in an idle cycle. -/
def execCorrectionWriteback (bank : Fin 8) (s : State) : Host.Outcome State Fault Refusal :=
  tailNext s (fun t =>
    match t.storeUp, t.store.wb[bank] with
    | true, e :: q => (t.wbWrite e).wbMap bank (fun _ => q)
    | _, _ => t)

/-- The next word that the scrubber of `bank` reads: of its own words, then of its catch-up list (07 R259, R263). -/
def Tail.scrubNext (t : Tail) (bank : Fin 8) : Option Nat :=
  let k := t.store.scrub[bank]
  if k < 0x40000 then some (8 * k + bank.val) else t.store.catchUp[bank].head?

/-- The scrubber of `bank` is past that word. -/
def Tail.scrubStep (t : Tail) (bank : Fin 8) : Tail :=
  let k := t.store.scrub[bank]
  if k < 0x40000 then { t with store := { t.store with scrub := t.store.scrub.set bank (k + 1) } }
  else { t with store := { t.store with catchUp := t.store.catchUp.set bank (t.store.catchUp[bank].drop 1) } }

/-- The next word of `bank` in the order of the pass is due `late` ticks after this time (07 R259): its words follow at PERIOD / 2 ^ 18 from
the start of the pass, the same for every bank; those of the catch-up list follow at once. -/
def Tail.scrubDue (t : Tail) (bank : Fin 8) (late : Nat) : Nat :=
  let k := t.store.scrub[bank]
  if k < 0x40000 then t.store.paceFrom + k * (clampN 8 60 (t.cf CSA_CTRL.PERIOD) * s1) / 0x40000 + late else t.now + late

/-- PROGRESS of the pass (07 R269). -/
def Tail.scrubProgress (t : Tail) : Tail :=
  t.p CSA_SCRUB_STAT.PROGRESS (min 0xFFFF (t.store.scrub.toList.sum / 32))

/-- A scrub pass starts now, its first words due after `d` ticks. -/
def Tail.passBegin (t : Tail) (d : Nat) : Tail :=
  { t with store := { t.store with
      scrub := Vector.replicate 8 0, catchUp := Vector.replicate 8 [], passStart := t.now, paceFrom := t.now + d } } |>.scrubProgress

/-- Every bank has completed its words and its catch-up: the pass ends, and the next begins, after a dwell where thermal management asks
for one (07 R259, R264, R265, 21 R748). -/
def Tail.scrubPass (t : Tail) : Tail :=
  if !(List.finRange 8).all (fun (b : Fin 8) => 0x40000 ≤ t.store.scrub[b] && t.store.catchUp[b].isEmpty) then t
  else
    let d := t.now - t.store.passStart
    let ms10 := min 0xFFFF (d / (10 * ms1))
    let t := ((t.incW CSA_SCRUB_STAT.PASS_CNT).p CSA_SCRUB_TIME.LAST_PASS ms10).p CSA_SCRUB_TIME.MAX_PASS
      (max ms10 (t.g CSA_SCRUB_TIME.MAX_PASS))
    let t := if 120 * s1 < d then t.evtV 0x07 3 (some (BitVec.ofNat 32 (d / (10 * ms1)))) else t
    match t.dwellStns [] with
    | some ms => { (t.passBegin (ms * ms1)).dwellBegin ms with thd := { t.thd with scrubT := t.after (ms * ms1) } }
    | none => t.passBegin 0

/-- A scrub read of word `a` with the error pattern `upset` (07 R244 to R251); where `mirrorBad`, the second copy that a word of the
system area has is poisoned. -/
def Tail.scrubWord (t : Tail) (a : Nat) (upset : StoreWord) (mirrorBad : Bool) : Tail :=
  if a < sysWord then ((t.memPut a (t.memGet a ^^^ upset)).memRead a).2
  else
    let t := t.sysPut a (t.sysPat a ^^^ upset)
    (if mirrorBad && sysTwinned a then t.sysPut (sysTwin a) sysPoison else t).sysRead a

/-- SCRUB_READ (07 R259 to R265): in an idle cycle with no write-back and no injection waiting, the bank's scrubber reads its next word once
it is due; `upset` are the bits that have flipped in it, `mirrorBad` says that its second copy is lost too. -/
def execScrubRead (bank : Fin 8) (upset : BitVec 72) (mirrorBad : Bool) (s : State) : Host.Outcome State Fault Refusal :=
  tailNext s (fun t =>
    if !(t.storeUp && t.cfb CSA_CTRL.SCRUB_EN && t.thd.scrubT.isNone && t.store.wb[bank].isEmpty
        && !t.store.inj.any (fun i => bankOf i.addr = bank)) then t
    else match t.scrubNext bank with
      | none => t
      | some a =>
        let t := t.elapseTo (t.scrubDue bank 0)
        ((((t.scrubWord a upset mirrorBad).scrubStep bank).scrubProgress).scrubPass).finish)

/-- SCRUB_SKIP (07 R262, R263): no idle cycle for 1 ms; the waiting word goes to the end of the catch-up list, if that has room. -/
def execScrubSkip (bank : Fin 8) (s : State) : Host.Outcome State Fault Refusal :=
  tailNext s (fun t =>
    if !(t.storeUp && t.cfb CSA_CTRL.SCRUB_EN && t.thd.scrubT.isNone) then t
    else match t.scrubNext bank with
      | none => t
      | some a =>
        let t := (t.elapseTo (t.scrubDue bank ms1)).scrubStep bank
        let l := t.store.catchUp[bank]
        let t := { t with store := { t.store with catchUp := t.store.catchUp.set bank (if l.length < 64 then l ++ [a] else l) } }
        let t := (t.inc CSA_SKIP.COUNT).p CSA_SKIP.BANKS (setBit (t.g CSA_SKIP.BANKS) bank true)
        (((t.evtV 0x07 2 (some (BitVec.ofNat 32 bank.val))).scrubProgress).scrubPass).finish)

/-- The refusals of a write of CSA_INJ (07 R268). -/
def Tail.injCheck (t : Tail) (w : Word) : List (Bool × Nat) :=
  let on := fdGet CSA_INJ.MODE w != 0
  [ (on && sysWord ≤ fdGet CSA_INJ.ADDR w, badAddr),
    (on && !t.stns.all (fun n => (t.stnGet n).sq.st = .disabled || (t.stnGet n).sq.st = .ready), busySt) ]

/-- An accepted injection waits for an idle cycle (07 R268); the reserved mode injects nothing. -/
def Tail.injApply (t : Tail) (w : Word) : Tail :=
  let m := fdGet CSA_INJ.MODE w
  let b := fdGet CSA_INJ.BIT w
  let flips : DWord := if m = 1 then (1 : DWord) <<< b else if m = 2 then ((1 : DWord) <<< b) ||| ((1 : DWord) <<< ((b + 1) % 64)) else 0
  if m = 0 || m = 3 then t else { t with store := { t.store with inj := t.store.inj ++ [⟨fdGet CSA_INJ.ADDR w, flips⟩] } }

/-- CSA_INJ (07 R268): the host writes `word` to CSA_INJ. -/
def execCsaInj (word : Word) (s : State) : Host.Outcome State Fault Refusal :=
  tailNext s (fun t => if !t.on 3 || (refusal (t.injCheck word)).isSome then t else t.injApply word)

/-- ERROR_INJECTION (07 R260, R268): in an idle cycle of its bank the word is read, its data bits flipped, and written back without
new check bits. -/
def execErrorInjection (s : State) : Host.Outcome State Fault Refusal :=
  tailNext s (fun t =>
    match t.storeUp, t.store.inj with
    | true, i :: q =>
      if t.store.wb[bankOf i.addr].isEmpty then
        let t := { t with store := { t.store with inj := q } }
        let w := t.memGet i.addr
        (((t.memRead i.addr).2.memPut i.addr (w ^^^ i.flips.setWidth 72)).wbMap (bankOf i.addr)
          (fun q => q.filter (fun e => e.addr != i.addr))).logAll
      else t
    | _, _ => t)

end Sys2Proof.Machine
end

