-- ==== Sys2Proof/Machine/Power.lean ====
section
/-! DEFINITION. Supplies, the selector, the loss of both supplies, and the power states (04). -/

namespace Sys2Proof.Machine

/-! ## The supply selector (04 section 2) -/

/-- Latch `i` of the PWR page: set while the Sequencer Core is powered (04 R138, R155). -/
def Tail.evtPwr (t : Tail) (i : Nat) : Tail := if t.pd 3 then t.evt 0x04 i else t

def Tail.aonMap (t : Tail) (f : Aon → Aon) : Tail := { t with aon := f t.aon }

/-- The dwell time (04 R127). -/
def dwellTicks : Nat := 500 * ms1

/-- The selector leaves for DWELL if A returns, else for ON_B (04 R126, R130). -/
def Tail.dwellOrB (t : Tail) : Tail :=
  t.aonMap (fun a => if a.aRet then { a with ho := .dwell, dwell := t.after dwellTicks } else { a with ho := .onB, dwell := none })

/-- A_FAILED (04 R121, R124, R125): supply A fails; with B valid a hand-over starts. -/
def execAFailed (s : State) : Host.Outcome State Fault Refusal :=
  tailNext s (fun t =>
    if !(t.pd 1 && t.aon.aValid) then t
    else
      t.aonMap (fun a =>
        let a := { a with aValid := false, aRet := false }
        match a.ho with
        | .onA => if a.bValid then { a with ho := .commit } else a
        | .dwell => { a with ho := .onB, dwell := none }
        | _ => a))

/-- The hand-overs of the last 60 s (04 R129). -/
def Tail.hoWindow (t : Tail) : List Nat := t.aon.hoTimes.filter (fun x => t.now ≤ x + 60 * s1)

/-- B_CONNECTED (04 R126, R129): B is connected; `aRet` says whether A is at or above the return threshold. -/
def execBConnected (aRet : Bool) (s : State) : Host.Outcome State Fault Refusal :=
  tailNext s (fun t =>
    if !(t.pd 1 && t.aon.ho = .commit) then t
    else
      let w := t.hoWindow ++ [t.now]
      let t := t.aonMap (fun a =>
        { a with aRet := aRet, aValid := a.aValid || aRet, hoTimes := w, hoTotal := satInc 16 a.hoTotal })
      let t := if 8 ≤ w.length
        then (t.aonMap (fun a => { a with ho := .heldB, dwell := none, unstable := true })).evtPwr 2
        else t.dwellOrB
      (t.evtPwr 0).finish)

/-- A_RETURN (04 R124, R126): A reaches the return threshold; in ON_B the dwell starts. -/
def execAReturn (s : State) : Host.Outcome State Fault Refusal :=
  tailNext s (fun t =>
    if !t.pd 1 then t
    else
      let t := t.aonMap (fun a => { a with aRet := true, aValid := true })
      if t.aon.ho = .onB then t.dwellOrB else t)

/-- A_EXCURSION (04 R127): A falls below the return threshold for 10 us or longer; a dwell ends. -/
def execAExcursion (s : State) : Host.Outcome State Fault Refusal :=
  tailNext s (fun t =>
    if !t.pd 1 then t
    else
      t.aonMap (fun a => { a with aRet := false, ho := if a.ho = .dwell then .onB else a.ho, dwell := none }))

/-- DWELL_COMPLETE (04 R127, R128): A has stayed returned for the dwell time; the selector returns to A. -/
def execDwellComplete (s : State) : Host.Outcome State Fault Refusal :=
  tailNext s (fun t =>
    match t.aon.ho, t.aon.dwell with
    | .dwell, some d =>
      let t := t.elapseTo d
      ((t.aonMap (fun a => { a with ho := .onA, dwell := none })).evtPwr 1).finish
    | _, _ => t)

/-- B_FAILED (04 R124, R131, R133): supply B fails; a committing hand-over is aborted, a load on B returns to a valid A. -/
def execBFailed (s : State) : Host.Outcome State Fault Refusal :=
  tailNext s (fun t =>
    if !(t.pd 1 && t.aon.bValid) then t
    else
      let was := t.aon.ho
      let t := (t.aonMap (fun a =>
        { a with bValid := false, ho := if a.aValid then .onA else a.ho, dwell := if a.aValid then none else a.dwell })).evtPwr 3
      let t := if was = .commit && t.aon.aValid
        then (t.aonMap (fun a => { a with hoAborts := satInc 8 a.hoAborts })).evtPwr 4
        else t
      t.finish)

/-- UNSTABLE_CLR (04 R130): SUPPLY_UNSTABLE clears, the window empties, and HELD_B is left. -/
def Tail.unstableClr (t : Tail) : Tail :=
  let held := t.aon.ho = .heldB
  let t := t.aonMap (fun a => { a with unstable := false, hoTimes := [] })
  if held then t.dwellOrB else t

def execUnstableClr (s : State) : Host.Outcome State Fault Refusal :=
  tailNext s (fun t => if t.pd 3 then t.unstableClr else t)

/-- SUPPLY_VALID (04 R121): input A, or B, lies between the low threshold and the overvoltage disconnect again. -/
def execSupplyValid (b : Bool) (s : State) : Host.Outcome State Fault Refusal :=
  tailNext s (fun t =>
    if !t.pd 1 then t
    else t.aonMap (fun a => if b then { a with bValid := true } else { a with aValid := true }))

/-- BOTH_SUPPLIES_FAILED (04 R134 to R137, R154): the gates block, the outputs drop, the log is flushed, and every domain goes off;
`cut` is the number of records written where the hold-up runs out. -/
def execBothSuppliesFailed (cut : Option Nat) (s : State) : Host.Outcome State Fault Refusal :=
  if s.fs.us = .off then .next s else .next { s with h2f := [], f2h := [], fs := (s.fs.flushLog 1 cut).powerOff }

/-! ## Power states (04 section 5) -/

/-- What PD7 loses with its power (12 R472, 20 R711, R717): the housekeeping round, its queue and results, running conversions. -/
def Tail.senseOff (t : Tail) : Tail :=
  let t := { t with hk := { Hk.init with since := t.now } }
  ((t.p HK_INV_LO.INV 0xFFFFFFFF).p HK_INV_HI.INV 0xFFFFFFFF).ainStop

/-- PD7 powered up (12 R472, 20 R711): every station's samples are invalid until its filters have filled, and the housekeeping round
starts at channel 0. -/
def Tail.senseOn (t : Tail) : Tail :=
  let t := { t with hk := { Hk.init with since := t.now } }
  t.stns.foldl (fun t (n : Stn) => if t.enabled (stnPage n 4) then t.isnsStart n else t) t

/-- Every fitted station is DISABLED. -/
def Tail.allDisabled (t : Tail) : Bool := t.stns.all (fun n => (t.stnGet n).sq.st = .disabled)

/-- A request for a power state may be accepted (04 R145, R146). -/
def Tail.reqOk (t : Tail) (r : PwrReq) : Bool :=
  let safe := (t.us = .readySafe || t.us = .sleep) && t.allDisabled
  match r with
  | .run => t.aon.ps = .standby
  | .standby => safe
  | .deep => safe && (List.range 8).all (fun k => !t.doOn k)

/-- A power-state request (04 R145, R146, R148): held while a transition is accepted or in progress, else accepted or refused; REQ_RUN
outside Standby has no effect. With an accepted REQ_STANDBY or REQ_DEEP the unit is in SLEEP (10 R367). -/
def Tail.pwrReq (t : Tail) (r : PwrReq) : Tail :=
  if t.aon.accepted.isSome || t.aon.switching.isSome || t.aon.wakePend then t.aonMap (fun a => { a with held := some r })
  else if t.reqOk r then (if r = .run then t else t.setUnit .sleep).aonMap (fun a => { a with accepted := some r })
  else if r = .run then t
  else t.evt 0x04 5

/-- The held request is executed when a transition has completed (04 R148). -/
def Tail.heldReq (t : Tail) : Tail :=
  match t.aon.held with
  | none => t
  | some r => (t.aonMap (fun a => { a with held := none })).pwrReq r

def execReqRun (s : State) : Host.Outcome State Fault Refusal := tailNext s (fun t => if t.pd 3 then (t.pwrReq .run).finish else t)

def execReqStandby (s : State) : Host.Outcome State Fault Refusal :=
  tailNext s (fun t => if t.pd 3 then (t.pwrReq .standby).finish else t)

def execReqDeep (s : State) : Host.Outcome State Fault Refusal := tailNext s (fun t => if t.pd 3 then (t.pwrReq .deep).finish else t)

/-- The correction write-back queues are emptied (07 R258). -/
def Tail.drainWb (t : Tail) : Tail :=
  let t := (List.finRange 8).foldl (fun t (b : Fin 8) => (t.store.wb[b]).foldl Tail.wbWrite t) t
  { t with store := { t.store with wb := Vector.replicate 8 [] } }

/-- PD4 leaves retention; the scrubber starts a new pass at once, without a dwell (07 R258). -/
def Tail.unretain (t : Tail) : Tail :=
  if t.aon.retained then
    { (t.aonMap (fun a => { a with retained := false })).passBegin 0 with thd := { t.thd with scrubT := none } }
  else t

/-- TRANSITION_START (04 R147, R150, R152, R153, 10 R367): after the response of the requesting frame, the accepted transition starts. -/
def Tail.transition (t : Tail) (r : PwrReq) : Tail :=
  let t := t.aonMap (fun a => { a with accepted := none, switching := some r })
  match r with
  | .run | .standby => t.unretain.finish
  | .deep =>
    let t := t.unretain.logAll.flushLog 2 none
    let t := t.aonMap (fun a => { a with retention := some t.regs, sleptAt := t.now })
    { t with link := { t.link with ready := false }, clk := { t.clk with ftRun := false } }

def execTransitionStart (s : State) : Host.Outcome State Fault Refusal :=
  tailNext s (fun t =>
    match t.aon.accepted, t.aon.switching with
    | some r, none => if t.link.rsps.isEmpty && t.link.prio.isEmpty then t.transition r else t
    | _, _ => t)

/-- RUN_TRANSITION_DONE (04 R152): PD7, PD5 and PD6 are on; the unit is in Run with every station DISABLED. -/
def execRunTransitionDone (s : State) : Host.Outcome State Fault Refusal :=
  tailNext s (fun t =>
    if t.aon.switching != some .run then t
    else
      let t := (t.aonMap (fun a => { a with dom := a.dom ||| 0xE0, ps := .run, switching := none })).xferSend
      ((t.setUnit .readySafe).senseOn.heldReq).finish)

/-- STANDBY_TRANSITION_DONE (04 R153, 07 R258): PD6, PD5 and PD7 are off; with RETAIN the store is in retention. -/
def execStandbyTransitionDone (s : State) : Host.Outcome State Fault Refusal :=
  tailNext s (fun t =>
    if t.aon.switching != some .standby then t
    else
      let t := t.aonMap (fun a => { a with dom := a.dom &&& 0x1F, ps := .standby, switching := none })
      let t := t.senseOff
      let t := if t.b PWR_CTRL.RETAIN then t.drainWb.aonMap (fun a => { a with retained := true }) else t
      t.heldReq.finish)

/-- The Tailstock at a wake or in a sleep without PD2 to PD7 (04 R140): configuration and what PD1 keeps; the store sequence number
and the INDEX of the log go on. -/
def Tail.asleep (t : Tail) (us : UnitSt) : Tail :=
  let cfg := t.aon.retention.getD []
  let r := t.renew t.aon (keepFields t.u (fun f => f.isConfig && !f.keptTrst) cfg)
  let pon := keepFields t.u Fd.keptTrst t.regs
  let r := pon.foldl (fun r e => (regFields e.1).foldl (fun r f => if f.keptTrst then r.p f (fdGet f e.2) else r) r) r
  { r with
    us := us, ft := t.ft, ssn := t.ssn, log := { r.log with index := t.log.index }
    boot := { t.boot with therm := false }, link := { r.link with wakeRun := t.link.wakeRun } }

/-- DEEP_SLEEP_ENTERED (04 R150): PD7 to PD2 are off. -/
def execDeepSleepEntered (s : State) : Host.Outcome State Fault Refusal :=
  match s.fs.aon.switching with
  | some .deep =>
    .next { s with h2f := [], fs := (s.fs.asleep .sleep).aonMap (fun a =>
      { a with dom := 0x02, ps := .deep, switching := none, retained := false }) }
  | _ => .next s

/-- The power-up of the domains begins now (10 R372). -/
def Tail.upNow (t : Tail) : Tail := { t with boot := { t.boot with upAt := t.now } }

/-- The typical time from an accepted WAKE to a ready field side (04 R151, W2 to W8). -/
def wakeTime : Nat := 1380240

/-- WAKE begins (04 R144, R151): PD2, PD3 and PD4 are powered, held off under the low-temperature hold. -/
def Tail.wakeBegin (t : Tail) (cold : Bool) : Tail :=
  (t.aonMap (fun a => { a with
    wakePend := true, cold := cold, coldSeen := a.coldSeen || cold, dom := if cold then 0x02 else 0x1E })).upNow.coldMark cold

/-- The 3-bit code of a level channel (02 R77): LEVEL, LINK_RDY or 0, odd parity. -/
def levelCode (level rdy : Bool) : BitVec 3 := BitVec.ofNat 3 (b2n level + 2 * b2n rdy + 4 * b2n (level == rdy))

/-- The parity of a code is odd (02 R77). -/
def codeGood (c : BitVec 3) : Bool := popcount 3 c.toNat % 2 = 1

/-- The answer of the Headstock's WAKE cell (02 R77), none from an unpowered one; the bits of `err` are inverted on the way. -/
def Head.wakeAnswer (h : Head) (err : BitVec 3) : Option (BitVec 3) := if h.powered then some (levelCode h.wake false ^^^ err) else none

/-- WAKE_INTERROGATION (02 R76, R77, R83): the Headstock's WAKE cell answers; an answer with wrong parity counts as none. Deep sleep ends
after two asserted answers in a row, and in no other state does WAKE act. -/
def execWakeInterrogation (err : BitVec 3) (cold : Bool) (s : State) : Host.Outcome State Fault Refusal :=
  if !s.fs.pd 1 then .next s
  else
    .next (s.tail (fun t =>
      match (s.hs.wakeAnswer err).filter codeGood with
      | some c =>
        let lvl := c.getLsbD 0
        let run := if lvl then min 2 (t.link.wakeRun + 1) else 0
        let t := { t with link := { t.link with hsPresent := true, wakeLvl := lvl, wakeRun := run, deafRun := 0 } }
        if run = 2 && t.aon.ps = .deep && t.us != .thermalShutdown && !t.aon.wakePend then t.wakeBegin cold else t
      | none =>
        { t with link := { t.link with wakeRun := 0, deafRun := min 4 (t.link.deafRun + 1) } }))

/-- WAKE_COMPLETE (03 R95, 04 R135, R141, R151): Field Time goes on from the bridged value, the log is restored, and the unit is in
Standby with RETAIN 0; the link is ready unless its training has failed (02 R74). -/
def execWakeComplete (s : State) : Host.Outcome State Fault Refusal :=
  tailNext s (fun t =>
    if !(t.aon.wakePend && !t.aon.cold && t.us = .sleep) then t
    else
      let t := t.elapseTo (t.boot.upAt + wakeTime)
      let cyc := (t.now - t.aon.sleptAt) / us1
      let t := { t with
        ft := t.ft + BitVec.ofNat 64 (cyc * us1)
        clk := Clocks.up t.u.orbit (t.ft + BitVec.ofNat 64 (cyc * us1))
        link := { t.link with ready := !t.link.trainFail }
        store := { t.store with passStart := t.now, paceFrom := t.now } }
      let t := (t.aonMap (fun a => { a with ps := .standby, wakePend := false })).restoreLog
      let t := ((((t.p TIME_STAT.BRIDGED 1).p CSG_STAT.INIT_DONE 1).evt 0x06 0).inc BLNK_STAT.TRAIN_CNT).p PWR_CTRL.RETAIN 0
      t.heldReq.finish)

/-- COLD_HOLD_RELEASE (04 R144): every comparator reads at or above its release level; the held domains are powered. -/
def execColdHoldRelease (s : State) : Host.Outcome State Fault Refusal :=
  tailNext s (fun t =>
    if !t.aon.cold then t
    else (t.aonMap (fun a => { a with cold := false, dom := if a.wakePend then 0x1E else 0xFE })).upNow)

end Sys2Proof.Machine
end

