-- ==== Sys2Proof/Machine/Boot.lean ====
section
/-! DEFINITION. Start-up after a Tailstock reset (10 section 3): the store's check, the image, the log, and the end of BOOT. -/

namespace Sys2Proof.Machine

/-- STORE_INIT_DONE (07 R254 to R257): the banks are tested and zeroed; a failed check repeats the start-up once, then holds the unit
in BOOT. At a wake only a failure is reported. -/
def execStoreInitDone (fail : Bool) (s : State) : Host.Outcome State Fault Refusal :=
  trstNext s (fun t =>
    if t.us = .boot && t.boot.t3 && !t.boot.t5 && !t.boot.dead then
      let t := t.elapseTo (t.boot.t3At + bootT5)
      if fail then (if t.boot.checkFailed then { t with boot := { t.boot with dead := true } } else t.trstBy .storeCheck)
      else (({ t.passBegin 0 with boot := { t.boot with t5 := true, last := t.now } }.p CSG_STAT.INIT_DONE 1).evt 0x06 0).logAll
    else if t.us = .sleep && t.aon.wakePend && fail then t.trstBy .storeCheck
    else t)

/-- SQC_IMAGE_VERIFIED (10 R375): the image of the active slot is verified, or fails. -/
def execSqcImageVerified (ok : Bool) (s : State) : Host.Outcome State Fault Refusal :=
  trstNext s (fun t =>
    if t.us = .boot && t.boot.t3 && !t.boot.t6 && !t.fw.recovery then
      let t := t.elapseTo (t.boot.t3At + bootT6)
      if ok then { t with boot := { t.boot with t6 := true, last := t.now } } else t.trstBy .imgFail
    else t)

/-- EVENT_LOG_RESTORED (04 R135, 06 R226, 10 R372 T7, R373): after a thermal restart the configuration is reloaded; the log is
restored, then what waited is logged; the thermal comparators get their levels (21 R753). -/
def execEventLogRestored (s : State) : Host.Outcome State Fault Refusal :=
  tailNext s (fun t =>
    if !(t.us = .boot && t.boot.t5 && t.boot.t6 && !t.boot.t7) then t
    else
      let t := t.elapseTo (t.boot.last + bootT7)
      let t := match t.boot.therm, t.aon.retention with
        | true, some cfg => t.loadConfig cfg
        | _, _ => t
      { t.restoreLog.hwLevels with boot := { t.boot with t7 := true, last := t.now }, hk := { Hk.init with since := t.now } }.finish)

/-- Each pre-charge group is IDLE (10 R373). -/
def Tail.grpsIdle (t : Tail) : Tail := { t with grp := t.grp.map (fun g => { Grp.init with v := g.v, vPrev := g.vPrev, vAt := g.vAt }) }

/-- BOOT_COMPLETE (10 R373, R374, 23 R814): the start-up conditions have passed; READY_SAFE. -/
def execBootComplete (s : State) : Host.Outcome State Fault Refusal :=
  tailNext s (fun t =>
    let b := t.boot
    if !(t.us = .boot && (b.t4 || t.link.trainFail) && b.t5 && b.t6 && b.t8 && !b.dead && !t.fw.recovery) then t
    else
      let t := t.elapseTo (b.last + bootT9)
      let t := { (t.grpsIdle.setUnit .readySafe).p DEV_BOOTMS.MS (min 0xFFFF ((t.now - b.start) / ms1)) with
        fw := { t.fw with bootFail := Vector.replicate 2 0 } }
      (t.evt 0x20 2).finish)

end Sys2Proof.Machine
end

