-- ==== Sys2Proof/Machine/Operands.lean ====
section
/-! DEFINITION. The operands of the two ports: the fields of an HSP header and what each operation allows (08 sections 2, 3), the
commands of the management bus (09 section 4), and the framing bytes. -/

namespace Sys2Proof.Machine

/-! ## HSP operations (08 R285) -/

/-- The OP code. -/
def opCode : HspOp → Nat
  | .regRead => 0x01 | .regWrite => 0x02 | .regWriteVerify => 0x03 | .streamPut => 0x10 | .streamGet => 0x11 | .streamPeek => 0x12
  | .cmd => 0x20 | .statusDigest => 0x30 | .nop => 0x3F | .sessionOpen => 0x40 | .sessionAuth => 0x41 | .sessionClose => 0x42

/-- Every operation. -/
def allOps : List HspOp :=
  [.regRead, .regWrite, .regWriteVerify, .streamPut, .streamGet, .streamPeek, .cmd, .statusDigest, .nop, .sessionOpen, .sessionAuth,
    .sessionClose]

/-- The operation of an OP code, if there is one. -/
def opOf (b : Byte) : Option HspOp := allOps.find? (fun o => opCode o = b.toNat)

/-- Operations with a payload. -/
def opPayload : HspOp → Bool
  | .regWrite | .regWriteVerify | .streamPut | .cmd | .sessionOpen | .sessionAuth | .sessionClose => true
  | .regRead | .streamGet | .streamPeek | .statusDigest | .nop => false

/-- Operations that take VERIFY, and those that take URGENT. -/
def opVerify : HspOp → Bool
  | .regWrite | .streamPut => true
  | _ => false

def opUrgent : HspOp → Bool
  | .regRead | .regWrite | .regWriteVerify | .cmd | .statusDigest | .nop => true
  | _ => false

/-- Register operations. -/
def opReg : HspOp → Bool
  | .regRead | .regWrite | .regWriteVerify => true
  | _ => false

/-- FLAGS of a frame (08 R277). -/
def frQuad (f : Frame) : Bool := f.flags.getLsbD 0
def frVerify (f : Frame) : Bool := f.flags.getLsbD 1
def frUrgent (f : Frame) : Bool := f.flags.getLsbD 2
def frCh (f : Frame) : Fin 8 := Fin.ofNat 8 (f.flags.toNat / 8)

/-- Header bytes 0 to 7 of a frame (08 R277). -/
def headerBytes (op : HspOp) (f : Frame) : List Byte :=
  [BitVec.ofNat 8 (opCode op), f.stream, f.seq, f.flags] ++ leBytes 2 f.addr.toNat ++ leBytes 2 f.len.toNat

/-- HCRC and PCRC of a frame (08 R277, R280), and its CHK (R295). -/
def headerCrc (op : HspOp) (f : Frame) : Word := crc32c (headerBytes op f)
def payloadCrc (f : Frame) : Word := crc32c f.payload
def frameChk (op : HspOp) (f : Frame) : Word := if opPayload op then payloadCrc f else headerCrc op f

/-- The first frame of header bytes 0 to 7, without its payload. -/
def headerFrame (b : List Byte) : Frame :=
  ⟨b.getD 1 0, b.getD 2 0, b.getD 3 0, BitVec.ofNat 16 (leNat ((b.drop 4).take 2)), BitVec.ofNat 16 (leNat ((b.drop 6).take 2)), []⟩

/-- The body of a REQ_HSP message without DISP (02 R55). -/
def requestBody (op : HspOp) (f : Frame) : List Byte :=
  headerBytes op f ++ (if opPayload op then f.payload ++ leBytes 4 (payloadCrc f).toNat else [])

/-! ## The header checks (08 R278) -/

/-- The stations' pages and streams that the variant lacks (00 R3). -/
def pageAbsent (u : UnitInfo) (p : Nat) : Bool := u.tw2 && 0x60 ≤ p && p < 0x80

/-- ADDR and LEN address whole registers of one page (05 R158). -/
def regRange (a n : Nat) : Bool := a % 4 = 0 && n % 4 = 0 && 4 ≤ n && n ≤ 256 && a + n ≤ 256

/-- STREAM, ADDR and LEN lie in the ranges that the operation table gives (08 R285, 05 R158, R159, 00 R3, 09 R341). -/
def opRange (u : UnitInfo) (op : HspOp) (f : Frame) : Bool :=
  let s := f.stream.toNat
  let a := f.addr.toNat
  let n := f.len.toNat
  match op with
  | .regRead => regRange a n && !reservedPage s && !pageAbsent u s
  | .regWrite | .regWriteVerify => regRange a n && !reservedPage s && !pageAbsent u s && s != 2
  | .streamPut => a = 0 && 1 ≤ n && n ≤ 4096 && !strdAbsent u s
  | .streamGet => a = 0 && n ≤ 4096 && n % 8 = 0 && !strdAbsent u s
  | .streamPeek => 16 ≤ n && n ≤ 4096 && n % 8 = 0 && !strdAbsent u s
  | .cmd => 4 ≤ n && n ≤ 64 && n % 4 = 0 && !reservedPage s && !pageAbsent u s
  | .statusDigest | .nop => s = 0 && a = 0 && n = 0
  | .sessionOpen | .sessionClose => s = 0 && a = 0 && n = 4
  | .sessionAuth => s = 0 && a = 0 && n = 36

/-- FLAGS that the operation does not allow, and CMD to a Headstock page (08 R278, R287, R308). -/
def opBad (op : HspOp) (f : Frame) : Bool :=
  f.flags.getLsbD 6 || f.flags.getLsbD 7 || (frVerify f && !opVerify op) || (frUrgent f && (!opUrgent op || 64 < f.len.toNat))
    || (op = .cmd && (f.stream = 1 || f.stream = 2))

/-- The refusals of a header whose HCRC is good, before the field side's presence counts (08 R278). -/
def headerCheck (u : UnitInfo) (op : HspOp) (f : Frame) : Option Nat := refusal [(opBad op f, badOp), (!opRange u op f, badAddr)]

/-- The registers from offset `a`, `n` bytes, of page `p` are Headstock-local (05 R187, R188). -/
def localRegs (p a n : Nat) : Bool := p = 1 || p = 2 || (p = 0 && ((a = 0 && n = 4) || (0x20 ≤ a && a + n ≤ 0x30)))

/-- A frame that the Headstock answers itself (08 R290). -/
def frameLocal (op : HspOp) (f : Frame) : Bool := opReg op && localRegs f.stream.toNat f.addr.toNat f.len.toNat

/-- The register writes of a payload at offset `a` of page `p`. -/
def payloadWr (p : Nat) (mb : Bool) (a : Nat) (d : List Byte) : Wr :=
  let ws := bytesToWords (d.length / 4) d
  ⟨p, mb, (List.range ws.length).map (fun i => (p * 256 + a + 4 * i, ws.getD i 0))⟩

/-! ## Endings of a frame (08 R276, R281, R282) -/

/-- The body of a response: STATUS, SEQ, SNAP, data and RCRC. -/
def responseBody (st : Nat) (seq : Byte) (snap : Word) (data : List Byte) : List Byte :=
  let b := [BitVec.ofNat 8 st, seq] ++ leBytes 4 snap.toNat ++ data
  b ++ leBytes 4 (crc32c b).toNat

/-- The error form. -/
def errorForm (st : Nat) (seq : Byte) : List Byte := [0x5A, BitVec.ofNat 8 st, seq, BitVec.ofNat 8 st ^^^ 0xFF]

/-! ## Commands of the management bus (09 R336) -/

/-- The protocol of a command code: Read (with the count of data bytes, and whether it is a block), write data counts. -/
inductive MbCmd where
  | statusWord | alarmSummary | unitState | maxTemp | groupTemps | stationStatus | faultClear | pageSel | regData | eventFetch
  | heartbeat | sleepReq | identity | wakePing
  deriving DecidableEq, Repr

def mbCode : MbCmd → Byte
  | .statusWord => 0x01 | .alarmSummary => 0x02 | .unitState => 0x03 | .maxTemp => 0x10 | .groupTemps => 0x11
  | .stationStatus => 0x20 | .faultClear => 0x30 | .pageSel => 0x40 | .regData => 0x41 | .eventFetch => 0x50 | .heartbeat => 0x60
  | .sleepReq => 0x70 | .identity => 0x7E | .wakePing => 0xF0

def allMbCmds : List MbCmd :=
  [.statusWord, .alarmSummary, .unitState, .maxTemp, .groupTemps, .stationStatus, .faultClear, .pageSel, .regData, .eventFetch,
    .heartbeat, .sleepReq, .identity, .wakePing]

def mbOf (b : Byte) : Option MbCmd := allMbCmds.find? (fun c => mbCode c = b)

/-- Commands with a read, and whether that is a block read. -/
def mbReads : MbCmd → Option Bool
  | .statusWord | .unitState | .maxTemp => some false
  | .alarmSummary | .groupTemps | .stationStatus | .pageSel | .regData | .eventFetch | .identity => some true
  | .faultClear | .heartbeat | .sleepReq | .wakePing => none

/-- The count of data bytes of a fixed-length read, for the failed-read form (09 R332). -/
def mbFixed : MbCmd → Nat
  | .statusWord | .maxTemp => 2
  | .unitState => 1
  | _ => 0

/-- Whether a write of `n` data bytes is one that the command table gives. -/
def mbWrites (c : MbCmd) (n : Nat) : Bool :=
  match c with
  | .faultClear | .sleepReq => n = 1
  | .pageSel => n = 3
  | .regData => 4 ≤ n && n ≤ 32 && n % 4 = 0
  | .eventFetch => n = 4
  | .heartbeat | .wakePing => n = 0
  | .statusWord | .alarmSummary | .unitState | .maxTemp | .groupTemps | .stationStatus | .identity => false

/-- Block writes carry a count byte (09 R324). -/
def mbBlockWrite : MbCmd → Bool
  | .pageSel | .regData | .eventFetch => true
  | _ => false

end Sys2Proof.Machine
end

