-- ==== Sys2Proof/Machine/Symbols.lean ====
section
/-! DEFINITION. The symbols of the Varfen lanes (02 R47, R48, R53): data bytes and control symbols, their 8b/10b codes with running
disparity, and what a receiver makes of ten-bit codes. -/

namespace Sys2Proof.Machine

/-- The control symbols of the lanes (02 R48). -/
inductive Ctl where
  /-- K28.5: alignment before a burst. -/
  | comma
  /-- K27.7: start of a message. -/
  | sof
  /-- K28.1: start of an H2F message inserted inside another. -/
  | soi
  /-- K29.7: end of a message. -/
  | eof
  deriving DecidableEq, Repr

/-- A symbol of a lane (02 R47, R48). -/
inductive Sym where
  | data (b : Byte)
  | ctl (c : Ctl)
  deriving DecidableEq, Repr

/-! ## 8b/10b codes

The manual names the code and leaves its tables to it (log entry 104, PRESUMED): a code's first bit on the lane is its most significant,
`rd` is the running disparity before it, true where it is positive. -/

/-- The six-bit codes of D0 to D31 (bits [4:0] of the byte) at negative disparity. -/
def code6Tab : List Nat :=
  [0b100111, 0b011101, 0b101101, 0b110001, 0b110101, 0b101001, 0b011001, 0b111000, 0b111001, 0b100101, 0b010101, 0b110100, 0b001101,
    0b101100, 0b011100, 0b010111, 0b011011, 0b100011, 0b010011, 0b110010, 0b001011, 0b101010, 0b011010, 0b111010, 0b110011, 0b100110,
    0b010110, 0b110110, 0b001110, 0b101110, 0b011110, 0b101011]

/-- The four-bit codes of bits [7:5] of the byte at negative disparity; the last is the alternate of the one before it. -/
def code4Tab : List Nat := [0b1011, 0b1001, 0b0101, 0b1100, 0b1101, 0b1010, 0b0110, 0b1110, 0b0111]

/-- The form of the `w`-bit code `c` at disparity `rd`: its complement at positive disparity where it is unbalanced, or one of the two
balanced codes that come in pairs. -/
def codeForm (w c : Nat) (rd : Bool) : Nat :=
  if rd && (popcount w c != w / 2 || c = 0b111000 || (w = 4 && c = 0b1100)) then 2 ^ w - 1 - c else c

/-- The disparity after the `w`-bit code `c`. -/
def codeRd (w c : Nat) (rd : Bool) : Bool := if popcount w c = w / 2 then rd else !rd

/-- The six-bit code of `x` at disparity `rd`. -/
def code6 (x : Nat) (rd : Bool) : Nat := codeForm 6 (code6Tab.getD x 0) rd

/-- The four-bit code of `y` behind the six-bit code of `x`, whose disparity is `rd`: the alternate of D.x.7 keeps a run of five out. -/
def code4 (x y : Nat) (rd : Bool) : Nat :=
  let alt := y = 7 && (if rd then x = 11 || x = 13 || x = 14 else x = 17 || x = 18 || x = 20)
  codeForm 4 (code4Tab.getD (if alt then 8 else y) 0) rd

/-- The code of a control symbol at negative disparity. -/
def ctlTab : Ctl → Nat
  | .comma => 0b0011111010 | .sof => 0b1101101000 | .soi => 0b0011111001 | .eof => 0b1011101000

/-- A control symbol's code at disparity `rd`. -/
def ctlCode (c : Ctl) (rd : Bool) : Nat := if rd then 0b1111111111 - ctlTab c else ctlTab c

/-- The ten bits of a symbol at disparity `rd`, and the disparity after it (02 R47). -/
def Sym.code (s : Sym) (rd : Bool) : BitVec 10 × Bool :=
  match s with
  | .ctl c => (BitVec.ofNat 10 (ctlCode c rd), codeRd 10 (ctlTab c) rd)
  | .data b =>
    let x := b.toNat % 32
    let c := code6 x rd
    let r := codeRd 6 c rd
    let d := code4 x (b.toNat / 32) r
    (BitVec.ofNat 10 (16 * c + d), codeRd 4 d r)

/-- The codes of a burst from disparity `rd` on. -/
def codesOf : Bool → List Sym → List (BitVec 10)
  | _, [] => []
  | rd, s :: l => (s.code rd).1 :: codesOf (s.code rd).2 l

/-! ## The receiver (02 R49, R53) -/

/-- The control symbol whose code at disparity `rd` is `c`. -/
def ctlOf (c : BitVec 10) (rd : Bool) : Option Ctl :=
  [Ctl.comma, Ctl.sof, Ctl.soi, Ctl.eof].find? (fun k => ctlCode k rd = c.toNat)

/-- The data byte whose code at disparity `rd` is `c`. -/
def byteOf (c : BitVec 10) (rd : Bool) : Option Byte :=
  match (List.range 32).find? (fun x => code6 x rd = c.toNat / 16) with
  | none => none
  | some x =>
    let r := codeRd 6 (c.toNat / 16) rd
    ((List.range 8).find? (fun y => code4 x y r = c.toNat % 16)).map (fun y => BitVec.ofNat 8 (x + 32 * y))

/-- The symbol of a ten-bit code at disparity `rd`; none for a code violation or a running-disparity error (02 R53). -/
def symOf (c : BitVec 10) (rd : Bool) : Option Sym :=
  match ctlOf c rd with
  | some k => some (.ctl k)
  | none => (byteOf c rd).map .data

/-- The symbols that a receiver takes from ten-bit codes: at a COMMA it realigns and takes the disparity of the COMMA's own code (02 R49,
the start of a burst); after a bad code it keeps the disparity it had. -/
def symsOf : Bool → List (BitVec 10) → List (Option Sym)
  | _, [] => []
  | rd, c :: l =>
    if c.toNat = ctlCode .comma false then some (.ctl .comma) :: symsOf true l
    else if c.toNat = ctlCode .comma true then some (.ctl .comma) :: symsOf false l
    else match symOf c rd with
      | some s => some s :: symsOf (s.code rd).2 l
      | none => none :: symsOf rd l

/-- What a receiver has of a message: a byte for each symbol behind SOF or SOI, none for one that is no data byte, and whether EOF ended
it. -/
structure Caught where
  bytes : List (Option Byte)
  ended : Bool
  deriving DecidableEq, Repr

/-- The symbols of a message up to its EOF. -/
def catchBody : List (Option Sym) → Caught
  | [] => ⟨[], false⟩
  | some (.ctl .eof) :: _ => ⟨[], true⟩
  | some (.ctl .comma) :: l => catchBody l
  | some (.data b) :: l => let c := catchBody l; { c with bytes := some b :: c.bytes }
  | _ :: l => let c := catchBody l; { c with bytes := none :: c.bytes }

/-- The first message among the symbols: none where neither SOF nor SOI starts one (02 R48, R49). -/
def catchMsg : List (Option Sym) → Option Caught
  | [] => none
  | some (.ctl .sof) :: l => some (catchBody l)
  | some (.ctl .soi) :: l => some (catchBody l)
  | _ :: l => catchMsg l

/-! ## The frame of every message (02 R54, R57 to R60) -/

/-- The bytes of a message: header, body and CRC-32C over both (02 R54, R59). `flags` holds RETX and MORE. -/
def msgBytes (ty flags : Nat) (lseq : Half) (cstr seg : Nat) (body : List Byte) : List Byte :=
  let b := [BitVec.ofNat 8 ty, BitVec.ofNat 8 flags] ++ leBytes 2 lseq.toNat ++ leBytes 2 body.length
    ++ [BitVec.ofNat 8 cstr, BitVec.ofNat 8 seg] ++ body
  b ++ leBytes 4 (crc32c b).toNat

/-- The fields of a message that checked good: TYPE, FLAGS, LSEQ, CSTR, SEG and body. -/
structure Msg where
  ty : Nat
  flags : Nat
  lseq : Half
  cstr : Nat
  seg : Nat
  body : List Byte
  deriving DecidableEq, Repr

/-- The header and the body that bytes spell (02 R54). -/
def msgOf (b : List Byte) : Msg :=
  ⟨(b.getD 0 0).toNat, (b.getD 1 0).toNat, BitVec.ofNat 16 (leNat ((b.drop 2).take 2)), (b.getD 6 0).toNat, (b.getD 7 0).toNat,
    (b.drop 8).take (b.length - 12)⟩

/-- REASON codes of a NAK (02 R57). -/
def nakCrc : Nat := 1
def nakCode : Nat := 2
def nakLength : Nat := 3
def nakType : Nat := 4
def nakIncomplete : Nat := 5

/-- The check of a message's bytes between start and end symbol: the REASON of its defect, if it has one (02 R53, R57, R59, R60). Several
defects together give the first of code violation, length mismatch and CRC error (DESIGN CHOICE, log entry 104). -/
def msgDefect (b : List (Option Byte)) : Option Nat :=
  let d := b.filterMap id
  if b.any (·.isNone) then some nakCode
  else if d.length < 12 || d.length != leNat ((d.drop 4).take 2) + 12 then some nakLength
  else if BitVec.ofNat 32 (leNat (d.drop (d.length - 4))) != crc32c (d.take (d.length - 4)) then some nakCrc
  else none

/-- The header of a message can be read: its eight bytes are data bytes (02 R63). -/
def headerOf (b : List (Option Byte)) : Option Msg :=
  if 8 ≤ b.length && (b.take 8).all (·.isSome) then some (msgOf (b.map (·.getD 0))) else none

end Sys2Proof.Machine
end

