-- ==== Sys2Proof/Machine/Messages.lean ====
section
/-! DEFINITION. The messages of the Varfen lanes as bytes and as ten-bit codes (02 sections 2, 3), and what the receiving half makes of
the codes that arrive. -/

namespace Sys2Proof.Machine

/-! ## Messages as bytes (02 R54 to R57) -/

/-- The DISP byte (02 R56). -/
def dispCode : Disp → Nat
  | .execute => 0x00 | .replay => 0x01 | .abandon => 0xFF

/-- The body of a REQ_HSP: the HSP header, the payload with its PCRC, DISP. Of an abandoned request that was cut short (08 R315) the
missing payload bytes go out as 0x00, so that LEN holds (DESIGN CHOICE, log entry 104). -/
def reqHspBody (op : HspOp) (f : Frame) (chk : Word) (d : Disp) : List Byte :=
  headerBytes op f ++ (if opPayload op then padTo f.len.toNat f.payload ++ leBytes 4 chk.toNat else []) ++ [BitVec.ofNat 8 (dispCode d)]

/-- The body of a REQ_MB. -/
def reqMbBody (cmd : Byte) (d : List Byte) (disp : Disp) : List Byte :=
  [cmd, BitVec.ofNat 8 d.length] ++ d ++ [BitVec.ofNat 8 (dispCode disp)]

/-- The body of a NAK: LSEQ_REF and REASON. -/
def nakBody (lseq : Half) (reason : Nat) : List Byte := leBytes 2 lseq.toNat ++ [BitVec.ofNat 8 reason]

/-- The bytes of an H2F message, from header to CRC. -/
def H2F.bytes : H2F → List Byte
  | .reqHsp c l op f chk d => msgBytes 0x01 0 l c 0 (reqHspBody op f chk d)
  | .reqMb c l cmd d disp => msgBytes 0x02 0 l c 0 (reqMbBody cmd d disp)
  | .nakH c l k r _ => msgBytes 0x0F 0 l c k (nakBody l r)

/-- The bytes of an F2H message. FLAGS[0] is RETX, FLAGS[1] MORE. -/
def F2H.bytes : F2H → List Byte
  | .seg mb c l k more retx b => msgBytes (if mb then 0x82 else 0x81) (b2n retx + 2 * b2n more) l c k b
  | .nakF _ c l r => msgBytes 0x8F 0 l c 0 (nakBody l r)

/-! ## Messages as symbols (02 R47 to R51) -/

/-- The bursts of an H2F message, each after one COMMA (02 R48, R49). A REQ_HSP begins with its header and the HSP header; each payload
byte is shorter on the lane than the host's clock takes for it, so that the lane rests before each and the next is a burst of its own; the
last one closes the message. A REQ_MB stands whole between SOI and EOF (R51). -/
def H2F.bursts (m : H2F) : List (List Sym) :=
  let b := m.bytes.map Sym.data
  match m with
  | .reqHsp _ _ op f _ _ =>
    if opPayload op then
      let n := f.len.toNat + 4
      ([.ctl .comma, .ctl .sof] ++ b.take 16) :: (((b.drop 16).take (n - 1)).map (fun x => [.ctl .comma, x])
        ++ [[.ctl .comma] ++ b.drop (15 + n) ++ [.ctl .eof]])
    else [[.ctl .comma, .ctl .sof] ++ b ++ [.ctl .eof]]
  | .reqMb .. => [[.ctl .comma, .ctl .soi] ++ b ++ [.ctl .eof]]
  | .nakH _ _ _ _ ins => [[.ctl .comma, .ctl (if ins then .soi else .sof)] ++ b ++ [.ctl .eof]]

/-- The codes of an H2F message. Each burst starts at negative disparity (PRESUMED, log entry 104). -/
def H2F.codes (m : H2F) : List (BitVec 10) := m.bursts.flatMap (codesOf false)

/-- The symbols of an F2H message: eight COMMAs, SOF, the bytes, EOF (02 R48). -/
def F2H.symbols (m : F2H) : List Sym := List.replicate 8 (.ctl .comma) ++ [.ctl .sof] ++ m.bytes.map Sym.data ++ [.ctl .eof]

def F2H.codes (m : F2H) : List (BitVec 10) := codesOf false m.symbols

/-- The symbols that a message takes on its lane (02 R47, R48, R88). -/
def H2F.count (m : H2F) : Nat := (m.bursts.map List.length).sum
def F2H.count (m : F2H) : Nat := m.symbols.length

/-- BL_RXCLK runs while a message is on the F2H lane, from its first COMMA to two symbol times after its EOF (02 R50): the symbol times. -/
def F2H.clocked (m : F2H) : Nat := m.count + 2

/-- BL_RXCLK is forwarded (02 R50). -/
def State.rxClk (s : State) : Bool := !s.f2h.isEmpty

/-! ## What arrives (02 R53, R57, R60, R62, R63) -/

/-- The codes that arrive. -/
def arrive (rx : Rx) (codes : List (BitVec 10)) : List (BitVec 10) :=
  match rx with
  | .asSent => codes
  | .altered c => c

/-- What a receiving half makes of the codes that arrive: a good message, one with a defect of the given REASON and its header where it
can be read, one that no EOF ends, or none. -/
inductive Heard (α : Type) where
  | good (m : α)
  | bad (reason : Nat) (hdr : Option Msg)
  | cut (hdr : Option Msg)
  | none
  deriving DecidableEq, Repr

/-- The reception of codes, with `read` the meaning of a message that checked good: one without a meaning has an unknown TYPE, or, where
its TYPE is known, a body whose length is not that of its layout (DESIGN CHOICE, log entry 104). -/
def hear {α : Type} (known : Nat → Bool) (read : Msg → Option α) (codes : List (BitVec 10)) : Heard α :=
  match catchMsg (symsOf false codes) with
  | none => .none
  | some c =>
    if !c.ended then .cut (headerOf c.bytes)
    else match msgDefect c.bytes with
      | some r => .bad r (headerOf c.bytes)
      | none =>
        let m := msgOf (c.bytes.filterMap id)
        match read m with
        | some x => .good x
        | none => .bad (if known m.ty then nakLength else nakType) (headerOf c.bytes)

/-- The DISP that a byte spells (02 R56): any other value is handled as ABANDON (DESIGN CHOICE, log entry 104). -/
def dispOf (b : Byte) : Disp := if b = 0x00 then .execute else if b = 0x01 then .replay else .abandon

/-- A REQ_HSP from its body (02 R55); CHK is the PCRC where there is one, else the CRC of the HSP header (08 R295). -/
def readReqHsp (m : Msg) : Option H2F :=
  match opOf (m.body.getD 0 0) with
  | none => none
  | some op =>
    let f := headerFrame m.body
    let n := f.len.toNat
    if m.body.length != 9 + (if opPayload op then n + 4 else 0) then none
    else
      let p := if opPayload op then (m.body.drop 8).take n else []
      let chk := if opPayload op then BitVec.ofNat 32 (leNat ((m.body.drop (8 + n)).take 4)) else headerCrc op f
      some (.reqHsp m.cstr m.lseq op { f with payload := p } chk (dispOf (m.body.getD (m.body.length - 1) 0)))

/-- A message of the H2F lane from one that checked good (02 R55). -/
def readH2F (m : Msg) : Option H2F :=
  if m.ty = 0x01 then readReqHsp m
  else if m.ty = 0x02 then
    let n := (m.body.getD 1 0).toNat
    if m.body.length = n + 3 then some (.reqMb m.cstr m.lseq (m.body.getD 0 0) ((m.body.drop 2).take n) (dispOf (m.body.getD (n + 2) 0)))
    else none
  else if m.ty = 0x0F then
    if m.body.length = 3 then
      some (.nakH m.cstr (BitVec.ofNat 16 (leNat (m.body.take 2))) m.seg (m.body.getD 2 0).toNat false)
    else none
  else none

/-- A message of the F2H lane from one that checked good (02 R55, R63). -/
def readF2H (m : Msg) : Option F2H :=
  if m.ty = 0x81 || m.ty = 0x82 then some (.seg (m.ty = 0x82) m.cstr m.lseq m.seg (bitOf m.flags 1) (bitOf m.flags 0) m.body)
  else if m.ty = 0x8F then
    if m.body.length = 3 then some (.nakF (m.cstr != 0xFF) m.cstr (BitVec.ofNat 16 (leNat (m.body.take 2))) (m.body.getD 2 0).toNat)
    else none
  else none

/-- The types of each lane (02 R55). -/
def h2fType (t : Nat) : Bool := t = 0x01 || t = 0x02 || t = 0x0F
def f2hType (t : Nat) : Bool := t = 0x81 || t = 0x82 || t = 0x8F

/-- What the field side hears when H2F message `m` arrives as `rx`. -/
def H2F.heard (m : H2F) (rx : Rx) : Heard H2F := hear h2fType readH2F (arrive rx m.codes)

/-- What the Headstock hears when F2H message `m` arrives as `rx`. -/
def F2H.heard (m : F2H) (rx : Rx) : Heard F2H := hear f2hType readF2H (arrive rx m.codes)

end Sys2Proof.Machine
end

