-- ==== Sys2Proof/Machine/Loops.lean ====
section
/-! DEFINITION. The control loops and their arithmetic (13): Q15 and block floating point, PID, notches and the low-pass, angles and
transforms, the torque chain, the voltage limit. -/

namespace Sys2Proof.Machine

/-! ## Helper operations (13 R499, R500) -/

/-- rnd15 (13 R500). -/
def rnd15 (v : Int) : Int := if 0 ≤ v then (v + 16384) / 32768 else (v + 16383) / 32768

/-- rshr (13 R500); a count below 0 shifts left. -/
def rshr (v s : Int) : Int := if 48 ≤ s then 0 else if s ≤ 0 then v * 2 ^ (-s).toNat else roundDiv v (2 ^ s.toNat)

def sat16 (v : Int) : Int := satS 16 v
def sat40 (v : Int) : Int := satS 40 v

/-- mulk of a K-format coefficient `k` (13 R499, R521). -/
def mulk (v : Int) (k : Nat) : Int := sat40 (v * sx 16 (k % 65536) * 2 ^ (k / 65536 % 16))

/-- MAX and MIN of a LIM-format register (13 R521): a MIN above MAX acts as MAX. -/
def limMax (w : Nat) : Int := sx 16 (w / 65536)
def limMin (w : Nat) : Int := min (limMax w) (sx 16 (w % 65536))

/-- The integer square root, truncated. -/
def isqrt (v : Int) : Int := (Nat.sqrt v.toNat : Nat)

/-! ## Block floating point (13 R503 to R505) -/

def normUp : Nat → Int → Int → Int × Int
  | 0, m, e => (m, e)
  | k + 1, m, e => if 32767 < m || m < -32768 then normUp k (rshr m 1) (e + 1) else (m, e)

def normDown : Nat → Int → Int → Int × Int
  | 0, m, e => (m, e)
  | k + 1, m, e => if m != 0 && -16384 ≤ m && m ≤ 16383 && -32 < e then normDown k (m * 2) (e - 1) else (m, e)

/-- norm (13 R503): the pair, and whether it saturated. -/
def norm (m e : Int) : Bfp × Bool :=
  let (m, e) := normUp 64 m e
  let (m, e) := normDown 64 m e
  let e := if m = 0 then -32 else e
  if 31 < e then (⟨if m < 0 then -32768 else 32767, 31⟩, true) else (⟨m, e⟩, false)

/-- A Q15 code in a BFP path (13 R505). -/
def bfpCode (c : Int) : Bfp := (norm c 0).1

/-- A BFP value for a Q15 consumer (13 R505). -/
def Bfp.q15 (b : Bfp) : Int := if 0 ≤ b.e then sat16 (b.m * 2 ^ b.e.toNat) else rshr b.m (-b.e)

/-- The stage exponent of a step (13 R504 step 1), from the exponents of the inputs and the state mantissas at `es`. -/
def stageExp (es : Int) (ins : List Int) (mants : List Int) : Int :=
  min 31 (max (es - 8) (1 + (ins ++ mants.map (fun m => (norm m es).1.e)).foldl max (-32)))

/-- A state mantissa re-expressed at `es2` (13 R504 step 2). -/
def reexp (es es2 v : Int) : Int := rshr v (es2 - es)

/-- An input aligned to the stage exponent (13 R504 step 3). -/
def Bfp.align (b : Bfp) (es : Int) : Int := rshr b.m (es - b.e)

/-- Whether `v * 2 ^ es` exceeds the code `c`, exactly (13 R504 step 5). -/
def exceeds (v es c : Int) : Bool := c * 2 ^ (-es).toNat < v * 2 ^ es.toNat

/-! ## PID (13 R501, R504) -/

/-- What a PID instance reads from its page. -/
structure PidC where
  bfp : Bool
  kp : Nat
  ki : Nat
  kd : Nat
  kf : Nat
  a : Int
  olim : Nat
  ilim : Nat
  dsrc : Bool
  deriving DecidableEq, Repr

/-- The outcome of pid_out: the instance, its inputs and terms, the output, and BFP_OVF. -/
structure PidOut where
  p : Pid
  r : Int
  y : Int
  pterm : Int
  iterm : Int
  dterm : Int
  out : Bfp
  ovf : Bool
  deriving DecidableEq, Repr

/-- pid_out (13 R501, R504): reference `r`, feedback `y`, feed-forward `ff`; `xs` is the derivative source of position mode (R517). -/
def pidOut (c : PidC) (p : Pid) (r y ff : Bfp) (xs : Option Bfp) : PidOut :=
  let es := if c.bfp then stageExp p.es ([r.e, y.e, ff.e] ++ (xs.map (·.e)).toList) [rnd15 p.ai, p.df, p.xprev] else 0
  let ai := if c.bfp then reexp p.es es p.ai else p.ai
  let df0 := if c.bfp then reexp p.es es p.df else p.df
  let xprev := if c.bfp then reexp p.es es p.xprev else p.xprev
  let r := r.align es
  let y := y.align es
  let ff := ff.align es
  let e := sat16 (r - y)
  let x := if c.dsrc then (match xs with | some b => b.align es | none => sat16 (-y)) else e
  let dx := sat16 (x - xprev)
  let df := sat16 (rnd15 (c.a * df0 + (32768 - c.a) * dx))
  let pterm := mulk e c.kp
  let dterm := mulk df c.kd
  let acc := sat40 (sat40 (sat40 (pterm + ai) + dterm) + mulk ff c.kf)
  let v := rnd15 acc
  let hi := exceeds v es (limMax c.olim)
  let lo := !hi && exceeds (-v) es (-limMin c.olim)
  let code := if hi then limMax c.olim else limMin c.olim
  let (out, ovf) := if c.bfp then (if hi || lo then norm code 0 else norm v es) else (⟨if hi || lo then code else v, 0⟩, false)
  ⟨⟨ai, df, x, e, hi, lo, es⟩, r, y, pterm, ai, dterm, out, ovf⟩

/-- Whether the integrator of a step is held, by freeze or by the clamp (13 R501). -/
def pidHeld (p : Pid) (freeze : Bool) : Bool := freeze || (p.hi && 0 < p.e) || (p.lo && p.e < 0)

/-- An upper integrator limit at the stage exponent: the largest mantissa that lies inside it (13 R501, R502, R504; log entry 78). -/
def limAt (code es : Int) : Int := code * 32768 * 2 ^ (-es).toNat / 2 ^ es.toNat

/-- pid_int (13 R501, R502, R504). -/
def pidInt (c : PidC) (p : Pid) (freeze : Bool) : Pid :=
  let ai := if pidHeld p freeze then p.ai else sat40 (p.ai + mulk p.e c.ki)
  let ai := if exceeds ai p.es (limMax c.ilim * 32768) then limAt (limMax c.ilim) p.es
    else if exceeds (-ai) p.es (-(limMin c.ilim * 32768)) then -limAt (-limMin c.ilim) p.es else ai
  { p with ai := ai }

/-- A PID preset so that its integrator gives `out` and its derivative source is at `x` (13 R494). -/
def pidPreset (bfp : Bool) (out x : Bfp) : Pid :=
  let es := if bfp then min 31 (1 + max (max out.e x.e) (-32)) else 0
  ⟨rshr (out.m * 32768) (es - out.e), 0, x.align es, 0, false, false, es⟩

/-! ## Trace node words (14 R544, R545) -/

def nodeL (m e : Int) : Nat := enc 16 m + enc 6 e * 2 ^ 16
def nodeA (term es : Int) : Nat := enc 25 (rnd15 term) + enc 6 es * 2 ^ 25
def nodeS (v : Int) : Nat := enc 32 v

/-- The eight nodes of a PID block (14 R544). -/
def pidNodes (o : PidOut) (held : Bool) : List Nat :=
  [nodeL o.r o.p.es, nodeL o.y o.p.es, nodeL o.p.e o.p.es, nodeA o.pterm o.p.es, nodeA o.iterm o.p.es, nodeA o.dterm o.p.es,
    nodeL o.out.m o.out.e, b2n o.p.hi + 2 * b2n o.p.lo + 4 * b2n held + 8 * b2n o.ovf]

/-! ## Notches and the low-pass (13 R507 to R509) -/

/-- The coefficients of a notch. -/
structure NotchC where
  en : Bool
  b0 : Int
  b1 : Int
  b2 : Int
  a1 : Int
  a2 : Int
  nsh : Nat
  deriving DecidableEq, Repr

/-- A notch held at its input (13 R494, R507). -/
def notchAt (x : Bfp) : Notch := ⟨x.m, x.m, x.m, x.m, x.e⟩

/-- One step of a notch (13 R504, R508): its state, the output, whether it saturated, BFP_OVF. -/
def notchStep (bfp : Bool) (c : NotchC) (s : Notch) (x : Bfp) : Notch × Bfp × Bool × Bool :=
  if !c.en then (notchAt x, x, false, false)
  else
    let es := if bfp then stageExp s.es [x.e] [s.x1, s.x2, s.y1, s.y2] else 0
    let re (v : Int) : Int := if bfp then reexp s.es es v else v
    let x0 := x.align es
    let x1 := re s.x1
    let y1 := re s.y1
    let sum := sat40 (c.b0 * x0 + c.b1 * x1 + c.b2 * re s.x2 - c.a1 * y1 - c.a2 * re s.y2)
    let v := rnd15 (sat40 (sum * 2 ^ c.nsh))
    let y := sat16 v
    let (out, ovf) := if bfp then norm v es else (⟨y, 0⟩, false)
    (⟨x0, x1, y, y1, es⟩, out, y != v, ovf)

/-- The coefficients of notch `j` of station `n`, from bank B where `b` (13 R508, 14 R530). -/
def Tail.notchC (t : Tail) (n j : Nat) (b : Bool) : NotchC :=
  let k (fa fb : Fd) : Nat := t.cf (if b then fb else fa)
  ⟨t.enabled (stnPage n 8) && k (FILT_NC.EN n j) (BNKB_FILT_NC.EN n j) = 1,
    sx 16 (k (FILT_NB.B0 n j) (BNKB_FILT_NB.B0 n j)), sx 16 (k (FILT_NB.B1 n j) (BNKB_FILT_NB.B1 n j)),
    sx 16 (k (FILT_NA.B2 n j) (BNKB_FILT_NA.B2 n j)), sx 16 (k (FILT_NA.A1 n j) (BNKB_FILT_NA.A1 n j)),
    sx 16 (k (FILT_NC.A2 n j) (BNKB_FILT_NC.A2 n j)), min 2 (k (FILT_NC.NSH n j) (BNKB_FILT_NC.NSH n j))⟩

/-! ## Angles and transforms (13 R511, R512) -/

/-- 2 pi in units of 2 ^ -96. -/
def twoPi96 : Nat := 497805226624462170461043889244

/-- The alternating series of the sine at `x` (units of 2 ^ -96) from the term `term` of degree `2 i - 1` on. -/
def sinSeries : Nat → Nat → Nat → Nat → Int
  | 0, _, _, _ => 0
  | fuel + 1, i, x2, term => (term : Int) - sinSeries fuel (i + 1) x2 (term * x2 / 2 ^ 96 / (2 * i * (2 * i + 1)))

/-- 32767 sin(2 pi a / 65536) for `a` in the first quadrant, rounded to the nearest integer (13 R512). -/
def sinQuarter (a : Nat) : Int :=
  let x := twoPi96 * a / 65536
  roundDiv (32767 * sinSeries 20 1 (x * x / 2 ^ 96) x) (2 ^ 96)

/-- s (13 R512), rounded exactly for each angle. -/
def sinCode (theta : Nat) : Int :=
  let h := theta % 32768
  let v := sinQuarter (if h ≤ 16384 then h else 32768 - h)
  if theta % 65536 < 32768 then v else -v

/-- c (13 R512). -/
def cosCode (theta : Nat) : Int := sinCode (theta + 16384)

/-- The encoder angle (13 R511). -/
def Tail.encAngle (t : Tail) (n : Stn) (old : Nat) : Nat :=
  let cpr := t.cf (FBP_CPR.CPR n)
  if cpr = 0 then (Config.angleNoCpr old (t.stnGet n).loops.posOk).toNat
  else
    let p := ((t.stnGet n).loops.posOk % (cpr : Int)).toNat
    (p * max 1 (t.cf (CURL_ANG.PP n)) * 65536 / cpr + t.cf (CURL_ANG.THETA_OFS n)) % 65536

/-- The slip angle advanced by one sample (13 R511): the new angle and the step. -/
def Tail.slipStep (t : Tail) (n : Stn) (iqRef : Int) (slip : Nat) : Nat × Int :=
  let b := t.b (BNKA_STAT.ACT_CUR n)
  let k := t.cf (if b then BNKB_CURL_KSLIP.K n else CURL_KSLIP.K n)
  let idr := sx 16 (t.cf (if b then BNKB_CURL_IDREF.IDREF n else CURL_IDREF.IDREF n))
  let d := sat16 (roundDiv (iqRef * sx 16 (k % 65536) * 2 ^ (k / 65536 % 16)) ((max idr 256).toNat * 2 ^ 15))
  (enc 16 (slip + d), d)

/-- The electrical angle of this sample (13 R511): the angle, the slip angle and its step. -/
def Tail.angle (t : Tail) (n : Stn) (iqRef : Int) : Nat × Nat × Int :=
  let l := (t.stnGet n).loops
  match t.cf (CURL_CFG.ANG_SRC n) with
  | 1 =>
    let s := t.g (FBA_STAT.SECTOR n)
    (if s = 0 then l.theta else (t.cf (FBA_HALLOFS.OFS n) + (s - 1) * 10923 + 5461) % 65536, l.slip, 0)
  | 2 =>
    let (sl, d) := t.slipStep n iqRef l.slip
    ((t.encAngle n l.theta + sl) % 65536, sl, d)
  | _ => (t.encAngle n l.theta, l.slip, 0)

/-! ## The torque chain (13 R513) -/

/-- The derating clamp (21 R743, R745). -/
def Tail.derate (t : Tail) (n : Stn) (x : Int) : Int × Tail :=
  if !t.b (THD_REQ.GRACE_OVER n) then (x, t)
  else
    let lim : Int := (sat16 (rnd15 ((t.g (THD_REQ.REQ n) : Int) * t.cfi (THD_TRATED.TRATED n)))).natAbs
    let y := clampI (-lim) lim x
    if y = x || t.b (THD_REQ.ENFORCED n) then (y, t)
    else (y, ((t.p (THD_REQ.ENFORCED n) 1).inc THD_CNT.ENFORCE).evt 0x35 1)

/-- The low-pass filter (13 R509): the output, the state, whether it saturated. -/
def Tail.lpf (t : Tail) (n : Stn) (x : Int) : Int × Bool :=
  let b := t.b (BNKA_STAT.ACT_CUR n)
  let w := if b then (t.cf (BNKB_FILT_LPF.EN n), t.cf (BNKB_FILT_LPF.A n)) else (t.cf (FILT_LPF.EN n), t.cf (FILT_LPF.A n))
  if w.1 = 0 || !t.enabled (stnPage n 8) then (x, false)
  else
    let v := rnd15 ((w.2 : Int) * (t.stnGet n).loops.lpf + (32768 - (w.2 : Int)) * x)
    (sat16 v, sat16 v != v)

/-- The limit of iq_ref (13 R513 step 5). -/
def iqLimit (imax idref : Int) : Int := if imax ≤ idref then 0 else isqrt (imax * imax - idref * idref)

/-! ## The current loop (13 section 6) -/

/-- The coefficients of the current loop's PIDs (13 R522, 14 R530). -/
def Tail.curlC (t : Tail) (n : Stn) : PidC :=
  let b := t.b (BNKA_STAT.ACT_CUR n)
  let k (fa fb : Fd) : Nat := t.cf (if b then fb else fa)
  ⟨false, k (CURL_KP.K n) (BNKB_CURL_KP.K n), k (CURL_KI.K n) (BNKB_CURL_KI.K n), k (CURL_KD.K n) (BNKB_CURL_KD.K n), 0,
    k (CURL_DPOLE.A n) (BNKB_CURL_DPOLE.A n), k (CURL_OLIM.LIM n) (BNKB_CURL_OLIM.LIM n), k (CURL_ILIM.LIM n) (BNKB_CURL_ILIM.LIM n),
    t.cfb (CURL_CFG.DSRC n)⟩

/-- Vlin and Vmax (13 R514): a negative Vmax acts as 0. -/
def Tail.vLimits (t : Tail) (n : Stn) (udc : Int) : Int × Int :=
  let vlin := rnd15 (udc * 18919)
  let mi : Int := clampN 0x4000 0x49E7 (t.cf (MOD_MAXMI.MI n))
  (vlin, max 0 (min 32767 ((vlin * mi + 8192) / 16384)))

/-- The voltage limit (13 R514): vd', vq' and VSAT. -/
def vLimit (vd vq vmax : Int) : Int × Int × Bool :=
  if vmax * vmax < vd * vd + vq * vq then
    let d := clampI (-vmax) vmax vd
    let q := isqrt (vmax * vmax - d * d)
    (d, if vq < 0 then -q else if vq = 0 then 0 else q, true)
  else (vd, vq, false)

/-- The torque chain (13 R513): the torque after derating, notch 2 and the low-pass, iq_ref, IQLIM, and the state after. -/
def Tail.torqueChain (t : Tail) (n : Stn) (tq : Int) : (Int × Int × Int) × Int × Bool × Tail :=
  let b := t.b (BNKA_STAT.ACT_CUR n)
  let (t2, t) := t.derate n tq
  let (n2, y, s2, _) := notchStep false (t.notchC n 2 b) (t.stnGet n).loops.n2 ⟨t2, 0⟩
  let t := if s2 then t.evt (stnPage n 8) 2 else t
  let (t4, s3) := t.lpf n y.m
  let t := if s3 then t.evt (stnPage n 8) 3 else t
  let t := t.loopsMap n (fun l => { l with n2 := n2, lpf := t4 })
  let q0 := sat16 (rnd15 (mulk t4 (t.cf (if b then BNKB_CURL_KT.K n else CURL_KT.K n))))
  let lim := iqLimit (sx 16 (t.cf (if b then BNKB_CURL_IMAX.IMAX n else CURL_IMAX.IMAX n)))
    (sx 16 (t.cf (if b then BNKB_CURL_IDREF.IDREF n else CURL_IDREF.IDREF n)))
  let q := clampI (-lim) lim q0
  ((t2, y.m, t4), q, q != q0, t)

/-- The flags of the current loop in its page, with their latches (13 R513 to R515, R520). -/
def Tail.curlFlags (t : Tail) (n : Stn) (vsat dclamp iqlim : Bool) : Tail :=
  let t := if vsat && !t.b (CURL_STAT.VSAT n) then t.evt (stnPage n 5) 0 else t
  let t := if iqlim && !t.b (CURL_STAT.IQLIM n) then t.evt (stnPage n 5) 1 else t
  let t := (((t.dsNote (CURL_STAT.VSAT n).addr).pb (CURL_STAT.VSAT n) vsat).pb (CURL_STAT.DCLAMP n) dclamp).pb (CURL_STAT.IQLIM n) iqlim
  if vsat then t.inc (CURL_STAT.VSAT_CNT n) else t

/-- The current loop of one sample with the torque reference `tq` in effect (13 R511 to R515). -/
def Tail.currentLoop (t : Tail) (n : Stn) (tq : Int) : Tail :=
  if !t.enabled (stnPage n 5) then
    t.loopsMap n (fun l => { l with vAlpha := 0, vBeta := 0, vsat := false, dclamp := false, iqlim := false, curNodes := [] })
  else
    let (chain, iqr, lim, t) := t.torqueChain n tq
    let l := (t.stnGet n).loops
    let i := (t.stnGet n).isns.last
    let idr := sx 16 (t.cf (if t.b (BNKA_STAT.ACT_CUR n) then BNKB_CURL_IDREF.IDREF n else CURL_IDREF.IDREF n))
    let (th, sl, dth) := t.angle n iqr
    let s := sinCode th
    let c := cosCode th
    let ib := sat16 (rnd15 ((i[0] + 2 * i[1]) * 18919))
    let id := sat16 (rnd15 (i[0] * c + ib * s))
    let iq := sat16 (rnd15 (ib * c - i[0] * s))
    let pc := t.curlC n
    let od := pidOut pc l.pd ⟨idr, 0⟩ ⟨id, 0⟩ ⟨0, 0⟩ none
    let oq := pidOut pc l.pq ⟨iqr, 0⟩ ⟨iq, 0⟩ ⟨0, 0⟩ none
    let (vlin, vmax) := t.vLimits n i[3]
    let _ := vlin
    let (vd, vq, vsat) := vLimit od.out.m oq.out.m vmax
    let dclamp := vd != od.out.m
    let va := sat16 (rnd15 (vd * c - vq * s))
    let vb := sat16 (rnd15 (vd * s + vq * c))
    let nodes := [nodeS i[0], nodeS i[1], nodeS i[2], nodeS i[3], th, nodeS i[0], nodeS ib, nodeS id, nodeS iq, nodeS od.out.m,
        nodeS oq.out.m, nodeS vd, nodeS vq, nodeS vmax, nodeS va, nodeS vb, nodeS tq, nodeS chain.1, nodeS chain.2.1,
        nodeS chain.2.2, nodeS iqr, nodeS idr, nodeS dth, b2n vsat + 2 * b2n dclamp + 4 * b2n lim]
      ++ pidNodes od (pidHeld od.p dclamp) ++ pidNodes oq (pidHeld oq.p vsat)
    let t := t.loopsMap n (fun l =>
      { l with
        pd := pidInt pc od.p dclamp, pq := pidInt pc oq.p vsat, theta := th, slip := sl, iq := iq, id := id, iqRef := iqr
        vAlpha := va, vBeta := vb, vsat := vsat, dclamp := dclamp, iqlim := lim, curNodes := nodes })
    let t := ((t.curlFlags n vsat dclamp lim).pi (CURL_IDQ.IQ n) iq).pi (CURL_IDQ.ID n) id
    (((t.pi (CURL_VDQ.VQ n) vq).pi (CURL_VDQ.VD n) vd).pi (CURL_UDC.VMAX n) vmax).pi (CURL_UDC.UDC n) i[3]

/-! ## Rates and boundaries (13 R490, R491) -/

/-- Dv and Do (13 R490). -/
def Tail.dvOf (t : Tail) (n : Nat) : Nat := 2 ^ min 6 (t.cf (SPDL_CFG.DV n))
def Tail.doOf (t : Tail) (n : Nat) : Nat := 2 ^ min 6 (t.cf (OUTL_CFG.DO n))

/-- Whether the present sample is a speed boundary, and an outer boundary (13 R491). -/
def Tail.spdBoundary (t : Tail) (n : Stn) : Bool := (t.stnGet n).loops.k % t.dvOf n = 0
def Tail.outBoundary (t : Tail) (n : Stn) : Bool := (t.stnGet n).loops.k % (t.dvOf n * t.doOf n) = 0

/-- SPDL and OUTL are present (13 R489). -/
def Tail.spdl (t : Tail) (n : Nat) : Bool := t.enabled (stnPage n 6)
def Tail.outl (t : Tail) (n : Nat) : Bool := t.enabled (stnPage n 7)

/-! ## The speed loop (13 R489, R504, R505, R507, R510, R516) -/

/-- The last valid feedback is taken at a sample instant (13 R519). -/
def Tail.loopFeedback (t : Tail) (n : Stn) : Tail :=
  let spd := t.agi (FBP_SPEED.SPEED n)
  let pos := t.agi (FBP_POS.POS n)
  let sv := t.b (FBP_STAT.SPD_VALID n)
  let pv := t.b (FBP_STAT.POS_VALID n)
  t.loopsMap n (fun l => { l with spdOk := if sv then spd else l.spdOk, posOk := if pv then pos else l.posOk })

/-- The coefficients of the speed loop (13 R522, 14 R530); KAFF acts with AFF_EN = 1 alone (R510). -/
def Tail.spdlC (t : Tail) (n : Stn) : PidC :=
  let b := t.b (BNKA_STAT.ACT_SO n)
  let k (fa fb : Fd) : Nat := t.cf (if b then fb else fa)
  ⟨t.cfb (SPDL_CFG.FMT n), k (SPDL_KP.K n) (BNKB_SPDL_KP.K n), k (SPDL_KI.K n) (BNKB_SPDL_KI.K n),
    k (SPDL_KD.K n) (BNKB_SPDL_KD.K n),
    if t.cfb (SPDL_CFG.AFF_EN n) then k (SPDL_KAFF.K n) (BNKB_SPDL_KAFF.K n) else 0, k (SPDL_DPOLE.A n) (BNKB_SPDL_DPOLE.A n),
    k (SPDL_OLIM.LIM n) (BNKB_SPDL_OLIM.LIM n), k (SPDL_ILIM.LIM n) (BNKB_SPDL_ILIM.LIM n), t.cfb (SPDL_CFG.DSRC n)⟩

/-- The speed feedback before the notches (13 R505). -/
def Tail.spdInput (t : Tail) (n : Stn) : Bfp :=
  let q := (t.stnGet n).loops.spdOk
  if t.cfb (SPDL_CFG.FMT n) then (norm q (-16)).1 else ⟨sat16 (rshr q 16), 0⟩

/-- A reference or output as the speed loop's format has it (13 R505). -/
def inFmt (bfp : Bool) (b : Bfp) : Bfp := if bfp then (norm b.m b.e).1 else ⟨b.q15, 0⟩

/-- The speed loop at a speed boundary with reference `r` and acceleration `aref` (13 R489, R492, R510, R516). -/
def Tail.speedLoop (t : Tail) (n : Stn) (r : Bfp) (aref : Int) : Tail :=
  let c := t.spdlC n
  let l := (t.stnGet n).loops
  let b := t.b (BNKA_STAT.ACT_SO n)
  let x := t.spdInput n
  let (n0, y0, s0, v0) := notchStep c.bfp (t.notchC n 0 b) l.n0 x
  let (n1, y1, s1, v1) := notchStep c.bfp (t.notchC n 1 b) l.n1 y0
  let t := if s0 then t.evt (stnPage n 8) 0 else t
  let t := if s1 then t.evt (stnPage n 8) 1 else t
  let ff := inFmt c.bfp ⟨aref, 0⟩
  let o := pidOut c l.ps (inFmt c.bfp r) y1 ff none
  let tref := o.out.q15
  let frz := (l.vsat || l.iqlim) && ((0 < o.p.e && 0 < tref) || (o.p.e < 0 && tref < 0))
  let ovf := o.ovf || v0 || v1
  let clamped := o.p.hi || o.p.lo
  let nodes := [nodeS l.spdOk, nodeL y0.m y0.e, nodeL y1.m y1.e, nodeL r.m r.e, nodeS aref,
      nodeA (mulk (ff.align o.p.es) c.kf) o.p.es, b2n clamped + 2 * b2n frz + 4 * b2n ovf, nodeS (t.agi (FBA_SPEED.SPEED n))]
    ++ pidNodes o (pidHeld o.p frz)
  let t := t.loopsMap n (fun l =>
    { l with ps := pidInt c o.p frz, n0 := n0, n1 := n1, nref := r, tref := tref, trefPrev := tref, spdNodes := nodes })
  let t := if clamped then t.evt (stnPage n 6) 0 else t
  let t := if ovf then t.evt (stnPage n 6) 1 else t
  let t := (((t.pi (SPDL_STAT.ES n) o.p.es).pb (SPDL_STAT.BFP_OVF n) ovf).pb (SPDL_STAT.IFRZ n) frz).pb (SPDL_STAT.OSAT n) clamped
  (t.pi (SPDL_REF.NREF n) r.q15).pi (SPDL_REF.TREF n) tref

/-- The speed loop starts with the output `out` in effect (13 R494). -/
def Tail.speedPreset (t : Tail) (n : Stn) (out : Int) (r : Bfp) : Tail :=
  let c := t.spdlC n
  let x := t.spdInput n
  let src : Bfp := if c.dsrc then ⟨-x.m, x.e⟩
    else if c.bfp then (norm ((inFmt true r).align (max x.e r.e) - x.align (max x.e r.e)) (max x.e r.e)).1
    else ⟨sat16 (r.q15 - x.m), 0⟩
  t.loopsMap n (fun l => { l with ps := pidPreset c.bfp (inFmt c.bfp ⟨out, 0⟩) src, n0 := notchAt x, n1 := notchAt x, tref := out })

/-! ## The outer loop (13 section 7) -/

/-- The coefficients of the outer loop (13 R522, 14 R530). -/
def Tail.outlC (t : Tail) (n : Stn) : PidC :=
  let b := t.b (BNKA_STAT.ACT_SO n)
  let k (fa fb : Fd) : Nat := t.cf (if b then fb else fa)
  ⟨t.cfb (OUTL_CFG.FMT n), k (OUTL_KP.K n) (BNKB_OUTL_KP.K n), k (OUTL_KI.K n) (BNKB_OUTL_KI.K n),
    k (OUTL_KD.K n) (BNKB_OUTL_KD.K n), 0, k (OUTL_DPOLE.A n) (BNKB_OUTL_DPOLE.A n), k (OUTL_OLIM.LIM n) (BNKB_OUTL_OLIM.LIM n),
    k (OUTL_ILIM.LIM n) (BNKB_OUTL_ILIM.LIM n), t.cfb (OUTL_CFG.DSRC n)⟩

/-- Input `k` as delivered to station `n` at the last sample, and whether it is valid (12 R470, R475). -/
def Tail.ainAt (t : Tail) (n : Stn) (k : Nat) : Int × Bool :=
  ((t.stnGet n).isns.ain.toList.getD k 0, (t.stnGet n).isns.ainOk.getLsbD k)

/-- The tension code of station `n` (13 R518, R519). -/
def Tail.tension (t : Tail) (n : Stn) : Int :=
  let b := t.b (BNKA_STAT.ACT_SO n)
  let v := (t.ainAt n (t.cf (OUTL_CFG.AINSEL n))).1
  sat16 (rnd15 (mulk (rshr v 16) (t.cf (if b then BNKB_OUTL_FBK.K n else OUTL_FBK.K n)))
    + sx 16 (t.cf (if b then BNKB_OUTL_FBOFS.FBOFS n else OUTL_FBOFS.FBOFS n)))

/-- The derivative source of position mode (13 R517). -/
def Tail.posSource (t : Tail) (n : Stn) : Int := sx 16 (enc 16 (-(rshr (t.stnGet n).loops.posOk (t.cf (OUTL_CFG.PSH n)))))

/-- The outer loop at an outer boundary with reference `ref` (13 R517 to R519); its output is the speed reference. -/
def Tail.outerLoop (t : Tail) (n : Stn) (ref : Int) (hold : Bool) : Tail :=
  let c := t.outlC n
  let l := (t.stnGet n).loops
  let tens := t.cf (OUTL_CFG.MODE n) = 1
  let psh : Int := t.cf (OUTL_CFG.PSH n)
  let err := posDiff (enc 32 ref) (enc 32 l.posOk)
  let tf := t.tension n
  let r : Bfp := if tens then inFmt c.bfp ⟨sat16 ref, 0⟩ else if c.bfp then (norm err (-psh)).1 else ⟨sat16 (rshr err psh), 0⟩
  let y : Bfp := if tens then inFmt c.bfp ⟨tf, 0⟩ else ⟨0, if c.bfp then -32 else 0⟩
  let xs : Option Bfp := if tens then none else some (inFmt c.bfp ⟨t.posSource n, 0⟩)
  let o := pidOut c l.po r y ⟨0, if c.bfp then -32 else 0⟩ xs
  let clamped := o.p.hi || o.p.lo
  let nodes := [nodeS (t.agi (FBP_POS.POS n)), if tens then 0 else nodeS ref, if tens then 0 else nodeS err,
      nodeS (t.ainAt n (t.cf (OUTL_CFG.AINSEL n))).1, nodeS tf, if tens then nodeS (sat16 ref) else 0,
      b2n clamped + 2 * b2n o.ovf, nodeS (t.agi (FBA_POS.POS n))] ++ pidNodes o (pidHeld o.p hold)
  let t := t.loopsMap n (fun l => { l with po := if hold then o.p else pidInt c o.p false, nref := o.out, outNodes := nodes })
  let t := if clamped then t.evt (stnPage n 7) 0 else t
  let t := if o.ovf then t.evt (stnPage n 7) 1 else t
  ((((t.pi (OUTL_STAT.ES n) o.p.es).pb (OUTL_STAT.BFP_OVF n) o.ovf).pb (OUTL_STAT.OSAT n) clamped)).pi (OUTL_FB.FB n)
    (if tens then tf else 0)

/-- The outer loop starts with the output `out` in effect (13 R494). -/
def Tail.outerPreset (t : Tail) (n : Stn) (out : Bfp) : Tail :=
  let c := t.outlC n
  let tens := t.cf (OUTL_CFG.MODE n) = 1
  let x : Int := if !c.dsrc then 0 else if tens then -(t.tension n) else t.posSource n
  t.loopsMap n (fun l => { l with po := pidPreset c.bfp (inFmt c.bfp out) (inFmt c.bfp ⟨x, 0⟩), nref := out })

/-- Entry to MAGNETIZING (13 R491, R493): every loop and filter state 0, stage exponents 0, the sample index before its first
value. -/
def Loops.start (l : Loops) : Loops :=
  let p : Pid := ⟨0, 0, 0, 0, false, false, 0⟩
  let z : Notch := ⟨0, 0, 0, 0, 0⟩
  { l with
    k := 0, pd := p, pq := p, ps := p, po := p, n0 := z, n1 := z, n2 := z, lpf := 0, slip := 0, tref := 0, nref := ⟨0, 0⟩
    iqRef := 0, vAlpha := 0, vBeta := 0, vsat := false, dclamp := false, iqlim := false, trefPrev := 0
    curNodes := [], spdNodes := [], outNodes := [] }

end Sys2Proof.Machine
end

