-- ==== Sys2Proof/Machine/Banks.lean ====
section
/-! DEFINITION. Coefficient banks, their swaps and detectors, trace nodes, traces and the trigger engine (14). -/

namespace Sys2Proof.Machine

/-! ## Host requests and copies (14 R534, R535, R542) -/

/-- A write of BNKA_SWAP (14 R534, R535). -/
def Tail.bnkaSwap (t : Tail) (n : Stn) (w : Word) : Tail :=
  if fdGet (BNKA_SWAP.REQ n) w = 0 then t
  else
    let t := ((t.p (BNKA_STAT.HPEND n) 1).p (BNKA_STAT.HP_BANK n) (fdGet (BNKA_SWAP.BANK n) w)).p (BNKA_STAT.HP_SCOPE n)
      (fdGet (BNKA_SWAP.SCOPE n) w)
    let t := t.banksMap n (fun b => { b with reqAt := t.ftCe })
    if (t.stnGet n).sq.st.isRunning then t else t.swapHost n

/-- BNKA_SWAP (14 R534). -/
def execBnkaSwap (n : Stn) (word : Word) (s : State) : Host.Outcome State Fault Refusal :=
  tailNext s (fun t => if t.fitted n && t.on 5 then (t.bnkaSwap n word).finish else t)

/-- COPY is accepted while both groups use bank A (14 R542). -/
def Tail.copyMay (t : Tail) (n : Stn) : Bool := !t.b (BNKA_STAT.ACT_CUR n) && !t.b (BNKA_STAT.ACT_SO n)

/-- The registers of bank A and their copies in BNKB (14 R531, R555). -/
def bankPairs (n : Nat) : List (Nat × Nat) :=
  let b := stnPage n 0xA * 256
  let run (p off0 : Nat) (offs : List Nat) : List (Nat × Nat) :=
    (List.range offs.length).map (fun i => (p * 256 + offs.getD i 0, b + off0 + 4 * i))
  run (stnPage n 5) 0x20 [0x24, 0x28, 0x2C, 0x30, 0x34, 0x38, 0x3C, 0x40, 0x44, 0x4C]
    ++ run (stnPage n 6) 0x48 [0x24, 0x28, 0x2C, 0x30, 0x34, 0x38, 0x3C]
    ++ run (stnPage n 7) 0x64 [0x24, 0x28, 0x2C, 0x30, 0x34, 0x38, 0x3C, 0x40]
    ++ run (stnPage n 8) 0x84 [0x20, 0x24, 0x28, 0x30, 0x34, 0x38, 0x40, 0x44, 0x48, 0x50]

/-- Every bank A register is copied (14 R542). -/
def Tail.bankCopy (t : Tail) (n : Stn) : Tail := (bankPairs n).foldl (fun t e => t.setWord e.2 (t.word e.1)) t

/-- COPY (14 R542): one commit; while a group uses bank B it changes nothing. -/
def execCopy (n : Stn) (s : State) : Host.Outcome State Fault Refusal :=
  tailNext s (fun t => if t.fitted n && t.on 3 && t.copyMay n then t.commit (fun t => t.bankCopy n) else t)

/-! ## Swaps at a boundary (14 R533, R536 to R538) -/

/-- Whether the present sample is a boundary of scope `sc` (14 R491, R533). -/
def Tail.scopeDue (t : Tail) (n : Stn) (sc : Nat) : Bool :=
  match sc with
  | 0 => true
  | 1 => t.spdBoundary n
  | _ => if t.outl n then t.outBoundary n else t.spdBoundary n

/-- A hardware swap that is due: its source (2 SNATCH, 3 VENT, 4 ICE, 5 EMERGENCY, 6 return), scope, and the banks it sets. -/
structure HwSwap where
  src : Nat
  scope : Nat
  cur : Bool
  so : Bool
  deriving DecidableEq, Repr

/-- The hardware swaps due at the present sample, in the order of R537. -/
def Tail.hwDue (t : Tail) (n : Stn) : List HwSwap :=
  let b := (t.stnGet n).banks
  let trig (k : Fin 4) : List HwSwap := match b.hw[k] with
    | some (sc, bank) => if t.scopeDue n sc then [⟨k.val + 2, sc, bank, bank⟩] else []
    | none => []
  let ret (k : Fin 3) : List HwSwap := match b.ret[k] with
    | some r => if r.due && t.scopeDue n r.scope then [⟨6, r.scope, r.cur, r.so⟩] else []
    | none => []
  trig 3 ++ trig 2 ++ trig 0 ++ trig 1 ++ ret 0 ++ ret 1 ++ ret 2

/-- The return time of detector `d` (14 R538). -/
def Tail.retTime (t : Tail) (n : Stn) (d : Nat) : Nat :=
  10 * ms1 * (if d = 0 then t.cf (BNKA_RET.SNATCH n) else if d = 1 then t.cf (BNKA_RET.VENT n) else t.cf (BNKA_RET.ICE n))

/-- Scopes that share a group. -/
def scopesMeet (a b : Nat) : Bool := (scopeCur a && scopeCur b) || (scopeSo a && scopeSo b)

/-- One hardware swap takes effect for the groups in `cur` and `so` (14 R537, R538): returns of those groups are cancelled, and the
banks before it are recorded where its trigger has a return time and no return yet. -/
def Tail.hwApply (t : Tail) (n : Stn) (x : HwSwap) (cur so : Bool) : Tail :=
  if !cur && !so then t
  else
    let oc := t.b (BNKA_STAT.ACT_CUR n)
    let os := t.b (BNKA_STAT.ACT_SO n)
    let keep (d : Nat) (r : RetSwap) : Option RetSwap :=
      if x.src = d + 2 then some { r with t := t.after (t.retTime n d), due := false }
      else if (cur && scopeCur r.scope) || (so && scopeSo r.scope) then none else some r
    let fresh (d : Nat) : Option RetSwap :=
      if x.src = d + 2 && t.retTime n d != 0 then some ⟨x.scope, oc, os, t.after (t.retTime n d), false⟩ else none
    let t := t.banksMap n (fun b =>
      { b with ret := Vector.ofFn (fun d => match b.ret[d] with | some r => keep d.val r | none => fresh d.val) })
    t.swapTo n (if cur then some x.cur else none) (if so then some x.so else none) x.src (if x.src = 6 then 7 else 0)

/-- The swaps that take effect at the present sample (14 R532 to R538); a host request of this same CLK_CE cycle waits (R534). -/
def Tail.swapsAt (t : Tail) (n : Stn) : Tail :=
  let due := t.hwDue n
  let wc := due.find? (fun x => scopeCur x.scope)
  let ws := due.find? (fun x => scopeSo x.scope)
  let t := t.banksMap n (fun b =>
    { b with hw := b.hw.map (fun h => match h with | some (sc, _) => if t.scopeDue n sc then none else h | none => none) })
  let t := due.foldl (fun t x => t.hwApply n x (wc = some x) (ws = some x)) t
  let sc := t.g (BNKA_STAT.HP_SCOPE n)
  if t.b (BNKA_STAT.HPEND n) && t.scopeDue n sc && (t.stnGet n).banks.reqAt != t.ftCe then
    if (scopeCur sc && wc.isSome) || (scopeSo sc && ws.isSome) then (t.inc (BNKA_DEFCNT.DEFER n)).evt (stnPage n 9) 2 else t.swapHost n
  else t

/-- SWAP_RETURN_TIMEOUT (14 R538): the return timer of detector `d` expires; the return becomes pending. -/
def execSwapReturnTimeout (n : Stn) (d : Fin 3) (s : State) : Host.Outcome State Fault Refusal :=
  tailNext s (fun t =>
    match (t.stnGet n).banks.ret[d] with
    | some r => match r.t with
      | some dl => (t.elapseTo dl).banksMap n (fun b => { b with ret := b.ret.set d (some { r with t := none, due := true }) })
      | none => t
    | none => t)

/-! ## Detectors (14 R539, R540) -/

/-- A term of a detector: on and met, or off. -/
def termMet (thr m : Int) : Option Bool := if thr = 0 then none else some (if 0 < thr then thr ≤ m else m ≤ thr)

/-- Trigger `k` of station `n` as BNKA_TRIGCFG sets it (14 R536): EN, scope, bank. -/
def Tail.trigCfg (t : Tail) (n : Stn) (k : Nat) : Bool × Nat × Bool :=
  let w := t.cf (BNKA_TRIGCFG.EN0 n) + 2 * t.cf (BNKA_TRIGCFG.BANK0 n) + 4 * t.cf (BNKA_TRIGCFG.SCOPE0 n)
    + 16 * (t.cf (BNKA_TRIGCFG.EN1 n) + 2 * t.cf (BNKA_TRIGCFG.BANK1 n) + 4 * t.cf (BNKA_TRIGCFG.SCOPE1 n))
    + 256 * (t.cf (BNKA_TRIGCFG.EN2 n) + 2 * t.cf (BNKA_TRIGCFG.BANK2 n) + 4 * t.cf (BNKA_TRIGCFG.SCOPE2 n))
    + 4096 * (t.cf (BNKA_TRIGCFG.EN3 n) + 2 * t.cf (BNKA_TRIGCFG.BANK3 n) + 4 * t.cf (BNKA_TRIGCFG.SCOPE3 n))
  let v := w / 16 ^ k % 16
  (v % 2 = 1, v / 4, v / 2 % 2 = 1)

/-- The firing counter of trigger `k`. -/
def fireCnt (n k : Nat) : Fd :=
  match k with | 0 => BNKA_FIRECNT.FIRE0 n | 1 => BNKA_FIRECNT.FIRE1 n | 2 => BNKA_FIRECNT.FIRE2 n | _ => BNKA_FIRECNT.FIRE3 n

/-- Trigger `k` fires: its swap is pending where it is enabled, and a return timer restarts (14 R536, R538). -/
def Tail.fire (t : Tail) (n : Stn) (k : Fin 4) : Tail :=
  let (en, sc, bank) := t.trigCfg n k
  if !en then t
  else t.banksMap n (fun b =>
    { b with
      hw := b.hw.set k (some (sc, bank))
      ret := Vector.ofFn (fun d => if d.val = k.val
        then (b.ret[d]).map (fun r => { r with t := t.after (t.retTime n d), due := false }) else b.ret[d]) })

/-- Detector `d` at the present sample: its metrics, and whether it is met (14 R539). -/
def Tail.detector (t : Tail) (n : Stn) (d : Nat) : Int × Int × Bool :=
  let w := clampN 1 16 (t.cf (BNKA_DETCFG.W n d))
  let h := (t.stnGet n).banks.hist
  if (t.stnGet n).loops.k < w || h.length ≤ w then (0, 0, false)
  else
    let e0 := h.getD 0 (0, 0)
    let ew := h.getD w (0, 0)
    let mt := sat16 (e0.1 - ew.1)
    let ms := sat16 (e0.2 - ew.2)
    let a := termMet (sx 16 (t.cf (BNKA_DETTHR.TER_THR n d))) mt
    let b := termMet (sx 16 (t.cf (BNKA_DETTHR.SR_THR n d))) ms
    (mt, ms, (a.isSome || b.isSome) && a.getD true && b.getD true)

/-- The detectors and the EMERGENCY trigger at the present sample (14 R536, R539, R540). -/
def Tail.detect (t : Tail) (n : Stn) : Tail :=
  let l := (t.stnGet n).loops
  let e := (sat16 (l.iqRef - l.iq), sat16 (rshr (t.agi (FBP_SPEED.SPEED n)) 16))
  let t := t.banksMap n (fun b => { b with hist := (e :: b.hist).take 17 })
  let t := (List.finRange 3).foldl (fun t (d : Fin 3) =>
    let (mt, ms, met) := t.detector n d.val
    let was := (t.stnGet n).banks.met.getLsbD d.val
    let t := t.banksMap n (fun b =>
      { b with
        mt := b.mt.set d mt, ms := b.ms.set d ms
        met := if met then b.met ||| ((1 : BitVec 3) <<< d.val) else b.met &&& ~~~((1 : BitVec 3) <<< d.val) })
    let t := if met && !was then (t.inc (fireCnt n d.val)).evt (stnPage n 9) (3 + d.val) else t
    if met then t.fire n ⟨d.val, by omega⟩ else t) t
  let em := decide ((t.stnGet n).sq.st = .emergency)
  let was := (t.stnGet n).banks.emerg
  let t := t.banksMap n (fun b => { b with emerg := em })
  if em && !was then ((t.inc (fireCnt n 3)).evt (stnPage n 9) 6).fire n 3 else t

/-! ## Trace nodes (14 R543 to R545) -/

/-- The station flags of STATUS_DIGEST (08 R310), the loop's own as `rd` reads them: at their source, or behind their crossing (03 R108). -/
def Tail.stnFlags (t : Tail) (rd : Fd → Nat) (n : Stn) : Nat :=
  rd (CURL_STAT.VSAT n) + 2 * t.g (THD_REQ.ENFORCED n) + 4 * b2n (t.b (BNKA_STAT.ACT_CUR n) || t.b (BNKA_STAT.ACT_SO n))
    + 8 * b2n (rd (STN_DL.DL_COUNT n) != 0)

/-- `l` as `k` nodes, 0 where it has none. -/
def nodesOf (k : Nat) (on : Bool) (l : List Nat) : List Nat := if on then (l ++ List.replicate k 0).take k else List.replicate k 0

/-- The 96 nodes of station `n` at the present sample (14 R543). -/
def Tail.formNodes (t : Tail) (n : Stn) : List Nat :=
  let s := t.stnGet n
  let last := t.g (STRC_APPLY.LAST n)
  nodesOf 0x28 (t.enabled (stnPage n 5)) s.loops.curNodes ++ nodesOf 0x10 (t.spdl n) s.loops.spdNodes
    ++ nodesOf 0x10 (t.outl n) s.loops.outNodes
    ++ [s.loops.k, if last = 0xFFFF then 0xFFFFFFFF else last, t.g (STN_DL.DL_COUNT n),
        t.g (BNKA_STAT.ACT_CUR n) + 2 * t.g (BNKA_STAT.ACT_SO n) + 16 * t.g (BNKA_STAT.LAST_SRC n)]
    ++ s.banks.mt.toList.map nodeS ++ s.banks.ms.toList.map nodeS ++ [s.banks.met.toNat]
    ++ [nodeS s.share.recv, nodeS s.share.ta, t.g (THD_REQ.REQ n)] ++ s.isns.ain.toList.map nodeS
    ++ [t.g (PROF_REF.VALUE n), s.sq.st.code + 256 * t.stnFlags t.g n]

/-- The formats of R545 as a comparison reads them: signed words, unsigned words, mantissa and exponent (L and A). -/
inductive NodeFmt where
  | signed | unsigned | l | a
  deriving DecidableEq, Repr

/-- The format of a PID block's node (14 R544). -/
def pidFmt (o : Nat) : NodeFmt := if o = 3 || o = 4 || o = 5 then .a else if o = 7 then .unsigned else .l

/-- The format of node `id` (14 R543). -/
def nodeFmt (id : Nat) : NodeFmt :=
  if id = 0x04 || id = 0x17 || id = 0x2E || id = 0x3E || (0x48 ≤ id && id ≤ 0x4B) || id = 0x52 || id = 0x5F then .unsigned
  else if 0x18 ≤ id && id < 0x28 then pidFmt (id % 8)
  else if 0x29 ≤ id && id ≤ 0x2B then .l
  else if id = 0x2D then .a
  else if (0x30 ≤ id && id < 0x38) || (0x40 ≤ id && id < 0x48) then pidFmt (id % 8)
  else .signed

/-- The value of a node word for comparison (14 R552), in units of 2 ^ -32. -/
def nodeValue (id v : Nat) : Int :=
  match nodeFmt id with
  | .signed => sx 32 v * 2 ^ 32
  | .unsigned => (v : Int) * 2 ^ 32
  | .l => clampI (-(2 ^ 63)) (2 ^ 63 - 2 ^ 32) (sx 16 (v % 65536) * 2 ^ (sx 6 (v / 65536 % 64) + 32).toNat)
  | .a => clampI (-(2 ^ 63)) (2 ^ 63 - 2 ^ 32) (sx 25 (v % 2 ^ 25) * 2 ^ (sx 6 (v / 2 ^ 25 % 64) + 32).toNat)

/-! ## The trigger engine (14 R551, R552) -/

/-- The trigger takes place now, under the commit of number `ssn` (14 R552). -/
def Tail.trigger (t : Tail) (cause stn node value : Nat) (ssn : Word) : Tail :=
  let t := ((((t.p TRC_STAT.STATE 2).p TRC_STAT.CAUSE cause).p TRC_STAT.TSTN stn).p TRC_TFT_LO.FT t.ftCe.toNat).p TRC_TFT_HI.FT
    (t.ftCe.toNat / 2 ^ 32)
  ({ t.p TRC_TSSEQ.SSEQ ssn.toNat with
    trc := { t.trc with cause := cause, tstn := stn, node := node, value := value, marks := BitVec.allOnes 32 } }).evt 0x38 0

/-- TRC_CMD.ARM (14 R551). -/
def Tail.trcArm (t : Tail) : Tail :=
  if t.enabled 0x38 && (t.g TRC_STAT.STATE = 0 || t.g TRC_STAT.STATE = 3)
    then { t.p TRC_STAT.STATE 1 with trc := { t.trc with armAt := t.ft.toNat, prev := none } } else t

/-- TRC_CMD.FORCE (14 R552). -/
def Tail.trcForce (t : Tail) : Tail := if t.enabled 0x38 && t.g TRC_STAT.STATE = 1 then t.trigger 1 0 0 0 t.ssn else t

/-- TRC_CMD.DISARM (14 R551). -/
def Tail.trcDisarm (t : Tail) : Tail := t.p TRC_STAT.STATE 0

/-- TRC_ARM (14 R551). -/
def execTrcArm (s : State) : Host.Outcome State Fault Refusal := tailNext s (fun t => if t.on 3 then (t.commit Tail.trcArm).finish else t)

/-- FORCE (14 R552). -/
def execForce (s : State) : Host.Outcome State Fault Refusal := tailNext s (fun t => if t.on 3 then (t.commit Tail.trcForce).finish else t)

/-- TRC_DISARM (14 R551). -/
def execTrcDisarm (s : State) : Host.Outcome State Fault Refusal :=
  tailNext s (fun t => if t.on 3 then (t.commit Tail.trcDisarm).finish else t)

/-- Field Time of the end of the post-trigger time (14 R551, R553). -/
def Tail.postEnd (t : Tail) : Nat := t.g TRC_TFT_LO.FT + t.g TRC_TFT_HI.FT * 2 ^ 32 + t.cf TRC_POST.POST * 4000

/-- TRACE_POST_END (14 R551): Field Time reaches TFT + POST. -/
def execTracePostEnd (s : State) : Host.Outcome State Fault Refusal :=
  tailNext s (fun t =>
    if t.g TRC_STAT.STATE != 2 then t
    else (((t.elapse (t.postEnd - t.ft.toNat)).p TRC_STAT.STATE 3).evt 0x38 1).finish)

/-- The node condition at a sample of station `n` with its nodes (14 R552). -/
def Tail.trcNode (t : Tail) (n : Stn) (nodes : List Nat) : Tail :=
  let src := t.cf TRC_CFG.SRC
  if !(t.enabled 0x38 && t.g TRC_STAT.STATE = 1 && (src = 1 || src = 3) && t.cf TRC_CFG.NSTN = n.val) then t
  else
    let id := t.cf TRC_CFG.NODE
    let w := nodes.getD id 0
    let v := nodeValue id w
    let thr : Int := (if nodeFmt id = .unsigned then (t.cf TRC_THR.THR : Int) else t.cfi TRC_THR.THR) * 2 ^ 32
    let cond := t.cf TRC_CFG.COND
    let up := match t.trc.prev with | some p => decide (p < thr) && decide (thr ≤ v) | none => false
    let down := match t.trc.prev with | some p => decide (thr < p) && decide (v ≤ thr) | none => false
    let hit := if cond = 0 then up else if cond = 1 then down else up || down
    let t := { t with trc := { t.trc with prev := some v } }
    if hit && t.trc.armAt + t.cf TRC_HOLD.HOLDOFF * 4000000 ≤ t.ft.toNat then t.trigger 2 n id w t.ssn else t

/-! ## Trace streams (14 R546 to R549, R553) -/

/-- The node ID in slot `s` of station `n` (14 R546). -/
def Tail.slot (t : Tail) (n s : Nat) : Nat :=
  t.cf (match s % 4 with
    | 0 => STRC_SLOT.NODE0 n (s / 4)
    | 1 => STRC_SLOT.NODE1 n (s / 4)
    | 2 => STRC_SLOT.NODE2 n (s / 4)
    | _ => STRC_SLOT.NODE3 n (s / 4))

/-- The slots of trace `k`. -/
def Tail.traceIds (t : Tail) (n k : Nat) : List Nat :=
  (List.range (t.cf (STRC_TR.COUNT n k))).map (fun i => t.slot n (t.cf (STRC_TR.FIRST n k) + i))

/-- A trace with FREEZE may write (14 R553). -/
def Tail.thawed (t : Tail) : Bool := t.g TRC_STAT.STATE = 1 || (t.g TRC_STAT.STATE = 2 && t.ft.toNat < t.postEnd)

/-- The conditions of R547 beside the stream's EN and DEC: what STRC_STAT.WRITING follows. -/
def Tail.traceWriting (t : Tail) (n : Stn) (k : Nat) : Bool :=
  t.enabled (stnPage n 0xF) && t.cfb (STRC_TR.EN n k) && (t.stnGet n).sq.st.isRunning && (!t.cfb (STRC_TR.FREEZE n k) || t.thawed)

/-- The data of a MARK record (14 R549). -/
def Tail.markData (t : Tail) (n : Stn) (k : Nat) (trig : Bool) : List Byte :=
  let x := t.trc
  let ids := (t.traceIds n k).map (BitVec.ofNat 8)
  if trig then
    [BitVec.ofNat 8 x.cause, BitVec.ofNat 8 x.tstn, BitVec.ofNat 8 k, BitVec.ofNat 8 (if x.cause = 1 then 0 else x.node)]
      ++ leBytes 4 (if x.cause = 1 then 0 else x.value) ++ ids
  else [0, BitVec.ofNat 8 n.val, BitVec.ofNat 8 k, 0, 0, 0, 0, 0] ++ ids

/-- Trace `k` of station `n` at the present sample (14 R547, R549), under the commit in progress. -/
def Tail.traceRecord (t : Tail) (n : Stn) (nodes : List Nat) (valid : Bool) (k : Nat) : Tail :=
  let sid := 64 + 16 * n.val + 5 + k
  let dec := clampN 1 1024 (t.cf (STRC_TR.DEC n k))
  if !(t.traceWriting n k && t.streamOn sid && (t.stnGet n).loops.k % dec = 0 && t.cf (STRC_TR.COUNT n k) != 0) then t
  else
    let b := 8 * n.val + k
    let t := if t.trc.cfgMarks.getLsbD b && !t.late.any (fun e => e.1 / 256 = stnPage n 0xF) then
        { t.record .engine sid 0xC true (t.markData n k false) with
          trc := { t.trc with cfgMarks := t.trc.cfgMarks &&& ~~~((1 : BitVec 32) <<< b) } }
      else t
    let t := if t.trc.marks.getLsbD b then
        { t.record .engine sid 0xC true (t.markData n k true) with
          trc := { t.trc with marks := t.trc.marks &&& ~~~((1 : BitVec 32) <<< b) } }
      else t
    t.record .engine sid 6 valid ((t.traceIds n k).flatMap (fun i => leBytes 4 (nodes.getD i 0)))

/-- The nodes, the node condition and the traces of one sample (14 R543, R547, R548, R552), under the commit in progress; `valid`
is the VALID of the current-sample record. Every node is written to the loop-outputs stream, traced or not (01 R28, 06 R194, R206): one
NODE record of the 96 nodes in the order of their IDs (DEDUCED, log entry 95). -/
def Tail.traceSample (t : Tail) (n : Stn) (valid : Bool) : Tail :=
  let nodes := t.formNodes n
  let t := (t.loopsMap n (fun l => { l with nodes := nodes })).trcNode n nodes
  let t := t.record .engine (64 + 16 * n.val + 4) 6 valid (nodes.flatMap (leBytes 4))
  (List.range 8).foldl (fun t k => t.traceRecord n nodes valid k) t

/-- STRC_STAT of station `n` (14 R556). -/
def Tail.strcStat (t : Tail) (n : Stn) : Nat :=
  ((List.range 8).map (fun k => 2 ^ k * b2n (t.traceWriting n k)
    + 2 ^ (8 + k) * b2n (t.cfb (STRC_TR.EN n k) && t.cfb (STRC_TR.FREEZE n k) && !t.thawed))).sum

end Sys2Proof.Machine
end

