-- ==== Sys2Proof/Machine/Setpoint.lean ====
section
/-! DEFINITION. Set-point sources (15): kinds and boundaries, the profile generator, followers, the lever (22 section 3), Render, and how
a source joins the present reference. -/

namespace Sys2Proof.Machine

/-! ## Kinds and boundaries (15 R558, R559) -/

/-- The reference kind of station `n` (15 R558). -/
def Tail.kind (t : Tail) (n : Nat) : Kind :=
  if t.outl n then (if t.cf (OUTL_CFG.MODE n) = 0 then .position else .tension) else if t.spdl n then .speed else .torque

/-- The period between current-loop samples in ticks (17 R629, R630). -/
def Tail.samplePeriod (t : Tail) (n : Nat) : Nat :=
  let h := clampN 12500 200000 (t.cf (MOD_CAR.HALF n))
  if t.cfb (MOD_CFG.UPD n) then h else 2 * h

/-- The kind that the reference drives: the speed reference while a stop ramp replaces a position reference (15 R568), or goes on from the
speed that Render or the lever drove (15 section 9), under the
lever (22 R768) and in Render (15 R580). -/
def Tail.feed (t : Tail) (n : Stn) : Kind :=
  let k := t.kind n
  let s := t.stnGet n
  if (s.setp.stop != .none && (k = .position || (k = .tension && s.setp.kind = .speed)))
      || (s.sq.lever && (k = .position || k = .tension)) || s.setp.render != .normal
    then .speed else k

/-- The outer loop is held: its reference is bypassed (15 R580, 22 R768). -/
def Tail.outHeld (t : Tail) (n : Stn) : Bool := t.feed n != t.kind n

/-- The present sample is a boundary of the source (15 R559). -/
def Tail.srcBoundary (t : Tail) (n : Stn) : Bool :=
  match t.feed n with
  | .position | .tension => t.outBoundary n
  | .speed => t.spdBoundary n
  | .torque => true

/-- Tg in ticks (15 R559). -/
def Tail.tg (t : Tail) (n : Stn) : Nat :=
  t.samplePeriod n * (match t.feed n with
    | .position | .tension => t.dvOf n * t.doOf n
    | .speed => t.dvOf n
    | .torque => 1)

/-! ## The profile generator (15 R563 to R565) -/

/-- The limits of the generator per boundary (15 R563). -/
structure GenLim where
  aL : Int
  dL : Int
  j : Int
  vL : Int
  deriving DecidableEq, Repr

/-- AMAX-coded rates per boundary of `tg` ticks, in units of 2 ^ -24 code (15 R563, R571). -/
def ratePer (x tg : Nat) : Int := roundDiv ((x * tg * 2 ^ 24 : Nat) : Int) (16 * s1)

/-- JMAX-coded jerk per boundary (15 R563). -/
def jerkPer (x tg : Nat) : Int := roundDiv ((x * tg * tg * 2 ^ 24 : Nat) : Int) (s1 * s1)

/-- The limits for the boundaries of station `n`: EDEC and EJMAX in place of DMAX and JMAX where `emg` (15 R563). -/
def Tail.genLim (t : Tail) (n : Stn) (emg : Bool) (vmax : Nat) : GenLim :=
  let tg := t.tg n
  let v := if t.b (PROF_STAT.WARM_ACT n) then min vmax (t.cf (PROF_WLIM.WVMAX n)) else vmax
  ⟨ratePer (t.cf (PROF_AMAX.AMAX n)) tg,
    ratePer (if emg then t.cf (PROF_EDEC.EDEC n) else t.cf (PROF_DMAX.DMAX n)) tg,
    jerkPer (if emg then t.cf (PROF_EJMAX.EJMAX n) else t.cf (PROF_JMAX.JMAX n)) tg, v * 2 ^ 24⟩

/-- One boundary of the velocity mode (15 R564): value and rate after. -/
def genVel (g : GenLim) (v a tv : Int) : Int × Int :=
  let tgt := clampI (-g.vL) g.vL tv
  let err := tgt - v
  let grow := decide (v = 0) || (decide (0 < err) == decide (0 < v))
  let lim := if grow then g.aL else g.dL
  let mag := if g.j = 0 then lim else min lim (isqrt (2 * g.j * err.natAbs))
  let ad := if err = 0 then 0 else if err < 0 then -mag else mag
  let a2 := a + (if g.j = 0 then ad - a else clampI (-g.j) g.j (ad - a))
  let vn := v + a2
  if (decide (tgt - vn < 0) != decide (err < 0)) && (a2.natAbs : Int) ≤ (if g.j = 0 then lim else g.j) then (tgt, 0) else (vn, a2)

/-- The numerator of kc over 60 * 32767 seconds (15 R565). -/
def Tail.kcNum (t : Tail) (n : Stn) : Nat := t.cf (STN_NBASE.VALUE n) * t.cf (FBP_CPR.CPR n) * t.tg n
/-- The denominator of kc. -/
def kcDen : Nat := 60 * 32767 * s1

/-- One boundary of the position mode toward `target` counts (15 R565): value, rate, position, and whether it arrived. -/
def Tail.genPos (t : Tail) (n : Stn) (g : GenLim) (v a p target : Int) : Int × Int × Int × Bool :=
  let k := t.kcNum n
  let d := target * 2 ^ 16 - p
  let root : Int := if k = 0 then (Config.posNoScale d : Nat) else isqrt (2 * g.dL * d.natAbs * 2 ^ 8 * kcDen / k)
  let mag := min g.vL root
  let (v2, a2) := genVel g v a (if d < 0 then -mag else if d = 0 then 0 else mag)
  let p2 := p + roundDiv (v2 * k * 2 ^ 16) (2 ^ 24 * kcDen)
  let d2 := target * 2 ^ 16 - p2
  if (0 < d && d2 ≤ 0 || d < 0 && 0 ≤ d2 || d = 0) && (v2.natAbs : Int) ≤ g.dL then (0, 0, target * 2 ^ 16, true)
  else (v2, a2, p2, false)

/-- AREF of rate `a` (15 R564). -/
def Tail.arefOf (t : Tail) (n : Stn) (a : Int) : Int := sat16 (roundDiv (a * s1) (t.tg n * 2 ^ 24))

/-- AT_TARGET with its latch (15 R566). -/
def Tail.atTarget (t : Tail) (n : Stn) (x : Bool) : Tail :=
  let t := if x && !t.b (PROF_STAT.AT_TARGET n) then t.evt (stnPage n 0xB) 0 else t
  t.pb (PROF_STAT.AT_TARGET n) x

/-- The generator moves toward the code `code` in velocity mode and gives the reference. -/
def Tail.genTo (t : Tail) (n : Stn) (g : GenLim) (code : Int) : Tail :=
  let s := (t.stnGet n).setp
  let (v, a) := genVel g s.v s.a (code * 2 ^ 24)
  let aref := if t.kind n = .speed then t.arefOf n a else 0
  let t := t.atTarget n (v = clampI (-g.vL) g.vL (code * 2 ^ 24) && a = 0)
  t.setpMap n (fun s => { s with v := v, a := a, ref := sat16 (rshr v 24), aref := aref })

/-! ## Set-point records (15 R561, R562) -/

/-- The set-point stream of station `n` is looked at: records of another length are counted, and the newest of 4 bytes, unless it is
poisoned, becomes the target; its number goes with it. What was committed in this cycle of CLK_CE follows the boundary (01 R33). -/
def Tail.setpScan (t : Tail) (n : Stn) : Option Word × Tail :=
  let k := 64 + 16 * n.val + 3
  let st := t.sst k
  let all := (st.recs.filter (fun r => decide (2 ≤ r.kind))).reverse
  let data := all.dropWhile (fun r => r.ft = t.ftCe)
  let seq := st.seq - BitVec.ofNat 32 (all.length - data.length)
  let new := (seq - (t.stnGet n).setp.seen).toNat
  let bad := ((data.take new).filter (fun r => decide (r.len ≠ 4))).length
  let t := t.setpMap n (fun s => { s with seen := seq })
  let t := if bad = 0 then t else (t.incBy (PROF_CNT.BADREC n) bad).evt (stnPage n 0xB) 2
  match data.findIdx? (fun r => decide (r.len = 4)) with
  | none => (none, t)
  | some i =>
    match data[i]? with
    | none => (none, t)
    | some r =>
      let (x, t) := t.readRec k r
      match x with
      | some (_, ws, false) =>
        let v := sx 32 (ws.getD 1 0 % 2 ^ 32)
        (some (seq - BitVec.ofNat 32 i), t.setpMap n (fun s => { s with target := some v }))
      | _ => (none, t)

/-! ## Joining the present reference (15 R576, R577) -/

/-- The present reference of kind `k` of station `n` (15 R577). -/
def Tail.presentRef (t : Tail) (n : Stn) (k : Kind) : Int :=
  let s := t.stnGet n
  if s.setp.kind = k then s.setp.ref
  else match k with
    | .speed => s.loops.nref.q15
    | .torque => s.loops.tref
    | .position => s.loops.posOk
    | .tension => t.tension n

/-- Drive `d` enters from the present reference of kind `k` (15 R576). The generator keeps its value and rate where it drove the
speed reference before Render (R580). -/
def Tail.enterDrive (t : Tail) (n : Stn) (d : Drive) (k : Kind) : Tail :=
  let r := t.presentRef n k
  let s := (t.stnGet n).setp
  let was := s.kind = .speed && (s.drv = .profile || s.drv = .pay || s.drv = .down || s.drv = .haul)
  let keep := was && (d = .pay || d = .down || d = .haul)
  let seq := (t.sst (64 + 16 * n.val + 3)).seq
  let cnt := t.gi (EXTS_PCNT.COUNT n)
  let t := if keep then t else t.setpMap n (fun s => { s with v := r * 2 ^ 24, a := 0, p := r * 2 ^ 16 })
  let t := if d = .haul then t.setpMap n (fun s => { s with p := (t.stnGet n).loops.posOk * 2 ^ 16 }) else t
  t.setpMap n (fun s =>
    { s with
      drv := d, kind := k, enter := false, ref := r, out := r * 2 ^ 24, yf := r, rem := 0, cnt := cnt, lostT := none, okT := none
      hostFrom := if d = .host then some seq else none })

/-! ## Followers (15 section 4) -/

/-- A slew-limited output moves toward `y` (15 R571 step 7): units of 2 ^ -24 code. -/
def slewTo (out y sl : Int) (free : Bool) : Int := if free then y * 2 ^ 24 else out + clampI (-sl) sl (y * 2 ^ 24 - out)

/-- A speed value under the Warm-up limits (15 R582). -/
def Tail.warmSpeed (t : Tail) (n : Stn) (v : Int) : Int :=
  if t.b (PROF_STAT.WARM_ACT n) then clampI (-(t.cf (PROF_WLIM.WVMAX n) : Int)) (t.cf (PROF_WLIM.WVMAX n)) v else v

/-- The analogue follower's value and its validity, with WIREBRK (15 R571 steps 1 to 5, R572). -/
def Tail.analogValue (t : Tail) (n : Stn) : Int × Bool × Bool :=
  let (v, ok) := t.ainAt n (t.cf (EXTS_ACFG.AIN n))
  let x := rshr v 16
  let ma := t.cfb (EXTS_ACFG.MA n)
  let brk := ma && (x < 2949 || 17203 < x)
  let x := if ma then sat16 (roundDiv ((x - 3277) * 5) 2) else x
  let x := sat16 (x - t.cfi (EXTS_AOFS.OFS n))
  let db : Int := t.cf (EXTS_ADB.DB n)
  let x := if (x.natAbs : Int) ≤ db then 0 else if 0 < x then x - db else x + db
  let lim := t.cf (EXTS_ALIM.LIM n)
  (clampI (limMin lim) (limMax lim) (sat16 (rnd15 (mulk x (t.cf (EXTS_AGAIN.GAIN n))))), ok && !brk, brk)

/-- The pulse follower's input is valid (15 R575). -/
def Tail.pulseOk (t : Tail) (n : Stn) : Bool :=
  let m := t.cf (EXTS_PCFG.PSTN n)
  if h : m < 4 then
    t.fitted m && t.auxLost ⟨m, h⟩ % 4 = 0 && t.cf (FBA_CFG.MODE m) = 0
  else false

/-- The counts of the pulse follower since the last boundary, geared (15 R574). -/
def Tail.pulseTake (t : Tail) (n : Stn) : Int × Tail :=
  let s := (t.stnGet n).setp
  let c := t.gi (EXTS_PCNT.COUNT n)
  let dc := posDiff (enc 32 c) (enc 32 s.cnt)
  let den : Int := max 1 (t.cf (EXTS_PDEN.DEN n))
  let g := dc * t.cfi (EXTS_PCFG.NUM n) + s.rem
  let dp := Int.tdiv g den
  (dp, t.setpMap n (fun s => { s with cnt := c, rem := g - dp * den }))

/-- The speed code of `dp` counts in one boundary (15 R574). -/
def Tail.pulseSpeed (t : Tail) (n : Stn) (dp : Int) : Int :=
  let d := t.cf (FBP_CPR.CPR n) * t.tg n * t.cf (STN_NBASE.VALUE n)
  if d = 0 then (Config.pulseNoCpr dp).toInt else sat16 (roundDiv (dp * 60 * s1 * 32767) d)

/-- The validity of a follower's input at a boundary, with the timers of R575. -/
def Tail.folStatus (t : Tail) (n : Stn) (ok brk : Bool) : Tail :=
  let dl := t.after (t.cf (EXTS_TLOST.MS n) * ms1)
  let lost := t.b (EXTS_STAT.LOST n)
  let t := if brk && !t.b (EXTS_STAT.WIREBRK n) then t.evt (stnPage n 0xC) 1 else t
  let t := (t.pb (EXTS_STAT.WIREBRK n) brk).pb (EXTS_STAT.VALID n) ok
  t.setpMap n (fun s =>
    { s with
      lostT := if ok || lost then none else if s.lostT.isSome then s.lostT else dl
      okT := if ok && lost then (if s.okT.isSome then s.okT else dl) else none })

/-- A follower's output becomes the reference. -/
def Tail.folRef (t : Tail) (n : Stn) (out : Int) (pos : Bool) : Tail :=
  let r := if pos then sx 32 (enc 32 (rshr out 24)) else sat16 (rshr out 24)
  (t.setpMap n (fun s => { s with out := out, ref := r, aref := 0 })).pi (EXTS_OUT.VALUE n) r

/-- A lost follower or lever ramps its output to 0 under EDEC and EJMAX (15 R575, 22 R770). -/
def Tail.rampOut (t : Tail) (n : Stn) : Tail :=
  let s := (t.stnGet n).setp
  let (v, a) := genVel (t.genLim n true 0x7FFF) s.v s.a 0
  t.setpMap n (fun s => { s with v := v, a := a, out := v })

/-- The analogue follower at a boundary (15 R571, R575); `entered` at its first boundary (R576). -/
def Tail.analogStep (t : Tail) (n : Stn) (entered : Bool) : Tail :=
  let (y, ok, brk) := t.analogValue n
  let t := t.folStatus n ok brk
  if t.b (EXTS_STAT.LOST n) then
    let t := t.rampOut n
    t.folRef n (t.stnGet n).setp.out false
  else if !ok then t.folRef n (t.stnGet n).setp.out false
  else
    let s := (t.stnGet n).setp
    let a : Int := t.cf (EXTS_AFILT.A n)
    let yf := if entered then y else sat16 (rnd15 (a * s.yf + (32768 - a) * y))
    let goal := if t.feed n = .speed then t.warmSpeed n yf else yf
    let sl := t.cf (EXTS_SLEW.SLEW n)
    let out := slewTo s.out goal (ratePer sl (t.tg n)) (sl = 0)
    (t.setpMap n (fun s => { s with yf := yf, v := out, a := 0 })).folRef n out false

/-- The pulse follower at a boundary (15 R574, R575): counts of a boundary with an invalid input move nothing. -/
def Tail.pulseFollow (t : Tail) (n : Stn) : Tail :=
  let pos := t.feed n = .position
  let t := t.folStatus n (t.pulseOk n) false
  let (dp, t) := t.pulseTake n
  if t.b (EXTS_STAT.LOST n) then
    let t := t.rampOut n
    t.folRef n (t.stnGet n).setp.out pos
  else if !t.pulseOk n then t.folRef n (t.stnGet n).setp.out pos
  else
    let s := (t.stnGet n).setp
    let sl := t.cf (EXTS_SLEW.SLEW n)
    let goal := if pos then s.yf + dp else t.warmSpeed n (t.pulseSpeed n dp)
    let out := slewTo s.out goal (ratePer sl (t.tg n)) (sl = 0)
    (t.setpMap n (fun s => { s with yf := goal, v := out, a := 0 })).folRef n out pos

/-- FOLLOWER_LOST (15 R575): the input has stayed invalid, or valid again, for EXTS_TLOST. -/
def execFollowerLost (n : Stn) (lost : Bool) (s : State) : Host.Outcome State Fault Refusal :=
  tailNext s (fun t =>
    let p := (t.stnGet n).setp
    match lost, p.lostT, p.okT with
    | true, some d, _ =>
      (((t.elapseTo d).pb (EXTS_STAT.LOST n) true).setpMap n (fun s => { s with lostT := none, v := s.out, a := 0 })).evt
        (stnPage n 0xC) 0 |>.finish
    | false, _, some d =>
      (((t.elapseTo d).pb (EXTS_STAT.LOST n) false).setpMap n (fun s => { s with okT := none, out := 0, v := 0, a := 0 })).evt
        (stnPage n 0xC) 2 |>.finish
    | _, _, _ => t)

/-! ## The lever (22 R769, R770) -/

/-- A lever channel: its Q15 code of 10 V, where the input has a valid output. -/
def Tail.leverCh (t : Tail) (k : Nat) : Option Int :=
  if t.ainOn k && (t.g AIN_STAT.VALID).testBit k then some (rshr (t.gi (AIN_VAL.VALUE k)) 16) else none

/-- TDISC in ticks (22 R789): 0 acts as 1. -/
def Tail.levTdisc (t : Tail) : Nat := max 1 (t.cf EMG_LEVCFG.TDISC) * 10 * ms1

/-- The check of the lever channels at a boundary (22 R769, R770): the channels where it passes, its timer, and LEV_DISC. -/
def Tail.leverCheck (t : Tail) : Option (Int × Int) × Tail :=
  let a := t.leverCh (t.cf EMG_LEVCFG.AIN_A)
  let b := t.leverCh (t.cf EMG_LEVCFG.AIN_B)
  let t := match a with | some x => t.pi EMG_LEVIN.XA x | none => t
  let t := match b with | some x => t.pi EMG_LEVIN.XB x | none => t
  match a, b with
  | some xa, some xb =>
    if (xa - xb).natAbs ≤ t.cf EMG_LEVCFG.DISC then
      let okAt := t.emg.okAt.getD t.now
      let t := { t with emg := { t.emg with discT := none, okAt := some okAt } }
      let nb := t.cf EMG_LEVLIM.NEUTRAL
      (some (xa, xb),
        if t.b EMG_STAT.LEV_DISC && okAt + t.levTdisc ≤ t.now && xa.natAbs ≤ nb && xb.natAbs ≤ nb then t.p EMG_STAT.LEV_DISC 0 else t)
    else (none, { t with emg := { t.emg with okAt := none, discT := if t.emg.discT.isSome then t.emg.discT else t.after t.levTdisc } })
  | _, _ => (none, { t with emg := { t.emg with okAt := none, discT := if t.emg.discT.isSome then t.emg.discT else t.after t.levTdisc } })

/-- The lever source at a boundary (22 R769, R770). -/
def Tail.leverStep (t : Tail) (n : Stn) : Tail :=
  let (ch, t) := t.leverCheck
  let t := if t.b EMG_STAT.LEV_DISC then t.rampOut n
    else match ch with
      | none => t
      | some (xa, xb) =>
        let lim : Int := t.cf EMG_LEVLIM.LIM
        let y := clampI (-lim) lim (sat16 (rnd15 (mulk (rshr (xa + xb) 1) (t.cf EMG_LEVGAIN.GAIN))))
        let sl := t.cf EMG_LEVSLEW.SLEW
        let out := slewTo (t.stnGet n).setp.out y (ratePer sl (t.tg n)) (sl = 0)
        t.setpMap n (fun s => { s with out := out, v := out, a := 0 })
  let r := sat16 (rshr (t.stnGet n).setp.out 24)
  let t := t.pi EMG_LEVREF.REF r
  t.setpMap n (fun s => { s with ref := if t.feed n = .speed then t.warmSpeed n r else r, aref := 0 })

/-- LEV_DISC (22 R770): the lever channels have disagreed for TDISC. -/
def execLevDisc (n : Stn) (s : State) : Host.Outcome State Fault Refusal :=
  tailNext s (fun t =>
    match t.emg.discT with
    | some d =>
      if !(t.stnGet n).sq.lever then t
      else
        let t := t.elapseTo d
        let t := { t with emg := { t.emg with discT := none } }
        if t.b EMG_STAT.LEV_DISC then t
        else
          let t := t.stns.foldl (fun t m => t.setpMap m (fun s => { s with v := s.out, a := 0 })) t
          ((t.p EMG_STAT.LEV_DISC 1).evt 0x24 3).finish
    | none => t)

/-! ## Render (15 section 6) -/

/-- Render returns to NORMAL (15 R580, R581): the outer loop restarts, the source enters from the present reference. -/
def Tail.renderEnd (t : Tail) (n : Stn) : Tail :=
  let out := (t.stnGet n).loops.nref
  let t := (t.setpMap n (fun s => { s with render := .normal, above := 0, enter := true })).evt (stnPage n 0xB) 4
  if t.outl n then t.outerPreset n out else t

/-- The state of Render at a speed boundary, before the reference is formed (15 R579, R581); the block acts while it is enabled (05 R168).
-/
def Tail.renderState (t : Tail) (n : Stn) : Tail :=
  let s := t.stnGet n
  let may := t.enabled (stnPage n 0xB) && t.cfb (PROF_RCFG.EN n) && t.spdl n && (s.sq.st = .running || s.sq.st = .voltLimited) && s.setp.stop = .none
  if !may then (if s.setp.render = .normal then t else t.renderEnd n)
  else if !t.spdBoundary n then t
  else
    let f := t.tension n
    let high := t.cfi (PROF_RTHR.TREND n) ≤ f
    let low := f ≤ t.cfi (PROF_RTHR.TREC n)
    match s.setp.render with
    | .normal =>
      let c := if high then s.setp.above + 1 else 0
      let t := t.setpMap n (fun s => { s with above := c })
      if max 1 (t.cf (PROF_RCFG.W n)) ≤ c then
        ((t.setpMap n (fun p => { p with render := .rendering, haul := s.loops.posOk })).inc (PROF_CNT.RENDERS n)).evt (stnPage n 0xB) 3
      else t
    | .rendering =>
      if low then t.setpMap n (fun p => { p with render := if t.cfb (PROF_RCFG.HAUL n) then .haulBack else .down }) else t
    | .down => if high then t.setpMap n (fun p => { p with render := .rendering }) else t
    | .haulBack => if high then t.setpMap n (fun p => { p with render := .rendering }) else t

/-! ## The source at its boundary (15 R559, R560) -/

/-- What PROF_CFG.SRC selects for kind `k`, and whether the selection is not possible (15 R560). -/
def Tail.srcSel (t : Tail) (n : Stn) (k : Kind) : Drive × Bool :=
  match t.cf (PROF_CFG.SRC n) with
  | 1 => if t.enabled (stnPage n 0xB) then (.profile, false) else (.host, true)
  | 2 => if t.enabled (stnPage n 0xC) && k != .position then (.analog, false) else (.host, true)
  | 3 => if t.enabled (stnPage n 0xC) && (k = .speed || k = .position) then (.pulse, false) else (.host, true)
  | 4 => (.host, true)
  | _ => (.host, false)

/-- What drives the reference of station `n` (15 R560, R568, R579, 22 R767). -/
def Tail.driveSel (t : Tail) (n : Stn) : Drive × Bool :=
  let s := t.stnGet n
  let sel := t.srcSel n (t.kind n)
  if s.setp.stop != .none then (.stop, sel.2)
  else if s.sq.lever then (.lever, sel.2)
  else match s.setp.render with
    | .rendering => (.pay, sel.2)
    | .down => (.down, sel.2)
    | .haulBack => (.haul, sel.2)
    | .normal => sel

/-- The code of a source in SRC_ACT (15 R560). -/
def Drive.code : Drive → Option Nat
  | .host => some 0 | .profile => some 1 | .analog => some 2 | .pulse => some 3 | .lever => some 4 | _ => none

/-- HOST at a boundary (15 R560 to R562, R576). -/
def Tail.hostStep (t : Tail) (n : Stn) (newest : Option Word) : Tail :=
  let s := (t.stnGet n).setp
  let go := match s.hostFrom with
    | none => true
    | some f => match newest with
      | some o => o != f && (o - f).toNat < 2 ^ 31
      | none => false
  match go, s.target with
  | true, some v =>
    let r := if s.kind = .position then v else if s.kind = .speed then t.warmSpeed n (sat16 v) else sat16 v
    t.setpMap n (fun s => { s with ref := r, aref := 0, hostFrom := none })
  | _, _ => t.setpMap n (fun s => { s with aref := 0 })

/-- PROFILE at a boundary (15 R562, R564, R565). -/
def Tail.profileStep (t : Tail) (n : Stn) : Tail :=
  let s := (t.stnGet n).setp
  let g := t.genLim n false (t.cf (PROF_VMAX.VMAX n))
  if s.kind = .position then
    let (v, a, p, _) := t.genPos n g s.v s.a s.p (s.target.getD s.ref)
    let t := t.atTarget n (p = (s.target.getD s.ref) * 2 ^ 16 && v = 0 && a = 0)
    t.setpMap n (fun s => { s with v := v, a := a, p := p, ref := sx 32 (enc 32 (roundDiv p (2 ^ 16))), aref := 0 })
  else t.genTo n g (sat16 (s.target.getD s.ref))

/-- HAUL_BACK at a boundary (15 R579): position mode toward the haul position. -/
def Tail.haulStep (t : Tail) (n : Stn) : Tail :=
  let s := (t.stnGet n).setp
  let g := t.genLim n false (min (t.cf (PROF_RSPD.VHAUL n)) (t.cf (PROF_VMAX.VMAX n)))
  let (v, a, p, done) := t.genPos n g s.v s.a s.p s.haul
  let t := t.setpMap n (fun s => { s with v := v, a := a, p := p, ref := sat16 (rshr v 24), aref := 0 })
  if done then t.renderEnd n else t

/-- The reference of station `n` at a boundary of its source. -/
def Tail.sourceStep (t : Tail) (n : Stn) : Tail :=
  let (d, inv) := t.driveSel n
  let k := t.feed n
  let s := (t.stnGet n).setp
  let t := if inv && !t.b (PROF_STAT.SRC_INV n) then t.evt (stnPage n 0xB) 1 else t
  let t := t.pb (PROF_STAT.SRC_INV n) inv
  let entered := s.enter || s.drv != d || s.kind != k
  let t := if entered then t.enterDrive n d k else t
  let t := match d.code with | some c => t.p (PROF_STAT.SRC_ACT n) c | none => t
  let (newest, t) := if d = .stop || ((t.stnGet n).sq.lever && (t.stnGet n).sq.st = .emergency) then (none, t) else t.setpScan n
  let t := if d = .profile || d = .stop || d = .pay || d = .down || d = .haul then t else t.p (PROF_STAT.AT_TARGET n) 0
  let rspd : Int := t.cf (PROF_RSPD.VPAY n)
  match d with
  | .host => t.hostStep n newest
  | .profile => t.profileStep n
  | .analog => t.analogStep n entered
  | .pulse => t.pulseFollow n
  | .lever => t.leverStep n
  | .stop => t.genTo n (t.genLim n ((t.stnGet n).setp.stop = .emergency) (t.cf (PROF_VMAX.VMAX n))) 0
  | .pay => t.genTo n (t.genLim n false (t.cf (PROF_VMAX.VMAX n))) (if t.cfb (PROF_RCFG.PDIR n) then rspd else -rspd)
  | .down =>
    let t := t.genTo n (t.genLim n false (t.cf (PROF_VMAX.VMAX n))) 0
    if (t.stnGet n).setp.v = 0 && (t.stnGet n).setp.a = 0 then t.renderEnd n else t
  | .haul => t.haulStep n

/-- WARM_ACT at a sample (15 R582, 21 R741), while the block is enabled (05 R168). -/
def Tail.warmUpdate (t : Tail) (n : Stn) : Tail :=
  let w := t.enabled (stnPage n 0xB) && t.cfb (PROF_CFG.WARM n) && (t.stnGet n).thm.toList.any (·.lowInh)
  let t := if w && !t.b (PROF_STAT.WARM_ACT n) then t.evt (stnPage n 0xB) 5 else t
  t.pb (PROF_STAT.WARM_ACT n) w

/-- The writes to the PROF and EXTS pages of station `n` take effect at a boundary of its source (15 R583). -/
def Tail.takeSource (t : Tail) (n : Stn) : Tail :=
  { t with late := t.late.filter (fun e => !(sourceReg e.1 && sampleReg e.1 = some n.val)) }

/-- Render and the source of station `n` at a sample (15 R559, R579). -/
def Tail.source (t : Tail) (n : Stn) : Tail :=
  let t := if t.srcBoundary n then t.takeSource n else t
  let t := t.renderState n
  let t := if t.srcBoundary n || (t.stnGet n).setp.kind != t.feed n then t.sourceStep n else t
  (t.pi (PROF_REF.VALUE n) (t.stnGet n).setp.ref).pi (PROF_TGT.VALUE n) (((t.stnGet n).setp.target).getD 0)

/-- The source of station `n` enters from the present reference of a takeover (15 R576, R577). -/
def Tail.enterRef (t : Tail) (n : Stn) : Tail :=
  let s := t.stnGet n
  let k := t.feed n
  let d := (t.driveSel n).1
  let r : Int := match k with
    | .speed => sat16 (rshr s.loops.spdOk 16)
    | .position => s.loops.posOk
    | .tension => t.tension n
    | .torque => s.loops.tref
  let t := t.setpMap n (fun s => { s with kind := k, ref := r, aref := 0 })
  t.enterDrive n d k

/-- The source enters as `enterRef` says, and HOST takes the newest record at once (15 R578). -/
def Tail.enterPresent (t : Tail) (n : Stn) : Tail := (t.enterRef n).setpMap n (fun s => { s with hostFrom := none })

/-- The takeover's part of the source (15 R577, R578): the newest record becomes the target, and the source enters. -/
def Tail.sourceTakeover (t : Tail) (n : Stn) : Tail := ((t.takeSource n).setpScan n).2.enterPresent n

/-- The speed loop and, where present, the outer loop start with `out` as the torque in effect (13 R494). -/
def Tail.loopsTakeover (t : Tail) (n : Stn) (out : Int) : Tail :=
  let held := t.outHeld n
  let r : Bfp := if t.outl n && !held then t.spdInput n else ⟨sat16 (t.stnGet n).setp.ref, 0⟩
  let t := if t.outl n then t.outerPreset n (t.spdInput n) else t
  t.speedPreset n out r

end Sys2Proof.Machine
end

