-- ==== Sys2Proof/Machine/Share.lean ====
section
/-! DEFINITION. Load sharing and the Orbit ring (16): roles, share frames, sending, forwarding and accepting, links and routes, loss and
succession. -/

namespace Sys2Proof.Machine

/-! ## Groups and members (16 R586 to R589) -/

/-- The local group of station `n`, if it shares (16 R586). -/
def Tail.shrGroup (t : Tail) (n : Nat) : Option (Fin 4) :=
  let r := t.cf (SHR_STN.ROLE n)
  let g : Fin 4 := Fin.ofNat 4 (t.cf (SHR_STN.GRP n))
  if t.enabled 0x37 && t.fitted n && (r = 1 || r = 2) && t.cfb (SHR_GCFG.EN g.val) then some g else none

/-- Group `g` is the unit's part of a ring group (16 R587). -/
def Tail.ringGroup (t : Tail) (g : Nat) : Bool := t.u.orbit && t.cfb (SHR_GCFG.RING g)

/-- The ID of station `n` (16 R599). -/
def Tail.stnId (t : Tail) (n : Nat) : Nat := t.cf ORB_CFG.UNIT * 4 + n

/-- The members of local group `g` in this unit. -/
def Tail.members (t : Tail) (g : Fin 4) : List Stn := t.stns.filter (fun n => t.shrGroup n = some g)

/-- The station that acts as Pacer of local group `g` here. -/
def Tail.pacerOf (t : Tail) (g : Fin 4) : Option Stn := (t.members g).find? (fun n => (t.stnGet n).share.role = .pacer)

/-- Station `n` acts as Follower (16 R589). -/
def Tail.isFollower (t : Tail) (n : Stn) : Bool := (t.stnGet n).share.role = .follower

/-- The PACER of the valid frames that arrive for local group `g` (16 R589, R611): one within 250 us. -/
def Tail.heardPacer (t : Tail) (g : Fin 4) : Option Nat :=
  match t.shr[g].heard with
  | some (a, p) => if t.now < a + 250 * us1 then some p else none
  | none => none

/-- ROLE_ACT of station `n`. -/
def roleField (n : Nat) : Fd :=
  ⟨(SHR_STAT.ROLE_ACT).addr, 2 * n + 1, 2 * n, (SHR_STAT.ROLE_ACT).acc, 0, (SHR_STAT.ROLE_ACT).rby⟩

def Role.code : Role → Nat
  | .none => 0 | .pacer => 1 | .follower => 2

/-- Station `n` takes acting role `r` (16 R589). -/
def Tail.setRole (t : Tail) (n : Stn) (r : Role) : Tail := (t.shareMap n (fun s => { s with role := r })).p (roleField n) r.code

/-- A station of this unit may act as Pacer of local group `g` (16 R588). -/
def Tail.mayPace (t : Tail) (g : Fin 4) : Bool := !(t.ringGroup g && !(t.cf ORB_PACE.PACE * 2).testBit (t.cf (SHR_GCFG.GID g)))

/-- The role with which station `n` starts (16 R588, R589, R594). -/
def Tail.startRole (t : Tail) (n : Stn) : Tail :=
  let t := t.shareMap n (fun s =>
    { s with
      share := 0, recv := 0, stopReq := false, pacer := none, next := 0xFF, fseq := none, wait := [], seen := t.now, plost := false
      succ := false, join := false })
  match t.shrGroup n with
  | none => t.setRole n .none
  | some g =>
    if t.cf (SHR_STN.ROLE n) = 1 then
      let denied := !t.mayPace g
      let t := t.p SHR_STAT.PACE_DENIED (setBit (t.g SHR_STAT.PACE_DENIED) n denied)
      let t := if denied then t.evt 0x37 3 else t
      let other := (t.pacerOf g).isSome || (t.heardPacer g).any (· != t.stnId n)
      t.setRole n (if denied || other then .follower else .pacer)
    else t.setRole n .follower

/-! ## Frames (16 R599) -/

/-- The bytes of a share frame before its CRC. -/
def frameBody (x : OrbInfo) : List Byte :=
  [1, BitVec.ofNat 8 x.gid, BitVec.ofNat 8 x.flags, BitVec.ofNat 8 x.fseq, BitVec.ofNat 8 x.pacer, BitVec.ofNat 8 x.next,
    BitVec.ofNat 8 (x.mode + 16 * (x.nslot - 1)), BitVec.ofNat 8 x.hop]
  ++ leBytes 2 (enc 16 x.tref) ++ leBytes 2 (enc 16 x.tap)
  ++ x.slots.flatMap (fun s => BitVec.ofNat 8 s.1 :: leBytes 2 (enc 16 s.2))

/-- A frame with its CRC. -/
def frameBytes (x : OrbInfo) : List Byte := frameBody x ++ leBytes 4 (crc32c (frameBody x)).toNat

/-- The slots of a frame's bytes. -/
def parseSlots : Nat → List Byte → List (Nat × Int)
  | 0, _ => []
  | k + 1, l => ((l.getD 0 0).toNat, sx 16 (leNat ((l.drop 1).take 2))) :: parseSlots k (l.drop 3)

/-- The fields of a frame's bytes. -/
def parseFrame (l : List Byte) : OrbInfo :=
  let b (i : Nat) : Nat := (l.getD i 0).toNat
  let ns := b 6 / 16 + 1
  ⟨b 1 % 16, b 2, b 3, b 4, b 5, b 6 % 4, ns, b 7, sx 16 (b 8 + 256 * b 9), sx 16 (b 10 + 256 * b 11), parseSlots ns (l.drop 12)⟩

/-- The length and CRC of a received frame are right (16 R599). -/
def frameGood (l : List Byte) : Bool :=
  let ns := (l.getD 6 0).toNat / 16 + 1
  l.length = 16 + 3 * ns && leNat (l.drop (l.length - 4)) = (crc32c (l.take (l.length - 4))).toNat

/-- STATUS of member `n` (16 R599): state and rank. -/
def Tail.memberStatus (t : Tail) (n : Stn) : Nat := (t.stnGet n).sq.st.code + 16 * t.cf (SHR_STN.RANK n)

/-- The slots with those of the unit's members `ms` filled (16 R600, R602). -/
def Tail.fillSlots (t : Tail) (ms : List Stn) (slots : List (Nat × Int)) : List (Nat × Int) :=
  ms.foldl (fun l (n : Stn) => l.set (t.cf (SHR_STN.SLOT n)) (t.memberStatus n, (t.stnGet n).share.ta)) slots

/-- Running state codes (10 R365, R366). -/
def codeRuns (c : Nat) : Bool := c = 3 || c = 4 || c = 5 || c = 6 || c = 8

/-- The candidates for NEXT of the Pacer `n` of group `g` (16 R605): rank and ID of each member shown running, its own unit's
members read directly. -/
def Tail.nextIds (t : Tail) (g : Fin 4) (n : Stn) : List (Nat × Nat) :=
  let own := ((t.members g).filter (fun m => m != n && (t.stnGet m).sq.st.isRunning)).map (fun (m : Stn) => (t.cf (SHR_STN.RANK m), t.stnId m))
  let ownSlots := (t.members g).map (fun (m : Stn) => t.cf (SHR_STN.SLOT m))
  let ret := t.shr[g].ret
  let far := ((List.range ret.length).filter (fun s =>
      !ownSlots.contains s && ret.getD s 0xFF != 0xFF && codeRuns (ret.getD s 0xFF % 16))).map
    (fun s => (ret.getD s 0 / 16, (Config.memberId (t.cf (SHR_GCFG.GID g)) s).toNat))
  (own ++ (if t.ringGroup g then far else [])).filter (fun e => e.1 != 0)

/-- NEXT (16 R605): the member with the lowest rank; 0xFF where there is none. -/
def Tail.nextId (t : Tail) (g : Fin 4) (n : Stn) : Nat :=
  ((t.nextIds g n).foldl (fun b e => match b with
    | none => some e
    | some x => if e.1 < x.1 then some e else some x) none).elim 0xFF (·.2)

/-! ## Ports (16 R600, R607, R609) -/

/-- The port on which the unit sends its own frames: O2, or O1 while O2 is not used (16 R609). -/
def Tail.ownPort (t : Tail) : Fin 2 := if t.orb.use[1] then 1 else 0

/-- The symbols of a frame on a fibre (16 R598): SOF, its bytes, EOF and the two idle symbols that separate it from the next. -/
def orbSymbols (bytes : List Byte) : List Sym := .ctl .sof :: (bytes.map Sym.data ++ [.ctl .eof, .ctl .comma, .ctl .comma])

/-- The symbol that port `p` sends now (16 R598): of a frame in progress, else idle. -/
def Tail.portSymbol (t : Tail) (p : Fin 2) : Sym :=
  let l := orbSymbols t.orb.out[p]
  let left := (t.orb.busy[p] - t.now + orbSym - 1) / orbSym
  if left = 0 then .ctl .comma else l.getD (l.length - left) (.ctl .comma)

/-- `bytes` begin to leave on port `p` at `s` (16 R597, R598). -/
def Tail.portBegin (t : Tail) (p : Fin 2) (s : Nat) (bytes : List Byte) : Tail :=
  let e := s + (orbSymbols bytes).length * orbSym
  let tx := if p = 1 then (s, e) :: t.orb.tx.filter (fun x => decide (t.now < x.2 + ms1)) else t.orb.tx
  { t with orb := { t.orb with busy := t.orb.busy.set p e, out := t.orb.out.set p bytes, tx := tx } }

/-- The local group of ring group `gid`. -/
def Tail.groupOfGid (t : Tail) (gid : Nat) : Option (Fin 4) :=
  (List.finRange 4).find? (fun g => t.cfb (SHR_GCFG.EN g.val) && t.ringGroup g.val && t.cf (SHR_GCFG.GID g.val) = gid && gid != 0)

/-- The frame as the unit forwards it (16 R602): HOP, its members' slots, the CRC, inverted where the received one was bad. -/
def Tail.forwarded (t : Tail) (x : OrbInfo) (good wrapped : Bool) : List Byte :=
  let slots := match t.groupOfGid x.gid with
    | some g => t.fillSlots (t.members g) x.slots
    | none => x.slots
  let y := { x with hop := x.hop + 1, slots := slots, flags := if wrapped then setBit x.flags 1 true else x.flags }
  let c := crc32c (frameBody y)
  frameBody y ++ leBytes 4 (if good then c else ~~~c).toNat

/-- The port out of which a frame received on port `p` goes (16 R609): the other one, or back while that one is not used. -/
def Tail.fwdPort (t : Tail) (p : Fin 2) : Fin 2 :=
  let q : Fin 2 := if p = 0 then 1 else 0
  if t.orb.use[q] then q else p

/-- What port `p` takes at its gap at time `s` (16 R607): forwarded traffic before own frames. -/
def Tail.portTake (t : Tail) (p : Fin 2) (s : Nat) : Tail :=
  match t.orb.fwd.findIdx? (fun e => decide (t.fwdPort e.1 = p)), t.orb.own with
  | some i, _ => match t.orb.fwd[i]? with
    | some (r, x, good) =>
      { t with orb := { t.orb with fwd := t.orb.fwd.eraseIdx i } }.portBegin p s (t.forwarded x good (r = p))
    | none => t
  | none, (_, b) :: l => if t.ownPort = p then { t with orb := { t.orb with own := l } }.portBegin p s b else t
  | none, [] => t

/-- What the ports have taken at their gaps up to now, of what waited (16 R607). -/
def Tail.orbGaps (t : Tail) : Tail :=
  (List.range (t.orb.fwd.length + t.orb.own.length)).foldl (fun t _ =>
    ([0, 1] : List (Fin 2)).foldl (fun t p => if t.orb.busy[p] ≤ t.now then t.portTake p t.orb.busy[p] else t) t) t

/-- The ports that are free begin with what waits now. -/
def Tail.orbStart (t : Tail) : Tail :=
  ([0, 1] : List (Fin 2)).foldl (fun t p => if t.orb.busy[p] ≤ t.now then t.portTake p t.now else t) t

/-- UTIL of ORB_LOAD (16 R620): O2's busy time over the last 1 ms in 1/256. -/
def Tail.orbUtil (t : Tail) : Nat :=
  let from0 := t.now - ms1
  min 255 ((t.orbGaps.orb.tx.map (fun x => min t.now x.2 - max from0 x.1)).sum * 256 / ms1)

/-- A frame of group `g` is sent on the ring (16 R600, R607): it replaces one that is still queued. -/
def Tail.ringSend (t : Tail) (g : Fin 4) (bytes : List Byte) : Tail :=
  if !(t.ringGroup g && t.enabled 0x36 && t.runs 6) then t
  else
    let t := t.orbGaps
    if t.orb.own.any (fun e => e.1 = g) then
      let own := t.orb.own.map (fun (e : Fin 4 × List Byte) => if e.1 = g then (g, bytes) else e)
      ({ t with orb := { t.orb with own := own } }.inc ORB_LOAD.DROPPED).evt 0x36 4
    else { t with orb := { t.orb with own := t.orb.own ++ [(g, bytes)] } }.orbStart

/-- A received frame waits to be forwarded, and goes at the next gap of its port (16 R602, R607). -/
def Tail.forward (t : Tail) (p : Fin 2) (x : OrbInfo) (good : Bool) : Tail :=
  let t := t.orbGaps
  { t with orb := { t.orb with fwd := t.orb.fwd ++ [(p, x, good)] } }.orbStart

/-- The frame that the transmitter reads from stream 130 for group `g`: the record of the commit that wrote it, none where it is not there
or has a poisoned word (07 R252). -/
def Tail.txRead (t : Tail) (g : Fin 4) : Option (List Byte) × Tail :=
  match (t.sst 130).recs.find? (fun r => r.kind = 10 && r.ssn = t.shr[g].txAt) with
  | none => (none, t)
  | some r =>
    let (x, t) := t.readRec 130 r
    (match x with
      | some (_, ws, false) => some ((wordBytes (ws.drop 1)).take r.len)
      | _ => none, t)

/-! ## Accepting (16 R604) -/

/-- MISSED (16 R619): whole intervals of 62.5 us without a frame at a running Follower. -/
def missedIn (gap : Nat) : Nat := (gap - 1) / 25000

/-- FSEQ `f` of a frame follows that of the last frame applied (16 R604). -/
def newSeq (last : Option Nat) (f : Nat) : Bool :=
  match last with
  | none => true
  | some l => let d := (f + 256 - l) % 256; 1 ≤ d && d ≤ 127

/-- A good frame of local group `g` arrives for member `n` (16 R604). -/
def Tail.accept (t : Tail) (g : Fin 4) (x : OrbInfo) (n : Stn) : Tail :=
  let s := (t.stnGet n).share
  let known := match s.pacer with
    | none => true
    | some p => x.pacer = p || (x.flags.testBit 2 && x.pacer = s.next)
  let mode := t.cf (SHR_GCFG.MODE g) % 3
  if !(t.isFollower n && (t.stnGet n).sq.st.isRunning && known && x.mode % 3 = mode) then t
  else
    let t := t.incBy SHR_CNT.MISSED (missedIn (t.now - s.seen))
    let new := newSeq s.fseq x.fseq
    let t := t.shareMap n (fun s => { s with seen := t.now, wait := if new then s.wait ++ [(t.now, x)] else s.wait })
    (t.p (SHR_GSTAT.LOST g) 0).dropSource n 11

/-- A good frame arrives at the members of local group `g` (16 R594, R604); one of the group's MODE is a valid frame of it (R589). -/
def Tail.arrive (t : Tail) (g : Fin 4) (x : OrbInfo) : Tail :=
  let valid := x.mode % 3 = t.cf (SHR_GCFG.MODE g) % 3
  let t := if valid then { t with shr := t.shr.set g { t.shr[g] with heard := some (t.now, x.pacer) } } else t
  (t.members g).foldl (fun t (n : Stn) => if t.stnId n = x.pacer then t else t.accept g x n) t

/-- A Follower applies one frame (16 R593, R604, R617), unless its FSEQ does not follow that of the last frame applied. -/
def Tail.applyOne (t : Tail) (n : Stn) (g : Fin 4) (x : OrbInfo) : Tail :=
  if !newSeq (t.stnGet n).share.fseq x.fseq then t
  else
    let v := if t.cf (SHR_GCFG.MODE g) = 2 then x.tap else x.tref
    let t := t.shareMap n (fun s =>
      { s with
        recv := v, pacer := some x.pacer, next := x.next, fseq := some x.fseq
        share := sat16 (rnd15 (mulk v (t.cf (SHR_KSHARE.KSHARE n))))
        stopReq := s.stopReq || x.flags.testBit 3, plost := x.flags.testBit 4 })
    let t := ((t.p (SHR_GSTAT.FSEQ g) x.fseq).p (SHR_GSTAT.PACER g) x.pacer).p (SHR_GSTAT.NEXT g) x.next
    if x.flags.testBit 4 then t.evt 0x37 1 else t

/-- A Follower applies, at a sample instant, the frames that arrived before it (16 R594). -/
def Tail.applyFrame (t : Tail) (n : Stn) : Tail :=
  match t.shrGroup n with
  | some g =>
    let l := (t.stnGet n).share.wait
    let t := t.shareMap n (fun s => { s with wait := l.filter (fun e => decide (t.now ≤ e.1)) })
    (l.filter (fun e => decide (e.1 < t.now))).foldl (fun t (e : Nat × OrbInfo) => t.applyOne n g e.2) t
  | none => t

/-! ## Sending (16 R600, R601, R612) -/

/-- Pacer `n` of group `g` writes and sends the frame `x` under the commit in progress (16 R600, R601): the transmitter takes it from
stream 130. -/
def Tail.sendFrame (t : Tail) (g : Fin 4) (n : Stn) (x : OrbInfo) : Tail :=
  let b := frameBytes x
  let t := t.record .engine (64 + 16 * n.val + 4) 10 true b
  let t := if t.ringGroup g && t.enabled 0x36 then t.record .engine 130 10 true b else t
  let t := { t with shr := t.shr.set g { t.shr[g] with seq := x.fseq, tx := b, txAt := t.ssn, repT := some (t.now + 25000) } }
  let t := ((t.p (SHR_GSTAT.FSEQ g) x.fseq).p (SHR_GSTAT.PACER g) x.pacer).p (SHR_GSTAT.NEXT g) x.next
  let (y, t) := t.txRead g
  let t := t.arrive g x
  match y with
  | some y => t.ringSend g y
  | none => t

/-- The stop sequence of station `n` holds zero speed (16 R617, 22 R780). -/
def Tail.holdsZero (t : Tail) (n : Stn) : Bool :=
  let s := (t.stnGet n).sq
  s.c2 || s.step = .zeroProve || s.step = .brakeClose || s.step = .tSet

/-- A new frame of the Pacer `n` (16 R599, R600): TREF and TA, its own slot, NEXT, with extra flags. -/
def Tail.newFrame (t : Tail) (g : Fin 4) (n : Stn) (flags : Nat) (tref tap : Int) : OrbInfo :=
  let ns := t.cf (SHR_GCFG.NSLOT g) + 1
  let wrapped := t.ringGroup g && t.b ORB_STAT.WRAPPED
  let slots := t.fillSlots [n] (List.replicate ns (0xFF, 0))
  ⟨if t.ringGroup g then t.cf (SHR_GCFG.GID g) else 0, flags + 2 * b2n wrapped + 8 * b2n (t.holdsZero n), (t.shr[g].seq + 1) % 256,
    t.stnId n, t.nextId g n, t.cf (SHR_GCFG.MODE g) % 3, ns, 0, tref, tap, slots⟩

/-- The acting Pacer's frame at its speed boundary (16 R600), after a takeover with SUCC (R614), under the speed loop's commit. -/
def Tail.pacerFrame (t : Tail) (n : Stn) : Tail :=
  match t.shrGroup n with
  | some g =>
    if (t.stnGet n).share.role != .pacer then t
    else t.sendFrame g n (t.newFrame g n (4 * b2n (t.stnGet n).share.succ) (t.stnGet n).loops.tref (t.stnGet n).share.ta)
  | none => t

/-- A station that left the running states gives up its role at its next sample instant; a Pacer sends one PLOST frame with the
torques of its last frame (16 R612). -/
def Tail.leaveRole (t : Tail) (n : Stn) : Tail :=
  if (t.stnGet n).sq.st.isRunning || (t.stnGet n).share.role = .none then t
  else
    let was := (t.stnGet n).share.role
    let t := if was = .pacer then (match t.shrGroup n with
      | some g =>
        let o := parseFrame t.shr[g].tx
        let t := t.commitAny [64 + 16 * n.val + 4, 130] (fun t => t.sendFrame g n (t.newFrame g n 16 o.tref o.tap))
        { t with shr := t.shr.set g { t.shr[g] with repT := none } }.evt 0x37 1
      | none => t) else t
    t.setRole n .none

/-- FRAME_REPEAT (16 R600): 62.5 us after the group's last frame it is sent again with REPEAT. -/
def execFrameRepeat (g : Nat) (s : State) : Host.Outcome State Fault Refusal :=
  tailNext s (fun t =>
    if h : g < 4 then
      let g : Fin 4 := ⟨g, h⟩
      match t.shr[g].repT, t.pacerOf g with
      | some d, some _ =>
        let t := t.elapseTo d
        let again (b : List Byte) : OrbInfo := let x := parseFrame b; { x with flags := setBit x.flags 0 true }
        let t := { t with shr := t.shr.set g { t.shr[g] with repT := some (t.now + 25000) } }
        let (y, t) := t.txRead g
        let t := t.arrive g (again t.shr[g].tx)
        (match y with
          | some b => t.ringSend g (frameBytes (again b))
          | none => t).finish
      | _, _ => t
    else t)

/-! ## Receiving and forwarding (16 R601 to R605, R609) -/

/-- A frame that returned to its Pacer's unit (16 R605). -/
def Tail.returned (t : Tail) (g : Fin 4) (x : OrbInfo) : Tail :=
  let st := x.slots.map (·.1)
  let empty := (List.range st.length).map (fun i => if st.getD i 0xFF = 0xFF then min 16 (t.shr[g].empty.getD i 0 + 1) else 0)
  let t := if (List.range st.length).any (fun i => empty.getD i 0 = 16 && t.shr[g].empty.getD i 0 != 16) then t.evt 0x37 2 else t
  { t with shr := t.shr.set g { t.shr[g] with ret := st, empty := empty } }

/-- ORBIT_FRAME_RX (16 R601 to R605, R609): a frame is received on O1 (false) or O2 (true). What R603 discards reaches no member, and a
frame of another TYPE is stored and counted only (DEDUCED, log entry 125). -/
def execOrbitFrameRx (port : Bool) (f : OrbFrame) (s : State) : Host.Outcome State Fault Refusal :=
  tailNext s (fun t =>
    let p : Fin 2 := if port then 1 else 0
    let up := if port then t.b ORB_STAT.LINK2 else t.b ORB_STAT.LINK1
    if !(t.u.orbit && t.enabled 0x36 && t.on 5 && up) then t
    else
      let good := f.good && frameGood f.bytes
      let x := parseFrame f.bytes
      let k := if port then 129 else 128
      let t := t.commitOn k (fun t => t.record .engine k 10 good f.bytes)
      let t := t.inc (ORB_CNT.FRAMES p.val)
      let t := if good then t else (t.inc (ORB_CNT.CRC_ERR p.val)).evt 0x36 5
      let t := if f.bytes.getD 0 0 != 1 || f.bytes.length < 16 then t
        else
          let g := t.groupOfGid x.gid
          let mine := x.pacer / 4 = t.cf ORB_CFG.UNIT
          let acts := match g with
            | some g => (t.pacerOf g).any (fun n => t.stnId n = x.pacer)
            | none => false
          let t := match g with | some g => if good && !mine && x.hop < 32 then t.arrive g x else t | none => t
          if mine && acts then (match g with | some g => if good then t.returned g x else t | none => t)
          else if mine then t.evt 0x36 6
          else if 32 ≤ x.hop then t
          else if t.runs 6 then t.forward p x good else t
      t.finish)

/-! ## Links and routes (16 R608, R609, R611) -/

/-- ISOLATED (16 R611): both links of an enabled ring block are down; the members of ring groups that run lose the ring. -/
def Tail.orbIsolated (t : Tail) : Tail :=
  let iso := t.u.orbit && t.enabled 0x36 && !t.b ORB_STAT.LINK1 && !t.b ORB_STAT.LINK2
  let t := t.pb ORB_STAT.ISOLATED iso
  if !iso then t
  else t.stns.foldl (fun t (n : Stn) => match t.shrGroup n with
    | some g => if t.ringGroup g && (t.stnGet n).sq.st.isRunning
        then (((t.p (SHR_GSTAT.LOST g) 1).evt 0x37 4)).assertSource n 11 else t
    | none => t) t

/-- ORBIT_LINK_DOWN (16 R608, R609): the link of a port goes down and the routes wrap. -/
def execOrbitLinkDown (port : Bool) (s : State) : Host.Outcome State Fault Refusal :=
  tailNext s (fun t =>
    let fd := if port then ORB_STAT.LINK2 else ORB_STAT.LINK1
    if !(t.u.orbit && t.enabled 0x36 && t.on 5 && t.b fd) then t
    else
      let t := (t.p fd 0).evt 0x36 (if port then 1 else 0)
      let p : Fin 2 := if port then 1 else 0
      let t := { t with orb := { t.orb with use := t.orb.use.set p false, unwrapT := none } }
      let t := if t.b ORB_STAT.WRAPPED then t else (t.p ORB_STAT.WRAPPED 1).evt 0x36 2
      t.orbIsolated.finish)

/-- ORBIT_LINK_UP (16 R608, R609): the link of a port comes up; with both up the time before unwrapping runs. -/
def execOrbitLinkUp (port : Bool) (s : State) : Host.Outcome State Fault Refusal :=
  tailNext s (fun t =>
    let fd := if port then ORB_STAT.LINK2 else ORB_STAT.LINK1
    if !(t.u.orbit && t.enabled 0x36 && t.on 5) || t.b fd then t
    else
      let t := t.p fd 1
      let both := t.b ORB_STAT.LINK1 && t.b ORB_STAT.LINK2
      let p : Fin 2 := if port then 1 else 0
      let t := if both && t.b ORB_STAT.WRAPPED then { t with orb := { t.orb with unwrapT := t.after (100 * ms1) } }
        else { t with orb := { t.orb with use := t.orb.use.set p true } }
      t.orbIsolated.finish)

/-- UNWRAP (16 R609): both links have stayed up for 100 ms. -/
def execUnwrap (s : State) : Host.Outcome State Fault Refusal :=
  tailNext s (fun t =>
    match t.orb.unwrapT with
    | some d =>
      let t := t.elapseTo d
      (({ t with orb := { t.orb with unwrapT := none, use := Vector.replicate 2 true } }.p ORB_STAT.WRAPPED 0).evt 0x36 3).finish
    | none => t)

/-! ## Loss and succession (16 R611, R614) -/

/-- The running Followers of local group `g`. -/
def Tail.followers (t : Tail) (g : Fin 4) : List Stn := (t.members g).filter (fun n => t.isFollower n && (t.stnGet n).sq.st.isRunning)

/-- ORB_LOSS (16 R611): a running Follower has had no frame for 250 us and no takeover took place. -/
def execOrbLoss (g : Nat) (s : State) : Host.Outcome State Fault Refusal :=
  tailNext s (fun t =>
    if h : g < 4 then
      let g : Fin 4 := ⟨g, h⟩
      match ((t.followers g).map (fun n => (t.stnGet n).share.seen)).min? with
      | none => t
      | some a =>
        let t := t.elapseTo (a + 250 * us1)
        let t := (t.p (SHR_GSTAT.LOST g) 1).evt 0x37 4
        ((t.followers g).foldl (fun t (n : Stn) =>
          if (t.stnGet n).share.seen + 250 * us1 ≤ t.now then t.assertSource n 11 else t) t).finish
    else t)

/-- The member that takes over group `g` here: a running Follower, the NEXT of the last frame it applied (16 R614), where it may act as
Pacer (R588). -/
def Tail.successor (t : Tail) (g : Fin 4) : Option Stn :=
  (t.followers g).find? (fun n => t.mayPace g && (t.stnGet n).share.next = t.stnId n && (t.stnGet n).share.fseq.isSome)

/-- Station `n` takes over group `g` (16 R614): the acting role, FSEQ, k = 0 and the count; its loops start at the sample. -/
def Tail.succeed (t : Tail) (g : Fin 4) (n : Stn) : Tail :=
  let s := (t.stnGet n).share
  let t := (t.incBy SHR_CNT.MISSED (missedIn (t.now - s.seen))).loopsMap n (fun l => { l with k := 0 })
  let t := (t.setRole n .pacer).shareMap n (fun s => { s with succ := true, join := true, plost := false, wait := [] })
  let t := { t with shr := t.shr.set g { t.shr[g] with seq := s.fseq.getD 0 } }
  (t.inc SHR_CNT.TAKEOVERS).evt 0x37 0

/-- A Follower that has applied a PLOST frame takes over at that sample, where it is the successor (16 R614). -/
def Tail.plostTake (t : Tail) (n : Stn) : Tail :=
  match t.shrGroup n with
  | some g => if (t.stnGet n).share.plost && t.successor g = some n then t.succeed g n else t
  | none => t

/-- At its takeover a station that began as Pacer acts as Follower, where valid frames of another Pacer arrive (16 R589). -/
def Tail.roleAtTakeover (t : Tail) (n : Stn) : Tail :=
  match t.shrGroup n with
  | some g => if (t.stnGet n).share.role = .pacer && (t.heardPacer g).any (· != t.stnId n) then t.setRole n .follower else t
  | none => t

/-- The loops and the source of a successor start at its first sample as Pacer, with the last applied TREF in effect; HOST holds the present
reference (16 R614, 15 R576, 13 R494). -/
def Tail.succJoin (t : Tail) (n : Stn) : Tail :=
  let s := (t.stnGet n).share
  if !s.join then t
  else (((t.shareMap n (fun s => { s with join := false })).takeSource n).enterRef n).loopsTakeover n s.recv

/-! ## Shares at a sample (16 R592 to R594) -/

/-- The actual torque of member `n` (16 R592). -/
def Tail.shareTa (t : Tail) (n : Stn) : Tail :=
  t.shareMap n (fun s => { s with ta := sat16 (rnd15 (mulk (t.stnGet n).loops.iq (t.cf (SHR_KTI.KTI n)))) })

/-- The Pacer's own share of TREF (16 R593, R594). -/
def Tail.pacerShare (t : Tail) (n : Stn) : Tail :=
  t.shareMap n (fun s =>
    { s with recv := (t.stnGet n).loops.tref, share := sat16 (rnd15 (mulk (t.stnGet n).loops.tref (t.cf (SHR_KSHARE.KSHARE n)))) })

/-- The Pacer's speed reference in DROOP (16 R593). -/
def Tail.droop (t : Tail) (n : Stn) (r : Bfp) : Bfp :=
  match t.shrGroup n with
  | some g =>
    if (t.stnGet n).share.role = .pacer && t.cf (SHR_GCFG.MODE g) = 1
      then ⟨sat16 (r.q15 - rnd15 (mulk (t.stnGet n).loops.trefPrev (t.cf (SHR_GDROOP.KDROOP g)))), 0⟩ else r
  | none => r

end Sys2Proof.Machine
end

