-- ==== Sys2Proof/Machine/Modulate.lean ====
section
/-! DEFINITION. Gate channels and modulation (17) and the gate-command update (14 section 1): compare values, PWM bits, dead time and
order, confirmations and faults, the chopper. -/

namespace Sys2Proof.Machine

/-! ## From voltage vector to compare values (17 R634 to R638) -/

/-- HALF in effect (17 R629, R652). -/
def Tail.half (t : Tail) (n : Nat) : Nat := clampN 12500 200000 (t.cf (MOD_CAR.HALF n))

/-- UDC as the modulator uses it (17 R634). -/
def Tail.modUdc (t : Tail) (n : Stn) : Int := max 256 (t.stnGet n).isns.last[3]

/-- The phase references with their zero sequence (17 R634). -/
def Tail.phaseRefs (t : Tail) (n : Stn) : Vector Int 3 :=
  let l := (t.stnGet n).loops
  let va := l.vAlpha
  let vb := sat16 (rnd15 (-16384 * l.vAlpha + 28378 * l.vBeta))
  let vc := sat16 (rnd15 (-16384 * l.vAlpha - 28378 * l.vBeta))
  let v0 := if t.cfb (MOD_CFG.METHOD n) then 0 else -(rshr (max va (max vb vc) + min va (min vb vc)) 1)
  let v0 := if t.cfb (MOD_CFG.TOPO n) then v0 + t.cfi (MOD_NPOFS.NPOFS n) else v0
  #v[va + v0, vb + v0, vc + v0]

/-- The compare value of a phase reference before the minimum pulse width: the value, and whether it was clamped (17 R635, R636). -/
def Tail.cmpOf (t : Tail) (n : Stn) (v : Int) : Nat × Bool :=
  let h : Int := t.half n
  let u := t.modUdc n
  let x := if t.cfb (MOD_CFG.TOPO n) then roundDiv (h * 2 * v.natAbs) u.toNat else roundDiv (h * (u + 2 * v)) (2 * u).toNat
  ((clampI 0 h x).toNat, x < 0 || h < x)

/-- The minimum pulse width (17 R638): the compare value, and whether it changed. -/
def Tail.minPulse (t : Tail) (n : Nat) (c : Nat) : Nat × Bool :=
  let h := t.half n
  let w := min 4000 (t.cf (MOD_MINPW.MINPW n))
  if 0 < 2 * c && 2 * c < w then (0, true) else if 0 < 2 * (h - c) && 2 * (h - c) < w then (h, true) else (c, false)

/-- The compare values of one sample (17 R634 to R638), with OVM and PDROP. -/
def Tail.modulate (t : Tail) (n : Stn) : Tail :=
  let v := t.phaseRefs n
  let raw : Vector (Nat × Bool) 3 := Vector.ofFn (fun i => t.cmpOf n v[i])
  let fin : Vector (Nat × Bool) 3 := Vector.ofFn (fun i => t.minPulse n raw[i].1)
  let ovm := raw.toList.any (·.2)
  let drops := (fin.toList.filter (·.2)).length
  let po : BitVec 3 := BitVec.ofNat 3 (b2n (0 ≤ v[0]) + 2 * b2n (0 ≤ v[1]) + 4 * b2n (0 ≤ v[2]))
  let t := if ovm && !t.b (MOD_STAT.OVM n) then t.evt (stnPage n 0xD) 3 else t
  let t := (t.pb (MOD_STAT.OVM n) ovm).incBy (MOD_CNT.PDROP n) drops
  t.moduMap n (fun m => { m with next := some ⟨fin.map (·.1), po⟩ })

/-! ## The carrier and the PWM bits (17 R629, R633) -/

/-- The place in the carrier period of station `n`, from its valley (17 R629). -/
def Tail.carrierPos (t : Tail) (n : Nat) : Nat :=
  let h := t.half n
  let p := t.cf (MOD_PHASE.PHASE n) % (2 * h)
  (t.ft.toNat + (2 * h - p)) % (2 * h)

/-- Ticks until a PWM bit with compare value `cmp` turns to `level` on a carrier of half-period `h` at place `x` (17 R633). -/
def pwmDelay (h x cmp : Nat) (level : Bool) : Nat :=
  if level then
    (if h ≤ x && 2 * h - x ≤ cmp then 0 else (2 * h - cmp + 2 * h - x) % (2 * h))
  else (if x < h && cmp ≤ x then 0 else (cmp + 2 * h - x) % (2 * h))

/-- The phase of channel `ch`, and whether it is a PWM-driven switch in the present region (17 R623, R635, R636). -/
def Tail.pwmPhase (t : Tail) (n : Stn) (ch : Nat) : Option (Fin 3) :=
  let po := (t.stnGet n).modu.cmp.po
  if t.cfb (MOD_CFG.TOPO n) then
    (if h : ch / 4 < 3 then (if (ch % 4 = 0 && po.getLsbD (ch / 4)) || (ch % 4 = 3 && !po.getLsbD (ch / 4)) then some ⟨ch / 4, h⟩ else none)
      else none)
  else (if h : ch / 2 < 3 then (if ch % 2 = 0 then some ⟨ch / 2, h⟩ else none) else none)

/-- What the PWM bits and regions command (17 R635, R636); channel 12 as `chop`. -/
def wantOf (npc : Bool) (po : BitVec 3) (pwm : BitVec 13) : BitVec 13 :=
  let leg (i : Nat) : Nat :=
    if npc then
      (if po.getLsbD i then (if pwm.getLsbD (4 * i) then 3 else 6) else (if pwm.getLsbD (4 * i + 3) then 12 else 6)) * 16 ^ i
    else (if pwm.getLsbD (2 * i) then 1 else 2) * 4 ^ i
  BitVec.ofNat 13 (leg 0 + leg 1 + leg 2) ||| (pwm &&& 0x1000)

/-- The gates of station `n` are enabled and no block stands against them (10 R366, 17 R645). -/
def Tail.gatesLive (t : Tail) (n : Stn) : Bool := (t.stnGet n).modu.gate = .enabled && !t.hardBlocked n

/-- The commands follow the PWM bits (17 R635, R636, R641). -/
def Tail.wantStep (t : Tail) (n : Stn) : Tail :=
  if !t.gatesLive n then t
  else
    let npc := t.cfb (MOD_CFG.TOPO n)
    (t.moduMap n (fun m =>
      let w := wantOf npc m.cmp.po m.pwm
      let w := if m.chopOffT.isSome then w &&& 0x0FFF else w
      let skip := if t.now < m.skipEnd then m.skip &&& w else 0
      { m with want := w &&& ~~~skip, skip := skip })).gateStep n

/-- The chopper's carrier half-period (17 R652). -/
def Tail.chalf (t : Tail) (n : Nat) : Nat := clampN 12500 200000 (t.cf (MOD_CHOP.CHALF n))

/-- PWM_BIT_CHANGE (17 R633, R647): the PWM bit of channel `ch` changes when the carrier reaches its compare value. -/
def execPwmBitChange (n : Stn) (ch : Nat) (level : Bool) (s : State) : Host.Outcome State Fault Refusal :=
  tailNext s (fun t =>
    let m := (t.stnGet n).modu
    let go (h x cmp : Nat) : Tail :=
      if ch < 13 && m.pwm.getLsbD ch != level && (if level then cmp != 0 else cmp != h) then
        let t := t.elapse (pwmDelay h x cmp level)
        let bit : BitVec 13 := (1 : BitVec 13) <<< ch
        (t.moduMap n (fun m => { m with pwm := if level then m.pwm ||| bit else m.pwm &&& ~~~bit })).wantStep n
      else t
    if !(t.fitted n && t.on 6 && t.gatesLive n) then t
    else if ch = 12 then
      (if t.cf (MOD_CHOP.CMODE n) = 2 then go (t.chalf n) (t.ft.toNat % (2 * t.chalf n)) m.chopCmp else t)
    else match t.pwmPhase n ch with
      | some i => go (t.half n) (t.carrierPos n) m.cmp.c[i]
      | none => t)

/-! ## The gate-command update (14 R523 to R527, 17 R632) -/

/-- STN_TIMING.TAPPLY as it acts (14 R527). -/
def Tail.tapply (t : Tail) (n : Nat) : Nat := clampN 400 1840 (t.cf (STN_TIMING.TAPPLY n))

/-- An output that is not on time is discarded (14 R525). -/
def Tail.dlMiss (t : Tail) (n : Stn) : Tail :=
  let t := ((t.dsNote (STN_DL.DL_COUNT n).addr).p (STN_DL.DL_MISS n) 1).inc (STN_DL.DL_COUNT n)
  (t.p (STRC_APPLY.LAST n) 0xFFFF).moduMap n (fun m => { m with next := none, applyAt := none })

/-- An on-time output takes effect (14 R524, R526, 17 R632). -/
def Tail.applyCmp (t : Tail) (n : Stn) (c : CmpSet) : Tail :=
  let d := min 0xFFFE (t.now - (t.stnGet n).modu.sampleAt)
  let npc := t.cfb (MOD_CFG.TOPO n)
  let t := (t.p (STRC_APPLY.LAST n) d).p (STRC_APPLY.MAX n) (max d (t.g (STRC_APPLY.MAX n)))
  (t.moduMap n (fun m =>
    let s1 : BitVec 13 := BitVec.ofNat 13 (b2n (c.po.getLsbD 0) + 16 * b2n (c.po.getLsbD 1) + 256 * b2n (c.po.getLsbD 2))
    let mask := if npc then s1 ||| ((s1 ^^^ npcS1) <<< 3) ||| 0x1000 else 0x1015
    { m with cmp := c, next := none, applyAt := none, pwm := m.pwm &&& mask })).wantStep n

/-- GATE_COMMAND_UPDATE (14 R524 to R526): the compare values of the last sample take effect, in the Fixed schedule TAPPLY after
the sample instant; a late output is discarded. -/
def execGateCommandUpdate (n : Stn) (late : Bool) (s : State) : Host.Outcome State Fault Refusal :=
  tailNext s (fun t =>
    match (t.stnGet n).modu.next with
    | none => t
    | some c =>
      let t := match (t.stnGet n).modu.applyAt with | some d => t.elapseTo d | none => t
      (if late then t.dlMiss n else t.applyCmp n c).finish)

/-! ## Dead time, order and confirmations (17 section 5) -/

/-- The complementary channel (17 R623). -/
def complementOf (npc : Bool) (ch : Nat) : Nat :=
  if npc then (if ch % 4 < 2 then ch + 2 else ch - 2) else if ch % 2 = 0 then ch + 1 else ch - 1

/-- The NPC order allows channel `ch` to turn on (17 R642). -/
def Modu.orderOn (m : Modu) (npc : Bool) (ch : Nat) : Bool :=
  let on := m.conf &&& m.cmd
  if !npc then true
  else if ch % 4 = 0 then on.getLsbD (ch + 1) else if ch % 4 = 3 then on.getLsbD (ch - 1) else true

/-- Ticks before the next scheduled turn-off of channel `ch`, none where none is scheduled (17 R641). -/
def Tail.turnOffIn (t : Tail) (n : Stn) (ch : Nat) : Option Nat :=
  let m := (t.stnGet n).modu
  let npc := t.cfb (MOD_CFG.TOPO n)
  match t.pwmPhase n ch, t.pwmPhase n (complementOf npc ch) with
  | some i, _ => if m.cmp.c[i] = t.half n then none else some (pwmDelay (t.half n) (t.carrierPos n) m.cmp.c[i] false)
  | _, some i => if m.cmp.c[i] = 0 then none else some (pwmDelay (t.half n) (t.carrierPos n) m.cmp.c[i] true)
  | _, _ => none

/-- DT_MIN and THS_MAX (17 R652). -/
def Tail.dtMin (t : Tail) (n : Nat) : Nat := clampN 200 4000 (t.cf (MOD_DT.DT_MIN n))
def Tail.thsMax (t : Tail) (n : Nat) : Nat := clampN 400 8000 (t.cf (MOD_DT.THS_MAX n))

/-- TURN_ON (17 R639, R641, R642, R646): a waiting switch turns on, DT_MIN after its complement turned off and with its off
confirmation; with less than MINPW left it is skipped for this carrier period. -/
def execTurnOn (n : Stn) (ch : Nat) (s : State) : Host.Outcome State Fault Refusal :=
  tailNext s (fun t =>
    let t := if (t.stnGet n).modu.skip != 0 && (t.stnGet n).modu.skipEnd ≤ t.now then t.wantStep n else t
    let m := (t.stnGet n).modu
    let npc := t.cfb (MOD_CFG.TOPO n)
    let c := complementOf npc ch
    let live := t.gatesLive n || (m.gate = .asc && !t.hardBlocked n)
    if !(t.fitted n && t.on 6 && live && ch < (if npc then 12 else 6) && m.want.getLsbD ch && !m.cmd.getLsbD ch
        && !m.cmd.getLsbD c && m.conf.getLsbD c && m.orderOn npc ch) then t
    else
      let t := t.elapseTo (m.edgeAt.toList.getD c 0 + t.dtMin n)
      let bit : BitVec 13 := (1 : BitVec 13) <<< ch
      let skip := m.gate = .enabled && ((t.turnOffIn n ch).map (fun d => decide (d < min 4000 (t.cf (MOD_MINPW.MINPW n))))).getD false
      if skip then (t.inc (MOD_CNT.SKIP n)).moduMap n (fun m =>
        { m with want := m.want &&& ~~~bit, skip := m.skip ||| bit, skipEnd := t.now + (2 * t.half n - t.carrierPos n) })
      else t.moduMap n (fun m => m.edges 0 bit t.now))

/-- A feedback level of station `n` (17 R627, R628), with since when all used feedbacks have been low. -/
def Tail.setFb (t : Tail) (n : Stn) (ch : Nat) (level : Bool) : Tail :=
  let bit : BitVec 13 := (1 : BitVec 13) <<< ch
  let used := t.usedCh n
  t.moduMap n (fun m =>
    let fb := if level then m.fb ||| bit else m.fb &&& ~~~bit
    { m with fb := fb, lowAt := if fb &&& used = 0 then (if m.lowAt.isSome then m.lowAt else some t.now) else none })

/-- The hardware path of a fault of the gate channels (17 R626, R643): the block, CAUSE and the channel of the first fault, the latch
and the protection source. -/
def Tail.gateFault (t : Tail) (n : Stn) (ch cause evt src : Nat) : Tail :=
  let first := t.g (PROT_LATCH.LATCH n) &&& 7 = 0
  let t := if first then (t.p (MOD_STAT.CAUSE n) cause).p (MOD_STAT.HS_CH n) ch else t
  let t := (t.moduMap n (fun m => { m with hwBlock := true })).evt (stnPage n 0xD) evt
  let t := t.p (PROT_ACT.ACT n) (setBit (t.g (PROT_ACT.ACT n)) src false)
  (t.assertSource n src).gateUpdate n

/-- The further edges of a departure, by the ticks between one and the next, are those of a driver fault (17 R626): at least three within
1.0 us, each 200 to 300 ns after the one before. -/
def driverEdges (gaps : List Nat) : Bool :=
  let g := gaps.take 3
  g.length = 3 && g.all (fun d => 80 ≤ d && d ≤ 120) && g.sum ≤ 400

/-- A feedback edge away from a confirmed level (17 R626): DRV_FAULT or FB_FAULT by the further edges. -/
def Tail.departure (t : Tail) (n : Stn) (ch : Nat) (gaps : List Nat) : Tail :=
  let t := t.setFb n ch (!(t.stnGet n).modu.cmd.getLsbD ch)
  if driverEdges gaps then t.gateFault n ch 4 1 0 else t.gateFault n ch 3 2 1

/-- The channel drives its board: gates enabled or in the active short circuit, and no block (17 R625, R628). -/
def Tail.channelLive (t : Tail) (n : Stn) : Bool := (t.stnGet n).modu.gate != .off && !t.hardBlocked n

/-- DEPARTURE (17 R626). -/
def execDeparture (n : Stn) (ch : Nat) (gaps : List Nat) (s : State) : Host.Outcome State Fault Refusal :=
  tailNext s (fun t =>
    if t.fitted n && t.on 6 && ch < 13 && (t.usedCh n).getLsbD ch && t.channelLive n && (t.stnGet n).modu.conf.getLsbD ch
      then (t.departure n ch gaps).finish else t)

/-- The off confirmation of channel `ch` took `d` ticks (17 R644). -/
def Tail.confTime (t : Tail) (n : Stn) (ch d : Nat) : Tail :=
  if t.g (MOD_CONF.TICKS n) < d then (t.p (MOD_CONF.TICKS n) (min 0xFFFF d)).p (MOD_CONF.CH n) ch else t

/-- GATE_CONFIRMATION (17 R625, R628, R644): the feedback of channel `ch` reaches `level`. -/
def execGateConfirmation (n : Stn) (ch : Nat) (level : Bool) (s : State) : Host.Outcome State Fault Refusal :=
  tailNext s (fun t =>
    let m := (t.stnGet n).modu
    if !(t.fitted n && t.on 6 && ch < 13) then t
    else if !(t.usedCh n).getLsbD ch then t.setFb n ch level
    else if t.channelLive n && m.conf.getLsbD ch && level != m.cmd.getLsbD ch then (t.departure n ch []).finish
    else
      let t := t.setFb n ch level
      if !m.conf.getLsbD ch && level = m.cmd.getLsbD ch then
        let t := if level then t else t.confTime n ch (t.now - m.edgeAt.toList.getD ch 0)
        ((t.moduMap n (fun m => { m with conf := m.conf ||| ((1 : BitVec 13) <<< ch) })).gateStep n).finish
      else t.finish)

/-- HS_FAULT (17 R643): a confirmation has not come within THS_MAX of the output change. -/
def execHsFault (n : Stn) (ch : Nat) (s : State) : Host.Outcome State Fault Refusal :=
  tailNext s (fun t =>
    let m := (t.stnGet n).modu
    if !(t.fitted n && t.on 6 && ch < 13 && (t.usedCh n).getLsbD ch && t.channelLive n && !m.conf.getLsbD ch) then t
    else
      let t := t.elapseTo (m.edgeAt.toList.getD ch 0 + t.thsMax n)
      (t.gateFault n ch (if m.cmd.getLsbD ch then 2 else 1) 0 2).finish)

/-- NPC_INNER_OFF (17 R645): the inner switches follow the outer ones 0.5 us after a block. -/
def execNpcInnerOff (n : Stn) (s : State) : Host.Outcome State Fault Refusal :=
  tailNext s (fun t =>
    match (t.stnGet n).modu.innerT with
    | some d =>
      let t := t.elapseTo d
      t.moduMap n (fun m => { m.edges m.cmd 0 t.now with want := 0, innerT := none })
    | none => t)

/-! ## The chopper (17 R647 to R649) -/

/-- The chopper at a sample instant (17 R647, R648). -/
def Tail.chopper (t : Tail) (n : Stn) : Tail :=
  let u := t.modUdc n
  let von := t.cfi (MOD_CHOPV.V_ON n)
  let mode := t.cf (MOD_CHOP.CMODE n)
  let ended := match (t.stnGet n).modu.chopOffT with | some d => decide (d ≤ t.now) | none => false
  let t := if ended then (t.moduMap n (fun m => { m with chopOffT := none })).p (MOD_STAT.CHOP_LIM n) 0 else t
  let setBit12 (m : Modu) (b : Bool) : Modu := { m with pwm := if b then m.pwm ||| 0x1000 else m.pwm &&& 0x0FFF }
  match mode with
  | 1 =>
    let voff := if von ≤ t.cfi (MOD_CHOPV.V_OFF n) then von - 1 else t.cfi (MOD_CHOPV.V_OFF n)
    let t := t.moduMap n (fun m => if von ≤ u then setBit12 m true else if u ≤ voff then setBit12 m false else m)
    t.wantStep n
  | 2 =>
    let vf := t.cfi (MOD_CHOPF.V_FULL n)
    let h : Int := t.chalf n
    let c := if vf ≤ von then (if von ≤ u then h else 0) else clampI 0 h (roundDiv (h * (u - von)) (vf - von).toNat)
    let t := t.moduMap n (fun m =>
      let m := { m with chopCmp := c.toNat }
      if c = 0 then setBit12 m false else if c = h then setBit12 m true else m)
    t.wantStep n
  | _ => (t.moduMap n (fun m => setBit12 m false)).wantStep n

/-- CHOP_LIM (17 R649): the chopper has been on for TMAX without an off interval of 1 ms; it stays off for TMAX. -/
def execChopLim (n : Stn) (s : State) : Host.Outcome State Fault Refusal :=
  tailNext s (fun t =>
    let tm := t.cf (MOD_CHOPF.TMAX n) * ms1
    match (t.stnGet n).modu.chopOnAt with
    | some a =>
      let off := !(t.stnGet n).modu.cmd.getLsbD 12 && (t.stnGet n).modu.chopOffAt + ms1 ≤ max t.now (a + tm)
      if tm = 0 || off || !(t.fitted n && t.on 6) then t
      else
        let t := t.elapseTo (a + tm)
        let t := (t.moduMap n (fun m => { m with chopOffT := some (t.now + tm), chopOnAt := none })).wantStep n
        ((t.p (MOD_STAT.CHOP_LIM n) 1).evt (stnPage n 0xD) 4).finish
    | none => t)

end Sys2Proof.Machine
end

