-- ==== Sys2Proof/Machine/Sequence.lean ====
section
/-! DEFINITION. The sequencer's commands (10) with the emergency modes and the lost host (22): arming, START and stop requests, command
points, the start and stop sequences, Lever Direct, Eclipse and the host's return. -/

namespace Sys2Proof.Machine

/-! ## The unit (10 section 2) -/

/-- A stop request of station `n` waits for its next command point (10 R380, R381, 22 R764). -/
def Tail.stopReq (t : Tail) (n : Stn) (r : StopReq) : Tail :=
  t.sqMap n (fun s => { s with pendStop := some (match s.pendStop with | some o => o.merge r | none => r) })

/-- SEQ_CMD.ARM (10 R367, R369, R370). -/
def Tail.armCmd (t : Tail) : Tail :=
  if t.armBlock != 0 then (t.inc SEQ_CNT.ARM_REFUSED).evt 0x20 1
  else if t.us = .readySafe then (t.setUnit .armed).inc SEQ_CNT.ARMS else t

/-- SEQ_CMD.DISARM (10 R367, R369, R371): a running unit stops its stations, but those in EMERGENCY. -/
def Tail.disarmCmd (t : Tail) : Tail :=
  match t.us with
  | .armed => t.setUnit .readySafe
  | .run =>
    t.stns.foldl (fun t n =>
      if (t.stnGet n).sq.st.isRunning && (t.stnGet n).sq.st != .emergency then t.stopReq n ⟨false, false, false, true⟩ else t)
      (t.setUnit .stopping)
  | _ => t

/-- ARM (10 R369). -/
def execArm (s : State) : Host.Outcome State Fault Refusal := tailNext s (fun t => if t.sqcUp then t.armCmd.finish else t)

/-- DISARM (10 R371). -/
def execDisarm (s : State) : Host.Outcome State Fault Refusal := tailNext s (fun t => if t.sqcUp then t.disarmCmd.finish else t)

/-- A write of SEQ_RESET is accepted (10 R402). -/
def Tail.seqResetMay (t : Tail) (w : Word) : Bool :=
  fdGet SEQ_RESET.KEY w = 0x5EC0 && fdGet SEQ_RESET.EPOCH w = t.aon.epoch.toNat % 2 ^ 16 && (t.us = .readySafe || t.us = .fault)
    && !t.anyRunning

/-- SEQ_RESET (10 R402): an accepted write makes a Tailstock reset due, after the response. -/
def execSeqReset (word : Word) (s : State) : Host.Outcome State Fault Refusal :=
  tailNext s (fun t => if t.sqcUp && t.seqResetMay word then { t with resetDue := some .host } else t)

/-! ## Requests of a station (10 section 5, 22) -/


/-- A START is refused (10 R379). -/
def Tail.startRefused (t : Tail) (n : Stn) : Tail := (t.inc (STN_CNT.REFUSED n)).evt (stnPage n 0) 2

/-- A START is committed (10 R379, R381): it is taken at the next command point; in BOOT, where no command point comes, it is refused. -/
def Tail.startCmd (t : Tail) (n : Stn) : Tail := if t.sqcUp then t.sqMap n (fun q => { q with pendStart := true }) else t.startRefused n

/-- START (10 R379, R381). -/
def execStart (n : Stn) (s : State) : Host.Outcome State Fault Refusal :=
  tailNext s (fun t =>
    if !(t.on 3 && t.fitted n && t.us != .off && t.us != .thermalShutdown) then t
    else if t.sqcUp then t.startCmd n else (t.startCmd n).finish)

/-- STOP (10 R380): a category 1 stop request. -/
def execStop (n : Stn) (s : State) : Host.Outcome State Fault Refusal :=
  tailNext s (fun t => if t.sqcUp && t.fitted n then t.stopReq n ⟨false, false, false, true⟩ else t)

/-- A write of EMG_CMD with STOP bits (22 R762, R788). -/
def Tail.emgStop (t : Tail) (w : Word) : Tail :=
  let cat := fdGet EMG_CMD.CAT w
  if cat = 1 || cat = 2 then
    t.stns.foldl (fun t n => if (fdGet EMG_CMD.STOP w).testBit n.val then t.stopReq n ⟨true, cat = 2, false, true⟩ else t) t
  else t

/-- EMG_STOP (22 R762). -/
def execEmgStop (word : Word) (s : State) : Host.Outcome State Fault Refusal :=
  tailNext s (fun t => if t.sqcUp then t.emgStop word else t)

/-- RELEASE bits (22 R786, R788). -/
def Tail.releaseCmd (t : Tail) (m : Nat) : Tail :=
  t.stns.foldl (fun t n => if m.testBit n.val then t.sqMap n (fun s => { s with pendRelease := true }) else t) t

/-- RELEASE (22 R786). -/
def execRelease (mask : BitVec 4) (s : State) : Host.Outcome State Fault Refusal :=
  tailNext s (fun t => if t.sqcUp then t.releaseCmd mask.toNat else t)

/-! ## The start sequence (10 R383, R384) -/

/-- Station `n` may start (10 R379, 17 R628). -/
def Tail.startMay (t : Tail) (n : Stn) : Bool :=
  (t.stnGet n).sq.st = .ready && t.block n = 0 && t.enabled (stnPage n 0xD) && (t.stnGet n).modu.fb &&& t.usedCh n = 0

/-- Flux build time in ticks (10 R383 step 2). -/
def Tail.fluxTime (t : Tail) (n : Stn) : Nat := if t.cfb (STN_CFG.MOTOR n) then 0 else t.cf (STN_CFG.FLUX_MS n) * ms1

/-- A START in READY enters MAGNETIZING (10 R383 step 1, R400, 12 R482, 13 R493, 18 R676). -/
def Tail.startStn (t : Tail) (n : Stn) : Tail :=
  let t := if (t.stnGet n).isns.cal = .recal then t.inc SEQ_BG.PREEMPT else t
  let t := (t.calAbandon n).setSt n .magnetizing
  let t := t.loopsMap n Loops.start
  let t := t.sqMap n (fun s => { s.rest with step := .flux, t := some (t.now + t.fluxTime n), gateWait := true })
  let t := t.setpMap n (fun p => { p with stop := .none, render := .normal, above := 0, enter := false })
  let bit : BitVec 4 := (1 : BitVec 4) <<< n.val
  let t := { t with sto := { t.sto with ran := t.sto.ran &&& ~~~bit } }
  ((t.stoRelease.startRole n).rearm n)

/-- Torque proving begins (10 R383 step 3). -/
def Tail.beginProve (t : Tail) (n : Stn) : Tail :=
  t.sqMap n (fun s => { s with step := .prove, proved := true, t := t.after (t.cf (STN_BRK1.PROVE_MS n) * ms1) })

/-- FLUX_BUILT (10 R383, 21 R748): flux is built; proving begins, after a dwell where one is due; without a brake the takeover follows. -/
def execFluxBuilt (n : Stn) (s : State) : Host.Outcome State Fault Refusal :=
  tailNext s (fun t =>
    let q := (t.stnGet n).sq
    match q.st, q.step, q.t, q.abandon with
    | .magnetizing, .flux, some d, false =>
      let t := t.elapseTo d
      if !t.cfb (STN_CFG.BRAKE_EN n) then t.sqMap n (fun s => { s with step := .tRel, t := t.after 0 })
      else match t.dwellStns [n] with
        | some ms =>
          ((t.dwellBegin ms).sqMap n (fun s => { s with step := .dwell, t := t.after (ms * ms1) })).finish
        | none => t.beginProve n
    | _, _, _, _ => t)

/-- PROVING_END (10 R383 step 4, R384): the brake output switches on, or the station goes to FAULTED with cause PROVE. -/
def execProvingEnd (n : Stn) (s : State) : Host.Outcome State Fault Refusal :=
  tailNext s (fun t =>
    let q := (t.stnGet n).sq
    match q.st, q.step, q.t, q.abandon with
    | .magnetizing, .prove, some d, false =>
      let t := t.elapseTo d
      if (t.stnGet n).sq.proved
        then ((t.sqMap n (fun s => { s with brake := true, step := .brakeOpen, t := none })).brakeConfirm n).finish
        else (t.enterFaulted n 3).finish
    | _, _, _, _ => t)

/-! ## Lever Direct and the policies (22 sections 3 and 5) -/

/-- EMG_POL of station `n`: POLn and LEV_ENn. -/
def Tail.polField (t : Tail) (n : Stn) : Nat := t.cf ⟨EMG_POL.POL0.addr, 4 * n.val + 2, 4 * n.val, .rwl, 0, .trstPg⟩
def Tail.levEn (t : Tail) (n : Stn) : Bool := t.cfb ⟨EMG_POL.LEV_EN0.addr, 4 * n.val + 3, 4 * n.val + 3, .rwl, 0, .trstPg⟩

/-- Station `n` may enter Lever Direct (22 R767). -/
def Tail.leverMay (t : Tail) (n : Stn) : Bool := t.levEn n && (t.stnGet n).share.role != .follower

/-- Station `n` enters Lever Direct in EMERGENCY (22 R767, R768): by selection, or by the policy FOLLOW_LEVER. -/
def Tail.enterLever (t : Tail) (n : Stn) (bySel : Bool) : Tail :=
  let t := (t.setSt n .emergency).sqMap n (fun s =>
    { s with lever := true, bySel := bySel, pol := if bySel then 0 else 3, step := .none, t := none, zcount := 0, c1T := none, vsT := none })
  let brake := t.cfb (STN_CFG.BRAKE_EN n)
  let t := t.sqMap n (fun s => { s with brake := brake })
  (t.setpMap n (fun p => { p with stop := .none, enter := true })).evt 0x24 2

/-- The policy that acts for station `n` (22 R777): 1 HOLD, 2 RAMP_ZERO, 3 FOLLOW_LEVER, 4 HOLD_BRAKE; AUTO by its brake. -/
def Tail.policyOf (t : Tail) (n : Stn) : Nat :=
  let auto := if t.cfb (STN_CFG.BRAKE_EN n) then 4 else 2
  match t.polField n with
  | 1 => 1
  | 2 => 2
  | 3 => if t.leverMay n then 3 else auto
  | 4 => 4
  | _ => auto

/-- Station `n` follows its Eclipse policy in EMERGENCY (22 R777, R765). -/
def Tail.enterPolicy (t : Tail) (n : Stn) : Tail :=
  let p := t.policyOf n
  if p = 3 then t.enterLever n false
  else
    let t := (t.setSt n .emergency).sqMap n (fun s =>
      { s with lever := false, bySel := false, pol := p, step := .none, t := none, zcount := 0, c1T := none, vsT := none })
    if p = 1 then t
    else
      let t := t.sqMap n (fun s => { s with step := .ramp, c1T := t.tmon })
      (t.renderStop n).setpMap n (fun s => { s with stop := .emergency, enter := true })

/-- Station `n` leaves EMERGENCY for RUNNING (22 R771, R786): its source enters from the present reference, but under HOLD; a held
outer loop restarts; a brake that the policy has set is released again. -/
def Tail.leaveEmergency (t : Tail) (n : Stn) : Tail :=
  let held := t.outHeld n
  let hold := (t.stnGet n).sq.pol = 1
  let out := (t.stnGet n).loops.nref
  let brake := t.cfb (STN_CFG.BRAKE_EN n)
  let t := (t.setSt n .running).sqMap n (fun s => { s.rest with brake := brake })
  let t := if hold then t else t.setpMap n (fun p => { p with stop := .none, enter := true })
  if held && t.outl n then t.outerPreset n out else t

/-! ## The command point (10 section 5, 22) -/

/-- A FAULTED station leaves FAULTED (18 R671): READY where nothing blocks it, else DISABLED. -/
def Tail.exitFaulted (t : Tail) (n : Stn) : Tail :=
  if t.g (PROT_LATCH.LATCH n) != 0 || t.unitFault then t
  else if t.block7 n = 0 && t.b (PG_CTRL.ENABLE (stnPage n 0)) then t.enterReady n else t.enterDisabled n

/-- The stop request of a command point (10 R382, R385, 21 R751): a start in its dwell ends at once; a stop out of MAGNETIZING starts
the loops from the present torque. -/
def Tail.pointStop (t : Tail) (n : Stn) (r : StopReq) : Tail :=
  let q := (t.stnGet n).sq
  if q.st = .magnetizing && q.step = .dwell then
    t.enterReady n
  else if q.st = .magnetizing && (t.stnGet n).share.role != .follower then
    let out := (t.stnGet n).loops.tref
    ((t.takeStop n r).enterPresent n).loopsTakeover n out
  else t.takeStop n r

/-- What Lever Direct and the policies do at a command point of a station that takes no stop request (22 R767, R771, R777). -/
def Tail.pointModes (t : Tail) (n : Stn) : Tail :=
  let q := (t.stnGet n).sq
  let sel := t.dio.lever
  match q.st with
  | .running | .voltLimited =>
    if sel && t.leverMay n then t.enterLever n true
    else if t.us = .eclipse && (t.stnGet n).share.role != .follower then t.enterPolicy n
    else t
  | .emergency =>
    if q.stop.isSome then t
    else if q.lever then
      if !q.bySel || sel then t
      else if t.us = .eclipse then t.enterPolicy n
      else t.leaveEmergency n
    else if sel && t.leverMay n then t.enterLever n true
    else t
  | _ => t

/-- A RELEASE at a command point (22 R786); where it is ignored, the modes act as ever. -/
def Tail.pointRelease (t : Tail) (n : Stn) : Tail :=
  let q := (t.stnGet n).sq
  if q.st = .emergency && !(q.lever && q.bySel) && q.stop.isNone then t.leaveEmergency n else t.pointModes n

/-- What was committed since the command point before is taken (10 R381, R382, 16 R617). -/
def Tail.pointTake (t : Tail) (n : Stn) : Bool × Option StopReq × Bool × Bool × Tail :=
  let q := (t.stnGet n).sq
  let shr := (t.stnGet n).share
  let stop := if shr.stopReq && shr.role = .follower
    then some (match q.pendStop with | some o => o.merge ⟨false, false, false, true⟩ | none => ⟨false, false, false, true⟩)
    else q.pendStop
  let t := (t.sqMap n (fun s => { s with pendStart := false, pendStop := none, pendExit := false, pendRelease := false })).shareMap n
    (fun s => { s with stopReq := false })
  (q.pendStart, stop, q.pendExit, q.pendRelease, t)

/-- A START at a command point (10 R379, R382, R383, 19 R692 in the diagnostics' own file). -/
def Tail.pointStart (t : Tail) (n : Stn) (stop : Bool) : Tail :=
  if stop then (t.inc (STN_CNT.START_DROP n)).evt (stnPage n 0) 1
  else if t.startMay n then t.startStn n else t.startRefused n

/-- The command point of station `n` (10 R378, R381, R382, 22 R777, R778): the higher row of R378 wins. -/
def Tail.commandPoint (t : Tail) (n : Stn) : Tail :=
  let was := (t.stnGet n).sq
  let (start, stop, exit, release, t) := t.pointTake n
  let t := if start then t.pointStart n stop.isSome else t
  if was.st = .faulted then (if exit then t.exitFaulted n else t)
  else if was.abandon && was.st = .magnetizing then (t.setSt n .emergency).enterReady n
  else match stop with
    | some r =>
      let lever := (was.st = .running || was.st = .voltLimited) && t.dio.lever && t.leverMay n && t.us != .eclipse
      (if lever then t.enterLever n true else t).pointStop n r
    | none => if release then t.pointRelease n else t.pointModes n

/-! ## The ends of the sequences (10 R383 to R385, 13 R494, 22 R780) -/

/-- TAKEOVER (10 R383 step 5, 13 R494, 15 R577, 16 R616, 22 R767): the speed loop and the source take over, and the station enters
RUNNING, or EMERGENCY under Lever Direct. -/
def execTakeover (n : Stn) (s : State) : Host.Outcome State Fault Refusal :=
  tailNext s (fun t =>
    let q := (t.stnGet n).sq
    match q.st, q.step, q.t, q.abandon with
    | .magnetizing, .tRel, some d, false =>
      let t := t.elapseTo d
      let out := (t.stnGet n).loops.tref
      let t := ((t.setSt n .running).sqMap n (fun s => { s with step := .none, t := none, vsT := none })).roleAtTakeover n
      if (t.stnGet n).share.role = .follower then (t.shareMap n (fun s => { s with share := 0 })).finish
      else
        let t := if t.dio.lever && t.leverMay n then t.enterLever n true else t
        ((t.sourceTakeover n).loopsTakeover n out).finish
    | _, _, _, _ => t)

/-- ZERO_SPEED_HELD (10 R385 steps 2 and 3, 22 R763, R765, R777, R780): the speed has stayed within ZSPD for ten samples. -/
def execZeroSpeedHeld (n : Stn) (s : State) : Host.Outcome State Fault Refusal :=
  tailNext s (fun t =>
    let q := (t.stnGet n).sq
    if !(q.st.isRunning && q.step = .ramp && 10 ≤ q.zcount && !q.c2) then t
    else
      let t := (t.sqMap n (fun s => { s with c1T := none })).protMap n (fun p => { p with ctoT := none })
      match q.stop with
      | some r => (if r.cat2 then t.sqMap n (fun s => { s with c2 := true }) else t.closeBrake n).finish
      | none =>
        if q.pol = 4 then
          (if t.cfb (STN_CFG.BRAKE_EN n)
            then t.sqMap n (fun s => { s with step := .zeroProve, t := t.after (t.cf (STN_BRK1.PROVE_MS n) * ms1) })
            else t.closeBrake n).finish
        else t.sqMap n (fun s => { s with step := .none }))

/-- HOLD_BRAKE_PROVING_END (22 R780): the speed has stayed in the band for PROVE_MS; the brake is set. -/
def execHoldBrakeProvingEnd (n : Stn) (s : State) : Host.Outcome State Fault Refusal :=
  tailNext s (fun t =>
    match (t.stnGet n).sq.step, (t.stnGet n).sq.t with
    | .zeroProve, some d => ((t.elapseTo d).closeBrake n).finish
    | _, _ => t)

/-- BRAKE_SET_DONE (10 R385 step 4, R378, 18 R672): the gates are blocked and the station is READY, or FAULTED after a class C stop
whose latch stands. -/
def execBrakeSetDone (n : Stn) (s : State) : Host.Outcome State Fault Refusal :=
  tailNext s (fun t =>
    let q := (t.stnGet n).sq
    match q.step, q.t with
    | .tSet, some d =>
      let t := t.elapseTo d
      let c := (q.stop.map (·.classC)).getD false
      (if c && t.g (PROT_LATCH.LATCH n) != 0 then t.enterFaulted n 0 else t.enterReady n).finish
    | _, _ => t)

/-- VOLT_LIM (10 R378): VSAT has stayed 1, or 0, for 200 ms. -/
def execVoltLim (n : Stn) (s : State) : Host.Outcome State Fault Refusal :=
  tailNext s (fun t =>
    match (t.stnGet n).sq.st, (t.stnGet n).sq.vsT with
    | .running, some a =>
      ((((t.elapseTo (a + 200 * ms1)).setSt n .voltLimited).sqMap n (fun s => { s with vsT := none })).evt (stnPage n 0) 3).finish
    | .voltLimited, some a => (((t.elapseTo (a + 200 * ms1)).setSt n .running).sqMap n (fun s => { s with vsT := none })).finish
    | _, _ => t)

/-- C1_TIMEOUT (22 R765): a monitored ramp has not reached zero speed within TMON; it takes the emergency limits. -/
def execC1Timeout (n : Stn) (s : State) : Host.Outcome State Fault Refusal :=
  tailNext s (fun t =>
    match (t.stnGet n).sq.c1T with
    | some d =>
      let t := (t.elapseTo d).sqMap n (fun s => { s with c1T := none })
      if (t.stnGet n).sq.step = .ramp
        then ((((t.evt 0x24 4).inc EMG_CNT.C1_TO)).stopLimits n .emergency).finish else t
    | none => t)

/-! ## The lost host (22 sections 4 to 7) -/

/-- HB_PERIOD in ticks (22 R789). -/
def Tail.hbPeriod (t : Tail) : Nat := clampN 2 1000 (t.cf EMG_CFG.HB_PERIOD) * ms1

/-- Eclipse is declared (22 R776, R778, R783). -/
def Tail.declareEclipse (t : Tail) : Tail :=
  let t := ({ t with emg := { t.emg with declared := true } }.evt 0x24 0).inc EMG_CNT.ECLIPSES
  if t.us = .readySafe || t.us = .armed || t.us = .run || t.us = .stopping then
    let t := (List.finRange 2).foldl (fun t (g : Fin 2) => t.grpLinkLoss g true) (t.setUnit .eclipse)
    t.stns.foldl (fun t n => if (t.stnGet n).sq.st = .magnetizing then t.sqMap n (fun s => { s with abandon := true }) else t) t
  else t

/-- ECLIPSE (22 R774): an armed detector has seen no host activity for HB_PERIOD. -/
def execEclipse (s : State) : Host.Outcome State Fault Refusal :=
  tailNext s (fun t =>
    if t.pd 3 && t.emg.armed && !t.emg.declared then ((t.elapseTo (t.emg.lastAt + t.hbPeriod)).declareEclipse).finish else t)

/-- Host activity is accepted (22 R773, R784, R785, 23 R801): it arms the detector, and ends an Eclipse. -/
def Tail.hostActivity (t : Tail) : Tail :=
  let was := t.emg.declared
  let t := { t with
    emg := { t.emg with armed := true, lastAt := t.now, declared := false }
    sec := { t.sec with actAt := t.now } }
  if !was then t
  else
    let t := t.evt 0x24 1
    let t := if t.us = .eclipse
      then { t.setUnit (if t.anyRunning then .run else .readySafe) with emg := { t.emg with back := some t.ssn } } else t
    if t.cfb EMG_CFG.RESUME then
      t.stns.foldl (fun t n =>
        if (t.stnGet n).sq.st = .emergency && !((t.stnGet n).sq.lever && (t.stnGet n).sq.bySel)
          then t.sqMap n (fun s => { s with pendRelease := true }) else t) t
    else t

end Sys2Proof.Machine
end

