-- ==== Sys2Proof/Machine/Sample.lean ====
section
/-! DEFINITION. The sample instant of a station's current loop (01, 12 R461, 13, 14): when it comes, and all that happens at it, in
order. -/

namespace Sys2Proof.Machine

/-! ## When it comes (17 R629, R630) -/

/-- Ticks from the carrier place `x` to the next sample instant of a carrier of half-period `h` (17 R630). -/
def toSample (upd : Bool) (h x : Nat) : Nat := if upd then (h - x % h) % h else (3 * h - x) % (2 * h)

/-- Ticks to the next sample instant of station `n` (17 R629, R630): never the instant of its last sample. -/
def Tail.sampleIn (t : Tail) (n : Stn) : Nat :=
  let h := t.half n
  let upd := t.cfb (MOD_CFG.UPD n)
  let d := toSample upd h (t.carrierPos n)
  if t.now + d ≤ (t.stnGet n).modu.sampleAt then (if upd then d + h else d + 2 * h) else d

/-- Ticks to the next SSI start of station `n` (11 R421): LEAD FB ticks before a sample instant, never the start of before. -/
def Tail.ssiIn (t : Tail) (n : Stn) : Nat :=
  let h := t.half n
  let per := if t.cfb (MOD_CFG.UPD n) then h else 2 * h
  let d := toSample (t.cfb (MOD_CFG.UPD n)) h (t.carrierPos n)
  let x := (d + per - t.cf (FBP_SSICLK.LEAD n) * 4 % per) % per
  if t.now + x ≤ (t.stnGet n).fb.ssiLast then x + per else x

/-- An SSI frame starts, or is skipped while the one before still runs (11 R421, R422, R426). -/
def Tail.ssiStartNow (t : Tail) (n : Stn) : Tail :=
  let t := t.fbMap n (fun f => { f with ssiLast := t.now })
  if t.now < (t.stnGet n).fb.ssiFree then
    ((t.fbMap n (fun f => { f with ssiSkip := true })).inc (FBP_SSICNT.SKIP n)).evt (stnPage n 1) 4
  else
    let bits := t.cf (FBP_SSI.LEN n) * t.ssiDiv n * 4
    t.fbMap n (fun f =>
      { f with
        ssiStart := some (t.now + bits)
        ssiFree := t.now + bits + (t.cf (FBP_SSICLK.MONO n) + 1) * us1
        ssiFt := t.ftFb.toNat })

/-- SSI_FRAME_START (11 R421, R426): time passes to the station's next start. -/
def execSsiFrameStart (n : Stn) (s : State) : Host.Outcome State Fault Refusal :=
  tailNext s (fun t =>
    if t.fitted n && t.on 7 && t.on 6 && t.clk.ftRun && t.fbpMode n = 2 then ((t.elapse (t.ssiIn n)).ssiStartNow n).finish else t)

/-! ## Protection and feedback at the instant (18 R653, R666) -/

/-- The sources whose condition has gone at this instant (18 R653): the momentary ones, and CTO once its stop has gone on. -/
def Tail.dropPast (t : Tail) (n : Stn) : Tail :=
  let t := [0, 1, 2].foldl (fun t k => t.dropSource n k) t
  if (t.stnGet n).sq.step = .ramp then t else t.dropSource n 14

/-- ZSPD as a Q15 code (10 R405). -/
def Tail.zspd (t : Tail) (n : Stn) : Nat := (roundDiv ((t.cf (STN_CFG.ZSPD n) * 32767 : Nat) : Int) 1000).toNat

/-- The speed of station `n` lies within ZSPD (10 R385). -/
def Tail.inBand (t : Tail) (n : Stn) : Bool := t.spdMag n ≤ t.zspd n

/-- What the speed of this sample decides (10 R385, 18 R660, 19 section 3, 22 R780): samples at zero speed, a proving under
HOLD_BRAKE, the speed below NOFF, and a disturbed diagnostic step. -/
def Tail.speedWatch (t : Tail) (n : Stn) : Tail :=
  let band := t.inBand n
  let slow := t.b (FBP_STAT.SPD_VALID n) && (t.spdMag n : Int) < t.cfi (PROT_ASC.NOFF n)
  let t := if (t.stnGet n).modu.gate = .asc
    then t.protMap n (fun p => { p with slowAt := if slow then (if p.slowAt.isSome then p.slowAt else some t.now) else none }) else t
  let t := if t.g DIAG_STAT.STATE = 2 && t.g DIAG_STAT.STN = n.val && t.b (FBP_STAT.SPD_VALID n) && !band
    then { t with diag := { t.diag with disturbed := true } } else t
  match (t.stnGet n).sq.step with
  | .ramp => t.sqMap n (fun s => { s with zcount := if band then min 10 (s.zcount + 1) else if s.c2 then s.zcount else 0 })
  | .zeroProve => if band then t else (t.evt 0x24 5).closeBrake n
  | _ => t

/-! ## The loops of one sample (13 R492, R493, R495, 16 R593) -/

/-- The torque reference in MAGNETIZING (13 R493, 10 R383): the proving torque from step 3 on, signed by HOLD_DIR. -/
def Tail.magTorque (t : Tail) (n : Stn) : Int :=
  match (t.stnGet n).sq.step with
  | .prove | .brakeOpen | .tRel =>
    if t.cfb (STN_CFG.BRAKE_EN n) then
      let m := (t.cfi (STN_BRK1.PROVE_TQ n)).natAbs
      if t.cfb (STN_CFG.HOLD_DIR n) then -(m : Int) else m
    else 0
  | _ => 0

/-- The travel limits on a speed reference (11 R429): at most 0 under a positive one, at least 0 under a negative one. -/
def Tail.travelClamp (t : Tail) (n : Stn) (r : Bfp) : Bfp :=
  if (t.travelLimit n 1 && 0 < r.m) || (t.travelLimit n 2 && r.m < 0) then ⟨0, 0⟩ else r

/-- The speed reference of a boundary under the Warm-up limits (15 R582), DROOP (16 R593) and the travel limits. -/
def Tail.speedRef (t : Tail) (n : Stn) (r : Bfp) : Bfp :=
  let q := r.q15
  t.travelClamp n (t.droop n (if t.warmSpeed n q = q then r else ⟨t.warmSpeed n q, 0⟩))

/-- The outer loop at its boundary, under a commit of its own (13 R492, 06 R219). -/
def Tail.runOuter (t : Tail) (n : Stn) : Tail :=
  if t.outl n && t.outBoundary n then t.commit (fun t => t.outerLoop n (t.stnGet n).setp.ref (t.outHeld n)) else t

/-- The speed loop at its boundary, under a commit of its own, with the Pacer's share and frame (13 R492, 16 R594, R600). -/
def Tail.runSpeed (t : Tail) (n : Stn) : Tail :=
  if !(t.spdl n && t.spdBoundary n) then t
  else
    let s := t.stnGet n
    let outer := t.outl n && !t.outHeld n
    let raw : Bfp := if outer then s.loops.nref else ⟨sat16 s.setp.ref, 0⟩
    t.commit (fun t =>
      let t := (t.speedLoop n (t.speedRef n raw) s.setp.aref).loopsMap n (fun l => { l with nref := raw })
      if s.share.role = .pacer then (t.pacerShare n).pacerFrame n else t)

/-- The torque reference in effect after the takeover (13 R495, 16 R593, R617). -/
def Tail.runTorque (t : Tail) (n : Stn) : Int :=
  let s := t.stnGet n
  match s.share.role with
  | .follower => if s.sq.stop.isSome then 0 else s.share.share
  | .pacer => if t.spdl n then s.share.share else s.setp.ref
  | .none => if t.spdl n then s.loops.tref else s.setp.ref

/-- The torque reference under the Warm-up limits (15 R582). -/
def Tail.warmTorque (t : Tail) (n : Stn) (x : Int) : Int :=
  if t.b (PROF_STAT.WARM_ACT n) then clampI (-(t.cf (PROF_WLIM.WTMAX n) : Int)) (t.cf (PROF_WLIM.WTMAX n)) x else x

/-- References and loops around the current loop: the torque reference in effect, and the state after. -/
def Tail.references (t : Tail) (n : Stn) : Int × Tail :=
  if (t.stnGet n).sq.st = .magnetizing then
    let q := t.magTorque n
    (q, t.loopsMap n (fun l => { l with tref := q }))
  else
    let t := if (t.stnGet n).share.role = .follower then (t.applyFrame n).plostTake n else t
    if (t.stnGet n).share.role = .follower then (t.runTorque n, t)
    else
    let t := ((((t.succJoin n).source n).runOuter n).runSpeed n)
    let q := t.runTorque n
    (q, if t.spdl n then t else t.loopsMap n (fun l => { l with tref := q }))

/-- The judgement of torque proving at this sample (10 R383 step 3): in the last half of the proving time. -/
def Tail.proveSample (t : Tail) (n : Stn) : Tail :=
  let q := (t.stnGet n).sq
  match q.step, q.t with
  | .prove, some d =>
    let l := (t.stnGet n).loops
    if d ≤ t.now + t.cf (STN_BRK1.PROVE_MS n) * (ms1 / 2) && (l.iqRef.natAbs < 10 * (l.iqRef - l.iq).natAbs)
      then t.sqMap n (fun s => { s with proved := false }) else t
  | _, _ => t

/-- Since when VSAT has differed from the state (10 R378). -/
def Tail.vsatWatch (t : Tail) (n : Stn) : Tail :=
  let v := (t.stnGet n).loops.vsat
  t.sqMap n (fun s =>
    let differs := (s.st = .running && v) || (s.st = .voltLimited && !v)
    { s with vsT := if differs then (if s.vsT.isSome then s.vsT else some t.now) else none })

/-- The current loop with its commit (13 R492, 17 R634, R647, 14 R539, R548): loop, compare values, chopper, detectors, traces. -/
def Tail.runCurrent (t : Tail) (n : Stn) (q : Int) (valid : Bool) : Tail :=
  t.commit (fun t =>
    let t := (((t.currentLoop n (t.warmTorque n q)).modulate n).chopper n).detect n
    (t.shareTa n).traceSample n valid)

/-- A sample of a station in a running state. -/
def Tail.runSample (t : Tail) (n : Stn) (valid : Bool) : Tail :=
  let t := (t.warmUpdate n).swapsAt n
  let (q, t) := t.references n
  let t := (((t.runCurrent n q valid).proveSample n).vsatWatch n).loopsMap n (fun l => { l with k := l.k + 1 })
  let due := if t.cfb (STN_TIMING.SCHED n) then none else some (t.now + t.tapply n)
  t.moduMap n (fun m => { m with applyAt := due })

/-- All that happens at a sample instant of station `n` with the bits `raw` of its data inputs. -/
def Tail.sampleNow (t : Tail) (n : Stn) (raw : SampleIn) : Tail :=
  let t := (if (t.stnGet n).modu.next.isSome then t.dlMiss n else t).takeLate n
  let t := t.sqMap n (fun s => { s with gateWait := false })
  let cfg := (t.stnGet n).isns.cfg
  let t := ((t.senseSample n raw).dropPast n).moduMap n (fun m => { m with sampleAt := t.now })
  let t := (((t.fbEstimate n).fbSampleRecord n).loopFeedback n)
  let t := (t.speedWatch n).leaveRole n
  let ok := (t.stnGet n).isns.ok
  if (t.stnGet n).sq.st.isRunning then t.runSample n ((isnsPhases cfg).all (fun k => ok.getLsbD k.val)) else t

/-- SAMPLE_INSTANT (12 R461, 13 R491): time passes to the station's next sample instant, and the sample is taken. -/
def execSampleInstant (n : Stn) (raw : SampleIn) (s : State) : Host.Outcome State Fault Refusal :=
  tailNext s (fun t =>
    if t.fitted n && t.on 6 && t.clk.ftRun then ((t.elapse (t.sampleIn n)).sampleNow n raw).finish else t)

/-- The Follower of group `g` here for which a PLOST frame waits (16 R614). -/
def Tail.plostWaits (t : Tail) (g : Fin 4) : Option Stn :=
  (t.followers g).find? (fun n => (t.stnGet n).share.wait.any (fun e => e.2.flags.testBit 4))

/-- SUCCESSION_TAKEOVER (16 R614): the designated successor of group `g` in this unit takes over at a sample instant: the one at which it
applies a PLOST frame that waits, else the next one after 130 us without a frame. -/
def execSuccessionTakeover (g : Nat) (s : State) : Host.Outcome State Fault Refusal :=
  tailNext s (fun t =>
    if h : g < 4 then
      match t.plostWaits ⟨g, h⟩, t.successor ⟨g, h⟩ with
      | some n, _ => (((t.elapse (t.sampleIn n)).applyFrame n).plostTake n).finish
      | none, none => t
      | none, some n =>
        let t := t.elapseTo ((t.stnGet n).share.seen + 130 * us1)
        ((t.elapse (t.sampleIn n)).succeed ⟨g, h⟩ n).finish
    else t)

end Sys2Proof.Machine
end

