-- ==== Sys2Proof/Machine/Diag.lean ====
section
/-! DEFINITION. Off-state diagnostics (19), and the command point of a station, where a START ends a sequence (10 R381, 19 R692). -/

namespace Sys2Proof.Machine

/-! ## Steps (19 R691, R697, R698) -/

/-- A step that is not run, with its result (19 R698): RANGE where its trip input cannot reach the threshold, NOT_RUN for the ground
fault of a calculated phase. -/
def Tail.diagSkip (t : Tail) (n : Stn) (s : Nat) : Option Nat :=
  let gain (k : Nat) : Int := 4 * (t.cf (ISNS_GAIN.GAIN n k) : Int)
  if 6 ≤ s && s < 12 then (if gain ((s - 6) / 2) < t.cf (PROT_IOC.IOC n) then some 9 else none)
  else if s = 12 then (if gain 3 < t.cfi (PROT_VDC.OV n) then some 9 else none)
  else if s = 14 then (if (t.cf (ISNS_CFG.CH_EN n)).testBit 2 then none else some 0)
  else none

/-- The trip limit of a comparator step in ticks (19 R697, 12 R466, 18 K5). -/
def Tail.diagLimit (t : Tail) (n : Stn) (s : Nat) : Nat :=
  let q := match t.cf (ISNS_CFG.POSR n) with
    | 0 => 160 | 1 => 320 | _ => 640
  if s = 15 then 20 else if s = 14 then q + 20 * max 1 (t.cf (PROT_GF.GF_N n)) else q

/-- The pattern of the open tests (19 R696). -/
def openph (uv vw wu : Nat) : Nat :=
  if [uv, vw, wu].any (fun r => r != 1 && r != 6) then 7
  else match decide (uv = 6), decide (vw = 6), decide (wu = 6) with
    | false, false, false => 0
    | true, false, true => 1
    | true, true, false => 2
    | false, true, true => 3
    | true, true, true => 4
    | _, _, _ => 5

/-- The sequence is done (19 R693). -/
def Tail.diagDone (t : Tail) (n : Stn) : Tail :=
  let bad := (List.range 16).any (fun s => 2 ≤ t.diagRes s && t.diagRes s ≤ 10)
  let t := ({ t.p DIAG_STAT.STATE 3 with diag := { t.diag with psInj := [] } }).evt 0x25 0
  (if bad then (t.p DIAG_STAT.FAIL 1).evt 0x25 1 else t).diagReturn n

/-- The selection code of a phase step (19 R687, R694, R695): return path and source phase. -/
def psCode (s : Nat) : Nat := [1, 2, 3, 9, 14, 7].getD s 0

/-- The code `c` on PS_INJ from time `a` on (19 R686, R687): a pulse of 100 µs per bit, sunk for a 1 and sourced for a 0, and 100 µs at 0
A. -/
def psBits (a c : Nat) : List (Nat × Int) :=
  (List.range 4).flatMap (fun i => [(a + i * 200 * us1, if c.testBit (3 - i) then 1 else -1), (a + i * 200 * us1 + 100 * us1, 0)])

/-- The current at PS_INJ during step `s` from time `a` on (19 R687, R694, R695): the selection code, V0 without current in a short step,
ITEST while it settles and is measured. -/
def Tail.psInject (t : Tail) (s a : Nat) : List (Nat × Int) :=
  if 6 ≤ s then []
  else
    let on := a + (if s < 3 then 1800 else 800) * us1
    psBits a (psCode s) ++ [(on, (clampN 1 20 (t.cf DIAG_CFG.ITEST) : Int)), (on + 2000 * us1, 0)]

/-- The typical length of step `s` in ticks (19 R700). -/
def diagSpan (s : Nat) : Nat := (if s < 3 then 4900 else if s < 6 then 3900 else 100) * us1

/-- The next step from step `s` on, which begins `d` ticks from now (19 R690, R698): steps outside MASK are passed, steps that are not run
take their result. -/
def Tail.diagNext (t : Tail) (n : Stn) (d : Nat) : Nat → Nat → Tail
  | 0, _ => t.diagDone n
  | fuel + 1, s =>
    if !(t.g DIAG_CFG.MASK).testBit s then t.diagNext n d fuel (s + 1)
    else
      let t := t.p DIAG_STAT.STEP s
      match t.diagSkip n s with
      | some r => (t.diagPut s r).diagNext n d fuel (s + 1)
      | none => { t with diag :=
          { t.diag with disturbed := false, vlink := t.vlink n, stepAt := t.now + d, psInj := t.psInject s (t.now + d) } }

/-- RUNNING begins (19 R690), its first step `d` ticks from now. -/
def Tail.diagBegin (t : Tail) (n : Stn) (d : Nat) : Tail :=
  ({ t.p DIAG_STAT.STATE 2 with diag := { t.diag with dwellT := none } }).diagNext n d 16 0

/-- The comparator of step `s` evaluates its real input again (19 R699): a condition that stands asserts its source. -/
def Tail.diagReal (t : Tail) (n : Stn) (s : Nat) : Tail :=
  let p := (t.stnGet n).isns.prot
  if s < 6 then t
  else if s < 12 then t.cmpOc n [Fin.ofNat 3 ((s - 6) / 2)] (fun k => [p[k.val]])
  else if s = 12 then t.cmpOv n [p[3]]
  else if s = 13 then t.cmpUv n [p[3]]
  else if s = 14 then t.cmpGf n (if (t.stnGet n).isns.gfRun = 0 then [p[0] + p[1] + p[2]] else [])
  else t.cmpOspd n

/-- A sequence is ended by a command (19 R692): the substitution of a comparator step ends with it (R699). -/
def Tail.diagEnd (t : Tail) : Tail :=
  let t1 := t.diagAbort
  if t.g DIAG_STAT.STATE = 2 then t1.diagReal t.diagStn (t.g DIAG_STAT.STEP) else t1

/-- A sequence on station `n` yields to its START or ENABLE (10 R400, R401). -/
def Tail.diagYield (t : Tail) (n : Stn) : Tail := if t.diagOn && t.diagStn = n then t.diagEnd.inc SEQ_BG.PREEMPT else t

/-! ## The commands (19 R689, R690, R692) -/

/-- The refusals of a RUN on station `k` (19 R689). -/
def Tail.diagCheck (t : Tail) (run : Bool) (k : Nat) (enabled : Bool) : List (Bool × Nat) :=
  let n : Stn := Fin.ofNat 4 k
  let st := (t.stnGet n).sq.st
  [ (run && !t.fitted k, badAddr),
    (run && !(enabled && !t.diagOn && (st = .ready || st = .disabled) && t.g (ISNS_STAT.CAL_STATE k) != 1 && t.inRun
      && (t.stnGet n).modu.fb &&& t.usedCh k = 0), busySt) ]

/-- An accepted RUN (19 R690, 21 R748): DIAG, every result NOT_RUN, the dwell that thermal management asks for. -/
def Tail.diagRun (t : Tail) (n : Stn) : Tail :=
  let t := (t.sqMap n (fun s => { s with diagFrom := s.st })).setSt n .diag
  let t := ((((((t.p DIAG_RES_LO.RES 0).p DIAG_RES_HI.RES 0).p DIAG_STAT.OPENPH 7).p DIAG_STAT.FAIL 0).p DIAG_STAT.STN n).inc
    DIAG_CNT.RUNS).p DIAG_STAT.STATE 1
  match t.dwellStns [n] with
  | some ms => { t.dwellBegin ms with diag := { t.diag with dwellT := t.after (ms * ms1) } }
  | none => t.diagBegin n (50 * us1)

/-- DIAG_RUN (19 R689): the host writes `word` to DIAG_CMD. -/
def execDiagRun (word : Word) (s : State) : Host.Outcome State Fault Refusal :=
  tailNext s (fun t =>
    let run := fdGet DIAG_CMD.RUN word = 1
    let k := fdGet DIAG_CMD.STN word
    if !t.on 3 || !run || (refusal (t.diagCheck run k (t.enabled 0x25))).isSome then t else (t.diagRun (Fin.ofNat 4 k)).finish)

/-- DIAG_ABORT (19 R692): the host writes DIAG_CMD.ABORT. -/
def execDiagAbort (s : State) : Host.Outcome State Fault Refusal := tailNext s (fun t => if t.on 3 then t.diagEnd.finish else t)

/-! ## Readings (19 R694 to R699) -/

/-- The result of a short step (19 R694): `v0` and `dv` in microvolts at the phase. -/
def Tail.shortResult (t : Tail) (n : Stn) (v0 dv : Int) : Nat :=
  let uv (f : Fd) : Int := (t.g f : Int) * 1000000
  let link := t.vlink n
  if uv DIAG_THR.DVMIN ≤ dv then 1
  else if link < uv DIAG_PSCFG.VMIN then 4
  else if link - uv DIAG_THR.VSHORT ≤ v0 then 2
  else if v0 ≤ uv DIAG_THR.VSHORT then 3
  else 5

/-- The step in progress was disturbed (19 section 3): the speed left the band, or VLINK moved by more than 5 % of STN_UBASE. -/
def Tail.diagDisturbed (t : Tail) (n : Stn) : Bool :=
  t.diag.disturbed || decide ((t.g (STN_UBASE.VALUE n) : Int) * 50000 < (t.vlink n - t.diag.vlink).natAbs)

/-- Step `s` ends with the readings `m`: microvolts at the phase-sense pins for a phase test (V0 and V1; Vx and Vy); for a comparator the
ticks until it tripped, if it did, and whether it released. -/
def Tail.diagStep (t : Tail) (n : Stn) (s : Nat) (m : DiagMeas) : Tail :=
  let ratio : Int := max 1 (t.g DIAG_PSCFG.RATIO)
  let x := (m.v.getD 0 0) * ratio
  let y := (m.v.getD 1 0) * ratio
  if s < 3 then
    let t := (t.pi (DIAG_SHORT.V0 s) (satS 16 (roundDiv x 1000000))).pi (DIAG_SHORT.DV s) (satS 16 (roundDiv (y - x) 1000000))
    t.diagPut s (if t.diagDisturbed n then 10 else t.shortResult n x (y - x))
  else if s < 6 then
    let t := t.pi (DIAG_OPEN.VXY (s - 3)) (satS 16 (roundDiv (x - y) 100000))
    let t := t.diagPut s (if t.diagDisturbed n then 10 else if (t.g DIAG_OPENTHR.VOPEN : Int) * 1000000 ≤ x - y then 6 else 1)
    t.p DIAG_STAT.OPENPH (openph (t.diagRes 3) (t.diagRes 4) (t.diagRes 5))
  else
    let trip := match m.v with
      | [] => false
      | d :: _ => decide (d ≤ t.diagLimit n s)
    t.diagPut s (if !trip then 7 else if !m.ok then 8 else 1)

/-- DIAG_STEP_END (19 R694 to R697, R700): the step in progress ends, a substitution with it (R699); the next begins, or the sequence is
done. -/
def execDiagStepEnd (m : DiagMeas) (s : State) : Host.Outcome State Fault Refusal :=
  tailNext s (fun t =>
    if t.g DIAG_STAT.STATE != 2 then t
    else
      let n := t.diagStn
      let k := t.g DIAG_STAT.STEP
      let t := (t.elapseTo (t.diag.stepAt + diagSpan k)).diagReal n k
      (if (t.stnGet n).sq.st = .diag then (t.diagStep n k m).diagNext n 0 (15 - k) (k + 1) else t).finish)

/-! ## The command point (10 R381, 19 R692) -/

/-- COMMAND_POINT (10 R381): station `n` takes what was committed since the last one; a START ends its diagnostic sequence. -/
def execCommandPoint (n : Stn) (s : State) : Host.Outcome State Fault Refusal :=
  tailNext s (fun t =>
    if !(t.fitted n && t.on 3 && t.on 6 && t.sqcUp) then t
    else
      let start := (t.stnGet n).sq.pendStart
      let t := t.commandPoint n
      (if start then t.diagYield n else t).finish)

end Sys2Proof.Machine
end

