-- ==== Sys2Proof/Machine/Thermal.lean ====
section
/-! DEFINITION. Thermal management (21): groups and thresholds, negotiated derating, dwells, and the hardware thermal shutdown. -/

namespace Sys2Proof.Machine

/-! ## Sensors and groups (21 R730 to R732) -/

/-- VALUE of the newest round result of channel `c` (20 R727). -/
def Tail.hkVal (t : Tail) (c : Nat) : Int :=
  t.gi (if c % 2 = 1 then HK_VAL.VAL_ODD (c / 2) else HK_VAL.VAL_EVEN (c / 2))

/-- The bit of channel `c` in HK_INV: its newest result is invalid. -/
def Tail.hkInv (t : Tail) (c : Nat) : Bool :=
  if c < 32 then (t.g HK_INV_LO.INV).testBit c else (t.g HK_INV_HI.INV).testBit (c - 32)

/-- The channels of group `g` (21 R730): INT, PMOD, WIND, COOL, OIL. -/
def thmChannels (g : Fin 5) : List Nat :=
  match g with
  | 0 => List.range 6
  | 1 => (List.range 12).map (· + 22)
  | 2 => (List.range 8).map (· + 34)
  | 3 => [42, 43]
  | 4 => [44, 45]

/-- Thermal channel `c` is enabled (20 R728). -/
def Tail.thmEnabled (t : Tail) (c : Nat) : Bool :=
  c < 22 || (if c < 34 then t.cfb (HKCH_NTC.EN (c - 22)) else t.cfb (HKCH_PT.EN (c - 34)))

/-- Sensor `c` is assigned to station `n` (21 R730, R759): channels 0 to 5 to every station. -/
def Tail.thmAssigned (t : Tail) (c n : Nat) : Bool :=
  c < 22 || (t.g (THM_ASGN.STNMASK ((c - 22) / 8))).testBit (4 * ((c - 22) % 8) + n)

/-- The maximum of a list of numbers, and the minimum; none for no number. -/
def maxOf (l : List Int) : Option Int := l.foldl (fun m x => some (match m with | none => x | some y => max x y)) none
def minOf (l : List Int) : Option Int := l.foldl (fun m x => some (match m with | none => x | some y => min x y)) none

/-- The sensors among `cs` that count (21 R731). -/
def Tail.thmCounting (t : Tail) (cs : List Nat) : List Nat := cs.filter (fun c => t.thmEnabled c && !t.hkInv c)

/-- The group values and the overall maximum of the unit (21 R731, R732). -/
def Tail.thmUnit (t : Tail) : Tail :=
  let t := (List.finRange 5).foldl (fun t (g : Fin 5) =>
    let vs := (t.thmCounting (thmChannels g)).map t.hkVal
    (t.pi (THM_GVAL.MIN g.val) ((minOf vs).getD (-32768))).pi (THM_GVAL.MAX g.val) ((maxOf vs).getD (-32768))) t
  let all := t.thmCounting ((List.finRange 5).flatMap thmChannels)
  match maxOf (all.map t.hkVal) with
  | none => (t.p THM_TMAX.MAX 0x8000).p THM_TMAX.ID 0
  | some m => (t.pi THM_TMAX.MAX m).p THM_TMAX.ID ((all.find? (fun c => t.hkVal c = m)).getD 0)

/-! ## Thresholds (21 R734 to R737) -/

/-- A state that sets at or above `thr` and clears at or below it less 3.0 degrees (21 R735). -/
def thmHi (was : Bool) (v thr : Int) : Bool := if thr ≤ v then true else if v ≤ thr - 30 then false else was

/-- A state that sets below `thr` and clears at or above it plus 3.0 degrees (21 R735). -/
def thmLo (was : Bool) (v thr : Int) : Bool := if v < thr then true else if thr + 30 ≤ v then false else was

/-- The states of group `g` of station `n` (21 R732, R735): a group without an enabled sensor takes part in no threshold; a blind one
acts as if its maximum stood at DERATE_FULL. Before the first round has ended (10 R372 T8) a group without a result is not known. -/
def Tail.thmGroup (t : Tail) (n : Stn) (g : Fin 5) : ThmSt :=
  let s := (t.stnGet n).thm[g]
  let cs := (thmChannels g).filter (fun c => t.thmEnabled c && t.thmAssigned c n)
  let vs := (t.thmCounting cs).map t.hkVal
  match maxOf vs, minOf vs with
  | some hi, some lo =>
    { lowInh := thmLo s.lowInh lo (t.gi (THM_GLOW.LOW_INHIBIT g.val))
      lowWarn := thmLo s.lowWarn lo (t.gi (THM_GLOW.LOW_WARN g.val))
      highWarn := thmHi s.highWarn hi (t.gi (THM_GHI.HIGH_WARN g.val))
      derate := thmHi s.derate hi (t.gi (THM_GHI.DERATE_START g.val))
      trip := thmHi s.trip hi (t.gi (THM_GTOP.TRIP g.val))
      blind := false
      max := some hi }
  | _, _ =>
    if cs.isEmpty then ThmSt.init
    else if t.hk.known then
      let df := t.gi (THM_GTOP.DERATE_FULL g.val)
      { s with derate := thmHi s.derate df (t.gi (THM_GHI.DERATE_START g.val)), blind := true, max := some df }
    else s

/-- The bits of a group in THM_STAT, in the order of R759, and its blind bit above them. -/
def ThmSt.bits (s : ThmSt) : Nat :=
  b2n s.lowInh + 2 * b2n s.lowWarn + 4 * b2n s.highWarn + 8 * b2n s.derate + 16 * b2n s.trip + 32 * b2n s.blind

/-- The bits of group `g` that some station has (21 R735). -/
def Tail.thmUnion (t : Tail) (g : Fin 5) : Nat := t.stns.foldl (fun x n => x ||| (t.stnGet n).thm[g].bits) 0

/-- The five bits of the groups in THM_STAT (21 R759). -/
def thmFd (g : Fin 5) : Fd := ⟨THM_STAT.G0.addr, 5 * g.val + 4, 5 * g.val, .ro, 0, .trst⟩

/-- The latch of a state bit (21 R759), for the order of `ThmSt.bits`; derating has its latch on THD. -/
def thmLatch : List (Nat × Nat) := [(0, 5), (1, 0), (2, 1), (4, 2), (5, 3)]

/-- The threshold states of station `n` (21 R735 to R737): latches of the states that set, and the source THERM. -/
def Tail.thmStn (t : Tail) (n : Stn) : Tail :=
  let old := (t.stnGet n).thm
  let new := Vector.ofFn (fun g => t.thmGroup n g)
  let t := t.stnMap n (fun s => { s with thm := new })
  let rose (k : Nat) : Bool := (List.finRange 5).any (fun g => new[g].bits.testBit k && !old[g].bits.testBit k)
  let t := thmLatch.foldl (fun t (e : Nat × Nat) => if rose e.1 then t.evt 0x34 e.2 else t) t
  t.setSource n 13 (new.toList.any (·.trip))

/-! ## Negotiated derating (21 R742 to R747) -/

/-- F (21 R742). -/
def Tail.thmFloor (t : Tail) : Int := roundDiv ((min 100 (t.g THD_CFG.FLOOR) * 32767 : Nat) : Int) 100

/-- The request of one group (21 R742). -/
def Tail.thmReq (t : Tail) (g : Fin 5) (s : ThmSt) : Int :=
  if !s.derate then 32767
  else
    let ds := t.gi (THM_GHI.DERATE_START g.val)
    let df := t.gi (THM_GTOP.DERATE_FULL g.val)
    let f := t.thmFloor
    clampI f 32767 (32767 - roundDiv ((32767 - f) * (s.max.getD df - ds)) (df - ds).toNat)

/-- The request of station `n`, published, and derating as it begins and ends (21 R742 to R744, R746, R747). -/
def Tail.thmDerate (t : Tail) (n : Stn) : Tail :=
  let thm := (t.stnGet n).thm
  let q := (List.finRange 5).foldl (fun q (g : Fin 5) => min q (t.thmReq g thm[g])) 32767
  let t := (t.pi (THD_REQ.REQ n) q).p (THD_REQ.PCT n) (roundDiv (q * 100) 32767).toNat
  let on := thm.toList.any (·.derate)
  let was := t.b (THD_REQ.ACTIVE n)
  let graceMap (t : Tail) (x : Timer) : Tail := { t with thd := { t.thd with grace := t.thd.grace.set n x } }
  if on && !was then
    let g := min 600 (t.g THD_CFG.GRACE)
    let t := (t.p (THD_REQ.ACTIVE n) 1).evt 0x35 0
    if g = 0 then graceMap (t.p (THD_REQ.GRACE_OVER n) 1) none else graceMap t (t.after (g * 100 * ms1))
  else if was && !on then
    (graceMap (((t.p (THD_REQ.ACTIVE n) 0).p (THD_REQ.GRACE_OVER n) 0).p (THD_REQ.ENFORCED n) 0) none).evt 0x35 2
  else t

/-- What a commit of a thermal channel's result recomputes (21 R731, R735, R736, R742). -/
def Tail.thmEval (t : Tail) : Tail :=
  let t := t.stns.foldl (fun t n => (t.thmStn n).thmDerate n) t.thmUnit
  let t := (List.finRange 5).foldl (fun t (g : Fin 5) => t.p (thmFd g) (t.thmUnion g)) t
  let t := t.p THM_STAT.BLIND ((List.finRange 5).foldl (fun x (g : Fin 5) => x + 2 ^ g.val * b2n ((t.thmUnion g).testBit 5)) 0)
  t.pb (PG_STAT.WARN 0x34) (t.stns.any (fun n => (t.stnGet n).thm.toList.any (fun s => s.lowWarn || s.highWarn)))

/-- Whole degrees of a temperature in 0.1 degrees (21 R733): saturated, 0x80 for no value. -/
def thmDeg (v : Option Int) : Byte :=
  match v with
  | none => 0x80
  | some v => BitVec.ofInt 8 (clampI (-127) 127 (roundDiv v 10))

/-- The maximum of group `g` as THM_GVAL holds it. -/
def Tail.thmMax (t : Tail) (g : Nat) : Option Int := if t.g (THM_GVAL.MAX g) = 0x8000 then none else some (t.gi (THM_GVAL.MAX g))

/-- GRACE_OVER (21 R744): the grace time of station `n` expires. -/
def execGraceOver (n : Stn) (s : State) : Host.Outcome State Fault Refusal :=
  tailNext s (fun t =>
    match t.thd.grace[n] with
    | some d =>
      let t := t.elapseTo d
      { t with thd := { t.thd with grace := t.thd.grace.set n none } }.p (THD_REQ.GRACE_OVER n) 1
    | none => t)

/-! ## Threshold writes (21 R734, R738, R753) -/

/-- Thresholds out of order (21 R734), or beyond what the shutdown allows (R738), in the registers the frame would leave. -/
def Tail.thmBad (t : Tail) (w : Wr) : Bool :=
  (List.range 5).any (fun g =>
    let li := t.newi w (THM_GLOW.LOW_INHIBIT g)
    let lw := t.newi w (THM_GLOW.LOW_WARN g)
    let hw := t.newi w (THM_GHI.HIGH_WARN g)
    let ds := t.newi w (THM_GHI.DERATE_START g)
    let df := t.newi w (THM_GTOP.DERATE_FULL g)
    let tr := t.newi w (THM_GTOP.TRIP g)
    !(decide (li ≤ lw) && decide (lw < hw) && decide (hw ≤ ds) && decide (ds < df) && decide (df ≤ tr))
      || (g = 0 && decide (1100 < tr)) || (g = 1 && decide (t.newi w THM_HWCFG.HWNTC - 50 < tr)))

/-- The refusals of a frame on THM (21 R734, R738, R753). -/
def Tail.thmCheck (t : Tail) (w : Wr) : List (Bool × Nat) :=
  [ (t.thmBad w, badAddr),
    (t.changes w THM_HWCFG.HWNTC && decide (sx 16 t.otp.ntcLim < t.newi w THM_HWCFG.HWNTC), badAddr) ]

/-! ## Dwells (21 R748 to R751) -/

/-- The dwells in progress: their ends, and what they hold back. -/
inductive Dwell where
  | scrub | trace | diag | group (g : Fin 2) | start (n : Stn)
  deriving DecidableEq, Repr

/-- The dwells in progress with their ends. -/
def Tail.dwells (t : Tail) : List (Nat × Dwell) :=
  let one (x : Timer) (d : Dwell) : List (Nat × Dwell) := match x with
    | some e => [(e, d)]
    | none => []
  one t.thd.scrubT .scrub ++ one t.thd.traceT .trace ++ one t.diag.dwellT .diag
    ++ (List.finRange 2).flatMap (fun g => if t.grp[g].dwell then one t.grp[g].wait (.group g) else [])
    ++ t.stns.flatMap (fun n => if (t.stnGet n).sq.step = .dwell then one (t.stnGet n).sq.t (.start n) else [])

/-- The dwell that ends first. -/
def firstDwell : List (Nat × Dwell) → Option (Nat × Dwell)
  | [] => none
  | e :: l => match firstDwell l with
    | none => some e
    | some x => some (if x.1 < e.1 then x else e)

/-- The operation that waited proceeds (21 R748). -/
def Tail.dwellOver (t : Tail) (d : Dwell) : Tail :=
  match d with
  | .scrub => { t with thd := { t.thd with scrubT := none }, store := { t.store with paceFrom := t.now } }
  | .trace => { t with thd := { t.thd with traceT := none } }
  | .diag => t.diagBegin t.diagStn 0
  | .group g => t.grpClose g
  | .start n => t.beginProve n

/-- DWELL_END (21 R748): the dwell that began to end first is over. -/
def execDwellEnd (s : State) : Host.Outcome State Fault Refusal :=
  tailNext s (fun t =>
    match firstDwell t.dwells with
    | some (e, d) => ((t.elapseTo e).dwellOver d).finish
    | none => t)

/-- Stream `k` is a trace stream (21 R748). -/
def traceStream (k : Nat) : Bool := 64 ≤ k && k < 128 && 5 ≤ k % 16 && k % 16 ≤ 12

/-- A trace upload is held back (21 R750). -/
def Tail.traceHeld (t : Tail) : Bool := match t.thd.traceT with
  | some d => decide (t.now < d)
  | none => false

/-- A trace upload is executed: the dwell before the next one begins (21 R748, R750). -/
def Tail.traceDone (t : Tail) : Tail :=
  match t.dwellStns [] with
  | some ms => { t.dwellBegin ms with thd := { t.thd with traceT := t.after (ms * ms1) } }
  | none => { t with thd := { t.thd with traceT := none } }

/-! ## Hardware thermal shutdown (21 R752 to R758) -/

/-- A sensor with a comparator that is on (21 R752): the internal locations, and the NTCs whose HWMASK bit is 1. -/
def Tail.hwSensor (t : Tail) (c : Nat) : Bool :=
  c < 6 || (22 ≤ c && c < 34 && (t.g THM_HWCFG.HWMASK).testBit (c - 22))

/-- A comparator confirms a trip (21 R754 actions 1 to 3, R755, R758, 02 R73): gates blocked, the outputs off, LINK_RDY cleared, the sensor
recorded, the log flushed; every sequence ends. -/
def Tail.hwShutdown (t : Tail) (c : Nat) : Tail :=
  let t := ((t.p THM_HWSTAT.VALID 1).p THM_HWSTAT.SENSOR c).inc THM_HWSTAT.COUNT
  let asleep := t.aon.ps = .deep
  let t := { t.aonMap (fun a => { a with gateBlock := true, shutAt := some t.now }) with link := { t.link with ready := false } }
  let t := (t.setUnit .thermalShutdown).ascOverride
  let t := t.stns.foldl (fun t n => if (t.stnGet n).sq.st = .disabled then t else t.enterDisabled n) t
  let t := t.settle.logAll.flushLog 3 none
  t.aonMap (fun a => { a with retention := if asleep then a.retention else some t.regs })

/-- HW_SHUTDOWN (21 R754): the comparator of channel `sensor` confirms a trip. -/
def execHwShutdown (sensor : Nat) (s : State) : Host.Outcome State Fault Refusal :=
  tailNext s (fun t =>
    if t.pd 1 && t.us != .off && t.us != .thermalShutdown && t.hwSensor sensor then t.hwShutdown sensor else t)

/-- THERMAL_DOMAINS_OFF (21 R754 action 4, R755, 23 R817): 3.0 ms after the trip PD2 to PD7 are off; a flash write is cut off. -/
def execThermalDomainsOff (s : State) : Host.Outcome State Fault Refusal :=
  match s.fs.us, s.fs.aon.shutAt with
  | .thermalShutdown, some z =>
    if s.fs.aon.ps = .thermal then .next s
    else
      let t := (s.fs.elapseTo (z + 3 * ms1)).cutLoad
      .next { s with h2f := [], fs := (t.asleep .thermalShutdown).aonMap (fun a =>
        { a with
          dom := 0x02, ps := .thermal, accepted := none, switching := none, wakePend := false, held := none, retained := false
          cold := false }) }
  | _, _ => .next s

/-- THERMAL_RESTART (21 R756): every comparator confirms cool and 120 s have passed; TRST with cause THERM. -/
def execThermalRestart (s : State) : Host.Outcome State Fault Refusal :=
  trstNext s (fun t =>
    match t.us, t.aon.ps, t.aon.shutAt with
    | .thermalShutdown, .thermal, some z => (t.elapseTo (z + 120 * s1)).trstBy .therm
    | _, _, _ => t)

end Sys2Proof.Machine
end

