-- ==== Sys2Proof/Machine/House.lean ====
section
/-! DEFINITION. Housekeeping and the 4 to 20 mA outputs (20): channel types and their conversions, the round with its on-demand slots,
and loop compliance. -/

namespace Sys2Proof.Machine

/-! ## Channels (20 R703, R704) -/

/-- The types of the housekeeping channels (20 R704). -/
inductive HkType where
  | int | rail | enci | ntc | pt | mai | rb | head
  deriving DecidableEq, Repr

/-- The type of channel `c` below the spares (20 R703). -/
def hkType (c : Nat) : HkType :=
  if c < 6 then .int else if c < 18 then .rail else if c < 22 then .enci else if c < 34 then .ntc else if c < 46 then .pt
  else if c < 50 then .mai else if c < 54 then .rb else .head

/-- The range of a type in the unit of VALUE (20 R704). -/
def hkRange : HkType → Int × Int
  | .int | .ntc => (-400, 1500)
  | .rail => (0, 4000)
  | .enci => (0, 500)
  | .pt => (-500, 2500)
  | .mai | .rb => (0, 25000)
  | .head => (0, 3000)

/-- The nominal of rail channel `c` in 10 mV; 0 where it has no window (20 R703). -/
def railNominal (c : Nat) : Int := match c with
  | 10 => 1500 | 11 => 1200 | 12 => 500 | 13 => 500 | 14 => 330 | 15 => 180 | 16 => 100 | 17 => 300 | _ => 0

/-- A result of channel `c` outside its rail window (20 R706). -/
def railOut (c : Nat) (v : Int) : Bool := railNominal c != 0 && decide (railNominal c < 10 * (v - railNominal c).natAbs)

/-- The HKCH register of channel `c`, for channels from 22 on (20 R728). -/
def hkchAddr (c : Nat) : Nat := 0x3120 + 4 * (c - 22)

/-- The entry of channel `c` in effect at a slot's start (20 R726); channels below 22 have none and are always enabled. -/
def Tail.hkEntry (t : Tail) (c : Nat) : Word := if c < 22 then 1 else smGet t.word t.held (hkchAddr c)

/-- The source of spare channel `c` (20 R705), or the channel itself. -/
def hkSource (c : Nat) (entry : Word) : Nat := if 58 ≤ c then fdGet (HKCH_SP.SRC 0) entry else c

/-! ## Conversions (20 R704) -/

/-- The fraction bits of log2 of `x` / 2 ^ 40 in [1, 2), `n` of them, by repeated squaring. -/
def logBits : Nat → Nat → Nat
  | 0, _ => 0
  | n + 1, x =>
    let y := x * x / 2 ^ 40
    if 2 ^ 41 ≤ y then 2 ^ n + logBits n (y / 2) else logBits n y

/-- ln (a / b) in units of 2 ^ -40, for positive `a` and `b`. -/
def lnRatio (a b : Nat) : Int :=
  let x := a * 2 ^ 80 / b
  let k := Nat.log2 x
  let l : Int := ((k : Int) - 80) * 2 ^ 40 + (logBits 40 (x * 2 ^ 40 / 2 ^ k) : Nat)
  l * 762123384786 / 2 ^ 40

/-- NTC temperature in 0.1 degrees (20 R704) at `r` milliohms: 1/T = 1/298.15 K + ln(R/R25)/B. -/
def ntcValue (r r25 b : Nat) : Int :=
  let den : Int := 100 * (b : Int) * 2 ^ 40 + 29815 * lnRatio r r25
  roundDiv (29815 * 100 * (b : Int) * 2 ^ 40 - 27315 * den) (10 * den).toNat

/-- The IEC 60751 ratio R/R0 at `h` twentieths of a degree, in units of 1.6e-20: 1 + A t + B t^2, and C (t - 100) t^3 below 0. -/
def ptRatio (h : Int) : Int :=
  160000 * 10 ^ 15 + 39083 * 8000 * 10 ^ 8 * h - 5775 * 400 * 10 ^ 5 * h * h
    - (if h < 0 then 4183 * (h - 2000) * h * h * h else 0)

/-- The largest temperature in 0.1 degrees, of the `2 ^ n` from `lo` on, whose lower rounding bound does not exceed `r` / `r0`. -/
def ptSearch (r r0 : Nat) : Nat → Int → Int
  | 0, lo => lo
  | n + 1, lo =>
    let mid := lo + 2 ^ n
    if ptRatio (2 * mid - 1) * r0 ≤ (r : Int) * (160000 * 10 ^ 15) then ptSearch r r0 n mid else ptSearch r r0 n lo

/-- Platinum sensor temperature in 0.1 degrees at `r` milliohms (20 R704). -/
def ptValue (r r0 : Nat) : Int := ptSearch r r0 14 (-2000)

/-- A conversion's result (20 R704, R709): VALUE, VALID, and the flags OPEN, SHORT, NE43_LO and NE43_HI. -/
structure HkRes where
  value : Int
  valid : Bool
  flags : Nat
  deriving DecidableEq, Repr

/-- VALUE `v` of channel `c` at quantity `raw`, free outside the range of its type. -/
def hkRanged (c : Nat) (raw v : Int) : Int :=
  let r := hkRange (hkType c)
  if r.1 ≤ v && v ≤ r.2 then v else (Config.hkOutOfRange c raw).toInt

/-- The conversion of channel `c` with entry `entry` (20 R704, R728). The quantity `raw` is the temperature in 0.1 degrees (INT), the
voltage in 10 mV (RAIL, HEAD), the current in mA (ENCI) or uA (MAI, RB), or the sensor's resistance in milliohms (NTC, PT). -/
def hkConvert (c : Nat) (entry : Word) (raw : Int) : HkRes :=
  let sel := fdGet (HKCH_NTC.SEL 0) entry = 1
  match hkType c with
  | .ntc =>
    let b := clampN 2000 6000 (fdGet (HKCH_NTC.B 0) entry)
    if raw ≤ 0 then ⟨(Config.hkOutOfRange c raw).toInt, false, 8⟩
    else
      let v := hkRanged c raw (ntcValue raw.toNat (if sel then 5000000 else 10000000) b)
      if 2000000000 < raw then ⟨v, false, 4⟩ else if raw < 20000 then ⟨v, false, 8⟩ else ⟨v, true, 0⟩
  | .pt =>
    let r0 : Nat := if sel then 1000000 else 100000
    let v := hkRanged c raw (ptValue raw.toNat r0)
    if 10 * raw < 7 * (r0 : Int) then ⟨v, false, 8⟩ else if 22 * (r0 : Int) < 10 * raw then ⟨v, false, 4⟩ else ⟨v, true, 0⟩
  | .mai =>
    let v := hkRanged c raw raw
    if raw < 3600 then ⟨v, false, 16⟩ else if 21000 < raw then ⟨v, false, 32⟩ else ⟨v, true, 0⟩
  | _ => ⟨hkRanged c raw raw, true, 0⟩

/-! ## The 4 to 20 mA outputs (20 section 6) -/

/-- The target of output `m` in uA, and whether the clamp changes SET (20 R720). -/
def Tail.aoutTarget (t : Tail) (m : Nat) : Nat × Bool :=
  let mode := t.cf (AOUT_CFG.FAILMODE m)
  let set := t.cf (AOUT_SET.UA m)
  if t.b (AOUT_STAT.FAILED m) && mode = 1 then (3500, false)
  else if t.b (AOUT_STAT.FAILED m) && mode = 2 then (21500, false)
  else
    let y := if t.cfb (AOUT_CFG.CLAMP m) then clampN 3800 20500 set else min 24000 set
    (y, y != set)

/-- Output `m` is driven (20 R720, R721). -/
def Tail.aoutOn (t : Tail) (m : Nat) : Bool := t.cfb (AOUT_CFG.EN m) && t.enabled 0x32 && t.pd 7 && t.us != .thermalShutdown && t.us != .boot

/-- The evaluation of output `m` at a slot of its headroom channel (20 R723, R724); an output that is off meets no condition. -/
def Tail.aoutEval (t : Tail) (m : Fin 4) : Tail :=
  let rb := t.g (AOUT_MEAS.RB m.val)
  let hd := t.g (AOUT_MEAS.HEAD m.val)
  let target := (t.aoutTarget m.val).1
  let compl := t.aoutOn m.val && decide (hd < t.cf (AOUT_CFG.HEADMIN m.val)) && decide (rb + 100 < target)
  let opn := t.aoutOn m.val && decide (rb < 200) && decide (1000 ≤ target)
  let clear (t : Tail) (k : Nat) : Tail := { t with hk := { t.hk with clear := t.hk.clear.set m k } }
  if compl || opn then
    let t := (clear t 0).p (AOUT_STAT.COMPL m.val) 1
    let t := t.evt 0x32 m.val
    let t := if opn then (t.p (AOUT_STAT.OPEN m.val) 1).evt 0x32 (4 + m.val) else t
    let mode := t.cf (AOUT_CFG.FAILMODE m.val)
    if mode = 1 || mode = 2 then (t.p (AOUT_STAT.FAILED m.val) 1).evt 0x32 (8 + m.val) else t
  else
    let k := min 2 (t.hk.clear[m] + 1)
    let t := clear t k
    if k = 2 then (t.p (AOUT_STAT.COMPL m.val) 0).p (AOUT_STAT.OPEN m.val) 0 else t

/-- AOUT_CMD.RESUME (20 R724): FAILED of the outputs in `mask` is cleared. -/
def Tail.resume (t : Tail) (mask : Nat) : Tail :=
  (List.range 4).foldl (fun t m => if mask.testBit m then t.p (AOUT_STAT.FAILED m) 0 else t) t

/-- RESUME (20 R724). -/
def execResume (k : Fin 4) (s : State) : Host.Outcome State Fault Refusal :=
  tailNext s (fun t => if t.pd 3 then t.resume (2 ^ k.val) else t)

/-! ## The round (20 section 3) -/

/-- VALUE of channel `c` stored (20 R709): HK_VAL, HK_INV, and the readings of an output. -/
def Tail.hkStore (t : Tail) (c : Nat) (r : HkRes) : Tail :=
  let put (t : Tail) (f : Fd) : Tail := (t.dsNote f.addr).pi f r.value
  let t := put t (if c % 2 = 1 then HK_VAL.VAL_ODD (c / 2) else HK_VAL.VAL_EVEN (c / 2))
  let f := if c < 32 then HK_INV_LO.INV else HK_INV_HI.INV
  let t := t.p f (setBit (t.g f) (c % 32) (!r.valid))
  if 50 ≤ c && c < 54 then put t (AOUT_MEAS.RB (c - 50))
  else if 54 ≤ c && c < 58 then put t (AOUT_MEAS.HEAD (c - 54))
  else t

/-- A round result of the slot's channel, with source `src` (20 R705, R709, R710). -/
def Tail.hkRound (t : Tail) (src : Nat) (r : HkRes) : Tail :=
  let ch := t.hk.ch
  let bad := !t.hkInv src && !r.valid
  let t := (if ch = src then t else t.hkStore ch r).hkStore src r
  let t := if bad then (t.inc HK_CNT.INVALID).evt 0x30 0 else t
  if 54 ≤ ch && ch < 58 then t.aoutEval (Fin.ofNat 4 (ch - 54)) else t

/-- A result outside its rail window, and WARN while any rail is outside (20 R706). -/
def Tail.hkRail (t : Tail) (src : Nat) (out : Bool) : Tail :=
  if railNominal src = 0 then t
  else
    let any := out || (List.range 8).any (fun i => !t.hkInv (10 + i) && railOut (10 + i) (t.hkVal (10 + i)))
    let t := t.pb (PG_STAT.WARN 0x30) any
    if out then t.evt 0x30 3 else t

/-- The 8 data bytes of an HK record (20 R709). -/
def hkData (src flags slot : Nat) (value : Int) (raw : BitVec 16) : List Byte :=
  [BitVec.ofNat 8 src, BitVec.ofNat 8 flags] ++ leBytes 2 (enc 16 value) ++ leBytes 2 raw.toNat ++ [BitVec.ofNat 8 slot, 0]

/-- RAW: the mean of the 16 conversions, rounded half away from zero (20 R708). -/
def hkMean (conv : List (BitVec 16)) : BitVec 16 := BitVec.ofNat 16 (((conv.map BitVec.toNat).sum + 8) / 16)

/-- The result of the slot that ends, under its commit (20 R709, R716, 21 R731). -/
def Tail.hkResult (t : Tail) (raw : Int) (conv : List (BitVec 16)) : Tail :=
  let h := t.hk
  let src := hkSource h.ch h.entry
  let r := hkConvert src h.srcEntry raw
  let out := railOut src r.value
  let flags := b2n r.valid + 2 * b2n h.od + r.flags + 64 * b2n out + 128 * b2n (h.ch != src)
  t.commitOn (if h.od then 145 else 144) (fun t =>
    let t := if h.od then
        (((t.pi HK_ODRES.VALUE r.value).p HK_ODRES.CH src).p HK_ODRES.FLAGS flags).evt 0x30 1
      else t.hkRound src r
    let t := t.hkRail src out
    let t := if src < 6 || (22 ≤ src && src < 46) then t.thmEval else t
    t.record .sqc (if h.od then 145 else 144) 7 r.valid (hkData src flags h.slot r.value (hkMean conv)))

/-- The slot of channel `c` begins (20 R708, R726). -/
def Tail.hkStart (t : Tail) (c : Nat) (od : Bool) (slot : Nat) : Tail :=
  let e := t.hkEntry c
  { t with hk := { t.hk with slot := slot, ch := c, od := od, entry := e, srcEntry := t.hkEntry (hkSource c e) } }

/-- A round ends: its number and duration (20 R727), and the thermal groups are known (10 R372 T8). -/
def Tail.hkRoundEnd (t : Tail) : Tail :=
  let us := min 0xFFFF ((t.now - t.hk.since) / us1)
  let t := ((t.incW HK_STAT.ROUNDS).p HK_RTIME.LAST us).p HK_RTIME.MAX (max us (t.g HK_RTIME.MAX))
  { t with
    hk := { t.hk with since := t.now, ins := 0, known := true }
    boot := { t.boot with t8 := true, last := if t.us = .boot then t.now else t.boot.last } }

/-- The slot of the round's next channel; at channel 0 a round has ended. -/
def Tail.hkRoundSlot (t : Tail) : Tail :=
  let c := t.hk.next
  let t := if c = 0 then t.hkRoundEnd else t
  ({ t with hk := { t.hk with next := (c + 1) % 64 } }).hkStart c false (if c = 0 then 0 else t.hk.slot + 1)

/-- The slot after the one that has ended (20 R707, R714, R715): the oldest request, while fewer than four were inserted, else the next
channel of the round; requests that would be a fifth are counted. -/
def Tail.hkAdvance (t : Tail) : Tail :=
  let h := t.hk
  match h.queue with
  | c :: q =>
    if h.ins < 4 then
      ({ t with hk := { h with queue := q, ins := h.ins + 1, deferred := h.deferred - 1 } }).hkStart c true (h.slot + 1)
    else
      let t := { t.incBy HK_CNT.OD_DEFER (h.queue.length - h.deferred) with hk := { h with deferred := h.queue.length } }
      t.hkRoundSlot
  | [] => t.hkRoundSlot

/-- HK_SLOT_END (20 R707, R708, R709, R712): the slot in progress ends with the quantity `raw` has and its 16 conversions; a disabled
channel stores nothing. -/
def execHkSlotEnd (raw : HkInput) (s : State) : Host.Outcome State Fault Refusal :=
  tailNext s (fun t =>
    if !(t.pd 7 && t.runs 5 && t.on 3 && t.us != .thermalShutdown && (t.us != .boot || t.boot.t7)) then t
    else
      let h := t.hk
      let t := t.elapseTo (h.since + (h.slot + 1) * 125000)
      let t := (t.p HK_STAT.CH h.ch).pb HK_STAT.OD_SLOT h.od
      let t := if h.od || h.entry.getLsbD 0 then t.hkResult raw.quantity raw.codes else t
      (t.hkAdvance).finish)

/-! ## On-demand conversions (20 R713, R717) -/

/-- The refusals of a request for channel `c` (20 R713). -/
def Tail.odCheck (t : Tail) (req : Bool) (c : Nat) : List (Bool × Nat) :=
  [ (req && 22 ≤ c && !t.b ⟨hkchAddr c, 0, 0, .rw, 0, .trstPg⟩, badAddr),
    (req && 8 ≤ t.hk.queue.length, busySt) ]

/-- A request that found the queue full (20 R713). -/
def Tail.odRefused (t : Tail) (req : Bool) : Tail := if req && 8 ≤ t.hk.queue.length then t.evt 0x30 2 else t

/-- An accepted request waits (20 R713). -/
def Tail.odApply (t : Tail) (req : Bool) (c : Nat) : Tail :=
  if req then { t with hk := { t.hk with queue := t.hk.queue ++ [c] } } else t

/-- HK_OD (20 R713): the host writes `word` to HK_OD. -/
def execHkOd (word : Word) (s : State) : Host.Outcome State Fault Refusal :=
  tailNext s (fun t =>
    let req := fdGet HK_OD.REQ word = 1
    let c := fdGet HK_OD.CH word
    if !t.pd 3 then t
    else match refusal (t.odCheck req c) with
      | some st => if st = busySt then (t.odRefused req).finish else t
      | none => t.odApply req c)

/-- PGRST of the HK page (20 R717): requests are discarded and the round restarts. -/
def Tail.hkReset (t : Tail) : Tail :=
  ({ t with hk := { Hk.init with since := t.now, known := t.hk.known } }).hkStart 0 false 0

end Sys2Proof.Machine
end

