-- ==== Sys2Proof/Machine/Security.lean ====
section
/-! DEFINITION. Sessions, the device key, audit, and firmware (23). -/

namespace Sys2Proof.Machine

/-! ## What the SEC page shows (23 R818) -/

/-- SEC_STAT as it stands. -/
def Tail.secStat (t : Tail) : Word :=
  BitVec.ofNat 32 (t.otp.keyState + 16 * b2n (t.sess != 0) + 32 * t.sess + 256 * b2n t.sec.pend.isSome
    + 512 * b2n t.aon.lockT.isSome + 1024 * b2n t.otp.cosign + 4096 * t.g SEC_STAT.FAILS)

/-- SEC_SID: the open or the pending SID. -/
def Tail.secSid (t : Tail) : Word := if t.sess != 0 then t.sec.sid else (t.sec.pend.map (·.sid)).getD 0

/-- SEC_CFG within its limits: IDLE in s, LIFE in min. -/
def Tail.secIdle (t : Tail) : Nat := clampN 10 3600 (t.g SEC_CFG.IDLE)
def Tail.secLife (t : Tail) : Nat := clampN 1 1440 (t.g SEC_CFG.LIFE)

/-- The ends of an open session: idle time, lifetime (23 R801). -/
def Tail.idleEnd (t : Tail) : Nat := t.sec.actAt + t.secIdle * s1
def Tail.lifeEnd (t : Tail) : Nat := t.sec.openedAt + t.secLife * 60 * s1

/-- SEC_LEFT: minutes of lifetime and seconds of idle time left, the last one begun counted. -/
def Tail.secLeft (t : Tail) : Word :=
  if t.sess = 0 then 0
  else BitVec.ofNat 32 (min 0xFFFF ((t.lifeEnd - t.now + 60 * s1 - 1) / (60 * s1)) * 2 ^ 16
    + min 0xFFFF ((t.idleEnd - t.now + s1 - 1) / s1))

/-- An AUDIT record of a session or a key, with SEC_STAT as it now stands (23 R804). -/
def Tail.auditSec (t : Tail) (event level : Nat) (fr : FrameRef) (sid : Word) (addr : Nat) : Tail :=
  t.audit event level fr sid addr t.secStat

/-! ## Sessions (23 R796 to R801) -/

/-- The key of session level `l` (23 R794). -/
def Tail.levelKey (t : Tail) (l : Nat) : List Byte :=
  if l = 3 then Config.vendorKey
  else if l = 2 then t.otp.key
  else hmac256 t.otp.key [0x54, 0x57, 0x34, 0x2D, 0x4C, 0x31]

/-- The MAC of a challenge (23 R797). -/
def Tail.sessMac (t : Tail) (c : Chal) : List Byte :=
  hmac256 (t.levelKey c.level)
    ([0x54, 0x57, 0x34, 0x53, BitVec.ofNat 8 c.level] ++ leBytes 4 c.sid.toNat ++ c.nonce ++ leBytes 8 t.u.serno.toNat)

/-- The refusals of a SESSION_OPEN for level `l` (23 R798, R800). -/
def Tail.openCheck (t : Tail) (l : Nat) : List (Bool × Nat) :=
  [ (l = 0 || 3 < l, badAddr),
    (l != 3 && t.otp.keyState != 1, lockedSt),
    (t.sess != 0 || t.aon.lockT.isSome, busySt) ]

/-- A random non-zero SID (23 R798). -/
def drawSid (k : Nat) : Word := if Config.sessionId k = 0 then 1 else Config.sessionId k

/-- An executed SESSION_OPEN (23 R798): its response data, under its commit. -/
def Tail.sessOpen (t : Tail) (l : Nat) : List Byte × Tail :=
  let c : Chal := ⟨l, drawSid t.fresh, leBytes 16 (Config.nonce t.fresh).toNat, t.now + 10 * s1⟩
  (leBytes 4 c.sid.toNat ++ c.nonce, { t.draw with sec := { t.sec with pend := some c } })

/-- The data of a good SESSION_AUTH (23 R796). -/
def Tail.authData (t : Tail) : List Byte := [BitVec.ofNat 8 t.sess, 0] ++ leBytes 2 t.secIdle

/-- The pending challenge answered rightly (23 R799). -/
def Tail.authGood (t : Tail) (sid : Word) (mac : List Byte) : Option Chal :=
  match t.sec.pend with
  | some c => if t.sess = 0 && c.sid = sid && t.sessMac c = mac then some c else none
  | none => none

/-- A SESSION_AUTH (23 R799, R800): its status, its response data and its effect, under its commit. -/
def Tail.sessAuth (t : Tail) (fr : FrameRef) (sid : Word) (mac : List Byte) : Nat × List Byte × Tail :=
  if t.sess != 0 && t.sec.sid = sid && t.sec.mac = mac then (okSt, t.authData, t)
  else match t.authGood sid mac with
    | some c =>
      let t := { t with sess := c.level, sec := { t.sec with pend := none, sid := sid, mac := mac, openedAt := t.now, actAt := t.now } }
      let t := ((t.p SEC_STAT.FAILS 0).inc SEC_CNT.OPENS).evt 0x0A 0
      (okSt, t.authData, t.auditSec 2 c.level fr sid 0)
    | none =>
      let t := { t with sec := { t.sec with pend := none } }
      let t := ((t.inc SEC_STAT.FAILS).inc SEC_CNT.FAILS_TOT).evt 0x0A 2
      let t := if 5 ≤ t.g SEC_STAT.FAILS then { t with aon := { t.aon with lockT := t.after (60 * s1) } }.evt 0x0A 3 else t
      (lockedSt, [], t.auditSec 3 0 fr sid 0)

/-- The open session closes for `reason` (23 R801, R804): 1 command, 2 idle, 3 lifetime, 4 host lost. -/
def Tail.sessEnd (t : Tail) (fr : FrameRef) (reason : Nat) : Tail :=
  if t.sess = 0 then t
  else
    let l := t.sess
    let sid := t.sec.sid
    let t := { t with sess := 0, sec := { t.sec with sid := 0, mac := [] } }
    (t.evt 0x0A 1).auditSec 4 l fr sid reason

/-- A SESSION_CLOSE (23 R801). -/
def Tail.sessClose (t : Tail) (fr : FrameRef) (sid : Word) : Nat × Tail :=
  if t.sess = 0 then (okSt, t) else if t.sec.sid = sid then (okSt, t.sessEnd fr 1) else (badAddr, t)

/-- CHALLENGE_EXPIRY (23 R798): the pending challenge has waited 10.0 s. -/
def execChallengeExpiry (s : State) : Host.Outcome State Fault Refusal :=
  tailNext s (fun t =>
    match t.sec.pend with
    | some c => let t := t.elapseTo c.expT; { t with sec := { t.sec with pend := none } }
    | none => t)

/-- LOCKOUT_END (23 R800): 60 s after the failure that started it. -/
def execLockoutEnd (s : State) : Host.Outcome State Fault Refusal :=
  tailNext s (fun t =>
    match t.aon.lockT with
    | some d => (t.elapseTo d).aonMap (fun a => { a with lockT := none })
    | none => t)

/-- SESSION_TIMEOUT (23 R801): the idle time or the lifetime of the open session runs out, whichever comes first. -/
def execSessionTimeout (s : State) : Host.Outcome State Fault Refusal :=
  tailNext s (fun t =>
    if t.sess = 0 || !t.on 3 then t
    else
      let reason := if t.lifeEnd < t.idleEnd then 3 else 2
      ((t.elapseTo (min t.idleEnd t.lifeEnd)).commitOn 161 (fun t => t.sessEnd noFrame reason)).finish)

/-! ## The device key (23 R791 to R795) -/

/-- The held key words once the frame has written its own (23 R793, R863). -/
def Tail.keyWords (t : Tail) (w : Wr) : Vector Word 8 :=
  Vector.ofFn (fun k => match w.find (SEC_KEYW.KEY k.val).addr with
    | some x => if w.mb then t.sec.keyw[k] else x
    | none => if w.srst then 0 else t.sec.keyw[k])

/-- The check held when SEC_CMD commits: SEC_KCHK lies above it (05 R162). -/
def Tail.keyCheck (t : Tail) (w : Wr) : Word := if w.srst then 0 else t.sec.kchk

/-- The 32 key bytes of key words (23 R793). -/
def keyBytes (k : Vector Word 8) : List Byte := wordsToBytes k.toList

/-- The refusals of a frame on SEC (23 R791, R793, R795). -/
def Tail.secCheck (t : Tail) (w : Wr) : List (Bool × Nat) :=
  let prog := w.cmd SEC_CMD.PROG = 1
  let progcs := w.cmd SEC_CMD.PROGCS = 1
  let keys := !w.mb && ((List.range 8).any (fun k => w.has (SEC_KEYW.KEY k)) || w.has SEC_KCHK.KCHK)
  [ (prog && progcs, badAddr),
    (progcs && t.otp.cosign, badAddr),
    (prog && (t.otp.keyState != 0 || crc32c (keyBytes (t.keyWords w)) != t.keyCheck w), badAddr),
    ((prog || progcs || keys) && !(t.otp.keyState = 0 && !progcs) && t.locked 0x0A, lockedSt) ]

/-- The held words are zeroed (23 R793). -/
def Tail.keyZero (t : Tail) : Tail := { t with sec := { t.sec with keyw := Vector.replicate 8 0, kchk := 0 } }

/-- PROG executed (23 R793). -/
def Tail.progKey (t : Tail) (fr : FrameRef) : Tail :=
  let ok := Config.otpMatches t.fresh
  let t := { t.draw with otp := { t.otp with keyState := if ok then 1 else 2, key := keyBytes t.sec.keyw } }
  (t.keyZero.evt 0x0A 4).auditSec 5 0 fr t.sec.sid 0

/-- PROGCS executed (23 R795). -/
def Tail.progCs (t : Tail) (fr : FrameRef) : Tail :=
  let t := { t with otp := { t.otp with cosign := true, csHash := keyBytes t.sec.keyw } }
  (t.keyZero.evt 0x0A 4).auditSec 5 t.sess fr t.sec.sid 0

/-- The commands and held words of an accepted frame on SEC, under its commit (23 R793, R795, 05 R162). -/
def Tail.secApply (t : Tail) (w : Wr) (fr : FrameRef) : Tail :=
  let t := { t with sec := { t.sec with keyw := t.keyWords w, kchk := t.keyCheck w } }
  let t := if w.cmd SEC_CMD.PROG = 1 then t.progKey fr else t
  let t := if w.cmd SEC_CMD.PROGCS = 1 then t.progCs fr else t
  if w.mb then t else match w.find SEC_KCHK.KCHK.addr with
    | some x => { t with sec := { t.sec with kchk := x } }
    | none => t

/-- A write of SEC_CMD as a step of its own. -/
def Tail.secRow (t : Tail) (x : Word) : Tail :=
  let w := Wr.one SEC_CMD.PROG.addr x
  if !t.on 3 || (refusal (t.secCheck w)).isSome then t else (t.commit (fun t => t.secApply w noFrame)).finish

/-- PROG (23 R793). -/
def execProg (s : State) : Host.Outcome State Fault Refusal := tailNext s (fun t => t.secRow 1)

/-- PROGCS (23 R795). -/
def execProgcs (s : State) : Host.Outcome State Fault Refusal := tailNext s (fun t => t.secRow 2)

/-! ## Firmware (23 R805 to R817) -/

/-- The code of a load state, and of a slot state (23 R818). -/
def LoadSt.code : LoadSt → Nat
  | .idle => 0 | .erasing => 1 | .loading => 2 | .verifying => 3 | .verified => 4 | .failed => 5

def SlotSt.code : SlotSt → Nat
  | .empty => 0 | .invalid => 1 | .verified => 2 | .trial => 3 | .confirmed => 4

/-- FW_STAT as it stands (23 R818). -/
def Tail.fwStat (t : Tail) : Word :=
  BitVec.ofNat 32 (t.fw.booted.val + 2 * t.fw.next.val + 16 * t.fw.load.code + 256 * t.fw.cause + 4096 * b2n t.fw.fallback
    + 8192 * b2n t.fw.recovery + 65536 * t.fw.bootFail[t.fw.booted])

/-- FW_SLOT of slot `i` (23 R818). -/
def Tail.fwSlot (t : Tail) (i : Fin 2) : Word :=
  let s := t.fw.slots[i]
  BitVec.ofNat 32 (s.st.code + 256 * (s.arc % 64) + 65536 * (s.version.toNat % 65536))

/-- `t` with its firmware part changed. -/
def Tail.fwMap (t : Tail) (f : Fw → Fw) : Tail := { t with fw := f t.fw }

/-- The most bytes an image takes (23 R805). -/
def imageMax : Nat := 2097152

/-- The refusals of a frame on FW (23 R791, R809, R811, R815). -/
def Tail.fwCheck (t : Tail) (w : Wr) : List (Bool × Nat) :=
  let c (f : Fd) : Bool := w.cmd f = 1
  let trial := t.fw.slots[t.fw.booted].st = .trial
  [ ((c FW_CMD.BEGIN || c FW_CMD.COMMIT || c FW_CMD.CONFIRM || c FW_CMD.CANCEL) && t.locked 0x0B, lockedSt),
    (c FW_CMD.BEGIN && !((t.fw.load = .idle || t.fw.load = .verified || t.fw.load = .failed) && !trial), busySt),
    (c FW_CMD.COMMIT && t.fw.load != .loading, busySt),
    (c FW_CMD.CONFIRM && !(trial && t.us = .readySafe), busySt) ]

/-- BEGIN (23 R809, R816): the slot not booted is erased, slot 0 in recovery. -/
def Tail.fwBegin (t : Tail) (fr : FrameRef) : Tail :=
  let i : Fin 2 := if t.fw.recovery then 0 else otherSlot t.fw.booted
  let t := (t.slotMap i (fun _ => Slot.empty)).streamClear 168
  (t.fwMap (fun f => { f with load := .erasing, ofs := 0, commitWait := false, poisoned := false, target := i })).auditFw 1 i fr

/-- The oldest image record that stream 168 holds (23 R810). -/
def Tail.imageRec (t : Tail) : Option RecIx := (t.sst 168).recs.find? (fun r => 2 ≤ r.kind)

/-- COMMIT (23 R811): VERIFYING once stream 168 has been consumed. -/
def Tail.fwCommit (t : Tail) : Tail :=
  if t.imageRec.isNone && (t.sst 168).held.isEmpty then t.fwMap (fun f => { f with load := .verifying, commitWait := false })
  else t.fwMap (fun f => { f with commitWait := true })

/-- CONFIRM (23 R815). -/
def Tail.fwConfirm (t : Tail) (fr : FrameRef) : Tail :=
  let b := t.fw.booted
  let arc := max t.otp.arc t.fw.slots[b].arc
  let t := t.slotMap b (fun s => { s with st := .confirmed })
  let t := { t with otp := { t.otp with arc := arc } }
  let t := t.slotMap (otherSlot b) (fun s => if s.st != .empty && s.arc < arc then { s with st := .invalid } else s)
  (t.evt 0x0B 4).auditFw 4 b fr

/-- CANCEL (23 R812). -/
def Tail.fwCancel (t : Tail) (fr : FrameRef) : Tail :=
  let i := t.fw.target
  let t := if t.fw.load = .idle then t
    else t.slotMap i (fun s => if s.st = .empty || s.st = .verified then { s with st := .invalid } else s)
  (t.fwMap (fun f => { f with load := .idle, commitWait := false, next := f.booted })).auditFw 3 i fr

/-- The commands of an accepted frame on FW, under its commit. -/
def Tail.fwApply (t : Tail) (w : Wr) (fr : FrameRef) : Tail :=
  let t := if w.cmd FW_CMD.BEGIN = 1 then t.fwBegin fr else t
  let t := if w.cmd FW_CMD.COMMIT = 1 then t.fwCommit else t
  let t := if w.cmd FW_CMD.CONFIRM = 1 then t.fwConfirm fr else t
  if w.cmd FW_CMD.CANCEL = 1 then t.fwCancel fr else t

/-- A write of FW_CMD as a step of its own. -/
def Tail.fwRow (t : Tail) (x : Word) : Tail :=
  let w := Wr.one FW_CMD.BEGIN.addr x
  if !t.on 3 || (refusal (t.fwCheck w)).isSome then t else (t.commit (fun t => t.fwApply w noFrame)).finish

/-- BEGIN (23 R809). -/
def execBegin (s : State) : Host.Outcome State Fault Refusal := tailNext s (fun t => t.fwRow 1)

/-- COMMIT (23 R811). -/
def execCommit (s : State) : Host.Outcome State Fault Refusal := tailNext s (fun t => t.fwRow 2)

/-- CONFIRM (23 R815). -/
def execConfirm (s : State) : Host.Outcome State Fault Refusal := tailNext s (fun t => t.fwRow 4)

/-- CANCEL (23 R812). -/
def execCancel (s : State) : Host.Outcome State Fault Refusal := tailNext s (fun t => t.fwRow 8)

/-- ERASE_DONE (23 R809): the slot is erased; records are taken. -/
def execEraseDone (s : State) : Host.Outcome State Fault Refusal :=
  tailNext s (fun t => if t.fw.load = .erasing && t.on 3 then t.fwMap (fun f => { f with load := .loading }) else t)

/-- The load fails with cause `c` (23 R807, R810, R811). -/
def Tail.loadFail (t : Tail) (c : Nat) : Tail :=
  let t := t.slotMap t.fw.target (fun s => { s with st := .invalid })
  (t.fwMap (fun f => { f with load := .failed, cause := c, commitWait := false })).evt 0x0B 1

/-- The data of an image record programmed (23 R810). -/
def Tail.program (t : Tail) (d : List Byte) (poisoned : Bool) : Tail :=
  let ofs := leNat (d.take 4)
  let x := d.drop 4
  if ofs < t.fw.ofs then t
  else if t.fw.ofs < ofs then t.loadFail 8
  else if imageMax < ofs + x.length then t.loadFail 1
  else
    (t.slotMap t.fw.target (fun s => { s with img := s.img ++ x })).fwMap (fun f =>
      { f with ofs := f.ofs + x.length, poisoned := f.poisoned || poisoned })

/-- The oldest record of stream 168 leaves the ring (23 R810): the data it held, with a poisoned word as zero. -/
def Tail.takeImage (t : Tail) (r : RecIx) : List Byte × Bool × Tail :=
  let (x, t) := t.readRec 168 r
  let recs := ((t.sst 168).recs.dropWhile (fun e => e.pos != r.pos)).drop 1
  let t := t.sstMap 168 (fun s => { s with recs := recs, rd := (recs.head?.map (·.pos)).getD s.wr })
  match x with
  | some (_, ws, bad) => ((wordBytes (ws.drop 1)).take r.len, bad, t.wmUpdate 168)
  | none => ([], true, t.wmUpdate 168)

/-- IMAGE_RECORD_CONSUMED (23 R810, R811): the SQC takes the oldest record of stream 168; a COMMIT that waited goes on once none is left. -/
def execImageRecordConsumed (s : State) : Host.Outcome State Fault Refusal :=
  tailNext s (fun t =>
    if !(t.fw.load = .loading && t.on 3 && t.pd 4) then t
    else match t.imageRec with
      | none => t
      | some r =>
        let (d, bad, t) := t.takeImage r
        let t := if d = [] then t.fwMap (fun f => { f with poisoned := true }) else t.program d bad
        (if t.fw.commitWait && t.fw.load = .loading then t.fwCommit else t).finish)

/-- The first check of R807 that the image fails, as FW_STAT.CAUSE; 0 where it passes them all. -/
def Tail.verifyImage (t : Tail) (img : List Byte) : Nat :=
  let f (a n : Nat) : List Byte := (img.drop a).take n
  let body := img.drop 256
  let cosigned := t.otp.cosign || ((img.getD 13 0).getLsbD 0)
  if t.fw.poisoned then 7
  else if !(256 ≤ img.length && img.length ≤ imageMax && leNat (f 0 4) = 0x46345754 && leNat (f 4 2) = 1
      && 256 + leNat (f 16 4) = img.length) then 1
  else if t.u.hwMajor.toNat < leNat (f 6 2) then 2
  else if sha256 body != f 20 32 then 3
  else if !Config.vendorSigOk (f 0 52) (f 52 64) then 4
  else if cosigned && !(sha256 (f 116 64) = t.otp.csHash && Config.ecdsaOk (f 116 64) (f 0 116) (f 180 64)) then 5
  else if (img.getD 12 0).toNat < t.otp.arc then 6
  else 0

/-- VERIFY_DONE (23 R807, R811, R816): the image in the slot is verified, or the load fails; in recovery a reset is due. -/
def execVerifyDone (s : State) : Host.Outcome State Fault Refusal :=
  tailNext s (fun t =>
    if !(t.fw.load = .verifying && t.on 3) then t
    else
      let i := t.fw.target
      let img := t.fw.slots[i].img
      let c := t.verifyImage img
      (t.commitOn 161 (fun t =>
        let t := if c != 0 then t.loadFail c
          else
            let t := t.slotMap i (fun s =>
              { s with st := .verified, version := BitVec.ofNat 32 (leNat ((img.drop 8).take 4)), arc := (img.getD 12 0).toNat })
            let t := (t.fwMap (fun f => { f with load := .verified, next := i })).evt 0x0B 0
            if t.fw.recovery then { t with resetDue := some .fwAct } else t
        t.auditFw 2 i noFrame)).finish)

end Sys2Proof.Machine
end

