-- ==== Sys2Proof/Machine/View.lean ====
section
/-! DEFINITION. What a register read shows (05 sections 2 to 4): the stored word, the fields whose value follows from other state,
the snapshot number, and the configuration checksum. -/

namespace Sys2Proof.Machine

/-! ## Codes of the field maps -/

def HoState.code : HoState → Nat
  | .onA => 0 | .commit => 1 | .onB => 2 | .dwell => 3 | .heldB => 4

/-- PWR_STAT.PSTATE (04 R156). -/
def Tail.pstate (t : Tail) : Nat :=
  if t.aon.switching.isSome then 3 else match t.aon.ps with
    | .standby => 2
    | _ => 1

def StopRamp.code : StopRamp → Nat
  | .none => 0 | .normal => 1 | .emergency => 2

/-- PROF_STAT.RSTATE (15 R584). -/
def RenderSt.code : RenderSt → Nat
  | .normal => 0 | .rendering => 1 | .down => 1 | .haulBack => 2

/-! ## Live fields by block -/

/-- Whole `d`-tick intervals since the reset. -/
def Tail.intervals (t : Tail) (d : Nat) : Nat := (t.now - t.boot.start) / d

/-- A bit per station. -/
def Tail.stnBits (t : Tail) (f : Station → Bool) : Nat := (t.stns.map (fun n => 2 ^ n.val * b2n (f (t.stnGet n)))).sum

/-- The INDEX of the newest and of the oldest event record held (06 R227). -/
def Tail.evtSpan (t : Tail) : Word × Word :=
  let c := ((t.sst 160).recs.filter (fun r => 2 ≤ r.kind)).length
  if c = 0 then (BitVec.allOnes 32, BitVec.allOnes 32) else (t.log.index - 1, t.log.index - BitVec.ofNat 32 c)

/-- SEQ_BG.ACTIVE (10 R404, R400). -/
def Tail.bgActive (t : Tail) : Nat :=
  b2n (t.stns.any (fun n => (t.stnGet n).isns.cal = .recal)) + 2 * b2n t.diagOn + 4 * b2n (t.grp.toList.any (·.st = .waitRetry))
    + 8 * b2n (t.fw.load = .erasing || t.fw.load = .loading || t.fw.load = .verifying)
    + 16 * b2n (t.storeUp && t.cfb CSA_CTRL.SCRUB_EN && t.thd.scrubT.isNone)

/-- THD_DWSTAT.START and OPS (21 R760). -/
def Tail.dwStart (t : Tail) : Nat :=
  (t.dwells.map (fun e => match e.2 with
    | .start n => 2 ^ n.val
    | _ => 0)).sum

def Tail.dwOps (t : Tail) : Nat :=
  (t.dwells.map (fun e => match e.2 with
    | .scrub => 1
    | .trace => 2
    | .group g => 4 * 2 ^ g.val
    | .diag => 16
    | .start _ => 0)).sum

/-- THD_GRACE.LEFT of station `n` in 0.1 s (21 R760). -/
def Tail.graceLeft (t : Tail) (n : Stn) : Nat := match t.thd.grace[n] with
  | some e => (e - t.now + 100 * ms1 - 1) / (100 * ms1)
  | none => 0

/-- EMG_STAT.SINCE (22 R789). -/
def Tail.since (t : Tail) : Nat := if t.emg.armed then min 0xFFFF ((t.now - t.emg.lastAt) / ms1) else 0xFFFF

/-- Descriptor fields of stream `k` (06 R230, R204). -/
def Tail.liveStrd (t : Tail) (k : Nat) : List (Fd × Nat) :=
  if strdConfig t.u k then
    let s := t.sst k
    [(STRD_CFG.SYNCREQ k, b2n s.syncReq), (STRD_CFG.WMHIGH k, b2n s.wmHigh), (STRD_LVL.FILL k, t.fill k / 32),
      (STRD_SEQ.SEQ k, s.seq.toNat),
      (if k % 2 = 0 then STRD_LOST.LOST_EVEN (k / 2) else STRD_LOST.LOST_ODD (k / 2), s.lost)]
  else [(STRD_CFG.SYNCREQ k, 0)]

/-- Live fields of the unit pages (02 to 10). -/
def Tail.liveUnit (t : Tail) (p : Nat) : List (Fd × Nat) :=
  match p with
  | 0x00 =>
    [(DEV_VARIANT.GRADE, 1), (DEV_VARIANT.ORBIT, b2n t.u.orbit), (DEV_VARIANT.STN_COUNT, t.stnCount),
      (DEV_SERNO_LO.SERNO, t.u.serno.toNat), (DEV_SERNO_HI.SERNO, t.u.serno.toNat / 2 ^ 32), (DEV_HWVER.MAJOR, t.u.hwMajor.toNat),
      (DEV_HWVER.MINOR, t.u.hwMinor.toNat), (DEV_STATE.STATE, t.us.code)]
  | 0x03 =>
    [(BLNK_STAT.TRAIN_FAIL, b2n t.link.trainFail), (BLNK_STAT.WAKE_LVL, b2n t.link.wakeLvl),
      (BLNK_STAT.HS_PRESENT, b2n t.link.hsPresent), (BLNK_STAT.LINK_RDY, b2n t.link.ready),
      (BLNK_UTIL.H2F_UTIL, laneUtil (t.link.symbolsSince t.now (·.2.1))), (BLNK_UTIL.F2H_UTIL, laneUtil (t.link.symbolsSince t.now (·.2.2)))]
  | 0x04 =>
    [(PWR_STAT.COLD_HOLD, b2n t.aon.coldSeen), (PWR_STAT.PSTATE, t.pstate), (PWR_STAT.RETAINED, b2n t.aon.retained),
      (PWR_STAT.UNSTABLE, b2n t.aon.unstable), (PWR_STAT.B_VALID, b2n t.aon.bValid), (PWR_STAT.A_VALID, b2n t.aon.aValid),
      (PWR_STAT.HO_STATE, t.aon.ho.code), (PWR_STAT.ON_B, b2n (t.aon.ho = .onB || t.aon.ho = .dwell || t.aon.ho = .heldB)),
      (PWR_HOCNT.ABORTS, min 0xFF t.aon.hoAborts), (PWR_HOCNT.WINDOW, min 8 t.hoWindow.length), (PWR_HOCNT.TOTAL, min 0xFFFF t.aon.hoTotal),
      (PWR_DOM.ON, setBit t.aon.dom.toNat 0 t.link.hsPresent), (PWR_LASTDN.FLUSH_OK, b2n t.aon.lastFlushOk),
      (PWR_LASTDN.CAUSE, t.aon.lastCause)]
      ++ (if t.intervals ms1 = 0 then [] else
        [(PWR_VSUP.VB, (Config.supplyVolts (t.intervals ms1)).toNat / 2 ^ 16), (PWR_VSUP.VA, (Config.supplyVolts (t.intervals ms1)).toNat)])
  | 0x05 => [(CLK_STAT.RUN, t.clk.run.toNat), (CLK_STAT.PLLB_LOCK, b2n t.clk.pllB), (CLK_STAT.PLLA_LOCK, b2n t.clk.pllA)]
  | 0x06 =>
    [(CSG_USED.HIGH, (t.ringsNow.map (fun e => (ringUnits e.2).2)).foldl max 0),
      (CSG_USED.UNITS, (t.ringsNow.map (fun e => (ringUnits e.2).2 - (ringUnits e.2).1)).sum)]
  | 0x07 =>
    if t.intervals (10 * ms1) = 0 then [] else
      [(CSA_IDLEMIN.BANK, (Config.idleMin (t.intervals (10 * ms1))).toNat / 256), (CSA_IDLEMIN.IDLE, (Config.idleMin (t.intervals (10 * ms1))).toNat)]
  | 0x08 => [(TIME_FT_LO.FT, t.ftSq.toNat), (TIME_FT_HI.FT, t.ftSq.toNat / 2 ^ 32), (TIME_EPOCH.EPOCH, t.aon.epoch.toNat)]
  | 0x09 => [(EVT_NEWEST.INDEX, t.evtSpan.1.toNat), (EVT_OLDEST.INDEX, t.evtSpan.2.toNat)]
  | 0x0B => [(FW_ARC.OTP, t.otp.arc), (FW_LOAD.NEXT, t.fw.ofs)]
  | _ => []

/-- Live fields of the function pages (10, 18 to 22). -/
def Tail.liveFun (t : Tail) (p : Nat) : List (Fd × Nat) :=
  match p with
  | 0x20 => [(SEQ_STAT.ARM_BLOCK, t.armBlock), (SEQ_STAT.UNIT_STATE, t.us.code), (SEQ_BG.ACTIVE, t.bgActive)]
  | 0x21 => (List.finRange 2).map (fun (g : Fin 2) => (PCHG_GSTAT.STATE g.val, t.grp[g].st.code))
  | 0x22 =>
    [(DIO_IN.IN, t.dio.di.toNat + 256 * t.dio.safe.toNat + 2048 * b2n t.dio.lever),
      (DIO_OSTAT.ON, ((List.range 8).map (fun k => 2 ^ k * b2n (t.doOn k))).sum)]
  | 0x23 =>
    [(STO_STAT.ESTOP_ACT, b2n (t.sto.blockEstop || t.sto.backstop)), (STO_STAT.STO_ACT, b2n t.sto.blockSto), (STO_STAT.ESTOP_N, b2n t.sto.estopN),
      (STO_STAT.STO_B, b2n t.sto.b), (STO_STAT.STO_A, b2n t.sto.a)]
  | 0x24 =>
    [(EMG_STAT.SINCE, t.since), (EMG_STAT.EMERG, t.stnBits (fun s => s.sq.st = .emergency)), (EMG_STAT.LEVER, t.stnBits (fun s => s.sq.lever)),
      (EMG_STAT.C2_HOLD, t.stnBits (fun s => s.sq.c2)), (EMG_STAT.LEVER_SEL, b2n t.dio.lever), (EMG_STAT.HB_ARMED, b2n t.emg.armed),
      (EMG_STAT.ECLIPSE, b2n t.emg.declared)]
  | 0x30 => [(HK_STAT.OD_PEND, min 0xF t.hk.queue.length)]
  | 0x32 => (List.range 4).flatMap (fun m => [(AOUT_STAT.ON m, b2n (t.aoutOn m)), (AOUT_STAT.CLAMPED m, b2n (t.aoutTarget m).2)])
  | 0x34 => [(THM_HWLIM.INT, 0x047E), (THM_HWLIM.NTC, t.otp.ntcLim)]
  | 0x35 => (THD_DWSTAT.START, t.dwStart) :: (THD_DWSTAT.OPS, t.dwOps) :: t.stns.map (fun n => (THD_GRACE.LEFT n.val, t.graceLeft n))
  | 0x36 => [(ORB_LOAD.UTIL, t.orbUtil)]
  | 0x37 => (List.finRange 4).map (fun (g : Fin 4) => (SHR_GSTAT.FRESH g.val, b2n (t.heardPacer g).isSome))
  | _ => []

/-- Live fields of a page of station `n` (10, 15, 17, 18). -/
def Tail.liveStn (t : Tail) (n : Stn) (b : Nat) : List (Fd × Nat) :=
  let s := t.stnGet n
  match b with
  | 0x0 => [(STN_STAT.BLOCK n, t.block n), (STN_STAT.STATE n, s.sq.st.code)]
  | 0xB => [(PROF_STAT.STOPRAMP n, s.setp.stop.code), (PROF_STAT.RSTATE n, s.setp.render.code)]
  | 0xD => [(MOD_STAT.ASC n, b2n (s.modu.gate = .asc)), (MOD_GATES.FB n, s.modu.fb.toNat), (MOD_GATES.CMD n, s.modu.cmd.toNat)]
  | 0xE => [(PROT_ACT.GF_NA n, b2n (!(fdGet (ISNS_CFG.CH_EN n) s.isns.cfg).testBit 2))]
  | 0xF => [(STRC_STAT.FROZEN n, t.strcStat n / 256), (STRC_STAT.WRITING n, t.strcStat n)]
  | _ => []

/-- The fields of page `p` that other state determines, with their values. -/
def Tail.live (t : Tail) (p : Nat) : List (Fd × Nat) :=
  if 0x40 ≤ p && p < 0x80 then t.liveStn (Fin.ofNat 4 ((p - 0x40) / 16)) (p % 16)
  else if 0x10 ≤ p && p < 0x20 then (List.range 16).flatMap (fun i => t.liveStrd (16 * (p - 0x10) + i))
  else t.liveUnit p ++ t.liveFun p

/-- Registers that other state determines whole (23 R818). -/
def Tail.liveWord (t : Tail) (a : Nat) : Option Word :=
  if a = SEC_STAT.OPEN.addr then some t.secStat
  else if a = SEC_SID.SID.addr then some t.secSid
  else if a = SEC_LEFT.IDLE_LEFT.addr then some t.secLeft
  else if a = FW_STAT.BOOTED.addr then some t.fwStat
  else if a = (FW_SLOT.STATE 0).addr then some (t.fwSlot 0)
  else if a = (FW_SLOT.STATE 1).addr then some (t.fwSlot 1)
  else none

/-! ## The configuration checksum (05 R183, R184) -/

/-- The configuration registers of page `p`, in ascending order. -/
def configRegs (p : Nat) : List Nat :=
  (if enableFixed p then [] else [p * 256 + 0x04]) ++ [p * 256 + 0x10]
    ++ ((List.range 56).map (fun i => p * 256 + 0x20 + 4 * i)).filter (fun a => (regFields a).any (fun f => f.isConfig))

/-- The RW and RWL fields of register `a`, in `w`. -/
def configBits (a : Nat) (w : Word) : Word := (regFields a).foldl (fun x f => if f.isConfig then fdPut f (fdGet f w) x else x) 0

/-- PG_CFGSUM of page `p` whose registers are stored as `word` says. -/
def cfgSum (word : Nat → Word) (p : Nat) : Word :=
  crc32c ((configRegs p).flatMap (fun a => leBytes 4 (configBits a (word a)).toNat))

/-! ## Reads -/

/-- Register `a` of a field-side page as a snapshot `snap` shows it (05 R159 to R161, R178, R182): WO fields read 0. -/
def Tail.view (t : Tail) (snap : Word) (a : Nat) : Word :=
  let p := a / 256
  if reservedPage p || vendorPage p || t.absentPage p then 0
  else if a % 256 = 0x08 then t.pgStat p
  else if a % 256 = 0x14 then fdPut (PG_LOCK.LOCKED p) (b2n (t.locked p)) (t.word a)
  else if a % 256 = 0x18 then snap
  else if a % 256 = 0x1C then cfgSum t.word p
  else match t.liveWord a with
    | some w => w
    | none => (t.live p).foldl (fun w (e : Fd × Nat) => if e.1.addr = a then fdPut e.1 e.2 w else w) (t.accepted a)

/-- The bytes of `k` registers from address `a` on. -/
def readBytes (view : Nat → Word) (a : Nat) (k : Nat) : List Byte := wordsToBytes ((List.range k).map (fun i => view (a + 4 * i)))

end Sys2Proof.Machine
end

