-- ==== Sys2Proof/Machine/Port.lean ====
section
/-! DEFINITION. Register writes (05): the refusals of a frame's writes, the commit of its words, and what the written registers
start, page by page. -/

namespace Sys2Proof.Machine

/-! ## What a frame writes -/

/-- The word written to the register of command field `f`; 0 from the management bus, which writes no WO field (09 R340). -/
def Wr.raw (w : Wr) (f : Fd) : Word := if w.mb then 0 else (w.find f.addr).getD 0

/-- The frame changes one of the fields. -/
def Tail.changesAny (t : Tail) (w : Wr) (fs : List Fd) : Bool := fs.any (fun f => t.changes w f)

/-- The frame changes the register of field `f`. -/
def Tail.changesReg (t : Tail) (w : Wr) (f : Fd) : Bool := t.img w f.addr != t.word f.addr

def Tail.running (t : Tail) (n : Stn) : Bool := (t.stnGet n).sq.st.isRunning

/-- The page is locked for the port that writes (05 R170, R177). -/
def Tail.lockedFor (t : Tail) (w : Wr) : Bool := if w.mb then t.lockedMb w.page else t.locked w.page

/-! ## Refusals page by page -/

/-- The refusals of a frame on SHR and ORB (16 R590). -/
def Tail.shareCheck (t : Tail) (w : Wr) : List (Bool × Nat) :=
  let run (g : Fin 4) : Bool := (t.members g).any t.running
  if w.page = 0x36 then
    let hit := w.has ORB_CFG.UNIT || w.has ORB_PACE.PACE || t.changesReg w ORB_CFG.UNIT || t.changesReg w ORB_PACE.PACE
    [(hit && (List.finRange 4).any (fun g => t.ringGroup g.val && run g), busySt)]
  else
    let grp (g : Fin 4) : Bool :=
      t.changesAny w [SHR_GCFG.EN g, SHR_GCFG.MODE g, SHR_GCFG.RING g, SHR_GCFG.GID g, SHR_GCFG.NSLOT g] && run g
    let stn (n : Stn) : Bool :=
      t.changesAny w [SHR_STN.ROLE n, SHR_STN.GRP n, SHR_STN.RANK n, SHR_STN.SLOT n]
        && (run (Fin.ofNat 4 (t.g (SHR_STN.GRP n))) || run (Fin.ofNat 4 (t.newv w (SHR_STN.GRP n))))
    [((List.finRange 4).any grp || t.stns.any stn, busySt)]

/-- The functions of the outputs as the frame leaves them (10 R408). -/
def Tail.dioFuncs (t : Tail) (w : Wr) : List Nat := (List.range 8).map (fun k => t.newv w (DIO_OCFG.FUNC k))

/-- FUNC 7, E or F, or one of the functions 1 to 6 and 8 to B on two outputs (10 R408). -/
def Tail.dioBad (t : Tail) (w : Wr) : Bool :=
  let fs := t.dioFuncs w
  fs.any (fun f => f = 0x7 || f = 0xE || f = 0xF)
    || (List.range 12).any (fun f => f != 0 && f != 7 && decide (1 < (fs.filter (· = f)).length))

/-- The refusals of a frame on AIN (12 R485, R488). -/
def Tail.ainCheck (t : Tail) (w : Wr) : List (Bool × Nat) :=
  [ (t.u.tw2 && (List.range 8).any (fun k => w.has (AIN_CFG.STN k) && 2 ≤ t.newv w (AIN_CFG.STN k)), badAddr),
    ((List.range 8).any (fun k =>
      t.changesAny w [AIN_CFG.EN k, AIN_CFG.STN k] && t.stns.any (fun n => n.val = t.g (AIN_CFG.STN k) && t.running n)), busySt) ]

/-- The refusals of a frame on a unit page, beside those of every page (02 to 22). -/
def Tail.unitCheck (t : Tail) (w : Wr) : List (Bool × Nat) :=
  match w.page with
  | 0x04 => [(1 < w.cmd PWR_CTRL.REQ_RUN + w.cmd PWR_CTRL.REQ_STANDBY + w.cmd PWR_CTRL.REQ_DEEP, badAddr)]
  | 0x06 => t.scmdCheck (w.cmd CSG_SCMD.OP) (w.cmd CSG_SCMD.STREAM)
  | 0x07 => t.injCheck (w.raw CSA_INJ.MODE)
  | 0x0A => t.secCheck w
  | 0x0B => t.fwCheck w
  | 0x20 => [(w.cmd SEQ_RESET.KEY != 0 && !t.seqResetMay (w.raw SEQ_RESET.KEY), busySt)]
  | 0x21 =>
    [((w.has (PCHG_GCFG.MODE 0) || w.has (PCHG_GCFG.MODE 1))
      && t.newv w (PCHG_GCFG.STN_MASK 0) &&& t.newv w (PCHG_GCFG.STN_MASK 1) != 0, badAddr)]
  | 0x22 => [(t.dioBad w, badAddr)]
  | 0x23 => [(w.has STO_CFG.ECAT && t.anyRunning, busySt)]
  | 0x24 => [(w.cmd EMG_CMD.STOP != 0 && (w.cmd EMG_CMD.CAT = 0 || w.cmd EMG_CMD.CAT = 3), badAddr)]
  | 0x25 => t.diagCheck (w.cmd DIAG_CMD.RUN = 1) (w.cmd DIAG_CMD.STN) (t.newv w (PG_CTRL.ENABLE 0x25) = 1)
  | 0x30 => t.odCheck (w.cmd HK_OD.REQ = 1) (w.cmd HK_OD.CH)
  | 0x31 => [((List.range 6).any (fun k => 57 < t.newv w (HKCH_SP.SRC k)), badAddr)]
  | 0x32 => [((List.range 4).any (fun m => t.b (AOUT_CFG.EN m) && t.changes w (AOUT_CFG.MODE m)), busySt)]
  | 0x33 => t.ainCheck w
  | 0x34 => t.thmCheck w
  | 0x36 => t.shareCheck w
  | 0x37 => t.shareCheck w
  | p => if 0x10 ≤ p && p < 0x20 then t.strdCheck w else []

/-- fs_i would leave 4 to 32 kHz, or UPD and LOC would both be 1 (17 R631). -/
def Tail.fsBad (t : Tail) (w : Wr) (n : Stn) : Bool :=
  let half := clampN 12500 200000 (t.newv w (MOD_CAR.HALF n))
  let k := 1 + t.newv w (MOD_CFG.UPD n)
  decide (k * 200000000 < 4000 * half) || decide (32000 * half < k * 200000000)

/-- A class that R665 does not allow (18 R666). -/
def Tail.classBad (t : Tail) (w : Wr) (n : Stn) : Bool :=
  let c (f : Fd) (l : List Nat) : Bool := l.contains (t.newv w f)
  w.has (PROT_CLASS.OV n) && (c (PROT_CLASS.OV n) [2, 3] || c (PROT_CLASS.UV n) [1] || c (PROT_CLASS.OSPD n) [2, 3]
    || c (PROT_CLASS.FBL n) [3] || c (PROT_CLASS.SINV n) [3])

/-- A slot above node 0x5F, or a trace beyond its 32 nodes (14 R550). -/
def Tail.traceBad (t : Tail) (w : Wr) (n : Stn) : Bool :=
  (List.range 8).any (fun k =>
    w.has (STRC_SLOT.NODE0 n k) && [STRC_SLOT.NODE0 n k, STRC_SLOT.NODE1 n k, STRC_SLOT.NODE2 n k, STRC_SLOT.NODE3 n k].any (fun f =>
      decide (0x5F < t.newv w f)))
    || (List.range 8).any (fun k =>
      w.has (STRC_TR.EN n k) && decide (32 < t.newv w (STRC_TR.FIRST n k) + t.newv w (STRC_TR.COUNT n k)))

/-- What a loop page may not change while its station runs (13 R496). -/
def loopHeld (n : Nat) (b : Nat) : List Fd :=
  match b with
  | 0x5 => [CURL_CFG.ANG_SRC n, CURL_ANG.PP n]
  | 0x6 => [SPDL_CFG.DV n, SPDL_CFG.FMT n]
  | 0x7 => [OUTL_CFG.DO n, OUTL_CFG.FMT n, OUTL_CFG.MODE n]
  | _ => []

/-- A follower's configuration while it drives the reference (15 R583). -/
def Tail.extsHeld (t : Tail) (w : Wr) (n : Stn) : Bool :=
  let d := (t.stnGet n).setp.drv
  (d = .analog && t.changesAny w [EXTS_ACFG.AIN n, EXTS_ACFG.MA n]) || (d = .pulse && t.changesAny w [EXTS_PCFG.PSTN n, EXTS_PCFG.PD n])

/-- The refusals of a frame on block `b` of station `n`, beside those of every page (11 to 18). -/
def Tail.stnCheck (t : Tail) (w : Wr) (n : Stn) (b : Nat) : List (Bool × Nat) :=
  let run := t.running n
  match b with
  | 0x1 =>
    [ (t.changes w (FBP_SUP.VSEL n) && t.encSupply n, busySt),
      (run && (t.changes w (FBP_CFG.MODE n) || t.changesReg w (FBP_CPR.CPR n) || t.changesReg w (FBP_SSI.LEN n)
        || t.changesReg w (FBP_SSICLK.LEAD n)), busySt) ]
  | 0x2 => [(run && (t.changes w (FBA_CFG.MODE n) || t.changesReg w (FBA_CPR.CPR n)), busySt)]
  | 0x4 =>
    [ (t.newv w (ISNS_CFG.LOC n) = 1 && t.b (MOD_CFG.UPD n) && w.has (ISNS_CFG.LOC n), badAddr),
      (run && t.changesAny w [ISNS_CFG.CH_EN n, ISNS_CFG.LOC n, ISNS_CFG.POSR n], busySt),
      (w.cmd (ISNS_CMD.CAL n) = 1 && !t.calMay n, busySt) ]
  | 0x9 => [(w.cmd (BNKA_CMD.COPY n) = 1 && !t.copyMay n, busySt)]
  | 0xC => [(t.u.tw2 && w.has (EXTS_PCFG.PSTN n) && 2 ≤ t.newv w (EXTS_PCFG.PSTN n), badAddr), (run && t.extsHeld w n, busySt)]
  | 0xD =>
    [ ((w.has (MOD_CFG.UPD n) || w.has (MOD_CAR.HALF n)) && t.fsBad w n, badAddr),
      (w.has (MOD_CFG.UPD n) && t.newv w (MOD_CFG.UPD n) = 1 && t.b (ISNS_CFG.LOC n), badAddr),
      (run && t.changesAny w (MOD_CFG.TOPO n :: MOD_CFG.METHOD n :: MOD_CFG.UPD n :: MOD_CAR.HALF n :: MOD_PHASE.PHASE n :: MOD_DT.DT_MIN n
        :: MOD_DT.THS_MAX n :: MOD_CHOP.CMODE n :: MOD_CHOP.CHALF n :: []), busySt) ]
  | 0xE => [(t.classBad w n, badAddr)]
  | 0xF => [(t.traceBad w n, badAddr)]
  | b => if 5 ≤ b && b ≤ 8 then
      [(run && (t.changesAny w (loopHeld n b) || (!t.b (PG_CTRL.ENABLE w.page) && t.newv w (PG_CTRL.ENABLE w.page) = 1)), busySt)]
    else []

/-- The station of page `p`. -/
def pageStn (p : Nat) : Stn := Fin.ofNat 4 ((p - 0x40) / 16)

def isStnPage (p : Nat) : Bool := 0x40 ≤ p && p < 0x80

/-- Every refusal of a frame's writes to a field-side page (05 R13, R170, R171, 23 R803). -/
def Tail.writeCheck (t : Tail) (w : Wr) : List (Bool × Nat) :=
  let p := w.page
  if vendorPage p then []
  else
    [ (t.lockedFor w && (w.srst || w.words.any (fun e => (regFields e.1).any (fun f => f.acc = .rwl))), lockedSt),
      (isStnPage p && t.running (pageStn p) && (w.srst || (t.b (PG_CTRL.ENABLE p) && t.newv w (PG_CTRL.ENABLE p) = 0)), busySt),
      (!w.mb && t.sess != 0 && !t.fits 161 24, busySt) ]
    ++ (if isStnPage p then t.stnCheck w (pageStn p) (p % 16) else t.unitCheck w)

/-! ## The words of a frame (05 R162, R169, 03 R102, R112) -/

/-- The stream whose level register stands at `a` (06 R230). -/
def strdLvlAt (a : Nat) : Option Nat := strdCfgAt (a - 4)

/-- The frame as register `a` takes it: the page reset passes the watermarks of the streams it leaves untouched (06 R232). -/
def Tail.regWr (t : Tail) (w : Wr) (a : Nat) : Wr :=
  match strdLvlAt a with
  | some k => if w.srst && !(strdResets t.u w.page).contains k then { w with words := w.words.filter (fun e => 0x20 ≤ e.1 % 256) } else w
  | none => w

/-- LCMP_STAT of a station: the clearing of its LATCHED waits for the sample instant (11 R453). -/
def latchStat (a : Nat) : Bool := 0x40 ≤ a / 256 && a / 256 < 0x80 && a % 0x1000 = 0x34C

/-- The registers that the frame may change: all of the page for a page reset, else those it writes; stream descriptors apart. -/
def Wr.touched (w : Wr) : List Nat :=
  if w.srst then ((List.range 64).map (fun i => w.page * 256 + 4 * i)).filter (fun a => (strdCfgAt a).isNone)
  else (w.words.map (·.1)).filter (fun a => (strdCfgAt a).isNone && !latchStat a)

def isConfigReg (a : Nat) : Bool := (regFields a).any (fun f => f.isConfig)

/-- The frame writes configuration of its page, stream descriptors among it. -/
def Wr.config (w : Wr) : Bool := w.touched.any isConfigReg || w.words.any (fun e => (strdCfgAt e.1).isSome)

/-- The latches of page `p` that the commit in progress has set: one of them that the frame clears reads 1 afterwards (05 R173). -/
def Tail.ownLatches (t : Tail) (p : Nat) : Word :=
  t.log.queue.foldl (fun m e => if e.page = p && e.ssn.isNone then m ||| ((1 : Word) <<< e.bit) else m) 0

/-- The frame's words are stored; a frame that touches configuration begins a transfer of its page. -/
def Tail.writeWords (t : Tail) (w : Wr) : Tail :=
  let as := w.touched
  let t := t.regReads as
  let keep (a : Nat) : Word := if a % 256 = 0x0C && !w.srst then t.ownLatches w.page else 0
  let new := as.map (fun a => (a, t.img (t.regWr w a) a ||| keep a))
  let t := if w.config then t.xferBegin w.page else t
  let t := { t with ds := t.ds.filter (fun e => !as.contains e.1) }
  new.foldl (fun t (e : Nat × Word) =>
    if e.2 = t.word e.1 then t else if isConfigReg e.1 then t.cfgWrite e.1 e.2 else t.setWord e.1 e.2) (t.regWrites as)

/-! ## What the written registers start -/

/-- BLNK (02 R75, R88): PGRST also forgets what BLNK_UTIL counts. -/
def Tail.hookBlnk (t : Tail) (w : Wr) : Tail :=
  let t := if w.srst then { t with link := { t.link with busy := [] } } else t
  let t := if w.cmd BLNK_CTRL.CNT_CLR = 1
    then t.restore [BLNK_ERR.RX_OTHER, BLNK_ERR.RX_CRC, BLNK_RETX.NAK_TX, BLNK_RETX.NAK_RX, BLNK_SEQ.SEQ_GAP] else t
  if w.cmd BLNK_CTRL.RETRAIN = 1 then { t with link := { t.link with retrain := true } } else t

/-- PWR (04 R130, R145). -/
def Tail.hookPwr (t : Tail) (w : Wr) : Tail :=
  let t := if w.cmd PWR_CTRL.UNSTABLE_CLR = 1 then t.unstableClr else t
  let t := if w.cmd PWR_CTRL.REQ_RUN = 1 then t.pwrReq .run else t
  let t := if w.cmd PWR_CTRL.REQ_STANDBY = 1 then t.pwrReq .standby else t
  if w.cmd PWR_CTRL.REQ_DEEP = 1 then t.pwrReq .deep else t

/-- SEQ (10 R369, R402): the frame that ended the unit's ECLIPSE was accepted in it, where ARM and DISARM have no effect. -/
def Tail.hookSeq (t : Tail) (w : Wr) : Tail :=
  let t := if w.cmd SEQ_RESET.KEY != 0 then { t with resetDue := some .host } else t
  if !t.sqcUp || t.emg.back = some t.ssn then t
  else if w.cmd SEQ_CMD.DISARM = 1 then t.disarmCmd
  else if w.cmd SEQ_CMD.ARM = 1 then t.armCmd else t

/-- PCHG (10 R386 to R391): `old` is the state before the frame. -/
def Tail.hookPchg (t old : Tail) (w : Wr) : Tail :=
  let t := (List.finRange 2).foldl (fun t (g : Fin 2) =>
    if w.srst || old.changes w (PCHG_GCFG.MODE g) || !t.b (PG_CTRL.ENABLE 0x21) then t.grpReset g else t.grpExt g) t
  if !t.sqcUp then t
  else
  let t := (List.finRange 2).foldl (fun t (g : Fin 2) => if (w.cmd PCHG_CMD.DISCHARGE).testBit g then t.discharge1 g else t) t
  (List.finRange 2).foldl (fun t (g : Fin 2) => if (w.cmd PCHG_CMD.CHARGE).testBit g then t.charge1 g else t) t

/-- EMG (22 R762, R786). -/
def Tail.hookEmg (t : Tail) (w : Wr) : Tail :=
  if t.sqcUp then (t.emgStop (w.raw EMG_CMD.STOP)).releaseCmd (w.cmd EMG_CMD.RELEASE) else t

/-- DIAG (19 R689, R692). -/
def Tail.hookDiag (t : Tail) (w : Wr) : Tail :=
  let t := if w.cmd DIAG_CMD.ABORT = 1 then t.diagEnd else t
  if w.cmd DIAG_CMD.RUN = 1 then t.diagRun (Fin.ofNat 4 (w.cmd DIAG_CMD.STN)) else t

/-- HK (20 R713, R717). -/
def Tail.hookHk (t : Tail) (w : Wr) : Tail :=
  (if w.srst then t.hkReset else t).odApply (w.cmd HK_OD.REQ = 1) (w.cmd HK_OD.CH)

/-- TRC (14 R551, R552). -/
def Tail.hookTrc (t : Tail) (w : Wr) : Tail :=
  let t := if w.srst then { t with trc := { Trc.init with cfgMarks := t.trc.cfgMarks } } else t
  let t := if w.cmd TRC_CMD.ARM = 1 then t.trcArm else t
  let t := if w.cmd TRC_CMD.FORCE = 1 then t.trcForce else t
  if w.cmd TRC_CMD.DISARM = 1 then t.trcDisarm else t

/-- What a frame on a unit page starts, under its commit. -/
def Tail.hookUnit (t old : Tail) (w : Wr) (fr : FrameRef) : Tail :=
  match w.page with
  | 0x03 => t.hookBlnk w
  | 0x04 => t.hookPwr w
  | 0x06 => t.scmdApply (w.cmd CSG_SCMD.OP) (w.cmd CSG_SCMD.STREAM)
  | 0x07 => t.injApply (w.raw CSA_INJ.MODE)
  | 0x0A => t.secApply w fr
  | 0x0B => t.fwApply w fr
  | 0x20 => t.hookSeq w
  | 0x21 => t.hookPchg old w
  | 0x22 => t.inputsChanged
  | 0x24 => t.hookEmg w
  | 0x25 => t.hookDiag w
  | 0x30 => t.hookHk w
  | 0x31 => t.hwLevels
  | 0x32 => t.resume (w.cmd AOUT_CMD.RESUME)
  | 0x33 => t.ainStop
  | 0x34 => t.hwLevels
  | 0x35 => if w.srst then { t with thd := { t.thd with grace := Vector.replicate 4 none, traceT := none } } else t
  | 0x36 =>
    let t := if w.srst then { t with orb := { t.orb with tx := [] } } else t
    if old.changes w (PG_CTRL.ENABLE 0x36) then t.orbIsolated else t
  | 0x38 => t.hookTrc w
  | _ => t

/-- STN (10 R378 to R381, R401, R405): ENABLE written 0 takes a station to DISABLED, out of its diagnostic sequence; after PGRST PREV
reads 0. -/
def Tail.hookStn (t : Tail) (w : Wr) (n : Stn) : Tail :=
  let st := (t.stnGet n).sq.st
  let off := (w.srst || w.has (PG_CTRL.ENABLE w.page)) && !t.b (PG_CTRL.ENABLE w.page) && (st = .ready || st = .faulted || st = .diag)
  let t := if off then (t.diagYield n).enterDisabled n else t
  let t := if w.srst then t.p (STN_STAT.PREV n) 0 else t
  let t := if w.cmd (STN_CMD.START n) = 1 then t.startCmd n else t
  if !t.sqcUp then t
  else
    if w.cmd (STN_CMD.STOP n) = 1 then t.stopReq n ⟨false, false, false, true⟩ else t

/-- FBP (11 R453): the commands wait for the sample instant; a page reset drops those that waited. -/
def Tail.hookFbp (t : Tail) (w : Wr) (n : Stn) : Tail :=
  let t := if w.srst then t.fbMap n (fun f => { f with pend := { f.pend with preset := false, sup := false, zsrc := false } }) else t
  let t := t.fbMap n (fun f => { f with pend := { f.pend with
    preset := f.pend.preset || w.cmd (FBP_CMD.PRESET n) = 1
    sup := f.pend.sup || (w.has (FBP_SUP.ON n) && t.b (FBP_SUP.ON n))
    zsrc := f.pend.zsrc || (w.has (FBP_CFG.PRESET_SRC n) && t.g (FBP_CFG.PRESET_SRC n) = 1) } })
  if w.srst then t.fbStatus n else t

/-- FBA (11 R428, R453). -/
def Tail.hookFba (t : Tail) (w : Wr) (n : Stn) : Tail :=
  let t := t.fbMap n (fun f => { f with pend := { f.pend with aux := (f.pend.aux && !w.srst) || w.cmd (FBA_CMD.PRESET n) = 1 } })
  if w.srst then t.fbStatus n else t

/-- LCMP (11 R437, R441, R447, R453). -/
def Tail.hookLcmp (t : Tail) (w : Wr) (n : Stn) : Tail :=
  let t := if w.has (LCMP_CMPVAL.VAL n) && !w.srst then t.lateAdd (LCMP_CMPVAL.VAL n).addr (t.word (LCMP_CMPVAL.VAL n).addr) else t
  let t := t.fbMap n (fun f => { f with pend := { f.pend with
    arm := (f.pend.arm && !w.srst) || w.cmd (LCMP_CMD.ARM n) = 1
    gtClr := (f.pend.gtClr && !w.srst) || w.cmd (LCMP_CMD.GT_CLR n) = 1
    latched := !w.srst && (f.pend.latched || (w.find (LCMP_STAT.LATCHED n).addr).any (fun x => fdGet (LCMP_STAT.LATCHED n) x = 1)) } })
  if w.srst then (t.lcmpOff n).cmpOut n false else t

/-- ISNS (12 R472, R481, R482). -/
def Tail.hookIsns (t old : Tail) (w : Wr) (n : Stn) : Tail :=
  let t := if w.srst then t.calAbandon n else t
  let t := if !old.b (PG_CTRL.ENABLE w.page) && t.b (PG_CTRL.ENABLE w.page) then t.isnsStart n else t
  if w.cmd (ISNS_CMD.CAL n) = 1 then t.calCmd n else t

/-- BNKA (14 R534, R542). -/
def Tail.hookBnka (t : Tail) (w : Wr) (n : Stn) : Tail :=
  let t := if w.srst then t.banksMap n (fun b => { b with hw := Vector.replicate 4 none, ret := Vector.replicate 3 none }) else t
  let t := t.bnkaSwap n (w.raw (BNKA_SWAP.REQ n))
  if w.cmd (BNKA_CMD.COPY n) = 1 then t.bankCopy n else t

/-- STRC (14 R549): traces whose configuration changed carry a MARK. -/
def Tail.hookStrc (t old : Tail) (w : Wr) (n : Stn) : Tail :=
  let slots := (List.range 8).any (fun k => old.changesReg w (STRC_SLOT.NODE0 n k))
  (List.range 8).foldl (fun t k =>
    let on := !old.b (STRC_TR.EN n k) && t.b (STRC_TR.EN n k)
    if on || slots || old.changesAny w [STRC_TR.FIRST n k, STRC_TR.COUNT n k]
      then { t with trc := { t.trc with cfgMarks := t.trc.cfgMarks ||| ((1 : BitVec 32) <<< (8 * n.val + k)) } } else t) t

/-- What a frame on block `b` of station `n` starts, under its commit. -/
def Tail.hookStation (t old : Tail) (w : Wr) (n : Stn) (b : Nat) : Tail :=
  match b with
  | 0x0 => t.hookStn w n
  | 0x1 => t.hookFbp w n
  | 0x2 => t.hookFba w n
  | 0x3 => t.hookLcmp w n
  | 0x4 => t.hookIsns old w n
  | 0x9 => t.hookBnka w n
  | 0xF => t.hookStrc old w n
  | _ => t

/-- The writes of an accepted frame and what they start, under its commit (05 R162, R173). -/
def Tail.writeApply (t : Tail) (w : Wr) (fr : FrameRef) : Tail :=
  if vendorPage w.page then t
  else
    let old := if w.page = 0x25 && w.srst then t.diagEnd else t
    let t := old.writeWords w
    let t := if 0x10 ≤ w.page && w.page < 0x20
      then ((List.range 16).map (fun i => 16 * (w.page - 0x10) + i)).foldl (fun t k => t.wmUpdate k) (t.strdApply w) else t
    if isStnPage w.page then t.hookStation old w (pageStn w.page) (w.page % 16) else t.hookUnit old w fr

/-- What a refused frame leaves all the same: a refused descriptor (06 R199), a full queue of conversions (20 R713). -/
def Tail.writeRefused (t : Tail) (w : Wr) (st : Nat) : Tail :=
  if st = badAddr && 0x10 ≤ w.page && w.page < 0x20 then t.strdRefuse w
  else if st = busySt && w.page = 0x30 then t.odRefused (w.cmd HK_OD.REQ = 1)
  else t

/-- The AUDIT record of a frame that writes while a session is open (23 R802, R804). -/
def Tail.auditWrite (t : Tail) (page : Nat) (fr : FrameRef) (addr : Nat) : Tail :=
  if t.sess = 0 then t
  else t.record .sqc 161 9 true (auditData 1 t.sess page fr t.sec.sid t.ssn addr (if vendorPage page then 0 else cfgSum t.word page))

end Sys2Proof.Machine
end

