-- ==== Sys2Proof/Machine/Service.lean ====
section
/-! DEFINITION. What the field side does with an accepted request: the operations of the HSP (08 sections 3, 6, 7, 8) and of the
management bus (09 sections 4, 5), each under one commit with its CMD record, and its RSP record (06 R206, R219). -/

namespace Sys2Proof.Machine

/-- What a request is answered: status and data, and the field side after it. -/
structure Ans where
  status : Nat
  data : List Byte
  t : Tail

/-- One commit whose writes give an answer (06 R219). -/
def Tail.commitA (t : Tail) (f : Tail → Ans) : Ans :=
  let a := f { t with ssn := t.ssn + 1 }
  { a with t := a.t.seal }

/-- In firmware recovery only DEV, SEC and FW answer (23 R816). -/
def Tail.recoveryPage (t : Tail) (p : Nat) : Bool := t.fw.recovery && !(p = 0x00 || p = 0x0A || p = 0x0B)

/-! ## Register operations (05, 08 R286, R288) -/

/-- The registers of `k` bytes from offset `a` of page `p`. -/
def regAddrs (p a k : Nat) : List Nat := (List.range (k / 4)).map (fun i => p * 256 + a + 4 * i)

/-- REG_READ of `k` bytes from offset `a` of page `p`. -/
def Tail.readOp (t : Tail) (p a k : Nat) : Ans :=
  if t.recoveryPage p then ⟨busySt, [], t⟩
  else
    let t := t.regReads (regAddrs p a k)
    ⟨okSt, readBytes (t.view t.ssn) (p * 256 + a) (k / 4), t⟩

/-- The writes of a frame, unless it is refused: its status and the state after. -/
def Tail.writeOp (t : Tail) (w : Wr) (fr : FrameRef) : Nat × Tail :=
  let rs := (t.recoveryPage w.page, busySt) :: t.writeCheck w
  match refusal rs with
  | some st => (st, t.writeRefused w st)
  | none => (okSt, t.writeApply w fr)

/-- The AUDIT reference of a frame (23 R804). -/
def frameRef (op : HspOp) (f : Frame) : FrameRef := ⟨f.seq, f.len, if opPayload op then payloadCrc f else 0⟩

/-- REG_WRITE, with PG_CFGSUM for VERIFY. -/
def Tail.regWriteOp (t : Tail) (op : HspOp) (f : Frame) : Ans :=
  let p := f.stream.toNat
  let fr := frameRef op f
  let (st, t) := t.writeOp (payloadWr p false f.addr.toNat f.payload) fr
  if st != okSt then ⟨st, [], t⟩
  else
    let t := t.auditWrite p fr f.addr.toNat
    ⟨okSt, if frVerify f then leBytes 4 (t.view t.ssn (p * 256 + 0x1C)).toNat else [], t⟩

/-- The read-back differs in an RW or RWL bit from what was written (08 R288). -/
def Tail.readbackDiffers (t : Tail) (w : Wr) : Bool := w.words.any (fun e => configBits e.1 e.2 != configBits e.1 (t.view t.ssn e.1))

/-- REG_WRITE_VERIFY: the writes, and the read-back under their commit (05 R181). -/
def Tail.regVerifyOp (t : Tail) (op : HspOp) (f : Frame) : Ans :=
  let p := f.stream.toNat
  let fr := frameRef op f
  let w := payloadWr p false f.addr.toNat f.payload
  let (st, t) := t.writeOp w fr
  if st != okSt then ⟨st, [], t⟩
  else
    let t := t.auditWrite p fr f.addr.toNat
    ⟨if t.readbackDiffers w then partialSt else okSt, readBytes (t.view t.ssn) (p * 256 + f.addr.toNat) (f.len.toNat / 4), t⟩

/-! ## Stream operations (06 R212, R213, 07 R252, 08 R289, R301 to R304) -/

/-- A stream operation in firmware recovery (23 R816). -/
def Tail.recoveryStream (t : Tail) (k : Nat) : Bool := t.fw.recovery && !(k = 161 || k = 168)

/-- The refusals of a STREAM_PUT of `n` bytes (06 R212, R213, 23 R810, 07 R258). -/
def Tail.putCheck (t : Tail) (k n : Nat) : List (Bool × Nat) :=
  [ (!hostPut k || !t.streamOn k, badAddr),
    (t.ringWords k < recWords n + 2 + 1, badAddr),
    (k = 168 && n < 5, badAddr),
    (k = 168 && t.locked 0x0B, lockedSt),
    (k = 168 && t.fw.load != .loading, busySt),
    (t.aon.retained || t.recoveryStream k, busySt),
    (t.cf (STRD_CFG.POLICY k) = 2 && !t.fits k n, busySt) ]

/-- STREAM_PUT: one PUT record, an IMAGE record on stream 168; STRD_SEQ for VERIFY (08 R286). -/
def Tail.putOp (t : Tail) (f : Frame) : Ans :=
  let k := f.stream.toNat
  match refusal (t.putCheck k f.payload.length) with
  | some st => ⟨st, [], t⟩
  | none =>
    let t := t.record .host k (if k = 168 then 0x0B else 2) true f.payload
    ⟨okSt, if frVerify f then leBytes 4 (t.sst k).seq.toNat else [], t⟩

/-- The refusals of a stream read (06 R194, R201, 07 R258, 21 R750). -/
def Tail.getCheck (t : Tail) (k : Nat) (may : Bool) : List (Bool × Nat) :=
  [ (!may || !t.streamOn k, badAddr),
    (t.aon.retained || t.recoveryStream k || (traceStream k && t.traceHeld), busySt) ]

/-- STREAM_GET: the previous delivery is consumed, and the next records are delivered. -/
def Tail.getOp (t : Tail) (k n : Nat) : Ans :=
  match refusal (t.getCheck k (hostGet k)) with
  | some st => ⟨st, [], t⟩
  | none =>
    let t := (t.sysReads (descX k) 2).consume k
    let (cut, d, ps, skipped, t) := t.streamData k n (t.sst k).recs (t.sst k).skip
    let t := (t.markDelivered k ps).sstMap k (fun s => { s with skip := skipped })
    ⟨if cut then partialSt else okSt, d, if traceStream k then t.traceDone else t⟩

/-- The records behind the first `n` data records (08 R289). -/
def skipData : Nat → List RecIx → List RecIx
  | 0, l => l
  | _, [] => []
  | n + 1, r :: l => if 2 ≤ r.kind then skipData n l else skipData (n + 1) l

/-- STREAM_PEEK. -/
def Tail.peekOp (t : Tail) (k skip n : Nat) : Ans :=
  match refusal (t.getCheck k (hostPeek k)) with
  | some st => ⟨st, [], t⟩
  | none =>
    let t := t.sysReads (descX k) 2
    let (cut, d, _, _, t) := t.streamData k n (skipData skip (t.sst k).recs) false
    ⟨if cut then partialSt else okSt, d, if traceStream k then t.traceDone else t⟩

/-! ## CMD (08 R307 to R309, 18 R669) -/

/-- The token of an executed CMD joins the last four of its page (08 R309). -/
def pushTok (l : List (Nat × Word × Word)) (p : Nat) (tok res : Word) : List (Nat × Word × Word) :=
  (p, tok, res) :: (l.filter (fun e => e.1 = p)).take 3 ++ l.filter (fun e => e.1 != p)

/-- A CMD frame: FAULT_CLEAR on a PROT page and on the STO page. -/
def Tail.cmdOp (t : Tail) (op : HspOp) (f : Frame) : Ans :=
  let p := f.stream.toNat
  let tok : Word := BitVec.ofNat 32 (leNat (f.payload.take 4))
  let mask := if f.payload.length < 8 then 0xFFFFFFFF else leNat ((f.payload.drop 4).take 4)
  let prot := isStnPage p && p % 16 = 0xE
  let fr := frameRef op f
  let rs := [(tok = 0 || f.addr != 1 || !(prot || p = 0x23), badOp), (t.recoveryPage p || (t.sess != 0 && !t.fits 161 24), busySt)]
  match refusal rs with
  | some st => ⟨st, [], t⟩
  | none =>
    match t.toks.find? (fun e => e.1 = p && e.2.1 = tok) with
    | some e => ⟨dupSt, leBytes 4 tok.toNat ++ leBytes 4 e.2.2.toNat, t⟩
    | none =>
      let t := if prot then t.faultClear (pageStn p) mask else t.faultClearAll mask
      let res := if prot then t.clearResult (pageStn p) else t.clearAllResult
      let t := { t with toks := pushTok t.toks p tok (BitVec.ofNat 32 res) }
      ⟨okSt, leBytes 4 tok.toNat ++ leBytes 4 res, t.auditWrite p fr f.addr.toNat⟩

/-! ## STATUS_DIGEST (08 R310) -/

/-- A bit per page from `p` on, 64 of them, with a PG_EVT bit set. -/
def Tail.evtPages (t : Tail) (p : Nat) : Nat :=
  ((List.range 64).map (fun k => 2 ^ k * b2n (fieldPages.contains (p + k) && t.b (PG_EVT.EVT (p + k))))).sum

/-- A list of bytes per station, `none` for one that is not fitted. -/
def Tail.perStn (t : Tail) (f : Stn → List Byte) (none : List Byte) : List Byte :=
  (List.finRange 4).flatMap (fun n => if t.fitted n.val then f n else none)

/-- Some station's derate is enforced. -/
def Tail.anyEnforced (t : Tail) : Bool := t.stns.any (fun n => t.b (THD_REQ.ENFORCED n.val))

/-- LEVELS of the digest, bits [3:0]. -/
def Tail.levels (t : Tail) : Nat :=
  b2n t.alertLevel + 2 * b2n t.faultLevel + 4 * b2n t.emg.declared + 8 * b2n t.anyEnforced

/-- The maxima of the five groups. -/
def Tail.groupTemps (t : Tail) : List Byte := (List.range 5).map (fun g => thmDeg (t.thmMax g))

/-- The overall maximum, and its channel. -/
def Tail.maxTemp (t : Tail) : List Byte :=
  [thmDeg (if t.g THM_TMAX.MAX = 0x8000 then none else some (t.gi THM_TMAX.MAX)), BitVec.ofNat 8 (t.g THM_TMAX.ID)]

/-- The events of unit pages and station pages (bytes 16 to 31). -/
def Tail.digestEvents (t : Tail) : List Byte := leBytes 8 (t.evtPages 0x00) ++ leBytes 8 (t.evtPages 0x40)

/-- The 64 bytes of the digest. -/
def Tail.digest (t : Tail) : List Byte :=
  [BitVec.ofNat 8 t.us.code, BitVec.ofNat 8 (t.pstate + 4 * t.aon.ho.code + 32 * b2n t.aon.unstable), BitVec.ofNat 8 t.levels, 0]
    ++ leBytes 4 t.evtSpan.1.toNat ++ leBytes 4 t.aon.epoch.toNat ++ leBytes 4 t.ftSq.toNat ++ t.digestEvents
    ++ t.perStn (fun n => [BitVec.ofNat 8 (t.stnGet n).sq.st.code, BitVec.ofNat 8 (t.stnFlags t.ag n)]) [0xFF, 0]
    ++ t.groupTemps ++ [BitVec.ofNat 8 (t.g THM_TMAX.ID), 0, 0]
    ++ t.perStn (fun n => leBytes 2 (t.ag (STN_DL.DL_COUNT n.val))) [0, 0]
    ++ t.perStn (fun n => [BitVec.ofNat 8 (t.g (THD_REQ.PCT n.val))]) [0] ++ [0, 0, 0, 0]

/-! ## Sessions (23 R796 to R801) -/

/-- SESSION_OPEN for the level in the first payload byte. -/
def Tail.openOp (t : Tail) (f : Frame) : Ans :=
  let l := (f.payload.getD 0 0).toNat
  match refusal (t.openCheck l) with
  | some st => ⟨st, [], t⟩
  | none => let (d, t) := t.sessOpen l; ⟨okSt, d, t⟩

/-- SESSION_AUTH: SID and MAC. -/
def Tail.authOp (t : Tail) (op : HspOp) (f : Frame) : Ans :=
  let (st, d, t) := t.sessAuth (frameRef op f) (BitVec.ofNat 32 (leNat (f.payload.take 4))) (f.payload.drop 4)
  ⟨st, d, t⟩

/-- SESSION_CLOSE: SID. -/
def Tail.closeOp (t : Tail) (op : HspOp) (f : Frame) : Ans :=
  let (st, t) := t.sessClose (frameRef op f) (BitVec.ofNat 32 (leNat (f.payload.take 4)))
  ⟨st, [], t⟩

/-- An operation of the HSP on the field side. -/
def Tail.runOp (t : Tail) (op : HspOp) (f : Frame) : Ans :=
  let k := f.stream.toNat
  let n := f.len.toNat
  match op with
  | .regRead => t.readOp k f.addr.toNat n
  | .regWrite => t.regWriteOp op f
  | .regWriteVerify => t.regVerifyOp op f
  | .streamPut => t.putOp f
  | .streamGet => t.getOp k n
  | .streamPeek => t.peekOp k f.addr.toNat n
  | .cmd => t.cmdOp op f
  | .statusDigest => if t.fw.recovery then ⟨busySt, [], t⟩ else ⟨okSt, t.digest, t⟩
  | .nop => if t.fw.recovery then ⟨busySt, [], t⟩ else ⟨okSt, [], t⟩
  | .sessionOpen => t.openOp f
  | .sessionAuth => t.authOp op f
  | .sessionClose => t.closeOp op f

/-- A response as the field side forms and keeps it (02 R70). -/
structure Reply where
  status : Nat
  snap : Word
  data : List Byte
  t : Tail

/-- The end of a request: states settle and latches are logged, then the RSP record is written (06 R206, R219). -/
def Ans.reply (a : Ans) (cstr : Nat) (body : Word → List Byte) : Reply :=
  let snap := a.t.ssn
  let t := a.t.finish
  ⟨a.status, snap, a.data, (t.commitOn cstr (fun t => t.record .sqc cstr 4 true (body snap))).logAll⟩

/-- An HSP request accepted with DISP = EXECUTE on command stream `cstr` (08 R293, R294): host activity, the CMD record, the
operation, all under one commit; then its RSP record. R219 gives no order within the commit: the CMD record is written before the
operation, which may empty its ring (DESIGN CHOICE, log entry 118). -/
def Tail.runHsp (t : Tail) (cstr : Nat) (op : HspOp) (f : Frame) : Reply :=
  let a := t.commitA (fun t => ((t.hostActivity).record .sqc cstr 3 true (requestBody op f ++ [0x00])).runOp op f)
  a.reply cstr (fun snap => responseBody a.status f.seq snap a.data)

/-! ## The management bus (09 sections 4, 5) -/

/-- The window of a REG_DATA request: the first three data bytes (log entry 43). -/
structure MbWin where
  page : Nat
  ofs : Nat
  rlen : Nat
  deriving DecidableEq, Repr

def MbWin.of (d : List Byte) : MbWin := ⟨(d.getD 0 0).toNat, (d.getD 1 0).toNat, (d.getD 2 0).toNat⟩

/-- REG_DATA in the window (09 R339, R340): a read of RLEN bytes, a write of the bytes `d`. -/
def Tail.regDataOp (t : Tail) (w : MbWin) (d : List Byte) : Ans :=
  if reservedPage w.page || t.absentPage w.page || !regRange w.ofs (if d = [] then w.rlen else d.length) then ⟨badAddr, [], t⟩
  else if d = [] then t.readOp w.page w.ofs w.rlen
  else
    let (st, t) := t.writeOp (payloadWr w.page true w.ofs d) noFrame
    ⟨st, [], t⟩

/-- The first of the records `rs` of stream 160 that follows INDEX `ack`, as tag and data (09 R342, R343, 07 R252): its tag says LOSS where
the record of INDEX `ack` + 1 is not the first to follow (`gap`), and where one was skipped before it. A record whose INDEX is poisoned
counts as `next`, the one behind the record before it; `skipped` unreadable records since the last that does not follow are lost when a
record behind them is returned (DESIGN CHOICE, log entry 124). -/
def Tail.eventsAfter (t : Tail) (ack : Word) (enabledOnly : Bool) (next : Word) (skipped : Nat) (gap : Option Bool) :
    List RecIx → Option (Nat × List Byte) × Tail
  | [] => (none, t)
  | r :: rs =>
    if r.kind < 2 then t.eventsAfter ack enabledOnly next skipped gap rs
    else
      let blind := (t.memRead (t.ringBase 160 + r.pos + 2)).1.isNone
      let (x, t) := t.readRec 160 r
      match x with
      | none => t.eventsAfter ack enabledOnly (next + 1) (skipped + 1) gap rs
      | some (tag, ws, bad) =>
        let d := (wordBytes (ws.drop 1)).take r.len
        let ix := if blind then next else evIndex d
        let k := (ix - ack).toNat
        if !(1 ≤ k && k < 2 ^ 31) then t.eventsAfter ack enabledOnly (ix + 1) 0 gap rs
        else
          let gap := gap.getD (k != 1)
          if !enabledOnly || (d.getD 7 0).getLsbD 1 then (some (tagOut tag bad (gap || skipped != 0), d), t.skipLost 160 skipped)
          else t.eventsAfter ack enabledOnly (ix + 1) skipped (some gap) rs

/-- EVENT_FETCH (09 R342, R343, R356): 32 bytes, tag and data; zeros where no record follows. -/
def Tail.fetchOp (t : Tail) (ack : Word) (enabledOnly : Bool) : Ans :=
  if t.aon.retained then ⟨busySt, [], t⟩
  else
    let t := t.sysReads (descX 160) 2
    match t.eventsAfter ack enabledOnly t.evtSpan.2 0 none (t.sst 160).recs with
    | (some (tag, d), t) => ⟨okSt, leBytes 8 tag ++ padTo 24 d, t⟩
    | (none, t) => ⟨okSt, List.replicate 32 0, t⟩

/-- FAULT_CLEAR with its token (09 R345 to R347). -/
def Tail.mbClear (t : Tail) (tok : Byte) : Ans :=
  if t.mbToks.contains tok then ⟨dupSt, [], t⟩
  else ⟨okSt, [], { t.faultClearAll 0xFFFFFFFF with mbToks := tok :: (t.mbToks).take 3 }⟩

/-- SLEEP_REQ (09 R344, 04 R145 to R148): REQ_STANDBY for 1, REQ_DEEP for 2. -/
def Tail.sleepOp (t : Tail) (v : Byte) : Ans :=
  let r : PwrReq := if v = 1 then .standby else .deep
  let waits := t.aon.accepted.isSome || t.aon.switching.isSome || t.aon.wakePend
  ⟨if waits || t.reqOk r then okSt else busySt, [], t.pwrReq r⟩

/-- STATION_STATUS: eight bytes per station (09 R337). -/
def Tail.stationStatus (t : Tail) : List Byte :=
  t.perStn (fun n =>
    [BitVec.ofNat 8 (t.stnGet n).sq.st.code, BitVec.ofNat 8 (t.stnFlags t.ag n), BitVec.ofNat 8 (t.g (THD_REQ.PCT n.val)), 0]
      ++ leBytes 2 (t.ag (STN_DL.DL_COUNT n.val)) ++ [0, 0]) [0xFF, 0, 0, 0, 0, 0, 0, 0]

/-- STATUS_WORD (09 R337). -/
def Tail.statusWord (t : Tail) : List Byte :=
  [BitVec.ofNat 8 (t.levels + 16 * b2n t.aon.unstable + 32 * b2n (t.aon.ho = .onB || t.aon.ho = .dwell || t.aon.ho = .heldB)),
    BitVec.ofNat 8 t.us.code]

/-- The data byte is one that FAULT_CLEAR or SLEEP_REQ does not take (09 R344, R345): BAD_OP, ahead of every other refusal (05 R864). -/
def mbBadOp (c : MbCmd) (d : List Byte) : Bool :=
  match c with
  | .faultClear => d.getD 0 0 = 0
  | .sleepReq => d.getD 0 0 != 1 && d.getD 0 0 != 2
  | _ => false

/-- A field command of the management bus: `d` are the data bytes of the request (09 R327, R328, R342). -/
def Tail.runMbOp (t : Tail) (c : MbCmd) (d : List Byte) : Ans :=
  match refusal [(mbBadOp c d, badOp), (t.fw.recovery && c != .regData, busySt)] with
  | some st => ⟨st, [], t⟩
  | none => match c with
    | .statusWord => ⟨okSt, t.statusWord, t⟩
    | .alarmSummary => ⟨okSt, t.digestEvents, t⟩
    | .unitState => ⟨okSt, [BitVec.ofNat 8 t.us.code], t⟩
    | .maxTemp => ⟨okSt, t.maxTemp, t⟩
    | .groupTemps => ⟨okSt, t.groupTemps, t⟩
    | .stationStatus => ⟨okSt, t.stationStatus, t⟩
    | .faultClear => t.mbClear (d.getD 0 0)
    | .regData => t.regDataOp (MbWin.of d) (d.drop 3)
    | .eventFetch => t.fetchOp (BitVec.ofNat 32 (leNat (d.take 4))) (d.getD 4 0 != 0)
    | .sleepReq => t.sleepOp (d.getD 0 0)
    | .heartbeat | .pageSel | .identity | .wakePing => ⟨okSt, [], t⟩

/-- The body of a RSP_MB (02 R55). -/
def mbResponse (st : Nat) (data : List Byte) : List Byte := [BitVec.ofNat 8 st, BitVec.ofNat 8 data.length] ++ data

/-- A REQ_MB accepted with DISP = EXECUTE on command stream `cstr` (09 R335): a fetch of controller mode (9) is no host activity. -/
def Tail.runMb (t : Tail) (cstr : Nat) (c : MbCmd) (d : List Byte) : Reply :=
  let body := [mbCode c, BitVec.ofNat 8 d.length] ++ d ++ [0x00]
  let a := t.commitA (fun t => ((if cstr = 8 then t.hostActivity else t).record .sqc cstr 3 true body).runMbOp c d)
  a.reply cstr (fun _ => mbResponse a.status a.data)

end Sys2Proof.Machine
end

