-- ==== Sys2Proof/Machine/Lanes.lean ====
section
/-! DEFINITION. The field-to-host lane (02 section 7): responses and their segments, the credit rule, and the message that is on the
lane next. -/

namespace Sys2Proof.Machine

/-! ## Segments (02 R66) -/

/-- The body of segment `k` of a response, and whether another follows. -/
def segBody (body : List Byte) (k : Nat) : List Byte := (body.drop (512 * k)).take 512
def segMore (body : List Byte) (k : Nat) : Bool := decide (512 * (k + 1) < body.length)

/-- Segment `k` of a response as a message; `retx` marks a retransmission (02 R54). -/
def segment (mb : Bool) (cstr : Nat) (lseq : Half) (body : List Byte) (k : Nat) (retx : Bool) : F2H :=
  .seg mb cstr lseq k (segMore body k) retx (segBody body k)

/-- A response body is what its command stream sent last (02 R62: what a NAK_H asks for again). -/
def Tail.noteSent (t : Tail) (cstr : Nat) (lseq : Half) (body : List Byte) : Tail :=
  { t with link := { t.link with sent := t.link.sent.set (Fin.ofNat 16 cstr) (some (lseq, body)) } }

/-- A response becomes pending with credit 0; `stream` is the one whose QUOTA is its share (02 R85). -/
def Tail.respond (t : Tail) (mb : Bool) (cstr : Nat) (lseq : Half) (stream : Nat) (urgent : Bool) (body : List Byte) : Tail :=
  let t := t.noteSent cstr lseq body
  { t with link := { t.link with rsps := t.link.rsps ++ [⟨mb, cstr, lseq, stream, urgent, 0, body, 0⟩] } }

/-! ## The credit rule (02 R85) -/

/-- Response `r` goes before `q`: the larger credit, RSP_MB first on a tie. -/
def rspBefore (r q : PendRsp) : Bool := decide (q.credit < r.credit) || (q.credit = r.credit && r.mb && !q.mb)

/-- The response that the credit rule picks. -/
def bestRsp : List PendRsp → Option PendRsp
  | [] => none
  | r :: rs => match bestRsp rs with
    | some q => if rspBefore q r then some q else some r
    | none => some r

/-- Response `r` of `rs` sends its next segment and pays `cost`. -/
def sendSeg (rs : List PendRsp) (r : PendRsp) (cost : Int) : F2H × List PendRsp :=
  (segment r.mb r.cstr r.lseq r.body r.next false,
    if segMore r.body r.next then rs.replace r { r with next := r.next + 1, credit := r.credit - cost } else rs.erase r)

/-- The next segment of the pending responses: an urgent one (08 R287), the only one, or the one the credit rule picks with the streams'
present `quota`, where 0 counts as 1 (06 R203: a new QUOTA acts at the next decision). -/
def nextSegment (quota : Nat → Nat) (rs : List PendRsp) : Option (F2H × List PendRsp) :=
  match rs.find? (·.urgent) with
  | some r => some (sendSeg rs r 0)
  | none =>
    let cs := if 2 ≤ rs.length then rs.map (fun r => { r with credit := r.credit + max 1 (quota r.stream) }) else rs
    (bestRsp cs).map (fun r => sendSeg cs r (if 2 ≤ rs.length then 64 else 0))

/-- QUOTA of the descriptor of stream `k` (06 R198). -/
def Tail.quota (t : Tail) (k : Nat) : Nat := t.cf (STRD_CFG.QUOTA k)

/-- The field side takes messages from the lane and sends others (02 R73, 03 R114): the link is trained, and CLK_BL and CLK_SEQ run. -/
def Tail.serves (t : Tail) : Bool := t.link.ready && t.on 2 && t.on 3

/-- Message `m` goes onto the free F2H lane. -/
def State.launch (s : State) (m : F2H) (l : Link) : State :=
  { s with f2h := [m], fs := { s.fs with link := l.carried s.fs.now 0 m.count } }

/-- The lane takes its next message as soon as it is free: a NAK_F or a retransmission first (02 R86). -/
def State.pump (s : State) : State :=
  if s.f2h != [] then s
  else match s.fs.link.prio with
    | m :: ms => s.launch m { s.fs.link with prio := ms }
    | [] => match nextSegment s.fs.quota s.fs.link.rsps with
      | some (m, rs) => s.launch m { s.fs.link with rsps := rs }
      | none => s

/-- A NAK_F waits for the next segment boundary and is counted (02 R57, R63, R86). -/
def Tail.nakF (t : Tail) (hdr : Bool) (cstr : Nat) (lseq : Half) (reason : Nat) : Tail :=
  let m : F2H := if hdr then .nakF true cstr lseq reason else .nakF false 0xFF 0xFFFF reason
  { t.inc BLNK_RETX.NAK_TX with link := { t.link with prio := t.link.prio ++ [m] } }

/-- A discarded message is counted and latched (02 R62, R87). -/
def Tail.discard (t : Tail) (f : Fd) : Tail := (t.inc f).evt 0x03 0

/-- The open message is discarded (02 R62). -/
def Tail.dropOpen (t : Tail) : Tail :=
  if t.link.openMsg = .open
    then { t.discard BLNK_ERR.RX_OTHER with link := { t.link with openMsg := .discarded } } else t

end Sys2Proof.Machine
end

