-- ==== Sys2Proof/Machine/HostPort.lean ====
section
/-! DEFINITION. The Headstock's side of the Host Serial Port (08): its pages, the header checks, the disposition of a request, the
duplicate table, the endings of a frame, resets and supply of the Headstock. -/

namespace Sys2Proof.Machine

/-! ## The pages of the Headstock (05 R187, 08 R319, 09 R363) -/

/-- The stored word of register `a` of a Headstock page. -/
def Head.word (h : Head) (u : UnitInfo) (a : Nat) : Word := smGet (regDefault u) h.regs a

def Head.setWord (h : Head) (u : UnitInfo) (a : Nat) (w : Word) : Head := { h with regs := smSet (regDefault u) h.regs a w }

/-- Field `f`, its value `x` put, and counting it up, saturating. -/
def Head.g (h : Head) (u : UnitInfo) (f : Fd) : Nat := fdGet f (h.word u f.addr)
def Head.p (h : Head) (u : UnitInfo) (f : Fd) (x : Nat) : Head := h.setWord u f.addr (fdPut f x (h.word u f.addr))
def Head.inc (h : Head) (u : UnitInfo) (f : Fd) : Head := h.p u f (satInc f.width (h.g u f))

/-- The field side as the Headstock sees it (02 R79): present, and ready. -/
def Head.present (h : Head) : Bool := h.alert.alive && h.fault.alive
def Head.ready (h : Head) : Bool := h.present && h.alert.linkRdy && h.fault.linkRdy

/-- HSP_CHc (08 R319). -/
def dupWord (l : List DupEntry) : Nat :=
  match l with
  | [] => 0
  | e :: _ => e.seq.toNat + 256 * l.length + 4096 * b2n (!e.complete)

/-- Register `a` of a Headstock page as a read shows it (05 R182, 08 section 12, 09 section 9). -/
def Head.view (h : Head) (u : UnitInfo) (a : Nat) : Word :=
  let p := a / 256
  let hold := h.g u (PG_LOCK.HOLD p)
  if a % 256 = 0x08 then fdPut (PG_STAT.LOCKED p) hold (fdPut (PG_STAT.READY p) 1 0)
  else if a % 256 = 0x14 then fdPut (PG_LOCK.LOCKED p) hold (h.word u a)
  else if a % 256 = 0x1C then cfgSum (h.word u) p
  else if a = HSP_STAT.FIELD_READY.addr then
    fdPut HSP_STAT.FIELD_READY (b2n h.ready) (fdPut HSP_STAT.FIELD_PRESENT (b2n h.present) (h.word u a))
  else if a = MBUS_CFG.ADDR.addr then fdPut MBUS_CFG.ADDR (0x58 + h.mbAddr.toNat) (h.word u a)
  else match (List.finRange 8).find? (fun (c : Fin 8) => (HSP_CH.ENTRIES c.val).addr = a) with
    | some c => BitVec.ofNat 32 (dupWord h.dup[c])
    | none => h.word u a

/-- Register `a` as a Headstock-local read shows it (05 R187 to R189). -/
def State.localView (s : State) (a : Nat) : Word := if a / 256 = 0 then s.fs.view 0 a else s.hs.view s.fs.u a

/-! ## Writes of the Headstock pages (05 R162, R169, R170) -/

/-- Register `a` once the frame is committed. -/
def Head.img (h : Head) (u : UnitInfo) (w : Wr) (a : Nat) : Word :=
  let base := if w.srst
    then (regFields a).foldl (fun v f => if f.byPgrst then fdPut f (fdGet f (regDefault u a)) v else v) (h.word u a) else h.word u a
  match w.find a with
  | some x => writeWord (regFields a) base x
  | none => base

/-- The counters that HSP_CTRL.CNT_CLR clears. -/
def hspCounters : List Fd :=
  [HSP_CNT_A.ABORTED, HSP_CNT_A.FRAMES, HSP_CNT_B.PCRC_ERR, HSP_CNT_B.HCRC_ERR, HSP_CNT_C.DUP, HSP_CNT_C.TIMEOUT, HSP_LNK.NAK_H_TX,
    HSP_LNK.RSP_DISCARD]

def Head.cntClr (h : Head) (u : UnitInfo) : Head := hspCounters.foldl (fun h f => h.p u f 0) h

/-- HSP_CTRL.DUP_CLR (08 R300). -/
def Head.dupClr (h : Head) (m : Nat) : Head :=
  { h with dup := Vector.ofFn (fun c => if m.testBit c.val then [] else h.dup[c]) }

/-- A write of MBUS_CTLR or MBUS_PUSH clears PUSH_STALLED and TRIES (09 R361). -/
def Head.pushClr (h : Head) (u : UnitInfo) (w : Wr) : Head :=
  if w.has MBUS_CTLR.EN || w.has MBUS_PUSH.INDEX then (h.p u MBUS_PSTAT.PUSH_STALLED 0).p u MBUS_PSTAT.TRIES 0 else h

/-- The writes of a frame to the HSP or MBUS page: the status, and the Headstock after; a locked page takes no page reset. -/
def Head.write (h : Head) (u : UnitInfo) (w : Wr) : Nat × Head :=
  if w.srst && h.g u (PG_LOCK.HOLD w.page) = 1 then (lockedSt, h)
  else
    let as := if w.srst then (List.range 64).map (fun i => w.page * 256 + 4 * i) else w.words.map (·.1)
    let h := (as.map (fun a => (a, h.img u w a))).foldl (fun (h : Head) (e : Nat × Word) => h.setWord u e.1 e.2) h
    let h := h.dupClr (w.cmd HSP_CTRL.DUP_CLR)
    let h := if w.cmd HSP_CTRL.CNT_CLR = 1 then h.cntClr u else h
    (okSt, h.pushClr u w)

/-- A Headstock-local register frame (08 R290): status, data, and the unit after it. -/
def State.localOp (s : State) (op : HspOp) (f : Frame) : Nat × List Byte × State :=
  let p := f.stream.toNat
  let a := p * 256 + f.addr.toNat
  let k := f.len.toNat / 4
  match op with
  | .regRead => (okSt, readBytes s.localView a k, s)
  | _ =>
    let w := payloadWr p false f.addr.toNat f.payload
    let (st, h) := if p = 1 then s.hs.write s.fs.u w else (okSt, s.hs)
    let s := { s with hs := h }
    if st != okSt then (st, [], s)
    else if op = .regWriteVerify then
      (if w.words.any (fun e => configBits e.1 e.2 != configBits e.1 (s.localView e.1)) then partialSt else okSt,
        readBytes s.localView a k, s)
    else (okSt, if frVerify f then leBytes 4 (s.localView (p * 256 + 0x1C)).toNat else [], s)

/-! ## The duplicate table (08 R296, R297) -/

/-- The entry of channel `c` for sequence number `q`. -/
def Head.entry (h : Head) (c : Fin 8) (q : Byte) : Option DupEntry := h.dup[c].find? (fun e => e.seq = q)

/-- An entry is made or updated: it is the newest of its channel, and the ninth replaces the oldest. -/
def Head.putEntry (h : Head) (c : Fin 8) (e : DupEntry) : Head :=
  { h with dup := h.dup.set c ((e :: h.dup[c].filter (fun x => x.seq != e.seq)).take 8) }

def Head.dropEntry (h : Head) (c : Fin 8) (q : Byte) : Head := { h with dup := h.dup.set c (h.dup[c].filter (fun x => x.seq != q)) }

/-- Entry `e` is the newest of channel `c`. -/
def Head.newestEntry (h : Head) (c : Fin 8) (e : DupEntry) : Bool := (h.dup[c].head?.map (·.seq)) = some e.seq

/-- What the Headstock does at the last byte of a request whose PCRC is good (08 R292, R298): the DISP it sends, and the ending it
gives at once, as status, SNAP and data. -/
def Head.disposition (h : Head) (c : Fin 8) (q : Byte) (chk : Word) : Disp × Option (Nat × Word × List Byte) :=
  match h.entry c q with
  | none => (.execute, none)
  | some e =>
    if e.chk != chk then (.abandon, some (seqConflict, 0, []))
    else if e.complete && e.n ≤ 64 then (.abandon, some (dupSt, e.snap, e.data))
    else if h.newestEntry c e then (.replay, none)
    else if e.complete then (.abandon, some (expiredSt, e.snap, []))
    else (.abandon, some (retrySt, 0, []))

/-! ## Endings -/

/-- What a frame's status counts (08 R319). -/
def Head.countEnd (h : Head) (u : UnitInfo) (st : Nat) : Head :=
  if st = pcrcErr then h.inc u HSP_CNT_B.PCRC_ERR
  else if st = dupSt || st = expiredSt then h.inc u HSP_CNT_C.DUP
  else if st = fieldTimeout then h.inc u HSP_CNT_C.TIMEOUT
  else h

/-- HSP_STAT describes the frame that ends with `st` (08 R319). -/
def Head.last (h : Head) (u : UnitInfo) (f : Frame) (st : Nat) : Head :=
  ((h.p u HSP_STAT.LAST_CH (frCh f).val).p u HSP_STAT.LAST_SEQ f.seq.toNat).p u HSP_STAT.LAST_STATUS st

/-- Bytes driven on HS_IO1 alone. -/
def single (d : List Byte) : List Driven := d.map (fun b => ⟨false, b⟩)

/-- The bytes `d` of a response body behind its first `sent` (08 R276, R283): STATUS, SEQ and SNAP on one lane, the data and the RCRC on
four with FLAGS.QUAD. -/
def bodyLanes (quad : Bool) (sent : Nat) (d : List Byte) : List Driven :=
  single (d.take (6 - sent)) ++ (d.drop (6 - sent)).map (fun b => ⟨quad, b⟩)

/-- The frame in progress has its ending; nothing more is driven (08 R284). -/
def Head.ended (h : Head) (d : List Driven) : Head :=
  { h with drive := h.drive ++ d, frame := h.frame.map (fun x => { x with phase := .over }), out := none }

/-- The frame ends in the error form behind wait bytes `w` (08 R276). -/
def Head.endError (h : Head) (u : UnitInfo) (f : Frame) (w : List Byte) (st : Nat) : Head :=
  ((h.ended (single (w ++ errorForm st f.seq))).countEnd u st).last u f st

/-- One wait byte and the response form (08 R276, R290). -/
def answerLanes (quad : Bool) (body : List Byte) : List Driven := single [0x00, 0xA5] ++ bodyLanes quad 0 body

/-- An answer from the duplicate table after one wait byte (08 R292, R298). -/
def Head.endLocal (h : Head) (u : UnitInfo) (f : Frame) (st : Nat) (snap : Word) (data : List Byte) : Head :=
  if st = seqConflict then h.endError u f [0x00] st
  else ((h.ended (answerLanes (frQuad f) (responseBody st f.seq snap data))).countEnd u st).last u f st

/-- A request that went out with `disp` ends without a good response (08 R297). -/
def Head.pendingFor (h : Head) (disp : Disp) (op : HspOp) (f : Frame) : Head :=
  if disp = .execute then h.putEntry (frCh f) ⟨f.seq, frameChk op f, false, 0, 0, 0, []⟩ else h

/-- The request outstanding ends without a good response. -/
def Head.pendingEntry (h : Head) (op : HspOp) (f : Frame) : Head :=
  match h.out with
  | some o => h.pendingFor o.disp op f
  | none => h

/-- The end of a transaction that found the field side ready releases WAKE (02 R82). -/
def Head.release (h : Head) : Head := { h with wake := false }

/-! ## Frames byte by byte -/

/-- What waits in the receive buffer is clocked out by the next transaction of its port (01 R22, 03 R91): on the HSP no frame is left that
waits for it, so that a good response is counted and the rest ignored (08 R313). -/
def State.takeLateHsp (s : State) : State :=
  { s with
    rxBuf := s.rxBuf.filter (·.mb)
    hs := s.rxBuf.foldl (fun (h : Head) e => match e.mb, e.res with
      | false, .body _ => h.inc s.fs.u HSP_LNK.RSP_DISCARD
      | _, _ => h) s.hs }

/-- The message begun on the H2F lane is received by the field side, while its link is trained (02 R62). A message left open before it is
discarded, as one that no EOF ended (DESIGN CHOICE, log entry 104). -/
def State.openLane (s : State) : State :=
  if s.fs.serves then
    let t := s.fs.dropOpen
    { s with fs := { t with link := { t.link with openMsg := .open } }.logAll }
  else { s with fs := { s.fs with link := { s.fs.link with openMsg := .none } } }

/-- The message ends: it is on the lane whole, unless the field side has already discarded its beginning (02 R62). -/
def State.closeLane (s : State) (m : H2F) : State :=
  let s' := { s with fs := { s.fs with link := { s.fs.link with openMsg := .none } } }
  if s.fs.link.openMsg = .open then { s' with h2f := s'.h2f ++ [m] } else s'

/-- The next LSEQ of command stream `c` (08 R865). -/
def Head.nextLseq (h : Head) (c : Fin 10) : Half × Head := (h.lseq[c] + 1, { h with lseq := h.lseq.set c (h.lseq[c] + 1) })

/-- A header is rejected with `st` (08 R278, R319); HSP_STAT describes it unless it is known to address the Headstock's own registers. -/
def Head.rejected (h : Head) (u : UnitInfo) (loc : Bool) (f : Frame) (st : Nat) : Head := if loc then h else h.last u f st

/-- A header is rejected at HACK with `st` (08 R278). -/
def Head.reject (h : Head) (u : UnitInfo) (loc : Bool) (f : Frame) (st : Nat) : Head :=
  let h := if st = hcrcErr then h.inc u HSP_CNT_B.HCRC_ERR else h
  { h with drive := single [0x5A, BitVec.ofNat 8 st], frame := none }.rejected u loc f st

/-- A good header of a field-addressed frame (08 R278, 02 R82, R84): the status that rejects it. -/
def Head.fieldStatus (h : Head) : Option Nat := if !h.present then some linkDown else if !h.ready then some busySt else none

/-- HSP_HEADER (08 R278): HS_CS_N has fallen and the twelve header bytes are clocked in. -/
def execHspHeader (bytes : List Byte) (s : State) : Host.Outcome State Fault Refusal :=
  let u := s.fs.u
  let f := headerFrame bytes
  if !s.hs.powered || s.hs.frame.isSome || bytes.length != 12 then .next s
  else
    let s := s.takeLateHsp
    let h := s.hs
    if BitVec.ofNat 32 (leNat (bytes.drop 8)) != crc32c (bytes.take 8) then .next { s with hs := h.reject u false f hcrcErr }
    else match opOf (bytes.getD 0 0) with
      | none => .next { s with hs := h.reject u false f badOp }
      | some op =>
        match headerCheck u op f with
        | some st => .next { s with hs := h.reject u (frameLocal op f) f st }
        | none =>
          let start (h : Head) : Head := { h with frame := some ⟨op, f, headerCrc op f, .payload⟩, drive := single [0xC3], out := none }
          if frameLocal op f then .next { s with hs := start h }
          else match h.fieldStatus with
            | some st => .next { s with hs := { h with wake := h.wake || st = busySt }.reject u false f st }
            | none =>
              let (q, h) := h.nextLseq ⟨(frCh f).val, by omega⟩
              let h := (start h).inc u HSP_CNT_A.FRAMES
              .next ({ s with hs := { h with out := some ⟨(frCh f).val, q, .execute, [], 0, []⟩ } }).openLane

/-- The last byte of a Headstock-local request (08 R290). -/
def State.localEnd (s : State) (op : HspOp) (f : Frame) (bad : Bool) : State :=
  if bad then { s with hs := (s.hs.ended (single (0x00 :: errorForm pcrcErr f.seq))).countEnd s.fs.u pcrcErr }
  else
    let (st, d, s) := s.localOp op f
    { s with hs := s.hs.ended (answerLanes (frQuad f) (responseBody st f.seq 0 d)) }

/-- The last byte of a field-addressed request (08 R292, R298); `chk` is its PCRC, or its HCRC, as it was clocked in. -/
def State.fieldEnd (s : State) (op : HspOp) (f : Frame) (o : OutReq) (chk : Word) (bad : Bool) : State :=
  let u := s.fs.u
  let h := s.hs
  let (disp, ans) := if bad then (.abandon, none) else h.disposition (frCh f) f.seq chk
  let s := s.closeLane (.reqHsp o.cstr o.lseq op f chk disp)
  if bad then { s with hs := h.endError u f [0x00] pcrcErr }
  else match ans with
    | some (st, snap, d) =>
      let h := if st = retrySt then h.dropEntry (frCh f) f.seq else h
      { s with hs := h.endLocal u f st snap d }
    | none =>
      { s with hs := { h with
          out := some { o with disp := disp }
          frame := h.frame.map (fun x => { x with fr := f, phase := .waiting }) } }

/-- HSP_REQUEST_END (08 R292): `bytes` are the payload and the PCRC, none for an operation without a payload. -/
def execHspRequestEnd (bytes : List Byte) (s : State) : Host.Outcome State Fault Refusal :=
  match s.hs.frame with
  | some ⟨op, f, hcrc, .payload⟩ =>
    let n := f.len.toNat
    if bytes.length != (if opPayload op then n + 4 else 0) then .next s
    else
      let f := { f with payload := if opPayload op then bytes.take n else [] }
      let chk := if opPayload op then BitVec.ofNat 32 (leNat (bytes.drop n)) else hcrc
      let bad := opPayload op && chk != payloadCrc f
      match s.hs.out with
      | none => .next (s.localEnd op f bad)
      | some o => .next (s.fieldEnd op f o chk bad)
  | _ => .next s

/-- FRAME_ABORT (08 R315): HS_CS_N rises before the request's last byte, after `k` bytes of the frame. -/
def execFrameAbort (k : Nat) (s : State) : Host.Outcome State Fault Refusal :=
  let u := s.fs.u
  match s.hs.frame with
  | none => if s.hs.powered && k < 12 then let s := s.takeLateHsp; .next { s with hs := s.hs.inc u HSP_CNT_A.ABORTED } else .next s
  | some x =>
    if x.phase != .payload then .next s
    else
      let h := s.hs.inc u HSP_CNT_A.ABORTED
      match s.hs.out with
      | none => .next { s with hs := { h with frame := none } }
      | some o =>
        .next { s.closeLane (.reqHsp o.cstr o.lseq x.op x.fr 0 .abandon) with
          hs := ({ h with frame := none, out := none }).release }

/-- HS_CS_N_RISE (08 R297, R315): HS_CS_N rises after the request's last byte. -/
def execHsCsNRise (s : State) : Host.Outcome State Fault Refusal :=
  match s.hs.frame with
  | some x =>
    if x.phase = .payload then .next s
    else
      let loc := frameLocal x.op x.fr
      let h := if x.phase = .over then s.hs else s.hs.pendingEntry x.op x.fr
      let h := { h with frame := none, out := none }
      .next { s with hs := if loc then h else h.release }
  | none => .next s

/-- HSP_WAIT_MAX within its limits (08 R319). -/
def Head.waitMax (h : Head) (u : UnitInfo) : Nat := clampN 16 4096 (h.g u HSP_CFG.WAIT_MAX)

/-- HSP_CNT_CLR (08 R319). -/
def execHspCntClr (s : State) : Host.Outcome State Fault Refusal :=
  .next (if s.hs.powered then { s with hs := s.hs.cntClr s.fs.u } else s)

/-- DUP_CLR (08 R300). -/
def execDupClr (mask : Byte) (s : State) : Host.Outcome State Fault Refusal :=
  .next (if s.hs.powered then { s with hs := s.hs.dupClr mask.toNat } else s)

/-! ## Resets and supply of the Headstock (00 R14, 04 R122, 08 R300, R316, R866, 09 R354) -/

/-- The Headstock registers that reset kinds `ks` restore are at their reset values. -/
def Head.resetRegs (h : Head) (u : UnitInfo) (ks : List RstBy) : Head :=
  { h with regs := keepFields u (fun f => !ks.contains f.rby) h.regs }

/-- A pulse of `ns` on a reset pin resets (08 R866): whether one between 0.1 us and 1.0 us does is open. -/
def pulseActs (k ns : Nat) : Bool := decide (1000 ≤ ns) || (decide (100 ≤ ns) && Config.shortPulseResets k)

/-- The open message is closed by EOF at once; the field side discards it as a length mismatch and answers NAK_F (08 R316, 02 R62). -/
def Tail.cutMessage (t : Tail) (cstr : Nat) (lseq : Half) : Tail :=
  if t.link.openMsg = .none then t
  else
    let open? := t.link.openMsg = .open
    let t := { t with link := { t.link with openMsg := .none } }
    if open? then
      ((t.discard BLNK_ERR.RX_CRC).nakF true cstr lseq 3).logAll
    else t

/-- HRST of the Headstock: the HSP registers at their reset values with HRST_SEEN, the duplicate table empty, no frame; a field-addressed
one that it ends had found the field side ready (02 R82). -/
def Head.hrst (h : Head) (u : UnitInfo) : Head :=
  { h.resetRegs u [.hrst, .hrstPg] with
    dup := Vector.replicate 8 [], frame := none, drive := [], out := none
    wake := h.wake && !h.frame.any (fun x => !frameLocal x.op x.fr) }

/-- HRST (08 R866): a low pulse of `ns` on HS_RST_N. -/
def execHrst (ns : Nat) (s : State) : Host.Outcome State Fault Refusal :=
  let acts := pulseActs s.fs.fresh ns
  let s := { s with fs := s.fs.draw }
  if !s.hs.powered || !acts then .next s
  else
    let fs := match s.hs.out with
      | some o => s.fs.cutMessage o.cstr o.lseq
      | none => s.fs
    .next { s with hs := s.hs.hrst s.fs.u, rxBuf := s.rxBuf.filter (·.mb), fs := fs }.pump

/-- MBRST of the Headstock: the MBUS registers at their reset values with MBRST_SEEN, the straps sampled, no transaction; one that it ends
and that had found the field side ready releases WAKE (02 R82). -/
def Head.mbrst (h : Head) (u : UnitInfo) : Head :=
  { h.resetRegs u [.mbrst, .mbrstPg] with mbAddr := u.straps, mb := MbState.init, wake := h.wake && !h.mb.found }

/-- MBRST (09 R354): a low pulse of `ns` on MB_RST_N. -/
def execMbrst (ns : Nat) (s : State) : Host.Outcome State Fault Refusal :=
  let acts := pulseActs s.fs.fresh ns
  let s := { s with fs := s.fs.draw }
  if !s.hs.powered || !acts then .next s else .next { s with hs := s.hs.mbrst s.fs.u, rxBuf := s.rxBuf.filter (fun e => !e.mb) }

/-- HS_3V3_RISE (04 R122, 08 R865): HRST and MBRST, LSEQ counters at 0, the level cells at their defaults. -/
def execHs3v3Rise (s : State) : Host.Outcome State Fault Refusal :=
  .next (if s.hs.powered then s else { s with hs := Head.init s.fs.u.straps })

/-- HS_3V3_FALL (04 R122, 08 R317): the Headstock stops, and nothing of its frame or transaction remains; what the field side still
sends reaches nobody. -/
def execHs3v3Fall (s : State) : Host.Outcome State Fault Refusal :=
  if s.hs.powered then
    .next { s with
      hs := { s.hs with powered := false, frame := none, drive := [], out := none, wake := false, mb := MbState.init }
      f2h := []
      rxBuf := []
      fs := { s.fs with link := { s.fs.link with rsps := [], prio := [] } } }
  else .next s

/-- PGRST (05 R169 to R171): a write of 1 to PG_CTRL.SRST of page `page` as a frame of its own. -/
def execPgrst (page : Byte) (s : State) : Host.Outcome State Fault Refusal :=
  let p := page.toNat
  let w := Wr.one (PG_CTRL.SRST p).addr 2
  if p = 1 || p = 2 then .next (if s.hs.powered then { s with hs := (s.hs.write s.fs.u w).2 } else s)
  else tailNext s (fun t =>
    if !t.on 3 || reservedPage p || t.absentPage p then t
    else match refusal (t.writeCheck w) with
      | some st => (t.writeRefused w st).finish
      | none => (t.commit (fun t => t.writeApply w noFrame)).finish)

end Sys2Proof.Machine
end

