-- ==== Sys2Proof/Machine/Link.lean ====
section
/-! DEFINITION. The Varfen link (02): what the field side does with a received message, what the Headstock does with a received
segment of an HSP response, training, and the level channels. -/

namespace Sys2Proof.Machine

/-! ## Messages at the field side (02 R62) -/

/-- A message with a defect is discarded and answered with NAK_F (02 R57, R62, R63); one whose header cannot be read names no request. -/
def Tail.badMessage (t : Tail) (reason : Nat) (hdr : Option Msg) : Tail :=
  let t := t.discard (if reason = nakType then BLNK_ERR.RX_OTHER else BLNK_ERR.RX_CRC)
  (match hdr with
    | some m => t.nakF true m.cstr m.lseq reason
    | none => t.nakF false 0 0 reason).finish

/-- A good request is accepted: its LSEQ is the last accepted one, and a gap is counted (02 R62, R865). -/
def Tail.acceptReq (t : Tail) (c : Fin 16) (lseq : Half) : Tail :=
  let t := match t.link.lastLseq[c] with
    | some l => if lseq = l + 1 then t else (t.inc BLNK_SEQ.SEQ_GAP).evt 0x03 4
    | none => t
  { t.p BLNK_SEQ.LAST_LSEQ lseq.toNat with link := { t.link with lastLseq := t.link.lastLseq.set c (some lseq) } }

/-- The stream whose descriptor gives a response its QUOTA (02 R85): the STREAM byte for stream operations, the command stream for register
operations. R85 names neither CMD, NOP, STATUS_DIGEST nor the SESSION operations: the command stream for these too (DESIGN CHOICE, log
entry 112). -/
def quotaStream (op : HspOp) (f : Frame) : Nat :=
  match op with
  | .streamPut | .streamGet | .streamPeek => f.stream.toNat
  | _ => (frCh f).val

/-- The response of an HSP frame is sent ahead of the credit rule (08 R287). -/
def rspUrgent (op : HspOp) (f : Frame) : Bool := op = .statusDigest || (frUrgent f && f.len.toNat ≤ 64)

/-- The body of a kept response. -/
def Retained.body (r : Retained) : List Byte :=
  if r.mb then mbResponse r.status r.data else responseBody r.status r.seq r.snap r.data

/-- A response is kept until the stream's next request with EXECUTE (02 R70). -/
def Tail.keepRsp (t : Tail) (c : Fin 16) (r : Retained) : Tail :=
  let t := t.sysWrites (rspX c.val) 520
  { t with link := { t.link with retained := t.link.retained.set c (some r) } }

/-- A good request on command stream `c` (02 R56, R62): ABANDON and the LSEQ accepted last are discarded, the latter answered with the
retained response; else it is accepted, and `run` gives the body of its response. -/
def Tail.takeReq (t : Tail) (c : Fin 16) (lseq : Half) (disp : Disp) (run : Tail → List Byte × Tail) : Option (List Byte) × Tail :=
  if disp = .abandon then (none, (t.discard BLNK_ERR.RX_OTHER).finish)
  else if t.link.lastLseq[c] = some lseq then
    let t := t.sysReads (rspX c.val) 520
    (t.link.retained[c].map Retained.body, (t.discard BLNK_ERR.RX_OTHER).finish)
  else
    let (b, t) := run (t.acceptReq c lseq)
    (some b, t)

/-- A REPLAY of an HSP request (08 R294, R299): the kept response as a DUP where it matches and records an execution, else RETRY; nothing
executes. -/
def Tail.replay (t : Tail) (c : Fin 16) (f : Frame) (chk : Word) : List Byte × Tail :=
  let t := t.hostActivity.sysReads (rspX c.val) 520
  let same (r : Retained) : Bool := r.seq = f.seq && r.chk = chk && (r.status = okSt || r.status = partialSt || r.status = dupSt)
  (match t.link.retained[c] with
    | some r => if same r then responseBody dupSt r.seq r.snap r.data else responseBody retrySt f.seq 0 []
    | none => responseBody retrySt f.seq 0 [], t.finish)

/-- What a good REQ_HSP is answered (02 R56, R62): the body of the response, if one is sent. -/
def Tail.answerHsp (t : Tail) (cstr : Nat) (lseq : Half) (op : HspOp) (f : Frame) (chk : Word) (disp : Disp) : Option (List Byte) × Tail :=
  let c := Fin.ofNat 16 cstr
  t.takeReq c lseq disp (fun t =>
    if disp = .replay then t.replay c f chk
    else
      let r := t.runHsp cstr op f
      (responseBody r.status f.seq r.snap r.data, r.t.keepRsp c ⟨false, lseq, f.seq, chk, r.status, r.snap, r.data⟩))

/-- A REPLAY of a bus request (02 R56): the kept response, else RETRY; nothing executes. The Headstock never sends one. -/
def Tail.replayMb (t : Tail) (c : Fin 16) : List Byte × Tail :=
  let t := (if c = 8 then t.hostActivity else t).sysReads (rspX c.val) 520
  (match t.link.retained[c] with
    | some r => if r.mb then r.body else mbResponse retrySt []
    | none => mbResponse retrySt [], t.finish)

/-- What a good REQ_MB is answered (02 R56, R62). -/
def Tail.answerMb (t : Tail) (cstr : Nat) (lseq : Half) (cmd : Byte) (d : List Byte) (disp : Disp) : Option (List Byte) × Tail :=
  let c := Fin.ofNat 16 cstr
  t.takeReq c lseq disp (fun t =>
    if disp = .replay then t.replayMb c
    else match mbOf cmd with
      | some m =>
        let r := t.runMb cstr m d
        (mbResponse r.status r.data, r.t.keepRsp c ⟨true, lseq, 0, 0, r.status, r.snap, r.data⟩)
      | none => (mbResponse badOp [], (t.keepRsp c ⟨true, lseq, 0, 0, badOp, 0, []⟩).finish))

/-- A good REQ_HSP and a good REQ_MB: their responses become pending. -/
def Tail.reqHsp (t : Tail) (cstr : Nat) (lseq : Half) (op : HspOp) (f : Frame) (chk : Word) (disp : Disp) : Tail :=
  match t.answerHsp cstr lseq op f chk disp with
  | (some b, t) => t.respond false cstr lseq (quotaStream op f) (rspUrgent op f) b
  | (none, t) => t

def Tail.reqMb (t : Tail) (cstr : Nat) (lseq : Half) (cmd : Byte) (d : List Byte) (disp : Disp) : Tail :=
  match t.answerMb cstr lseq cmd d disp with
  | (some b, t) => t.respond true cstr lseq cstr false b
  | (none, t) => t

/-- A good NAK_H (02 R62): the segment named is sent again, ahead of the credit rule, if the stream's last response has it. One that names
a segment the field side does not hold is dropped: R62 states no counter and no answer for it (DESIGN CHOICE, log entry 22). -/
def Tail.retransmit (t : Tail) (cstr : Nat) (lseq : Half) (k : Nat) : Tail :=
  match t.link.sent[Fin.ofNat 16 cstr] with
  | some (l, body) =>
    if l = lseq && (k = 0 || 512 * k < body.length) then
      let t := (t.inc BLNK_RETX.NAK_RX).evt 0x03 1
      ({ t with link := { t.link with prio := t.link.prio ++ [segment (decide (8 ≤ cstr)) cstr lseq body k true] } }).finish
    else t
  | none => t

/-- A message of the H2F lane that checked good. -/
def Tail.take (t : Tail) : H2F → Tail
  | .reqHsp c l op f chk d => t.reqHsp c l op f chk d
  | .reqMb c l cmd d disp => t.reqMb c l cmd d disp
  | .nakH c l k _ _ => t.retransmit c l k

/-- What the field side makes of message `m` when it arrives as `rx` (02 R53, R60, R62): one that no EOF ends stays open. -/
def Tail.hears (t : Tail) (m : H2F) (rx : Rx) : Tail :=
  let t := { t with link := t.link.carried t.now m.count 0 }
  if !t.serves then t
  else match m.heard rx with
    | .good m => t.take m
    | .bad r hdr => t.badMessage r hdr
    | .cut _ => { t with link := { t.link with openMsg := .open } }
    | .none => t

/-- The message `m` at the front of the H2F lane arrives as `rx`. -/
def State.received (s : State) (m : H2F) (rest : List H2F) (rx : Rx) : State :=
  ({ s with h2f := rest }.tail (fun t => t.hears m rx)).pump

/-- REQ_HSP (02 R61, R62): the REQ_HSP at the front of the H2F lane arrives as `rx`. -/
def execReqHsp (rx : Rx) (s : State) : Host.Outcome State Fault Refusal :=
  match s.h2f with
  | .reqHsp c l op f chk d :: rest => .next (s.received (.reqHsp c l op f chk d) rest rx)
  | _ => .next s

/-- REQ_MB (02 R61, R62): the REQ_MB at the front of the H2F lane arrives as `rx`. -/
def execReqMb (rx : Rx) (s : State) : Host.Outcome State Fault Refusal :=
  match s.h2f with
  | .reqMb c l cmd d disp :: rest => .next (s.received (.reqMb c l cmd d disp) rest rx)
  | _ => .next s

/-- NAK_H (02 R62): the NAK_H at the front of the H2F lane arrives as `rx`; during training nobody answers it (R75). -/
def execNakH (rx : Rx) (s : State) : Host.Outcome State Fault Refusal :=
  match s.h2f with
  | .nakH c l k r ins :: rest => .next (s.received (.nakH c l k r ins) rest rx)
  | _ => .next s

/-- OPEN_MESSAGE_TIMEOUT (02 R62): no symbol for 40 ms inside an open message. -/
def execOpenMessageTimeout (s : State) : Host.Outcome State Fault Refusal :=
  tailNext s (fun t => if t.link.openMsg = .open then ((t.elapse (40 * ms1)).dropOpen).finish else t)

/-- HS_PRESENT_FALL (02 R62, R865, 08 R306, 10 R392, 22 R775, 23 R801): four WAKE interrogations went unanswered. The field side forgets
the last accepted LSEQs. -/
def execHsPresentFall (s : State) : Host.Outcome State Fault Refusal :=
  tailNext s (fun t =>
    if !(t.link.hsPresent && decide (4 ≤ t.link.deafRun)) then t
    else
      let t := { t with link := { t.link with
        hsPresent := false, wakeLvl := false, wakeRun := 0, lastLseq := Vector.replicate 16 none } }
      if !t.pd 3 then t
      else
        let t := t.dropOpen.cancelDeliveries
        let t := (t.evt 0x03 2).commitOn 161 (fun t => t.sessEnd noFrame 4)
        let t := (List.finRange 2).foldl (fun t (g : Fin 2) => t.grpLinkLoss g false) t
        let t := if t.cfb EMG_CFG.FAST && t.emg.armed && !t.emg.declared then t.declareEclipse else t
        t.finish)

/-! ## HSP responses at the Headstock (02 R64 to R71) -/

/-- The frame in progress whose whole request `c`, `l` names, with the request. -/
def Head.awaiting (h : Head) (c : Nat) (l : Half) : Option (HspFrame × OutReq) :=
  match h.frame, h.out with
  | some x, some o => if (x.phase = .waiting || x.phase = .data) && o.cstr = c && o.lseq = l then some (x, o) else none
  | _, _ => none

/-- Segment `k` of request `o`, if it has checked good. -/
def OutReq.part (o : OutReq) (k : Nat) : Option (Bool × List Byte) := (o.parts.find? (fun e => e.1 = k)).map (·.2)

/-- The response body that the host has been passed. -/
def OutReq.body (o : OutReq) : List Byte := (List.range o.passed).flatMap (fun k => match o.part k with | some (_, b) => b | none => [])

/-- Good segments are passed on in order (02 R67): the request, the bytes passed, and whether the last segment is among them. -/
def OutReq.pass : Nat → OutReq → List Byte → OutReq × List Byte × Bool
  | 0, o, d => (o, d, false)
  | n + 1, o, d =>
    match o.part o.passed with
    | none => (o, d, false)
    | some (more, b) =>
      if more then OutReq.pass n { o with passed := o.passed + 1 } (d ++ b) else ({ o with passed := o.passed + 1 }, d ++ b, true)

/-- A whole response updates the duplicate table (08 R297). -/
def Head.learn (h : Head) (op : HspOp) (f : Frame) (body : List Byte) : Head :=
  let st := (body.getD 0 0).toNat
  let d := (body.drop 6).take (body.length - 10)
  if st = okSt || st = partialSt || st = dupSt then
    h.putEntry (frCh f) ⟨f.seq, frameChk op f, true, st, BitVec.ofNat 32 (leNat ((body.drop 2).take 4)), d.length, d.take 64⟩
  else if st = retrySt then h.dropEntry (frCh f) f.seq
  else h

/-- A whole response ends the frame (08 R276, R297, R319). -/
def Head.complete (h : Head) (u : UnitInfo) (x : HspFrame) (body : List Byte) : Head :=
  let st := (body.getD 0 0).toNat
  (((h.learn x.op x.fr body).ended []).countEnd u st).last u x.fr st

/-- The frame of request `o` stands with its response body as far as the host has been passed it: one wait byte at least goes before 0xA5
(08 R276; log entry 31), and STATUS, SEQ and SNAP are single-lane. -/
def HspFrame.driven (x : HspFrame) (sent : Nat) (d : List Byte) : List Driven :=
  (if sent = 0 && !d.isEmpty then single [0x00, 0xA5] else []) ++ bodyLanes (frQuad x.fr) sent d

/-- A good segment (02 R67): 0xA5 goes out before segment 0; a copy of a segment already good changes nothing. -/
def Head.segGood (h : Head) (u : UnitInfo) (x : HspFrame) (o : OutReq) (k : Nat) (more : Bool) (b : List Byte) : Head :=
  if (o.part k).isSome then h
  else
    let (o', d, done) := OutReq.pass 16 { o with parts := o.parts ++ [(k, more, b)] } []
    let h := { h with
      drive := h.drive ++ x.driven o.body.length d
      out := some o'
      frame := some { x with phase := if o'.passed = 0 then .waiting else .data } }
    if done then h.complete u x o'.body else h

/-- The rest of a response that lost a segment (08 R314): data 0x00, and the complement of the RCRC of what was sent. -/
def cutRest (sent : List Byte) (n : Nat) : List Byte :=
  let b := padTo (6 + n) sent
  (b ++ leBytes 4 (crc32c b ^^^ BitVec.allOnes 32).toNat).drop sent.length

/-- After 0xA5 the response ends with its rest cut (08 R314). -/
def Head.cut (h : Head) (u : UnitInfo) (x : HspFrame) (o : OutReq) : Head :=
  (h.ended (bodyLanes (frQuad x.fr) o.body.length (cutRest o.body x.fr.len.toNat))).last u x.fr (o.body.getD 0 0).toNat

/-- A response segment is lost (02 R69, 08 R297, R314): FIELD_TIMEOUT before 0xA5, a response with a wrong RCRC after it. -/
def Head.segLost (h : Head) (u : UnitInfo) (x : HspFrame) (o : OutReq) : Head :=
  let h := h.pendingEntry x.op x.fr
  if o.passed = 0 then h.endError u x.fr [0x00] fieldTimeout else h.cut u x o

/-- An HSP request is on the H2F lane, begun and not ended: what goes out beside it is inserted (02 R48, R51). -/
def Head.sending (h : Head) : Bool := h.out.isSome && h.frame.any (fun x => x.phase = .payload)

/-- A segment is asked for again (02 R68), counted in the HSP page (R71, 08 R319). -/
def State.askAgain (s : State) (c : Nat) (l : Half) (k reason : Nat) : State :=
  { s with hs := s.hs.inc s.fs.u HSP_LNK.NAK_H_TX, h2f := s.h2f ++ [.nakH c l k reason s.hs.sending] }

/-- Segment `k` has not checked good (02 R68, R69): at most two NAK_H ask for it. -/
def State.segBad (s : State) (x : HspFrame) (o : OutReq) (k reason : Nat) : State :=
  if o.naks.count k < 2
    then { s with hs := { s.hs with out := some { o with naks := o.naks ++ [k] } } }.askAgain o.cstr o.lseq k reason
  else { s with hs := s.hs.segLost s.fs.u x o }

/-- The HSP frame concerned by a NAK_F ends with PCRC_ERR (02 R64), and makes no entry (R65); after 0xA5 its response is cut. -/
def Head.nakHsp (h : Head) (u : UnitInfo) (x : HspFrame) (o : OutReq) : Head :=
  if o.passed = 0 then h.endError u x.fr [0x00] pcrcErr else h.cut u x o

/-! ## Training (02 section 5) -/

/-- The link may be trained: PD2 runs with both PLLs locked, and no sleep or shutdown holds it (02 R72, R73). -/
def Tail.trains (t : Tail) : Bool :=
  t.pd 2 && t.clk.pllA && t.clk.pllB && !t.link.ready && t.aon.switching != some .deep && t.us != .thermalShutdown

/-- LINK_TRAINED (02 R72 to R74): calibration passes; LINK_RDY is set, TRAIN_FAIL cleared. -/
def execLinkTrained (s : State) : Host.Outcome State Fault Refusal :=
  tailNext s (fun t =>
    if t.trains then ({ t.elapseTo (t.link.trainAt + bootT4) with
      link := { t.link with ready := true, trainFail := false }, boot := { t.boot with t4 := true } }).finish else t)

/-- TRAIN_FAIL (02 R74, R87): calibration fails twice in a row; start-up, or the wake from Deep sleep, goes on without the link. -/
def execTrainFail (s : State) : Host.Outcome State Fault Refusal :=
  tailNext s (fun t =>
    if t.trains || (t.aon.wakePend && t.pd 2 && t.us = .sleep)
      then (({ t with link := { t.link with trainFail := true } }).evt 0x03 3).finish else t)

/-- TRAINING_RETRY (02 R74): 1.0 s after a failure, a further training run begins. -/
def execTrainingRetry (s : State) : Host.Outcome State Fault Refusal :=
  tailNext s (fun t =>
    if t.trains && t.link.trainFail
      then (({ t.elapse s1 with link := { t.link with trainAt := t.now + s1 } } : Tail).inc BLNK_STAT.TRAIN_CNT).finish else t)

/-- RETRAIN (02 R75): a write of BLNK_CTRL.RETRAIN is committed. -/
def execRetrain (s : State) : Host.Outcome State Fault Refusal :=
  tailNext s (fun t => if t.on 3 then (t.commit (fun t => t.hookBlnk (Wr.one BLNK_CTRL.RETRAIN.addr 1))).finish else t)

/-- Training begins anew: LINK_RDY clears, and a message half received is lost. -/
def Link.untrain (l : Link) : Link :=
  { l with ready := false, retrain := false, openMsg := if l.openMsg = .open then .discarded else l.openMsg }

/-- RETRAIN_EFFECT (02 R73, R75): every response has been sent; LINK_RDY clears and a training run begins. -/
def execRetrainEffect (s : State) : Host.Outcome State Fault Refusal :=
  if s.f2h = [] then
    tailNext s (fun t =>
      if t.link.retrain && t.link.rsps.isEmpty && t.link.prio.isEmpty then
        ({ t.inc BLNK_STAT.TRAIN_CNT with link := { t.link.untrain with trainAt := t.now } }).finish
      else t)
  else .next s

/-- BLNK_CNT_CLR (02 R88): BLNK_CTRL.CNT_CLR. -/
def execBlnkCntClr (s : State) : Host.Outcome State Fault Refusal :=
  tailNext s (fun t => if t.on 3 then (t.commit (fun t => t.hookBlnk (Wr.one BLNK_CTRL.CNT_CLR.addr 2))).finish else t)

/-! ## The level channels (02 section 6) -/

/-- The refresh that AON sends on channel `ch` (02 R76, R80, R81). -/
def Tail.refresh (t : Tail) (ch : LevelCh) : BitVec 3 :=
  levelCode (match ch with | .alert => t.alertLevel | .fault => t.faultLevel) t.link.ready

/-- What a receive cell makes of a code (02 R77, R78): one with wrong parity is no refresh. -/
def LevelCell.take (c : LevelCell) (code : BitVec 3) : LevelCell :=
  if codeGood code then ⟨true, code.getLsbD 0, code.getLsbD 1⟩ else c

end Sys2Proof.Machine
end

