-- ==== Sys2Proof/Machine/Frames.lean ====
section
/-! DEFINITION. The end of a frame by its wait bytes (08 R312, R314), and frames as whole operations (08 sections 2 to 8). -/

namespace Sys2Proof.Machine

/-! ## The limit of the wait bytes -/

/-- FIELD_TIMEOUT (08 R312): 0xA5 was not ready by wait byte HSP_WAIT_MAX. Behind 0xA5 the host clocks the first byte of a segment that
has not checked good, and the rest of the response is cut (R314; DESIGN CHOICE, log entry 31: the table has one row for both). -/
def execFieldTimeout (s : State) : Host.Outcome State Fault Refusal :=
  match s.hs.frame, s.hs.out with
  | some x, some o =>
    let u := s.fs.u
    let h := s.hs.pendingEntry x.op x.fr
    if x.phase = .waiting then .next { s with hs := h.endError u x.fr (List.replicate (h.waitMax u) 0x00) fieldTimeout }
    else if x.phase = .data then .next { s with hs := h.cut u x o }
    else .next s
  | _, _ => .next s

/-! ## Frames as whole operations -/

/-- The symbols of a response of `n` body bytes on the F2H lane (02 R48, R66). -/
def rspSymbols (n : Nat) : Nat := n + 22 * max 1 ((n + 511) / 512)

/-- The Headstock ends a frame carried whole with `st`, without the response of the field side. -/
def State.endWhole (s : State) (f : Frame) (st : Nat) (snap : Word) (d : List Byte) : State :=
  { s with hs := ((s.hs.countEnd s.fs.u st).last s.fs.u f st).release, rsp := some ⟨st, f.seq, snap, d⟩ }

/-- The request goes to the field side with DISP `disp` and is answered without loss; while the field side does not serve it, the frame
ends with FIELD_TIMEOUT (08 R297, R312). -/
def State.fieldWhole (s : State) (op : HspOp) (f : Frame) (lseq : Half) (disp : Disp) : State :=
  let c := (frCh f).val
  let m : H2F := .reqHsp c lseq op f (frameChk op f) disp
  if !s.fs.serves then
    { s with hs := s.hs.pendingFor disp op f }.endWhole f fieldTimeout 0 []
  else
    let (b, t) := s.fs.answerHsp c lseq op f (frameChk op f) disp
    let b := b.getD []
    let t := { t with link := t.link.carried t.now m.count (rspSymbols b.length) }.noteSent c lseq b
    let s := { s with fs := t, hs := s.hs.learn op f b }
    s.endWhole f (b.getD 0 0).toNat (BitVec.ofNat 32 (leNat ((b.drop 2).take 4))) ((b.drop 6).take (b.length - 10))

/-- The request is abandoned: the field side discards it (02 R62). -/
def State.abandonWhole (s : State) (op : HspOp) (f : Frame) (lseq : Half) : State :=
  if s.fs.serves then
    let m : H2F := .reqHsp (frCh f).val lseq op f (frameChk op f) .abandon
    let t := (s.fs.answerHsp (frCh f).val lseq op f (frameChk op f) .abandon).2
    { s with fs := { t with link := t.link.carried t.now m.count 0 } }
  else s

/-- A frame carried whole (08 sections 2 to 8): the header checks, the Headstock's own registers, the duplicate table, or the field side on
the channel's command stream. -/
def State.hostOp (s : State) (op : HspOp) (f : Frame) : State :=
  let u := s.fs.u
  if !s.hs.powered || s.hs.frame.isSome then s
  else
    let s := s.takeLateHsp
    let h := s.hs
    let answer (s : State) (st : Nat) (d : List Byte) : State := { s with rsp := some ⟨st, f.seq, 0, d⟩ }
    match headerCheck u op f with
    | some st => answer { s with hs := h.rejected u (frameLocal op f) f st } st []
    | none =>
      if frameLocal op f then
        let (st, d, s) := s.localOp op f
        answer s st d
      else match h.fieldStatus with
        | some st => answer { s with hs := { h with wake := h.wake || st = busySt }.last u f st } st []
        | none =>
          let (q, h) := h.nextLseq ⟨(frCh f).val, by omega⟩
          let s := { s with hs := h.inc u HSP_CNT_A.FRAMES }
          match h.disposition (frCh f) f.seq (frameChk op f) with
          | (_, some (st, snap, d)) =>
            let s := s.abandonWhole op f q
            let s := if st = retrySt then { s with hs := s.hs.dropEntry (frCh f) f.seq } else s
            s.endWhole f st snap d
          | (disp, none) => s.fieldWhole op f q disp

/-- REG_READ (05 R178, 08 R285). -/
def execRegRead (f : Frame) (s : State) : Host.Outcome State Fault Refusal := .next (s.hostOp .regRead f)

/-- REG_WRITE (05 R162, 08 R285, R286). -/
def execRegWrite (f : Frame) (s : State) : Host.Outcome State Fault Refusal := .next (s.hostOp .regWrite f)

/-- REG_WRITE_VERIFY (05 R181, 08 R288). -/
def execRegWriteVerify (f : Frame) (s : State) : Host.Outcome State Fault Refusal := .next (s.hostOp .regWriteVerify f)

/-- STREAM_PUT (06 R212, R213). -/
def execStreamPut (f : Frame) (s : State) : Host.Outcome State Fault Refusal := .next (s.hostOp .streamPut f)

/-- STREAM_GET (08 R301 to R304). -/
def execStreamGet (f : Frame) (s : State) : Host.Outcome State Fault Refusal := .next (s.hostOp .streamGet f)

/-- STREAM_PEEK (08 R289). -/
def execStreamPeek (f : Frame) (s : State) : Host.Outcome State Fault Refusal := .next (s.hostOp .streamPeek f)

/-- STATUS_DIGEST (08 R310). -/
def execStatusDigest (f : Frame) (s : State) : Host.Outcome State Fault Refusal := .next (s.hostOp .statusDigest f)

/-- NOP (08 R311). -/
def execNop (f : Frame) (s : State) : Host.Outcome State Fault Refusal := .next (s.hostOp .nop f)

/-- SESSION_OPEN (23 R798). -/
def execSessionOpen (f : Frame) (s : State) : Host.Outcome State Fault Refusal := .next (s.hostOp .sessionOpen f)

/-- SESSION_AUTH (23 R799). -/
def execSessionAuth (f : Frame) (s : State) : Host.Outcome State Fault Refusal := .next (s.hostOp .sessionAuth f)

/-- SESSION_CLOSE (23 R801). -/
def execSessionClose (f : Frame) (s : State) : Host.Outcome State Fault Refusal := .next (s.hostOp .sessionClose f)

/-- FAULT_CLEAR (18 R669): the CMD frame with code 0x0001 on the PROT page of station `n`. -/
def execFaultClear (n : Stn) (f : Frame) (s : State) : Host.Outcome State Fault Refusal :=
  .next (s.hostOp .cmd { f with stream := BitVec.ofNat 8 (stnPage n 0xE), addr := 1 })

/-- FAULT_CLEAR_ALL (18 R669): the CMD frame with code 0x0001 on the STO page. -/
def execFaultClearAll (f : Frame) (s : State) : Host.Outcome State Fault Refusal :=
  .next (s.hostOp .cmd { f with stream := 0x23, addr := 1 })

end Sys2Proof.Machine
end

