-- ==== Sys2Proof/Machine/MgmtBus.lean ====
section
/-! DEFINITION. The management bus (09): a transaction from its command byte to its end, its field commands over the link, timeouts,
controller mode; and what reaches both ports: a NAK_F, a repeated NAK_H, the level channels. -/

namespace Sys2Proof.Machine

/-! ## Results beyond 08 R291 (09 R334) -/

def pecMissing : Nat := 0x0E
def wakeTimeout : Nat := 0x0F
def busTimeout : Nat := 0x10

/-! ## A transaction's bytes (09 R323, R325) -/

/-- The address bytes of a write and of a read (09 R323). -/
def Head.addrByte (h : Head) (read : Bool) : Byte := BitVec.ofNat 8 (2 * (0x58 + h.mbAddr.toNat) + b2n read)

/-- The PEC of a write with its data (09 R325). -/
def Head.writePec (h : Head) (x : MbTxn) : Byte := pec8 ([h.addrByte false, x.cmd] ++ x.count.toList ++ x.data)

/-- What a read drives: the count of a block, the data, the PEC. -/
def Head.readBytes (h : Head) (cmd : Byte) (block : Bool) (d : List Byte) : List Byte :=
  let b := (if block then [BitVec.ofNat 8 d.length] else []) ++ d
  b ++ [pec8 ([h.addrByte false, cmd, h.addrByte true] ++ b)]

/-- The failed-read form (09 R332): 0xFF bytes or a count of 0, and the complement of the PEC. -/
def Head.failedRead (h : Head) (c : MbCmd) : List Byte :=
  let b : List Byte := if mbReads c = some true then [0x00] else List.replicate (mbFixed c) 0xFF
  b ++ [pec8 ([h.addrByte false, mbCode c, h.addrByte true] ++ b) ^^^ 0xFF]

/-! ## The end of a transaction -/

/-- The analogue cell of a stretch, and its nominal length (R333, R348; log entry 45). -/
def stretchLimit : Nat := 20 * ms1
def responseWait : Nat := 2 * ms1

/-- LAST_CMD and LAST_RESULT describe the transaction that ends (09 section 9); the lines are free, and WAKE is released where the
transaction has found the field side ready (02 R82). -/
def Head.mbEnd (h : Head) (u : UnitInfo) (cmd : Byte) (res : Nat) : Head :=
  let h := (h.p u MBUS_STAT.LAST_CMD cmd.toNat).p u MBUS_STAT.LAST_RESULT res
  { h with wake := h.wake && !h.mb.found, mb := { h.mb with phase := .idle, txn := none, found := false, cellT := none } }

/-- A byte is answered with NACK, which ends the transaction. -/
def Head.mbNack (h : Head) (u : UnitInfo) (cmd : Byte) (res : Nat) : Head :=
  let h := (h.inc u MBUS_CNT_A.NACKS).mbEnd u cmd res
  { h with mb := { h.mb with acked := false, drive := [] } }

/-- Every byte is acknowledged; a read drives `d`. -/
def Head.mbAck (h : Head) (u : UnitInfo) (cmd : Byte) (res : Nat) (d : List Byte) : Head :=
  let h := h.mbEnd u cmd res
  { h with mb := { h.mb with acked := true, drive := d } }

/-- A read returns data, or the failed form where its status is not OK (09 R332). -/
def Head.mbRead (h : Head) (u : UnitInfo) (c : MbCmd) (st : Nat) (d : List Byte) : Head :=
  h.mbAck u (mbCode c) st (if st = okSt then h.readBytes (mbCode c) (mbReads c = some true) d else h.failedRead c)

/-- A write that has reached its end: with a PEC byte, ACK for OK and DUP and NACK otherwise (09 R329); without, only LAST_RESULT
tells (R334). -/
def Head.mbWritten (h : Head) (u : UnitInfo) (x : MbTxn) (st : Nat) : Head :=
  if x.pec.isSome && st != okSt && st != dupSt then h.mbNack u x.cmd st else h.mbAck u x.cmd st []

/-! ## Headstock-local commands (09 R336 to R338, R342) -/

/-- The register window of the MBUS page (09 R338). -/
def Head.window (h : Head) (u : UnitInfo) : MbWin := ⟨h.g u MBUS_WIN.PAGE, h.g u MBUS_WIN.OFFSET, h.g u MBUS_WIN.RLEN⟩

/-- A field command (09 section 3): REG_DATA on registers that are not the Headstock's own and on a page that the variant has (00 R3). -/
def Head.fieldCommand (h : Head) (u : UnitInfo) (c : MbCmd) (x : MbTxn) : Bool :=
  let w := h.window u
  match c with
  | .pageSel | .identity | .wakePing => false
  | .eventFetch => x.kind = .read
  | .unitState => h.present
  | .regData => !pageAbsent u w.page && !localRegs w.page w.ofs (if x.kind = .read then w.rlen else x.data.length)
  | _ => true

/-- MBUS_WIN as PAGE_SEL may set it (09 R338). -/
def windowOk (ofs rlen : Nat) : Bool := ofs % 4 = 0 && rlen % 4 = 0 && 4 ≤ rlen && rlen ≤ 32 && ofs + rlen ≤ 0x100

/-- A local read: status and data. -/
def State.localRead (s : State) (c : MbCmd) : Nat × List Byte :=
  let w := s.hs.window s.fs.u
  match c with
  | .pageSel => (okSt, [BitVec.ofNat 8 w.page, BitVec.ofNat 8 w.ofs, BitVec.ofNat 8 w.rlen])
  | .identity => (okSt, readBytes s.localView 0x20 4)
  | .unitState => (okSt, [BitVec.ofNat 8 (UnitSt.code .off)])
  | .regData =>
    if regRange w.ofs w.rlen && !pageAbsent s.fs.u w.page then (okSt, readBytes s.localView (w.page * 256 + w.ofs) (w.rlen / 4))
    else (badAddr, [])
  | _ => (badOp, [])

/-- A local write: status, and the Headstock after it. -/
def State.localWrite (s : State) (c : MbCmd) (d : List Byte) : Nat × Head :=
  let u := s.fs.u
  let h := s.hs
  let w := h.window u
  let b (k : Nat) : Nat := (d.getD k 0).toNat
  match c with
  | .pageSel =>
    if windowOk (b 1) (b 2)
      then (okSt, ((h.p u MBUS_WIN.PAGE (b 0)).p u MBUS_WIN.OFFSET (b 1)).p u MBUS_WIN.RLEN (b 2)) else (badAddr, h)
  | .eventFetch => (okSt, h.setWord u MBUS_EVACK.INDEX.addr (BitVec.ofNat 32 (leNat d)))
  | .wakePing => (okSt, h)
  | .regData =>
    if w.page = 1 || pageAbsent u w.page || !regRange w.ofs d.length then (badAddr, h)
    else if w.page = 2 then h.write u (payloadWr 2 true w.ofs d)
    else (okSt, h)
  | _ => (badOp, h)

/-! ## Field commands over the link (09 R327, R328, R342) -/

/-- The data bytes of the request (09 R327, R328, R342): those of a write; MBUS_EVACK and FILTER 0x00 for an EVENT_FETCH read. The window
of REG_DATA goes ahead of them (DESIGN CHOICE, log entry 43: R327 and R328 give it no place, and nothing else crosses, 01 R19). -/
def Head.mbArgs (h : Head) (u : UnitInfo) (c : MbCmd) (x : MbTxn) : List Byte :=
  let d := if x.kind = .read then [] else x.data
  match c with
  | .regData => let w := h.window u; [BitVec.ofNat 8 w.page, BitVec.ofNat 8 w.ofs, BitVec.ofNat 8 w.rlen] ++ d
  | .eventFetch => if x.kind = .read then leBytes 4 (h.word u MBUS_EVACK.INDEX.addr).toNat ++ [0x00] else d
  | _ => d

/-- A read, and a write with its PEC byte, hold SCL until the response (09 R328, R329). -/
def mbWaits (x : MbTxn) : Bool := x.kind = .read || x.pec.isSome

/-- Request `q` of transaction `x` has gone out on CSTR 8: SCL is held for the response; a write without PEC ends at its STOP, and only
LAST_CMD is known (R334, log entry 40). -/
def Head.mbSent (h : Head) (u : UnitInfo) (now : Nat) (x : MbTxn) (q : Half) : Head :=
  let h := if mbWaits x then h else h.p u MBUS_STAT.LAST_CMD x.cmd.toNat
  { h with
    wake := h.wake && (mbWaits x || !h.mb.found)
    mb := { h.mb with
      phase := if mbWaits x then .response else .idle
      cellT := if mbWaits x then some (now + responseWait) else none
      txn := some x
      out := some ⟨8, q, .execute, [], 0, []⟩
      acked := true
      drive := [] } }

/-- The request goes out on CSTR 8. -/
def State.mbSend (s : State) (x : MbTxn) (c : MbCmd) : State :=
  let u := s.fs.u
  let d := s.hs.mbArgs u c x
  let (q, h) := s.hs.nextLseq 8
  { s with h2f := s.h2f ++ [.reqMb 8 q (mbCode c) d .execute], hs := h.mbSent u s.fs.now x q }

/-- The command's outcome at the Headstock: of a read, of a write held at its PEC byte, or of a write that has already ended. -/
def Head.mbDone (h : Head) (u : UnitInfo) (st : Nat) (d : List Byte) : Head :=
  let x := h.mb.txn
  let h := { h with mb := { h.mb with out := none } }
  match x with
  | none => h
  | some x =>
    if h.mb.phase = .idle then
      let h := h.p u MBUS_STAT.LAST_RESULT st
      { h with mb := { h.mb with txn := none } }
    else match x.kind, mbOf x.cmd with
      | .read, some c => h.mbRead u c st d
      | _, _ => h.mbWritten u x st

/-! ## From the command byte on (09 R324 to R331, R336, R348, R349) -/

/-- The data bytes of a write are those its command takes, and a block's count byte agrees with them. -/
def dataOk (c : MbCmd) (x : MbTxn) : Bool :=
  mbWrites c x.data.length && (if mbBlockWrite c then x.count = some (BitVec.ofNat 8 x.data.length) else x.count.isNone)

/-- A write that ended before the last data byte of its command: every byte was acknowledged. -/
def dataShort (c : MbCmd) (x : MbTxn) : Bool :=
  if mbBlockWrite c then match x.count with
    | none => x.data.isEmpty
    | some n => mbWrites c n.toNat && decide (x.data.length < n.toNat)
  else x.count.isNone && x.data.isEmpty && mbWrites c 1

/-- A write after its command byte: the data bytes, the PEC, and the command; `field` carries out a field command. PEC_REQ refuses one that
ends before its PEC byte, whatever it lacks (09 R331). -/
def State.mbWrite (s : State) (x : MbTxn) (c : MbCmd) (field : State → State) : State :=
  let u := s.fs.u
  let h := s.hs
  let ended := x.pec.isNone && (dataOk c x || dataShort c x)
  if ended && h.g u MBUS_CFG.PEC_REQ = 1 then { s with hs := h.mbAck u x.cmd pecMissing [] }
  else if x.pec.isNone && dataShort c x then { s with hs := h.mbAck u x.cmd badOp [] }
  else if !dataOk c x then { s with hs := h.mbNack u x.cmd badOp }
  else if x.pec.any (· != h.writePec x) then { s with hs := (h.inc u MBUS_CNT_B.PEC_ERR).mbNack u x.cmd pcrcErr }
  else if h.fieldCommand u c x then field s
  else
    let (st, h) := s.localWrite c x.data
    let last := c = .pageSel || (c = .regData && pageAbsent u (h.window u).page)
    { s with hs := if last && st != okSt then h.mbNack u x.cmd st else h.mbWritten u x st }

/-- The transaction after its command byte has been acknowledged. -/
def State.mbProceed (s : State) (x : MbTxn) (c : MbCmd) (field : State → State) : State :=
  let u := s.fs.u
  match x.kind with
  | .write => s.mbWrite x c field
  | .read =>
    if (mbReads c).isNone then { s with hs := s.hs.mbNack u x.cmd badOp }
    else if s.hs.fieldCommand u c x then field s
    else
      let (st, d) := s.localRead c
      { s with hs := s.hs.mbRead u c st d }
  | .quick | .other => s

/-- The poll interval (09 section 9, MBUS_CTLR.POLL). -/
def Head.pollTicks (h : Head) (u : UnitInfo) : Nat := match h.g u MBUS_CTLR.POLL with
  | 0 => 10 * ms1 | 1 => 100 * ms1 | _ => s1

/-- A push waits `d` ticks in phase `p`. -/
def Head.pushWait (h : Head) (p : PushPhase) (dl : Nat) : Head := { h with mb := { h.mb with out := none, push := p, pushT := some dl } }

/-- What a fetch for a push brought (09 R356): a record to push, whose TRIES start anew where it is not the one tried before (R361), or
none. -/
def Head.pushFetched (h : Head) (u : UnitInfo) (now : Nat) (st : Nat) (d : List Byte) : Head :=
  if st = okSt && d.any (· != 0) then
    let h := if evIndex (d.drop 8) = evIndex (h.mb.pushRec.drop 8) then h else h.p u MBUS_PSTAT.TRIES 0
    { h with mb := { h.mb with out := none, push := .ready, pushRec := d } }
  else h.pushWait .poll (now + h.pollTicks u)

/-- The outstanding request of the bus ends with `st`. -/
def Head.mbOutcome (h : Head) (u : UnitInfo) (now : Nat) (o : OutReq) (st : Nat) (d : List Byte) : Head :=
  if o.cstr = 9 then h.pushFetched u now st d else h.mbDone u st d

/-- What waits in the receive buffer is clocked out by the next transaction of the bus (01 R22, 03 R91): the outcome of the write that
ended without PEC, or a response that matches no request (02 R71). -/
def State.takeLateMb (s : State) : State :=
  let u := s.fs.u
  { s with
    rxBuf := s.rxBuf.filter (fun e => !e.mb)
    hs := (s.rxBuf.filter (·.mb)).foldl (fun (h : Head) e =>
      match h.mb.out, e.res with
      | some o, .body b =>
        if o.cstr = e.cstr && o.lseq = e.lseq then h.mbOutcome u s.fs.now o (b.getD 0 0).toNat ((b.drop 2).take (b.getD 1 0).toNat)
        else h.inc u HSP_LNK.RSP_DISCARD
      | none, .body _ => h.inc u HSP_LNK.RSP_DISCARD
      | some o, .bad => if o.cstr = e.cstr && o.lseq = e.lseq then h.mbOutcome u s.fs.now o fieldTimeout [] else h
      | some o, .nak => if e.cstr = 0xFF || (o.cstr = e.cstr && o.lseq = e.lseq) then h.mbOutcome u s.fs.now o pcrcErr [] else h
      | none, _ => h) s.hs }

/-- An address match (09 section 6, 02 R82): the transaction is counted, WAKE asserted where the field side is present and not ready;
a request of an earlier write, or a fetch for a push, is no longer waited for. -/
def Head.mbMatch (h : Head) (u : UnitInfo) : Head :=
  let h := h.inc u MBUS_CNT_A.CMDS
  { h with
    wake := h.wake || (h.present && !h.ready)
    mb := { h.mb with found := h.ready, out := none, txn := none, push := if h.mb.push = .fetching then .idle else h.mb.push } }

/-- A transaction up to its command byte's answer, and on from there where that is ACK. -/
def State.mbStart (s : State) (x : MbTxn) (field : MbCmd → State → State) : State :=
  let u := s.fs.u
  if !s.hs.powered || s.hs.mb.phase != .idle then s
  else
    let s := s.takeLateMb
    let h := s.hs.mbMatch u
    let s := { s with hs := h }
    if x.kind = .quick then { s with hs := h.mbAck u (mbCode .wakePing) okSt [] }
    else match mbOf x.cmd with
      | none => { s with hs := h.mbNack u x.cmd badOp }
      | some c =>
        if x.kind = .other then { s with hs := h.mbNack u x.cmd badOp }
        else if !h.fieldCommand u c x || h.ready then s.mbProceed x c (field c)
        else if !h.present then { s with hs := h.mbNack u x.cmd linkDown }
        else if h.fault.level then { s with hs := h.mbNack u x.cmd busySt }
        else { s with hs := { h with mb := { h.mb with phase := .stretch, txn := some x, cellT := some (s.fs.now + stretchLimit) } } }

/-- MB_COMMAND_BYTE (09 R336, R348, R349): the transaction `x`, its field command over the lanes. -/
def execMbCommandByte (t : MbTxn) (s : State) : Host.Outcome State Fault Refusal := .next (s.mbStart t (fun c s => s.mbSend t c))

/-- The stretch ends when the field side is ready (09 R348). -/
def State.mbResume (s : State) : State :=
  if s.hs.mb.phase = .stretch && s.hs.ready then
    match s.hs.mb.txn with
    | some x => match mbOf x.cmd with
      | some c =>
        { s with hs := { s.hs with mb := { s.hs.mb with phase := .idle, found := true, cellT := none } } }.mbProceed x c (fun s => s.mbSend x c)
      | none => s
    | none => s
  else s

/-- Time passes to the end of an interval that an analogue cell times. -/
def State.toCell (s : State) (t : Timer) : State := match t with
  | some dl => { s with fs := s.fs.elapseTo dl }
  | none => s

/-- MB_STRETCH_LIMIT (09 R348): the field side was not ready within 18 to 22 ms. -/
def execMbStretchLimit (s : State) : Host.Outcome State Fault Refusal :=
  .next (match s.hs.mb.phase, s.hs.mb.txn with
    | .stretch, some x =>
      { s.toCell s.hs.mb.cellT with hs := (s.hs.inc s.fs.u MBUS_CNT_B.TIMEOUTS).mbNack s.fs.u x.cmd wakeTimeout }
    | _, _ => s)

/-- MB_RESPONSE_WAIT (09 R333): the response did not come within 1.6 to 2.4 ms; a fetch for a push waits for the poll interval. -/
def execMbResponseWait (s : State) : Host.Outcome State Fault Refusal :=
  let u := s.fs.u
  if s.hs.mb.phase = .response then
    .next { s.toCell s.hs.mb.cellT with hs := (s.hs.inc u MBUS_CNT_B.TIMEOUTS).mbDone u fieldTimeout [] }
  else if s.hs.mb.push = .fetching then
    let s := s.toCell s.hs.mb.pushT
    let h := s.hs.inc u MBUS_CNT_B.TIMEOUTS
    .next { s with hs := h.pushWait .poll (s.fs.now + h.pollTicks u) }
  else .next s

/-- The transaction state of the block is reset, and a push in progress is given up; a late response finds no request (09 R351 to R353).
A transaction that had found the field side ready releases WAKE (02 R82). -/
def Head.dropBus (h : Head) : Head :=
  let m := h.mb
  { h with
    wake := h.wake && !m.found
    mb := { m with
      phase := .idle, txn := none, found := false, out := none, acked := false, drive := [], cellT := none
      push := if m.push = .fetching || m.push = .ready then .idle else m.push } }

/-- SCL_TIMEOUT (09 R351, R353). -/
def execSclTimeout (s : State) : Host.Outcome State Fault Refusal :=
  let u := s.fs.u
  if s.hs.powered then
    let h := ((s.hs.p u MBUS_STAT.SCL_TO 1).p u MBUS_STAT.LAST_RESULT busTimeout).inc u MBUS_CNT_B.TIMEOUTS
    .next { s with hs := h.dropBus }
  else .next s

/-- SDA_TIMEOUT (09 R352, R353): SDA is released; as controller the block sends clock pulses until SDA reads high, at most 9 of
them, and ends its push with a STOP. -/
def execSdaTimeout (s : State) : Host.Outcome State Fault Refusal :=
  let u := s.fs.u
  if s.hs.powered then
    let h := (s.hs.p u MBUS_STAT.SDA_TO 1).inc u MBUS_CNT_B.TIMEOUTS
    .next { s with hs := { h.dropBus with mb := { h.dropBus.mb with freed := if h.mb.push = .ready then some (min 9 (Config.sdaPulses s.fs.now)) else h.mb.freed } } }
  else .next s

/-! ## Transactions as whole operations -/

/-- A field command carried out at once: sent, executed and answered without loss; the response to a write without PEC waits for the next
transaction. While the field side does not serve the link, the command is sent and not answered. -/
def State.mbAtOnce (s : State) (x : MbTxn) (c : MbCmd) : State :=
  if s.fs.serves then
    let u := s.fs.u
    let d := s.hs.mbArgs u c x
    let (q, h) := s.hs.nextLseq 8
    let m : H2F := .reqMb 8 q (mbCode c) d .execute
    let (b, t) := s.fs.answerMb 8 q (mbCode c) d .execute
    let b := b.getD []
    let t := { t with link := t.link.carried t.now m.count (rspSymbols b.length) }.noteSent 8 q b
    let h := h.mbSent u s.fs.now x q
    if mbWaits x then { s with fs := t, hs := h.mbDone u (b.getD 0 0).toNat ((b.drop 2).take (b.getD 1 0).toNat) }
    else { s with fs := t, hs := h, rxBuf := s.rxBuf ++ [⟨true, 8, q, .body b⟩] }
  else s.mbSend x c

def State.mbWhole (s : State) (x : MbTxn) : State := s.mbStart x (fun c s => s.mbAtOnce x c)

/-- A read of command `c`, and a write of `d` to it. -/
def readTxn (c : MbCmd) : MbTxn := ⟨.read, mbCode c, none, [], none⟩
def writeTxn (c : MbCmd) (d : List Byte) (pec : Option Byte) : MbTxn :=
  ⟨.write, mbCode c, if mbBlockWrite c then some (BitVec.ofNat 8 d.length) else none, d, pec⟩

/-- STATUS_WORD (09 R337). -/
def execStatusWord (s : State) : Host.Outcome State Fault Refusal := .next (s.mbWhole (readTxn .statusWord))

/-- ALARM_SUMMARY (09 R337). -/
def execAlarmSummary (s : State) : Host.Outcome State Fault Refusal := .next (s.mbWhole (readTxn .alarmSummary))

/-- UNIT_STATE (09 R337, R349). -/
def execUnitState (s : State) : Host.Outcome State Fault Refusal := .next (s.mbWhole (readTxn .unitState))

/-- MAX_TEMP (09 R337). -/
def execMaxTemp (s : State) : Host.Outcome State Fault Refusal := .next (s.mbWhole (readTxn .maxTemp))

/-- GROUP_TEMPS (09 R337). -/
def execGroupTemps (s : State) : Host.Outcome State Fault Refusal := .next (s.mbWhole (readTxn .groupTemps))

/-- STATION_STATUS (09 R337). -/
def execStationStatus (s : State) : Host.Outcome State Fault Refusal := .next (s.mbWhole (readTxn .stationStatus))

/-- MB_FAULT_CLEAR (09 R345 to R347). -/
def execMbFaultClear (token : Byte) (pec : Option Byte) (s : State) : Host.Outcome State Fault Refusal :=
  .next (s.mbWhole (writeTxn .faultClear [token] pec))

/-- PAGE_SEL_WRITE (09 R338). -/
def execPageSelWrite (data : List Byte) (pec : Option Byte) (s : State) : Host.Outcome State Fault Refusal :=
  .next (s.mbWhole (writeTxn .pageSel data pec))

/-- PAGE_SEL_READ (09 R338). -/
def execPageSelRead (s : State) : Host.Outcome State Fault Refusal := .next (s.mbWhole (readTxn .pageSel))

/-- REG_DATA_READ (09 R339). -/
def execRegDataRead (s : State) : Host.Outcome State Fault Refusal := .next (s.mbWhole (readTxn .regData))

/-- REG_DATA_WRITE (09 R339 to R341). -/
def execRegDataWrite (data : List Byte) (pec : Option Byte) (s : State) : Host.Outcome State Fault Refusal :=
  .next (s.mbWhole (writeTxn .regData data pec))

/-- EVENT_FETCH_WRITE (09 R342). -/
def execEventFetchWrite (data : List Byte) (pec : Option Byte) (s : State) : Host.Outcome State Fault Refusal :=
  .next (s.mbWhole (writeTxn .eventFetch data pec))

/-- EVENT_FETCH_READ (09 R342, R343). -/
def execEventFetchRead (s : State) : Host.Outcome State Fault Refusal := .next (s.mbWhole (readTxn .eventFetch))

/-- HEARTBEAT (09 R335, 22 R773). -/
def execHeartbeat (pec : Option Byte) (s : State) : Host.Outcome State Fault Refusal := .next (s.mbWhole (writeTxn .heartbeat [] pec))

/-- SLEEP_REQ (09 R344). -/
def execSleepReq (v : Byte) (pec : Option Byte) (s : State) : Host.Outcome State Fault Refusal :=
  .next (s.mbWhole (writeTxn .sleepReq [v] pec))

/-- IDENTITY (09 R337). -/
def execIdentity (s : State) : Host.Outcome State Fault Refusal := .next (s.mbWhole (readTxn .identity))

/-- WAKE_PING (09 R324, R336, 02 R82): a Send Byte, or a bare Quick Command. -/
def execWakePing (quick : Bool) (s : State) : Host.Outcome State Fault Refusal :=
  .next (s.mbWhole (if quick then ⟨.quick, mbCode .wakePing, none, [], none⟩ else writeTxn .wakePing [] none))

/-! ## RSP_MB, NAK_F and repeated NAK_H (02 R63 to R71, 09 R328 to R332) -/

/-- How often a response segment of the bus is asked for again: once for a field read (09 R332), else twice (02 R69). -/
def Head.mbNaks (h : Head) : Nat :=
  match h.mb.phase, h.mb.txn with
  | .response, some x => if x.kind = .read then 1 else 2
  | _, _ => 2

/-- A transaction or a push clocks the management bus block (03 R91). -/
def Head.mbClocked (h : Head) : Bool := h.mb.phase != .idle || h.mb.push = .fetching

/-- The response of the bus has not checked good. -/
def State.mbBad (s : State) (o : OutReq) (reason : Nat) : State :=
  if o.naks.length < s.hs.mbNaks then
    { s with hs := { s.hs with mb := { s.hs.mb with out := some { o with naks := o.naks ++ [0] } } } }.askAgain o.cstr o.lseq 0 reason
  else { s with hs := s.hs.mbOutcome s.fs.u s.fs.now o fieldTimeout [] }

/-- A response stays in the receive buffer until a transaction of its port clocks it out (01 R22, 03 R92). -/
def State.buffer (s : State) (e : LateRsp) : State := { s with rxBuf := s.rxBuf ++ [e] }

/-- A segment of a response that matches no request: the response is counted with its last one (02 R71, 08 R313). -/
def State.stray (s : State) (more : Bool) : State := if more then s else { s with hs := s.hs.inc s.fs.u HSP_LNK.RSP_DISCARD }

/-- A good segment of a response. -/
def State.segArrives (s : State) (mb : Bool) (c : Nat) (l : Half) (k : Nat) (more : Bool) (b : List Byte) : State :=
  let u := s.fs.u
  if mb then
    if !s.hs.mbClocked then s.buffer ⟨true, c, l, .body b⟩
    else match s.hs.mb.out with
      | some o =>
        if o.cstr = c && o.lseq = l
          then { s with hs := s.hs.mbOutcome u s.fs.now o (b.getD 0 0).toNat ((b.drop 2).take (b.getD 1 0).toNat) } else s.stray more
      | none => s.stray more
  else match s.hs.awaiting c l with
    | some (x, o) => { s with hs := s.hs.segGood u x o k more b }
    | none => if s.hs.frame.isSome then s.stray more else if more then s else s.buffer ⟨false, c, l, .body b⟩

/-- The first segment of request `o` that has not checked good. -/
def OutReq.missing (o : OutReq) : Nat := ((List.range 256).find? (fun k => (o.part k).isNone)).getD 0

/-- The HSP segment that a bad message is: the one its header names, or the first missing one where the header cannot be read (log
entry 22). -/
def Head.badSegment (h : Head) (hdr : Option Msg) : Option (HspFrame × OutReq × Nat) :=
  match h.frame, h.out with
  | some x, some o =>
    if !(x.phase = .waiting || x.phase = .data) then none
    else match hdr with
      | some m => if m.ty = 0x81 && m.cstr = o.cstr && m.lseq = o.lseq then some (x, o, m.seg) else none
      | none => some (x, o, o.missing)
  | _, _ => none

/-- A message of the F2H lane with a defect of REASON `reason` (02 R68, R69): of a response segment, it is asked for again; of a NAK_F, it
is ignored (log entry 24). -/
def State.segDefect (s : State) (reason : Nat) (hdr : Option Msg) : State :=
  match s.hs.badSegment hdr with
  | some (x, o, k) => if (o.part k).isSome then s else s.segBad x o k reason
  | none => match s.hs.mb.out with
    | some o =>
      if hdr.all (fun m => m.ty = 0x82 && m.cstr = o.cstr && m.lseq = o.lseq)
        then if s.hs.mbClocked then s.mbBad o reason else s.buffer ⟨true, o.cstr, o.lseq, .bad⟩ else s
    | none => s

/-- The HSP request outstanding that a NAK_F names. One that is still being clocked in is not yet outstanding for a NAK_F without a header,
and its frame goes on (DESIGN CHOICE, log entry 113: R63 does not say when a request becomes outstanding). -/
def State.nakHspReq (s : State) (hdr : Bool) (c : Nat) (l : Half) : State :=
  match s.hs.frame, s.hs.out with
  | some x, some o =>
    if (x.phase = .waiting || x.phase = .data) && (!hdr || (o.cstr = c && o.lseq = l))
      then { s with hs := s.hs.nakHsp s.fs.u x o } else s
  | _, _ => s

/-- The bus request outstanding that a NAK_F names fails (09 R332). -/
def State.nakMbReq (s : State) (hdr : Bool) (c : Nat) (l : Half) : State :=
  match s.hs.mb.out with
  | some o =>
    if !hdr || (o.cstr = c && o.lseq = l) then
      if s.hs.mbClocked then { s with hs := s.hs.mbOutcome s.fs.u s.fs.now o pcrcErr [] } else s.buffer ⟨true, o.cstr, o.lseq, .nak⟩
    else s
  | none => s

/-- What the Headstock makes of message `m` at the front of the F2H lane when it arrives as `rx` (02 R53, R60, R63 to R71). -/
def State.hears (s : State) (m : F2H) (rest : List F2H) (rx : Rx) : State :=
  let s := { s with f2h := rest }
  (if !s.hs.powered then s
    else match m.heard rx with
      | .good (.seg mb c l k more _ b) => s.segArrives mb c l k more b
      | .good (.nakF hdr c l _) => (s.nakHspReq hdr c l).nakMbReq hdr c l
      | .bad r hdr => s.segDefect r hdr
      | .cut hdr => s.segDefect nakIncomplete hdr
      | .none => s).pump

/-- RSP_HSP (02 R67 to R71): the segment of an HSP response at the front of the F2H lane arrives as `rx`. -/
def execRspHsp (rx : Rx) (s : State) : Host.Outcome State Fault Refusal :=
  match s.f2h with
  | .seg false c l k more retx b :: rest => .next (s.hears (.seg false c l k more retx b) rest rx)
  | _ => .next s

/-- RSP_MB (09 R328, R329, R332): the response at the front of the F2H lane arrives as `rx`. -/
def execRspMb (rx : Rx) (s : State) : Host.Outcome State Fault Refusal :=
  match s.f2h with
  | .seg true c l k more retx b :: rest => .next (s.hears (.seg true c l k more retx b) rest rx)
  | _ => .next s

/-- NAK_F (02 R63 to R65): the NAK_F at the front of the F2H lane arrives as `rx`; a bad one is ignored. -/
def execNakF (rx : Rx) (s : State) : Host.Outcome State Fault Refusal :=
  match s.f2h with
  | .nakF hdr c l r :: rest => .next (s.hears (.nakF hdr c l r) rest rx)
  | _ => .next s

/-- NAK_H_REPEAT (02 R68, R69): 32 wait bytes, or SCL clocks of a push, since the last NAK_H; while the bus is stretched no SCL clock passes
(09 R333). The further NAK_H carries REASON 0x05 (DESIGN CHOICE, log entry 22). -/
def execNakHRepeat (mb : Bool) (s : State) : Host.Outcome State Fault Refusal :=
  if mb then
    match s.hs.mb.out with
    | some o => .next (if s.hs.mb.push = .fetching && o.naks != [] then s.mbBad o nakIncomplete else s)
    | none => .next s
  else
    match s.hs.frame, s.hs.out with
    | some x, some o => match o.naks.find? (fun k => (o.part k).isNone) with
      | some k => .next (if x.phase = .waiting || x.phase = .data then s.segBad x o k nakIncomplete else s)
      | none => .next s
    | _, _ => .next s

/-! ## The level channels at the Headstock (02 R76 to R79) -/

/-- LEVEL_REFRESH (02 R77, R78): a refresh of `ch` arrives, the bits of `err` inverted on the way; a wake stretch ends once the field
side is ready. -/
def execLevelRefresh (ch : LevelCh) (err : BitVec 3) (s : State) : Host.Outcome State Fault Refusal :=
  if !(s.hs.powered && s.fs.pd 1) then .next s
  else
    let code := s.fs.refresh ch ^^^ err
    let h := match ch with
      | .alert => { s.hs with alert := s.hs.alert.take code }
      | .fault => { s.hs with fault := s.hs.fault.take code }
    .next { s with hs := h }.mbResume

/-- LEVEL_TIMEOUT (02 R76): no valid refresh of `ch` within 3.6 to 4.4 us; the channel takes its default, asserted. -/
def execLevelTimeout (ch : LevelCh) (s : State) : Host.Outcome State Fault Refusal :=
  .next (match ch with
    | .alert => { s with hs := { s.hs with alert := LevelCell.init } }
    | .fault => { s with hs := { s.hs with fault := LevelCell.init } })

/-! ## Controller mode (09 section 8) -/

/-- PUSH_START (09 R355, R356): a push fetches its record on CSTR 9. -/
def execPushStart (s : State) : Host.Outcome State Fault Refusal :=
  let u := s.fs.u
  let h := s.hs
  let may := h.powered && h.g u MBUS_CTLR.EN = 1 && h.g u MBUS_CTLR.TARGET != 0 && h.g u MBUS_PSTAT.PUSH_STALLED = 0 && h.ready
    && h.alert.level && h.mb.push = .idle && h.mb.phase = .idle
  if !may then .next s
  else
    let s := s.takeLateMb
    let (q, h) := s.hs.nextLseq 9
    .next { s with
      h2f := s.h2f ++ [.reqMb 9 q (mbCode .eventFetch) (leBytes 4 (h.word u MBUS_PUSH.INDEX.addr).toNat ++ [0x01]) .execute]
      hs := { h with mb := { h.mb with
        push := .fetching, txn := none, out := some ⟨9, q, .execute, [], 0, []⟩, pushT := some (s.fs.now + responseWait) } } }

/-- The bytes of a push (09 R357): TARGET with write, 0x50, the count, the record and the PEC over all of them. -/
def Head.pushBytes (h : Head) (u : UnitInfo) : List Byte :=
  let b := [BitVec.ofNat 8 (2 * h.g u MBUS_CTLR.TARGET), 0x50, 0x20] ++ h.mb.pushRec
  b ++ [pec8 b]

/-- The period of the push clock in ticks (09 section 9, MBUS_CTLR.SPEED). -/
def Head.pushClock (h : Head) (u : UnitInfo) : Nat := match h.g u MBUS_CTLR.SPEED with
  | 0 => 10 * us1 | 1 => 1000 | _ => us1

/-- The wait after a failed try or a lost arbitration in ms (09 R360). -/
def Head.backoff (h : Head) (u : UnitInfo) : Nat :=
  (u.serno.toNat % 8 + h.g u MBUS_PSTAT.TRIES + h.g u MBUS_PSTAT.ARB_LOST) % 8 + 1

/-- The bytes that a push drives: all of them, or those up to the byte that is refused or lost. -/
def pushSent (all : List Byte) : PushResult → List Byte
  | .acked => all
  | .nacked k => all.take (k + 1)
  | .arbLost _ k => all.take (k + 1)

/-- No push is in progress. -/
def Head.pushIdle (h : Head) : Head := { h with mb := { h.mb with push := .idle, pushT := none } }

/-- A push waits before it is tried again (09 R360). -/
def Head.pushRetry (h : Head) (u : UnitInfo) (now : Nat) : Head := h.pushWait .backoff (now + h.backoff u * ms1)

/-- A push ends at time `now` (09 R358, R359, R361). -/
def Head.pushEnd (h : Head) (u : UnitInfo) (now : Nat) : PushResult → Head
  | .acked =>
    (((h.setWord u MBUS_PUSH.INDEX.addr (evIndex (h.mb.pushRec.drop 8))).inc u MBUS_PSTAT.PUSHED).p u MBUS_PSTAT.TRIES 0).pushIdle
  | .nacked _ =>
    let h := h.inc u MBUS_PSTAT.TRIES
    if 8 ≤ h.g u MBUS_PSTAT.TRIES then (h.p u MBUS_PSTAT.PUSH_STALLED 1).pushIdle else h.pushRetry u now
  | .arbLost _ _ => (h.inc u MBUS_PSTAT.ARB_LOST).pushRetry u now

/-- PUSH_TRANSACTION (09 R357 to R361): the record is pushed, refused at byte `k`, or the arbitration is lost in byte `k`; nine clocks
carry each byte and its answer. -/
def execPushTransaction (r : PushResult) (s : State) : Host.Outcome State Fault Refusal :=
  let u := s.fs.u
  if s.hs.mb.push != .ready || s.hs.mb.phase != .idle then .next s
  else
    let sent := pushSent (s.hs.pushBytes u) r
    let t := s.fs.elapse (9 * sent.length * s.hs.pushClock u)
    let h := { s.hs with mb := { s.hs.mb with drive := sent, acked := r = PushResult.acked } }
    .next { s with hs := h.pushEnd u t.now r, fs := t }

/-- PUSH_BACKOFF_END (09 R360): the conditions of a push are checked anew. -/
def execPushBackoffEnd (s : State) : Host.Outcome State Fault Refusal :=
  .next (if s.hs.mb.push = .backoff
    then { s.toCell s.hs.mb.pushT with hs := { s.hs with mb := { s.hs.mb with push := .idle, pushT := none } } } else s)

/-- POLL_EXPIRY (09 R356): the poll interval is over; the conditions of a push are checked anew. -/
def execPollExpiry (s : State) : Host.Outcome State Fault Refusal :=
  .next (if s.hs.mb.push = .poll
    then { s.toCell s.hs.mb.pushT with hs := { s.hs with mb := { s.hs.mb with push := .idle, pushT := none } } } else s)

end Sys2Proof.Machine
end

