-- ==== Sys2Proof/Machine/Dispatch.lean ====
section
/-! DEFINITION. The meaning of each command: one arm per constructor of Instr, one call of its meaning. -/

namespace Sys2Proof.Machine

open Host

/-- The effect of a command on everything but the queue of waiting commands. -/
def exec (i : Instr) (s : State) : Host.Outcome State Fault Refusal :=
  match i with
  | .pon a b cold => Sys2Proof.Machine.execPon a b cold s
  | .trst c cold => Sys2Proof.Machine.execTrst c cold s
  | .hrst ns => Sys2Proof.Machine.execHrst ns s
  | .mbrst ns => Sys2Proof.Machine.execMbrst ns s
  | .hs3v3Rise => Sys2Proof.Machine.execHs3v3Rise s
  | .hs3v3Fall => Sys2Proof.Machine.execHs3v3Fall s
  | .pgrst page => Sys2Proof.Machine.execPgrst page s
  | .regWrite f => Sys2Proof.Machine.execRegWrite f s
  | .regRead f => Sys2Proof.Machine.execRegRead f s
  | .regWriteVerify f => Sys2Proof.Machine.execRegWriteVerify f s
  | .streamPut f => Sys2Proof.Machine.execStreamPut f s
  | .streamGet f => Sys2Proof.Machine.execStreamGet f s
  | .streamPeek f => Sys2Proof.Machine.execStreamPeek f s
  | .statusDigest f => Sys2Proof.Machine.execStatusDigest f s
  | .nop f => Sys2Proof.Machine.execNop f s
  | .sessionOpen f => Sys2Proof.Machine.execSessionOpen f s
  | .sessionAuth f => Sys2Proof.Machine.execSessionAuth f s
  | .sessionClose f => Sys2Proof.Machine.execSessionClose f s
  | .faultClear n f => Sys2Proof.Machine.execFaultClear n f s
  | .faultClearAll f => Sys2Proof.Machine.execFaultClearAll f s
  | .hspHeader bytes => Sys2Proof.Machine.execHspHeader bytes s
  | .hspRequestEnd bytes => Sys2Proof.Machine.execHspRequestEnd bytes s
  | .frameAbort k => Sys2Proof.Machine.execFrameAbort k s
  | .fieldTimeout => Sys2Proof.Machine.execFieldTimeout s
  | .hspCntClr => Sys2Proof.Machine.execHspCntClr s
  | .dupClr mask => Sys2Proof.Machine.execDupClr mask s
  | .reqHsp rx => Sys2Proof.Machine.execReqHsp rx s
  | .reqMb rx => Sys2Proof.Machine.execReqMb rx s
  | .nakH rx => Sys2Proof.Machine.execNakH rx s
  | .rspHsp rx => Sys2Proof.Machine.execRspHsp rx s
  | .rspMb rx => Sys2Proof.Machine.execRspMb rx s
  | .nakF rx => Sys2Proof.Machine.execNakF rx s
  | .nakHRepeat mb => Sys2Proof.Machine.execNakHRepeat mb s
  | .openMessageTimeout => Sys2Proof.Machine.execOpenMessageTimeout s
  | .hsPresentFall => Sys2Proof.Machine.execHsPresentFall s
  | .wakeInterrogation err cold => Sys2Proof.Machine.execWakeInterrogation err cold s
  | .levelRefresh ch err => Sys2Proof.Machine.execLevelRefresh ch err s
  | .levelTimeout ch => Sys2Proof.Machine.execLevelTimeout ch s
  | .linkTrained => Sys2Proof.Machine.execLinkTrained s
  | .trainingRetry => Sys2Proof.Machine.execTrainingRetry s
  | .retrain => Sys2Proof.Machine.execRetrain s
  | .retrainEffect => Sys2Proof.Machine.execRetrainEffect s
  | .blnkCntClr => Sys2Proof.Machine.execBlnkCntClr s
  | .ftReplicaCheck ce fb sq => Sys2Proof.Machine.execFtReplicaCheck ce fb sq s
  | .cdcTimeout id page => Sys2Proof.Machine.execCdcTimeout id page s
  | .dsUnstable id => Sys2Proof.Machine.execDsUnstable id s
  | .clockStopped clk => Sys2Proof.Machine.execClockStopped clk s
  | .pllRetry lock => Sys2Proof.Machine.execPllRetry lock s
  | .watchdogExpiry => Sys2Proof.Machine.execWatchdogExpiry s
  | .aFailed => Sys2Proof.Machine.execAFailed s
  | .bConnected aRet => Sys2Proof.Machine.execBConnected aRet s
  | .aReturn => Sys2Proof.Machine.execAReturn s
  | .aExcursion => Sys2Proof.Machine.execAExcursion s
  | .dwellComplete => Sys2Proof.Machine.execDwellComplete s
  | .bFailed => Sys2Proof.Machine.execBFailed s
  | .unstableClr => Sys2Proof.Machine.execUnstableClr s
  | .bothSuppliesFailed cut => Sys2Proof.Machine.execBothSuppliesFailed cut s
  | .coldHoldRelease => Sys2Proof.Machine.execColdHoldRelease s
  | .reqRun => Sys2Proof.Machine.execReqRun s
  | .reqStandby => Sys2Proof.Machine.execReqStandby s
  | .reqDeep => Sys2Proof.Machine.execReqDeep s
  | .transitionStart => Sys2Proof.Machine.execTransitionStart s
  | .runTransitionDone => Sys2Proof.Machine.execRunTransitionDone s
  | .standbyTransitionDone => Sys2Proof.Machine.execStandbyTransitionDone s
  | .wakeComplete => Sys2Proof.Machine.execWakeComplete s
  | .storeInitDone fail => Sys2Proof.Machine.execStoreInitDone fail s
  | .bootComplete => Sys2Proof.Machine.execBootComplete s
  | .strdCfgWrite k word => Sys2Proof.Machine.execStrdCfgWrite k word s
  | .streamReset k => Sys2Proof.Machine.execStreamReset k s
  | .streamSync k => Sys2Proof.Machine.execStreamSync k s
  | .backpressureRetry k => Sys2Proof.Machine.execBackpressureRetry k s
  | .correctionWriteback bank => Sys2Proof.Machine.execCorrectionWriteback bank s
  | .scrubRead bank upset mirrorBad => Sys2Proof.Machine.execScrubRead bank upset mirrorBad s
  | .scrubSkip bank => Sys2Proof.Machine.execScrubSkip bank s
  | .csaInj word => Sys2Proof.Machine.execCsaInj word s
  | .errorInjection => Sys2Proof.Machine.execErrorInjection s
  | .arm => Sys2Proof.Machine.execArm s
  | .disarm => Sys2Proof.Machine.execDisarm s
  | .seqReset word => Sys2Proof.Machine.execSeqReset word s
  | .start n => Sys2Proof.Machine.execStart n s
  | .stop n => Sys2Proof.Machine.execStop n s
  | .commandPoint n => Sys2Proof.Machine.execCommandPoint n s
  | .fluxBuilt n => Sys2Proof.Machine.execFluxBuilt n s
  | .provingEnd n => Sys2Proof.Machine.execProvingEnd n s
  | .takeover n => Sys2Proof.Machine.execTakeover n s
  | .zeroSpeedHeld n => Sys2Proof.Machine.execZeroSpeedHeld n s
  | .brakeSetDone n => Sys2Proof.Machine.execBrakeSetDone n s
  | .voltLim n => Sys2Proof.Machine.execVoltLim n s
  | .charge mask => Sys2Proof.Machine.execCharge mask s
  | .discharge mask => Sys2Proof.Machine.execDischarge mask s
  | .vlinkUpdate g v => Sys2Proof.Machine.execVlinkUpdate g v s
  | .pchgTimeout g => Sys2Proof.Machine.execPchgTimeout g s
  | .retryWaitEnd g => Sys2Proof.Machine.execRetryWaitEnd g s
  | .diAccept k level => Sys2Proof.Machine.execDiAccept k level s
  | .auxFail k => Sys2Proof.Machine.execAuxFail k s
  | .doOverload k => Sys2Proof.Machine.execDoOverload k s
  | .sampleInstant n raw => Sys2Proof.Machine.execSampleInstant n raw s
  | .gateCommandUpdate n late => Sys2Proof.Machine.execGateCommandUpdate n late s
  | .encoderEdge n lv => Sys2Proof.Machine.execEncoderEdge n lv s
  | .comparePulseEnd n => Sys2Proof.Machine.execComparePulseEnd n s
  | .ssiFrameStart n => Sys2Proof.Machine.execSsiFrameStart n s
  | .ssiFrameEnd n bits pbHigh => Sys2Proof.Machine.execSsiFrameEnd n bits pbHigh s
  | .hallChange n code => Sys2Proof.Machine.execHallChange n code s
  | .hallIllegalTimeout n => Sys2Proof.Machine.execHallIllegalTimeout n s
  | .switchChange n k level => Sys2Proof.Machine.execSwitchChange n k level s
  | .pairLoss n p lost => Sys2Proof.Machine.execPairLoss n p lost s
  | .encOc n => Sys2Proof.Machine.execEncOc n s
  | .fbpPresetCmd n => Sys2Proof.Machine.execFbpPresetCmd n s
  | .fbaPresetCmd n => Sys2Proof.Machine.execFbaPresetCmd n s
  | .latchArm n => Sys2Proof.Machine.execLatchArm n s
  | .gtClr n => Sys2Proof.Machine.execGtClr n s
  | .ainConversion k code => Sys2Proof.Machine.execAinConversion k code s
  | .sdStuck n ch => Sys2Proof.Machine.execSdStuck n ch s
  | .cal n => Sys2Proof.Machine.execCal n s
  | .calibrationDone n => Sys2Proof.Machine.execCalibrationDone n s
  | .recalSettleEnd n => Sys2Proof.Machine.execRecalSettleEnd n s
  | .trackingSample n raw => Sys2Proof.Machine.execTrackingSample n raw s
  | .bnkaSwap n word => Sys2Proof.Machine.execBnkaSwap n word s
  | .swapReturnTimeout n d => Sys2Proof.Machine.execSwapReturnTimeout n d s
  | .copy n => Sys2Proof.Machine.execCopy n s
  | .trcArm => Sys2Proof.Machine.execTrcArm s
  | .force => Sys2Proof.Machine.execForce s
  | .trcDisarm => Sys2Proof.Machine.execTrcDisarm s
  | .tracePostEnd => Sys2Proof.Machine.execTracePostEnd s
  | .followerLost n lost => Sys2Proof.Machine.execFollowerLost n lost s
  | .orbitFrameRx port f => Sys2Proof.Machine.execOrbitFrameRx port f s
  | .frameRepeat g => Sys2Proof.Machine.execFrameRepeat g s
  | .orbitLinkDown port => Sys2Proof.Machine.execOrbitLinkDown port s
  | .orbitLinkUp port => Sys2Proof.Machine.execOrbitLinkUp port s
  | .unwrap => Sys2Proof.Machine.execUnwrap s
  | .orbLoss g => Sys2Proof.Machine.execOrbLoss g s
  | .successionTakeover g => Sys2Proof.Machine.execSuccessionTakeover g s
  | .pwmBitChange n ch level => Sys2Proof.Machine.execPwmBitChange n ch level s
  | .turnOn n ch => Sys2Proof.Machine.execTurnOn n ch s
  | .gateConfirmation n ch level => Sys2Proof.Machine.execGateConfirmation n ch level s
  | .departure n ch gaps => Sys2Proof.Machine.execDeparture n ch gaps s
  | .hsFault n ch => Sys2Proof.Machine.execHsFault n ch s
  | .npcInnerOff n => Sys2Proof.Machine.execNpcInnerOff n s
  | .chopLim n => Sys2Proof.Machine.execChopLim n s
  | .protSourceAssert n src => Sys2Proof.Machine.execProtSourceAssert n src s
  | .ascEnd n why => Sys2Proof.Machine.execAscEnd n why s
  | .cto n => Sys2Proof.Machine.execCto n s
  | .stoDemand b us => Sys2Proof.Machine.execStoDemand b us s
  | .stoReadback a b => Sys2Proof.Machine.execStoReadback a b s
  | .stoDisc => Sys2Proof.Machine.execStoDisc s
  | .estop => Sys2Proof.Machine.execEstop s
  | .backstop => Sys2Proof.Machine.execBackstop s
  | .diagRun word => Sys2Proof.Machine.execDiagRun word s
  | .diagAbort => Sys2Proof.Machine.execDiagAbort s
  | .diagStepEnd m => Sys2Proof.Machine.execDiagStepEnd m s
  | .hkSlotEnd raw => Sys2Proof.Machine.execHkSlotEnd raw s
  | .hkOd word => Sys2Proof.Machine.execHkOd word s
  | .resume k => Sys2Proof.Machine.execResume k s
  | .graceOver n => Sys2Proof.Machine.execGraceOver n s
  | .dwellEnd => Sys2Proof.Machine.execDwellEnd s
  | .hwShutdown sensor => Sys2Proof.Machine.execHwShutdown sensor s
  | .thermalDomainsOff => Sys2Proof.Machine.execThermalDomainsOff s
  | .thermalRestart => Sys2Proof.Machine.execThermalRestart s
  | .emgStop word => Sys2Proof.Machine.execEmgStop word s
  | .release mask => Sys2Proof.Machine.execRelease mask s
  | .c1Timeout n => Sys2Proof.Machine.execC1Timeout n s
  | .levDisc n => Sys2Proof.Machine.execLevDisc n s
  | .eclipse => Sys2Proof.Machine.execEclipse s
  | .holdBrakeProvingEnd n => Sys2Proof.Machine.execHoldBrakeProvingEnd n s
  | .challengeExpiry => Sys2Proof.Machine.execChallengeExpiry s
  | .lockoutEnd => Sys2Proof.Machine.execLockoutEnd s
  | .sessionTimeout => Sys2Proof.Machine.execSessionTimeout s
  | .prog => Sys2Proof.Machine.execProg s
  | .progcs => Sys2Proof.Machine.execProgcs s
  | .begin => Sys2Proof.Machine.execBegin s
  | .eraseDone => Sys2Proof.Machine.execEraseDone s
  | .imageRecordConsumed => Sys2Proof.Machine.execImageRecordConsumed s
  | .commit => Sys2Proof.Machine.execCommit s
  | .verifyDone => Sys2Proof.Machine.execVerifyDone s
  | .cancel => Sys2Proof.Machine.execCancel s
  | .confirm => Sys2Proof.Machine.execConfirm s
  | .mbCommandByte t => Sys2Proof.Machine.execMbCommandByte t s
  | .mbStretchLimit => Sys2Proof.Machine.execMbStretchLimit s
  | .mbResponseWait => Sys2Proof.Machine.execMbResponseWait s
  | .sclTimeout => Sys2Proof.Machine.execSclTimeout s
  | .sdaTimeout => Sys2Proof.Machine.execSdaTimeout s
  | .statusWord => Sys2Proof.Machine.execStatusWord s
  | .alarmSummary => Sys2Proof.Machine.execAlarmSummary s
  | .unitState => Sys2Proof.Machine.execUnitState s
  | .maxTemp => Sys2Proof.Machine.execMaxTemp s
  | .groupTemps => Sys2Proof.Machine.execGroupTemps s
  | .stationStatus => Sys2Proof.Machine.execStationStatus s
  | .mbFaultClear token pec => Sys2Proof.Machine.execMbFaultClear token pec s
  | .pageSelWrite data pec => Sys2Proof.Machine.execPageSelWrite data pec s
  | .pageSelRead => Sys2Proof.Machine.execPageSelRead s
  | .regDataRead => Sys2Proof.Machine.execRegDataRead s
  | .regDataWrite data pec => Sys2Proof.Machine.execRegDataWrite data pec s
  | .eventFetchWrite data pec => Sys2Proof.Machine.execEventFetchWrite data pec s
  | .eventFetchRead => Sys2Proof.Machine.execEventFetchRead s
  | .heartbeat pec => Sys2Proof.Machine.execHeartbeat pec s
  | .sleepReq v pec => Sys2Proof.Machine.execSleepReq v pec s
  | .identity => Sys2Proof.Machine.execIdentity s
  | .wakePing quick => Sys2Proof.Machine.execWakePing quick s
  | .pushStart => Sys2Proof.Machine.execPushStart s
  | .pushTransaction r => Sys2Proof.Machine.execPushTransaction r s
  | .pushBackoffEnd => Sys2Proof.Machine.execPushBackoffEnd s
  | .pollExpiry => Sys2Proof.Machine.execPollExpiry s
  | .deepSleepEntered => Sys2Proof.Machine.execDeepSleepEntered s
  | .hsCsNRise => Sys2Proof.Machine.execHsCsNRise s
  | .trainFail => Sys2Proof.Machine.execTrainFail s
  | .pllLocked => Sys2Proof.Machine.execPllLocked s
  | .pllUnlock b => Sys2Proof.Machine.execPllUnlock b s
  | .sqcImageVerified ok => Sys2Proof.Machine.execSqcImageVerified ok s
  | .eventLogRestored => Sys2Proof.Machine.execEventLogRestored s
  | .stoEnergized b => Sys2Proof.Machine.execStoEnergized b s
  | .estopNHigh => Sys2Proof.Machine.execEstopNHigh s
  | .supplyValid b => Sys2Proof.Machine.execSupplyValid b s
  | .dioSupplyLow low => Sys2Proof.Machine.execDioSupplyLow low s

end Sys2Proof.Machine
end

