-- ==== Sys2Proof/Safety.lean ====
section
/-! DEFINITION. The terms in which claims about commands and runs are stated: what a command does to the unit, and what the settling of
states and the logging of events at its end may touch. -/

namespace Sys2Proof.Machine

/-- Command `c` completes from `s`, in a state that has `P`. -/
def Answers (c : Instr) (s : State) (P : State → Prop) : Prop := ∃ t, exec c s = .next t ∧ P t

/-- Command `c` completes from `s` with the field side `t` and changes nothing else of the unit: neither the Headstock, nor the
messages on the lanes, nor the queue, nor the last response. -/
def Does (c : Instr) (s : State) (t : Tail) : Prop := exec c s = .next { s with fs := t }

/-- Command `c` completes from `s` with the field side `t`, whose states then settle and whose latches are logged (10, 06 section 7);
nothing else of the unit changes. -/
def Settles (c : Instr) (s : State) (t : Tail) : Prop := Does c s t.finish

/-! ## What the end of a step may touch -/

/-- The registers that the logging of events and the writing of records may write: the PG_EVT register of any page, those of the trigger
that an event may fire, the counters and the error log of the words read for it (07 R249), and the descriptor of a stream, whose words in
the system area may turn out to be lost (07 R251). -/
def logReg (a : Nat) : Bool :=
  a % 256 = 0x0C || [TRC_STAT.STATE.addr, TRC_TFT_LO.FT.addr, TRC_TFT_HI.FT.addr, TRC_TSSEQ.SSEQ.addr, CSA_CORR.COUNT.addr,
    CSA_UNCORR.DETECT.addr, CSA_ELOG.ADDR.addr].contains a || (strdCfgAt a).isSome

/-- The status registers of the states that settle at the end of a step. -/
def settleRegs : List Nat :=
  [DEV_STATE.PREV.addr, SEQ_STAT.PREV_STATE.addr, SEQ_BG.PREEMPT.addr, DIAG_STAT.STATE.addr, DIAG_RES_LO.RES.addr,
    DIAG_RES_HI.RES.addr, DIAG_CNT.ABORTS.addr]
  ++ (List.range 4).flatMap (fun n => [(STN_STAT.PREV n).addr, (ISNS_STAT.CAL_STATE n).addr, (BNKA_STAT.ACT_CUR n).addr])

/-- The field side without what the logging of events and the writing of records may touch: registers and what holds for them (see
`logReg`), the store, the log, the store sequence number, the trigger. -/
def Tail.unlogged (t : Tail) : Tail :=
  { t with ssn := 0, regs := [], held := [], log := EvtLog.init, store := Store.init, trc := Trc.init }

/-- What the end of a step never touches in a station: feedback, loops, sharing, thermal state. -/
def Station.kept (s : Station) : Station :=
  { s with sq := Sq.init, isns := Isns.init, banks := Banks.init, setp := SetPt.init, modu := Modu.init, prot := Prot.init }

/-- The field side without what the settling of states may touch either: the unit's, the groups' and the stations' states and the
diagnostic sequence. -/
def Tail.kept (t : Tail) : Tail :=
  { t.unlogged with
    us := .boot
    grp := Vector.replicate 2 Grp.init
    stn := t.stn.map Station.kept
    diag := Diag.init }

/-- Register `a` reads in `r` as in `t`, and the value in effect in its block is the same (05 R169). -/
def Tail.SameReg (t r : Tail) (a : Nat) : Prop := r.word a = t.word a ∧ r.inEff a = t.inEff a

/-- `r` differs from `t` at most in what the logging of events and the writing of records may touch. -/
def Tail.Logs (t r : Tail) : Prop := r.unlogged = t.unlogged ∧ ∀ a, logReg a = false → t.SameReg r a

/-- `r` differs from `t` at most in what the end of a step may touch. -/
def Tail.Frames (t r : Tail) : Prop :=
  r.kept = t.kept ∧ ∀ a, logReg a = false → settleRegs.contains a = false → t.SameReg r a

/-! ## Start-up -/

/-- The field side whose PLLs have just locked (03 R94, R96, R109, R111, 02 R72): every fitted clock runs, Field Time counts with its
replicas equal to it, the first training run has begun, and the gate block of a failed lock has ended. -/
def Tail.pllsUp (t : Tail) : Tail :=
  { t.inc BLNK_STAT.TRAIN_CNT with
    clk := ⟨if t.u.orbit then 0xFF else 0xBF, true, true, true, none, false, ⟨t.ft, 0⟩, ⟨t.ft, 0⟩, ⟨t.ft, 0⟩⟩
    aon := { t.aon with gateBlock := false }
    link := { t.link with trainAt := t.now }
    boot := { t.boot with t3 := true, dead := false, t3At := t.now, last := t.now } }

/-- How far replica `r` of a clock with the pattern `pat` stands from Field Time at `ft`, once it has gained `d` ticks more (03 R97). -/
def Replica.off (r : Replica) (pat : Nat → Nat) (d : Int) (ft : DWord) : Nat :=
  (({ r with gain := r.gain + d }).value pat ft - ft).toInt.natAbs

/-- Replica `r` after its check: reloaded where it has slipped, else with its gain. -/
def Replica.next (r : Replica) (slip : Bool) (d : Int) (ft : DWord) : Replica :=
  if slip then ⟨ft, 0⟩ else { r with gain := r.gain + d }

/-! ## Frames and bus transactions served whole -/

/-- The field side once H2F message `m` has stood on the lane (02 R88). -/
def Tail.carriedH2F (t : Tail) (m : H2F) : Tail := { t with link := t.link.carried t.now m.count 0 }

/-- Frame `f` of operation `op` is new and is served by the field side (08 R278, R292): the Headstock is powered with no frame in progress,
the header passes its checks, the frame is not Headstock-local, the field side is ready and serves the link, and neither the duplicate
table nor the last LSEQ accepted makes it a repetition. -/
abbrev State.Serves (s : State) (op : HspOp) (f : Frame) : Prop :=
  s.hs.powered = true ∧ s.hs.frame = none ∧ headerCheck s.fs.u op f = none ∧ frameLocal op f = false ∧ s.hs.ready = true
    ∧ s.fs.serves = true ∧ s.hs.entry (frCh f) f.seq = none
    ∧ s.fs.link.lastLseq[(frCh f).val] ≠ some (s.hs.lseq[(frCh f).val] + 1)

/-- The Headstock once the request of frame `f` has gone out (08 R865, R319): the channel's next LSEQ is taken, and FRAMES counted. -/
def State.requested (s : State) (f : Frame) : Head :=
  let h := s.takeLateHsp.hs
  ({ h with lseq := h.lseq.set (frCh f).val (h.lseq[(frCh f).val] + 1) } : Head).inc s.fs.u HSP_CNT_A.FRAMES

/-- The field side in the commit of frame `f`, before its operation (02 R62, 06 R206, R219, 22 R773): the LSEQ is accepted, the next store
sequence number taken, host activity noted, the CMD record written. -/
def State.begun (s : State) (op : HspOp) (f : Frame) : Tail :=
  let t := s.fs.acceptReq (Fin.ofNat 16 (frCh f).val) (s.hs.lseq[(frCh f).val] + 1)
  (Tail.hostActivity { t with ssn := t.ssn + 1 }).record .sqc (frCh f).val 3 true (requestBody op f ++ [0x00])

/-- The unit once frame `f` has been answered with `st` and `data` (08 R281, R297, R319, 06 R206, 02 R70): `t` is the field side as the
operation left it, in its commit; SNAP is the number of that commit, the RSP record follows under the next, the response is kept, and the
duplicate table takes it. -/
def State.answered (s : State) (op : HspOp) (f : Frame) (st : Nat) (data : List Byte) (t : Tail) : State :=
  let u := s.fs.u
  let c := (frCh f).val
  let snap := s.fs.ssn + 1
  let q := s.hs.lseq[c] + 1
  let body := responseBody st f.seq snap data
  let m : H2F := .reqHsp c q op f (frameChk op f) .execute
  let r := (t.seal.finish.commitOn c (fun r => r.record .sqc c 4 true body)).logAll
  let r := r.keepRsp (Fin.ofNat 16 c) ⟨false, q, f.seq, frameChk op f, st, snap, data⟩
  { s with
    rxBuf := s.rxBuf.filter (·.mb)
    rsp := some ⟨st, f.seq, snap, data⟩
    hs := ((((s.requested f).learn op f body).countEnd u st).last u f st).release
    fs := ({ r with link := r.link.carried r.now m.count (rspSymbols body.length) } : Tail).noteSent c q body }

/-- A transaction of the management bus is served whole (09 R323, R328): the Headstock is powered, the bus idle, the field side ready and
serving the link, and its last LSEQ accepted is not the next one. -/
abbrev State.ServesBus (s : State) : Prop :=
  s.hs.powered = true ∧ s.hs.mb.phase = .idle ∧ s.hs.ready = true ∧ s.fs.serves = true
    ∧ s.fs.link.lastLseq[8] ≠ some (s.hs.lseq[8] + 1)

/-- The unit once the bus has matched its address (09 section 6, 01 R22): what waited in the receive buffer is taken, and the transaction
is counted. -/
def State.matched (s : State) : State := { s.takeLateMb with hs := s.takeLateMb.hs.mbMatch s.fs.u }

/-- The field side in the commit of bus command `c` with the data bytes `d` of its message, before its operation (09 R335, 02 R62). -/
def State.begunBus (s : State) (c : MbCmd) (d : List Byte) : Tail :=
  let t := s.fs.acceptReq 8 (s.hs.lseq[8] + 1)
  (Tail.hostActivity { t with ssn := t.ssn + 1 }).record .sqc 8 3 true ([mbCode c, BitVec.ofNat 8 d.length] ++ d ++ [0x00])

/-- The field side once the bus command has been answered with `st` and `data`: `t` is the field side as the operation left it. -/
def State.answeredBus (s : State) (c : MbCmd) (d : List Byte) (st : Nat) (data : List Byte) (t : Tail) : Tail :=
  let q := s.hs.lseq[8] + 1
  let m : H2F := .reqMb 8 q (mbCode c) d .execute
  let r := (t.seal.finish.commitOn 8 (fun r => r.record .sqc 8 4 true (mbResponse st data))).logAll
  let r := r.keepRsp 8 ⟨true, q, 0, 0, st, s.fs.ssn + 1, data⟩
  ({ r with link := r.link.carried r.now m.count (rspSymbols (mbResponse st data).length) } : Tail).noteSent 8 q (mbResponse st data)

/-- The Headstock once the request of bus transaction `x` has gone out (09 R328, R329). -/
def State.requestedBus (s : State) (x : MbTxn) : Head :=
  let h := s.matched.hs
  ({ h with lseq := h.lseq.set 8 (h.lseq[8] + 1) } : Head).mbSent s.fs.u s.fs.now x (h.lseq[8] + 1)

/-- The unit after a bus transaction `x` of command `c` that held SCL for its response `st`, `data`; `d` are the data bytes of its
message, and `t` is the field side in its commit. -/
def State.busDone (s : State) (x : MbTxn) (c : MbCmd) (d : List Byte) (st : Nat) (data : List Byte) (t : Tail) : State :=
  { s.takeLateMb with hs := (s.requestedBus x).mbDone s.fs.u st data, fs := s.answeredBus c d st data t }

/-- The unit after a field read of the bus that returned `data`. -/
def State.busRead (s : State) (c : MbCmd) (d data : List Byte) (t : Tail) : State := s.busDone (readTxn c) c d okSt data t

/-- The bus write of `d` to `c` with its PEC byte (09 R325). -/
def Head.writeWithPec (h : Head) (c : MbCmd) (d : List Byte) : MbTxn :=
  { writeTxn c d none with pec := some (h.writePec (writeTxn c d none)) }

/-! ## Invariants of runs -/

/-- The gates of a fitted station are enabled only in the unit states and station states of 10 R366. -/
abbrev Tail.GatesSafe (t : Tail) : Prop :=
  ∀ n ∈ t.stns, (t.stnGet n).modu.gate = .enabled → t.us.gatesMay = true ∧ (t.stnGet n).sq.st.isRunning = true

/-- What a channel's duplicate table holds (08 R296, R297): at most eight entries with distinct SEQ, complete ones with the first 64 bytes
of their data, pending ones with none. -/
abbrev dupSound (l : List DupEntry) : Prop :=
  l.length ≤ 8 ∧ (l.map (·.seq)).Nodup ∧ ∀ e ∈ l, e.data.length = if e.complete then min e.n 64 else 0

/-- The Headstock is sound: its duplicate tables are, an outstanding request belongs to the frame in progress, and without power there is no
frame, request or transaction. -/
def Head.Sound (h : Head) : Prop :=
  (∀ c : Fin 8, dupSound h.dup[c])
  ∧ (∀ o, h.out = some o → o.cstr < 8 ∧ ∃ x, h.frame = some x ∧ x.phase ≠ .over)
  ∧ (h.powered = false → h.frame = none ∧ h.out = none ∧ h.mb = MbState.init)

/-- The commands that belong to a transaction on a port of the Headstock (01 R22): frames of the HSP and their parts, register commands
of the host on the Headstock's own pages, transactions of the management bus and its pushes, and what arrives or fails to arrive for a
transaction in progress. -/
def inTransaction (c : Instr) : Bool :=
  match c with
  | .pgrst _ | .regWrite _ | .regRead _ | .regWriteVerify _ | .streamPut _ | .streamGet _ | .streamPeek _ | .statusDigest _ | .nop _
  | .sessionOpen _ | .sessionAuth _ | .sessionClose _ | .faultClear _ _ | .faultClearAll _ => true
  | .hspHeader _ | .hspRequestEnd _ | .frameAbort _ | .fieldTimeout | .hsCsNRise | .hspCntClr | .dupClr _ => true
  | .rspHsp _ | .rspMb _ | .nakF _ | .nakHRepeat _ => true
  | .mbCommandByte _ | .statusWord | .alarmSummary | .unitState | .maxTemp | .groupTemps | .stationStatus | .mbFaultClear _ _
  | .pageSelRead | .pageSelWrite _ _ | .regDataRead | .regDataWrite _ _ | .eventFetchRead | .eventFetchWrite _ _ | .heartbeat _
  | .sleepReq _ _ | .identity | .wakePing _ | .mbStretchLimit | .mbResponseWait | .sclTimeout | .sdaTimeout => true
  | .pushStart | .pushTransaction _ | .pushBackoffEnd | .pollExpiry => true
  | _ => false

/-- The commands that reset the Headstock: its reset lines, and its 3.3 V, whose rise and fall reset it (04 R122). -/
def resetsHeadstock (c : Instr) : Bool :=
  match c with
  | .hrst _ | .mbrst _ | .hs3v3Rise | .hs3v3Fall => true
  | _ => false

/-- The unit once the last byte of a request of the frame in progress has been clocked in: the message `g` of the outstanding request `o`
is on the lane whole with its disposition `d`, and the Headstock is `h` (08 R292). -/
def State.requestOver (s : State) (o : OutReq) (op : HspOp) (g : Frame) (d : Disp) (h : Head) : State :=
  { s with
    hs := h
    h2f := s.h2f ++ [.reqHsp o.cstr o.lseq op g (frameChk op g) d]
    fs := { s.fs with link := { s.fs.link with openMsg := .none } } }

end Sys2Proof.Machine
end

