-- ==== Sys2Proof/Certificates/Slice0/Obligations.lean ====
section
/-! DEFINITION. The statements for the provers. A statement that rests on a reading or a choice of the model names its log entry
(notes/assumptions). -/

open Sys2Proof Sys2Proof.Machine

/-! ## The block and its queue -/

/-- A step with a command in front of the queue is that command, with the queue's rest. Rests on the model's reading in log entry 2. -/
def Obligations.StepRunsFront : Prop :=
  ∀ (c : Instr) (s : State) (cs : List Instr), step { s with pending := c :: cs } = exec c { s with pending := cs }

/-- On an empty queue the block idles for one tick: Field Time counts one while it runs, wall time one tick with it and else one cycle of
CLK_AON, and nothing but the two changes (the model's choice, log entry 1; 03 R93 gives the tick). -/
def Obligations.EmptyQueueTicks : Prop :=
  ∀ s : State, s.pending = [] →
    step s = .next { s with fs := { s.fs with
      now := s.fs.now + (if s.fs.clk.ftRun then 1 else 400)
      ft := if s.fs.clk.ftRun then s.fs.ft + 1 else s.fs.ft } }

/-- Every command completes from every state, and none touches the queue of waiting commands: the block refuses and stops at nothing.
Rests on the model's readings in log entries 2, 9. -/
def Obligations.EveryCommandCompletes : Prop :=
  ∀ (c : Instr) (s : State), ∃ t, exec c s = .next t ∧ t.pending = s.pending

/-! ## Resets, start-up, clocks and power (03, 04, 10) -/

/-- PON (00 R14, 04 R136, R139): with a supply valid the whole field side starts in BOOT: Field Time 0, epoch 0, the domains on or held
off for cold, the selector on A where A is valid, the stations and the link as a reset leaves them; both lanes are empty, the log area,
OTP and the Headstock stay, and every register that is not OTP or flash reads its reset value, but for the event latches and the boot's
own cause. Rests on the model's readings in log entries 5, 6, 61, 62, 63, 123. -/
def Obligations.PowerOn : Prop :=
  ∀ (a b cold : Bool) (s : State), (a || b) = true →
    Answers (.pon a b cold) s (fun r =>
      r.pending = s.pending ∧ r.hs = s.hs ∧ r.rsp = s.rsp ∧ r.rxBuf = s.rxBuf ∧ r.h2f = [] ∧ r.f2h = []
      ∧ r.fs.u = s.fs.u ∧ r.fs.us = .boot ∧ r.fs.ft = 0 ∧ r.fs.otp = s.fs.otp ∧ r.fs.sess = 0 ∧ r.fs.link = Link.init
      ∧ r.fs.aon = { Aon.init a b cold with log := s.fs.aon.log }
      ∧ r.fs.stn = Vector.ofFn (fun n => Station.init n.val)
      ∧ ∀ x, (∀ f ∈ regFields x, f.rby ≠ .never) → x % 256 ≠ 0x0C → x ≠ DEV_RSTCAUSE.FW_ACT.addr →
          r.fs.word x = regDefault s.fs.u x)

/-- TRST (10 R867, 00 R14): from a unit that is not OFF, requests on the lane are lost and the field side starts in BOOT with Field Time 0
and the next epoch, in Run with no request waiting, the domains held off where it is cold; what PD1 and OTP hold stays, and every other
register reads its reset value, but for the event latches and the reset's cause. The Tailstock resets that other events cause (10 R867):
the SQC watchdog (10 R377: 10 ms after its last service, or after a clock was declared stopped, 03 R110), the first store check that fails
(07 R256), an image that fails (10 R375). Each acts as TRST of its cause, whether the low-temperature hold applies being open; requests on
the lane are lost. Rests on the model's readings in log entries 5, 8, 61, 63. -/
def Obligations.TailstockResets : Prop :=
  (∀ (c : RstCause) (cold : Bool) (s : State), s.fs.us ≠ .off →
    Answers (.trst c cold) s (fun r =>
      r.pending = s.pending ∧ r.hs = s.hs ∧ r.rsp = s.rsp ∧ r.rxBuf = s.rxBuf ∧ r.h2f = [] ∧ r.f2h = s.f2h
      ∧ r.fs.u = s.fs.u ∧ r.fs.now = s.fs.now ∧ r.fs.us = .boot ∧ r.fs.ft = 0 ∧ r.fs.otp = s.fs.otp ∧ r.fs.sess = 0
      ∧ r.fs.link = Link.init
      ∧ r.fs.aon = { s.fs.aon with
          dom := if cold then 0x02 else 0xFE
          ps := .run, accepted := none, switching := none, wakePend := false, held := none, retained := false, cold := cold
          coldSeen := s.fs.aon.coldSeen || cold, epoch := s.fs.aon.epoch + 1, shutAt := none }
      ∧ r.fs.stn = Vector.ofFn (fun n => Station.init n.val)
      ∧ ∀ x, (∀ f ∈ regFields x, f.rby ≠ .never ∧ f.rby ≠ .pon) → x % 256 ≠ 0x0C → x ≠ DEV_RSTCAUSE.FW_ACT.addr →
          r.fs.word x = regDefault s.fs.u x))
  ∧ (∀ s : State, s.fs.pd 3 = true →
    exec .watchdogExpiry s = .next { s with
      h2f := []
      fs := (s.fs.elapseTo (s.fs.clk.wdogT.getD (s.fs.now + 4000000))).draw.trst .wdog (Config.coldAtReset s.fs.fresh) })
  ∧ (∀ s : State, s.fs.us = .boot → s.fs.boot.t3 = true → s.fs.boot.t5 = false → s.fs.boot.dead = false → s.fs.boot.checkFailed = false →
    exec (.storeInitDone true) s = .next { s with
      h2f := []
      fs := (s.fs.elapseTo (s.fs.boot.t3At + bootT5)).draw.trst .storeCheck (Config.coldAtReset s.fs.fresh) })
  ∧ (∀ s : State, s.fs.us = .boot → s.fs.boot.t3 = true → s.fs.boot.t6 = false → s.fs.fw.recovery = false →
    exec (.sqcImageVerified false) s = .next { s with
      h2f := []
      fs := (s.fs.elapseTo (s.fs.boot.t3At + bootT6)).draw.trst .imgFail (Config.coldAtReset s.fs.fresh) })

/-- The resets of the Headstock (04 R122, 08 R300, R316, R866, 09 R354). A pulse of HS_RST_N of 1.0 us or more ends the frame, empties the
duplicate table, restores the HSP registers and releases WAKE where the frame held it (02 R82); a message begun on the lane ends there: the
field side, which has received its beginning, discards it and answers NAK_F. A pulse of MB_RST_N of 1.0 us or more restores the MBUS
registers, samples the straps and ends the transaction, with WAKE where it held it; one shorter than 0.1 us does nothing. What a port's
receive buffer holds goes with its port. HS_3V3_RISE gives the Headstock its state after both resets with its LSEQ counters at 0;
HS_3V3_FALL ends its frame and transaction and what was on the way to it. Rests on the model's readings in log entries 36, 37. -/
def Obligations.HeadstockResets : Prop :=
  (∀ (ns : Nat) (s : State), s.hs.powered = true → 1000 ≤ ns → s.hs.out = none →
    exec (.hrst ns) s = .next (State.pump { s with
      fs := { s.fs with fresh := s.fs.fresh + 1 }
      rxBuf := s.rxBuf.filter (fun e => e.mb)
      hs := { s.hs with
        regs := keepFields s.fs.u (fun f => !([RstBy.hrst, RstBy.hrstPg].contains f.rby)) s.hs.regs
        dup := Vector.replicate 8 [], frame := none, drive := []
        wake := s.hs.wake && !s.hs.frame.any (fun x => !frameLocal x.op x.fr) } }))
  ∧ (∀ (ns : Nat) (s : State) (o : OutReq), s.hs.powered = true → 1000 ≤ ns → s.hs.out = some o → s.fs.link.openMsg = .open →
    exec (.hrst ns) s = .next (State.pump { s with
      fs := (((({ s.fs with fresh := s.fs.fresh + 1, link := { s.fs.link with openMsg := .none } }).inc BLNK_ERR.RX_CRC).evt 0x03 0).nakF
        true o.cstr o.lseq 3).logAll
      rxBuf := s.rxBuf.filter (fun e => e.mb)
      hs := { s.hs with
        regs := keepFields s.fs.u (fun f => !([RstBy.hrst, RstBy.hrstPg].contains f.rby)) s.hs.regs
        dup := Vector.replicate 8 [], frame := none, drive := [], out := none
        wake := s.hs.wake && !s.hs.frame.any (fun x => !frameLocal x.op x.fr) } }))
  ∧ (∀ (ns : Nat) (s : State), s.hs.powered = true → 1000 ≤ ns →
    exec (.mbrst ns) s = .next { s with
      fs := { s.fs with fresh := s.fs.fresh + 1 }
      rxBuf := s.rxBuf.filter (fun e => !e.mb)
      hs := { s.hs with
        regs := keepFields s.fs.u (fun f => !([RstBy.mbrst, RstBy.mbrstPg].contains f.rby)) s.hs.regs
        mbAddr := s.fs.u.straps, mb := MbState.init, wake := s.hs.wake && !s.hs.mb.found } })
  ∧ (∀ (ns : Nat) (s : State), ns < 100 →
    exec (.hrst ns) s = .next { s with fs := { s.fs with fresh := s.fs.fresh + 1 } }
    ∧ exec (.mbrst ns) s = .next { s with fs := { s.fs with fresh := s.fs.fresh + 1 } })
  ∧ (∀ s : State, s.hs.powered = false → exec .hs3v3Rise s = .next { s with hs := Head.init s.fs.u.straps })
  ∧ (∀ s : State, s.hs.powered = true →
    exec .hs3v3Fall s = .next { s with
      hs := { s.hs with powered := false, frame := none, drive := [], out := none, wake := false, mb := MbState.init }
      f2h := []
      rxBuf := []
      fs := { s.fs with link := { s.fs.link with rsps := [], prio := [] } } })

/-- The start-up steps (10 R372): the PLLs lock (03 R94: every clock runs, Field Time counts, the first training run begins), a later
attempt is made 1.0 s later (03 R111), the store passes its check (07 R254), the image is verified (10 R375), and with the steps passed
the unit enters READY_SAFE with DEV_BOOTMS and its latch, its pre-charge groups IDLE, no boot counted as failed (10 R373, 23 R814). A
store check that fails a second time leaves the unit in BOOT (07 R256, R257). Each step ends at its typical time (the model's choice, log
entry 99). Rests on the model's readings in log entries 8, 60, 64. -/
def Obligations.StartUpSteps : Prop :=
  (∀ s : State, s.fs.us = .boot → s.fs.pd 2 = true → s.fs.boot.t3 = false →
    Does .pllLocked s (s.fs.elapseTo (s.fs.boot.upAt + bootT3)).pllsUp)
  ∧ (∀ s : State, s.fs.us = .boot → s.fs.pd 2 = true → s.fs.boot.t3 = false →
    Does (.pllRetry false) s { s.fs.elapse 400000000 with boot := { s.fs.boot with dead := true } }
    ∧ Does (.pllRetry true) s (s.fs.elapse 400000000).pllsUp)
  ∧ (∀ s : State, s.fs.us = .boot → s.fs.boot.t3 = true → s.fs.boot.t5 = false → s.fs.boot.dead = false →
    Does (.storeInitDone false) s ((({ (s.fs.elapseTo (s.fs.boot.t3At + bootT5)).passBegin 0 with
      boot := { s.fs.boot with t5 := true, last := (s.fs.elapseTo (s.fs.boot.t3At + bootT5)).now } }.p CSG_STAT.INIT_DONE 1).evt 0x06 0).logAll)
    ∧ (s.fs.boot.checkFailed = true → Does (.storeInitDone true) s
      { s.fs.elapseTo (s.fs.boot.t3At + bootT5) with boot := { s.fs.boot with dead := true } }))
  ∧ (∀ s : State, s.fs.us = .boot → s.fs.boot.t3 = true → s.fs.boot.t6 = false → s.fs.fw.recovery = false →
    Does (.sqcImageVerified true) s { s.fs.elapseTo (s.fs.boot.t3At + bootT6) with
      boot := { s.fs.boot with t6 := true, last := (s.fs.elapseTo (s.fs.boot.t3At + bootT6)).now } })
  ∧ (∀ s : State, s.fs.us = .boot → s.fs.boot.t5 = true → s.fs.boot.t6 = true → s.fs.boot.t7 = false → s.fs.boot.therm = false →
    Settles .eventLogRestored s { (s.fs.elapseTo (s.fs.boot.last + bootT7)).restoreLog.hwLevels with
      boot := { s.fs.boot with t7 := true, last := (s.fs.elapseTo (s.fs.boot.last + bootT7)).now }
      hk := { Hk.init with since := (s.fs.elapseTo (s.fs.boot.last + bootT7)).now } })
  ∧ (∀ s : State, s.fs.us = .boot → (s.fs.boot.t4 = true ∨ s.fs.link.trainFail = true) → s.fs.boot.t5 = true →
      s.fs.boot.t6 = true → s.fs.boot.t8 = true → s.fs.boot.dead = false → s.fs.fw.recovery = false →
    Settles .bootComplete s (({ ((((s.fs.elapseTo (s.fs.boot.last + bootT9)).p DEV_STATE.PREV 1).p SEQ_STAT.PREV_STATE 1).p DEV_BOOTMS.MS
        (min 0xFFFF (((s.fs.elapseTo (s.fs.boot.last + bootT9)).now - s.fs.boot.start) / 400000))) with
      us := .readySafe
      grp := s.fs.grp.map (fun (g : Grp) => { Grp.init with v := g.v, vPrev := g.vPrev, vAt := g.vAt })
      fw := { s.fs.fw with bootFail := Vector.replicate 2 0 } }).evt 0x20 2))

/-- PLL loss (03 R115), replica checks (03 R96, R97: a replica more than one of its clock periods off is counted, latched and reloaded),
abandoned transfers (03 R112: counted, STALE, FIRST_ID while its latch is clear; the block keeps what it had, the register reads the new
value), unstable values (03 R105: the receiver keeps the previous value), and stopped clocks (03 R109, R110: the gates are blocked, FAULT
is asserted, the watchdog is let expire, and Field Time stands with CLK_PWM or the crystal). Rests on the model's readings in log entries
16, 63, 66, 114, 115, 116. -/
def Obligations.ClocksAndCrossings : Prop :=
  (∀ s : State, s.fs.clk.pllA = true →
    Settles (.pllUnlock false) s (({ s.fs with clk := { s.fs.clk with pllA := false } }).evt 0x05 4))
  ∧ (∀ s : State, s.fs.clk.pllB = true →
    Settles (.pllUnlock true) s (({ s.fs with clk := { s.fs.clk with pllB := false } }).evt 0x05 4))
  ∧ (∀ (ce fb sq : Int) (s : State) (t : Tail) (a b d : Bool), s.fs.clk.ftRun = true → t = s.fs.elapse (2 ^ 20 - s.fs.ft.toNat % 2 ^ 20) →
      (a = true ↔ 4 < s.fs.clk.ce.off tickCe ce t.ft * 3) → (b = true ↔ 4 < s.fs.clk.fb.off tickFb fb t.ft) →
      (d = true ↔ 8 < s.fs.clk.sq.off tickSq sq t.ft * 3) →
    Answers (.ftReplicaCheck ce fb sq) s (fun r =>
      r.pending = s.pending ∧ r.hs = s.hs ∧ r.h2f = s.h2f ∧ r.f2h = s.f2h ∧ r.rsp = s.rsp ∧ r.fs.now = t.now ∧ r.fs.ft = t.ft
      ∧ r.fs.clk = { s.fs.clk with
          ce := s.fs.clk.ce.next a ce t.ft, fb := s.fs.clk.fb.next b fb t.ft, sq := s.fs.clk.sq.next d sq t.ft }
      ∧ r.fs.g CLK_FTCHK.CE_SLIP = (if a then satInc CLK_FTCHK.CE_SLIP.width (s.fs.g CLK_FTCHK.CE_SLIP) else s.fs.g CLK_FTCHK.CE_SLIP)
      ∧ r.fs.g CLK_FTCHK.FB_SLIP = (if b then satInc CLK_FTCHK.FB_SLIP.width (s.fs.g CLK_FTCHK.FB_SLIP) else s.fs.g CLK_FTCHK.FB_SLIP)
      ∧ r.fs.g CLK_FTCHK.SEQ_SLIP = (if d then satInc CLK_FTCHK.SEQ_SLIP.width (s.fs.g CLK_FTCHK.SEQ_SLIP) else s.fs.g CLK_FTCHK.SEQ_SLIP)
      ∧ (s.fs.evtBit 0x05 3 = true ∨ a || b || d → r.fs.evtBit 0x05 3 = true)))
  ∧ (∀ (id : Nat) (page : Byte) (s : State), hsCrossings.contains id = true → pageCrossing page.toNat = some id → id ≠ 0x12 →
      s.fs.pd (pageDomain page.toNat) = true → s.fs.pd 3 = true → fieldPages.contains page.toNat = true →
        s.fs.absentPage page.toNat = false →
      s.fs.xfer = [] →
    (s.fs.evtBit 0x05 0 = false → Settles (.cdcTimeout id page) s
      (((((s.fs.p CLK_CDC.FIRST_ID id).inc CLK_CDC.TO_COUNT).p (PG_STAT.STALE page.toNat) 1).evt 0x05 0)))
    ∧ (s.fs.evtBit 0x05 0 = true → Settles (.cdcTimeout id page) s
      ((((s.fs.inc CLK_CDC.TO_COUNT).p (PG_STAT.STALE page.toNat) 1).evt 0x05 0))))
  ∧ (∀ (id : Nat) (page : Byte) (a : Nat) (w : Word) (s : State), hsCrossings.contains id = true → pageCrossing page.toNat = some id →
      id ≠ 0x12 → s.fs.pd (pageDomain page.toNat) = true → s.fs.pd 3 = true → fieldPages.contains page.toNat = true →
      s.fs.absentPage page.toNat = false → s.fs.xfer = [(a, w)] → a / 256 = page.toNat →
      0x20 ≤ a % 256 → logReg a = false → settleRegs.contains a = false →
    Answers (.cdcTimeout id page) s (fun r =>
      r.fs.inEff a = w ∧ r.fs.word a = s.fs.word a ∧ r.fs.b (PG_STAT.STALE page.toNat) = true))
  ∧ (∀ (n : Stn) (page : Byte) (s : State), page.toNat = stnPage n 0xD → s.fs.pd 6 = true → s.fs.pd 3 = true →
      s.fs.absentPage page.toNat = false → s.fs.evtBit 0x05 0 = true →
    Settles (.cdcTimeout 0x12 page) s
      ((((s.fs.moduMap n (fun m => { m with next := none })).inc CLK_CDC.TO_COUNT).p (PG_STAT.STALE page.toNat) 1).evt 0x05 0))
  ∧ (∀ (id : Nat) (s : State), [0x11, 0x14, 0x1B, 0x1D].contains id = true → s.fs.pd 3 = true → s.fs.dsOld = [] →
    Settles (.dsUnstable id) s
      (((s.fs.p CLK_UNST_LO.ID (setBit (s.fs.g CLK_UNST_LO.ID) id true)).inc CLK_UNST_CNT.COUNT).evt 0x05 1))
  ∧ (∀ (id : Nat) (s : State), [0x22, 0x27].contains id = true → s.fs.pd 3 = true → s.fs.dsOld = [] →
    Settles (.dsUnstable id) s
      (((s.fs.p CLK_UNST_HI.ID (setBit (s.fs.g CLK_UNST_HI.ID) (id - 0x20) true)).inc CLK_UNST_CNT.COUNT).evt 0x05 1))
  ∧ (∀ (id a : Nat) (w : Word) (s : State), dsCrossings.contains id = true → s.fs.pd 3 = true → s.fs.dsOld = [(a, w)] → dsRegs id a = true →
    Answers (.dsUnstable id) s (fun r => r.fs.ds = smIns s.fs.ds a w))
  ∧ (∀ (clk : Fin 8) (s : State), s.fs.pd 2 = true → s.fs.clk.run.getLsbD clk = true →
    Answers (.clockStopped clk) s (fun r =>
      r.pending = s.pending ∧ r.hs = s.hs ∧ r.h2f = s.h2f ∧ r.f2h = s.f2h ∧ r.rsp = s.rsp
      ∧ r.fs.aon.gateBlock = true ∧ r.fs.clk.run = s.fs.clk.run &&& ~~~((1 : BitVec 8) <<< clk.val)
      ∧ r.fs.clk.clkStopped = true ∧ r.fs.clk.wdogT = some (s.fs.now + 4000000)
      ∧ r.fs.clk.ftRun = (s.fs.clk.ftRun && clk.val != 0 && clk.val != 7) ∧ r.fs.ft = s.fs.ft ∧ r.fs.faultLevel = true))

/-- The supply selector (04 R121, R124 to R133): a failing A hands over to a valid B, whose connection completes the hand-over and is
counted; the eighth within 60 s holds B and sets SUPPLY_UNSTABLE, which a clear ends; a returned A is taken again after a dwell of 500 ms
without an excursion; a failing B aborts a hand-over or gives the load back to a valid A. The loss of both supplies (04 R134 to R136): the
unit is OFF with every domain off, and both lanes are empty; where the log is open, the log area holds the newest 128 event records at
most, the last `n` of them where the hold-up runs out after `n`. Rests on the model's readings in log entries 62, 67. -/
def Obligations.Supplies : Prop :=
  (∀ s : State, s.fs.pd 1 = true → s.fs.aon.aValid = true →
    Does .aFailed s { s.fs with aon := { s.fs.aon with
      aValid := false, aRet := false
      ho := if s.fs.aon.ho = .onA ∧ s.fs.aon.bValid = true then .commit else if s.fs.aon.ho = .dwell then .onB else s.fs.aon.ho
      dwell := if s.fs.aon.ho = .dwell then none else s.fs.aon.dwell } })
  ∧ (∀ (aRet : Bool) (s : State), s.fs.pd 1 = true → s.fs.pd 3 = true → s.fs.aon.ho = .commit →
      (s.fs.aon.hoTimes.filter (fun x => s.fs.now ≤ x + 24000000000)).length < 7 →
    Settles (.bConnected aRet) s (({ s.fs with aon := { s.fs.aon with
      aRet := aRet, aValid := s.fs.aon.aValid || aRet
      hoTimes := s.fs.aon.hoTimes.filter (fun x => s.fs.now ≤ x + 24000000000) ++ [s.fs.now]
      hoTotal := min 0xFFFF (s.fs.aon.hoTotal + 1)
      ho := if aRet then .dwell else .onB
      dwell := if aRet then some (s.fs.now + 200000000) else none } }).evt 0x04 0))
  ∧ (∀ (aRet : Bool) (s : State), s.fs.pd 1 = true → s.fs.pd 3 = true → s.fs.aon.ho = .commit →
      7 ≤ (s.fs.aon.hoTimes.filter (fun x => s.fs.now ≤ x + 24000000000)).length →
    Settles (.bConnected aRet) s ((({ s.fs with aon := { s.fs.aon with
      aRet := aRet, aValid := s.fs.aon.aValid || aRet
      hoTimes := s.fs.aon.hoTimes.filter (fun x => s.fs.now ≤ x + 24000000000) ++ [s.fs.now]
      hoTotal := min 0xFFFF (s.fs.aon.hoTotal + 1)
      ho := .heldB, dwell := none, unstable := true } }).evt 0x04 2).evt 0x04 0))
  ∧ (∀ s : State, s.fs.pd 1 = true →
    Does .aReturn s { s.fs with aon := { s.fs.aon with
      aRet := true, aValid := true
      ho := if s.fs.aon.ho = .onB then .dwell else s.fs.aon.ho
      dwell := if s.fs.aon.ho = .onB then some (s.fs.now + 200000000) else s.fs.aon.dwell } })
  ∧ (∀ s : State, s.fs.pd 1 = true →
    Does .aExcursion s { s.fs with aon := { s.fs.aon with
      aRet := false, ho := if s.fs.aon.ho = .dwell then .onB else s.fs.aon.ho, dwell := none } })
  ∧ (∀ (d : Nat) (s : State), s.fs.aon.ho = .dwell → s.fs.aon.dwell = some d → s.fs.pd 3 = true →
    Settles .dwellComplete s (({ s.fs.elapse (d - s.fs.now) with aon := { s.fs.aon with ho := .onA, dwell := none } }).evt 0x04 1))
  ∧ (∀ s : State, s.fs.pd 1 = true → s.fs.pd 3 = true → s.fs.aon.bValid = true → s.fs.aon.ho = .commit → s.fs.aon.aValid = true →
    Settles .bFailed s (({ (({ s.fs with aon := { s.fs.aon with bValid := false, ho := .onA, dwell := none } }).evt 0x04 3) with
      aon := { s.fs.aon with bValid := false, ho := .onA, dwell := none, hoAborts := min 0xFF (s.fs.aon.hoAborts + 1) } }).evt 0x04 4))
  ∧ (∀ s : State, s.fs.pd 1 = true → s.fs.pd 3 = true → s.fs.aon.bValid = true → s.fs.aon.ho ≠ .commit →
    Settles .bFailed s (({ s.fs with aon := { s.fs.aon with
      bValid := false, ho := if s.fs.aon.aValid then .onA else s.fs.aon.ho
      dwell := if s.fs.aon.aValid then none else s.fs.aon.dwell } }).evt 0x04 3))
  ∧ (∀ s : State, s.fs.pd 3 = true →
    Does .unstableClr s { s.fs with aon := { s.fs.aon with
      unstable := false, hoTimes := []
      ho := if s.fs.aon.ho = .heldB then (if s.fs.aon.aRet then .dwell else .onB) else s.fs.aon.ho
      dwell := if s.fs.aon.ho = .heldB then (if s.fs.aon.aRet then some (s.fs.now + 200000000) else none) else s.fs.aon.dwell } })
  ∧ (∀ s : State, s.fs.pd 1 = true →
    Does (.supplyValid false) s { s.fs with aon := { s.fs.aon with aValid := true } }
    ∧ Does (.supplyValid true) s { s.fs with aon := { s.fs.aon with bValid := true } })
  ∧ (∀ (cut : Option Nat) (s : State), s.fs.us ≠ .off →
    Answers (.bothSuppliesFailed cut) s (fun r =>
      r.pending = s.pending ∧ r.hs = s.hs ∧ r.rsp = s.rsp ∧ r.h2f = [] ∧ r.f2h = []
      ∧ r.fs.us = .off ∧ r.fs.aon.dom = 0 ∧ r.fs.aon.aValid = false ∧ r.fs.aon.bValid = false ∧ r.fs.otp = s.fs.otp
      ∧ r.fs.stn = Vector.ofFn (fun n => Station.init n.val)
      ∧ r.fs.aon.log = if s.fs.pd 4 && s.fs.log.ready
          then (let recs := (s.fs.eventRecs (s.fs.sst 160).recs).1
            let k := min 128 (min recs.length (cut.getD 128))
            ⟨recs.drop (recs.length - k), 1, k = min 128 recs.length, false⟩)
          else s.fs.aon.log))

/-- Requests for a power state (04 R145, R146, R148): accepted from READY_SAFE or SLEEP with every station DISABLED (for Deep sleep with
every output off, REQ_RUN from Standby, in Run without effect); a Standby or Deep request that may not be is refused with its latch; while
a transition is accepted or in progress a request is held. Power transitions (04 R147, R150 to R153, 10 R367): an accepted one starts
after the response of its frame, the unit being in SLEEP from the accepted request of Standby or Deep sleep on; Run powers PD7, PD5 and
PD6 and leaves READY_SAFE; Standby powers them down, and with RETAIN keeps the store in retention; an entry into Deep sleep clears
LINK_RDY and Field Time stands, and in Deep sleep only PD1 is on; a cold hold that is released powers the domains. -/
def Obligations.PowerStates : Prop :=
  (∀ s : State, s.fs.pd 3 = true → s.fs.aon.accepted = none → s.fs.aon.switching = none → s.fs.aon.wakePend = false →
    (s.fs.aon.ps = .standby → Settles .reqRun s { s.fs with aon := { s.fs.aon with accepted := some .run } })
    ∧ ((s.fs.us = .readySafe ∨ s.fs.us = .sleep) → s.fs.allDisabled = true →
        Settles .reqStandby s { s.fs.setUnit .sleep with aon := { s.fs.aon with accepted := some .standby } })
    ∧ ((s.fs.us = .readySafe ∨ s.fs.us = .sleep) → s.fs.allDisabled = true → (∀ k < 8, s.fs.doOn k = false) →
        Settles .reqDeep s { s.fs.setUnit .sleep with aon := { s.fs.aon with accepted := some .deep } })
    ∧ (s.fs.aon.ps ≠ .standby → Settles .reqRun s s.fs)
    ∧ (s.fs.allDisabled = false → Settles .reqStandby s (s.fs.evt 0x04 5) ∧ Settles .reqDeep s (s.fs.evt 0x04 5))
    ∧ (s.fs.us ≠ .readySafe → s.fs.us ≠ .sleep →
        Settles .reqStandby s (s.fs.evt 0x04 5) ∧ Settles .reqDeep s (s.fs.evt 0x04 5))
    ∧ ((List.range 8).any (fun k => s.fs.doOn k) = true → Settles .reqDeep s (s.fs.evt 0x04 5)))
  ∧ (∀ s : State, s.fs.pd 3 = true → (s.fs.aon.accepted ≠ none ∨ s.fs.aon.switching ≠ none) →
    Settles .reqRun s { s.fs with aon := { s.fs.aon with held := some .run } }
    ∧ Settles .reqStandby s { s.fs with aon := { s.fs.aon with held := some .standby } }
    ∧ Settles .reqDeep s { s.fs with aon := { s.fs.aon with held := some .deep } })
  ∧ (∀ s : State, s.fs.aon.accepted = some .standby → s.fs.aon.switching = none → s.fs.aon.retained = false → s.fs.link.rsps = [] →
      s.fs.link.prio = [] →
    Settles .transitionStart s ({ s.fs with aon := { s.fs.aon with accepted := none, switching := some .standby } }))
  ∧ (∀ s : State, s.fs.aon.accepted = some .run → s.fs.aon.switching = none → s.fs.aon.retained = false → s.fs.link.rsps = [] →
      s.fs.link.prio = [] →
    Settles .transitionStart s ({ s.fs with aon := { s.fs.aon with accepted := none, switching := some .run } }))
  ∧ (∀ s : State, s.fs.aon.switching = some .run → s.fs.us = .sleep → s.fs.aon.held = none → s.fs.xferWait = [] →
    Settles .runTransitionDone s (Tail.senseOn ({ (s.fs.p DEV_STATE.PREV 8).p SEQ_STAT.PREV_STATE 8 with
      us := .readySafe, aon := { s.fs.aon with dom := s.fs.aon.dom ||| 0xE0, ps := .run, switching := none } })))
  ∧ (∀ s : State, s.fs.aon.switching = some .standby → s.fs.aon.held = none → s.fs.g PWR_CTRL.RETAIN = 0 →
    Settles .standbyTransitionDone s (Tail.ainStop (({ s.fs with
      aon := { s.fs.aon with dom := s.fs.aon.dom &&& 0x1F, ps := .standby, switching := none }
      hk := { Hk.init with since := s.fs.now } }.p HK_INV_LO.INV 0xFFFFFFFF).p HK_INV_HI.INV 0xFFFFFFFF)))
  ∧ (∀ s : State, s.fs.aon.switching = some .deep →
    Answers .deepSleepEntered s (fun r =>
      r.pending = s.pending ∧ r.hs = s.hs ∧ r.rsp = s.rsp ∧ r.h2f = [] ∧ r.f2h = s.f2h
      ∧ r.fs.us = .sleep ∧ r.fs.ft = s.fs.ft ∧ r.fs.ssn = s.fs.ssn ∧ r.fs.otp = s.fs.otp
      ∧ r.fs.aon = { s.fs.aon with dom := 0x02, ps := .deep, switching := none, retained := false }))
  ∧ (∀ s : State, s.fs.aon.cold = true →
    Does .coldHoldRelease s { s.fs with aon := { s.fs.aon with
      cold := false, dom := if s.fs.aon.wakePend then 0x1E else 0xFE }, boot := { s.fs.boot with upAt := s.fs.now } })
  ∧ (∀ s : State, s.fs.aon.accepted = some .deep → s.fs.aon.switching = none → s.fs.aon.retained = false → s.fs.link.rsps = [] →
      s.fs.link.prio = [] →
    ∃ r : Tail, Does .transitionStart s r ∧ r.us = s.fs.us ∧ r.aon.accepted = none ∧ r.aon.switching = some .deep
      ∧ r.link.ready = false ∧ r.clk.ftRun = false ∧ r.ft = s.fs.ft ∧ r.stn = s.fs.stn ∧ r.otp = s.fs.otp)
  ∧ (∀ s : State, s.fs.aon.switching = some .standby → s.fs.aon.held = none → s.fs.g PWR_CTRL.RETAIN = 1 →
      s.fs.store.wb = Vector.replicate 8 [] →
    Settles .standbyTransitionDone s { Tail.ainStop (({ s.fs with hk := { Hk.init with since := s.fs.now } }.p HK_INV_LO.INV
        0xFFFFFFFF).p HK_INV_HI.INV 0xFFFFFFFF) with
      aon := { s.fs.aon with dom := s.fs.aon.dom &&& 0x1F, ps := .standby, switching := none, retained := true } })

/-- WAKE (02 R76, R77, R83, 04 R144, R151): a valid interrogation of a powered Headstock takes the level of its WAKE cell; two asserted
answers in a row end Deep sleep, whose domains PD2 to PD4 are powered, or held off where it is cold, but nothing in THERMAL_SHUTDOWN; an
interrogation of an unpowered Headstock, or one whose code has lost its odd parity, counts towards four. At WAKE_COMPLETE Field Time goes
on from the bridged count of CLK_AON cycles and the unit is in Standby, with the link ready unless its training has failed (02 R74). Rests
on the model's readings in log entries 4, 20, 65, 99. -/
def Obligations.WakeFromDeepSleep : Prop :=
  (∀ (cold : Bool) (s : State), s.fs.pd 1 = true → s.hs.powered = true → s.fs.aon.ps ≠ .deep →
    Does (.wakeInterrogation 0 cold) s { s.fs with link := { s.fs.link with
      hsPresent := true, wakeLvl := s.hs.wake, deafRun := 0
      wakeRun := if s.hs.wake then min 2 (s.fs.link.wakeRun + 1) else 0 } })
  ∧ (∀ s : State, s.fs.pd 1 = true → s.hs.powered = true → s.hs.wake = true → s.fs.link.wakeRun = 1 → s.fs.aon.ps = .deep →
      s.fs.aon.wakePend = false → s.fs.us ≠ .thermalShutdown →
    Does (.wakeInterrogation 0 false) s { s.fs with
      link := { s.fs.link with hsPresent := true, wakeLvl := true, deafRun := 0, wakeRun := 2 }
      aon := { s.fs.aon with wakePend := true, cold := false, dom := 0x1E }, boot := { s.fs.boot with upAt := s.fs.now } }
    ∧ Does (.wakeInterrogation 0 true) s ({ s.fs with
      link := { s.fs.link with hsPresent := true, wakeLvl := true, deafRun := 0, wakeRun := 2 }
      aon := { s.fs.aon with wakePend := true, cold := true, coldSeen := true, dom := 0x02 }
      boot := { s.fs.boot with upAt := s.fs.now } }.evt 0x04 6))
  ∧ (∀ (err : BitVec 3) (cold : Bool) (s : State), s.fs.pd 1 = true → (s.hs.powered = false ∨ err = 1 ∨ err = 2 ∨ err = 4 ∨ err = 7) →
    Does (.wakeInterrogation err cold) s { s.fs with link := { s.fs.link with
      wakeRun := 0, deafRun := min 4 (s.fs.link.deafRun + 1) } })
  ∧ (∀ (cold : Bool) (s : State), s.fs.pd 1 = true → s.hs.powered = true → s.fs.us = .thermalShutdown →
    Does (.wakeInterrogation 0 cold) s { s.fs with link := { s.fs.link with
      hsPresent := true, wakeLvl := s.hs.wake, deafRun := 0
      wakeRun := if s.hs.wake then min 2 (s.fs.link.wakeRun + 1) else 0 } })
  ∧ (∀ s : State, s.fs.aon.wakePend = true → s.fs.aon.cold = false → s.fs.us = .sleep →
    Answers .wakeComplete s (fun r =>
      r.pending = s.pending ∧ r.hs = s.hs ∧ r.rsp = s.rsp ∧ r.h2f = s.h2f ∧ r.f2h = s.f2h
      ∧ r.fs.now = max s.fs.now (s.fs.boot.upAt + wakeTime)
      ∧ r.fs.ft = (s.fs.elapseTo (s.fs.boot.upAt + wakeTime)).ft + BitVec.ofNat 64 ((r.fs.now - s.fs.aon.sleptAt) / 400 * 400)
      ∧ r.fs.aon.ps = .standby ∧ r.fs.aon.wakePend = false ∧ r.fs.clk.ftRun = true ∧ r.fs.link.ready = !s.fs.link.trainFail))

/-! ## The Central Store (06, 07) -/

/-- Streams as their commands leave them (06 R199, R201, R203, R212, R218, R229): a STREAM_RESET of a stream that is neither one of the
fixed ones nor in use by a running station empties its ring, clears LOST and WMHIGH and asks for a SYNC, under a commit of its own; a
STREAM_SYNC asks for a SYNC alone; an accepted descriptor write is committed, a refused one leaves the descriptor and records the refusal;
the oldest held record is written once it fits. Rests on the model's reading in log entry 68. -/
def Obligations.StreamCommands : Prop :=
  (∀ (k : Byte) (s : State), s.fs.on 3 = true → strdAbsent s.fs.u k.toNat = false → k ≠ 161 → ¬ (168 ≤ k.toNat ∧ k.toNat < 192) →
      s.fs.strdBusy k.toNat = false →
    Settles (.streamReset k) s (s.fs.commit (fun t => ((t.sysWrites (descX k.toNat) 2).sstMap k.toNat (fun x =>
      { x with wr := 0, rd := 0, recs := [], held := [], skip := false })).sstMap k.toNat (fun x =>
      { x with lost := 0, loss := false, wmHigh := false, syncReq := true }))))
  ∧ (∀ (k : Byte) (s : State), s.fs.on 3 = true → strdAbsent s.fs.u k.toNat = false →
    Settles (.streamSync k) s (s.fs.commit (fun t => t.sstMap k.toNat (fun x => { x with syncReq := true }))))
  ∧ (∀ (k : Byte) (word : Word) (s : State), s.fs.on 3 = true →
      refusal (s.fs.strdCheck (Wr.one (STRD_CFG.EN k.toNat).addr word)) = none →
    Settles (.strdCfgWrite k word) s
      (s.fs.commit (fun t => ((t.xferBegin (Wr.one (STRD_CFG.EN k.toNat).addr word).page).strdApply
        (Wr.one (STRD_CFG.EN k.toNat).addr word)).wmUpdate k.toNat)))
  ∧ (∀ (k : Byte) (word : Word) (o : Nat) (s : State), s.fs.on 3 = true →
      (refusal (s.fs.strdCheck (Wr.one (STRD_CFG.EN k.toNat).addr word))).isSome = true →
      s.fs.strdClash (Wr.one (STRD_CFG.EN k.toNat).addr word) (strdWritten s.fs.u (Wr.one (STRD_CFG.EN k.toNat).addr word))
          (ringsOf s.fs.u (s.fs.strdFrom (Wr.one (STRD_CFG.EN k.toNat).addr word)))
        = some (k.toNat, o) →
    Settles (.strdCfgWrite k word) s
      ((((s.fs.p CSG_REFUSE.VALID 1).p CSG_REFUSE.OTHER o).p CSG_REFUSE.STREAM k.toNat).evt 0x06 1))
  ∧ (∀ (k : Byte) (h : HeldRec) (q : List HeldRec) (s : State), s.fs.pd 4 = true → s.fs.aon.retained = false →
      (s.fs.sst k.toNat).held = h :: q → s.fs.streamOn k.toNat = true → s.fs.fits k.toNat h.data.length = true →
    Does (.backpressureRetry k) s
      ((s.fs.commit (fun t => (t.sstMap k.toNat (fun x => { x with held := q })).putRec k.toNat h)).logAll))

/-- Corrections, scrub and injection (07 R246, R247, R259 to R268): a correction is written back in an idle cycle of its bank; a scrub
read checks the bank's next word, at its place in the pass that PERIOD paces, with its upset bits and moves on; a skipped one, of the pass
or of the catch-up list, waits at the end of that list and is counted; an injection waits for its cycle, in which the word is read, its
data bits are flipped and it is written back with its old check bits. -/
def Obligations.StoreMaintenance : Prop :=
  (∀ (bank : Fin 8) (e : WbEntry) (q : List WbEntry) (s : State), s.fs.pd 4 = true → s.fs.aon.retained = false →
      s.fs.g CSG_STAT.INIT_DONE = 1 → s.fs.store.wb[bank] = e :: q → e.addr < 0x1E0000 →
    Does (.correctionWriteback bank) s { s.fs with store := { s.fs.store with
      mem := smSet memDefault s.fs.store.mem e.addr e.word
      wb := s.fs.store.wb.set bank q } })
  ∧ (∀ (bank : Fin 8) (upset : BitVec 72) (mirrorBad : Bool) (s : State) (t r : Tail) (a : Nat), s.fs.storeUp = true →
      s.fs.cfb CSA_CTRL.SCRUB_EN = true →
      s.fs.thd.scrubT = none → s.fs.store.wb[bank] = [] → s.fs.store.inj = [] → s.fs.store.scrub[bank] < 0x3C000 →
      t = s.fs.elapseTo (s.fs.store.paceFrom
        + s.fs.store.scrub[bank] * (max 8 (min 60 (s.fs.cf CSA_CTRL.PERIOD)) * 400000000) / 0x40000) →
      a = 8 * s.fs.store.scrub[bank] + bank.val → r = ((t.memPut a (t.memGet a ^^^ upset)).memRead a).2 →
    Settles (.scrubRead bank upset mirrorBad) s
      ((({ r with store := { r.store with
        scrub := s.fs.store.scrub.set bank (s.fs.store.scrub[bank] + 1) } } : Tail).scrubProgress).scrubPass))
  ∧ (∀ (bank : Fin 8) (s : State), s.fs.storeUp = true → s.fs.cfb CSA_CTRL.SCRUB_EN = true → s.fs.thd.scrubT = none →
      s.fs.store.scrub[bank] < 0x40000 → s.fs.store.catchUp[bank].length < 64 →
    Settles (.scrubSkip bank) s
      ((((((({ s.fs.elapseTo (s.fs.scrubDue bank 400000) with store := { s.fs.store with
          catchUp := s.fs.store.catchUp.set bank (s.fs.store.catchUp[bank] ++ [8 * s.fs.store.scrub[bank] + bank.val])
          scrub := s.fs.store.scrub.set bank (s.fs.store.scrub[bank] + 1) } } : Tail).inc CSA_SKIP.COUNT).p CSA_SKIP.BANKS
            (setBit (s.fs.g CSA_SKIP.BANKS) bank true)).evtV 0x07 2 (some (BitVec.ofNat 32 bank.val))).scrubProgress).scrubPass)))
  ∧ (∀ (bank : Fin 8) (a : Nat) (l : List Nat) (s : State), s.fs.storeUp = true → s.fs.cfb CSA_CTRL.SCRUB_EN = true →
      s.fs.thd.scrubT = none → 0x40000 ≤ s.fs.store.scrub[bank] → s.fs.store.catchUp[bank] = a :: l → l.length < 64 →
    Settles (.scrubSkip bank) s
      ((((((({ s.fs.elapseTo (s.fs.now + 400000) with store := { s.fs.store with
          catchUp := s.fs.store.catchUp.set bank (l ++ [a]) } } : Tail).inc CSA_SKIP.COUNT).p CSA_SKIP.BANKS
            (setBit (s.fs.g CSA_SKIP.BANKS) bank true)).evtV 0x07 2 (some (BitVec.ofNat 32 bank.val))).scrubProgress).scrubPass)))
  ∧ (∀ (word : Word) (s : State), s.fs.on 3 = true → fdGet CSA_INJ.MODE word = 1 → fdGet CSA_INJ.ADDR word < 0x1E0000 →
      (s.fs.stns.all (fun n => (s.fs.stnGet n).sq.st = .disabled || (s.fs.stnGet n).sq.st = .ready)) = true →
    Does (.csaInj word) s { s.fs with store := { s.fs.store with
      inj := s.fs.store.inj ++ [⟨fdGet CSA_INJ.ADDR word, (1 : DWord) <<< fdGet CSA_INJ.BIT word⟩] } })
  ∧ (∀ (i : Injection) (q : List Injection) (s : State), s.fs.storeUp = true → s.fs.store.inj = i :: q →
      s.fs.store.wb[bankOf i.addr] = [] → syndrome i.addr (s.fs.memGet i.addr) = 0 →
    Does .errorInjection s (Tail.logAll { s.fs with store := { s.fs.store with
      inj := q
      mem := smSet memDefault s.fs.store.mem i.addr (s.fs.memGet i.addr ^^^ i.flips.setWidth 72) } }))

/-! ## The sequencer (10, 18, 22) -/

/-- A charge (10 R387 to R389): CHARGE of an internal group in IDLE, FAILED or ABORTED begins its sequence with the retries of its
configuration, at K1 or, where HIGH_WARN asks for it, after a dwell (21 R748); a link voltage, that of the station that VSRC names (the
operand where the unit has no such station, the model's choice of log entry 72), is taken 1 ms after the one before and a ramp that
reaches VDONE goes on to K2; a ramp that lasts TMAX fails with cause 4 and, with retries left, waits for the next try, whose end begins
the sequence again. A discharge (10 R391, 21 R751): refused with its latch while a station of the group is in a running state; else the
group is DISCHARGING, with a retry that waited counted as preempted (R400), an external one has the state of R390 again, and an internal
one reaches IDLE once the link voltage falls below VSAFE. Rests on the model's readings in log entries 8, 72, 73, 110, 111. -/
def Obligations.PreChargeAndDischarge : Prop :=
  (∀ (g : Fin 2) (s : State), s.fs.sqcUp = true → s.fs.g (PG_CTRL.ENABLE 0x21) = 1 → s.fs.enabled 0x21 = true →
      s.fs.g (PCHG_GCFG.MODE g.val) = 1 → s.fs.inRun = true → s.fs.grp[g].dwell = false →
      (s.fs.grp[g].st = .idle ∨ s.fs.grp[g].st = .failed ∨ s.fs.grp[g].st = .aborted) → s.fs.dwellStns (s.fs.grpStns g) = none →
    Settles (.charge ((1 : BitVec 2) <<< g.val)) s
      (Tail.grpAux { s.fs with grp := s.fs.grp.set g { s.fs.grp[g] with
        st := .closeK1, wait := none, dwell := false, retries := s.fs.g (PCHG_GCFG.RETRIES g.val) } } g))
  ∧ (∀ (g : Fin 2) (v w : Nat) (s : State), s.fs.sqcUp = true → s.fs.g (PCHG_GCFG.MODE g.val) ≠ 2 → s.fs.grp[g].st = .idle →
      v = (if s.fs.fitted (s.fs.g (PCHG_GCFG.VSRC g.val)) = true
        then (roundDiv (s.fs.vlink (Fin.ofNat 4 (s.fs.g (PCHG_GCFG.VSRC g.val)))) 10000).toNat else w) →
    Settles (.vlinkUpdate g w) s (({ s.fs.elapse (s.fs.grp[g].vAt + 400000 - s.fs.now) with
      grp := s.fs.grp.set g { s.fs.grp[g] with
        vPrev := s.fs.grp[g].v, v := v, vAt := s.fs.now + (s.fs.grp[g].vAt + 400000 - s.fs.now) } } : Tail).p
          (PCHG_GSTAT.VLINK g.val) (min 0xFFFF ((v + 50) / 100))))
  ∧ (∀ (g : Fin 2) (v w : Nat) (s : State), s.fs.sqcUp = true → s.fs.g (PCHG_GCFG.MODE g.val) ≠ 2 → s.fs.grp[g].st = .ramp →
      v = (if s.fs.fitted (s.fs.g (PCHG_GCFG.VSRC g.val)) = true
        then (roundDiv (s.fs.vlink (Fin.ofNat 4 (s.fs.g (PCHG_GCFG.VSRC g.val)))) 10000).toNat else w) →
      s.fs.g (PCHG_GTHR.VDONE g.val) * 100 ≤ v →
    Settles (.vlinkUpdate g w) s (Tail.grpAux (({ s.fs.elapse (s.fs.grp[g].vAt + 400000 - s.fs.now) with
      grp := s.fs.grp.set g { s.fs.grp[g] with
        st := .closeK2, vPrev := s.fs.grp[g].v, v := v, vAt := s.fs.now + (s.fs.grp[g].vAt + 400000 - s.fs.now) } } : Tail).p
          (PCHG_GSTAT.VLINK g.val) (min 0xFFFF ((v + 50) / 100))) g))
  ∧ (∀ (g : Fin 2) (s : State), s.fs.grp[g].st = .ramp → s.fs.grp[g].retries = 0 →
    Settles (.pchgTimeout g) s ((({ s.fs.elapse (s.fs.grp[g].rampAt + s.fs.g (PCHG_GTIME.TMAX g.val) * 400000 - s.fs.now) with
      grp := s.fs.grp.set g { s.fs.grp[g] with st := .failed, wait := none, dwell := false } } : Tail).p
        (PCHG_GSTAT.CAUSE g.val) 4).evt 0x21 g.val))
  ∧ (∀ (g : Fin 2) (d : Nat) (s : State), s.fs.grp[g].st = .waitRetry → s.fs.grp[g].dwell = false → s.fs.grp[g].wait = some d →
      s.fs.dwellStns (s.fs.grpStns g) = none →
    Settles (.retryWaitEnd g) s (Tail.grpAux { s.fs.elapse (d - s.fs.now) with
      grp := s.fs.grp.set g { s.fs.grp[g] with st := .closeK1, wait := none, dwell := false } } g))
  ∧ (∀ (g : Fin 2) (d : Nat) (s : State), s.fs.sqcUp = true → s.fs.g (PG_CTRL.ENABLE 0x21) = 1 → s.fs.enabled 0x21 = true →
      s.fs.g (PCHG_GCFG.MODE g.val) = 1 → s.fs.inRun = true → s.fs.grp[g].dwell = false →
      (s.fs.grp[g].st = .idle ∨ s.fs.grp[g].st = .failed ∨ s.fs.grp[g].st = .aborted) → s.fs.dwellStns (s.fs.grpStns g) = some d →
    Settles (.charge ((1 : BitVec 2) <<< g.val)) s (Tail.dwellBegin { s.fs with grp := s.fs.grp.set g { s.fs.grp[g] with
      wait := some (s.fs.now + d * 400000), dwell := true, retries := s.fs.g (PCHG_GCFG.RETRIES g.val) } } d))
  ∧ (∀ (g : Fin 2) (s : State), s.fs.grp[g].st = .ramp → s.fs.grp[g].retries ≠ 0 →
    Settles (.pchgTimeout g) s ((({ s.fs.elapse (s.fs.grp[g].rampAt + s.fs.g (PCHG_GTIME.TMAX g.val) * 400000 - s.fs.now) with
      grp := s.fs.grp.set g { s.fs.grp[g] with
        st := .waitRetry, dwell := false, retries := s.fs.grp[g].retries - 1
        wait := some (s.fs.now + (s.fs.grp[g].rampAt + s.fs.g (PCHG_GTIME.TMAX g.val) * 400000 - s.fs.now)
          + s.fs.g (PCHG_GTIME.RETRY_WAIT g.val) * 400000000) } } : Tail).p
        (PCHG_GSTAT.CAUSE g.val) 4).evt 0x21 g.val))
  ∧ (∀ (g : Fin 2) (s : State), s.fs.sqcUp = true → s.fs.g (PG_CTRL.ENABLE 0x21) = 1 →
      (s.fs.grpStns g).any (fun n => (s.fs.stnGet n).sq.st.isRunning) = true →
    Settles (.discharge ((1 : BitVec 2) <<< g.val)) s (s.fs.evt 0x21 4))
  ∧ (∀ (g : Fin 2) (s : State), s.fs.sqcUp = true → s.fs.g (PG_CTRL.ENABLE 0x21) = 1 → s.fs.g (PCHG_GCFG.MODE g.val) ≠ 2 →
      (s.fs.grpStns g).any (fun n => (s.fs.stnGet n).sq.st.isRunning) = false → s.fs.grp[g].st ≠ .waitRetry →
    Settles (.discharge ((1 : BitVec 2) <<< g.val)) s
      { s.fs with grp := s.fs.grp.set g { s.fs.grp[g] with st := .discharging, wait := none, dwell := false } })
  ∧ (∀ (g : Fin 2) (v w : Nat) (s : State), s.fs.sqcUp = true → s.fs.g (PCHG_GCFG.MODE g.val) ≠ 2 → s.fs.grp[g].st = .discharging →
      v = (if s.fs.fitted (s.fs.g (PCHG_GCFG.VSRC g.val)) = true
        then (roundDiv (s.fs.vlink (Fin.ofNat 4 (s.fs.g (PCHG_GCFG.VSRC g.val)))) 10000).toNat else w) →
      v < s.fs.g (PCHG_GTHR.VSAFE g.val) * 100 →
    Settles (.vlinkUpdate g w) s (({ s.fs.elapse (s.fs.grp[g].vAt + 400000 - s.fs.now) with
      grp := s.fs.grp.set g { s.fs.grp[g] with
        st := .idle, vPrev := s.fs.grp[g].v, v := v, vAt := s.fs.now + (s.fs.grp[g].vAt + 400000 - s.fs.now) } } : Tail).p
          (PCHG_GSTAT.VLINK g.val) (min 0xFFFF ((v + 50) / 100))))
  ∧ (∀ (g : Fin 2) (s : State), s.fs.sqcUp = true → s.fs.g (PG_CTRL.ENABLE 0x21) = 1 →
      (s.fs.grpStns g).any (fun n => (s.fs.stnGet n).sq.st.isRunning) = false →
    Settles (.discharge ((1 : BitVec 2) <<< g.val)) s (Tail.grpExt
      { (if s.fs.grp[g].st = .waitRetry then s.fs.inc SEQ_BG.PREEMPT else s.fs) with
        grp := s.fs.grp.set g { s.fs.grp[g] with st := .discharging, wait := none, dwell := false } } g))

/-- The digital inputs and outputs (10 R395 to R398, 24 R827): an accepted level of DI k is taken and lets contactor and brake steps go
on; an accepted level of STO_A, STO_B, ESTOP_N or LEVER_SEL is taken; an auxiliary contact that does not confirm sets its latch, and opens
the brake's station as FAULTED with cause BRAKE; an overloaded output is latched off; with DIO_24V low no output is driven. Rests on the
model's readings in log entries 72, 94, 109, 111. -/
def Obligations.DigitalIo : Prop :=
  (∀ (k : Fin 8) (level : Bool) (s : State), s.fs.pd 3 = true →
    Settles (.diAccept (.di k) level) s (Tail.inputsChanged { s.fs with dio := { s.fs.dio with
      di := if level then s.fs.dio.di ||| (1 : BitVec 8) <<< k.val else s.fs.dio.di &&& ~~~((1 : BitVec 8) <<< k.val) } }))
  ∧ (∀ (level : Bool) (s : State), s.fs.pd 3 = true →
    Does (.diAccept .leverSel level) s { s.fs with dio := { s.fs.dio with lever := level } })
  ∧ (∀ (k : Fin 8) (s : State), s.fs.sqcUp = true → s.fs.g (PG_CTRL.ENABLE 0x22) = 1 → s.fs.g (DIO_OCFG.AUX_EN k.val) = 1 →
      s.fs.g (DIO_OCFG.FUNC k.val) = 0 →
      s.fs.dio.di.getLsbD (s.fs.g (DIO_OCFG.AUX_IN k.val)) ≠ (s.fs.doCmd k.val != s.fs.b (DIO_OCFG.AUX_POL k.val)) →
    Settles (.auxFail k) s (s.fs.evt 0x22 k.val))
  ∧ (∀ (k : Fin 8) (n : Stn) (s : State), s.fs.sqcUp = true → s.fs.g (PG_CTRL.ENABLE 0x22) = 1 → s.fs.g (DIO_OCFG.AUX_EN k.val) = 1 →
      s.fs.g (DIO_OCFG.FUNC k.val) = 8 + n.val → (s.fs.stnGet n).sq.brake = true →
      s.fs.dio.di.getLsbD (s.fs.g (DIO_OCFG.AUX_IN k.val)) ≠ (s.fs.doCmd k.val != s.fs.b (DIO_OCFG.AUX_POL k.val)) →
    Settles (.auxFail k) s (((s.fs.evt 0x22 k.val).sqMap n (fun q => { q with brake := false })).enterFaulted n 2))
  ∧ (∀ (k : Fin 8) (s : State), s.fs.doOn k.val = true →
    Settles (.doOverload k) s ((s.fs.p DIO_OSTAT.OVL (setBit (s.fs.g DIO_OSTAT.OVL) k.val true)).evt 0x22 (8 + k.val)))
  ∧ (∀ (low : Bool) (s : State), Does (.dioSupplyLow low) s { s.fs with dio := { s.fs.dio with low := low } })
  ∧ (∀ (k : Nat) (t : Tail), t.dio.low = true → t.doOn k = false)
  ∧ (∀ (k : Fin 3) (level : Bool) (s : State), s.fs.pd 3 = true →
    Does (.diAccept (.safe k) level) s { s.fs with dio := { s.fs.dio with
      safe := if level then s.fs.dio.safe ||| (1 : BitVec 3) <<< k.val else s.fs.dio.safe &&& ~~~((1 : BitVec 3) <<< k.val) } })

/-- ARM, DISARM and SEQ_RESET (10 R367, R369 to R371, R402): with ARM_BLOCK 0 a unit in READY_SAFE is ARMED and counted; with ARM_BLOCK
not 0 nothing is armed, the refusal is counted and latched; DISARM takes an ARMED unit back to READY_SAFE and stops the running stations
of a unit in RUN, which is STOPPING; a SEQ_RESET with the key and the present epoch makes a Tailstock reset due. Requests of a station
wait for its next command point (10 R379 to R382, 22 R762, R764, R786): START, STOP as a category 1 stop, an EMG_STOP of category 1 or 2
with the emergency limits for the station that it names, merged with a request that waits already, and RELEASE. A START in BOOT is refused
at once (the model's choice, log entry 17). Rests on the model's readings in log entries 17, 91. -/
def Obligations.ArmingAndRequests : Prop :=
  (∀ s : State, s.fs.sqcUp = true → s.fs.armBlock = 0 → s.fs.us = .readySafe →
    Settles .arm s ({ ((s.fs.p DEV_STATE.PREV 2).p SEQ_STAT.PREV_STATE 2) with us := .armed } |>.inc SEQ_CNT.ARMS))
  ∧ (∀ s : State, s.fs.sqcUp = true → s.fs.armBlock ≠ 0 → Settles .arm s ((s.fs.inc SEQ_CNT.ARM_REFUSED).evt 0x20 1))
  ∧ (∀ s : State, s.fs.sqcUp = true → s.fs.us = .armed →
    Settles .disarm s { ((s.fs.p DEV_STATE.PREV 3).p SEQ_STAT.PREV_STATE 3) with us := .readySafe })
  ∧ (∀ s : State, s.fs.sqcUp = true → s.fs.us = .run → s.fs.u.tw2 = false →
      (s.fs.stnGet 0).sq.st = .running → (s.fs.stnGet 0).sq.pendStop = none → (s.fs.stnGet 1).sq.st = .emergency →
      (s.fs.stnGet 2).sq.st = .ready → (s.fs.stnGet 3).sq.st = .disabled →
    Settles .disarm s ({ ((s.fs.p DEV_STATE.PREV 4).p SEQ_STAT.PREV_STATE 4) with us := .stopping } |>.sqMap 0 (fun q =>
      { q with pendStop := some ⟨false, false, false, true⟩ })))
  ∧ (∀ (word : Word) (s : State), s.fs.sqcUp = true → fdGet SEQ_RESET.KEY word = 0x5EC0 →
      fdGet SEQ_RESET.EPOCH word = s.fs.aon.epoch.toNat % 2 ^ 16 → (s.fs.us = .readySafe ∨ s.fs.us = .fault) → s.fs.anyRunning = false →
    Does (.seqReset word) s { s.fs with resetDue := some .host })
  ∧ (∀ (n : Stn) (s : State), s.fs.sqcUp = true → s.fs.fitted n.val = true →
    Does (.start n) s (s.fs.sqMap n (fun q => { q with pendStart := true })))
  ∧ (∀ (n : Stn) (s : State), s.fs.sqcUp = true → s.fs.fitted n.val = true → (s.fs.stnGet n).sq.pendStop = none →
    Does (.stop n) s (s.fs.sqMap n (fun q => { q with pendStop := some ⟨false, false, false, true⟩ })))
  ∧ (∀ (n : Stn) (o : StopReq) (s : State), s.fs.sqcUp = true → s.fs.fitted n.val = true → (s.fs.stnGet n).sq.pendStop = some o →
    Does (.stop n) s (s.fs.sqMap n (fun q => { q with pendStop := some ⟨o.emergency, false, o.classC, o.watched⟩ })))
  ∧ (∀ (n : Stn) (word : Word) (s : State), s.fs.sqcUp = true → s.fs.fitted n.val = true → (s.fs.stnGet n).sq.pendStop = none →
      fdGet EMG_CMD.STOP word = 2 ^ n.val → fdGet EMG_CMD.CAT word = 1 →
    Does (.emgStop word) s (s.fs.sqMap n (fun q => { q with pendStop := some ⟨true, false, false, true⟩ })))
  ∧ (∀ (n : Stn) (word : Word) (s : State), s.fs.sqcUp = true → s.fs.fitted n.val = true → (s.fs.stnGet n).sq.pendStop = none →
      fdGet EMG_CMD.STOP word = 2 ^ n.val → fdGet EMG_CMD.CAT word = 2 →
    Does (.emgStop word) s (s.fs.sqMap n (fun q => { q with pendStop := some ⟨true, true, false, true⟩ })))
  ∧ (∀ (word : Word) (s : State), fdGet EMG_CMD.CAT word = 0 ∨ fdGet EMG_CMD.CAT word = 3 → Does (.emgStop word) s s.fs)
  ∧ (∀ (n : Stn) (s : State), s.fs.sqcUp = true → s.fs.fitted n.val = true →
    Does (.release ((1 : BitVec 4) <<< n.val)) s (s.fs.sqMap n (fun q => { q with pendRelease := true })))
  ∧ (∀ (n : Stn) (s : State), s.fs.us = .boot → s.fs.on 3 = true → s.fs.fitted n.val = true →
    Settles (.start n) s ((s.fs.inc (STN_CNT.REFUSED n)).evt (stnPage n 0) 2))

/-- A command point (10 R379 to R383, R385): a START in READY with BLOCK 0, no protection source asserted, gate channels enabled and every
used feedback low enters MAGNETIZING with the flux build time and counts no refusal; one with BLOCK not 0 is refused, counted and latched;
one that falls together with a stop is dropped, counted and latched; a category 1 stop of a RUNNING station begins the ramp in STOPPING.
Rests on the model's reading in log entry 89. -/
def Obligations.CommandPoint : Prop :=
  (∀ (n : Stn) (s : State), s.fs.fitted n.val = true → s.fs.on 6 = true → s.fs.sqcUp = true → s.fs.diagOn = false →
      (s.fs.stnGet n).sq.st = .ready → (s.fs.stnGet n).sq.pendStart = true → (s.fs.stnGet n).sq.pendStop = none →
      (s.fs.stnGet n).sq.pendExit = false → (s.fs.stnGet n).sq.pendRelease = false → (s.fs.stnGet n).share.role = .none →
    (s.fs.block n ≠ 0 → Settles (.commandPoint n) s ((((s.fs.sqMap n (fun q =>
        { q with pendStart := false, pendStop := none, pendExit := false, pendRelease := false })).shareMap n (fun x =>
          { x with stopReq := false })).inc (STN_CNT.REFUSED n)).evt (stnPage n 0) 2))
    ∧ (s.fs.block n = 0 → s.fs.unitFault = false → s.fs.g (PROT_ACT.ACT n) = 0 →
      s.fs.enabled (stnPage n 0xD) = true → (s.fs.stnGet n).modu.fb &&& s.fs.usedCh n = 0 →
      (∃ r : Tail, Does (.commandPoint n) s r ∧ r.now = s.fs.now ∧ (r.stnGet n).sq.st = .magnetizing ∧ (r.stnGet n).sq.step = .flux
        ∧ (r.stnGet n).sq.brake = false ∧ (r.stnGet n).sq.pendStart = false
        ∧ (r.stnGet n).sq.t = some (s.fs.now + (if s.fs.cf (STN_CFG.MOTOR n) = 0 then s.fs.cf (STN_CFG.FLUX_MS n) * 400000 else 0))
        ∧ r.g (STN_STAT.PREV n) = 2 ∧ r.g (STN_CNT.REFUSED n) = s.fs.g (STN_CNT.REFUSED n))))
  ∧ (∀ (n : Stn) (o : StopReq) (s : State), s.fs.fitted n.val = true → s.fs.on 6 = true → s.fs.sqcUp = true →
      s.fs.diagOn = false → (s.fs.stnGet n).sq.st = .ready → (s.fs.stnGet n).sq.pendStart = true →
      (s.fs.stnGet n).sq.pendStop = some o → (s.fs.stnGet n).share.role = .none →
    Settles (.commandPoint n) s ((((s.fs.sqMap n (fun q =>
        { q with pendStart := false, pendStop := none, pendExit := false, pendRelease := false })).shareMap n (fun x =>
          { x with stopReq := false })).inc (STN_CNT.START_DROP n)).evt (stnPage n 0) 1))
  ∧ (∀ (n : Stn) (s : State), s.fs.fitted n.val = true → s.fs.on 6 = true → s.fs.sqcUp = true →
      (s.fs.stnGet n).sq.st = .running → (s.fs.stnGet n).sq.pendStart = false →
      (s.fs.stnGet n).sq.pendStop = some ⟨false, false, false, true⟩ → s.fs.dio.lever = false →
      (s.fs.stnGet n).share.role = .none → s.fs.us = .run → s.fs.unitFault = false → (s.fs.stnGet n).sq.step = .none →
    (∃ r : Tail, Does (.commandPoint n) s r ∧ (r.stnGet n).sq.st = .stopping ∧ (r.stnGet n).sq.step = .ramp
      ∧ (r.stnGet n).sq.stop = some ⟨false, false, false, true⟩ ∧ (r.stnGet n).sq.brake = (s.fs.stnGet n).sq.brake
      ∧ (r.stnGet n).sq.pendStop = none ∧ r.g (STN_STAT.PREV n) = 4))

/-- The start sequence (10 R383, R384): after flux build a station with a brake proves for PROVE_MS; a proving that fails takes it to
FAULTED with cause PROVE, one that passes switches the brake output on; after T_REL a Follower takes over with no torque. Rests on the
model's readings in log entries 8, 90. -/
def Obligations.StartSequence : Prop :=
  (∀ (n : Stn) (d : Nat) (s : State), (s.fs.stnGet n).sq.st = .magnetizing → (s.fs.stnGet n).sq.step = .flux →
      (s.fs.stnGet n).sq.t = some d → (s.fs.stnGet n).sq.abandon = false → s.fs.cf (STN_CFG.BRAKE_EN n) = 1 →
      s.fs.dwellStns [n] = none →
    Does (.fluxBuilt n) s ((s.fs.elapse (d - s.fs.now)).sqMap n (fun q => { q with
      step := .prove, proved := true
      t := some (s.fs.now + (d - s.fs.now) + s.fs.cf (STN_BRK1.PROVE_MS n) * 400000) })))
  ∧ (∀ (n : Stn) (d : Nat) (s : State), (s.fs.stnGet n).sq.st = .magnetizing → (s.fs.stnGet n).sq.step = .flux →
      (s.fs.stnGet n).sq.t = some d → (s.fs.stnGet n).sq.abandon = false → s.fs.cf (STN_CFG.BRAKE_EN n) = 0 →
    Does (.fluxBuilt n) s ((s.fs.elapse (d - s.fs.now)).sqMap n (fun q => { q with
      step := .tRel, t := some (s.fs.now + (d - s.fs.now)) })))
  ∧ (∀ (n : Stn) (d : Nat) (s : State), (s.fs.stnGet n).sq.st = .magnetizing → (s.fs.stnGet n).sq.step = .prove →
      (s.fs.stnGet n).sq.t = some d → (s.fs.stnGet n).sq.abandon = false →
    ((s.fs.stnGet n).sq.proved = false → Settles (.provingEnd n) s ((s.fs.elapse (d - s.fs.now)).enterFaulted n 3))
    ∧ ((s.fs.stnGet n).sq.proved = true → Settles (.provingEnd n) s
        (((s.fs.elapse (d - s.fs.now)).sqMap n (fun q => { q with brake := true, step := .brakeOpen, t := none })).brakeConfirm n)))
  ∧ (∀ (n : Stn) (d : Nat) (s : State), (s.fs.stnGet n).sq.st = .magnetizing → (s.fs.stnGet n).sq.step = .tRel →
      (s.fs.stnGet n).sq.t = some d → (s.fs.stnGet n).sq.abandon = false → (s.fs.stnGet n).share.role = .follower →
    Settles (.takeover n) s (((((s.fs.elapse (d - s.fs.now)).p (STN_STAT.PREV n) 3).sqMap n (fun q => { q with st := .running })).sqMap n
      (fun q => { q with step := .none, t := none, vsT := none })).shareMap n (fun x => { x with share := 0 })))

/-- The stop sequence and the watches of running stations (10 R378, R385, 22 R763 to R765, R780): with the speed within ZSPD for ten
samples a category 2 stop holds, and any other goes on to the brake, or without one to the end; after T_SET the gates are blocked and the
station is READY, or FAULTED after a class C stop whose latch stands; under HOLD_BRAKE the brake is set after a proving at zero speed; 200
ms at the voltage limit make a running station VOLT_LIMITED, 200 ms within it make it RUNNING; a watched ramp that does not reach zero
speed in time takes the emergency limits and is counted. Rests on the model's readings in log entries 8, 91. -/
def Obligations.StopSequence : Prop :=
  (∀ (n : Stn) (r : StopReq) (s : State), (s.fs.stnGet n).sq.st.isRunning = true → (s.fs.stnGet n).sq.step = .ramp →
      10 ≤ (s.fs.stnGet n).sq.zcount → (s.fs.stnGet n).sq.c2 = false → (s.fs.stnGet n).sq.stop = some r →
    (r.cat2 = true → Settles (.zeroSpeedHeld n) s (((s.fs.sqMap n (fun q => { q with c1T := none })).protMap n
      (fun p => { p with ctoT := none })).sqMap n (fun q => { q with c2 := true })))
    ∧ (r.cat2 = false → s.fs.cf (STN_CFG.BRAKE_EN n) = 0 →
      Settles (.zeroSpeedHeld n) s (((s.fs.sqMap n (fun q => { q with c1T := none })).protMap n
        (fun p => { p with ctoT := none })).sqMap n (fun q => { q with brake := false, step := .tSet, t := some s.fs.now, c2 := false })))
    ∧ (r.cat2 = false → s.fs.cf (STN_CFG.BRAKE_EN n) = 1 →
      Settles (.zeroSpeedHeld n) s ((((s.fs.sqMap n (fun q => { q with c1T := none })).protMap n
        (fun p => { p with ctoT := none })).sqMap n (fun q => { q with brake := false, step := .brakeClose, t := none, c2 := false })).brakeConfirm n)))
  ∧ (∀ (n : Stn) (d : Nat) (s : State), (s.fs.stnGet n).sq.step = .tSet → (s.fs.stnGet n).sq.t = some d →
      (s.fs.stnGet n).sq.stop = none →
    Settles (.brakeSetDone n) s ((s.fs.elapse (d - s.fs.now)).enterReady n))
  ∧ (∀ (n : Stn) (d : Nat) (r : StopReq) (s : State), (s.fs.stnGet n).sq.step = .tSet → (s.fs.stnGet n).sq.t = some d →
      (s.fs.stnGet n).sq.stop = some r → r.classC = true → s.fs.g (PROT_LATCH.LATCH n) ≠ 0 →
    Settles (.brakeSetDone n) s ((s.fs.elapse (d - s.fs.now)).enterFaulted n 0))
  ∧ (∀ (n : Stn) (d : Nat) (s : State), (s.fs.stnGet n).sq.step = .zeroProve → (s.fs.stnGet n).sq.t = some d →
      s.fs.cf (STN_CFG.BRAKE_EN n) = 1 →
    Settles (.holdBrakeProvingEnd n) s (((s.fs.elapse (d - s.fs.now)).sqMap n (fun q =>
      { q with brake := false, step := .brakeClose, t := none, c2 := false })).brakeConfirm n))
  ∧ (∀ (n : Stn) (a : Nat) (s : State), (s.fs.stnGet n).sq.vsT = some a →
    ((s.fs.stnGet n).sq.st = .running → Settles (.voltLim n) s (((((s.fs.elapse (a + 80000000 - s.fs.now)).p (STN_STAT.PREV n) 4).sqMap n
      (fun q => { q with st := .voltLimited })).sqMap n (fun q => { q with vsT := none })).evt (stnPage n 0) 3))
    ∧ ((s.fs.stnGet n).sq.st = .voltLimited → Settles (.voltLim n) s ((((s.fs.elapse (a + 80000000 - s.fs.now)).p (STN_STAT.PREV n) 5).sqMap n
      (fun q => { q with st := .running })).sqMap n (fun q => { q with vsT := none }))))
  ∧ (∀ (n : Stn) (d : Nat) (s : State), (s.fs.stnGet n).sq.c1T = some d → (s.fs.stnGet n).sq.step = .ramp →
      (s.fs.stnGet n).setp.stop = .normal →
    Settles (.c1Timeout n) s (((((((s.fs.elapse (d - s.fs.now)).sqMap n (fun q => { q with c1T := none })).evt 0x24 4).inc EMG_CNT.C1_TO).setpMap n
      (fun x => { x with stop := .emergency }))).evt (stnPage n 0xB) 6))

/-- The lost host (22 R770, R774, R776, R778, R783): an armed detector that sees no host activity for HB_PERIOD declares Eclipse, which is
latched and counted and takes a unit in RUN to ECLIPSE; lever channels that have disagreed for TDISC set LEV_DISC with its latch. Rests on
the model's readings in log entries 8, 92. -/
def Obligations.LostHost : Prop :=
  (∀ s : State, s.fs.pd 3 = true → s.fs.emg.armed = true → s.fs.emg.declared = false → (s.fs.us = .boot ∨ s.fs.us = .fault) →
    Settles .eclipse s (({ s.fs.elapse (s.fs.emg.lastAt + clampN 2 1000 (s.fs.cf EMG_CFG.HB_PERIOD) * 400000 - s.fs.now) with
      emg := { s.fs.emg with declared := true } } : Tail).evt 0x24 0 |>.inc EMG_CNT.ECLIPSES))
  ∧ (∀ s : State, s.fs.pd 3 = true → s.fs.emg.armed = true → s.fs.emg.declared = false → s.fs.us = .run →
    ∃ t : Tail, Settles .eclipse s t ∧ t.us = .eclipse ∧ t.emg = { s.fs.emg with declared := true } ∧ t.evtBit 0x24 0 = true
      ∧ t.g EMG_CNT.ECLIPSES = satInc EMG_CNT.ECLIPSES.width (s.fs.g EMG_CNT.ECLIPSES))
  ∧ (∀ (n : Stn) (d : Nat) (s : State), s.fs.emg.discT = some d → (s.fs.stnGet n).sq.lever = true → s.fs.g EMG_STAT.LEV_DISC = 1 →
    Does (.levDisc n) s { s.fs.elapse (d - s.fs.now) with emg := { s.fs.emg with discT := none } })
  ∧ (∀ (n : Stn) (d : Nat) (s : State), s.fs.emg.discT = some d → (s.fs.stnGet n).sq.lever = true → s.fs.g EMG_STAT.LEV_DISC = 0 →
    Settles (.levDisc n) s ((Tail.p (s.fs.stns.foldl (fun t m => t.setpMap m (fun x => { x with v := x.out, a := 0 }))
      { s.fs.elapse (d - s.fs.now) with emg := { s.fs.emg with discT := none } }) EMG_STAT.LEV_DISC 1).evt 0x24 3))

/-- Protection sources (18 R653, R657, R658, R661 to R663, R667, 19 R699): an unarmed source sets PROT_ACT alone; one of class D only
warns, with its latch; one of class A on a RUNNING station is recorded as the first of its latch register, counted, and the station goes
to FAULTED with cause 0 and its gates off; a source that the station does not have, and one whose comparator a diagnostic step feeds,
asserts nothing; a class C stop that has not reached zero speed within TMAX asserts CTO. The active short circuit (18 R660): the speed
below NOFF for 10 ms, TASC, and a block that overrides it each end it in the OFF form, with its latch; the station stays FAULTED. Rests on
the model's readings in log entries 87, 105, 122. -/
def Obligations.Protection : Prop :=
  (∀ (n : Stn) (src : Fin 15) (s : State), s.fs.fitted n.val = true → s.fs.on 3 = true → s.fs.sourceSub n src.val = false →
      (s.fs.g (PROT_ACT.ACT n)).testBit src.val = false → s.fs.sourceNever n src.val = false → s.fs.armedSrc n src.val = false →
    Settles (.protSourceAssert n src) s (s.fs.p (PROT_ACT.ACT n) (setBit (s.fs.g (PROT_ACT.ACT n)) src.val true)))
  ∧ (∀ (n : Stn) (src : Fin 15) (s : State), s.fs.fitted n.val = true → s.fs.on 3 = true → s.fs.sourceSub n src.val = false →
      (s.fs.g (PROT_ACT.ACT n)).testBit src.val = false → s.fs.sourceNever n src.val = false → s.fs.armedSrc n src.val = true →
        s.fs.protClass n src.val = 3 →
    Settles (.protSourceAssert n src) s (((s.fs.p (PROT_ACT.ACT n) (setBit (s.fs.g (PROT_ACT.ACT n)) src.val true)).p
      (PG_STAT.WARN (stnPage n 0xE)) 1).evt (stnPage n 0xE) 3))
  ∧ (∀ (n : Stn) (src : Fin 15) (s : State), s.fs.fitted n.val = true → s.fs.on 3 = true → s.fs.sourceSub n src.val = false →
      (s.fs.stnGet n).sq.st = .running →
      s.fs.g (PROT_ACT.ACT n) = 0 → s.fs.g (PROT_LATCH.LATCH n) = 0 → s.fs.protClass n src.val = 0 → src.val ≠ 14 →
        s.fs.sourceNever n src.val = false →
      s.fs.g (PG_CTRL.ENABLE (stnPage n 0)) = 1 →
    (∃ r : Tail, Does (.protSourceAssert n src) s r ∧ r.now = s.fs.now ∧ (r.stnGet n).sq.st = .faulted ∧ (r.stnGet n).modu.gate = .off
      ∧ r.g (STN_STAT.CAUSE n) = 0
      ∧ r.g (STN_STAT.PREV n) = 4 ∧ r.g (PROT_LATCH.LATCH n) = 2 ^ src.val ∧ r.g (PROT_ACT.ACT n) = 2 ^ src.val
      ∧ r.g (PROT_FIRST.VALID n) = 1 ∧ r.g (PROT_FIRST.SRC n) = src.val ∧ r.g (PROT_FIRST.CLASS n) = 0
      ∧ r.g (PROT_CNT.TRIPS n) = satInc (PROT_CNT.TRIPS n).width (s.fs.g (PROT_CNT.TRIPS n))))
  ∧ (∀ (n : Stn) (d : Nat) (s : State), (s.fs.stnGet n).prot.ctoT = some d → (s.fs.stnGet n).sq.step = .ramp →
    Settles (.cto n) s (((s.fs.elapse (d - s.fs.now)).protMap n (fun p => { p with ctoT := none })).assertSource n 14))
  ∧ (∀ (n : Stn) (s : State), (s.fs.stnGet n).sq.st = .faulted → (s.fs.stnGet n).modu.gate = .asc →
    (∀ a, (s.fs.stnGet n).prot.slowAt = some a → Settles (.ascEnd n .slow) s ((s.fs.elapse (a + 4000000 - s.fs.now)).endAsc n))
    ∧ (∀ d, (s.fs.stnGet n).prot.ascT = some d → Settles (.ascEnd n .timeout) s ((s.fs.elapse (d - s.fs.now)).endAsc n))
    ∧ ((s.fs.stnGet n).prot.hasA = true ∨ s.fs.hardBlocked n = true → Settles (.ascEnd n .blocked) s (s.fs.endAsc n))
    ∧ ((s.fs.endAsc n).stnGet n).modu.gate = .off ∧ ((s.fs.endAsc n).stnGet n).prot.ascT = none
    ∧ (s.fs.endAsc n).evtBit (stnPage n 0xE) 1 = true)
  ∧ (∀ (n : Stn) (src : Fin 15) (s : State), s.fs.fitted n.val = true → s.fs.on 3 = true →
    (s.fs.sourceSub n src.val = true → Does (.protSourceAssert n src) s s.fs)
    ∧ (s.fs.sourceSub n src.val = false → s.fs.sourceNever n src.val = true → Settles (.protSourceAssert n src) s s.fs))

/-- The STO channels (18 R674 to R679): a demand on channel A from both energized blocks the gates of every station in the gate-output
stage, is counted and latched, starts the discrepancy watch and the watch of its read-back, and asserts STO at every fitted station; a
pulse shorter than the filter only counts; energizing the second channel ends the watch and the source of every station, and the block
where no station ran; a missing read-back sets DIAG_FAIL and its latch; a difference that lasts TDISC sets STO_DISC, counts and latches.
The emergency stop input (18 R680, R681): ESTOP_N low for the filter time blocks every gate in category 0, and in category 1 starts the
backstop delay, counted from the moment it fell; both latch and assert ESTOP at every fitted station; the backstop blocks every gate;
ESTOP_N high ends blocks, delay and source. That the time of a demand is an operand is the model's choice (log entry 126). Rests on the
model's reading in log entry 4. -/
def Obligations.SafetyInputs : Prop :=
  (∀ (us : Nat) (s : State), s.fs.pd 3 = true → s.fs.stoFilter ≤ us → s.fs.sto.a = true → s.fs.sto.b = true → s.fs.sto.discT = none →
    Settles (.stoDemand false us) s (Tail.setSourceAll (Tail.ascOverride ((({ s.fs with sto := { s.fs.sto with
      a := false, blockSto := true, readT := some (s.fs.now + 4000)
      ran := s.fs.sto.ran ||| s.fs.stns.foldl (fun m n =>
        if (s.fs.stnGet n).sq.st.isRunning then m ||| ((1 : BitVec 4) <<< n.val) else m) 0
      discT := some (s.fs.now + clampN 1 100 (s.fs.cf STO_CFG.TDISC) * 4000000) } } : Tail).inc STO_CNT.DEMANDS).evt 0x23 0)) 9 true))
  ∧ (∀ (us : Nat) (s : State), s.fs.pd 3 = true → s.fs.sto.a = true → us < s.fs.stoFilter →
    Does (.stoDemand false us) s (s.fs.inc STO_TPCNT.PULSES))
  ∧ (∀ s : State, s.fs.pd 3 = true → s.fs.sto.a = true → s.fs.sto.b = false → s.fs.sto.ran = 0 →
    Settles (.stoEnergized true) s (Tail.setSourceAll { s.fs with sto := { s.fs.sto with b := true, discT := none, blockSto := false } } 9 false))
  ∧ (∀ s : State, s.fs.pd 3 = true → s.fs.sto.a = true → s.fs.sto.b = false → s.fs.sto.ran ≠ 0 →
    Settles (.stoEnergized true) s (Tail.setSourceAll { s.fs with sto := { s.fs.sto with b := true, discT := none } } 9 false))
  ∧ (∀ (d : Nat) (b : Bool) (s : State), s.fs.sto.readT = some d → s.fs.sto.a = false →
    Settles (.stoReadback false b) s ((({ s.fs.elapse (d - s.fs.now) with sto := { s.fs.sto with readT := none } } : Tail).p STO_STAT.DIAG_FAIL 1).evt 0x23 2))
  ∧ (∀ (d : Nat) (s : State), s.fs.sto.discT = some d → s.fs.g STO_STAT.STO_DISC = 0 →
    Settles .stoDisc s (((({ s.fs.elapse (d - s.fs.now) with sto := { s.fs.sto with discT := none, bothLow := false } } : Tail).p
      STO_STAT.STO_DISC 1).inc STO_CNT.DISC).evt 0x23 1))
  ∧ (∀ s : State, s.fs.pd 3 = true → s.fs.sto.estopN = true → s.fs.cf STO_CFG.ECAT = 0 →
    Settles .estop s (Tail.setSourceAll (Tail.ascOverride (Tail.evt { s.fs with sto := { s.fs.sto with
      estopN := false, blockEstop := true, backT := none } } 0x23 3)) 10 true))
  ∧ (∀ s : State, s.fs.pd 3 = true → s.fs.sto.estopN = true → s.fs.cf STO_CFG.ECAT = 1 →
    Settles .estop s (Tail.setSourceAll (Tail.ascOverride (Tail.evt { s.fs with sto := { s.fs.sto with
      estopN := false, blockEstop := false, backT := some (s.fs.now + clampN 100 60000 (s.fs.cf STO_CFG.ETMAX) * 400000 - s.fs.stoFilter * 400) } } 0x23 3)) 10 true))
  ∧ (∀ (d : Nat) (s : State), s.fs.sto.backT = some d →
    Settles .backstop s (Tail.ascOverride (Tail.evt { s.fs.elapse (d - s.fs.now) with sto := { s.fs.sto with
      backT := none, backstop := true } } 0x23 4)))
  ∧ (∀ s : State, s.fs.pd 3 = true → s.fs.sto.estopN = false →
    Settles .estopNHigh s (Tail.setSourceAll { s.fs with sto := { s.fs.sto with
      estopN := true, blockEstop := false, backstop := false, backT := none } } 10 false))
  ∧ (∀ (n : Stn) (t : Tail), t.sto.blockSto = true ∨ t.sto.blockEstop = true ∨ t.sto.backstop = true → t.hardBlocked n = true)

/-! ## Gates, feedback, sensing and loops (11 to 17, 19) -/

/-- Modulation (14 R524 to R526, 17 R632, R633): a PWM bit that the carrier turns on takes the commands with it; an output in time takes
effect as the compare values, with its distance from the sample instant recorded; a late one is discarded, counted and recorded. The inner
switches and the chopper (17 R645, R649): 0.5 us after a block the inner switches follow and every command is off; a chopper on for TMAX
without an off interval of 1 ms is forced off for TMAX, with CHOP_LIM and its latch; with such an interval nothing is forced. Rests on the
model's readings in log entries 8, 87, 93, 106. -/
def Obligations.ModulationAndChopper : Prop :=
  (∀ (n : Stn) (s : State), s.fs.fitted n.val = true → s.fs.on 6 = true → (s.fs.stnGet n).modu.gate = .enabled →
      s.fs.hardBlocked n = false →
      s.fs.cf (MOD_CFG.TOPO n) = 0 → (s.fs.stnGet n).modu.pwm.getLsbD 0 = false → (s.fs.stnGet n).modu.cmp.c[0] ≠ 0 →
    Does (.pwmBitChange n 0 true) s (((s.fs.elapse (pwmDelay (s.fs.half n) (s.fs.carrierPos n) (s.fs.stnGet n).modu.cmp.c[0] true)).moduMap n
      (fun m => { m with pwm := m.pwm ||| 1 })).wantStep n))
  ∧ (∀ (n : Stn) (c : CmpSet) (d : Nat) (s : State), (s.fs.stnGet n).modu.next = some c → (s.fs.stnGet n).modu.applyAt = some d →
    (∃ r : Tail, Does (.gateCommandUpdate n false) s r ∧ (r.stnGet n).modu.cmp = c ∧ (r.stnGet n).modu.next = none
      ∧ (r.stnGet n).modu.applyAt = none
      ∧ r.now = s.fs.now + (d - s.fs.now)
      ∧ r.g (STRC_APPLY.LAST n) = min 0xFFFE (s.fs.now + (d - s.fs.now) - (s.fs.stnGet n).modu.sampleAt)
      ∧ r.g (STN_DL.DL_COUNT n) = s.fs.g (STN_DL.DL_COUNT n)))
  ∧ (∀ (n : Stn) (c : CmpSet) (s : State), (s.fs.stnGet n).modu.next = some c → (s.fs.stnGet n).modu.applyAt = none →
    Settles (.gateCommandUpdate n true) s (((((s.fs.dsNote (STN_DL.DL_COUNT n).addr).p (STN_DL.DL_MISS n) 1).inc (STN_DL.DL_COUNT n)).p (STRC_APPLY.LAST n) 0xFFFF).moduMap n
      (fun m => { m with next := none, applyAt := none })))
  ∧ (∀ (n : Stn) (d : Nat) (s : State), (s.fs.stnGet n).modu.innerT = some d →
    Does (.npcInnerOff n) s ((s.fs.elapse (d - s.fs.now)).moduMap n (fun m => { m.edges m.cmd 0 (s.fs.now + (d - s.fs.now)) with
      want := 0, innerT := none }))
    ∧ ∀ m : Modu, (m.edges m.cmd 0 (s.fs.now + (d - s.fs.now))).cmd = 0)
  ∧ (∀ (n : Stn) (a : Nat) (s : State), s.fs.fitted n.val = true → s.fs.on 6 = true → (s.fs.stnGet n).modu.chopOnAt = some a →
      s.fs.cf (MOD_CHOPF.TMAX n) ≠ 0 →
      ((s.fs.stnGet n).modu.cmd.getLsbD 12 = true ∨ max s.fs.now (a + s.fs.cf (MOD_CHOPF.TMAX n) * 400000) < (s.fs.stnGet n).modu.chopOffAt + 400000) →
    Settles (.chopLim n) s (((((s.fs.elapse (a + s.fs.cf (MOD_CHOPF.TMAX n) * 400000 - s.fs.now)).moduMap n (fun m => { m with
      chopOffT := some (s.fs.now + (a + s.fs.cf (MOD_CHOPF.TMAX n) * 400000 - s.fs.now) + s.fs.cf (MOD_CHOPF.TMAX n) * 400000)
      chopOnAt := none })).wantStep n).p (MOD_STAT.CHOP_LIM n) 1).evt (stnPage n 0xD) 4))
  ∧ (∀ (n : Stn) (a : Nat) (s : State), (s.fs.stnGet n).modu.chopOnAt = some a → (s.fs.stnGet n).modu.cmd.getLsbD 12 = false →
      (s.fs.stnGet n).modu.chopOffAt + 400000 ≤ max s.fs.now (a + s.fs.cf (MOD_CHOPF.TMAX n) * 400000) →
    Does (.chopLim n) s s.fs)

/-- A switch turns on (17 R639, R641, R642): only where it is wanted and off, its complement is off and has confirmed off, not before the
dead time DT_MIN after that; and then its confirmation is awaited. With less than MINPW to its scheduled turn-off it is skipped for the
rest of this carrier period and counted; once that period has ended its order is taken anew. Rests on the model's readings in log entries
8, 93. -/
def Obligations.TurnOn : Prop :=
  (∀ (n : Stn) (ch : Fin 6) (s : State), s.fs.fitted n.val = true → s.fs.on 6 = true → (s.fs.stnGet n).modu.gate = .enabled →
      ((s.fs.stnGet n).modu.skip = 0 ∨ s.fs.now < (s.fs.stnGet n).modu.skipEnd) →
      s.fs.hardBlocked n = false → s.fs.cf (MOD_CFG.TOPO n) = 0 → (s.fs.stnGet n).modu.want.getLsbD ch.val = true →
      (s.fs.stnGet n).modu.cmd.getLsbD ch.val = false → (s.fs.stnGet n).modu.cmd.getLsbD (complementOf false ch.val) = false →
      (s.fs.stnGet n).modu.conf.getLsbD (complementOf false ch.val) = true →
    (let t := s.fs.elapse ((s.fs.stnGet n).modu.edgeAt.toList.getD (complementOf false ch.val) 0
        + clampN 200 4000 (s.fs.cf (MOD_DT.DT_MIN n)) - s.fs.now)
     let m := (s.fs.stnGet n).modu
     ((t.turnOffIn n ch.val = none ∨ ∃ d, t.turnOffIn n ch.val = some d ∧ min 4000 (s.fs.cf (MOD_MINPW.MINPW n)) ≤ d) →
        Does (.turnOn n ch.val) s (t.moduMap n (fun _ => { m with
          cmd := m.cmd ||| (1 : BitVec 13) <<< ch.val
          conf := m.conf &&& ~~~((1 : BitVec 13) <<< ch.val)
          edgeAt := Vector.ofFn (fun c => if c.val = ch.val then t.now else m.edgeAt[c]) })))
     ∧ (∀ d, t.turnOffIn n ch.val = some d → d < min 4000 (s.fs.cf (MOD_MINPW.MINPW n)) →
        Does (.turnOn n ch.val) s ((t.inc (MOD_CNT.SKIP n)).moduMap n (fun _ => { m with
          want := m.want &&& ~~~((1 : BitVec 13) <<< ch.val), skip := m.skip ||| (1 : BitVec 13) <<< ch.val
          skipEnd := t.now + (2 * t.half n - t.carrierPos n) })))))
  ∧ (∀ (n : Stn) (ch : Nat) (s : State), ((s.fs.stnGet n).modu.skip = 0 ∨ s.fs.now < (s.fs.stnGet n).modu.skipEnd) →
      ((s.fs.stnGet n).modu.cmd.getLsbD (complementOf (s.fs.cfb (MOD_CFG.TOPO n)) ch) = true
        ∨ (s.fs.stnGet n).modu.conf.getLsbD (complementOf (s.fs.cfb (MOD_CFG.TOPO n)) ch) = false) →
    Does (.turnOn n ch) s s.fs)
  ∧ (∀ (n : Stn) (ch : Nat) (s : State), (s.fs.stnGet n).modu.skip ≠ 0 → (s.fs.stnGet n).modu.skipEnd ≤ s.fs.now →
    exec (.turnOn n ch) s = exec (.turnOn n ch) { s with fs := s.fs.wantStep n })

/-- Confirmations and faults of the gate channels (17 R625, R626, R643): an awaited off confirmation is taken, with the longest time and
its channel kept; one that does not come within THS_MAX is HS_FAULT, cause 1 for a turn-off and 2 for a turn-on; an edge away from a
confirmed level is FB_FAULT, or DRV_FAULT where at least three further edges follow at most 100 ns apart; each blocks the station in the
hardware path. Rests on the model's readings in log entries 86, 127. -/
def Obligations.GateConfirmations : Prop :=
  (∀ (n : Stn) (ch : Fin 6) (s : State), s.fs.fitted n.val = true → s.fs.on 6 = true → (s.fs.stnGet n).modu.conf.getLsbD ch.val = false →
      (s.fs.stnGet n).modu.cmd.getLsbD ch.val = false →
      s.fs.g (MOD_CONF.TICKS n) < s.fs.now - (s.fs.stnGet n).modu.edgeAt.toList.getD ch.val 0 →
    Settles (.gateConfirmation n ch.val false) s (((((s.fs.setFb n ch.val false).p (MOD_CONF.TICKS n)
      (min 0xFFFF (s.fs.now - (s.fs.stnGet n).modu.edgeAt.toList.getD ch.val 0))).p (MOD_CONF.CH n) ch.val).moduMap n (fun m =>
        { m with conf := m.conf ||| ((1 : BitVec 13) <<< ch.val) })).gateStep n))
  ∧ (∀ (n : Stn) (ch : Fin 6) (s : State), s.fs.fitted n.val = true → s.fs.on 6 = true → (s.fs.stnGet n).modu.gate = .enabled →
      s.fs.hardBlocked n = false → (s.fs.stnGet n).modu.conf.getLsbD ch.val = false → (s.fs.stnGet n).sq.st = .running →
      s.fs.g (PROT_LATCH.LATCH n) = 0 → s.fs.g (PG_CTRL.ENABLE (stnPage n 0)) = 1 →
    (∃ r : Tail, Does (.hsFault n ch.val) s r ∧ r.g (MOD_STAT.CAUSE n) = (if (s.fs.stnGet n).modu.cmd.getLsbD ch.val then 2 else 1)
      ∧ r.g (MOD_STAT.HS_CH n) = ch.val
      ∧ (r.stnGet n).sq.st = .faulted ∧ (r.stnGet n).modu.gate = .off ∧ (r.stnGet n).modu.hwBlock = true
      ∧ r.g (PROT_LATCH.LATCH n) = 4 ∧ (r.stnGet n).modu.cmd &&& ~~~(npcS2 ||| npcS3) = 0))
  ∧ (∀ (n : Stn) (ch : Fin 6) (gaps : List Nat) (s : State), s.fs.fitted n.val = true → s.fs.on 6 = true →
      (s.fs.stnGet n).modu.gate = .enabled →
      s.fs.hardBlocked n = false → (s.fs.stnGet n).modu.conf.getLsbD ch.val = true → (s.fs.stnGet n).sq.st = .running →
      s.fs.g (PROT_LATCH.LATCH n) = 0 → s.fs.g (PG_CTRL.ENABLE (stnPage n 0)) = 1 →
    (∃ r : Tail, Does (.departure n ch.val gaps) s r ∧ r.g (MOD_STAT.CAUSE n) = (if driverEdges gaps then 4 else 3)
      ∧ r.g (MOD_STAT.HS_CH n) = ch.val
      ∧ (r.stnGet n).sq.st = .faulted ∧ (r.stnGet n).modu.gate = .off ∧ (r.stnGet n).modu.hwBlock = true
      ∧ r.g (PROT_LATCH.LATCH n) = (if driverEdges gaps then 1 else 2)))

/-- One encoder edge (11 R411, R416, R419): levels that hold for fewer samples than N are not accepted. With the primary port in
incremental mode, no Hall step, no Z edge and the LCMP page off, an accepted change of A alone or B alone counts one in the direction of
the quadrature phase and DIR, wrapping at 32 bits; a change of both leaves the position and is counted with its latch. The direction of
the phase is presumed (log entry 74). Hall codes and switches (11 R411, R412, R427, R429): the next sector counts one up; an illegal code
zeroes the sector, is counted and latched, and after 1 ms is a loss; the level of a switch is shown after its polarity, with its latch;
what holds for fewer samples than N or NSW, those of the switches 10 ns x 2^PSW apart, changes nothing. That the samples held are
an operand is the model's choice (log entry 126). -/
def Obligations.EncoderAndHall : Prop :=
  (∀ (n : Stn) (lv : EncLevels) (held : Nat) (s : State), s.fs.fitted n.val = true → s.fs.on 7 = true → s.fs.fbpMode n = 1 →
      s.fs.cf (FBA_CFG.MODE n) = 1 → s.fs.enabled (stnPage n 3) = false → lv.z = (s.fs.stnGet n).fb.lv.z →
      max 1 (s.fs.cf (FBP_CFG.N n)) ≤ held → max 1 (s.fs.cf (FBA_CFG.N n)) ≤ held → max 1 (s.fs.cf (LCMP_CFG.NCAP n)) ≤ held →
    (∀ d : Int, quadStep (s.fs.stnGet n).fb.lv.a (s.fs.stnGet n).fb.lv.b lv.a lv.b = some d → d ≠ 0 →
      let e : Int := if s.fs.cf (FBP_CFG.DIR n) = 0 then d else -d
      Settles (.encoderEdge n ⟨lv, held⟩) s (((((s.fs.fbMap n (fun f => { f with lv := lv })).pDs (FBP_POS.POS n)
        (enc 32 (s.fs.g (FBP_POS.POS n) + e))).fbMap n (fun f => { f with prim := { f.prim with
          acc := f.prim.acc + e, edge := some (f.prim.acc + e, s.fs.stamp (s.fs.cf (FBP_CFG.N n))) } }))).fbStatus n))
    ∧ (quadStep (s.fs.stnGet n).fb.lv.a (s.fs.stnGet n).fb.lv.b lv.a lv.b = none →
      ∃ t : Tail, Settles (.encoderEdge n ⟨lv, held⟩) s t ∧ t.g (FBP_POS.POS n) = s.fs.g (FBP_POS.POS n)
        ∧ t.g (FBP_STAT.QERR_CNT n) = satInc (FBP_STAT.QERR_CNT n).width (s.fs.g (FBP_STAT.QERR_CNT n)) ∧ t.evtBit (stnPage n 1) 0 = true
        ∧ (t.stnGet n).fb.lv = lv ∧ (t.stnGet n).fb.illegal = true
        ∧ (∀ m : Stn, m ≠ n → t.stnGet m = s.fs.stnGet m)))
  ∧ (∀ (n : Stn) (code : BitVec 3) (held : Nat) (s : State), s.fs.fitted n.val = true → s.fs.on 7 = true →
      max 1 (s.fs.cf (FBA_CFG.N n)) ≤ held → s.fs.fbaMode n = 1 →
      hallSector code ≠ 0 → s.fs.g (FBA_STAT.SECTOR n) ≠ 0 → (hallSector code + 6 - s.fs.g (FBA_STAT.SECTOR n)) % 6 = 1 →
      s.fs.cf (FBA_CFG.DIR n) = 0 →
    Settles (.hallChange n ⟨code, held⟩) s (((((((s.fs.p (FBA_STAT.HALL n) code.toNat).fbMap n (fun f => { f with hallAt := none, hallLoss := false })).p
      (FBA_STAT.SECTOR n) (hallSector code)).pDs (FBA_POS.POS n) (enc 32 (s.fs.g (FBA_POS.POS n) + 1))).fbMap n (fun f =>
        { f with aux := f.aux.step 1 (s.fs.stamp (s.fs.cf (FBA_CFG.N n))) }))).fbStatus n))
  ∧ (∀ (n : Stn) (code : BitVec 3) (held : Nat) (s : State), s.fs.fitted n.val = true → s.fs.on 7 = true →
      max 1 (s.fs.cf (FBA_CFG.N n)) ≤ held → s.fs.fbaMode n = 1 →
      hallSector code = 0 → (s.fs.stnGet n).fb.hallAt = none →
    Settles (.hallChange n ⟨code, held⟩) s ((((((s.fs.p (FBA_STAT.HALL n) code.toNat).fbMap n (fun f => { f with hallAt := some s.fs.now })).p
      (FBA_STAT.SECTOR n) 0).inc (FBA_STAT.ERR_CNT n)).evt (stnPage n 2) 1).fbStatus n))
  ∧ (∀ (n : Stn) (a : Nat) (s : State), (s.fs.stnGet n).fb.hallAt = some a →
    Settles (.hallIllegalTimeout n) s (((s.fs.elapse (a + 400000 - s.fs.now)).fbMap n (fun f => { f with hallLoss := true })).fbStatus n))
  ∧ (∀ (n : Stn) (k : Fin 4) (level : Bool) (held : Nat) (s : State), s.fs.fitted n.val = true → s.fs.on 7 = true →
      s.fs.enabled (stnPage n 2) = true →
      (s.fs.stnGet n).fb.sw.getLsbD k.val = !level →
      max 1 (s.fs.cf (FBA_CFG.NSW n)) ≤ held / 2 ^ s.fs.cf (FBA_CFG.PSW n) →
    Settles (.switchChange n k ⟨level, held⟩) s (((s.fs.fbMap n (fun f => { f with sw := f.sw ^^^ ((1 : BitVec 4) <<< k.val) })).p (FBA_STAT.SW n)
      (setBit (s.fs.g (FBA_STAT.SW n)) k.val (level != (s.fs.cf (#v[FBA_SWCFG.POL0 n, FBA_SWCFG.POL1 n, FBA_SWCFG.POL2 n,
        FBA_SWCFG.POL3 n][k]) != 0)))).evt (stnPage n 2) (4 + k.val)))
  ∧ (∀ (n : Stn) (lv : EncLevels) (held : Nat) (s : State), s.fs.fitted n.val = true → s.fs.on 7 = true →
      held < max 1 (s.fs.cf (FBP_CFG.N n)) →
      held < max 1 (s.fs.cf (FBA_CFG.N n)) → held < max 1 (s.fs.cf (LCMP_CFG.NCAP n)) →
    Settles (.encoderEdge n ⟨lv, held⟩) s (s.fs.fbStatus n))
  ∧ (∀ (n : Stn) (held : Nat) (s : State),
    (∀ code : BitVec 3, held < max 1 (s.fs.cf (FBA_CFG.N n)) → Does (.hallChange n ⟨code, held⟩) s s.fs)
    ∧ (∀ (k : Fin 4) (level : Bool), held / 2 ^ s.fs.cf (FBA_CFG.PSW n) < max 1 (s.fs.cf (FBA_CFG.NSW n)) →
        Does (.switchChange n k ⟨level, held⟩) s s.fs))

/-- Commands and ends of the feedback pages (11 R418, R428, R437, R442, R447): a preset loads the counter with its latch; the latch is
armed in one-shot mode; the gate timer is cleared without recording; the compare output returns to its idle level. SSI (11 R421, R423 to
R426): LEAD before the sample instant a frame starts with its clock train and monoflop time; one due before the line is free is skipped,
counted and latched; a frame with PB low at its first edge is bad and counted; the first good frame loads its position. Rests on the
model's readings in log entries 8, 106. -/
def Obligations.FeedbackCommandsAndSsi : Prop :=
  (∀ (n : Stn) (s : State), s.fs.fitted n.val = true → s.fs.on 7 = true → s.fs.enabled (stnPage n 1) = true →
      s.fs.enabled (stnPage n 3) = false →
    Settles (.fbpPresetCmd n) s (((((s.fs.pDs (FBP_POS.POS n) (s.fs.cf (FBP_PRESET.VALUE n))).fbMap n (fun f =>
      { f with lossHold := false })).evt (stnPage n 1) 5)).fbStatus n))
  ∧ (∀ (n : Stn) (s : State), s.fs.fitted n.val = true → s.fs.on 7 = true → s.fs.enabled (stnPage n 2) = true →
    Does (.fbaPresetCmd n) s (s.fs.pDs (FBA_POS.POS n) (s.fs.cf (FBA_PRESET.VALUE n))))
  ∧ (∀ (n : Stn) (s : State), s.fs.fitted n.val = true → s.fs.on 7 = true → s.fs.enabled (stnPage n 3) = true →
      s.fs.cf (LCMP_CFG.LCONT n) = 0 →
    Does (.latchArm n) s (s.fs.p (LCMP_STAT.ARMED n) 1))
  ∧ (∀ (n : Stn) (s : State), s.fs.fitted n.val = true → s.fs.on 7 = true → s.fs.enabled (stnPage n 3) = true →
    Does (.gtClr n) s ((s.fs.fbMap n (fun f => { f with gtStart := none })).p (LCMP_STAT.GT_RUN n) 0))
  ∧ (∀ (n : Stn) (d : Nat) (s : State), (s.fs.stnGet n).fb.pulse = some d →
    Does (.comparePulseEnd n) s (((s.fs.elapse (d - s.fs.now)).fbMap n (fun f => { f with pulse := none })).p (LCMP_STAT.CMP_OUT n)
      (if s.fs.cf (LCMP_CFG.CMP_INV n) = 0 then 0 else 1)))
  ∧ (∀ (n : Stn) (s : State), s.fs.fitted n.val = true → s.fs.on 7 = true → s.fs.on 6 = true → s.fs.clk.ftRun = true → s.fs.fbpMode n = 2 →
    (let t := s.fs.elapse (s.fs.ssiIn n)
     let bits := s.fs.cf (FBP_SSI.LEN n) * clampN 25 1000 (s.fs.cf (FBP_SSICLK.CLKDIV n)) * 4
     ((s.fs.stnGet n).fb.ssiFree ≤ t.now → Settles (.ssiFrameStart n) s (t.fbMap n (fun f => { f with
        ssiLast := t.now, ssiStart := some (t.now + bits)
        ssiFree := t.now + bits + (s.fs.cf (FBP_SSICLK.MONO n) + 1) * 400, ssiFt := t.ftFb.toNat })))
     ∧ (t.now < (s.fs.stnGet n).fb.ssiFree → Settles (.ssiFrameStart n) s
        (((t.fbMap n (fun f => { f with ssiLast := t.now, ssiSkip := true })).inc (FBP_SSICNT.SKIP n)).evt (stnPage n 1) 4))))
  ∧ (∀ (n : Stn) (d : Nat) (bits : List Bool) (s : State), (s.fs.stnGet n).fb.ssiStart = some d →
    Settles (.ssiFrameEnd n bits false) s ((((((s.fs.elapse (d - s.fs.now)).fbMap n (fun f => { f with ssiStart := none })).fbMap n
      (fun f => { f with ssiRun := f.ssiRun + 1, ssiGood := false })).inc (FBP_SSICNT.ERR n)).evt (stnPage n 1) 2).fbStatus n))
  ∧ (∀ (n : Stn) (d : Nat) (bits : List Bool) (s : State), (s.fs.stnGet n).fb.ssiStart = some d → bits.length = s.fs.cf (FBP_SSI.LEN n) →
      s.fs.cf (FBP_SSI.PAR n) = 0 → s.fs.cf (FBP_SSI.GRAY n) = 0 → s.fs.primLost n % 4 = 0 →
      (s.fs.stnGet n).fb.ssiField = none → s.fs.enabled (stnPage n 3) = false →
    Settles (.ssiFrameEnd n bits true) s (((((s.fs.elapse (d - s.fs.now)).fbMap n (fun f => { f with ssiStart := none })).pDs (FBP_POS.POS n)
      ((bitsVal bits >>> s.fs.cf (FBP_SSI.POS_SHIFT n)) % 2 ^ s.fs.cf (FBP_SSI.POS_BITS n))).fbMap n (fun f => { f with
        ssiField := some ((bitsVal bits >>> s.fs.cf (FBP_SSI.POS_SHIFT n)) % 2 ^ s.fs.cf (FBP_SSI.POS_BITS n)), ssiRun := 0
        ssiGood := true })).fbStatus n))

/-- Line loss and the encoder supply (11 R448 to R451): a pair that is out of its levels, or back in them, for T_LOSS is held so, and for
less changes nothing; the pairs that MASK watches are shown while the page is enabled; an overcurrent trips the supply with its latch;
while a loss stands FB_LOSS is 1 and neither the position nor the speed is valid. That the time is an operand is the model's choice (log
entry 126). -/
def Obligations.FeedbackLoss : Prop :=
  (∀ (n : Stn) (p : Fin 6) (us : Nat) (s : State), s.fs.fitted n.val = true → s.fs.on 7 = true → max 1 (s.fs.cf (FBP_LOSS.T_LOSS n)) ≤ us →
    Settles (.pairLoss n p ⟨true, us⟩) s ((s.fs.fbMap n (fun f => { f with out := f.out ||| ((1 : BitVec 6) <<< p.val) })).fbStatus n)
    ∧ Settles (.pairLoss n p ⟨false, us⟩) s ((s.fs.fbMap n (fun f => { f with out := f.out &&& ~~~((1 : BitVec 6) <<< p.val) })).fbStatus n))
  ∧ (∀ (n : Stn) (p : Fin 6) (lost : Bool) (us : Nat) (s : State), us < max 1 (s.fs.cf (FBP_LOSS.T_LOSS n)) →
    Does (.pairLoss n p ⟨lost, us⟩) s s.fs)
  ∧ (∀ (n : Stn) (s : State), s.fs.fitted n.val = true → s.fs.on 7 = true → s.fs.cf (FBP_SUP.ON n) = 1 →
      s.fs.enabled (stnPage n 1) = true → s.fs.g (FBP_STAT.ENC_OC n) = 0 →
    Settles (.encOc n) s (((s.fs.p (FBP_STAT.ENC_OC n) 1).evt (stnPage n 1) 3).fbStatus n))
  ∧ (∀ (n : Stn) (t : Tail), t.fbLossNow n = true →
    (t.fbStatus n).g (FBP_STAT.FB_LOSS n) = 1 ∧ (t.fbStatus n).g (FBP_STAT.POS_VALID n) = 0
      ∧ (t.fbStatus n).g (FBP_STAT.SPD_VALID n) = 0)
  ∧ (∀ (n : Stn) (t : Tail), (t.fbStatus n).g (FBP_STAT.PAIR_LOSS n) =
      (if t.enabled (stnPage n 1) then (t.stnGet n).fb.out.toNat % 8 &&& t.cf (FBP_LOSS.MASK n) else 0))

/-- The fast analogue inputs and stuck inputs (12 R468, R469, R472): a conversion inside its average adds to the sum, scaled by the gain;
the last conversion of an average writes the rounded value as valid; a stuck data input is marked, counted and latched. Offset calibration
and tracking (12 R479 to R484): CAL in DISABLED or READY begins a calibration, elsewhere it changes nothing; 256 samples later every
enabled phase takes its mean as offset, or the calibration fails with its latch and the old offsets stay; SETTLE after READY the
recalibration begins; a tracking sample moves a phase's offset by the shifted difference. Rests on the model's readings in log entries 75,
76. -/
def Obligations.Sensing : Prop :=
  (∀ (k : Fin 8) (code : Int) (s : State), s.fs.ainOn k.val = true → s.fs.ain[k].on = true → -32768 < code → code < 32767 →
      s.fs.ain[k].gain = s.fs.cf (AIN_CFG.GAIN k.val) → s.fs.ain[k].avg = min 6 (s.fs.cf (AIN_CFG.AVG k.val)) → s.fs.ain[k].badConv = 0 →
    (s.fs.ain[k].n + 1 < 2 ^ s.fs.ain[k].avg →
      Settles (.ainConversion k code) s { s.fs with ain := s.fs.ain.set k { s.fs.ain[k] with
        sum := s.fs.ain[k].sum + code * 2 ^ (16 - s.fs.ain[k].gain), n := s.fs.ain[k].n + 1 } })
    ∧ (2 ^ s.fs.ain[k].avg ≤ s.fs.ain[k].n + 1 → s.fs.ain[k].bad = false → s.fs.ain[k].badOut = 0 →
      Settles (.ainConversion k code) s { ((s.fs.pi (AIN_VAL.VALUE k.val) (satS 32 (roundDiv
        (s.fs.ain[k].sum + code * 2 ^ (16 - s.fs.ain[k].gain)) (2 ^ s.fs.ain[k].avg)))).p AIN_STAT.VALID
          (setBit (s.fs.g AIN_STAT.VALID) k.val true)) with ain := s.fs.ain.set k { s.fs.ain[k] with sum := 0, n := 0 } }))
  ∧ (∀ (n : Stn) (ch : Fin 4) (s : State), s.fs.fitted n.val = true → s.fs.on 7 = true → s.fs.enabled (stnPage n 4) = true →
      (s.fs.g (ISNS_STAT.STUCK n)).testBit ch.val = false →
    Settles (.sdStuck n ch) s (((s.fs.p (ISNS_STAT.STUCK n) (setBit (s.fs.g (ISNS_STAT.STUCK n)) ch.val true)).inc (ISNS_CNT.STUCK n)).evt
      (stnPage n 4) 2))
  ∧ (∀ (n : Stn) (s : State), s.fs.fitted n.val = true → s.fs.on 7 = true →
    ((s.fs.stnGet n).sq.st = .disabled ∨ (s.fs.stnGet n).sq.st = .ready → Settles (.cal n) s ((s.fs.isnsMap n (fun i => { i with
      calFail := false, cal := .command, calT := none, sum := Vector.replicate 3 0, n := 0, restarts := 0 })).p (ISNS_STAT.CAL_STATE n) 1))
    ∧ ((s.fs.stnGet n).sq.st ≠ .disabled → (s.fs.stnGet n).sq.st ≠ .ready → Does (.cal n) s s.fs))
  ∧ (∀ (n : Stn) (s : State), (s.fs.stnGet n).isns.cal = .command → (s.fs.stnGet n).isns.n = 256 → (s.fs.stnGet n).sq.st = .ready →
      (∀ k ∈ isnsPhases (s.fs.stnGet n).isns.cfg,
        (roundDiv (s.fs.stnGet n).isns.sum[k] 256).natAbs ≤ s.fs.cf (ISNS_CALCFG.CALLIM n) * 16) →
    ∃ t : Tail, Settles (.calibrationDone n) s t ∧ t.ssn = s.fs.ssn + 1 ∧ (t.stnGet n).isns.cal = .none ∧ (t.stnGet n).isns.calFail = false
      ∧ t.g (ISNS_STAT.CAL_STATE n) = 2 ∧ t.g (ISNS_STAT.TRK_LIMIT n) = 0
      ∧ (∀ k : Fin 3, t.g (ISNS_OFS.OFS n k.val) = if k ∈ isnsPhases (s.fs.stnGet n).isns.cfg
          then enc (ISNS_OFS.OFS n k.val).width (roundDiv (s.fs.stnGet n).isns.sum[k] 256) else s.fs.g (ISNS_OFS.OFS n k.val)))
  ∧ (∀ (n : Stn) (k : Fin 3) (s : State), (s.fs.stnGet n).isns.cal = .command → (s.fs.stnGet n).isns.n = 256 →
      k ∈ isnsPhases (s.fs.stnGet n).isns.cfg →
      s.fs.cf (ISNS_CALCFG.CALLIM n) * 16 < (roundDiv (s.fs.stnGet n).isns.sum[k] 256).natAbs →
    Settles (.calibrationDone n) s ((((s.fs.isnsMap n (fun i => { i with cal := .none, calT := none })).p (ISNS_STAT.CAL_STATE n) 3).evt
      (stnPage n 4) 1).isnsMap n (fun i => { i with calFail := true })))
  ∧ (∀ (n : Stn) (d : Nat) (s : State), (s.fs.stnGet n).isns.cal = .settle → (s.fs.stnGet n).isns.calT = some d →
    Does (.recalSettleEnd n) s (((s.fs.elapse (d - s.fs.now)).isnsMap n (fun i => { i with
      cal := .recal, calT := none, sum := Vector.replicate 3 0, n := 0, restarts := 0 })).p (ISNS_STAT.CAL_STATE n) 1))
  ∧ (∀ (n : Stn) (raw : SampleIn) (s : State), s.fs.fitted n.val = true → s.fs.on 7 = true → s.fs.trkOn n = true → s.fs.gatesOn n = true →
      fdGet (ISNS_CFG.CH_EN 0) (s.fs.stnGet n).isns.cfg = 1 → toggles (sdBits (s.fs.stnGet n).isns.cfg raw.a) = true →
        (s.fs.stnGet n).isns.trkStop.getLsbD 0 = false →
      (let o := s.fs.cfi (ISNS_OFS.OFS n 0)
       let o2 := o + roundDiv (isnsD (s.fs.stnGet n).isns.cfg (isnsRaw (s.fs.stnGet n).isns.cfg raw.a) - o) (2 ^ clampN 4 12 (s.fs.cf (ISNS_CALCFG.TRK_SHIFT n)))
       (o2 - (s.fs.stnGet n).isns.calOfs[0]).natAbs ≤ s.fs.cf (ISNS_TRKLIM.TRKLIM n) * 16 →
       Settles (.trackingSample n raw) s (((s.fs.pCfg (ISNS_OFS.OFS n 0) o2).p (ISNS_STAT.TRK_ACT n) 1).isnsMap n (fun i =>
         { i with trkTaken := true }))))

/-- A sample instant (12 R461 to R463, 18 R666, 17 R630): Field Time runs to the station's next sample instant, whose place is kept; of an
enabled, valid channel whose data input is not stuck the newest value is the code of its filtered bits less its offset, times its gain, as
Q15; and the reaction classes written since take effect there. The unit, the link, OTP and PD1 stay as they are. Rests on the model's
readings in log entries 8, 10, 106, 107. -/
def Obligations.SampleInstant : Prop :=
  (∀ (n : Stn) (raw : SampleIn) (s : State), s.fs.fitted n.val = true → s.fs.on 6 = true → s.fs.clk.ftRun = true →
    ∃ t : Tail, Settles (.sampleInstant n raw) s t ∧ t.u = s.fs.u ∧ t.link = s.fs.link ∧ t.otp = s.fs.otp ∧ t.aon = s.fs.aon
      ∧ t.now = s.fs.now + s.fs.sampleIn n
      ∧ t.ft = s.fs.ft + BitVec.ofNat 64 (s.fs.sampleIn n) ∧ (t.stnGet n).modu.sampleAt = s.fs.now + s.fs.sampleIn n
      ∧ (∀ k : Fin 4, k ≠ 2 → s.fs.enabled (stnPage n 4) = true → s.fs.g (ISNS_STAT.STUCK n) = 0 →
          stuckNow (sdBits (s.fs.stnGet n).isns.cfg (sampleChan raw k)) = false →
          (fdGet (ISNS_CFG.CH_EN 0) (s.fs.stnGet n).isns.cfg).testBit k.val = true →
          (s.fs.stnGet n).isns.validAt[k] ≤ s.fs.now + s.fs.sampleIn n →
        (t.stnGet n).isns.last[k] = satS 16 (roundDiv ((isnsD (s.fs.stnGet n).isns.cfg (isnsRaw (s.fs.stnGet n).isns.cfg (sampleChan raw k))
          - s.fs.cfi (ISNS_OFS.OFS n k.val)) * (s.fs.cf (ISNS_GAIN.GAIN n k.val) : Int)) (2 ^ 21))))
  ∧ (∀ (n : Stn) (t : Tail), (∀ e ∈ t.ceWords.2, loopReg e.1 = true) →
    (t.takeLate n).inEff (PROT_CLASS.SINV n).addr = smGet t.word t.held (PROT_CLASS.SINV n).addr)

/-- Bank swaps and copies (14 R533 to R535, R538, R542): outside the running states a host request takes effect at once for the groups of
its scope; in a running state it waits; an expired return timer makes the return due; COPY, with both groups on bank A, copies every bank
A register in one commit. The trigger engine (14 R551, R552): ARM in IDLE or DONE arms; FORCE of an armed engine triggers with cause 1 and
the present Field Time, and latches; DISARM leads to IDLE; the end of the post-trigger time is DONE with its latch. Each command is a
commit of its own. Rests on the model's readings in log entries 17, 82. -/
def Obligations.BanksAndTrigger : Prop :=
  (∀ (n : Stn) (word : Word) (s : State), s.fs.fitted n.val = true → s.fs.on 5 = true → fdGet (BNKA_SWAP.REQ n) word = 1 →
    ((s.fs.stnGet n).sq.st.isRunning = false → ∃ t : Tail, Settles (.bnkaSwap n word) s t ∧ t.g (BNKA_STAT.HPEND n) = 0
      ∧ t.g (BNKA_STAT.ACT_CUR n) = (if fdGet (BNKA_SWAP.SCOPE n) word = 1 then s.fs.g (BNKA_STAT.ACT_CUR n) else fdGet (BNKA_SWAP.BANK n) word)
      ∧ t.g (BNKA_STAT.ACT_SO n) = (if fdGet (BNKA_SWAP.SCOPE n) word = 0 then s.fs.g (BNKA_STAT.ACT_SO n) else fdGet (BNKA_SWAP.BANK n) word))
    ∧ ((s.fs.stnGet n).sq.st.isRunning = true → Settles (.bnkaSwap n word) s ((((s.fs.p (BNKA_STAT.HPEND n) 1).p (BNKA_STAT.HP_BANK n)
        (fdGet (BNKA_SWAP.BANK n) word)).p (BNKA_STAT.HP_SCOPE n) (fdGet (BNKA_SWAP.SCOPE n) word)).banksMap n (fun b =>
          { b with reqAt := s.fs.ftCe }))))
  ∧ (∀ (n : Stn) (d : Fin 3) (r : RetSwap) (e : Nat) (s : State), (s.fs.stnGet n).banks.ret[d] = some r → r.t = some e →
    Does (.swapReturnTimeout n d) s ((s.fs.elapse (e - s.fs.now)).banksMap n (fun b =>
      { b with ret := b.ret.set d (some { r with t := none, due := true }) })))
  ∧ (∀ (n : Stn) (s : State), s.fs.fitted n.val = true → s.fs.on 3 = true → s.fs.g (BNKA_STAT.ACT_CUR n) = 0 →
      s.fs.g (BNKA_STAT.ACT_SO n) = 0 →
    ∃ t : Tail, Does (.copy n) s t ∧ t.ssn = s.fs.ssn + 1 ∧ (∀ e ∈ bankPairs n, t.word e.2 = s.fs.word e.1)
      ∧ (∀ a, (∀ e ∈ bankPairs n, a ≠ e.2) → t.word a = s.fs.word a))
  ∧ (∀ (n : Stn) (s : State), s.fs.g (BNKA_STAT.ACT_CUR n) ≠ 0 ∨ s.fs.g (BNKA_STAT.ACT_SO n) ≠ 0 → Does (.copy n) s s.fs)
  ∧ (∀ s : State, s.fs.on 3 = true → s.fs.enabled 0x38 = true → (s.fs.g TRC_STAT.STATE = 0 ∨ s.fs.g TRC_STAT.STATE = 3) →
    Settles .trcArm s (s.fs.commit (fun t => { t.p TRC_STAT.STATE 1 with trc := { s.fs.trc with armAt := s.fs.ft.toNat, prev := none } })))
  ∧ (∀ s : State, s.fs.on 3 = true → s.fs.enabled 0x38 = true → s.fs.g TRC_STAT.STATE = 1 →
    ∃ t : Tail, Settles .force s t ∧ t.g TRC_STAT.STATE = 2 ∧ t.g TRC_STAT.CAUSE = 1 ∧ t.g TRC_TFT_LO.FT = s.fs.ftCe.toNat % 2 ^ 32
      ∧ t.g TRC_TFT_HI.FT = s.fs.ftCe.toNat / 2 ^ 32 ∧ t.g TRC_TSSEQ.SSEQ = (s.fs.ssn + 1).toNat ∧ t.evtBit 0x38 0 = true)
  ∧ (∀ s : State, s.fs.on 3 = true → Settles .trcDisarm s (s.fs.commit (fun t => t.p TRC_STAT.STATE 0)))
  ∧ (∀ s : State, s.fs.g TRC_STAT.STATE = 2 →
    Settles .tracePostEnd s (((s.fs.elapse (s.fs.g TRC_TFT_LO.FT + s.fs.g TRC_TFT_HI.FT * 2 ^ 32 + s.fs.cf TRC_POST.POST * 4000
      - s.fs.ft.toNat)).p TRC_STAT.STATE 3).evt 0x38 1))

/-- Followers, links and routes of Orbit (15 R575, 16 R600, R608, R609, R611, R614): a follower's input that stays invalid is LOST with
its latch; a lost link wraps the routes; a link that returns starts the unwrapping time, whose end unwraps; a frame repeats after 62.5 us
with its REPEAT flag, as the transmitter finds it in stream 130; a running Follower without a frame for 250 us asserts ORB_LOSS; the
designated successor becomes the Pacer at its next sample instant after 130 us without a frame. A received Orbit frame (16 R601, R602,
R609): it is counted at its port; a good frame of no local group whose HOP is below 32 leaves on the other port with HOP one higher and a
new CRC, or waits while that port is busy; a bad one is counted with its latch and leaves with an inverted CRC. Rests on the model's
readings in log entries 8, 81, 83, 106, 125. -/
def Obligations.SharingOverOrbit : Prop :=
  (∀ (n : Stn) (d : Nat) (s : State), (s.fs.stnGet n).setp.lostT = some d →
    Settles (.followerLost n true) s ((((s.fs.elapse (d - s.fs.now)).p (EXTS_STAT.LOST n) 1).setpMap n (fun x =>
      { x with lostT := none, v := x.out, a := 0 })).evt (stnPage n 0xC) 0))
  ∧ (∀ (n : Stn) (d : Nat) (s : State), (s.fs.stnGet n).setp.okT = some d →
    Settles (.followerLost n false) s ((((s.fs.elapse (d - s.fs.now)).p (EXTS_STAT.LOST n) 0).setpMap n (fun x =>
      { x with okT := none, out := 0, v := 0, a := 0 })).evt (stnPage n 0xC) 2))
  ∧ (∀ s : State, s.fs.u.orbit = true → s.fs.enabled 0x36 = true → s.fs.on 5 = true → s.fs.g ORB_STAT.LINK1 = 1 →
      s.fs.g ORB_STAT.LINK2 = 1 →
      s.fs.g ORB_STAT.WRAPPED = 0 →
    Settles (.orbitLinkDown false) s (((({ (s.fs.p ORB_STAT.LINK1 0).evt 0x36 0 with orb := { s.fs.orb with
      use := s.fs.orb.use.set 0 false, unwrapT := none } } : Tail).p ORB_STAT.WRAPPED 1).evt 0x36 2).p ORB_STAT.ISOLATED 0))
  ∧ (∀ s : State, s.fs.u.orbit = true → s.fs.enabled 0x36 = true → s.fs.on 5 = true → s.fs.g ORB_STAT.LINK1 = 0 →
      s.fs.g ORB_STAT.LINK2 = 1 →
      s.fs.g ORB_STAT.WRAPPED = 1 →
    Settles (.orbitLinkUp false) s (({ s.fs.p ORB_STAT.LINK1 1 with orb := { s.fs.orb with unwrapT := some (s.fs.now + 40000000) } } : Tail).p
      ORB_STAT.ISOLATED 0))
  ∧ (∀ (d : Nat) (s : State), s.fs.orb.unwrapT = some d →
    Settles .unwrap s ((({ s.fs.elapse (d - s.fs.now) with orb := { s.fs.orb with unwrapT := none, use := Vector.replicate 2 true } } : Tail).p
      ORB_STAT.WRAPPED 0).evt 0x36 3))
  ∧ (∀ (g : Fin 4) (d : Nat) (m : Stn) (s : State), s.fs.shr[g].repT = some d → s.fs.pacerOf g = some m →
    (let rep (b : List Byte) : OrbInfo := { parseFrame b with flags := setBit (parseFrame b).flags 0 true }
     let t : Tail := { s.fs.elapse (d - s.fs.now) with shr := s.fs.shr.set g { s.fs.shr[g] with repT := some (s.fs.now + (d - s.fs.now) + 25000) } }
     ((t.txRead g).1 = none → Settles (.frameRepeat g.val) s ((t.txRead g).2.arrive g (rep s.fs.shr[g].tx)))
     ∧ (∀ b, (t.txRead g).1 = some b → Settles (.frameRepeat g.val) s
          (((t.txRead g).2.arrive g (rep s.fs.shr[g].tx)).ringSend g (frameBytes (rep b))))))
  ∧ (∀ (g : Fin 4) (n : Stn) (s : State), s.fs.followers g = [n] →
    Settles (.orbLoss g.val) s ((((s.fs.elapse ((s.fs.stnGet n).share.seen + 100000 - s.fs.now)).p (SHR_GSTAT.LOST g.val) 1).evt 0x37
      4).assertSource n 11))
  ∧ (∀ (g : Fin 4) (n : Stn) (f : Nat) (s : State), s.fs.followers g = [n] → s.fs.plostWaits g = none → s.fs.mayPace g = true →
      (s.fs.stnGet n).share.next = s.fs.stnId n.val → (s.fs.stnGet n).share.fseq = some f →
    ∃ t : Tail, Settles (.successionTakeover g.val) s t ∧ (t.stnGet n).share.role = .pacer ∧ (t.stnGet n).share.succ = true
      ∧ (t.stnGet n).share.plost = false ∧ (t.stnGet n).loops.k = 0 ∧ t.shr[g].seq = f
      ∧ t.now = (let r := s.fs.elapse ((s.fs.stnGet n).share.seen + 52000 - s.fs.now); r.now + r.sampleIn n)
      ∧ t.g SHR_CNT.TAKEOVERS = satInc SHR_CNT.TAKEOVERS.width (s.fs.g SHR_CNT.TAKEOVERS) ∧ t.evtBit 0x37 0 = true)
  ∧ (∀ (f : OrbFrame) (s : State), s.fs.u.orbit = true → s.fs.enabled 0x36 = true → s.fs.on 5 = true → s.fs.g ORB_STAT.LINK1 = 1 →
      s.fs.orb.use[1] = true → f.bytes.getD 0 0 = 1 → 16 ≤ f.bytes.length → s.fs.groupOfGid (parseFrame f.bytes).gid = none →
      (parseFrame f.bytes).pacer / 4 ≠ s.fs.cf ORB_CFG.UNIT → (parseFrame f.bytes).hop < 32 →
      s.fs.runs 6 = true → s.fs.orb.fwd = [] → s.fs.orb.own = [] →
    (let x := parseFrame f.bytes
     let body := frameBody { x with hop := x.hop + 1 }
     ∃ t : Tail, Settles (.orbitFrameRx false f) s t
      ∧ t.ssn = (if (t.sst 128).seq = (s.fs.sst 128).seq then s.fs.ssn else s.fs.ssn + 1)
      ∧ (s.fs.now < s.fs.orb.busy[1] → t.orb.fwd = [(0, x, f.good && frameGood f.bytes)])
      ∧ t.g (ORB_CNT.FRAMES 0) = satInc (ORB_CNT.FRAMES 0).width (s.fs.g (ORB_CNT.FRAMES 0))
      ∧ (s.fs.orb.busy[1] ≤ s.fs.now → f.good = true → frameGood f.bytes = true → t.orb.out[1] = body ++ leBytes 4 (crc32c body).toNat
        ∧ t.g (ORB_CNT.CRC_ERR 0) = s.fs.g (ORB_CNT.CRC_ERR 0))
      ∧ (s.fs.orb.busy[1] ≤ s.fs.now → f.good = false → t.orb.out[1] = body ++ leBytes 4 (~~~(crc32c body)).toNat
        ∧ t.g (ORB_CNT.CRC_ERR 0) = satInc (ORB_CNT.CRC_ERR 0).width (s.fs.g (ORB_CNT.CRC_ERR 0)) ∧ t.evtBit 0x36 5 = true)))

/-- Off-state diagnostics (19 R687, R689, R690, R692, R694, R697, R699): an accepted RUN takes a READY station to DIAG, counts, and begins
with step 0 of its mask and the selection code at PS_INJ, or with a dwell where a sensor warns, and is done at once where the mask is
empty; ABORT of a running sequence marks its step ABORTED, counts, latches and returns the station, and the comparator of its step
evaluates its real input again; a short step whose voltage rises by DVMIN passes; a comparator that does not trip gives result 7, unless
its real input ends the sequence. Rests on the model's readings in log entries 71, 122. -/
def Obligations.Diagnostics : Prop :=
  (∀ (word : Word) (n : Stn) (s : State), s.fs.on 3 = true → fdGet DIAG_CMD.RUN word = 1 → fdGet DIAG_CMD.STN word = n.val →
      s.fs.fitted n.val = true → s.fs.enabled 0x25 = true → s.fs.diagOn = false → (s.fs.stnGet n).sq.st = .ready →
      s.fs.g (ISNS_STAT.CAL_STATE n) ≠ 1 → s.fs.inRun = true → (s.fs.stnGet n).modu.fb &&& s.fs.usedCh n = 0 →
    ∃ t : Tail, Settles (.diagRun word) s t ∧ t.g DIAG_STAT.STN = n.val
      ∧ t.g DIAG_CNT.RUNS = satInc DIAG_CNT.RUNS.width (s.fs.g DIAG_CNT.RUNS)
      ∧ ((s.fs.dwellStns [n]).isSome = true ∨ (s.fs.g DIAG_CFG.MASK).testBit 0 = true →
          (t.stnGet n).sq.st = .diag ∧ (t.stnGet n).sq.diagFrom = .ready ∧ t.g DIAG_STAT.FAIL = 0 ∧ t.g DIAG_STAT.OPENPH = 7)
      ∧ (∀ ms, s.fs.dwellStns [n] = some ms → t.g DIAG_STAT.STATE = 1 ∧ t.diag.dwellT = some (s.fs.now + ms * 400000))
      ∧ (s.fs.dwellStns [n] = none → (s.fs.g DIAG_CFG.MASK).testBit 0 = true →
          t.g DIAG_STAT.STATE = 2 ∧ t.g DIAG_STAT.STEP = 0 ∧ t.g DIAG_RES_LO.RES = 0 ∧ t.g DIAG_RES_HI.RES = 0
            ∧ t.diag.stepAt = s.fs.now + 20000 ∧ t.diag.psInj = t.psInject 0 (s.fs.now + 20000))
      ∧ (s.fs.dwellStns [n] = none → s.fs.g DIAG_CFG.MASK = 0 → t.g DIAG_STAT.STATE = 3 ∧ (t.stnGet n).sq.st = .ready))
  ∧ (∀ (word : Word) (s : State), fdGet DIAG_CMD.RUN word = 0 ∨ s.fs.diagOn = true → Does (.diagRun word) s s.fs)
  ∧ (∀ s : State, s.fs.on 3 = true → s.fs.g DIAG_STAT.STATE = 2 → (s.fs.stnGet s.fs.diagStn).sq.st = .diag →
    Settles .diagAbort s (((({ ((s.fs.diagPut (s.fs.g DIAG_STAT.STEP) 11).p DIAG_STAT.STATE 4).inc DIAG_CNT.ABORTS with
      diag := { s.fs.diag with dwellT := none, disturbed := false, psInj := [] } } : Tail).evt 0x25 2).setSt s.fs.diagStn
        (s.fs.stnGet s.fs.diagStn).sq.diagFrom).diagReal s.fs.diagStn (s.fs.g DIAG_STAT.STEP)))
  ∧ (∀ (m : DiagMeas) (s : State), s.fs.g DIAG_STAT.STATE = 2 → s.fs.g DIAG_STAT.STEP < 3 → (s.fs.stnGet s.fs.diagStn).sq.st = .diag →
      s.fs.diagDisturbed s.fs.diagStn = false →
      (s.fs.g DIAG_THR.DVMIN : Int) * 1000000 ≤ (m.v.getD 1 0 - m.v.getD 0 0) * (max 1 (s.fs.g DIAG_PSCFG.RATIO) : Nat) →
    ∃ t : Tail, Settles (.diagStepEnd m) s t ∧ t.diagRes (s.fs.g DIAG_STAT.STEP) = 1)
  ∧ (∀ (m : DiagMeas) (s : State), s.fs.g DIAG_STAT.STATE = 2 → 6 ≤ s.fs.g DIAG_STAT.STEP →
    (let r := (s.fs.elapse (s.fs.diag.stepAt + 40000 - s.fs.now)).diagReal s.fs.diagStn (s.fs.g DIAG_STAT.STEP)
     ((r.stnGet s.fs.diagStn).sq.st ≠ .diag → Settles (.diagStepEnd m) s r)
     ∧ ((r.stnGet s.fs.diagStn).sq.st = .diag → m.v = [] →
        ∃ t : Tail, Settles (.diagStepEnd m) s t ∧ t.diagRes (s.fs.g DIAG_STAT.STEP) = 7)))

/-! ## Housekeeping and temperatures (20, 21) -/

/-- Housekeeping (20 R707, R709, R713, R724): the slot of a disabled channel stores nothing and the round goes on with the next channel;
the slot of an internal temperature within its range stores it as valid, under a commit of its own where its record is written; a request
waits in the queue of eight, a ninth is refused with its latch; RESUME clears FAILED of its output. Rests on the model's readings in log
entries 46, 51. -/
def Obligations.Housekeeping : Prop :=
  (∀ (raw : Int) (conv : List (BitVec 16)) (s : State), s.fs.pd 7 = true → s.fs.runs 5 = true → s.fs.on 3 = true → s.fs.us = .readySafe →
      s.fs.hk.od = false → s.fs.hk.entry.getLsbD 0 = false →
      s.fs.hk.queue = [] → s.fs.hk.next ≠ 0 →
    Settles (.hkSlotEnd ⟨raw, conv⟩) s ((({ ((s.fs.elapse (s.fs.hk.since + (s.fs.hk.slot + 1) * 125000 - s.fs.now)).p HK_STAT.CH s.fs.hk.ch).p
      HK_STAT.OD_SLOT 0 with hk := { s.fs.hk with next := (s.fs.hk.next + 1) % 64 } } : Tail)).hkStart s.fs.hk.next false (s.fs.hk.slot + 1)))
  ∧ (∀ (c : Fin 6) (raw : Int) (conv : List (BitVec 16)) (s : State), s.fs.pd 7 = true → s.fs.runs 5 = true → s.fs.on 3 = true →
      s.fs.us = .readySafe → s.fs.hk.ch = c.val → s.fs.hk.od = false →
      s.fs.hk.entry = 1 → s.fs.hk.queue = [] → s.fs.hk.next ≠ 0 → -400 ≤ raw → raw ≤ 1500 →
    ∃ t : Tail, Settles (.hkSlotEnd ⟨raw, conv⟩) s t ∧ t.ssn = (if (t.sst 144).seq = (s.fs.sst 144).seq then s.fs.ssn else s.fs.ssn + 1)
      ∧ t.hk.ch = s.fs.hk.next ∧ t.g HK_STAT.CH = c.val
      ∧ t.g (if c.val % 2 = 1 then HK_VAL.VAL_ODD (c.val / 2) else HK_VAL.VAL_EVEN (c.val / 2)) = enc 16 raw
      ∧ (t.g HK_INV_LO.INV).testBit c.val = false)
  ∧ (∀ (word : Word) (s : State), s.fs.pd 3 = true → fdGet HK_OD.REQ word = 1 → fdGet HK_OD.CH word < 22 →
    (s.fs.hk.queue.length < 8 → Does (.hkOd word) s { s.fs with hk := { s.fs.hk with queue := s.fs.hk.queue ++ [fdGet HK_OD.CH word] } })
    ∧ (8 ≤ s.fs.hk.queue.length → Settles (.hkOd word) s (s.fs.evt 0x30 2)))
  ∧ (∀ (k : Fin 4) (s : State), s.fs.pd 3 = true → Does (.resume k) s (s.fs.p (AOUT_STAT.FAILED k.val) 0))

/-- Thermal management (21 R744, R748, R754 to R756): the grace time ends in GRACE_OVER; the dwell that began to end first is over and
what waited proceeds; a confirmed trip records its sensor, blocks the gates and takes the unit to THERMAL_SHUTDOWN with every station
DISABLED; 3 ms later the domains but PD1 are off; 120 s after the trip the Tailstock restarts with cause THERM. Rests on the model's
readings in log entries 53, 54, 61. -/
def Obligations.ThermalShutdown : Prop :=
  (∀ (n : Stn) (d : Nat) (s : State), s.fs.thd.grace[n] = some d →
    Does (.graceOver n) s (({ s.fs.elapse (d - s.fs.now) with thd := { s.fs.thd with grace := s.fs.thd.grace.set n none } } : Tail).p
      (THD_REQ.GRACE_OVER n) 1))
  ∧ (∀ (e : Nat) (d : Dwell) (s : State), firstDwell s.fs.dwells = some (e, d) →
    Settles .dwellEnd s ((s.fs.elapse (e - s.fs.now)).dwellOver d))
  ∧ (∀ (sensor : Nat) (s : State), s.fs.pd 1 = true → s.fs.us = .run → sensor < 6 →
    ∃ t : Tail, Does (.hwShutdown sensor) s t ∧ t.us = .thermalShutdown ∧ t.aon.gateBlock = true ∧ t.link.ready = false
      ∧ t.aon.shutAt = some s.fs.now
      ∧ t.g THM_HWSTAT.SENSOR = sensor ∧ t.g THM_HWSTAT.VALID = 1
      ∧ t.g THM_HWSTAT.COUNT = satInc THM_HWSTAT.COUNT.width (s.fs.g THM_HWSTAT.COUNT)
      ∧ (∀ n : Stn, s.fs.fitted n.val = true → (t.stnGet n).sq.st = .disabled) ∧ (∀ k, t.doOn k = false))
  ∧ (∀ (z : Nat) (s : State), s.fs.us = .thermalShutdown → s.fs.aon.ps = .run → s.fs.aon.shutAt = some z →
    Answers .thermalDomainsOff s (fun r => r.hs = s.hs ∧ r.pending = s.pending ∧ r.rsp = s.rsp ∧ r.f2h = s.f2h ∧ r.h2f = []
      ∧ r.fs.now = s.fs.now + (z + 1200000 - s.fs.now) ∧ r.fs.aon.dom = 0x02 ∧ r.fs.aon.ps = .thermal ∧ r.fs.us = .thermalShutdown
      ∧ r.fs.aon.shutAt = some z))
  ∧ (∀ (z : Nat) (s : State), s.fs.us = .thermalShutdown → s.fs.aon.ps = .thermal → s.fs.aon.shutAt = some z →
    Answers .thermalRestart s (fun r => r.hs = s.hs ∧ r.pending = s.pending ∧ r.rsp = s.rsp
      ∧ r.fs = (s.fs.elapse (z + 48000000000 - s.fs.now)).trstBy .therm))

/-! ## Sessions and firmware (23) -/

/-- Timeouts of the session rules (23 R798, R800, R801): a challenge unanswered for 10 s is gone; the lockout ends; a session whose idle
time or lifetime is over closes under a commit of its own, with its latch. The device key and the co-signing key (23 R793, R795): PROG of
a blank key whose check is right burns the held words, which are zeroed, into a key that is PROGRAMMED or, where the read-back differs,
INVALID; a key that is not blank is not programmed again; PROGCS under an unlocked SEC page burns the hash once. Rests on the model's
readings in log entries 57, 58. -/
def Obligations.SessionTimersAndKeys : Prop :=
  (∀ (c : Chal) (s : State), s.fs.sec.pend = some c →
    Does .challengeExpiry s { s.fs.elapse (c.expT - s.fs.now) with sec := { s.fs.sec with pend := none } })
  ∧ (∀ (d : Nat) (s : State), s.fs.aon.lockT = some d →
    Does .lockoutEnd s { s.fs.elapse (d - s.fs.now) with aon := { s.fs.aon with lockT := none } })
  ∧ (∀ s : State, s.fs.sess ≠ 0 → s.fs.on 3 = true →
    ∃ t : Tail, Settles .sessionTimeout s t ∧ t.sess = 0 ∧ t.sec.sid = 0
      ∧ t.ssn = (if (t.sst 161).seq = (s.fs.sst 161).seq then s.fs.ssn else s.fs.ssn + 1) ∧ t.evtBit 0x0A 1 = true
      ∧ t.now = s.fs.now + (min s.fs.idleEnd s.fs.lifeEnd - s.fs.now))
  ∧ (∀ s : State, s.fs.on 3 = true → s.fs.otp.keyState = 0 → crc32c (keyBytes s.fs.sec.keyw) = s.fs.sec.kchk →
    ∃ t : Tail, Settles .prog s t ∧ t.ssn = s.fs.ssn + 1 ∧ t.otp.key = keyBytes s.fs.sec.keyw
      ∧ t.otp.keyState = (if Config.otpMatches s.fs.fresh then 1 else 2) ∧ t.sec.keyw = Vector.replicate 8 0 ∧ t.sec.kchk = 0
      ∧ t.evtBit 0x0A 4 = true)
  ∧ (∀ s : State, s.fs.otp.keyState ≠ 0 → Does .prog s s.fs)
  ∧ (∀ s : State, s.fs.on 3 = true → s.fs.otp.cosign = false → s.fs.locked 0x0A = false →
    ∃ t : Tail, Settles .progcs s t ∧ t.ssn = s.fs.ssn + 1 ∧ t.otp.cosign = true ∧ t.otp.csHash = keyBytes s.fs.sec.keyw
      ∧ t.otp.keyState = s.fs.otp.keyState ∧ t.sec.keyw = Vector.replicate 8 0 ∧ t.evtBit 0x0A 4 = true)
  ∧ (∀ s : State, s.fs.otp.cosign = true → Does .progcs s s.fs)

/-- A firmware load (23 R809 to R812, R815): BEGIN on an unlocked FW page empties the slot not booted and begins its erase, whose end
takes records; a record at the offset reached is appended to the slot; COMMIT verifies once stream 168 is empty, and waits until then; an
image that passes makes its slot the next, one that fails at check c makes it INVALID with cause c; CANCEL returns to IDLE from any state,
makes a slot that is EMPTY or VERIFIED after this load INVALID, and NEXT names the slot booted; CONFIRM of a trial in READY_SAFE confirms
the slot and raises the anti-rollback count. -/
def Obligations.FirmwareLoad : Prop :=
  (∀ s : State, s.fs.on 3 = true → s.fs.locked 0x0B = false → s.fs.fw.load = .idle → s.fs.fw.slots[s.fs.fw.booted].st ≠ .trial →
      s.fs.fw.recovery = false →
    ∃ t : Tail, Settles .begin s t ∧ t.ssn = s.fs.ssn + 1 ∧ t.fw.load = .erasing ∧ t.fw.target = otherSlot s.fs.fw.booted
      ∧ t.fw.slots[otherSlot s.fs.fw.booted] = Slot.empty ∧ t.fw.slots[s.fs.fw.booted] = s.fs.fw.slots[s.fs.fw.booted]
      ∧ t.fw.ofs = 0 ∧ t.fw.poisoned = false)
  ∧ (∀ s : State, s.fs.fw.load = .erasing → s.fs.on 3 = true →
    Does .eraseDone s { s.fs with fw := { s.fs.fw with load := .loading } })
  ∧ (∀ (r : RecIx) (d : List Byte) (t1 : Tail) (s : State), s.fs.fw.load = .loading → s.fs.on 3 = true → s.fs.pd 4 = true →
      s.fs.imageRec = some r → s.fs.takeImage r = (d, false, t1) → d ≠ [] → leNat (d.take 4) = s.fs.fw.ofs →
      s.fs.fw.ofs + (d.drop 4).length ≤ imageMax → s.fs.fw.commitWait = false →
    ∃ t : Tail, Settles .imageRecordConsumed s t
      ∧ t.fw.slots[s.fs.fw.target].img = s.fs.fw.slots[s.fs.fw.target].img ++ d.drop 4
      ∧ t.fw.ofs = s.fs.fw.ofs + (d.drop 4).length ∧ t.fw.load = .loading)
  ∧ (∀ s : State, s.fs.on 3 = true → s.fs.locked 0x0B = false → s.fs.fw.load = .loading →
    ∃ t : Tail, Settles .commit s t ∧ t.ssn = s.fs.ssn + 1
      ∧ (s.fs.imageRec = none → (s.fs.sst 168).held = [] → t.fw = { s.fs.fw with load := .verifying, commitWait := false })
      ∧ (s.fs.imageRec ≠ none → t.fw = { s.fs.fw with commitWait := true }))
  ∧ (∀ s : State, s.fs.on 3 = true → s.fs.fw.load = .verifying →
    ∃ t : Tail, Settles .verifyDone s t ∧ t.ssn = (if (t.sst 161).seq = (s.fs.sst 161).seq then s.fs.ssn else s.fs.ssn + 1)
      ∧ (s.fs.verifyImage s.fs.fw.slots[s.fs.fw.target].img = 0 → t.fw.load = .verified ∧ t.fw.next = s.fs.fw.target
          ∧ t.fw.slots[s.fs.fw.target].st = .verified ∧ t.evtBit 0x0B 0 = true)
      ∧ (s.fs.verifyImage s.fs.fw.slots[s.fs.fw.target].img ≠ 0 → t.fw.load = .failed
          ∧ t.fw.cause = s.fs.verifyImage s.fs.fw.slots[s.fs.fw.target].img ∧ t.fw.slots[s.fs.fw.target].st = .invalid
          ∧ t.fw.next = s.fs.fw.next ∧ t.evtBit 0x0B 1 = true))
  ∧ (∀ s : State, s.fs.on 3 = true → s.fs.locked 0x0B = false →
    ∃ t : Tail, Settles .cancel s t ∧ t.ssn = s.fs.ssn + 1 ∧ t.fw.load = .idle ∧ t.fw.next = s.fs.fw.booted
      ∧ t.fw.slots[s.fs.fw.target].st = (if s.fs.fw.load ≠ .idle ∧ (s.fs.fw.slots[s.fs.fw.target].st = .empty
          ∨ s.fs.fw.slots[s.fs.fw.target].st = .verified) then .invalid else s.fs.fw.slots[s.fs.fw.target].st)
      ∧ t.fw.slots[otherSlot s.fs.fw.target] = s.fs.fw.slots[otherSlot s.fs.fw.target])
  ∧ (∀ s : State, s.fs.on 3 = true → s.fs.locked 0x0B = false → s.fs.fw.slots[s.fs.fw.booted].st = .trial → s.fs.us = .readySafe →
    ∃ t : Tail, Settles .confirm s t ∧ t.ssn = s.fs.ssn + 1 ∧ t.fw.slots[s.fs.fw.booted].st = .confirmed
      ∧ t.otp.arc = max s.fs.otp.arc s.fs.fw.slots[s.fs.fw.booted].arc ∧ t.evtBit 0x0B 4 = true)

/-! ## The Host Serial Port and the link (02, 05, 06, 08) -/

/-- Reads of the host (08 R278, R285, R290, R310 to R312, 05 R178): a frame that the field side serves runs under one commit with its CMD
record, and is answered with OK: REG_READ with the bytes of its registers, STATUS_DIGEST with the 64-byte digest, NOP with nothing;
registers that the Headstock holds are answered by it alone; a header that fails a check, an absent field side, and one that is not ready
are answered with their status, and nothing runs; a request sent to a field side that does not serve ends with FIELD_TIMEOUT and a pending
entry. Rests on the model's readings in log entries 29, 30, 34. -/
def Obligations.HostReads : Prop :=
  (∀ (f : Frame) (s : State), s.Serves .regRead f → s.fs.fw.recovery = false →
    (let t := (s.begun .regRead f).regReads (regAddrs f.stream.toNat f.addr.toNat f.len.toNat)
     exec (.regRead f) s = .next (s.answered .regRead f okSt
       (readBytes (t.view (s.fs.ssn + 1)) (f.stream.toNat * 256 + f.addr.toNat) (f.len.toNat / 4)) t)))
  ∧ (∀ (f : Frame) (s : State), s.Serves .statusDigest f → s.fs.fw.recovery = false →
    exec (.statusDigest f) s = .next (s.answered .statusDigest f okSt (s.begun .statusDigest f).digest (s.begun .statusDigest f))
      ∧ (s.begun .statusDigest f).digest.length = 64)
  ∧ (∀ (f : Frame) (s : State), s.Serves .nop f → s.fs.fw.recovery = false →
    exec (.nop f) s = .next (s.answered .nop f okSt [] (s.begun .nop f)))
  ∧ (∀ (f : Frame) (s : State), s.hs.powered = true → s.hs.frame = none → headerCheck s.fs.u .regRead f = none →
      frameLocal .regRead f = true →
    exec (.regRead f) s = .next { s.takeLateHsp with
      rsp := some ⟨okSt, f.seq, 0, readBytes s.takeLateHsp.localView (f.stream.toNat * 256 + f.addr.toNat) (f.len.toNat / 4)⟩ })
  ∧ (∀ (f : Frame) (st : Nat) (s : State), s.hs.powered = true → s.hs.frame = none → headerCheck s.fs.u .nop f = some st →
    exec (.nop f) s = .next { s.takeLateHsp with rsp := some ⟨st, f.seq, 0, []⟩, hs := s.takeLateHsp.hs.last s.fs.u f st })
  ∧ (∀ (f : Frame) (s : State), s.hs.powered = true → s.hs.frame = none → headerCheck s.fs.u .nop f = none →
    (s.hs.present = false → exec (.nop f) s = .next { s.takeLateHsp with
        rsp := some ⟨linkDown, f.seq, 0, []⟩, hs := s.takeLateHsp.hs.last s.fs.u f linkDown })
    ∧ (s.hs.present = true → s.hs.ready = false → exec (.nop f) s = .next { s.takeLateHsp with
        rsp := some ⟨busySt, f.seq, 0, []⟩, hs := { s.takeLateHsp.hs with wake := true }.last s.fs.u f busySt }))
  ∧ (∀ (f : Frame) (s : State), s.hs.powered = true → s.hs.frame = none → headerCheck s.fs.u .nop f = none → s.hs.ready = true →
      s.fs.serves = false → s.hs.entry (frCh f) f.seq = none →
    exec (.nop f) s = .next { s.takeLateHsp with
      rsp := some ⟨fieldTimeout, f.seq, 0, []⟩
      hs := ((((s.requested f).putEntry (frCh f) ⟨f.seq, headerCrc .nop f, false, 0, 0, 0, []⟩).countEnd s.fs.u fieldTimeout).last s.fs.u f
        fieldTimeout).release })

/-- Register writes of the host (05 R162, R163, R169, 08 R288): an accepted frame's words and what they start are one commit, audited
while a session is open; REG_WRITE_VERIFY answers with the read-back, and PARTIAL where it differs; a frame refused as LOCKED changes
nothing of its page and is answered so; a page reset is such a frame, and that of the HSP page while its HOLD is set does nothing. A
write to a station's STN page whose images are whole (00 R11, 10 R378): each written register takes the new value in its RW and unlocked
RWL bits and nowhere else, W1C bits that are written as 1 clear, and no other register of the page changes, but that ENABLE written 0
takes a READY or FAULTED station to DISABLED and its state into PREV. Rests on the model's readings in log entries 12, 17, 29, 34, 35.
-/
def Obligations.HostWrites : Prop :=
  (∀ (f : Frame) (s : State), s.Serves .regWrite f → s.fs.fw.recovery = false → frVerify f = false →
    (let w := payloadWr f.stream.toNat false f.addr.toNat f.payload
     let t := s.begun .regWrite f
     (refusal (t.writeCheck w) = none → exec (.regWrite f) s = .next (s.answered .regWrite f okSt []
       ((t.writeApply w (frameRef .regWrite f)).auditWrite f.stream.toNat (frameRef .regWrite f) f.addr.toNat)))
     ∧ (refusal (t.writeCheck w) = some lockedSt → exec (.regWrite f) s = .next (s.answered .regWrite f lockedSt [] t))))
  ∧ (∀ (f : Frame) (s : State), s.Serves .regWriteVerify f → s.fs.fw.recovery = false →
    (let w := payloadWr f.stream.toNat false f.addr.toNat f.payload
     let t := s.begun .regWriteVerify f
     refusal (t.writeCheck w) = none →
     (let r := (t.writeApply w (frameRef .regWriteVerify f)).auditWrite f.stream.toNat (frameRef .regWriteVerify f) f.addr.toNat
      exec (.regWriteVerify f) s = .next (s.answered .regWriteVerify f (if r.readbackDiffers w then partialSt else okSt)
        (readBytes (r.view r.ssn) (f.stream.toNat * 256 + f.addr.toNat) (f.len.toNat / 4)) r))))
  ∧ (∀ (p : Byte) (s : State), s.fs.on 3 = true → p ≠ 1 → p ≠ 2 → reservedPage p.toNat = false → s.fs.absentPage p.toNat = false →
      refusal (s.fs.writeCheck (Wr.one (PG_CTRL.SRST p.toNat).addr 2)) = none →
    Settles (.pgrst p) s (s.fs.commit (fun t => t.writeApply (Wr.one (PG_CTRL.SRST p.toNat).addr 2) noFrame)))
  ∧ (∀ s : State, s.hs.powered = true → s.hs.g s.fs.u (PG_LOCK.HOLD 1) = 1 → exec (.pgrst 1) s = .next s)
  ∧ (∀ (n : Stn) (f : Frame) (s : State), s.Serves .regWrite f → s.fs.fw.recovery = false → frVerify f = false →
      f.stream.toNat = stnPage n 0 → s.fs.store.sys = [] →
    (let w := payloadWr (stnPage n 0) false f.addr.toNat f.payload
     let t0 := s.begun .regWrite f
     let off := w.has (PG_CTRL.ENABLE (stnPage n 0)) = true ∧ t0.newv w (PG_CTRL.ENABLE (stnPage n 0)) = 0
     w.srst = false → s.fs.locked (stnPage n 0) = false → refusal (t0.writeCheck w) = none →
     (w.cmd (STN_CMD.START n) = 1 → s.fs.sqcUp = true) → (off → (t0.stnGet n).sq.st ≠ .diag) →
     ∃ t : Tail, exec (.regWrite f) s = .next (s.answered .regWrite f okSt [] t)
       ∧ (∀ e ∈ w.words, e.1 / 256 = stnPage n 0 → e.1 ≠ (STN_STAT.PREV n).addr →
           t.word e.1 = writeWord (wrFields s.fs.u e.1) (s.fs.word e.1) e.2)
       ∧ (∀ a, a / 256 = stnPage n 0 → a ≠ (STN_STAT.PREV n).addr → w.find a = none → t.word a = s.fs.word a)
       ∧ (¬ off → (t.stnGet n).sq.st = (t0.stnGet n).sq.st ∧ t.g (STN_STAT.PREV n) = s.fs.g (STN_STAT.PREV n))
       ∧ (off → ((t0.stnGet n).sq.st = .ready ∨ (t0.stnGet n).sq.st = .faulted) →
           (t.stnGet n).sq.st = .disabled ∧ t.g (STN_STAT.PREV n) = (t0.stnGet n).sq.st.code)))

/-- Frames on streams (06 R205, R212, R253, 08 R289, R301 to R304): an accepted STREAM_PUT writes one record of its payload; STREAM_GET
consumes the delivery before it and delivers the next records; STREAM_PEEK delivers without consuming; each is answered OK, or PARTIAL
where a record had to be left out for want of room; the first record behind one that was skipped carries LOSS. Rests on the model's
readings in log entries 29, 34, 68. -/
def Obligations.StreamFrames : Prop :=
  (∀ (f : Frame) (s : State), s.Serves .streamPut f → frVerify f = false →
    (let t := s.begun .streamPut f
     refusal (t.putCheck f.stream.toNat f.payload.length) = none →
     exec (.streamPut f) s = .next (s.answered .streamPut f okSt []
       (t.record .host f.stream.toNat (if f.stream.toNat = 168 then 0x0B else 2) true f.payload))))
  ∧ (∀ (f : Frame) (s : State), s.Serves .streamGet f → traceStream f.stream.toNat = false →
    (let k := f.stream.toNat
     let t := ((s.begun .streamGet f).sysReads (descX k) 2).consume k
     refusal ((s.begun .streamGet f).getCheck k (hostGet k)) = none →
     ∀ (cut : Bool) (d : List Byte) (ps : List Nat) (skipped : Bool) (t2 : Tail),
       t.streamData k f.len.toNat (t.sst k).recs (t.sst k).skip = (cut, d, ps, skipped, t2) →
     exec (.streamGet f) s = .next (s.answered .streamGet f (if cut then partialSt else okSt) d
       ((t2.markDelivered k ps).sstMap k (fun x => { x with skip := skipped })))))
  ∧ (∀ (f : Frame) (s : State), s.Serves .streamPeek f → traceStream f.stream.toNat = false →
    (let k := f.stream.toNat
     let t := (s.begun .streamPeek f).sysReads (descX k) 2
     refusal ((s.begun .streamPeek f).getCheck k (hostPeek k)) = none →
     ∀ (cut : Bool) (d : List Byte) (ps : List Nat) (skipped : Bool) (t2 : Tail),
       t.streamData k f.len.toNat (skipData f.addr.toNat (t.sst k).recs) false = (cut, d, ps, skipped, t2) →
     exec (.streamPeek f) s = .next (s.answered .streamPeek f (if cut then partialSt else okSt) d t2)))

/-- Session frames (23 R796 to R801): SESSION_OPEN with the key programmed, no session and no lockout draws a challenge and answers SID
and nonce; the right MAC opens the session at its level and zeroes the failures; a wrong one counts a failure, ends the challenge and is
LOCKED; SESSION_CLOSE with the open SID closes it, and with another SID is BAD_ADDR. Rests on the model's readings in log entries 55, 56,
58. -/
def Obligations.SessionFrames : Prop :=
  (∀ (f : Frame) (s : State), s.Serves .sessionOpen f →
    (let t := s.begun .sessionOpen f
     let l := (f.payload.getD 0 0).toNat
     (l = 1 ∨ l = 2) → t.otp.keyState = 1 → t.sess = 0 → t.aon.lockT = none →
     exec (.sessionOpen f) s = .next (s.answered .sessionOpen f okSt
       (leBytes 4 (drawSid t.fresh).toNat ++ leBytes 16 (Config.nonce t.fresh).toNat)
       { t with fresh := t.fresh + 1, sec := { t.sec with
         pend := some ⟨l, drawSid t.fresh, leBytes 16 (Config.nonce t.fresh).toNat, t.now + 4000000000⟩ } })))
  ∧ (∀ (f : Frame) (c : Chal) (s : State), s.Serves .sessionAuth f →
    (let t := s.begun .sessionAuth f
     t.sess = 0 → t.sec.pend = some c → c.sid = BitVec.ofNat 32 (leNat (f.payload.take 4)) →
     ((t.sessMac c = f.payload.drop 4 → c.level ≠ 0 →
       ∃ r : Tail, exec (.sessionAuth f) s = .next (s.answered .sessionAuth f okSt ([BitVec.ofNat 8 c.level, 0] ++ leBytes 2 t.secIdle) r)
         ∧ r.sess = c.level ∧ r.sec.sid = c.sid ∧ r.sec.pend = none ∧ r.sec.openedAt = t.now ∧ r.g SEC_STAT.FAILS = 0
           ∧ r.evtBit 0x0A 0 = true)
      ∧ (t.sessMac c ≠ f.payload.drop 4 →
       ∃ r : Tail, exec (.sessionAuth f) s = .next (s.answered .sessionAuth f lockedSt [] r) ∧ r.sess = 0 ∧ r.sec.pend = none
         ∧ r.g SEC_STAT.FAILS = satInc SEC_STAT.FAILS.width (t.g SEC_STAT.FAILS) ∧ r.evtBit 0x0A 2 = true
         ∧ (4 ≤ t.g SEC_STAT.FAILS → r.aon.lockT = some (t.now + 24000000000))))))
  ∧ (∀ (f : Frame) (s : State), s.Serves .sessionClose f →
    (let t := s.begun .sessionClose f
     let sid : Word := BitVec.ofNat 32 (leNat (f.payload.take 4))
     t.sess ≠ 0 →
     (t.sec.sid = sid → ∃ r : Tail, exec (.sessionClose f) s = .next (s.answered .sessionClose f okSt [] r) ∧ r.sess = 0 ∧ r.sec.sid = 0
       ∧ r.evtBit 0x0A 1 = true)
     ∧ (t.sec.sid ≠ sid → exec (.sessionClose f) s = .next (s.answered .sessionClose f badAddr [] t))))

/-- FAULT_CLEAR as a CMD frame (18 R669 to R671, R673, 08 R309): a new token clears what the mask names and is answered with the token and
RESULT; a token among the last four of its page executes nothing and is answered DUP with the result kept. Rests on the model's readings
in log entries 29, 34, 108. -/
def Obligations.FaultClearFrames : Prop :=
  (∀ (n : Stn) (f0 : Frame) (s : State),
    (let f := { f0 with stream := BitVec.ofNat 8 (stnPage n 0xE), addr := 1 }
     let t := s.begun .cmd f
     let tok : Word := BitVec.ofNat 32 (leNat (f.payload.take 4))
     s.Serves .cmd f → s.fs.fw.recovery = false → tok ≠ 0 → f.payload.length = 8 → t.sess = 0 →
     (t.toks.find? (fun e => e.1 = stnPage n 0xE && e.2.1 = tok) = none →
       (let r := t.faultClear n (leNat ((f.payload.drop 4).take 4))
        exec (.faultClear n f0) s = .next (s.answered .cmd f okSt (leBytes 4 tok.toNat ++ leBytes 4 (r.clearResult n))
          (({ r with toks := pushTok r.toks (stnPage n 0xE) tok (BitVec.ofNat 32 (r.clearResult n)) } : Tail).auditWrite (stnPage n 0xE)
            (frameRef .cmd f) 1))))
     ∧ (∀ e, t.toks.find? (fun e => e.1 = stnPage n 0xE && e.2.1 = tok) = some e →
       exec (.faultClear n f0) s = .next (s.answered .cmd f dupSt (leBytes 4 tok.toNat ++ leBytes 4 e.2.2.toNat) t))))
  ∧ (∀ (f0 : Frame) (s : State),
    (let f := { f0 with stream := 0x23, addr := 1 }
     let t := s.begun .cmd f
     let tok : Word := BitVec.ofNat 32 (leNat (f.payload.take 4))
     s.Serves .cmd f → s.fs.fw.recovery = false → tok ≠ 0 → f.payload.length = 4 → t.sess = 0 →
     t.toks.find? (fun e => e.1 = 0x23 && e.2.1 = tok) = none →
       (let r := t.faultClearAll 0xFFFFFFFF
        exec (.faultClearAll f0) s = .next (s.answered .cmd f okSt (leBytes 4 tok.toNat ++ leBytes 4 r.clearAllResult)
          (({ r with toks := pushTok r.toks 0x23 tok (BitVec.ofNat 32 r.clearAllResult) } : Tail).auditWrite 0x23 (frameRef .cmd f) 1)))))

/-- A frame byte by byte (08 R278, R292, R297, R312, R314, R315): a header whose HCRC is wrong is rejected and counted; a good field header
is acknowledged with 0xC3 and opens a message under the channel's next LSEQ; the end of a request that is not in the duplicate table
sends it with EXECUTE; an abort counts and sends ABANDON; HS_CS_N rising after the end frees the frame; without 0xA5 by HSP_WAIT_MAX the
frame ends with FIELD_TIMEOUT and a pending entry, and behind 0xA5 without the next segment its data goes on as 0x00 to an RCRC that does
not check. The Headstock's own clears (08 R300, R319): DUP_CLR empties the duplicate tables of the channels it names and no other; CNT_CLR
zeroes the counters of the HSP page. Rests on the model's readings in log entries 30, 31, 104. -/
def Obligations.FrameBytesAndClears : Prop :=
  (∀ (bytes : List Byte) (s : State), s.hs.powered = true → s.hs.frame = none → bytes.length = 12 →
      BitVec.ofNat 32 (leNat (bytes.drop 8)) ≠ crc32c (bytes.take 8) →
    Answers (.hspHeader bytes) s (fun r => r.fs = s.fs ∧ r.h2f = s.h2f ∧ r.f2h = s.f2h ∧ r.pending = s.pending ∧ r.rsp = s.rsp
      ∧ r.hs.drive = single [0x5A, 0x03] ∧ r.hs.frame = none ∧ r.hs.dup = s.hs.dup ∧ r.hs.lseq = s.hs.lseq
      ∧ r.hs.g s.fs.u HSP_CNT_B.HCRC_ERR = satInc HSP_CNT_B.HCRC_ERR.width (s.hs.g s.fs.u HSP_CNT_B.HCRC_ERR)
      ∧ r.hs.g s.fs.u HSP_STAT.LAST_STATUS = 3))
  ∧ (∀ (bytes : List Byte) (op : HspOp) (s : State), s.hs.powered = true → s.hs.frame = none → bytes.length = 12 →
      BitVec.ofNat 32 (leNat (bytes.drop 8)) = crc32c (bytes.take 8) → opOf (bytes.getD 0 0) = some op →
      headerCheck s.fs.u op (headerFrame bytes) = none → frameLocal op (headerFrame bytes) = false → s.hs.ready = true →
      s.fs.serves = true →
    (let c := frCh (headerFrame bytes)
     Answers (.hspHeader bytes) s (fun r => r.h2f = s.h2f ∧ r.f2h = s.f2h ∧ r.pending = s.pending ∧ r.rsp = s.rsp
      ∧ r.fs = Tail.logAll { s.fs.dropOpen with link := { s.fs.dropOpen.link with openMsg := .open } }
      ∧ r.hs.drive = single [0xC3] ∧ r.hs.frame = some ⟨op, headerFrame bytes, headerCrc op (headerFrame bytes), .payload⟩
      ∧ (∃ q, r.hs.out = some ⟨c.val, q, .execute, [], 0, []⟩ ∧ q = s.hs.lseq[c.val] + 1 ∧ r.hs.lseq[c.val] = q)
      ∧ r.hs.dup = s.hs.dup ∧ r.hs.g s.fs.u HSP_CNT_A.FRAMES = satInc HSP_CNT_A.FRAMES.width (s.hs.g s.fs.u HSP_CNT_A.FRAMES))))
  ∧ (∀ (op : HspOp) (f : Frame) (q : Word) (o : OutReq) (s : State), s.hs.frame = some ⟨op, f, q, .payload⟩ → s.hs.out = some o →
      opPayload op = false → s.fs.link.openMsg = .open → s.hs.entry (frCh f) f.seq = none →
    exec (.hspRequestEnd []) s = .next { s with
      h2f := s.h2f ++ [.reqHsp o.cstr o.lseq op { f with payload := [] } q .execute]
      fs := { s.fs with link := { s.fs.link with openMsg := .none } }
      hs := { s.hs with out := some { o with disp := .execute }, frame := some ⟨op, { f with payload := [] }, q, .waiting⟩ } })
  ∧ (∀ (op : HspOp) (f : Frame) (q : Word) (o : OutReq) (k : Nat) (s : State), s.hs.frame = some ⟨op, f, q, .payload⟩ →
      s.hs.out = some o → s.fs.link.openMsg = .open →
    exec (.frameAbort k) s = .next { s with
      h2f := s.h2f ++ [.reqHsp o.cstr o.lseq op f 0 .abandon]
      fs := { s.fs with link := { s.fs.link with openMsg := .none } }
      hs := { s.hs.inc s.fs.u HSP_CNT_A.ABORTED with frame := none, out := none, wake := false } })
  ∧ (∀ (op : HspOp) (f : Frame) (q : Word) (s : State), s.hs.frame = some ⟨op, f, q, .over⟩ → frameLocal op f = false →
    exec .hsCsNRise s = .next { s with hs := { s.hs with frame := none, out := none, wake := false } })
  ∧ (∀ (op : HspOp) (f : Frame) (q : Word) (o : OutReq) (s : State), s.hs.out = some o → o.disp = .execute →
    (s.hs.frame = some ⟨op, f, q, .waiting⟩ →
      Answers .fieldTimeout s (fun r => r.fs = s.fs ∧ r.h2f = s.h2f ∧ r.f2h = s.f2h ∧ r.pending = s.pending ∧ r.rsp = s.rsp
        ∧ r.hs.drive = s.hs.drive
          ++ single (List.replicate (clampN 16 4096 (s.hs.g s.fs.u HSP_CFG.WAIT_MAX)) 0x00 ++ [0x5A, 0x08, f.seq, 0xF7])
        ∧ r.hs.frame = some ⟨op, f, q, .over⟩ ∧ r.hs.out = none
        ∧ r.hs.entry (frCh f) f.seq = some ⟨f.seq, frameChk op f, false, 0, 0, 0, []⟩
        ∧ r.hs.g s.fs.u HSP_CNT_C.TIMEOUT = satInc HSP_CNT_C.TIMEOUT.width (s.hs.g s.fs.u HSP_CNT_C.TIMEOUT)))
    ∧ (s.hs.frame = some ⟨op, f, q, .data⟩ →
      Answers .fieldTimeout s (fun r => r.fs = s.fs ∧ r.h2f = s.h2f ∧ r.f2h = s.f2h ∧ r.pending = s.pending ∧ r.rsp = s.rsp
        ∧ r.hs.drive = s.hs.drive ++ bodyLanes (frQuad f) o.body.length (cutRest o.body f.len.toNat)
        ∧ r.hs.frame = some ⟨op, f, q, .over⟩ ∧ r.hs.out = none
        ∧ r.hs.entry (frCh f) f.seq = some ⟨f.seq, frameChk op f, false, 0, 0, 0, []⟩)))
  ∧ (∀ (mask : Byte) (s : State), s.hs.powered = true →
    exec (.dupClr mask) s = .next { s with hs := { s.hs with
      dup := Vector.ofFn (fun c => if mask.getLsbD c.val then [] else s.hs.dup[c]) } })
  ∧ (∀ s : State, s.hs.powered = true →
    Answers .hspCntClr s (fun r => r.fs = s.fs ∧ r.h2f = s.h2f ∧ r.f2h = s.f2h ∧ r.pending = s.pending ∧ r.rsp = s.rsp
      ∧ (∀ f ∈ hspCounters, r.hs.g s.fs.u f = 0) ∧ r.hs.dup = s.hs.dup ∧ r.hs.frame = s.hs.frame
      ∧ (∀ a, (∀ f ∈ hspCounters, a ≠ f.addr) → r.hs.word s.fs.u a = s.hs.word s.fs.u a)))

/-- Every message arrives as it was sent (02 R47 to R51, R53 to R60): of each type of message on either lane, with every header field, body
and disposition at every value it can carry, the ten-bit codes of its bursts, received unaltered, check good and spell the same message;
a NAK_H is received without the mark that it was inserted. Rests on the model's reading in log entry 104. -/
def Obligations.MessagesArrive : Prop :=
  (∀ (c : Nat) (l : Half) (op : HspOp) (f : Frame) (chk : Word) (d : Disp), c < 256 → f.len.toNat ≤ 4096 →
      f.payload.length = (if opPayload op then f.len.toNat else 0) → (opPayload op = false → chk = headerCrc op f) →
    (let m : H2F := .reqHsp c l op f chk d
     m.heard .asSent = .good m))
  ∧ (∀ (c : Nat) (l : Half) (cmd : Byte) (d : List Byte) (disp : Disp), c < 256 → d.length < 256 →
    (let m : H2F := .reqMb c l cmd d disp
     m.heard .asSent = .good m))
  ∧ (∀ (c : Nat) (l : Half) (k r : Nat) (ins : Bool), c < 256 → k < 256 → r < 256 →
    (H2F.nakH c l k r ins).heard .asSent = .good (.nakH c l k r false))
  ∧ (∀ (mb : Bool) (c : Nat) (l : Half) (k : Nat) (more retx : Bool) (b : List Byte), c < 256 → k < 256 → b.length < 65536 →
    (let m : F2H := .seg mb c l k more retx b
     m.heard .asSent = .good m))
  ∧ (∀ (hdr : Bool) (c : Nat) (l : Half) (r : Nat), c < 256 → r < 256 → hdr = (c != 0xFF) →
    (let m : F2H := .nakF hdr c l r
     m.heard .asSent = .good m))

/-- Requests at the field side (02 R53, R57, R62 to R64, R70, 08 R293): a request that checks good, with EXECUTE and a new LSEQ, is
executed, and its response is kept and sent; the same LSEQ again is executed no more and is answered with the response kept; accepting it
sets LAST_LSEQ and counts a gap; ABANDON and a message that does not check are discarded, the latter with NAK_F, which names the request
where its header can be read, and nothing is executed; one that no EOF ends stays open; while the field side does not serve the link a
message is lost. Rests on the model's readings in log entries 25, 104, 112. -/
def Obligations.LinkRequests : Prop :=
  (∀ (c : Fin 8) (l : Half) (op : HspOp) (f : Frame) (chk : Word) (rx : Rx) (rest : List H2F) (s : State),
    (let m : H2F := .reqHsp c.val l op f chk .execute
     let t := s.fs.carriedH2F m
     let q : Fin 16 := Fin.ofNat 16 c.val
     s.h2f = m :: rest → m.heard rx = .good m → s.fs.serves = true →
     (s.fs.link.lastLseq[q] ≠ some l →
       (let r := (t.acceptReq q l).runHsp c.val op f
        exec (.reqHsp rx) s = .next (State.pump { s with
          h2f := rest
          fs := (r.t.keepRsp q ⟨false, l, f.seq, chk, r.status, r.snap, r.data⟩).respond false c.val l (quotaStream op f) (rspUrgent op f)
            (responseBody r.status f.seq r.snap r.data) })))
     ∧ (s.fs.link.lastLseq[q] = some l → ∀ k, (t.sysReads (rspX c.val) 520).link.retained[q] = some k →
       exec (.reqHsp rx) s = .next (State.pump { s with
         h2f := rest
         fs := (((t.sysReads (rspX c.val) 520).inc BLNK_ERR.RX_OTHER).evt 0x03 0).finish.respond false c.val l (quotaStream op f)
           (rspUrgent op f) k.body }))))
  ∧ (∀ (c : Fin 16) (l : Half) (t : Tail),
    (let r := t.acceptReq c l
     r.link.lastLseq[c] = some l ∧ r.g BLNK_SEQ.LAST_LSEQ = l.toNat
       ∧ (t.link.lastLseq[c] = none ∨ t.link.lastLseq[c] = some (l - 1) → r.g BLNK_SEQ.SEQ_GAP = t.g BLNK_SEQ.SEQ_GAP)
       ∧ (∀ q, t.link.lastLseq[c] = some q → l ≠ q + 1 →
           r.g BLNK_SEQ.SEQ_GAP = satInc BLNK_SEQ.SEQ_GAP.width (t.g BLNK_SEQ.SEQ_GAP) ∧ r.evtBit 0x03 4 = true)))
  ∧ (∀ (c : Nat) (l : Half) (op : HspOp) (f : Frame) (chk : Word) (rx : Rx) (rest : List H2F) (s : State),
    (let m : H2F := .reqHsp c l op f chk .abandon
     s.h2f = m :: rest → m.heard rx = .good m → s.fs.serves = true →
     exec (.reqHsp rx) s = .next (State.pump { s with
       h2f := rest, fs := (((s.fs.carriedH2F m).inc BLNK_ERR.RX_OTHER).evt 0x03 0).finish })))
  ∧ (∀ (c : Nat) (l : Half) (op : HspOp) (f : Frame) (chk : Word) (d : Disp) (rx : Rx) (rest : List H2F) (s : State),
    (let m : H2F := .reqHsp c l op f chk d
     let t := s.fs.carriedH2F m
     s.h2f = m :: rest →
     (s.fs.serves = true → ∀ reason x, m.heard rx = .bad reason (some x) → reason ≠ nakType →
       exec (.reqHsp rx) s = .next (State.pump { s with h2f := rest, fs := (Tail.finish
         { ((t.inc BLNK_ERR.RX_CRC).evt 0x03 0).inc BLNK_RETX.NAK_TX with
           link := { t.link with prio := t.link.prio ++ [.nakF true x.cstr x.lseq reason] } }) }))
     ∧ (s.fs.serves = true → ∀ reason, m.heard rx = .bad reason none → reason ≠ nakType →
       exec (.reqHsp rx) s = .next (State.pump { s with h2f := rest, fs := (Tail.finish
         { ((t.inc BLNK_ERR.RX_CRC).evt 0x03 0).inc BLNK_RETX.NAK_TX with
           link := { t.link with prio := t.link.prio ++ [.nakF false 0xFF 0xFFFF reason] } }) }))
     ∧ (s.fs.serves = true → ∀ x, m.heard rx = .cut x →
       exec (.reqHsp rx) s = .next (State.pump { s with h2f := rest, fs := { t with link := { t.link with openMsg := .open } } }))
     ∧ (s.fs.serves = false → exec (.reqHsp rx) s = .next (State.pump { s with h2f := rest, fs := t }))))
  ∧ (∀ (l : Half) (c : MbCmd) (d : List Byte) (rx : Rx) (rest : List H2F) (s : State),
    (let m : H2F := .reqMb 8 l (mbCode c) d .execute
     s.h2f = m :: rest → m.heard rx = .good m → s.fs.serves = true → s.fs.link.lastLseq[8] ≠ some l →
     (let r := ((s.fs.carriedH2F m).acceptReq 8 l).runMb 8 c d
      exec (.reqMb rx) s = .next (State.pump { s with
        h2f := rest
        fs := (r.t.keepRsp 8 ⟨true, l, 0, 0, r.status, r.snap, r.data⟩).respond true 8 l 8 false (mbResponse r.status r.data) }))))

/-- Retransmission and the end of messages (02 R62, R67 to R69): a NAK_H for a segment that its stream sent last puts that segment ahead
of the others, counted; 40 ms without a symbol in an open message discard it; a repeat of NAK_H asks for a missing segment again.
Responses at the Headstock (02 R53, R65, R67 to R71, 08 R276, R297, 01 R22): a good whole response to the waiting frame goes out after a
wait byte and 0xA5, ends the frame and enters the duplicate table; one that does not check is asked for again; one that arrives between
transactions waits for the next and is counted then, and one of another request is counted at once; NAK_F before 0xA5 ends the frame with
PCRC_ERR; a response of the bus ends the transaction that holds SCL. Rests on the model's readings in log entries 22, 30, 31, 38, 104. -/
def Obligations.LinkSegments : Prop :=
  (∀ (c : Fin 10) (l : Half) (r : Nat) (ins : Bool) (body : List Byte) (rx : Rx) (rest : List H2F) (s : State),
    (let m : H2F := .nakH c.val l 0 r ins
     let t := s.fs.carriedH2F m
     s.h2f = m :: rest → (∃ r' i', m.heard rx = .good (.nakH c.val l 0 r' i')) → s.fs.serves = true →
      s.fs.link.sent[c.val] = some (l, body) →
     exec (.nakH rx) s = .next (State.pump { s with h2f := rest, fs := (Tail.finish { (t.inc BLNK_RETX.NAK_RX).evt 0x03 1 with
       link := { t.link with prio := t.link.prio ++ [.seg (decide (8 ≤ c.val)) c.val l 0 (decide (512 < body.length)) true
         (body.take 512)] } }) })))
  ∧ (∀ s : State, s.fs.link.openMsg = .open →
    Settles .openMessageTimeout s { (((s.fs.elapse 16000000).inc BLNK_ERR.RX_OTHER).evt 0x03 0) with
      link := { s.fs.link with openMsg := .discarded } })
  ∧ (∀ (x : HspFrame) (o : OutReq) (s : State), s.hs.frame = some x → s.hs.out = some o → x.phase = .waiting → o.naks = [0] → o.parts = [] →
    exec (.nakHRepeat false) s = .next { s with
      hs := ({ s.hs with out := some { o with naks := [0, 0] } } : Head).inc s.fs.u HSP_LNK.NAK_H_TX
      h2f := s.h2f ++ [.nakH o.cstr o.lseq 0 5 false] })
  ∧ (∀ (c : Nat) (l : Half) (retx : Bool) (b : List Byte) (rx : Rx) (x : HspFrame) (o : OutReq) (s : State),
    (let m : F2H := .seg false c l 0 false retx b
     s.f2h = [m] → m.heard rx = .good m → s.hs.powered = true → s.hs.frame = some x → s.hs.out = some o → x.phase = .waiting →
      o.cstr = c → o.lseq = l → o.parts = [] → o.passed = 0 → b ≠ [] → b.getD 0 0 = 0 →
     ∃ h : Head, exec (.rspHsp rx) s = .next (State.pump { s with f2h := [], hs := h })
      ∧ h.drive = s.hs.drive ++ single [0x00, 0xA5] ++ bodyLanes (frQuad x.fr) 0 b
      ∧ h.frame = some { x with phase := .over } ∧ h.out = none
      ∧ h.entry (frCh x.fr) x.fr.seq = some ⟨x.fr.seq, frameChk x.op x.fr, true, 0, BitVec.ofNat 32 (leNat ((b.drop 2).take 4)),
          ((b.drop 6).take (b.length - 10)).length, ((b.drop 6).take (b.length - 10)).take 64⟩
      ∧ h.g s.fs.u HSP_STAT.LAST_STATUS = 0 ∧ h.g s.fs.u HSP_STAT.LAST_SEQ = x.fr.seq.toNat))
  ∧ (∀ (c : Nat) (l : Half) (k : Nat) (more retx : Bool) (b : List Byte) (rx : Rx) (reason : Nat) (g : Msg) (x : HspFrame) (o : OutReq)
      (s : State),
    (let m : F2H := .seg false c l k more retx b
     s.f2h = [m] → m.heard rx = .bad reason (some g) → g.ty = 0x81 → g.cstr = c → g.lseq = l → s.hs.powered = true → s.hs.frame = some x →
      s.hs.out = some o → x.phase = .waiting → o.cstr = c → o.lseq = l → o.parts = [] → o.naks = [] →
     exec (.rspHsp rx) s = .next (State.pump { s with
       f2h := []
       hs := ({ s.hs with out := some { o with naks := [g.seg] } } : Head).inc s.fs.u HSP_LNK.NAK_H_TX
       h2f := s.h2f ++ [.nakH c l g.seg reason false] })))
  ∧ (∀ (mb : Bool) (c : Nat) (l : Half) (k : Nat) (retx : Bool) (b : List Byte) (rx : Rx) (s : State),
    (let m : F2H := .seg mb c l k false retx b
     s.f2h = [m] → m.heard rx = .good m → s.hs.powered = true → s.hs.frame = none → s.hs.mb.phase = .idle → s.hs.mb.push ≠ .fetching →
     exec (if mb then .rspMb rx else .rspHsp rx) s = .next (State.pump { s with f2h := [], rxBuf := s.rxBuf ++ [⟨mb, c, l, .body b⟩] })))
  ∧ (∀ (c : Nat) (l : Half) (b : List Byte) (k : Nat) (s : State), s.hs.powered = true → s.hs.frame = none → k < 12 →
      s.rxBuf = [⟨false, c, l, .body b⟩] →
    exec (.frameAbort k) s = .next { s with rxBuf := [], hs := (s.hs.inc s.fs.u HSP_LNK.RSP_DISCARD).inc s.fs.u HSP_CNT_A.ABORTED })
  ∧ (∀ (c : Nat) (l : Half) (k : Nat) (retx : Bool) (b : List Byte) (rx : Rx) (x : HspFrame) (o : OutReq) (s : State),
    (let m : F2H := .seg false c l k false retx b
     s.f2h = [m] → m.heard rx = .good m → s.hs.powered = true → s.hs.frame = some x → s.hs.out = some o → (o.cstr ≠ c ∨ o.lseq ≠ l) →
     exec (.rspHsp rx) s = .next (State.pump { s with f2h := [], hs := s.hs.inc s.fs.u HSP_LNK.RSP_DISCARD })))
  ∧ (∀ (c : Nat) (l : Half) (reason : Nat) (rx : Rx) (x : HspFrame) (o : OutReq) (s : State),
    (let m : F2H := .nakF true c l reason
     s.f2h = [m] → m.heard rx = .good m → s.hs.powered = true → s.hs.frame = some x → s.hs.out = some o → x.phase = .waiting →
      o.cstr = c → o.lseq = l → o.passed = 0 → s.hs.mb.out = none →
     ∃ h : Head, exec (.nakF rx) s = .next (State.pump { s with f2h := [], hs := h })
      ∧ h.drive = s.hs.drive ++ single [0x00, 0x5A, 0x04, x.fr.seq, 0xFB] ∧ h.frame = some { x with phase := .over } ∧ h.out = none
      ∧ h.dup = s.hs.dup ∧ h.g s.fs.u HSP_CNT_B.PCRC_ERR = satInc HSP_CNT_B.PCRC_ERR.width (s.hs.g s.fs.u HSP_CNT_B.PCRC_ERR)))
  ∧ (∀ (l : Half) (retx : Bool) (cmd : MbCmd) (x : MbTxn) (o : OutReq) (d : List Byte) (rx : Rx) (s : State),
    (let m : F2H := .seg true 8 l 0 false retx (mbResponse okSt d)
     s.f2h = [m] → m.heard rx = .good m → s.hs.powered = true → d.length < 256 → s.hs.mb.out = some o → o.cstr = 8 →
      o.lseq = l → s.hs.mb.txn = some x → s.hs.mb.phase = .response → x.kind = .read → x.cmd = mbCode cmd →
     ∃ h : Head, exec (.rspMb rx) s = .next (State.pump { s with f2h := [], hs := h }) ∧ h.mb.phase = .idle ∧ h.mb.out = none
      ∧ h.mb.txn = none ∧ h.mb.cellT = none ∧ h.mb.acked = true
      ∧ h.mb.drive = s.hs.readBytes (mbCode cmd) (mbReads cmd = some true) d
      ∧ h.g s.fs.u MBUS_STAT.LAST_RESULT = 0 ∧ h.g s.fs.u MBUS_STAT.LAST_CMD = (mbCode cmd).toNat))

/-- The end of the host's presence (02 R62, R84, 08 R306, 23 R801): four unanswered interrogations are HS_PRESENT falling, with its latch:
the last LSEQ of every stream is forgotten and an open session closes. The level channels (02 R76 to R81): a refresh that arrives unharmed
shows the level and LINK_RDY; one with an odd number of bits inverted is no refresh; without one the channel reads asserted and the field
side absent. Rests on the model's readings in log entries 20, 28. -/
def Obligations.PresenceAndLevels : Prop :=
  (∀ s : State, s.fs.link.hsPresent = true → 4 ≤ s.fs.link.deafRun → s.fs.pd 3 = true →
    ∃ t : Tail, Settles .hsPresentFall s t ∧ t.link.hsPresent = false ∧ t.link.lastLseq = Vector.replicate 16 none ∧ t.sess = 0
      ∧ t.evtBit 0x03 2 = true ∧ t.now = s.fs.now)
  ∧ (∀ s : State, s.hs.powered = true → s.fs.pd 1 = true → s.hs.mb.phase = .idle →
    exec (.levelRefresh .alert 0) s = .next { s with hs := { s.hs with alert := ⟨true, s.fs.alertLevel, s.fs.link.ready⟩ } }
    ∧ exec (.levelRefresh .fault 0) s = .next { s with hs := { s.hs with fault := ⟨true, s.fs.faultLevel, s.fs.link.ready⟩ } })
  ∧ (∀ (ch : LevelCh) (e : BitVec 3) (s : State), s.hs.powered = true → s.fs.pd 1 = true → s.hs.mb.phase = .idle →
      (e = 1 ∨ e = 2 ∨ e = 4 ∨ e = 7) → exec (.levelRefresh ch e) s = .next s)
  ∧ (∀ s : State, exec (.levelTimeout .alert) s = .next { s with hs := { s.hs with alert := ⟨false, true, false⟩ } }
    ∧ exec (.levelTimeout .fault) s = .next { s with hs := { s.hs with fault := ⟨false, true, false⟩ } })

/-- Training (02 R72 to R75, R87, R88): a training run that passes sets LINK_RDY and start-up goes on; one that fails twice is latched, in a
wake from Deep sleep too; a second later a further run is counted; a committed RETRAIN takes effect once every response has been sent;
CNT_CLR zeroes the link's counters. A run ends at its typical time (the model's choice, log entry 99). Rests on the model's readings in
log entries 25, 26. -/
def Obligations.LinkTraining : Prop :=
  (∀ s : State, s.fs.trains = true →
    Settles .linkTrained s { s.fs.elapseTo (s.fs.link.trainAt + bootT4) with
      link := { s.fs.link with ready := true, trainFail := false }, boot := { s.fs.boot with t4 := true } })
  ∧ (∀ s : State, (s.fs.trains = true ∨ s.fs.aon.wakePend = true ∧ s.fs.pd 2 = true ∧ s.fs.us = .sleep) →
    Settles .trainFail s (Tail.evt { s.fs with link := { s.fs.link with trainFail := true } } 0x03 3))
  ∧ (∀ s : State, s.fs.trains = true → s.fs.link.trainFail = true →
    Settles .trainingRetry s (Tail.inc { s.fs.elapse 400000000 with link := { s.fs.link with trainAt := s.fs.now + 400000000 } }
      BLNK_STAT.TRAIN_CNT))
  ∧ (∀ s : State, s.fs.on 3 = true →
    Settles .retrain s (s.fs.commit (fun t => { t with link := { t.link with retrain := true } })))
  ∧ (∀ s : State, s.f2h = [] → s.fs.link.retrain = true → s.fs.link.rsps = [] → s.fs.link.prio = [] →
    ∃ t : Tail, Settles .retrainEffect s t ∧ t.link.ready = false ∧ t.link.retrain = false ∧ t.link.trainAt = s.fs.now
      ∧ t.g BLNK_STAT.TRAIN_CNT = satInc BLNK_STAT.TRAIN_CNT.width (s.fs.g BLNK_STAT.TRAIN_CNT) ∧ t.link.openMsg ≠ .open)
  ∧ (∀ s : State, s.fs.on 3 = true →
    ∃ t : Tail, Settles .blnkCntClr s t ∧ t.ssn = s.fs.ssn + 1
      ∧ (∀ f ∈ [BLNK_ERR.RX_OTHER, BLNK_ERR.RX_CRC, BLNK_RETX.NAK_TX, BLNK_RETX.NAK_RX, BLNK_SEQ.SEQ_GAP], t.g f = 0)
      ∧ (∀ a, a ≠ BLNK_ERR.RX_OTHER.addr → a ≠ BLNK_RETX.NAK_TX.addr → a ≠ BLNK_SEQ.SEQ_GAP.addr → t.word a = s.fs.word a))

/-! ## The Management Bus (09) -/

/-- Reads over the bus (09 R327, R328, R337, R342, R349): a field read is one commit of the field side and drives its data with its PEC;
EVENT_FETCH delivers the first event record after the acknowledged index, or zeros; IDENTITY and the window are the Headstock's own, and
UNIT_STATE without a field side, OFF. Rests on the model's readings in log entries 34, 43, 124. -/
def Obligations.BusReads : Prop :=
  (∀ s : State, s.ServesBus → s.fs.fw.recovery = false →
    (let t (c : MbCmd) : Tail := s.begunBus c []
     exec .statusWord s = .next (s.busRead .statusWord [] (t .statusWord).statusWord (t .statusWord))
     ∧ exec .alarmSummary s = .next (s.busRead .alarmSummary [] (t .alarmSummary).digestEvents (t .alarmSummary))
     ∧ exec .unitState s = .next (s.busRead .unitState [] [BitVec.ofNat 8 (t .unitState).us.code] (t .unitState))
     ∧ exec .maxTemp s = .next (s.busRead .maxTemp [] (t .maxTemp).maxTemp (t .maxTemp))
     ∧ exec .groupTemps s = .next (s.busRead .groupTemps [] (t .groupTemps).groupTemps (t .groupTemps))
     ∧ exec .stationStatus s = .next (s.busRead .stationStatus [] (t .stationStatus).stationStatus (t .stationStatus))))
  ∧ (∀ (w : MbWin) (s : State), s.ServesBus → s.fs.fw.recovery = false → s.hs.window s.fs.u = w → localRegs w.page w.ofs w.rlen = false →
      pageAbsent s.fs.u w.page = false → reservedPage w.page = false → s.fs.absentPage w.page = false → regRange w.ofs w.rlen = true →
    (let d : List Byte := [BitVec.ofNat 8 w.page, BitVec.ofNat 8 w.ofs, BitVec.ofNat 8 w.rlen]
     let t := (s.begunBus .regData d).regReads (regAddrs w.page w.ofs w.rlen)
     exec .regDataRead s = .next (s.busRead .regData d (readBytes (t.view (s.fs.ssn + 1)) (w.page * 256 + w.ofs) (w.rlen / 4)) t)))
  ∧ (∀ s : State, s.ServesBus → s.fs.fw.recovery = false → s.fs.aon.retained = false →
    (let ack : Word := s.hs.word s.fs.u MBUS_EVACK.INDEX.addr
     let d : List Byte := leBytes 4 ack.toNat ++ [0x00]
     let t := (s.begunBus .eventFetch d).sysReads (descX 160) 2
     (∀ t2, t.eventsAfter ack false t.evtSpan.2 0 none (t.sst 160).recs = (none, t2) →
       exec .eventFetchRead s = .next (s.busRead .eventFetch d (List.replicate 32 0) t2))
     ∧ (∀ tag x t2, t.eventsAfter ack false t.evtSpan.2 0 none (t.sst 160).recs = (some (tag, x), t2) →
       exec .eventFetchRead s = .next (s.busRead .eventFetch d (leBytes 8 tag ++ padTo 24 x) t2))))
  ∧ (∀ s : State, s.hs.powered = true → s.hs.mb.phase = .idle →
    (let r := s.matched
     exec .identity s = .next { r with hs := r.hs.mbRead s.fs.u .identity okSt (readBytes r.localView 0x20 4) }
     ∧ (let w := s.hs.window s.fs.u
        exec .pageSelRead s = .next { r with hs := r.hs.mbRead s.fs.u .pageSel okSt
                                              [BitVec.ofNat 8 w.page, BitVec.ofNat 8 w.ofs, BitVec.ofNat 8 w.rlen] })
     ∧ (s.hs.present = false → exec .unitState s = .next { r with hs := r.hs.mbRead s.fs.u .unitState okSt [0x00] })))

/-- Writes over the bus (09 R325, R329, R331, R334, R335, R338 to R340, R344 to R347): a heartbeat is host activity, and without its PEC
byte its response waits for the next transaction; FAULT_CLEAR with a new token clears and keeps the token, with a known one is DUP, and
with the token 0 BAD_OP; SLEEP_REQ asks for Standby or Deep sleep, is BUSY where that is refused, and BAD_OP with another value; a
register write goes to the page of the window without the WO fields; PAGE_SEL sets a window that is in range; EVENT_FETCH sets the
acknowledged index; a wrong PEC is counted and refused, one that PEC_REQ asks for and that is missing is told as 0x0E, and nothing is
done. Rests on the model's readings in log entries 34, 40, 41, 43. -/
def Obligations.BusWrites : Prop :=
  (∀ s : State, s.ServesBus → s.fs.fw.recovery = false →
    (let x := s.hs.writeWithPec .heartbeat []
     exec (.heartbeat x.pec) s = .next (s.busDone x .heartbeat [] okSt [] (s.begunBus .heartbeat []))))
  ∧ (∀ s : State, s.ServesBus → s.fs.fw.recovery = false → s.hs.g s.fs.u MBUS_CFG.PEC_REQ = 0 →
    exec (.heartbeat none) s = .next { s.takeLateMb with
      rxBuf := s.takeLateMb.rxBuf ++ [⟨true, 8, s.hs.lseq[8] + 1, .body (mbResponse okSt [])⟩]
      hs := s.requestedBus (writeTxn .heartbeat [] none)
      fs := s.answeredBus .heartbeat [] okSt [] (s.begunBus .heartbeat []) })
  ∧ (∀ (tok : Byte) (s : State), s.ServesBus → s.fs.fw.recovery = false → tok ≠ 0 →
    (let x := s.hs.writeWithPec .faultClear [tok]
     let t := s.begunBus .faultClear [tok]
     (t.mbToks.contains tok = false → exec (.mbFaultClear tok x.pec) s = .next (s.busDone x .faultClear [tok] okSt []
       { t.faultClearAll 0xFFFFFFFF with mbToks := tok :: t.mbToks.take 3 }))
     ∧ (t.mbToks.contains tok = true → exec (.mbFaultClear tok x.pec) s = .next (s.busDone x .faultClear [tok] dupSt [] t))))
  ∧ (∀ (v : Byte) (r : PwrReq) (s : State), s.ServesBus → s.fs.fw.recovery = false → (v = 1 ∧ r = .standby ∨ v = 2 ∧ r = .deep) →
    (let x := s.hs.writeWithPec .sleepReq [v]
     let t := s.begunBus .sleepReq [v]
     exec (.sleepReq v x.pec) s = .next (s.busDone x .sleepReq [v]
       (if (t.aon.accepted.isSome || t.aon.switching.isSome || t.aon.wakePend || t.reqOk r) = true then okSt else busySt) [] (t.pwrReq r))))
  ∧ (∀ (v : Byte) (s : State), s.ServesBus → v ≠ 1 → v ≠ 2 →
    (let x := s.hs.writeWithPec .sleepReq [v]
     exec (.sleepReq v x.pec) s = .next (s.busDone x .sleepReq [v] badOp [] (s.begunBus .sleepReq [v]))))
  ∧ (∀ s : State, s.ServesBus →
    (let x := s.hs.writeWithPec .faultClear [0]
     exec (.mbFaultClear 0 x.pec) s = .next (s.busDone x .faultClear [0] badOp [] (s.begunBus .faultClear [0]))))
  ∧ (∀ (d : List Byte) (w : MbWin) (s : State), s.ServesBus → s.fs.fw.recovery = false → s.hs.window s.fs.u = w →
      localRegs w.page w.ofs d.length = false → pageAbsent s.fs.u w.page = false → reservedPage w.page = false →
      s.fs.absentPage w.page = false → regRange w.ofs d.length = true → mbWrites .regData d.length = true →
    (let x := s.hs.writeWithPec .regData d
     let e := [BitVec.ofNat 8 w.page, BitVec.ofNat 8 w.ofs, BitVec.ofNat 8 w.rlen] ++ d
     let t := s.begunBus .regData e
     refusal (t.writeCheck (payloadWr w.page true w.ofs d)) = none →
     exec (.regDataWrite d x.pec) s = .next (s.busDone x .regData e okSt [] (t.writeApply (payloadWr w.page true w.ofs d) noFrame))))
  ∧ (∀ (p o k : Byte) (s : State), s.hs.powered = true → s.hs.mb.phase = .idle → windowOk o.toNat k.toNat = true →
    (let x := s.hs.writeWithPec .pageSel [p, o, k]
     let h := s.matched.hs
     let h := ((h.p s.fs.u MBUS_WIN.PAGE p.toNat).p s.fs.u MBUS_WIN.OFFSET o.toNat).p s.fs.u MBUS_WIN.RLEN k.toNat
     exec (.pageSelWrite [p, o, k] x.pec) s = .next { s.matched with hs := h.mbWritten s.fs.u x okSt }))
  ∧ (∀ (d : List Byte) (s : State), s.hs.powered = true → s.hs.mb.phase = .idle → d.length = 4 →
    (let x := s.hs.writeWithPec .eventFetch d
     let h := s.matched.hs.setWord s.fs.u MBUS_EVACK.INDEX.addr (BitVec.ofNat 32 (leNat d))
     exec (.eventFetchWrite d x.pec) s = .next { s.matched with hs := h.mbWritten s.fs.u x okSt }))
  ∧ (∀ s : State, s.hs.powered = true → s.hs.mb.phase = .idle → s.hs.g s.fs.u MBUS_CFG.PEC_REQ = 0 →
    exec (.wakePing true) s = .next { s.matched with hs := s.matched.hs.mbAck s.fs.u (mbCode .wakePing) okSt [] }
    ∧ exec (.wakePing false) s = .next { s.matched with hs := s.matched.hs.mbAck s.fs.u (mbCode .wakePing) okSt [] })
  ∧ (∀ (pec : Byte) (s : State), s.ServesBus → some pec ≠ (s.hs.writeWithPec .heartbeat []).pec →
    exec (.heartbeat (some pec)) s = .next { s.matched with
      hs := (s.matched.hs.inc s.fs.u MBUS_CNT_B.PEC_ERR).mbNack s.fs.u (mbCode .heartbeat) pcrcErr })
  ∧ (∀ s : State, s.hs.powered = true → s.hs.mb.phase = .idle → s.hs.ready = true → s.hs.g s.fs.u MBUS_CFG.PEC_REQ = 1 →
    exec (.heartbeat none) s = .next { s.matched with hs := s.matched.hs.mbAck s.fs.u (mbCode .heartbeat) pecMissing [] })

/-- A transaction at its command byte (09 R328, R348, R349, R336): a field read with the field side ready goes out on CSTR 8 and holds
SCL; one with the field side present and not ready stretches with WAKE; one with it absent, or an unknown command, is refused with NACK.
Timeouts of the bus (09 R333, R348, R351 to R353): the stretch limit refuses with NACK, counted; a response that does not come ends the
transaction as a field timeout; SCL held low resets the transaction; SDA held low does too, and as controller the block sends at most nine
clock pulses and ends its push. Rests on the model's readings in log entries 42, 45. -/
def Obligations.BusTransactions : Prop :=
  (∀ (c : MbCmd) (s : State), s.hs.powered = true → s.hs.mb.phase = .idle → c = .statusWord ∨ c = .maxTemp ∨ c = .groupTemps →
    (s.hs.ready = true → ∃ h : Head, exec (.mbCommandByte (readTxn c)) s = .next { s.takeLateMb with
        hs := h, h2f := s.h2f ++ [.reqMb 8 (s.hs.lseq[8] + 1) (mbCode c) [] .execute] }
      ∧ h.mb.phase = .response ∧ h.mb.txn = some (readTxn c) ∧ h.mb.out = some ⟨8, s.hs.lseq[8] + 1, .execute, [], 0, []⟩
      ∧ h.mb.cellT = some (s.fs.now + 800000) ∧ h.lseq[8] = s.hs.lseq[8] + 1 ∧ h.frame = s.hs.frame ∧ h.dup = s.hs.dup)
    ∧ (s.hs.ready = false → s.hs.present = true → s.hs.fault.level = false → ∃ h : Head,
        exec (.mbCommandByte (readTxn c)) s = .next { s.takeLateMb with hs := h } ∧ h.mb.phase = .stretch ∧ h.wake = true
          ∧ h.mb.txn = some (readTxn c) ∧ h.mb.cellT = some (s.fs.now + 8000000))
    ∧ (s.hs.present = false → exec (.mbCommandByte (readTxn c)) s = .next { s.matched with
        hs := s.matched.hs.mbNack s.fs.u (mbCode c) linkDown }))
  ∧ (∀ (x : MbTxn) (s : State), s.hs.powered = true → s.hs.mb.phase = .idle → mbOf x.cmd = none → x.kind ≠ .quick →
    exec (.mbCommandByte x) s = .next { s.matched with hs := s.matched.hs.mbNack s.fs.u x.cmd badOp })
  ∧ (∀ (x : MbTxn) (s : State), s.hs.mb.phase = .stretch → s.hs.mb.txn = some x →
    exec .mbStretchLimit s = .next { s.toCell s.hs.mb.cellT with hs := (s.hs.inc s.fs.u MBUS_CNT_B.TIMEOUTS).mbNack s.fs.u x.cmd wakeTimeout })
  ∧ (∀ (c : MbCmd) (x : MbTxn) (s : State), s.hs.mb.phase = .response → s.hs.mb.txn = some x → x.kind = .read → x.cmd = mbCode c →
    ∃ h : Head, exec .mbResponseWait s = .next { s.toCell s.hs.mb.cellT with hs := h } ∧ h.mb.phase = .idle ∧ h.mb.out = none
      ∧ h.mb.drive = s.hs.failedRead c ∧ h.g s.fs.u MBUS_STAT.LAST_RESULT = 8
      ∧ h.g s.fs.u MBUS_CNT_B.TIMEOUTS = satInc MBUS_CNT_B.TIMEOUTS.width (s.hs.g s.fs.u MBUS_CNT_B.TIMEOUTS))
  ∧ (∀ s : State, s.hs.powered = true →
    ∃ h : Head, exec .sclTimeout s = .next { s with hs := h } ∧ h.mb.phase = .idle ∧ h.mb.txn = none ∧ h.mb.out = none ∧ h.mb.drive = []
      ∧ h.g s.fs.u MBUS_STAT.SCL_TO = 1 ∧ h.g s.fs.u MBUS_STAT.LAST_RESULT = 0x10
      ∧ h.g s.fs.u MBUS_CNT_B.TIMEOUTS = satInc MBUS_CNT_B.TIMEOUTS.width (s.hs.g s.fs.u MBUS_CNT_B.TIMEOUTS) ∧ h.frame = s.hs.frame)
  ∧ (∀ s : State, s.hs.powered = true →
    ∃ h : Head, exec .sdaTimeout s = .next { s with hs := h } ∧ h.mb.phase = .idle ∧ h.mb.txn = none ∧ h.mb.out = none ∧ h.mb.drive = []
      ∧ h.g s.fs.u MBUS_STAT.SDA_TO = 1
      ∧ h.g s.fs.u MBUS_CNT_B.TIMEOUTS = satInc MBUS_CNT_B.TIMEOUTS.width (s.hs.g s.fs.u MBUS_CNT_B.TIMEOUTS) ∧ h.frame = s.hs.frame
      ∧ (s.hs.mb.push = .ready → h.mb.push = .idle ∧ ∃ k : Nat, k ≤ 9 ∧ h.mb.freed = some k))

/-- Controller mode (09 R355 to R361): with pushing enabled, a target set, no stall and ALERT asserted, the block fetches the next record
on CSTR 9; a record that comes is made ready, and its tries start anew where it is another one; a record pushed with its address, count
and PEC and acknowledged advances the index and is counted; the eighth refusal in a row stalls; an earlier refusal and a lost arbitration
back off for (k mod 8) + 1 ms; the backoff and the poll interval lead back to the check of the conditions. Rests on the model's readings
in log entries 42, 45. -/
def Obligations.BusPushes : Prop :=
  (∀ s : State, s.hs.powered = true → s.hs.g s.fs.u MBUS_CTLR.EN = 1 → s.hs.g s.fs.u MBUS_CTLR.TARGET ≠ 0 →
      s.hs.g s.fs.u MBUS_PSTAT.PUSH_STALLED = 0 → s.hs.ready = true → s.hs.alert.level = true → s.hs.mb.push = .idle →
      s.hs.mb.phase = .idle →
    (let h := s.takeLateMb.hs
     exec .pushStart s = .next { s.takeLateMb with
      h2f := s.h2f ++ [.reqMb 9 (s.hs.lseq[9] + 1) (mbCode .eventFetch) (leBytes 4 (h.word s.fs.u MBUS_PUSH.INDEX.addr).toNat ++ [0x01]) .execute]
      hs := { h with
        lseq := s.hs.lseq.set 9 (s.hs.lseq[9] + 1)
        mb := { h.mb with
          push := .fetching, txn := none, out := some ⟨9, s.hs.lseq[9] + 1, .execute, [], 0, []⟩, pushT := some (s.fs.now + 800000) } } }))
  ∧ (∀ (l : Half) (retx : Bool) (o : OutReq) (d : List Byte) (rx : Rx) (s : State),
    (let m : F2H := .seg true 9 l 0 false retx (mbResponse okSt d)
     s.f2h = [m] → m.heard rx = .good m → s.hs.powered = true → d.length < 256 → d.any (· != 0) = true → s.hs.mb.out = some o →
      o.cstr = 9 → o.lseq = l → s.hs.mb.push = .fetching →
     ∃ h : Head, exec (.rspMb rx) s = .next (State.pump { s with f2h := [], hs := h }) ∧ h.mb.push = .ready ∧ h.mb.pushRec = d
      ∧ h.g s.fs.u MBUS_PSTAT.TRIES = if evIndex (d.drop 8) = evIndex (s.hs.mb.pushRec.drop 8) then s.hs.g s.fs.u MBUS_PSTAT.TRIES else 0))
  ∧ (∀ s : State, s.hs.mb.push = .ready → s.hs.mb.phase = .idle →
    (let u := s.fs.u
     let all := s.hs.pushBytes u
     let t (n : Nat) : Tail := s.fs.elapse (9 * n * s.hs.pushClock u)
     let tries := s.hs.g u MBUS_PSTAT.TRIES
     (∃ h : Head, exec (.pushTransaction .acked) s = .next { s with hs := h, fs := t all.length }
       ∧ h.mb = { s.hs.mb with push := .idle, pushT := none, drive := all, acked := true }
       ∧ h.word u MBUS_PUSH.INDEX.addr = evIndex (s.hs.mb.pushRec.drop 8) ∧ h.g u MBUS_PSTAT.TRIES = 0
       ∧ h.g u MBUS_PSTAT.PUSHED = satInc MBUS_PSTAT.PUSHED.width (s.hs.g u MBUS_PSTAT.PUSHED))
     ∧ (∀ k, 7 ≤ tries → ∃ h : Head, exec (.pushTransaction (.nacked k)) s = .next { s with hs := h, fs := t (all.take (k + 1)).length }
         ∧ h.mb = { s.hs.mb with push := .idle, pushT := none, drive := all.take (k + 1), acked := false }
         ∧ h.g u MBUS_PSTAT.PUSH_STALLED = 1)
     ∧ (∀ k, tries < 7 → ∃ h : Head, exec (.pushTransaction (.nacked k)) s = .next { s with hs := h, fs := t (all.take (k + 1)).length }
         ∧ h.mb = { s.hs.mb with
             push := .backoff, out := none, drive := all.take (k + 1), acked := false
             pushT := some ((t (all.take (k + 1)).length).now
               + ((u.serno.toNat % 8 + (tries + 1) + s.hs.g u MBUS_PSTAT.ARB_LOST) % 8 + 1) * 400000) }
         ∧ h.g u MBUS_PSTAT.TRIES = tries + 1 ∧ h.g u MBUS_PSTAT.PUSH_STALLED = s.hs.g u MBUS_PSTAT.PUSH_STALLED)
     ∧ (∀ b k, ∃ h : Head, exec (.pushTransaction (.arbLost b k)) s = .next { s with hs := h, fs := t (all.take (k + 1)).length }
         ∧ h.mb.push = .backoff ∧ h.mb.drive = all.take (k + 1) ∧ h.g u MBUS_PSTAT.TRIES = tries
         ∧ h.g u MBUS_PSTAT.ARB_LOST = satInc MBUS_PSTAT.ARB_LOST.width (s.hs.g u MBUS_PSTAT.ARB_LOST))))
  ∧ (∀ s : State, (s.hs.mb.push = .backoff →
      exec .pushBackoffEnd s = .next { s.toCell s.hs.mb.pushT with hs := { s.hs with mb := { s.hs.mb with push := .idle, pushT := none } } })
    ∧ (s.hs.mb.push = .poll →
      exec .pollExpiry s = .next { s.toCell s.hs.mb.pushT with hs := { s.hs with mb := { s.hs.mb with push := .idle, pushT := none } } }))

/-! ## Over every command -/

/-- The settling of states and the logging of events at the end of a step (10, 06 section 7) touch nothing but the unit's, the groups' and
the stations' states, the diagnostic sequence, the log with its store, and their status and event registers. Rests on the model's reading
in log entry 11. -/
def Obligations.FinishFrame : Prop :=
  ∀ t : Tail, t.Frames t.finish

/-- Every step keeps it that the gates of a station are enabled only while the unit is ARMED, RUN, STOPPING or ECLIPSE and the station is
in a running state (10 R366): in every other case the gate block of crossing 0x16 stands. -/
def Obligations.GatesOnlyWhileRunning : Prop :=
  ∀ s t : State, s.fs.GatesSafe → step s = .next t → t.fs.GatesSafe

/-- Every step keeps the Headstock sound (08 R296, R297): a channel's duplicate table holds at most eight entries with distinct SEQ, a
complete one with the first 64 bytes of its data and a pending one with none; an outstanding request belongs to the frame in progress; an
unpowered Headstock has neither frame nor request nor transaction. -/
def Obligations.HeadstockStaysSound : Prop :=
  ∀ s t : State, s.hs.Sound → step s = .next t → t.hs.Sound

/-- The state right after reset meets both invariants, its store is in canonical form, every stored word of it is good, and no command
waits. Rests on the model's readings in log entries 3, 7. -/
def Obligations.ResetIsSound : Prop :=
  State.reset.fs.GatesSafe ∧ State.reset.hs.Sound ∧ SMap.wf memDefault State.reset.fs.store.mem
    ∧ SMap.wf (regDefault State.reset.fs.u) State.reset.fs.regs ∧ State.reset.pending = []
    ∧ ∀ a, syndrome a (State.reset.fs.memGet a) = 0

/-- Between transactions, no register, status bit, buffer or duplicate-table entry of the Headstock changes, except through HRST or MBRST
(01 R22): of a command that neither belongs to a transaction on one of its ports nor resets it, at most the two level cells remember
anything (02 R76), and the receive buffer holds what it held. A refresh that ends a wake stretch belongs to the transaction it stretches
(09 R348). Rests on the model's reading in log entry 20. -/
def Obligations.HeadstockFrozen : Prop :=
  ∀ (c : Instr) (s t : State), inTransaction c = false → resetsHeadstock c = false →
      (s.hs.mb.phase = .stretch → ∀ ch e, c ≠ .levelRefresh ch e) → exec c s = .next t →
    t.hs = { s.hs with alert := t.hs.alert, fault := t.hs.fault } ∧ t.rxBuf = s.rxBuf

/-- The code of the store's words (07 R243 to R245, R247): a word reads back good at its own address; with any one of its 72 bits flipped
it is corrected to its data; with any two flipped it is neither good nor corrected; a poisoned word reads as poisoned; and an error-free
word read at an address that differs in one or two bits yields an even-weight, non-zero syndrome and is uncorrectable. -/
def Obligations.StoreCode : Prop :=
  ∀ (a d : Nat), d < 2 ^ 64 →
    (syndrome a (encWord a d) = 0 ∧ wordData (encWord a d) = d)
    ∧ (∀ i : Fin 72, (let w := encWord a d ^^^ ((1 : StoreWord) <<< i.val)
        classify (syndrome a w) (wordData w) = .corrected d))
    ∧ (∀ i j : Fin 72, i ≠ j → (let w := encWord a d ^^^ ((1 : StoreWord) <<< i.val) ^^^ ((1 : StoreWord) <<< j.val)
        classify (syndrome a w) (wordData w) ≠ .good ∧ ∀ x, classify (syndrome a w) (wordData w) ≠ .corrected x))
    ∧ classify (syndrome a (poisonWord a d)) (wordData (poisonWord a d)) = .poisoned
    ∧ (∀ i j : Fin 21, ∀ b : Nat, (b = a ^^^ 2 ^ i.val ∨ i ≠ j ∧ b = a ^^^ 2 ^ i.val ^^^ 2 ^ j.val) →
        (let y := syndrome b (encWord a d)
         popcount 8 y % 2 = 0 ∧ y ≠ 0 ∧ classify y (wordData (encWord a d)) = .uncorrectable))

/-- A request that matches an entry of the duplicate table (08 R292, R298), with a good PCRC. In SEQ and CHK: a complete entry of at most
64 data bytes is answered from the table with DUP, its original SNAP and data, after one wait byte, and the message is abandoned; the
newest entry of its channel that is longer or pending goes out with REPLAY; an older one that is longer ends with EXPIRED and its original
SNAP; an older pending one ends with RETRY and SNAP 0 and is deleted. With another CHK the frame ends with SEQ_CONFLICT after one wait
byte, and the message is abandoned. -/
def Obligations.DuplicateRequests : Prop :=
  ∀ (op : HspOp) (f : Frame) (q : Word) (o : OutReq) (bytes : List Byte) (e : DupEntry) (s : State),
    s.hs.frame = some ⟨op, f, q, .payload⟩ → s.hs.out = some o → s.fs.link.openMsg = .open →
    bytes.length = (if opPayload op then f.len.toNat + 4 else 0) → s.hs.entry (frCh f) f.seq = some e →
    (let g := { f with payload := if opPayload op then bytes.take f.len.toNat else [] }
     (if opPayload op then BitVec.ofNat 32 (leNat (bytes.drop f.len.toNat)) = payloadCrc g else q = headerCrc op g) →
     ((e.chk = frameChk op g → e.complete = true → e.n ≤ 64 →
       ∃ h : Head, exec (.hspRequestEnd bytes) s = .next (s.requestOver o op g .abandon h)
         ∧ h.drive = s.hs.drive ++ single [0x00, 0xA5] ++ bodyLanes (frQuad f) 0 (responseBody dupSt f.seq e.snap e.data)
         ∧ h.frame = some ⟨op, f, q, .over⟩ ∧ h.out = none ∧ h.dup = s.hs.dup)
      ∧ (e.chk = frameChk op g → ¬ (e.complete = true ∧ e.n ≤ 64) → s.hs.newestEntry (frCh f) e = true →
       ∃ h : Head, exec (.hspRequestEnd bytes) s = .next (s.requestOver o op g .replay h)
         ∧ h.drive = s.hs.drive ∧ h.frame = some ⟨op, g, q, .waiting⟩ ∧ h.out = some { o with disp := .replay } ∧ h.dup = s.hs.dup)
      ∧ (e.chk = frameChk op g → e.complete = true → 64 < e.n → s.hs.newestEntry (frCh f) e = false →
       ∃ h : Head, exec (.hspRequestEnd bytes) s = .next (s.requestOver o op g .abandon h)
         ∧ h.drive = s.hs.drive ++ single [0x00, 0xA5] ++ bodyLanes (frQuad f) 0 (responseBody expiredSt f.seq e.snap [])
         ∧ h.frame = some ⟨op, f, q, .over⟩ ∧ h.out = none ∧ h.dup = s.hs.dup)
      ∧ (e.chk = frameChk op g → e.complete = false → s.hs.newestEntry (frCh f) e = false →
       ∃ h : Head, exec (.hspRequestEnd bytes) s = .next (s.requestOver o op g .abandon h)
         ∧ h.drive = s.hs.drive ++ single [0x00, 0xA5] ++ bodyLanes (frQuad f) 0 (responseBody retrySt f.seq 0 [])
         ∧ h.frame = some ⟨op, f, q, .over⟩ ∧ h.out = none ∧ h.dup = (s.hs.dropEntry (frCh f) f.seq).dup)
      ∧ (e.chk ≠ frameChk op g →
       ∃ h : Head, exec (.hspRequestEnd bytes) s = .next (s.requestOver o op g .abandon h)
         ∧ h.drive = s.hs.drive ++ single ([0x00] ++ errorForm seqConflict f.seq)
         ∧ h.frame = some ⟨op, f, q, .over⟩ ∧ h.out = none ∧ h.dup = s.hs.dup)))

/-- What commands that act on one station, and commands that act on the whole unit, leave unchanged: the Headstock, the lanes, the queue
and the last response; of the field side for a station's command all but the station itself, sharing and what the end of a step settles
and logs; for a command of the unit every station's feedback, loops and registers. Rests on the model's reading in log entry 10. -/
def Obligations.CommandFrames : Prop :=
  (∀ (n : Stn) (c : Instr) (s : State),
      ((∃ src, c = .protSourceAssert n src) ∨ (∃ ch, c = .hsFault n ch) ∨ (∃ ch k, c = .departure n ch k)
        ∨ (∃ late, c = .gateCommandUpdate n late) ∨ c = .commandPoint n ∨ c = .calibrationDone n ∨ ∃ w, c = .bnkaSwap n w) →
    ∃ r : Tail, Does c s r ∧ r.u = s.fs.u ∧ r.link = s.fs.link ∧ r.clk = s.fs.clk ∧ r.aon = s.fs.aon ∧ r.boot = s.fs.boot
      ∧ r.grp = s.fs.grp ∧ r.dio = s.fs.dio ∧ r.sto = s.fs.sto ∧ r.ain = s.fs.ain ∧ r.emg = s.fs.emg ∧ r.hk = s.fs.hk
      ∧ r.sess = s.fs.sess ∧ r.sec = s.fs.sec ∧ r.otp = s.fs.otp ∧ r.fw = s.fs.fw ∧ r.toks = s.fs.toks
      ∧ (∀ m : Stn, m ≠ n → (r.stnGet m).fb = (s.fs.stnGet m).fb ∧ (r.stnGet m).loops = (s.fs.stnGet m).loops
          ∧ (r.stnGet m).thm = (s.fs.stnGet m).thm)
      ∧ (∀ a, a / 4096 ≠ 4 + n.val → a / 256 ≠ 0x35 → a / 256 ≠ 0x37 → logReg a = false → settleRegs.contains a = false →
          r.word a = s.fs.word a))
  ∧ (∀ (c : Instr) (s : State),
      (c = .eclipse ∨ c = .force ∨ c = .sessionTimeout ∨ c = .prog ∨ c = .progcs ∨ c = .begin ∨ c = .imageRecordConsumed ∨ c = .commit
        ∨ c = .verifyDone ∨ c = .cancel ∨ c = .confirm ∨ c = .hsPresentFall ∨ (∃ w, c = .diagRun w) ∨ ∃ m, c = .diagStepEnd m) →
    ∃ r : Tail, Does c s r ∧ r.u = s.fs.u ∧ r.clk = s.fs.clk ∧ r.aon = s.fs.aon ∧ r.boot = s.fs.boot ∧ r.dio = s.fs.dio ∧ r.sto = s.fs.sto
      ∧ r.ain = s.fs.ain ∧ r.hk = s.fs.hk ∧ r.toks = s.fs.toks
      ∧ (∀ m : Stn, (r.stnGet m).fb = (s.fs.stnGet m).fb ∧ (r.stnGet m).loops = (s.fs.stnGet m).loops
          ∧ (r.stnGet m).thm = (s.fs.stnGet m).thm)
      ∧ (∀ a, 0x4000 ≤ a → logReg a = false → settleRegs.contains a = false → r.word a = s.fs.word a))
end

