-- ==== Sys2Proof/Laws/State.lean ====
section
/-! SUPPORT. One lemma per field per update: what the named operations leave as it was. Each is true by computation. -/

namespace Sys2Proof.Machine

@[simp] theorem State.tail_hs (s : State) (f : Tail → Tail) : (s.tail f).hs = s.hs := rfl
@[simp] theorem State.tail_h2f (s : State) (f : Tail → Tail) : (s.tail f).h2f = s.h2f := rfl
@[simp] theorem State.tail_f2h (s : State) (f : Tail → Tail) : (s.tail f).f2h = s.f2h := rfl
@[simp] theorem State.tail_rxBuf (s : State) (f : Tail → Tail) : (s.tail f).rxBuf = s.rxBuf := rfl
@[simp] theorem State.tail_rsp (s : State) (f : Tail → Tail) : (s.tail f).rsp = s.rsp := rfl
@[simp] theorem State.tail_pending (s : State) (f : Tail → Tail) : (s.tail f).pending = s.pending := rfl
@[simp] theorem State.tail_fs (s : State) (f : Tail → Tail) : (s.tail f).fs = f s.fs := rfl

/-! ## setWord -/

@[simp] theorem Tail.setWord_u (t : Tail) (a : Nat) (w : Word) : (t.setWord a w).u = t.u := rfl
@[simp] theorem Tail.setWord_now (t : Tail) (a : Nat) (w : Word) : (t.setWord a w).now = t.now := rfl
@[simp] theorem Tail.setWord_fresh (t : Tail) (a : Nat) (w : Word) : (t.setWord a w).fresh = t.fresh := rfl
@[simp] theorem Tail.setWord_ft (t : Tail) (a : Nat) (w : Word) : (t.setWord a w).ft = t.ft := rfl
@[simp] theorem Tail.setWord_ssn (t : Tail) (a : Nat) (w : Word) : (t.setWord a w).ssn = t.ssn := rfl
@[simp] theorem Tail.setWord_xfer (t : Tail) (a : Nat) (w : Word) : (t.setWord a w).xfer = t.xfer := rfl
@[simp] theorem Tail.setWord_held (t : Tail) (a : Nat) (w : Word) : (t.setWord a w).held = t.held := rfl
@[simp] theorem Tail.setWord_xferWait (t : Tail) (a : Nat) (w : Word) : (t.setWord a w).xferWait = t.xferWait := rfl
@[simp] theorem Tail.setWord_ds (t : Tail) (a : Nat) (w : Word) : (t.setWord a w).ds = t.ds := rfl
@[simp] theorem Tail.setWord_dsOld (t : Tail) (a : Nat) (w : Word) : (t.setWord a w).dsOld = t.dsOld := rfl
@[simp] theorem Tail.setWord_late (t : Tail) (a : Nat) (w : Word) : (t.setWord a w).late = t.late := rfl
@[simp] theorem Tail.setWord_ceWords (t : Tail) (a : Nat) (w : Word) : (t.setWord a w).ceWords = t.ceWords := rfl
@[simp] theorem Tail.setWord_log (t : Tail) (a : Nat) (w : Word) : (t.setWord a w).log = t.log := rfl
@[simp] theorem Tail.setWord_store (t : Tail) (a : Nat) (w : Word) : (t.setWord a w).store = t.store := rfl
@[simp] theorem Tail.setWord_link (t : Tail) (a : Nat) (w : Word) : (t.setWord a w).link = t.link := rfl
@[simp] theorem Tail.setWord_clk (t : Tail) (a : Nat) (w : Word) : (t.setWord a w).clk = t.clk := rfl
@[simp] theorem Tail.setWord_aon (t : Tail) (a : Nat) (w : Word) : (t.setWord a w).aon = t.aon := rfl
@[simp] theorem Tail.setWord_us (t : Tail) (a : Nat) (w : Word) : (t.setWord a w).us = t.us := rfl
@[simp] theorem Tail.setWord_boot (t : Tail) (a : Nat) (w : Word) : (t.setWord a w).boot = t.boot := rfl
@[simp] theorem Tail.setWord_grp (t : Tail) (a : Nat) (w : Word) : (t.setWord a w).grp = t.grp := rfl
@[simp] theorem Tail.setWord_dio (t : Tail) (a : Nat) (w : Word) : (t.setWord a w).dio = t.dio := rfl
@[simp] theorem Tail.setWord_sto (t : Tail) (a : Nat) (w : Word) : (t.setWord a w).sto = t.sto := rfl
@[simp] theorem Tail.setWord_stn (t : Tail) (a : Nat) (w : Word) : (t.setWord a w).stn = t.stn := rfl
@[simp] theorem Tail.setWord_ain (t : Tail) (a : Nat) (w : Word) : (t.setWord a w).ain = t.ain := rfl
@[simp] theorem Tail.setWord_emg (t : Tail) (a : Nat) (w : Word) : (t.setWord a w).emg = t.emg := rfl
@[simp] theorem Tail.setWord_shr (t : Tail) (a : Nat) (w : Word) : (t.setWord a w).shr = t.shr := rfl
@[simp] theorem Tail.setWord_orb (t : Tail) (a : Nat) (w : Word) : (t.setWord a w).orb = t.orb := rfl
@[simp] theorem Tail.setWord_sess (t : Tail) (a : Nat) (w : Word) : (t.setWord a w).sess = t.sess := rfl
@[simp] theorem Tail.setWord_trc (t : Tail) (a : Nat) (w : Word) : (t.setWord a w).trc = t.trc := rfl
@[simp] theorem Tail.setWord_diag (t : Tail) (a : Nat) (w : Word) : (t.setWord a w).diag = t.diag := rfl
@[simp] theorem Tail.setWord_hk (t : Tail) (a : Nat) (w : Word) : (t.setWord a w).hk = t.hk := rfl
@[simp] theorem Tail.setWord_thd (t : Tail) (a : Nat) (w : Word) : (t.setWord a w).thd = t.thd := rfl
@[simp] theorem Tail.setWord_sec (t : Tail) (a : Nat) (w : Word) : (t.setWord a w).sec = t.sec := rfl
@[simp] theorem Tail.setWord_otp (t : Tail) (a : Nat) (w : Word) : (t.setWord a w).otp = t.otp := rfl
@[simp] theorem Tail.setWord_fw (t : Tail) (a : Nat) (w : Word) : (t.setWord a w).fw = t.fw := rfl
@[simp] theorem Tail.setWord_toks (t : Tail) (a : Nat) (w : Word) : (t.setWord a w).toks = t.toks := rfl
@[simp] theorem Tail.setWord_mbToks (t : Tail) (a : Nat) (w : Word) : (t.setWord a w).mbToks = t.mbToks := rfl
@[simp] theorem Tail.setWord_resetDue (t : Tail) (a : Nat) (w : Word) : (t.setWord a w).resetDue = t.resetDue := rfl

/-! ## p -/

@[simp] theorem Tail.p_u (t : Tail) (f : Fd) (x : Nat) : (t.p f x).u = t.u := rfl
@[simp] theorem Tail.p_now (t : Tail) (f : Fd) (x : Nat) : (t.p f x).now = t.now := rfl
@[simp] theorem Tail.p_fresh (t : Tail) (f : Fd) (x : Nat) : (t.p f x).fresh = t.fresh := rfl
@[simp] theorem Tail.p_ft (t : Tail) (f : Fd) (x : Nat) : (t.p f x).ft = t.ft := rfl
@[simp] theorem Tail.p_ssn (t : Tail) (f : Fd) (x : Nat) : (t.p f x).ssn = t.ssn := rfl
@[simp] theorem Tail.p_xfer (t : Tail) (f : Fd) (x : Nat) : (t.p f x).xfer = t.xfer := rfl
@[simp] theorem Tail.p_held (t : Tail) (f : Fd) (x : Nat) : (t.p f x).held = t.held := rfl
@[simp] theorem Tail.p_xferWait (t : Tail) (f : Fd) (x : Nat) : (t.p f x).xferWait = t.xferWait := rfl
@[simp] theorem Tail.p_ds (t : Tail) (f : Fd) (x : Nat) : (t.p f x).ds = t.ds := rfl
@[simp] theorem Tail.p_dsOld (t : Tail) (f : Fd) (x : Nat) : (t.p f x).dsOld = t.dsOld := rfl
@[simp] theorem Tail.p_late (t : Tail) (f : Fd) (x : Nat) : (t.p f x).late = t.late := rfl
@[simp] theorem Tail.p_ceWords (t : Tail) (f : Fd) (x : Nat) : (t.p f x).ceWords = t.ceWords := rfl
@[simp] theorem Tail.p_log (t : Tail) (f : Fd) (x : Nat) : (t.p f x).log = t.log := rfl
@[simp] theorem Tail.p_store (t : Tail) (f : Fd) (x : Nat) : (t.p f x).store = t.store := rfl
@[simp] theorem Tail.p_link (t : Tail) (f : Fd) (x : Nat) : (t.p f x).link = t.link := rfl
@[simp] theorem Tail.p_clk (t : Tail) (f : Fd) (x : Nat) : (t.p f x).clk = t.clk := rfl
@[simp] theorem Tail.p_aon (t : Tail) (f : Fd) (x : Nat) : (t.p f x).aon = t.aon := rfl
@[simp] theorem Tail.p_us (t : Tail) (f : Fd) (x : Nat) : (t.p f x).us = t.us := rfl
@[simp] theorem Tail.p_boot (t : Tail) (f : Fd) (x : Nat) : (t.p f x).boot = t.boot := rfl
@[simp] theorem Tail.p_grp (t : Tail) (f : Fd) (x : Nat) : (t.p f x).grp = t.grp := rfl
@[simp] theorem Tail.p_dio (t : Tail) (f : Fd) (x : Nat) : (t.p f x).dio = t.dio := rfl
@[simp] theorem Tail.p_sto (t : Tail) (f : Fd) (x : Nat) : (t.p f x).sto = t.sto := rfl
@[simp] theorem Tail.p_stn (t : Tail) (f : Fd) (x : Nat) : (t.p f x).stn = t.stn := rfl
@[simp] theorem Tail.p_ain (t : Tail) (f : Fd) (x : Nat) : (t.p f x).ain = t.ain := rfl
@[simp] theorem Tail.p_emg (t : Tail) (f : Fd) (x : Nat) : (t.p f x).emg = t.emg := rfl
@[simp] theorem Tail.p_shr (t : Tail) (f : Fd) (x : Nat) : (t.p f x).shr = t.shr := rfl
@[simp] theorem Tail.p_orb (t : Tail) (f : Fd) (x : Nat) : (t.p f x).orb = t.orb := rfl
@[simp] theorem Tail.p_sess (t : Tail) (f : Fd) (x : Nat) : (t.p f x).sess = t.sess := rfl
@[simp] theorem Tail.p_trc (t : Tail) (f : Fd) (x : Nat) : (t.p f x).trc = t.trc := rfl
@[simp] theorem Tail.p_diag (t : Tail) (f : Fd) (x : Nat) : (t.p f x).diag = t.diag := rfl
@[simp] theorem Tail.p_hk (t : Tail) (f : Fd) (x : Nat) : (t.p f x).hk = t.hk := rfl
@[simp] theorem Tail.p_thd (t : Tail) (f : Fd) (x : Nat) : (t.p f x).thd = t.thd := rfl
@[simp] theorem Tail.p_sec (t : Tail) (f : Fd) (x : Nat) : (t.p f x).sec = t.sec := rfl
@[simp] theorem Tail.p_otp (t : Tail) (f : Fd) (x : Nat) : (t.p f x).otp = t.otp := rfl
@[simp] theorem Tail.p_fw (t : Tail) (f : Fd) (x : Nat) : (t.p f x).fw = t.fw := rfl
@[simp] theorem Tail.p_toks (t : Tail) (f : Fd) (x : Nat) : (t.p f x).toks = t.toks := rfl
@[simp] theorem Tail.p_mbToks (t : Tail) (f : Fd) (x : Nat) : (t.p f x).mbToks = t.mbToks := rfl
@[simp] theorem Tail.p_resetDue (t : Tail) (f : Fd) (x : Nat) : (t.p f x).resetDue = t.resetDue := rfl

/-! ## stnMap -/

@[simp] theorem Tail.stnMap_u (t : Tail) (n : Stn) (g : Station → Station) : (t.stnMap n g).u = t.u := rfl
@[simp] theorem Tail.stnMap_now (t : Tail) (n : Stn) (g : Station → Station) : (t.stnMap n g).now = t.now := rfl
@[simp] theorem Tail.stnMap_fresh (t : Tail) (n : Stn) (g : Station → Station) : (t.stnMap n g).fresh = t.fresh := rfl
@[simp] theorem Tail.stnMap_ft (t : Tail) (n : Stn) (g : Station → Station) : (t.stnMap n g).ft = t.ft := rfl
@[simp] theorem Tail.stnMap_ssn (t : Tail) (n : Stn) (g : Station → Station) : (t.stnMap n g).ssn = t.ssn := rfl
@[simp] theorem Tail.stnMap_regs (t : Tail) (n : Stn) (g : Station → Station) : (t.stnMap n g).regs = t.regs := rfl
@[simp] theorem Tail.stnMap_xfer (t : Tail) (n : Stn) (g : Station → Station) : (t.stnMap n g).xfer = t.xfer := rfl
@[simp] theorem Tail.stnMap_held (t : Tail) (n : Stn) (g : Station → Station) : (t.stnMap n g).held = t.held := rfl
@[simp] theorem Tail.stnMap_xferWait (t : Tail) (n : Stn) (g : Station → Station) : (t.stnMap n g).xferWait = t.xferWait := rfl
@[simp] theorem Tail.stnMap_ds (t : Tail) (n : Stn) (g : Station → Station) : (t.stnMap n g).ds = t.ds := rfl
@[simp] theorem Tail.stnMap_dsOld (t : Tail) (n : Stn) (g : Station → Station) : (t.stnMap n g).dsOld = t.dsOld := rfl
@[simp] theorem Tail.stnMap_late (t : Tail) (n : Stn) (g : Station → Station) : (t.stnMap n g).late = t.late := rfl
@[simp] theorem Tail.stnMap_ceWords (t : Tail) (n : Stn) (g : Station → Station) : (t.stnMap n g).ceWords = t.ceWords := rfl
@[simp] theorem Tail.stnMap_log (t : Tail) (n : Stn) (g : Station → Station) : (t.stnMap n g).log = t.log := rfl
@[simp] theorem Tail.stnMap_store (t : Tail) (n : Stn) (g : Station → Station) : (t.stnMap n g).store = t.store := rfl
@[simp] theorem Tail.stnMap_link (t : Tail) (n : Stn) (g : Station → Station) : (t.stnMap n g).link = t.link := rfl
@[simp] theorem Tail.stnMap_clk (t : Tail) (n : Stn) (g : Station → Station) : (t.stnMap n g).clk = t.clk := rfl
@[simp] theorem Tail.stnMap_aon (t : Tail) (n : Stn) (g : Station → Station) : (t.stnMap n g).aon = t.aon := rfl
@[simp] theorem Tail.stnMap_us (t : Tail) (n : Stn) (g : Station → Station) : (t.stnMap n g).us = t.us := rfl
@[simp] theorem Tail.stnMap_boot (t : Tail) (n : Stn) (g : Station → Station) : (t.stnMap n g).boot = t.boot := rfl
@[simp] theorem Tail.stnMap_grp (t : Tail) (n : Stn) (g : Station → Station) : (t.stnMap n g).grp = t.grp := rfl
@[simp] theorem Tail.stnMap_dio (t : Tail) (n : Stn) (g : Station → Station) : (t.stnMap n g).dio = t.dio := rfl
@[simp] theorem Tail.stnMap_sto (t : Tail) (n : Stn) (g : Station → Station) : (t.stnMap n g).sto = t.sto := rfl
@[simp] theorem Tail.stnMap_ain (t : Tail) (n : Stn) (g : Station → Station) : (t.stnMap n g).ain = t.ain := rfl
@[simp] theorem Tail.stnMap_emg (t : Tail) (n : Stn) (g : Station → Station) : (t.stnMap n g).emg = t.emg := rfl
@[simp] theorem Tail.stnMap_shr (t : Tail) (n : Stn) (g : Station → Station) : (t.stnMap n g).shr = t.shr := rfl
@[simp] theorem Tail.stnMap_orb (t : Tail) (n : Stn) (g : Station → Station) : (t.stnMap n g).orb = t.orb := rfl
@[simp] theorem Tail.stnMap_sess (t : Tail) (n : Stn) (g : Station → Station) : (t.stnMap n g).sess = t.sess := rfl
@[simp] theorem Tail.stnMap_trc (t : Tail) (n : Stn) (g : Station → Station) : (t.stnMap n g).trc = t.trc := rfl
@[simp] theorem Tail.stnMap_diag (t : Tail) (n : Stn) (g : Station → Station) : (t.stnMap n g).diag = t.diag := rfl
@[simp] theorem Tail.stnMap_hk (t : Tail) (n : Stn) (g : Station → Station) : (t.stnMap n g).hk = t.hk := rfl
@[simp] theorem Tail.stnMap_thd (t : Tail) (n : Stn) (g : Station → Station) : (t.stnMap n g).thd = t.thd := rfl
@[simp] theorem Tail.stnMap_sec (t : Tail) (n : Stn) (g : Station → Station) : (t.stnMap n g).sec = t.sec := rfl
@[simp] theorem Tail.stnMap_otp (t : Tail) (n : Stn) (g : Station → Station) : (t.stnMap n g).otp = t.otp := rfl
@[simp] theorem Tail.stnMap_fw (t : Tail) (n : Stn) (g : Station → Station) : (t.stnMap n g).fw = t.fw := rfl
@[simp] theorem Tail.stnMap_toks (t : Tail) (n : Stn) (g : Station → Station) : (t.stnMap n g).toks = t.toks := rfl
@[simp] theorem Tail.stnMap_mbToks (t : Tail) (n : Stn) (g : Station → Station) : (t.stnMap n g).mbToks = t.mbToks := rfl
@[simp] theorem Tail.stnMap_resetDue (t : Tail) (n : Stn) (g : Station → Station) : (t.stnMap n g).resetDue = t.resetDue := rfl

theorem Tail.elapse_eq (t : Tail) (d : Nat) :
    t.elapse d = { t with now := t.now + d, ft := if t.clk.ftRun then t.ft + BitVec.ofNat 64 d else t.ft } := by
  unfold Tail.elapse; split <;> rfl

theorem Tail.evtV_eq (t : Tail) (p i : Nat) (v : Option Word) :
    t.evtV p i v = { t with
      regs := if t.evtBit p i then t.regs else (t.p (PG_EVT.EVT p) (setBit (t.g (PG_EVT.EVT p)) i true)).regs
      log := if t.evtBit p i then t.log else
        { t.log with queue := t.log.queue ++
          [⟨p, i, ((t.p (PG_EVT.EVT p) (setBit (t.g (PG_EVT.EVT p)) i true)).g (PG_EVTEN.EN p)).testBit i, none, v, t.ftCe⟩] } } := by
  by_cases h : t.evtBit p i = true
  · simp only [Tail.evtV, h, if_true]
  · simp only [Tail.evtV, h, if_false, Bool.false_eq_true]; rfl

/-! ## elapse -/

@[simp] theorem Tail.elapse_u (t : Tail) (d : Nat) : (t.elapse d).u = t.u := by rw [Tail.elapse_eq]
@[simp] theorem Tail.elapse_fresh (t : Tail) (d : Nat) : (t.elapse d).fresh = t.fresh := by rw [Tail.elapse_eq]
@[simp] theorem Tail.elapse_ssn (t : Tail) (d : Nat) : (t.elapse d).ssn = t.ssn := by rw [Tail.elapse_eq]
@[simp] theorem Tail.elapse_regs (t : Tail) (d : Nat) : (t.elapse d).regs = t.regs := by rw [Tail.elapse_eq]
@[simp] theorem Tail.elapse_xfer (t : Tail) (d : Nat) : (t.elapse d).xfer = t.xfer := by rw [Tail.elapse_eq]
@[simp] theorem Tail.elapse_held (t : Tail) (d : Nat) : (t.elapse d).held = t.held := by rw [Tail.elapse_eq]
@[simp] theorem Tail.elapse_xferWait (t : Tail) (d : Nat) : (t.elapse d).xferWait = t.xferWait := by rw [Tail.elapse_eq]
@[simp] theorem Tail.elapse_ds (t : Tail) (d : Nat) : (t.elapse d).ds = t.ds := by rw [Tail.elapse_eq]
@[simp] theorem Tail.elapse_dsOld (t : Tail) (d : Nat) : (t.elapse d).dsOld = t.dsOld := by rw [Tail.elapse_eq]
@[simp] theorem Tail.elapse_late (t : Tail) (d : Nat) : (t.elapse d).late = t.late := by rw [Tail.elapse_eq]
@[simp] theorem Tail.elapse_ceWords (t : Tail) (d : Nat) : (t.elapse d).ceWords = t.ceWords := by rw [Tail.elapse_eq]
@[simp] theorem Tail.elapse_log (t : Tail) (d : Nat) : (t.elapse d).log = t.log := by rw [Tail.elapse_eq]
@[simp] theorem Tail.elapse_store (t : Tail) (d : Nat) : (t.elapse d).store = t.store := by rw [Tail.elapse_eq]
@[simp] theorem Tail.elapse_link (t : Tail) (d : Nat) : (t.elapse d).link = t.link := by rw [Tail.elapse_eq]
@[simp] theorem Tail.elapse_clk (t : Tail) (d : Nat) : (t.elapse d).clk = t.clk := by rw [Tail.elapse_eq]
@[simp] theorem Tail.elapse_aon (t : Tail) (d : Nat) : (t.elapse d).aon = t.aon := by rw [Tail.elapse_eq]
@[simp] theorem Tail.elapse_us (t : Tail) (d : Nat) : (t.elapse d).us = t.us := by rw [Tail.elapse_eq]
@[simp] theorem Tail.elapse_boot (t : Tail) (d : Nat) : (t.elapse d).boot = t.boot := by rw [Tail.elapse_eq]
@[simp] theorem Tail.elapse_grp (t : Tail) (d : Nat) : (t.elapse d).grp = t.grp := by rw [Tail.elapse_eq]
@[simp] theorem Tail.elapse_dio (t : Tail) (d : Nat) : (t.elapse d).dio = t.dio := by rw [Tail.elapse_eq]
@[simp] theorem Tail.elapse_sto (t : Tail) (d : Nat) : (t.elapse d).sto = t.sto := by rw [Tail.elapse_eq]
@[simp] theorem Tail.elapse_stn (t : Tail) (d : Nat) : (t.elapse d).stn = t.stn := by rw [Tail.elapse_eq]
@[simp] theorem Tail.elapse_ain (t : Tail) (d : Nat) : (t.elapse d).ain = t.ain := by rw [Tail.elapse_eq]
@[simp] theorem Tail.elapse_emg (t : Tail) (d : Nat) : (t.elapse d).emg = t.emg := by rw [Tail.elapse_eq]
@[simp] theorem Tail.elapse_shr (t : Tail) (d : Nat) : (t.elapse d).shr = t.shr := by rw [Tail.elapse_eq]
@[simp] theorem Tail.elapse_orb (t : Tail) (d : Nat) : (t.elapse d).orb = t.orb := by rw [Tail.elapse_eq]
@[simp] theorem Tail.elapse_sess (t : Tail) (d : Nat) : (t.elapse d).sess = t.sess := by rw [Tail.elapse_eq]
@[simp] theorem Tail.elapse_trc (t : Tail) (d : Nat) : (t.elapse d).trc = t.trc := by rw [Tail.elapse_eq]
@[simp] theorem Tail.elapse_diag (t : Tail) (d : Nat) : (t.elapse d).diag = t.diag := by rw [Tail.elapse_eq]
@[simp] theorem Tail.elapse_hk (t : Tail) (d : Nat) : (t.elapse d).hk = t.hk := by rw [Tail.elapse_eq]
@[simp] theorem Tail.elapse_thd (t : Tail) (d : Nat) : (t.elapse d).thd = t.thd := by rw [Tail.elapse_eq]
@[simp] theorem Tail.elapse_sec (t : Tail) (d : Nat) : (t.elapse d).sec = t.sec := by rw [Tail.elapse_eq]
@[simp] theorem Tail.elapse_otp (t : Tail) (d : Nat) : (t.elapse d).otp = t.otp := by rw [Tail.elapse_eq]
@[simp] theorem Tail.elapse_fw (t : Tail) (d : Nat) : (t.elapse d).fw = t.fw := by rw [Tail.elapse_eq]
@[simp] theorem Tail.elapse_toks (t : Tail) (d : Nat) : (t.elapse d).toks = t.toks := by rw [Tail.elapse_eq]
@[simp] theorem Tail.elapse_mbToks (t : Tail) (d : Nat) : (t.elapse d).mbToks = t.mbToks := by rw [Tail.elapse_eq]
@[simp] theorem Tail.elapse_resetDue (t : Tail) (d : Nat) : (t.elapse d).resetDue = t.resetDue := by rw [Tail.elapse_eq]

/-! ## evtV -/

@[simp] theorem Tail.evtV_u (t : Tail) (p i : Nat) (v : Option Word) : (t.evtV p i v).u = t.u := by rw [Tail.evtV_eq]
@[simp] theorem Tail.evtV_now (t : Tail) (p i : Nat) (v : Option Word) : (t.evtV p i v).now = t.now := by rw [Tail.evtV_eq]
@[simp] theorem Tail.evtV_fresh (t : Tail) (p i : Nat) (v : Option Word) : (t.evtV p i v).fresh = t.fresh := by rw [Tail.evtV_eq]
@[simp] theorem Tail.evtV_ft (t : Tail) (p i : Nat) (v : Option Word) : (t.evtV p i v).ft = t.ft := by rw [Tail.evtV_eq]
@[simp] theorem Tail.evtV_ssn (t : Tail) (p i : Nat) (v : Option Word) : (t.evtV p i v).ssn = t.ssn := by rw [Tail.evtV_eq]
@[simp] theorem Tail.evtV_xfer (t : Tail) (p i : Nat) (v : Option Word) : (t.evtV p i v).xfer = t.xfer := by rw [Tail.evtV_eq]
@[simp] theorem Tail.evtV_held (t : Tail) (p i : Nat) (v : Option Word) : (t.evtV p i v).held = t.held := by rw [Tail.evtV_eq]
@[simp] theorem Tail.evtV_xferWait (t : Tail) (p i : Nat) (v : Option Word) : (t.evtV p i v).xferWait = t.xferWait := by rw [Tail.evtV_eq]
@[simp] theorem Tail.evtV_ds (t : Tail) (p i : Nat) (v : Option Word) : (t.evtV p i v).ds = t.ds := by rw [Tail.evtV_eq]
@[simp] theorem Tail.evtV_dsOld (t : Tail) (p i : Nat) (v : Option Word) : (t.evtV p i v).dsOld = t.dsOld := by rw [Tail.evtV_eq]
@[simp] theorem Tail.evtV_late (t : Tail) (p i : Nat) (v : Option Word) : (t.evtV p i v).late = t.late := by rw [Tail.evtV_eq]
@[simp] theorem Tail.evtV_ceWords (t : Tail) (p i : Nat) (v : Option Word) : (t.evtV p i v).ceWords = t.ceWords := by rw [Tail.evtV_eq]
@[simp] theorem Tail.evtV_store (t : Tail) (p i : Nat) (v : Option Word) : (t.evtV p i v).store = t.store := by rw [Tail.evtV_eq]
@[simp] theorem Tail.evtV_link (t : Tail) (p i : Nat) (v : Option Word) : (t.evtV p i v).link = t.link := by rw [Tail.evtV_eq]
@[simp] theorem Tail.evtV_clk (t : Tail) (p i : Nat) (v : Option Word) : (t.evtV p i v).clk = t.clk := by rw [Tail.evtV_eq]
@[simp] theorem Tail.evtV_aon (t : Tail) (p i : Nat) (v : Option Word) : (t.evtV p i v).aon = t.aon := by rw [Tail.evtV_eq]
@[simp] theorem Tail.evtV_us (t : Tail) (p i : Nat) (v : Option Word) : (t.evtV p i v).us = t.us := by rw [Tail.evtV_eq]
@[simp] theorem Tail.evtV_boot (t : Tail) (p i : Nat) (v : Option Word) : (t.evtV p i v).boot = t.boot := by rw [Tail.evtV_eq]
@[simp] theorem Tail.evtV_grp (t : Tail) (p i : Nat) (v : Option Word) : (t.evtV p i v).grp = t.grp := by rw [Tail.evtV_eq]
@[simp] theorem Tail.evtV_dio (t : Tail) (p i : Nat) (v : Option Word) : (t.evtV p i v).dio = t.dio := by rw [Tail.evtV_eq]
@[simp] theorem Tail.evtV_sto (t : Tail) (p i : Nat) (v : Option Word) : (t.evtV p i v).sto = t.sto := by rw [Tail.evtV_eq]
@[simp] theorem Tail.evtV_stn (t : Tail) (p i : Nat) (v : Option Word) : (t.evtV p i v).stn = t.stn := by rw [Tail.evtV_eq]
@[simp] theorem Tail.evtV_ain (t : Tail) (p i : Nat) (v : Option Word) : (t.evtV p i v).ain = t.ain := by rw [Tail.evtV_eq]
@[simp] theorem Tail.evtV_emg (t : Tail) (p i : Nat) (v : Option Word) : (t.evtV p i v).emg = t.emg := by rw [Tail.evtV_eq]
@[simp] theorem Tail.evtV_shr (t : Tail) (p i : Nat) (v : Option Word) : (t.evtV p i v).shr = t.shr := by rw [Tail.evtV_eq]
@[simp] theorem Tail.evtV_orb (t : Tail) (p i : Nat) (v : Option Word) : (t.evtV p i v).orb = t.orb := by rw [Tail.evtV_eq]
@[simp] theorem Tail.evtV_sess (t : Tail) (p i : Nat) (v : Option Word) : (t.evtV p i v).sess = t.sess := by rw [Tail.evtV_eq]
@[simp] theorem Tail.evtV_trc (t : Tail) (p i : Nat) (v : Option Word) : (t.evtV p i v).trc = t.trc := by rw [Tail.evtV_eq]
@[simp] theorem Tail.evtV_diag (t : Tail) (p i : Nat) (v : Option Word) : (t.evtV p i v).diag = t.diag := by rw [Tail.evtV_eq]
@[simp] theorem Tail.evtV_hk (t : Tail) (p i : Nat) (v : Option Word) : (t.evtV p i v).hk = t.hk := by rw [Tail.evtV_eq]
@[simp] theorem Tail.evtV_thd (t : Tail) (p i : Nat) (v : Option Word) : (t.evtV p i v).thd = t.thd := by rw [Tail.evtV_eq]
@[simp] theorem Tail.evtV_sec (t : Tail) (p i : Nat) (v : Option Word) : (t.evtV p i v).sec = t.sec := by rw [Tail.evtV_eq]
@[simp] theorem Tail.evtV_otp (t : Tail) (p i : Nat) (v : Option Word) : (t.evtV p i v).otp = t.otp := by rw [Tail.evtV_eq]
@[simp] theorem Tail.evtV_fw (t : Tail) (p i : Nat) (v : Option Word) : (t.evtV p i v).fw = t.fw := by rw [Tail.evtV_eq]
@[simp] theorem Tail.evtV_toks (t : Tail) (p i : Nat) (v : Option Word) : (t.evtV p i v).toks = t.toks := by rw [Tail.evtV_eq]
@[simp] theorem Tail.evtV_mbToks (t : Tail) (p i : Nat) (v : Option Word) : (t.evtV p i v).mbToks = t.mbToks := by rw [Tail.evtV_eq]
@[simp] theorem Tail.evtV_resetDue (t : Tail) (p i : Nat) (v : Option Word) : (t.evtV p i v).resetDue = t.resetDue := by rw [Tail.evtV_eq]

/-! ## Stations and the operations that are one of the above -/

@[simp] theorem Tail.stnMap_get (t : Tail) (n : Stn) (g : Station → Station) : (t.stnMap n g).stnGet n = g (t.stnGet n) := by
  simp [Tail.stnMap, Tail.stnGet]
@[simp] theorem Tail.stnMap_get_ne (t : Tail) (n m : Stn) (g : Station → Station) (h : n ≠ m) :
    (t.stnMap n g).stnGet m = t.stnGet m := by
  simp only [Tail.stnMap, Tail.stnGet]; exact Vector.getElem_set_ne (hi := n.2) (hj := m.2) (fun e => h (Fin.ext e))
theorem Tail.sqMap_eq (t : Tail) (n : Stn) (g : Sq → Sq) :
    t.sqMap n g = t.stnMap n (fun s => { s with sq := g s.sq }) := rfl
theorem Tail.fbMap_eq (t : Tail) (n : Stn) (g : Fb → Fb) :
    t.fbMap n g = t.stnMap n (fun s => { s with fb := g s.fb }) := rfl
theorem Tail.isnsMap_eq (t : Tail) (n : Stn) (g : Isns → Isns) :
    t.isnsMap n g = t.stnMap n (fun s => { s with isns := g s.isns }) := rfl
theorem Tail.loopsMap_eq (t : Tail) (n : Stn) (g : Loops → Loops) :
    t.loopsMap n g = t.stnMap n (fun s => { s with loops := g s.loops }) := rfl
theorem Tail.banksMap_eq (t : Tail) (n : Stn) (g : Banks → Banks) :
    t.banksMap n g = t.stnMap n (fun s => { s with banks := g s.banks }) := rfl
theorem Tail.setpMap_eq (t : Tail) (n : Stn) (g : SetPt → SetPt) :
    t.setpMap n g = t.stnMap n (fun s => { s with setp := g s.setp }) := rfl
theorem Tail.shareMap_eq (t : Tail) (n : Stn) (g : Share → Share) :
    t.shareMap n g = t.stnMap n (fun s => { s with share := g s.share }) := rfl
theorem Tail.moduMap_eq (t : Tail) (n : Stn) (g : Modu → Modu) :
    t.moduMap n g = t.stnMap n (fun s => { s with modu := g s.modu }) := rfl
theorem Tail.protMap_eq (t : Tail) (n : Stn) (g : Prot → Prot) :
    t.protMap n g = t.stnMap n (fun s => { s with prot := g s.prot }) := rfl
theorem Tail.pi_eq (t : Tail) (f : Fd) (x : Int) : t.pi f x = t.p f (Machine.enc f.width x) := rfl
theorem Tail.pb_eq (t : Tail) (f : Fd) (x : Bool) : t.pb f x = t.p f (b2n x) := rfl
theorem Tail.inc_eq (t : Tail) (f : Fd) : t.inc f = t.p f (satInc f.width (t.g f)) := rfl
theorem Tail.incBy_eq (t : Tail) (f : Fd) (k : Nat) : t.incBy f k = t.p f (satAdd f.width (t.g f) k) := rfl
theorem Tail.incW_eq (t : Tail) (f : Fd) : t.incW f = t.p f (t.g f + 1) := rfl
theorem Tail.evt_eq (t : Tail) (p i : Nat) : t.evt p i = t.evtV p i none := rfl
theorem Tail.elapseTo_eq (t : Tail) (d : Nat) : t.elapseTo d = t.elapse (d - t.now) := rfl

end Sys2Proof.Machine
end

