-- ==== Sys2Proof/Laws/Words.lean ====
section
/-! SUPPORT. Register fields and sparse maps: what a read gives after a write, and the canonical form. -/

namespace Sys2Proof.Machine

/-! ## Fields of a register word -/

/-- A field that lies within its register. -/
abbrev Fd.ok (f : Fd) : Prop := f.lo ≤ f.hi ∧ f.hi < 32

/-- Two fields that share no bit. -/
abbrev Fd.apart (f g : Fd) : Prop := f.hi < g.lo ∨ g.hi < f.lo

theorem Fd.mask_bit (f : Fd) (h : f.ok) (i : Nat) : f.mask.getLsbD i = (decide (f.lo ≤ i) && decide (i ≤ f.hi)) := by
  obtain ⟨h1, h2⟩ := h
  have e : f.mask = (BitVec.allOnes 32 >>> (31 - (f.hi - f.lo))) <<< f.lo := rfl
  rw [e, BitVec.getLsbD_shiftLeft, BitVec.getLsbD_ushiftRight, BitVec.getLsbD_allOnes]
  by_cases hi : i < 32 <;> by_cases hl : f.lo ≤ i <;> by_cases hu : i ≤ f.hi <;> simp [hi, hl, hu] <;> omega

/-- A field reads as written, modulo its width. -/
theorem fdGet_fdPut (f : Fd) (h : f.ok) (x : Nat) (v : Word) : fdGet f (fdPut f x v) = x % 2 ^ f.width := by
  have h1 := h.1
  have h2 := h.2
  have hw : f.width = f.hi + 1 - f.lo := rfl
  have : ((fdPut f x v &&& f.mask) >>> f.lo) = (BitVec.ofNat 32 (x % 2 ^ f.width)) := by
    apply BitVec.eq_of_getLsbD_eq
    intro i hi
    unfold fdPut
    simp only [BitVec.getLsbD_ushiftRight, BitVec.getLsbD_and, BitVec.getLsbD_or, BitVec.getLsbD_not, BitVec.getLsbD_shiftLeft,
      Fd.mask_bit f h, BitVec.getLsbD_ofNat, Nat.testBit_mod_two_pow]
    by_cases hu : f.lo + i ≤ f.hi
    · have e1 : f.lo + i < 32 := by omega
      have e2 : i < f.width := by omega
      simp [hu, e1, e2, hi]
    · have e2 : ¬ i < f.width := by omega
      simp [hu, e2]
  unfold fdGet
  rw [this, BitVec.toNat_ofNat]
  apply Nat.mod_eq_of_lt
  exact Nat.lt_of_lt_of_le (Nat.mod_lt _ (Nat.two_pow_pos _)) (Nat.pow_le_pow_right (by omega) (by omega))

/-- A write of one field leaves the other fields of its register. -/
theorem fdGet_fdPut_apart (f g : Fd) (hf : f.ok) (hg : g.ok) (h : f.apart g) (x : Nat) (v : Word) :
    fdGet g (fdPut f x v) = fdGet g v := by
  have : (fdPut f x v &&& g.mask) = v &&& g.mask := by
    apply BitVec.eq_of_getLsbD_eq
    intro i hi
    unfold fdPut
    simp only [BitVec.getLsbD_and, BitVec.getLsbD_or, BitVec.getLsbD_not, Fd.mask_bit f hf, Fd.mask_bit g hg]
    unfold Fd.apart at h
    by_cases h1 : g.lo ≤ i <;> by_cases h2 : i ≤ g.hi <;> simp [h1, h2, hi]
    have : ¬ (f.lo ≤ i ∧ i ≤ f.hi) := by omega
    by_cases h3 : f.lo ≤ i <;> simp [h3]
    by_cases h4 : i ≤ f.hi
    · omega
    · simp [h4]
  unfold fdGet
  rw [this]

/-! ## Sparse maps -/

section
variable {α : Type} (d : Nat → α)

theorem smGet_smDel (m : SMap α) (k j : Nat) : smGet d (smDel m k) j = if j = k then d k else smGet d m j := by
  induction m with
  | nil => unfold smDel; simp only [List.filter_nil, smGet]; split <;> simp_all
  | cons e t ih =>
    obtain ⟨a, v⟩ := e
    unfold smDel at ih ⊢
    by_cases h : a = k
    · subst h
      have hk : ((a, v).1 != a) = false := by simp
      rw [List.filter_cons_of_neg (by simp), ih]
      by_cases hj : j = a
      · simp [hj]
      · have : ¬ a = j := fun e => hj e.symm
        simp [hj, smGet, this]
    · rw [List.filter_cons_of_pos (by simpa using h)]
      simp only [smGet]
      rw [ih]
      by_cases hj : a = j
      · subst hj; simp [h]
      · simp [hj]

theorem smGet_smIns (m : SMap α) (k j : Nat) (v : α) (hs : m.Pairwise (fun x y => x.1 < y.1)) :
    smGet d (smIns m k v) j = if j = k then v else smGet d m j := by
  induction m with
  | nil => simp only [smIns, smGet]; by_cases h : k = j <;> simp [h, eq_comm]
  | cons e t ih =>
    obtain ⟨a, w⟩ := e
    simp only [smIns]
    split
    · by_cases h : j = k
      · simp [smGet, h]
      · have : ¬ k = j := fun e => h e.symm
        simp [smGet, h, this]
    · split
      · rename_i h
        subst h
        by_cases h : j = a
        · simp [smGet, h]
        · have : ¬ a = j := fun e => h e.symm
          simp [smGet, h, this]
      · rename_i h1 h2
        simp only [smGet]
        rw [ih (List.pairwise_cons.mp hs).2]
        by_cases h : a = j
        · subst h; simp [h2]
        · simp [h]

/-- A map reads as written, and every other key as before. -/
theorem smGet_smSet [DecidableEq α] (m : SMap α) (k j : Nat) (v : α) (hs : m.Pairwise (fun x y => x.1 < y.1)) :
    smGet d (smSet d m k v) j = if j = k then v else smGet d m j := by
  unfold smSet
  split
  · rename_i h; rw [smGet_smDel, h]
  · exact smGet_smIns d m k j v hs

/-- Keys other than the one written read as before, whatever the form of the map. -/
theorem smGet_smSet_ne [DecidableEq α] (m : SMap α) (k j : Nat) (v : α) (h : j ≠ k) :
    smGet d (smSet d m k v) j = smGet d m j := by
  unfold smSet
  split
  · rw [smGet_smDel]; simp [h]
  · clear * - h
    induction m with
    | nil => have : ¬ k = j := fun e => h e.symm
             simp [smIns, smGet, this]
    | cons e t ih =>
      obtain ⟨a, w⟩ := e
      have hk : ¬ k = j := fun e => h e.symm
      simp only [smIns]
      split
      · simp [smGet, hk]
      · split
        · rename_i h1; subst h1; simp [smGet, hk]
        · simp only [smGet]; rw [ih]

theorem smDel_wf [DecidableEq α] (m : SMap α) (k : Nat) (h : SMap.wf d m) : SMap.wf d (smDel m k) :=
  ⟨h.1.filter _, fun e he => h.2 e (List.mem_of_mem_filter he)⟩

theorem smIns_mem (m : SMap α) (k : Nat) (v : α) (e : Nat × α) (h : e ∈ smIns m k v) : e = (k, v) ∨ e ∈ m := by
  induction m with
  | nil => simp [smIns] at h; exact .inl h
  | cons x t ih =>
    obtain ⟨a, w⟩ := x
    simp only [smIns] at h
    split at h
    · rcases List.mem_cons.mp h with h | h
      · exact .inl h
      · exact .inr h
    · split at h
      · rcases List.mem_cons.mp h with h | h
        · exact .inl h
        · exact .inr (List.mem_cons_of_mem _ h)
      · rcases List.mem_cons.mp h with h | h
        · exact .inr (h ▸ List.mem_cons_self)
        · rcases ih h with h | h
          · exact .inl h
          · exact .inr (List.mem_cons_of_mem _ h)

theorem smIns_sorted (m : SMap α) (k : Nat) (v : α) (hs : m.Pairwise (fun x y => x.1 < y.1)) :
    (smIns m k v).Pairwise (fun x y => x.1 < y.1) := by
  induction m with
  | nil => simp [smIns]
  | cons x t ih =>
    obtain ⟨a, w⟩ := x
    obtain ⟨h1, h2⟩ := List.pairwise_cons.mp hs
    simp only [smIns]
    split
    · rename_i h
      refine List.pairwise_cons.mpr ⟨fun e he => ?_, hs⟩
      rcases List.mem_cons.mp he with he | he
      · rw [he]; exact h
      · exact Nat.lt_trans h (h1 e he)
    · split
      · rename_i h; subst h
        exact List.pairwise_cons.mpr ⟨h1, h2⟩
      · rename_i h h'
        refine List.pairwise_cons.mpr ⟨fun e he => ?_, ih h2⟩
        rcases smIns_mem t k v e he with he | he
        · rw [he]; show a < k; omega
        · exact h1 e he

/-- A write keeps the canonical form. -/
theorem smSet_wf [DecidableEq α] (m : SMap α) (k : Nat) (v : α) (h : SMap.wf d m) : SMap.wf d (smSet d m k v) := by
  unfold smSet
  split
  · exact smDel_wf d m k h
  · rename_i hv
    refine ⟨smIns_sorted m k v h.1, fun e he => ?_⟩
    rcases smIns_mem m k v e he with he | he
    · rw [he]; exact hv
    · exact h.2 e he

/-- A key that a map does not hold reads as its default. -/
theorem smGet_none (m : SMap α) (k : Nat) (h : ∀ e ∈ m, e.1 ≠ k) : smGet d m k = d k := by
  induction m with
  | nil => rfl
  | cons e t ih =>
    obtain ⟨a, v⟩ := e
    have : ¬ a = k := h (a, v) List.mem_cons_self
    simp only [smGet, this, if_false]
    exact ih (fun e he => h e (List.mem_cons_of_mem _ he))

/-- A key reads alike under defaults that agree on it. -/
theorem smGet_congr (d' : Nat → α) (m : SMap α) (k : Nat) (h : d k = d' k) : smGet d m k = smGet d' m k := by
  induction m with
  | nil => exact h
  | cons e t ih => obtain ⟨a, v⟩ := e; simp only [smGet]; rw [ih]

end

/-! ## Register words -/

/-- What is in effect in a block follows what the register reads where nothing holds or delays it anew. -/
theorem Tail.inEff_congr (t r : Tail) (a : Nat) (hw : r.word a = t.word a) (hl : r.late = t.late)
    (hh : ∀ d : Nat → Word, smGet d r.held a = smGet d t.held a) : r.inEff a = t.inEff a := by
  unfold Tail.inEff
  rw [hl, hh]
  exact smGet_congr _ _ _ _ (smGet_congr _ _ _ _ hw)

/-- Every register but the one written reads as before. -/
theorem Tail.setWord_word_ne (t : Tail) (a b : Nat) (w : Word) (h : b ≠ a) : (t.setWord a w).word b = t.word b :=
  smGet_smSet_ne _ _ _ _ _ h

/-- The register written reads as written. -/
theorem Tail.setWord_word (t : Tail) (a : Nat) (w : Word) (h : SMap.wf (regDefault t.u) t.regs) : (t.setWord a w).word a = w := by
  unfold Tail.word Tail.setWord
  rw [smGet_smSet _ _ _ _ _ h.1]; simp

/-- A write of a register keeps the canonical form of the registers. -/
theorem Tail.setWord_wf (t : Tail) (a : Nat) (w : Word) (h : SMap.wf (regDefault t.u) t.regs) :
    SMap.wf (regDefault (t.setWord a w).u) (t.setWord a w).regs := smSet_wf _ _ _ _ h

/-- A write of a store word keeps the canonical form of the store. -/
theorem Tail.memPut_wf (t : Tail) (a : Nat) (w : StoreWord) (h : SMap.wf memDefault t.store.mem) :
    SMap.wf memDefault (t.memPut a w).store.mem := smSet_wf _ _ _ _ h

theorem Tail.memPut_get_ne (t : Tail) (a b : Nat) (w : StoreWord) (h : b ≠ a) : (t.memPut a w).memGet b = t.memGet b :=
  smGet_smSet_ne _ _ _ _ _ h

theorem Tail.memPut_get (t : Tail) (a : Nat) (w : StoreWord) (h : SMap.wf memDefault t.store.mem) : (t.memPut a w).memGet a = w := by
  unfold Tail.memGet Tail.memPut
  simp only [smGet_smSet _ _ _ _ _ h.1, if_true]

end Sys2Proof.Machine
end

