-- ==== Sys2Proof/Laws/Frame.lean ====
section
/-! SUPPORT. What the end of a step, where states settle and latches are logged, leaves as it was: one lemma per operation. -/

namespace Sys2Proof.Machine

/-! ## What records and the log touch -/

theorem Tail.SameReg.trans {t r q : Tail} {a : Nat} (h1 : t.SameReg r a) (h2 : r.SameReg q a) : t.SameReg q a :=
  ⟨h2.1.trans h1.1, h2.2.trans h1.2⟩

theorem Tail.Logs.rfl (t : Tail) : t.Logs t := ⟨Eq.refl _, fun _ _ => ⟨Eq.refl _, Eq.refl _⟩⟩

theorem Tail.Logs.trans {t r q : Tail} (h1 : t.Logs r) (h2 : r.Logs q) : t.Logs q :=
  ⟨h2.1.trans h1.1, fun a h => (h1.2 a h).trans (h2.2 a h)⟩

/-- The same kept parts, the same words of the registers that the log does not write, and nothing new held for them. -/
theorem Tail.Logs.of_words (t r : Tail) (hk : r.unlogged = t.unlogged) (hw : ∀ a, logReg a = false → r.word a = t.word a)
    (hh : ∀ a, logReg a = false → ∀ d : Nat → Word, smGet d r.held a = smGet d t.held a) : t.Logs r :=
  ⟨hk, fun a ha => ⟨hw a ha, Tail.inEff_congr t r a (hw a ha) (by
    have := congrArg (fun x : Tail => x.late) hk
    exact this) (hh a ha)⟩⟩

/-- The same register words and the same kept parts. -/
theorem Tail.Logs.of (t r : Tail) (hk : r.unlogged = t.unlogged) (hr : r.regs = t.regs) (hh : r.held = t.held) : t.Logs r := by
  have hu := congrArg (fun x : Tail => x.u) hk
  change r.u = t.u at hu
  refine .of_words _ _ hk (fun a _ => ?_) (fun a _ d => by rw [hh])
  unfold Tail.word
  rw [hr, hu]

theorem Tail.Logs.ite {t a b : Tail} (c : Prop) [Decidable c] (h1 : c → t.Logs a) (h2 : ¬ c → t.Logs b) :
    t.Logs (if c then a else b) := by
  split
  · exact h1 (by assumption)
  · exact h2 (by assumption)

/-- Folding steps that log logs. -/
theorem Tail.Logs.foldl {β : Type} {t0 : Tail} (f : Tail → β → Tail) (l : List β)
    (h : ∀ (t : Tail), ∀ x ∈ l, t0.Logs t → t0.Logs (f t x)) (t : Tail) (ht : t0.Logs t) : t0.Logs (l.foldl f t) := by
  induction l generalizing t with
  | nil => exact ht
  | cons x l ih => exact ih (fun t y hy => h t y (List.mem_cons_of_mem _ hy)) _ (h t x List.mem_cons_self ht)

section
variable {o : Tail}

theorem Tail.logs_setWord {t : Tail} (a : Nat) (w : Word) (h : logReg a = true) (ht : o.Logs t) : o.Logs (t.setWord a w) :=
  ht.trans (.of_words _ _ (Eq.refl _)
    (fun b hb => Tail.setWord_word_ne _ _ _ _ (fun e => by rw [e, h] at hb; exact absurd hb (by decide))) (fun _ _ _ => Eq.refl _))

theorem Tail.logs_p {t : Tail} (f : Fd) (x : Nat) (h : logReg f.addr = true) (ht : o.Logs t) : o.Logs (t.p f x) :=
  Tail.logs_setWord _ _ h ht

theorem logReg_evt (p : Nat) : logReg (PG_EVT.EVT p).addr = true := by
  have : (p * 256 + 0x0C) % 256 = 0x0C := by omega
  simp [logReg, PG_EVT.EVT, this]

theorem Tail.logs_log {t : Tail} (l : EvtLog) (ht : o.Logs t) : o.Logs { t with log := l } :=
  ht.trans (.of _ _ (Eq.refl _) (Eq.refl _) (Eq.refl _))
theorem Tail.logs_store {t : Tail} (l : Store) (ht : o.Logs t) : o.Logs { t with store := l } :=
  ht.trans (.of _ _ (Eq.refl _) (Eq.refl _) (Eq.refl _))
theorem Tail.logs_ssn {t : Tail} (l : Word) (ht : o.Logs t) : o.Logs { t with ssn := l } :=
  ht.trans (.of _ _ (Eq.refl _) (Eq.refl _) (Eq.refl _))
theorem Tail.logs_trc {t : Tail} (l : Trc) (ht : o.Logs t) : o.Logs { t with trc := l } :=
  ht.trans (.of _ _ (Eq.refl _) (Eq.refl _) (Eq.refl _))
theorem Tail.logs_evtV {t : Tail} (p i : Nat) (v : Option Word) (ht : o.Logs t) : o.Logs (t.evtV p i v) := by
  unfold Tail.evtV
  exact .ite _ (fun _ => ht) (fun _ => Tail.logs_log _ (Tail.logs_p _ _ (logReg_evt p) ht))

theorem Tail.logs_evt {t : Tail} (p i : Nat) (ht : o.Logs t) : o.Logs (t.evt p i) := Tail.logs_evtV p i none ht

theorem Tail.logs_sstMap {t : Tail} (k : Nat) (g : StreamSt → StreamSt) (ht : o.Logs t) : o.Logs (t.sstMap k g) :=
  Tail.logs_store _ ht
theorem Tail.logs_wbMap {t : Tail} (b : Fin 8) (g : List WbEntry → List WbEntry) (ht : o.Logs t) : o.Logs (t.wbMap b g) :=
  Tail.logs_store _ ht
theorem Tail.logs_memWrite {t : Tail} (a d : Nat) (ht : o.Logs t) : o.Logs (t.memWrite a d) :=
  Tail.logs_wbMap _ _ (Tail.logs_store _ ht)
theorem Tail.logs_seal {t : Tail} (ht : o.Logs t) : o.Logs t.seal := Tail.logs_log _ ht

/-! ## Reads and writes of a descriptor's words in the system area -/

theorem Tail.logs_countRead {t : Tail} (a s : Nat) (c : EccClass) (ht : o.Logs t) : o.Logs (t.countRead a s c) := by
  have elog : ∀ {t : Tail} (ty : Nat), o.Logs t → o.Logs (t.elog a s ty) := fun ty h =>
    Tail.logs_p CSA_ELOG.ADDR _ (by decide) (Tail.logs_p CSA_ELOG.TYPE _ (by decide) (Tail.logs_p CSA_ELOG.SYND _ (by decide) h))
  cases c with
  | good => exact ht
  | corrected => exact Tail.logs_evtV _ _ _ (elog _ (Tail.logs_p CSA_CORR.COUNT _ (by decide) ht))
  | poisoned => exact elog _ (Tail.logs_p CSA_UNCORR.POISON_RD _ (by decide) ht)
  | uncorrectable => exact Tail.logs_evtV _ _ _ (elog _ (Tail.logs_p CSA_UNCORR.DETECT _ (by decide) ht))

theorem Tail.logs_queueCorrection {t : Tail} (a : Nat) (w : StoreWord) (ht : o.Logs t) : o.Logs (t.queueCorrection a w) := by
  unfold Tail.queueCorrection
  extract_lets _
  exact .ite _ (fun _ => ht) (fun _ => .ite _ (fun _ => Tail.logs_wbMap _ _ ht) (fun _ => Tail.logs_p CSA_CORR.WB_DROP _ (by decide) ht))

theorem Tail.logs_queuePoison {t : Tail} (a : Nat) (w : StoreWord) (ht : o.Logs t) : o.Logs (t.queuePoison a w) := by
  unfold Tail.queuePoison
  extract_lets _ _
  exact .ite _ (fun _ => Tail.logs_wbMap _ _ ht) (fun _ => .ite _ (fun _ => ht)
    (fun _ => Tail.logs_p CSA_CORR.WB_DROP _ (by decide) (Tail.logs_wbMap _ _ ht)))

theorem Tail.logs_sysClear {t : Tail} (a : Nat) (ht : o.Logs t) : o.Logs (t.sysClear a) := Tail.logs_wbMap _ _ (Tail.logs_store _ ht)

/-- The descriptor of a stream has its configuration in the log's reach. -/
theorem logReg_strd {k : Nat} (h : k < 256) : logReg (STRD_CFG.EN k).addr = true := by
  have e : (strdCfgAt (STRD_CFG.EN k).addr).isSome = true := by revert k; decide +kernel
  simp only [logReg, e, Bool.or_true]

theorem Tail.logs_descLost {t : Tail} {k : Nat} (h : k < 256) (ht : o.Logs t) : o.Logs (t.descLost k) := by
  have hr := logReg_strd h
  have hne : ∀ b, logReg b = false → b ≠ (STRD_CFG.EN k).addr := fun b hb e => by rw [e, hr] at hb; exact absurd hb (by decide)
  refine ht.trans (.of_words _ _ (Eq.refl _) (fun b hb => ?_) (fun b hb d => ?_))
  · exact Tail.setWord_word_ne t _ b (strdCfgRst t.u k) (hne b hb)
  · exact (smGet_smDel d t.held _ b).trans (if_neg (hne b hb))

/-- Word `a` of the system area holds a descriptor. -/
abbrev descWord (a : Nat) : Prop := sysWord + 0x2000 ≤ a ∧ a < sysWord + 0x2200

theorem Tail.logs_sysLost {t : Tail} {a : Nat} (h : descWord a) (ht : o.Logs t) : o.Logs (t.sysLost a) := by
  have e : (a - sysWord) % sysCopy = a - sysWord := by unfold descWord sysWord at h; unfold sysWord sysCopy; omega
  have h1 : ¬ a - sysWord < 0x2000 := by unfold descWord at h; omega
  have h2 : a - sysWord < 0x2200 := by unfold descWord at h; omega
  unfold Tail.sysLost
  simp only [e, h1, h2, if_false, if_true]
  exact Tail.logs_evtV _ _ _ (Tail.logs_descLost (by omega) ht)

theorem Tail.logs_sysRead {t : Tail} {a : Nat} (h : descWord a) (ht : o.Logs t) : o.Logs (t.sysRead a) := by
  unfold Tail.sysRead
  dsimp only
  split
  · exact ht
  · exact Tail.logs_queueCorrection _ _ (Tail.logs_countRead _ _ _ ht)
  · refine .ite _ (fun _ => .ite _ (fun _ => Tail.logs_countRead _ _ _ ht) (fun _ => Tail.logs_queuePoison _ _ (Tail.logs_countRead _ _ _ ht)))
      (fun _ => ?_)
    have h2 := Tail.logs_sysClear a (Tail.logs_countRead (sysTwin a) (sysSyndrome ((t.countRead a (sysSyndrome (t.sysPat a))
      (classify (sysSyndrome (t.sysPat a)) 0)).sysPat (sysTwin a))) (classify (sysSyndrome ((t.countRead a (sysSyndrome (t.sysPat a))
      (classify (sysSyndrome (t.sysPat a)) 0)).sysPat (sysTwin a))) 0) (Tail.logs_countRead a (sysSyndrome (t.sysPat a))
      (classify (sysSyndrome (t.sysPat a)) 0) ht))
    split
    · exact Tail.logs_evtV _ _ _ h2
    · exact Tail.logs_evtV _ _ _ (Tail.logs_queueCorrection _ _ h2)
    · exact Tail.logs_sysLost h (Tail.logs_sysClear _ h2)

theorem Tail.logs_descRead {t : Tail} {k : Nat} (h : k < 256) (ht : o.Logs t) : o.Logs (t.sysReads (descX k) 2) := by
  refine .foldl _ _ (fun t a ha ht => Tail.logs_sysRead ?_ ht) _ ht
  have := (List.mem_filter.mp ha).2
  simp only [Bool.and_eq_true, decide_eq_true_eq] at this
  unfold descX at this
  unfold descWord
  omega

theorem Tail.logs_sysWrites {t : Tail} (x n : Nat) (ht : o.Logs t) : o.Logs (t.sysWrites x n) :=
  .foldl _ _ (fun _ a _ ht => Tail.logs_sysClear a ht) _ ht

/-! ## Records and the log -/

theorem Tail.logs_ringWrite (k : Nat) (ws : List Nat) : ∀ {t : Tail} (pos : Nat), o.Logs t → o.Logs (t.ringWrite k pos ws) := by
  induction ws with
  | nil => exact fun _ ht => ht
  | cons w ws ih => exact fun pos ht => ih _ (Tail.logs_memWrite _ _ ht)

theorem Tail.logs_pushRec {t : Tail} (k kind words len : Nat) (d : Bool) (ht : o.Logs t) :
    o.Logs (t.pushRec k kind words len d) := Tail.logs_sstMap _ _ ht

theorem Tail.logs_wmUpdate {t : Tail} (k : Nat) (ht : o.Logs t) : o.Logs (t.wmUpdate k) := by
  unfold Tail.wmUpdate
  extract_lets _ _ _ t1
  have h1 : o.Logs t1 := Tail.logs_sstMap _ _ ht
  exact .ite _ (fun _ => Tail.logs_evt _ _ h1) (fun _ => h1)

theorem Tail.logs_lose {t : Tail} (k c : Nat) (ht : o.Logs t) : o.Logs (t.lose k c) :=
  Tail.logs_evt _ _ (Tail.logs_sstMap _ _ ht)

theorem Tail.logs_putRec {t : Tail} (k : Nat) (r : HeldRec) (ht : o.Logs t) : o.Logs (t.putRec k r) := by
  unfold Tail.putRec
  extract_lets _ _ _ _ _ t1 _ t2 t3 t4 t5
  have h1 : o.Logs t1 := .ite _ (fun _ => Tail.logs_sstMap _ _ ht) (fun _ => ht)
  have h2 : o.Logs t2 := .ite _ (fun _ => h1) (fun _ => Tail.logs_pushRec _ _ _ _ _ (Tail.logs_ringWrite _ _ _ h1))
  have h3 : o.Logs t3 := .ite _ (fun _ => Tail.logs_pushRec _ _ _ _ _ (Tail.logs_ringWrite _ _ _ h2)) (fun _ => h2)
  have h4 : o.Logs t4 := Tail.logs_ringWrite _ _ _ h3
  have h5 : o.Logs t5 := Tail.logs_pushRec _ _ _ _ _ h4
  exact Tail.logs_wmUpdate _ (Tail.logs_sstMap _ _ h5)

theorem Tail.logs_makeRoom {t : Tail} (k n : Nat) (ht : o.Logs t) : o.Logs (t.makeRoom k n) := by
  unfold Tail.makeRoom
  extract_lets _ _ _
  split
  extract_lets t1
  have h1 : o.Logs t1 := Tail.logs_sstMap _ _ ht
  exact .ite _ (fun _ => h1) (fun _ => Tail.logs_lose _ _ h1)

theorem Tail.logs_holdRec {t : Tail} (k : Nat) (r : HeldRec) (ht : o.Logs t) : o.Logs (t.holdRec k r).2 := by
  unfold Tail.holdRec
  split
  · exact Tail.logs_lose _ _ ht
  · exact Tail.logs_sstMap _ _ ht

theorem Tail.logs_appendAs {t : Tail} (w : Producer) (k : Nat) (r : HeldRec) (ht : o.Logs t) : o.Logs (t.appendAs w k r).2 := by
  unfold Tail.appendAs
  extract_lets _ _
  repeat' split
  all_goals first
    | exact ht
    | exact Tail.logs_holdRec _ _ ht
    | exact Tail.logs_lose _ _ ht
    | exact Tail.logs_putRec _ _ ht
    | exact Tail.logs_putRec _ _ (Tail.logs_makeRoom _ _ ht)

/-- A record of any producer for a stream: what it may touch, however the append ends. -/
theorem Tail.logs_appendRec {t : Tail} (w : Producer) {k : Nat} (h : k < 256) (r : HeldRec) (ht : o.Logs t) :
    o.Logs (t.appendRec w k r).2 := by
  unfold Tail.appendRec
  split
  · exact ht
  · have h1 := Tail.logs_appendAs w k r (Tail.logs_descRead h ht)
    exact .ite _ (fun _ => Tail.logs_sysWrites _ _ h1) (fun _ => h1)

theorem Tail.logs_record {t : Tail} (w : Producer) {k : Nat} (h : k < 256) (kind : Nat) (v : Bool) (d : List Byte) (ht : o.Logs t) :
    o.Logs (t.record w k kind v d) := Tail.logs_appendRec w h _ ht

theorem Tail.logs_trcEvent {t : Tail} (e : PendEvt) (ix ssn : Word) (ht : o.Logs t) : o.Logs (t.trcEvent e ix ssn) := by
  unfold Tail.trcEvent
  extract_lets _ _ t1
  refine .ite _ (fun _ => ?_) (fun _ => ht)
  have h1 : o.Logs t1 :=
    Tail.logs_p _ _ (by decide) <| Tail.logs_p _ _ (by decide) <| Tail.logs_p _ _ (by decide) <|
      Tail.logs_p _ _ (by decide) <| Tail.logs_p _ _ (by decide) ht
  exact Tail.logs_evt _ _ (Tail.logs_trc _ (Tail.logs_p TRC_TSSEQ.SSEQ _ (by decide) h1))

theorem Tail.logs_roomFor {t : Tail} (k n : Nat) (ht : o.Logs t) : o.Logs (t.roomFor k n) :=
  .ite _ (fun _ => Tail.logs_makeRoom _ _ ht) (fun _ => ht)

theorem Tail.logs_eventPair {t : Tail} {k : Nat} (h : k < 256) (d : List Byte) (ht : o.Logs t) : o.Logs (t.eventPair k d) := by
  unfold Tail.eventPair
  exact Tail.logs_appendRec _ h _ (Tail.logs_appendRec _ (by decide) _ (Tail.logs_roomFor _ _ (Tail.logs_roomFor _ _ ht)))

theorem Tail.logs_logEvent {t : Tail} (e : PendEvt) (ht : o.Logs t) : o.Logs (t.logEvent e) := by
  unfold Tail.logEvent Tail.commit
  refine Tail.logs_seal ?_
  beta_reduce
  extract_lets _ _ _ t1 t2
  have h1 : o.Logs t1 := Tail.logs_log _ (Tail.logs_ssn _ ht)
  have h2 : o.Logs t2 := Tail.logs_trcEvent _ _ _ h1
  refine .ite _ (fun h => ?_) (fun _ => Tail.logs_record _ (by decide) _ _ _ h2)
  simp only [Bool.and_eq_true, decide_eq_true_eq] at h
  exact Tail.logs_eventPair (by omega) _ h2

theorem Tail.logs_flush (n : Nat) : ∀ {t : Tail}, o.Logs t → o.Logs (Tail.flush n t) := by
  induction n with
  | zero => exact fun ht => ht
  | succ n ih =>
    intro t ht
    unfold Tail.flush
    split
    · exact ht
    · exact ih (Tail.logs_logEvent _ (Tail.logs_log _ ht))

theorem Tail.logs_logAll {t : Tail} (ht : o.Logs t) : o.Logs t.logAll :=
  .ite _ (fun _ => Tail.logs_flush _ ht) (fun _ => Tail.logs_seal ht)

end

/-! ## What the end of a step touches -/

theorem Tail.Frames.rfl (t : Tail) : t.Frames t := ⟨Eq.refl _, fun _ _ _ => ⟨Eq.refl _, Eq.refl _⟩⟩

theorem Tail.Frames.trans {t r q : Tail} (h1 : t.Frames r) (h2 : r.Frames q) : t.Frames q :=
  ⟨h2.1.trans h1.1, fun a h h' => (h1.2 a h h').trans (h2.2 a h h')⟩

/-- What records and the log touch, the end of a step may touch. -/
theorem Tail.Logs.frames {t r : Tail} (h : t.Logs r) : t.Frames r := by
  refine ⟨?_, fun a ha _ => h.2 a ha⟩
  have e := h.1
  have es := congrArg (fun x : Tail => x.stn) e
  change r.stn = t.stn at es
  unfold Tail.kept
  rw [e, es]

/-- The same register words and the same kept parts. -/
theorem Tail.Frames.of (t r : Tail) (hk : r.kept = t.kept) (hr : r.regs = t.regs) (hh : r.held = t.held) : t.Frames r := by
  have hu := congrArg (fun x : Tail => x.u) hk
  change r.u = t.u at hu
  have hl := congrArg (fun x : Tail => x.late) hk
  change r.late = t.late at hl
  have hw : ∀ a, r.word a = t.word a := fun a => by unfold Tail.word; rw [hr, hu]
  exact ⟨hk, fun a _ _ => ⟨hw a, Tail.inEff_congr t r a (hw a) hl (fun d => by rw [hh])⟩⟩

theorem Tail.Frames.ite {t a b : Tail} (c : Prop) [Decidable c] (h1 : c → t.Frames a) (h2 : ¬ c → t.Frames b) :
    t.Frames (if c then a else b) := by
  split
  · exact h1 (by assumption)
  · exact h2 (by assumption)

/-- Folding steps that frame frames. -/
theorem Tail.Frames.foldl {β : Type} {t0 : Tail} (f : Tail → β → Tail) (h : ∀ (t : Tail) x, t0.Frames t → t0.Frames (f t x))
    (l : List β) (t : Tail) (ht : t0.Frames t) : t0.Frames (l.foldl f t) := by
  induction l generalizing t with
  | nil => exact ht
  | cons x l ih => exact ih _ (h t x ht)

section
variable {o : Tail}

theorem Tail.frames_p {t : Tail} (f : Fd) (x : Nat) (h : settleRegs.contains f.addr = true) (ht : o.Frames t) : o.Frames (t.p f x) := by
  refine ht.trans ⟨Eq.refl _, fun a _ ha => ?_⟩
  have hw : (t.p f x).word a = t.word a :=
    Tail.setWord_word_ne t f.addr a _ (fun e => by rw [e, h] at ha; exact absurd ha (by decide))
  exact ⟨hw, Tail.inEff_congr t _ a hw (Eq.refl _) (fun _ => Eq.refl _)⟩

theorem Tail.frames_us {t : Tail} (l : UnitSt) (ht : o.Frames t) : o.Frames { t with us := l } :=
  ht.trans (.of _ _ (Eq.refl _) (Eq.refl _) (Eq.refl _))
theorem Tail.frames_grp {t : Tail} (l : Vector Grp 2) (ht : o.Frames t) : o.Frames { t with grp := l } :=
  ht.trans (.of _ _ (Eq.refl _) (Eq.refl _) (Eq.refl _))
theorem Tail.frames_diag {t : Tail} (l : Diag) (ht : o.Frames t) : o.Frames { t with diag := l } :=
  ht.trans (.of _ _ (Eq.refl _) (Eq.refl _) (Eq.refl _))

theorem Tail.frames_evt {t : Tail} (p i : Nat) (ht : o.Frames t) : o.Frames (t.evt p i) := ht.trans (Tail.logs_evt p i (.rfl t)).frames

theorem Station.map_set_kept (v : Vector Station 4) (n : Fin 4) (x : Station) (h : x.kept = v[n].kept) :
    (v.set n x).map Station.kept = v.map Station.kept := by
  apply Vector.ext
  intro i hi
  rw [Vector.getElem_map, Vector.getElem_map, Vector.getElem_set]
  split
  · rename_i e; subst e; exact h
  · exact Eq.refl _

theorem Tail.frames_stnMap {t : Tail} (n : Stn) (g : Station → Station) (h : (g (t.stnGet n)).kept = (t.stnGet n).kept)
    (ht : o.Frames t) : o.Frames (t.stnMap n g) := by
  refine ht.trans (.of _ _ ?_ (Eq.refl _) (Eq.refl _))
  have e := Station.map_set_kept t.stn n _ h
  exact congrArg (fun v => { t.kept with stn := v }) e

theorem Tail.frames_logAll {t : Tail} (ht : o.Frames t) : o.Frames t.logAll := ht.trans (Tail.logs_logAll (.rfl t)).frames

/-! ## States settle -/

theorem settleRegs_stn (n : Stn) : settleRegs.contains (STN_STAT.PREV n).addr = true ∧ settleRegs.contains (STN_STAT.CAUSE n).addr = true
    ∧ settleRegs.contains (ISNS_STAT.CAL_STATE n).addr = true ∧ settleRegs.contains (BNKA_STAT.ACT_CUR n).addr = true := by
  revert n; decide

theorem Tail.frames_sqMap {t : Tail} (n : Stn) (g : Sq → Sq) (ht : o.Frames t) : o.Frames (t.sqMap n g) :=
  Tail.frames_stnMap _ _ (Eq.refl _) ht
theorem Tail.frames_isnsMap {t : Tail} (n : Stn) (g : Isns → Isns) (ht : o.Frames t) : o.Frames (t.isnsMap n g) :=
  Tail.frames_stnMap _ _ (Eq.refl _) ht
theorem Tail.frames_banksMap {t : Tail} (n : Stn) (g : Banks → Banks) (ht : o.Frames t) : o.Frames (t.banksMap n g) :=
  Tail.frames_stnMap _ _ (Eq.refl _) ht
theorem Tail.frames_setpMap {t : Tail} (n : Stn) (g : SetPt → SetPt) (ht : o.Frames t) : o.Frames (t.setpMap n g) :=
  Tail.frames_stnMap _ _ (Eq.refl _) ht
theorem Tail.frames_moduMap {t : Tail} (n : Stn) (g : Modu → Modu) (ht : o.Frames t) : o.Frames (t.moduMap n g) :=
  Tail.frames_stnMap _ _ (Eq.refl _) ht
theorem Tail.frames_protMap {t : Tail} (n : Stn) (g : Prot → Prot) (ht : o.Frames t) : o.Frames (t.protMap n g) :=
  Tail.frames_stnMap _ _ (Eq.refl _) ht

theorem Tail.frames_setSt {t : Tail} (n : Stn) (st : StnSt) (ht : o.Frames t) : o.Frames (t.setSt n st) :=
  .ite _ (fun _ => ht) (fun _ => Tail.frames_sqMap _ _ (Tail.frames_p _ _ (settleRegs_stn n).1 ht))

theorem Tail.frames_swapTo {t : Tail} (n : Stn) (c s : Option Bool) (src bit : Nat) (ht : o.Frames t) :
    o.Frames (t.swapTo n c s src bit) := by
  have h := (settleRegs_stn n).2.2.2
  unfold Tail.swapTo
  extract_lets _ _
  exact .ite _ (fun _ => ht) (fun _ => Tail.frames_evt _ _ (Tail.frames_p (BNKA_STAT.LAST_SRC n) _ h
    (Tail.frames_p (BNKA_STAT.SWAPS n) _ h (Tail.frames_p (BNKA_STAT.ACT_SO n) _ h (Tail.frames_p (BNKA_STAT.ACT_CUR n) _ h ht)))))

theorem Tail.frames_swapHost {t : Tail} (n : Stn) (ht : o.Frames t) : o.Frames (t.swapHost n) := by
  unfold Tail.swapHost
  extract_lets _ _
  exact .ite _ (fun _ => ht) (fun _ => Tail.frames_swapTo _ _ _ _ _ (Tail.frames_p (BNKA_STAT.HPEND n) _ (settleRegs_stn n).2.2.2 ht))

theorem Tail.frames_banksIdle {t : Tail} (n : Stn) (ht : o.Frames t) : o.Frames (t.banksIdle n) :=
  Tail.frames_swapHost _ (Tail.frames_banksMap _ _ ht)

theorem Tail.frames_endBlocks {t : Tail} (n : Stn) (ht : o.Frames t) : o.Frames (t.endBlocks n) := by
  unfold Tail.endBlocks
  extract_lets _ t1 t2
  have h2 : o.Frames t2 := Tail.frames_protMap _ _ (Tail.frames_moduMap _ _ ht)
  exact .ite _ (fun _ => Tail.frames_evt _ _ h2) (fun _ => h2)

theorem Tail.frames_blockGates {t : Tail} (n : Stn) (ht : o.Frames t) : o.Frames (t.blockGates n) := Tail.frames_moduMap _ _ ht

theorem Tail.frames_gateUpdate {t : Tail} (n : Stn) (ht : o.Frames t) : o.Frames (t.gateUpdate n) := by
  unfold Tail.gateUpdate
  extract_lets _ _ t1
  have h1 : o.Frames t1 := .ite _ (fun _ => ht) (fun _ => Tail.frames_moduMap _ _ ht)
  exact .ite _ (fun _ => .ite _ (fun _ => h1) (fun _ => Tail.frames_blockGates _ h1)) (fun _ => h1)

theorem Tail.frames_renderStop {t : Tail} (n : Stn) (ht : o.Frames t) : o.Frames (t.renderStop n) :=
  .ite _ (fun _ => ht) (fun _ => Tail.frames_evt _ _ (Tail.frames_setpMap _ _ ht))

theorem Tail.frames_leaveRunning {t : Tail} (n : Stn) (st : StnSt) (ht : o.Frames t) : o.Frames (t.leaveRunning n st) := by
  unfold Tail.leaveRunning
  extract_lets t1 t2
  have h1 : o.Frames t1 := Tail.frames_renderStop _ ht
  have h2 : o.Frames t2 := .ite _ (fun _ => h1) (fun _ => Tail.frames_endBlocks _ h1)
  exact Tail.frames_gateUpdate _ <| Tail.frames_moduMap _ _ <| Tail.frames_protMap _ _ <| Tail.frames_setpMap _ _ <|
    Tail.frames_banksIdle _ <| Tail.frames_sqMap _ _ <| Tail.frames_setSt _ _ h2

theorem Tail.frames_enterFaulted {t : Tail} (n : Stn) (c : Nat) (ht : o.Frames t) : o.Frames (t.enterFaulted n c) := by
  unfold Tail.enterFaulted
  refine .ite _ (fun _ => ht) (fun _ => ?_)
  extract_lets t1 t2
  have h2 : o.Frames t2 :=
    Tail.frames_evt _ _ (Tail.frames_isnsMap _ _ (Tail.frames_p _ _ (settleRegs_stn n).2.1 (Tail.frames_leaveRunning _ _ ht)))
  exact .ite _ (fun _ => Tail.frames_evt _ _ h2) (fun _ => .ite _ (fun _ => Tail.frames_evt _ _ h2) (fun _ => h2))

theorem Tail.frames_calBegin {t : Tail} (n : Stn) (w : CalFor) (ht : o.Frames t) : o.Frames (t.calBegin n w) :=
  Tail.frames_p _ _ (settleRegs_stn n).2.2.1 (Tail.frames_isnsMap _ _ ht)

theorem Tail.frames_calAbandon {t : Tail} (n : Stn) (ht : o.Frames t) : o.Frames (t.calAbandon n) := by
  unfold Tail.calAbandon
  split
  · exact ht
  · exact Tail.frames_isnsMap _ _ ht
  · exact Tail.frames_p _ _ (settleRegs_stn n).2.2.1 (Tail.frames_isnsMap _ _ ht)

theorem Tail.frames_enterDisabled {t : Tail} (n : Stn) (ht : o.Frames t) : o.Frames (t.enterDisabled n) :=
  Tail.frames_calAbandon _ (Tail.frames_leaveRunning _ _ ht)

theorem Tail.frames_settleStn {t : Tail} (n : Stn) (ht : o.Frames t) : o.Frames (t.settleStn n) := by
  unfold Tail.settleStn
  extract_lets _ _
  refine .ite _ (fun _ => ht) (fun _ => ?_)
  split
  · exact .ite _ (fun _ => .ite _ (fun _ => Tail.frames_calBegin _ _ ht) (fun _ => ht))
      (fun _ => .ite _ (fun _ => Tail.frames_calAbandon _ ht) (fun _ => ht))
  · exact .ite _ (fun _ => ht) (fun _ => Tail.frames_enterDisabled _ ht)
  · exact ht

theorem Tail.frames_diagReturn {t : Tail} (n : Stn) (ht : o.Frames t) : o.Frames (t.diagReturn n) :=
  .ite _ (fun _ => Tail.frames_setSt _ _ ht) (fun _ => ht)

theorem Tail.frames_diagPut {t : Tail} (s r : Nat) (ht : o.Frames t) : o.Frames (t.diagPut s r) :=
  .ite _ (fun _ => Tail.frames_p _ _ (by decide) ht) (fun _ => Tail.frames_p _ _ (by decide) ht)

theorem Tail.frames_diagAbort {t : Tail} (ht : o.Frames t) : o.Frames t.diagAbort := by
  unfold Tail.diagAbort
  refine .ite _ (fun _ => ht) (fun _ => ?_)
  extract_lets _ t1 t2
  have h1 : o.Frames t1 := .ite _ (fun _ => Tail.frames_diagPut _ _ ht) (fun _ => ht)
  have h2 : o.Frames t2 :=
    Tail.frames_diag _ (Tail.frames_p DIAG_CNT.ABORTS _ (by decide) (Tail.frames_p DIAG_STAT.STATE 4 (by decide) h1))
  exact Tail.frames_diagReturn _ (Tail.frames_evt _ _ h2)

theorem Tail.frames_diagSettle {t : Tail} (ht : o.Frames t) : o.Frames t.diagSettle := by
  unfold Tail.diagSettle
  extract_lets _
  refine .ite _ (fun _ => .ite _ (fun _ => Tail.frames_diagAbort ht) (fun _ => ht)) (fun _ => ?_)
  exact .foldl _ (fun _ n h => Tail.frames_diagReturn n h) _ _ ht

theorem Tail.frames_setUnit {t : Tail} (us : UnitSt) (ht : o.Frames t) : o.Frames (t.setUnit us) := by
  unfold Tail.setUnit
  exact .ite _ (fun _ => ht) (fun _ => Tail.frames_us _ (Tail.frames_p _ _ (by decide) (Tail.frames_p _ _ (by decide) ht)))

theorem Tail.frames_enterFault {t : Tail} (ht : o.Frames t) : o.Frames t.enterFault := by
  unfold Tail.enterFault
  extract_lets t1 t2
  have h1 : o.Frames t1 := Tail.frames_evt _ _ (Tail.frames_evt _ _ (Tail.frames_setUnit _ ht))
  have h2 : o.Frames t2 := .foldl _ (fun _ _ h => .ite _ (fun _ => Tail.frames_enterFaulted _ _ h) (fun _ => h)) _ _ h1
  exact .foldl _ (fun _ _ h => .ite _ (fun _ => Tail.frames_p _ _ (by decide) (Tail.frames_grp _ h)) (fun _ => h)) _ _ h2

theorem Tail.frames_settleUnit {t : Tail} (ht : o.Frames t) : o.Frames t.settleUnit := by
  unfold Tail.settleUnit
  refine .ite _ (fun _ => Tail.frames_enterFault ht) (fun _ => ?_)
  repeat' split
  all_goals first
    | exact ht
    | exact Tail.frames_setUnit _ ht

/-- What the settling of states may touch. -/
theorem Tail.frames_settle {t : Tail} (ht : o.Frames t) : o.Frames t.settle := by
  unfold Tail.settle
  extract_lets t1 t2 t3
  have h1 : o.Frames t1 := Tail.frames_diagSettle ht
  have h2 : o.Frames t2 := Tail.frames_diagSettle (.foldl _ (fun _ n h => Tail.frames_settleStn n h) _ _ h1)
  have h3 : o.Frames t3 := Tail.frames_settleUnit h2
  exact .foldl _ (fun _ n h => Tail.frames_gateUpdate n h) _ _ h3

end

end Sys2Proof.Machine
end

