-- ==== Sys2Proof/WellFormed.lean ====
section
/-! DEFINITION. When a command is one that the row can carry: byte counts, ranges of codes, numbers of channels and groups. -/

namespace Sys2Proof

/-- A frame carries LEN payload bytes where its operation has a payload, and none otherwise (08 R276). -/
def Frame.wf (payload : Bool) (f : Frame) : Bool := f.payload.length = (if payload then f.len.toNat else 0)

/-- A number within a signed `w`-bit code. -/
def fitsCode (w : Nat) (x : Int) : Bool := decide (-(2 ^ (w - 1)) ≤ x) && decide (x < 2 ^ (w - 1))

/-- What a management bus transaction can carry: at most 32 data bytes, none in a Quick Command or a read (09 R324, R336). -/
def MbTxn.wf (t : MbTxn) : Bool :=
  t.data.length ≤ 255 && (t.kind = .write || t.data = []) && (t.kind = .write || t.kind = .other || (t.count = none && t.pec = none))

/-- The command's operands are ones that its row can carry. -/
def Instr.wf : Instr → Bool
  | .pon a b _ => a || b
  | .regWrite f | .regWriteVerify f | .streamPut f | .sessionOpen f | .sessionAuth f | .sessionClose f => f.wf true
  | .faultClear _ f | .faultClearAll f => f.wf true
  | .regRead f | .streamGet f | .streamPeek f | .statusDigest f | .nop f => f.wf false
  | .hspHeader bytes => bytes.length = 12
  | .hspRequestEnd bytes => bytes.length ≤ 4100
  | .cdcTimeout id _ | .dsUnstable id => id < 0x40
  | .ainConversion _ code => fitsCode 16 code
  | .orbitFrameRx _ f => f.bytes.length ≤ 64
  | .hkSlotEnd x => x.codes.length = 16
  | .frameRepeat g | .orbLoss g | .successionTakeover g => g < 4
  | .pwmBitChange _ ch _ | .turnOn _ ch | .gateConfirmation _ ch _ | .departure _ ch _ | .hsFault _ ch => ch < 13
  | .mbCommandByte t => t.wf
  | .pushTransaction r => (match r with | .acked => true | .nacked k => k < 36 | .arbLost own k => k < 36 && (!own || k = 0))
  | .pageSelWrite data _ | .regDataWrite data _ | .eventFetchWrite data _ => data.length ≤ 255
  | _ => true

end Sys2Proof
end

