-- ==== Sys2Proof/Tests/Slice0.lean ====
section
/-! SUPPORT. Tests of the model on small states: commands that no row can carry, the manual's worked examples, single steps, and for every
statement with hypotheses a state that meets them. -/

namespace Sys2Proof.Tests

open Sys2Proof Sys2Proof.Machine

set_option maxRecDepth 100000
set_option synthInstance.maxSize 100000
set_option synthInstance.maxHeartbeats 400000
set_option Elab.async false
set_option linter.unusedVariables false

/-! ## Small states -/

def fsU (f : Tail → Tail) (s : State) : State := { s with fs := f s.fs }
def hsU (f : Head → Head) (s : State) : State := { s with hs := f s.hs }
def put (fd : Fd) (x : Nat) (s : State) : State := { s with fs := s.fs.p fd x }
def hput (fd : Fd) (x : Nat) (s : State) : State := { s with hs := s.hs.p s.fs.u fd x }
def sqU (n : Stn) (f : Sq → Sq) (s : State) : State := { s with fs := s.fs.sqMap n f }
def stU (n : Stn) (f : Station → Station) (s : State) : State := { s with fs := s.fs.stnMap n f }
def linkU (f : Link → Link) (s : State) : State := { s with fs := { s.fs with link := f s.fs.link } }
def aonU (f : Aon → Aon) (s : State) : State := { s with fs := { s.fs with aon := f s.fs.aon } }
def mbU (f : MbState → MbState) (s : State) : State := { s with hs := { s.hs with mb := f s.hs.mb } }
def ready (s : State) : State :=
  { s with
    hs := { s.hs with alert := ⟨true, false, true⟩, fault := ⟨true, false, true⟩ }
    fs := { s.fs.p CSG_STAT.INIT_DONE 1 with
      us := .readySafe
      boot := ⟨true, true, true, true, true, true, false, false, 0, false, 0, 0, 0⟩
      clk := ⟨0xFF, true, true, true, none, false, ⟨0, 0⟩, ⟨0, 0⟩, ⟨0, 0⟩⟩
      link := { s.fs.link with ready := true, hsPresent := true }
      log := { s.fs.log with ready := true, queue := [] }
      sto := ⟨true, true, true, false, false, false, 0, false, none, none, none⟩
      hk := { s.fs.hk with known := true } } }
def up : State := ready State.reset

/-! ## Commands that no row can carry -/

theorem test_wf_pon : (Instr.pon false false true).wf = false := by decide
theorem test_wf_reg_write : (Instr.regWrite ⟨4, 1, 8, 0x20, 4, []⟩).wf = false := by decide
theorem test_wf_reg_read : (Instr.regRead ⟨4, 1, 8, 0x20, 4, [0]⟩).wf = false := by decide
theorem test_wf_fault_clear : (Instr.faultClear 0 ⟨4, 1, 8, 1, 4, [1]⟩).wf = false := by decide
theorem test_wf_hsp_header : (Instr.hspHeader []).wf = false := by decide
theorem test_wf_hsp_request_end : (Instr.hspRequestEnd (List.replicate 4101 0)).wf = false := by decide +kernel
theorem test_wf_ds_unstable : (Instr.dsUnstable 0x40).wf = false := by decide
theorem test_wf_push : (Instr.pushTransaction (.nacked 36)).wf = false ∧ (Instr.pushTransaction (.arbLost true 1)).wf = false := by decide
theorem test_wf_hk_slot : (Instr.hkSlotEnd ⟨0, []⟩).wf = false := by decide
theorem test_wf_ain : (Instr.ainConversion 0 32768).wf = false := by decide
theorem test_wf_orbit_frame : (Instr.orbitFrameRx false ⟨List.replicate 65 0, true⟩).wf = false := by decide
theorem test_wf_frame_repeat : (Instr.frameRepeat 4).wf = false := by decide
theorem test_wf_turn_on : (Instr.turnOn 0 13).wf = false := by decide
theorem test_wf_mb_command_byte : (Instr.mbCommandByte ⟨.quick, 0, none, [1], none⟩).wf = false := by decide
theorem test_wf_page_sel : (Instr.pageSelWrite (List.replicate 256 0) none).wf = false := by decide +kernel
theorem test_wf_nop : (Instr.nop ⟨0, 1, 8, 0, 0, []⟩).wf = true ∧ (Instr.pon true false false).wf = true := by decide

/-- No row of the table has bits, so no word spells a command. -/
theorem test_no_word_spells_a_command (n w : Nat) : decodeTableWord n w = none := rfl

/-! ## The manual's worked examples -/

/-- 09, a repeated fault clear: the running CRC-8 of B6 30 21. -/
theorem test_pec_of_the_example : pec8 [0xB6] = 0x0B ∧ pec8 [0xB6, 0x30] = 0xA1 ∧ pec8 [0xB6, 0x30, 0x21] = 0x89 := by decide +kernel

/-- 05, the header of PWR: its configuration sum is the CRC-32C of these eight bytes. -/
theorem test_config_sum_of_the_example :
    let t := (put (PG_EVTEN.EN 4) 0x1D up).fs
    cfgSum t.word 4 = crc32c [0x1D, 0, 0, 0, 0, 0, 0, 0] := by decide +kernel

/-- 05, the header of PWR, and 27, that of the CURL page of S2. -/
theorem test_page_ids_of_the_examples :
    up.fs.word 0x0400 = 0x05010004 ∧ up.fs.word 0x6500 = 0x45010265 ∧ up.fs.word 0x1000 = 0x10010010 := by decide +kernel

/-- 27, the descriptors of a TW4-N after a reset. -/
theorem test_descriptors_of_the_example :
    let t := { State.reset.fs with u := { State.reset.fs.u with orbit := false } }
    t.view 0 0x1020 = 0x54330000 ∧ t.view 0 0x1074 = 0x54330070 ∧ t.view 0 0x1080 = 0x5432E080
    ∧ t.view 0 0x10B0 = 0x4432C000 ∧ t.view 0 0x1120 = 0x4210C000 := by decide +kernel

/-- 06, a tuning trace: the descriptor word of stream 69 and its place. -/
theorem test_trace_descriptor_of_the_example :
    fdPut (STRD_CFG.BASE 69) 0x800 (fdPut (STRD_CFG.SIZE_LOG2 69) 21 (fdPut (STRD_CFG.POLICY 69) 1 (fdPut (STRD_CFG.PRIO 69) 1
      (fdPut (STRD_CFG.QUOTA 69) 8 (fdPut (STRD_CFG.EN 69) 1 0))))) = 0x120B5800 ∧ (STRD_CFG.EN 69).addr = 0x145C := by decide +kernel

/-- 07, a double-bit error: syndrome 0x36 is uncorrectable; the word lies in bank 5; and the log entry is 0x3650003D. -/
theorem test_double_error_of_the_example :
    classify 0x36 0 = .uncorrectable ∧ bankOf (0x8001E8 / 8) = 5
    ∧ (up.fs.elog (0x8001E8 / 8) 0x36 2).word CSA_ELOG.SYND.addr = 0x3650003D := by decide +kernel

/-- 11, winch speed from haul to creep: 600 rpm, then 0.05 rpm at an edge, then its decay after 150 ms. -/
theorem test_speeds_of_the_example :
    speedCode 10 (25000) 16000 1800 = 0x2AAAAAAA ∧ speedCode 1 30000000 16000 1800 = 0xE904 ∧ speedCode 1 60000000 16000 1800 = 0x7482 := by
  decide +kernel

/-- 11, a preset across compare points: five are missed. -/
theorem test_preset_of_the_example : presetMissed 0xF00 0x2100 0x1000 0x400 = 5 := by decide

/-- 12, a phase current: D and IA. -/
theorem test_current_of_the_example :
    let cfg := fdPut (ISNS_CFG.ORD 0) 3 (fdPut (ISNS_CFG.OSR 0) 2 0)
    let t := (put (ISNS_OFS.OFS 0 0) 320 (put (ISNS_GAIN.GAIN 0 0) 17066 up)).fs
    isnsD cfg 503316 = 0x1EB850 ∧ t.isnsValue 0 0 0x1EB850 = 0x3FFD ∧ isnsWindow cfg = 3 * 128 * 20 := by decide +kernel

/-- 13, one q-axis step: the output, the integrator, and no clamp. -/
theorem test_q_axis_of_the_example :
    let c : PidC := ⟨false, 0x25000, 0x800, 0, 0, 0, 0x7FFF8000, 0x7FFF8000, false⟩
    let o := pidOut c ⟨0x18000000, 0, 0, 0, false, false, 0⟩ ⟨0x4000, 0⟩ ⟨0x3BFD, 0⟩ ⟨0, 0⟩ none
    o.p.e = 1027 ∧ o.pterm = 0x503C000 ∧ o.out.m = 14856 ∧ (pidInt c o.p false).ai = 0x18201800 ∧ (pidInt c o.p true).ai = 0x18000000 := by
  decide +kernel

/-- 13, the same step at 1,000 V, at 880 V, and at 880 V with overmodulation. -/
theorem test_voltage_limit_of_the_example :
    up.fs.vLimits 0 29788 = (17198, 17198) ∧ vLimit (-4096) 14856 17198 = (-4096, 14856, false)
    ∧ up.fs.vLimits 0 26214 = (15135, 15135) ∧ vLimit (-4096) 14856 15135 = (-4096, 14570, true)
    ∧ (put (MOD_MAXMI.MI 0) 0x49E7 up).fs.vLimits 0 26214 = (15135, 17477) := by decide +kernel

/-- 13, a speed notch: the frame's payload sets the coefficients, whose gain at zero frequency is one. -/
theorem test_notch_of_the_example :
    let w := bytesToWords 3 [0x8D, 0x3F, 0x18, 0x81, 0x74, 0x3F, 0x18, 0x81, 0x01, 0x3F, 0x01, 0x01]
    let t := [0, 1, 2].foldl (fun (t : Tail) i => t.setWord (0x4820 + 4 * i) (w.getD i 0)) (put (PG_CTRL.ENABLE 0x48) 1 up).fs
    t.notchC 0 0 false = ⟨true, 16269, -32488, 16244, -32488, 16129, 1⟩ := by decide +kernel

/-- 17, one carrier period: the compare values. -/
theorem test_compares_of_the_example :
    let t := (stU 0 (fun x => { x with loops.vAlpha := 8000, loops.vBeta := 6000, isns.last := x.isns.last.set 3 29788 }) up).fs
    t.phaseRefs 0 = #v[8598, 1794, -8598] ∧ t.cmpOf 0 8598 = (9858, false) ∧ t.cmpOf 0 1794 = (7003, false)
    ∧ t.cmpOf 0 (-8598) = (2642, false) := by decide +kernel

/-- 15, a winch haul: the limits per boundary, and two boundaries from standstill. -/
theorem test_profile_of_the_example :
    ratePer 65536 100000 = 17179869 ∧ jerkPer 0x2000 100000 = 8590
    ∧ genVel ⟨17179869, 17179869, 8590, 32767 * 2 ^ 24⟩ 0 0 (0x2000 * 2 ^ 24) = (8590, 8590)
    ∧ genVel ⟨17179869, 17179869, 8590, 32767 * 2 ^ 24⟩ 8590 8590 (0x2000 * 2 ^ 24) = (25770, 17180) := by decide +kernel

/-- 21, a module in dynamic positioning: the request at 103.6, 106.0 and 106.8 °C, and the limits of 5.00 s and 6.20 s. -/
theorem test_derating_of_the_example :
    let t := (put THD_CFG.FLOOR 30 (put (THM_GHI.DERATE_START 0) 1000 (put (THM_GTOP.DERATE_FULL 0) 1150 up))).fs
    let q (x : Int) : Int := t.thmReq 0 { ThmSt.init with derate := true, max := some x }
    t.thmFloor = 9830 ∧ q 1000 = 32767 ∧ q 1036 = 27262 ∧ q 1060 = 23592 ∧ q 1068 = 22369
    ∧ rnd15 (23592 * 26075) = 18773 ∧ rnd15 (22369 * 26075) = 17800 := by decide +kernel

/-- 00, set-points as codes, and 08, 450 rpm: half rounds away from zero. -/
theorem test_codes_of_the_examples :
    roundDiv (600 * 32767) 1200 = 0x4000 ∧ enc 16 (roundDiv (-100 * 32767) 400) = 0xE000 ∧ roundDiv (450 * 32767) 1800 = 0x2000 := by decide

/-- 08, the header of the set-point's request. -/
theorem test_header_of_the_example :
    headerBytes .streamPut ⟨0x43, 0x52, 0x10, 0, 4, [0x00, 0x20, 0, 0]⟩ = [0x10, 0x43, 0x52, 0x10, 0, 0, 4, 0] := by decide

/-- 23, a level-2 session: the message that the MAC is taken over. -/
theorem test_challenge_of_the_example :
    let t := { up.fs with u := { up.fs.u with serno := 0x174A2C9001 } }
    let c : Chal := ⟨2, 0x6B3E0A91, [0x5E, 0x1B, 0x07, 0xC4, 0xA2, 0xF9, 0x3D, 0x60, 0x81, 0xBE, 0x4C, 0x27, 0xF0, 0x5A, 0x93, 0x16], 0⟩
    t.sessMac c = hmac256 t.otp.key [0x54, 0x57, 0x34, 0x53, 0x02, 0x91, 0x0A, 0x3E, 0x6B, 0x5E, 0x1B, 0x07, 0xC4, 0xA2, 0xF9, 0x3D, 0x60, 0x81,
      0xBE, 0x4C, 0x27, 0xF0, 0x5A, 0x93, 0x16, 0x01, 0x90, 0x2C, 0x4A, 0x17, 0, 0, 0] := by rfl

/-! ## Steps from small states -/

/-- What an outcome leaves: its next state, or `s` where there is none. -/
def after (s : State) (o : Host.Outcome State Fault Refusal) : State := match o with
  | .next t => t
  | _ => s

/-- A NOP is answered OK under the next store sequence number, and the queue is empty again (08 R311). -/
theorem test_nop_is_answered :
    let t := after up (step { up with pending := [.nop ⟨0, 7, 8, 0, 0, []⟩] })
    t.rsp = some ⟨0, 7, 1, []⟩ ∧ t.pending = [] := by decide +kernel

/-- A register write reads back; each frame is one commit and its response another (06 R219). -/
theorem test_write_then_read :
    let t := after up (exec (.regWrite ⟨0x45, 1, 8, 0x24, 4, [0x00, 0x50, 0x02, 0x00]⟩) up)
    (after t (exec (.regRead ⟨0x45, 2, 8, 0x24, 4, []⟩) t)).rsp = some ⟨0, 2, 3, [0x00, 0x50, 0x02, 0x00]⟩ := by decide +kernel

/-- A guarded field without a session is LOCKED; with a class that its source does not allow, BAD_ADDR comes first (05 R864). -/
theorem test_locked_and_bad :
    (after up (exec (.regWrite ⟨0x4E, 1, 8, 0x34, 4, [0x18, 0x02, 0, 0]⟩) up)).rsp = some ⟨5, 1, 1, []⟩
    ∧ (after up (exec (.regWrite ⟨0x4E, 1, 8, 0x34, 4, [0x19, 0x0E, 0, 0]⟩) up)).rsp = some ⟨6, 1, 1, []⟩ := by decide +kernel

/-- 02, the symbols of the lanes: every data byte and every control symbol is read back from its code at either disparity. -/
theorem test_symbol_codes :
    (∀ rd : Bool, ∀ b : Byte, symOf (Sym.code (.data b) rd).1 rd = some (.data b))
    ∧ ∀ rd : Bool, ∀ c ∈ [Ctl.comma, Ctl.sof, Ctl.soi, Ctl.eof], symOf (Sym.code (.ctl c) rd).1 rd = some (.ctl c) := by decide +kernel

/-- 8b/10b: D21.5 at either disparity, K28.5 at negative, and D31.1, which turns it. -/
theorem test_codes_of_the_standard :
    Sym.code (.data 0xB5) false = (0b1010101010, false) ∧ Sym.code (.data 0xB5) true = (0b1010101010, true)
    ∧ Sym.code (.ctl .comma) false = (0b0011111010, true) ∧ Sym.code (.data 0x3F) false = (0b1010111001, true) := by decide +kernel

/-- PON makes the state right after reset (00 R14). -/
theorem test_reset_is_pon : (after up (exec (.pon true true false) up)).fs.regs = State.reset.fs.regs
    ∧ (after up (exec (.pon true true false) up)).fs.us = .boot := by decide +kernel

/-- On an empty queue a tick passes. -/
theorem test_tick : (after up (step up)).fs.ft = up.fs.ft + 1 := by decide +kernel

/-! ## States that meet the hypotheses of the statements -/

theorem test_wit_StoreCode : ∃ (d : Nat) (i j : Fin 72) (k l : Fin 21) (a b : Nat),
    d < 2 ^ 64 ∧ i ≠ j ∧ (b = a ^^^ 2 ^ k.val ∨ k ≠ l ∧ b = a ^^^ 2 ^ k.val ^^^ 2 ^ l.val) :=
  ⟨0x123456789, 0, 71, 3, 20, 0x10003D, 0x10003D ^^^ 2 ^ 3 ^^^ 2 ^ 20, by decide⟩

/-- A station that runs with its gates enabled meets the premise of the invariant, and a step goes on from it. -/
theorem test_wit_GatesOnlyWhileRunning : ∃ s t : State, s.fs.GatesSafe ∧ (s.fs.stnGet 1).modu.gate = .enabled ∧ step s = .next t :=
  ⟨stU 1 (fun x => { x with sq.st := .running, modu.gate := .enabled }) { up with fs := { up.fs with us := .run } }, _,
    by decide +kernel, by decide +kernel, rfl⟩

/-- A Headstock with a complete and a pending entry, a frame and its outstanding request. -/
def busyHead : Head :=
  { up.hs with
    dup := up.hs.dup.set 1 [⟨2, 9, false, 0, 0, 0, []⟩, ⟨1, 8, true, 0, 5, 4, [1, 2, 3, 4]⟩]
    frame := some ⟨.regRead, ⟨4, 2, 8, 0, 4, []⟩, 9, .waiting⟩
    out := some ⟨1, 3, .execute, [], 0, []⟩ }

theorem test_wit_HeadstockStaysSound : ∃ s t : State, s.hs.Sound ∧ s.hs.out.isSome ∧ step s = .next t := by
  refine ⟨{ up with hs := busyHead }, _, ⟨by decide +kernel, ?_, ?_⟩, by decide +kernel, rfl⟩
  · intro o h
    have e : (⟨1, 3, .execute, [], 0, []⟩ : OutReq) = o := by injection h
    subst e
    exact ⟨by decide, _, rfl, by decide⟩
  · intro h
    have e : busyHead.powered = true := by decide +kernel
    exact absurd h (by rw [e]; decide)

theorem test_wit_HeadstockFrozen : ∃ (c : Instr) (s t : State), inTransaction c = false ∧ resetsHeadstock c = false
    ∧ (s.hs.mb.phase = .stretch → ∀ ch e, c ≠ .levelRefresh ch e) ∧ exec c s = .next t :=
  ⟨.eclipse, up, _, by decide, by decide, fun h => absurd h (by decide +kernel), rfl⟩

theorem test_wit_CommandFrames :
    (∃ (n : Stn) (c : Instr), (∃ src, c = .protSourceAssert n src) ∨ (∃ ch, c = .hsFault n ch) ∨ (∃ ch k, c = .departure n ch k)
      ∨ (∃ late, c = .gateCommandUpdate n late) ∨ c = .commandPoint n ∨ c = .calibrationDone n ∨ ∃ w, c = .bnkaSwap n w)
    ∧ (∃ c : Instr, c = .eclipse ∨ c = .force ∨ c = .sessionTimeout) :=
  ⟨⟨1, .commandPoint 1, .inr (.inr (.inr (.inr (.inl rfl))))⟩, ⟨.eclipse, .inl rfl⟩⟩


/-- The hypotheses of EmptyQueueTicks can be met together. -/
theorem test_wit_EmptyQueueTicks :
    ∃ (s : State), s.pending = [] :=
  ⟨(fun s => { s with pending := [] }) up, by decide +kernel⟩

/-- The hypotheses of PowerOn can be met together. -/
theorem test_wit_PowerOn :
    ∃ (a : Bool) (b : Bool), (a || b) = true :=
  ⟨true, true, by decide +kernel⟩

/-- The hypotheses of each clause of TailstockResets can be met together. -/
theorem test_wit_TailstockResets :
    (∃ (s : State), s.fs.us ≠ .off)
    ∧ (∃ (s : State), s.fs.pd 3 = true)
    ∧ (∃ (s : State), s.fs.us = .boot ∧ s.fs.boot.t3 = true ∧ s.fs.boot.t5 = false ∧ s.fs.boot.dead = false ∧ s.fs.boot.checkFailed = false)
    ∧ (∃ (s : State), s.fs.us = .boot ∧ s.fs.boot.t3 = true ∧ s.fs.boot.t6 = false ∧ s.fs.fw.recovery = false) :=
  ⟨⟨up, by decide +kernel⟩,
   ⟨up, by decide +kernel⟩,
   ⟨(fun s => { s with fs.boot.checkFailed := false }) ((fun s => { s with fs.boot.dead := false }) ((fun s => { s with fs.boot.t5 := false }) ((fun s => { s with fs.boot.t3 := true }) ((fun s => { s with fs.us := .boot }) up)))), by decide +kernel⟩,
   ⟨(fun s => { s with fs.fw.recovery := false }) ((fun s => { s with fs.boot.t6 := false }) ((fun s => { s with fs.boot.t3 := true }) ((fun s => { s with fs.us := .boot }) up))), by decide +kernel⟩⟩

/-- The hypotheses of each clause of HeadstockResets can be met together. -/
theorem test_wit_HeadstockResets :
    (∃ (ns : Nat) (s : State), s.hs.powered = true ∧ 1000 ≤ ns ∧ s.hs.out = none)
    ∧ (∃ (ns : Nat) (s : State) (o : OutReq), s.hs.powered = true ∧ 1000 ≤ ns ∧ s.hs.out = some o ∧ s.fs.link.openMsg = .open)
    ∧ (∃ (ns : Nat) (s : State), s.hs.powered = true ∧ 1000 ≤ ns)
    ∧ (∃ (ns : Nat), ns < 100)
    ∧ (∃ (s : State), s.hs.powered = false)
    ∧ (∃ (s : State), s.hs.powered = true) :=
  ⟨⟨1000, (fun s => { s with hs.out := none }) ((fun s => { s with hs.powered := true }) up), by decide +kernel⟩,
   ⟨1000, (let o : OutReq := (⟨2, 9, .execute, [], 0, []⟩ : OutReq); (fun s => { s with fs.link.openMsg := .open }) ((fun s => { s with hs.out := some o }) ((fun s => { s with hs.powered := true }) up))), (⟨2, 9, .execute, [], 0, []⟩ : OutReq), by decide +kernel⟩,
   ⟨1000, (fun s => { s with hs.powered := true }) up, by decide +kernel⟩,
   ⟨99, by decide +kernel⟩,
   ⟨(fun s => { s with hs.powered := false }) up, by decide +kernel⟩,
   ⟨(fun s => { s with hs.powered := true }) up, by decide +kernel⟩⟩

/-- The hypotheses of each clause of StartUpSteps can be met together. -/
theorem test_wit_StartUpSteps :
    (∃ (s : State), s.fs.us = .boot ∧ s.fs.pd 2 = true ∧ s.fs.boot.t3 = false)
    ∧ (∃ (s : State), s.fs.us = .boot ∧ s.fs.boot.t3 = true ∧ s.fs.boot.t5 = false ∧ s.fs.boot.dead = false)
    ∧ (∃ (s : State), s.fs.us = .boot ∧ s.fs.boot.t3 = true ∧ s.fs.boot.t5 = false ∧ s.fs.boot.dead = false ∧ s.fs.boot.checkFailed = true)
    ∧ (∃ (s : State), s.fs.us = .boot ∧ s.fs.boot.t3 = true ∧ s.fs.boot.t6 = false ∧ s.fs.fw.recovery = false)
    ∧ (∃ (s : State), s.fs.us = .boot ∧ s.fs.boot.t5 = true ∧ s.fs.boot.t6 = true ∧ s.fs.boot.t7 = false ∧ s.fs.boot.therm = false)
    ∧ (∃ (s : State), s.fs.us = .boot ∧ (s.fs.boot.t4 = true ∨ s.fs.link.trainFail = true) ∧ s.fs.boot.t5 = true ∧ s.fs.boot.t6 = true ∧ s.fs.boot.t8 = true ∧ s.fs.boot.dead = false ∧ s.fs.fw.recovery = false) :=
  ⟨⟨(fun s => { s with fs.boot.t3 := false }) ((fun s => { s with fs.us := .boot }) up), by decide +kernel⟩,
   ⟨(fun s => { s with fs.boot.dead := false }) ((fun s => { s with fs.boot.t5 := false }) ((fun s => { s with fs.boot.t3 := true }) ((fun s => { s with fs.us := .boot }) up))), by decide +kernel⟩,
   ⟨(fun s => { s with fs.boot.checkFailed := true }) ((fun s => { s with fs.boot.dead := false }) ((fun s => { s with fs.boot.t5 := false }) ((fun s => { s with fs.boot.t3 := true }) ((fun s => { s with fs.us := .boot }) up)))), by decide +kernel⟩,
   ⟨(fun s => { s with fs.fw.recovery := false }) ((fun s => { s with fs.boot.t6 := false }) ((fun s => { s with fs.boot.t3 := true }) ((fun s => { s with fs.us := .boot }) up))), by decide +kernel⟩,
   ⟨(fun s => { s with fs.boot.therm := false }) ((fun s => { s with fs.boot.t7 := false }) ((fun s => { s with fs.boot.t6 := true }) ((fun s => { s with fs.boot.t5 := true }) ((fun s => { s with fs.us := .boot }) up)))), by decide +kernel⟩,
   ⟨(fun s => { s with fs.fw.recovery := false }) ((fun s => { s with fs.boot.dead := false }) ((fun s => { s with fs.boot.t8 := true }) ((fun s => { s with fs.boot.t6 := true }) ((fun s => { s with fs.boot.t5 := true }) ((fun s => { s with fs.boot.t4 := true }) ((fun s => { s with fs.us := .boot }) up)))))), by decide +kernel⟩⟩

/-- The hypotheses of each clause of ClocksAndCrossings can be met together. -/
theorem test_wit_ClocksAndCrossings :
    (∃ (s : State), s.fs.clk.pllA = true)
    ∧ (∃ (s : State), s.fs.clk.pllB = true)
    ∧ (∃ (ce : Int) (fb : Int) (sq : Int) (s : State) (t : Tail) (a : Bool) (b : Bool) (d : Bool), s.fs.clk.ftRun = true ∧ t = s.fs.elapse (2 ^ 20 - s.fs.ft.toNat % 2 ^ 20) ∧ (a = true ↔ 4 < s.fs.clk.ce.off tickCe ce t.ft * 3) ∧ (b = true ↔ 4 < s.fs.clk.fb.off tickFb fb t.ft) ∧ (d = true ↔ 8 < s.fs.clk.sq.off tickSq sq t.ft * 3))
    ∧ (∃ (id : Nat) (page : Byte) (s : State), hsCrossings.contains id = true ∧ pageCrossing page.toNat = some id ∧ id ≠ 0x12 ∧ s.fs.pd (pageDomain page.toNat) = true ∧ s.fs.pd 3 = true ∧ fieldPages.contains page.toNat = true ∧ s.fs.absentPage page.toNat = false ∧ s.fs.xfer = [] ∧ s.fs.evtBit 0x05 0 = false)
    ∧ (∃ (id : Nat) (page : Byte) (s : State), hsCrossings.contains id = true ∧ pageCrossing page.toNat = some id ∧ id ≠ 0x12 ∧ s.fs.pd (pageDomain page.toNat) = true ∧ s.fs.pd 3 = true ∧ fieldPages.contains page.toNat = true ∧ s.fs.absentPage page.toNat = false ∧ s.fs.xfer = [] ∧ s.fs.evtBit 0x05 0 = true)
    ∧ (∃ (id : Nat) (page : Byte) (a : Nat) (w : Word) (s : State), hsCrossings.contains id = true ∧ pageCrossing page.toNat = some id ∧ id ≠ 0x12 ∧ s.fs.pd (pageDomain page.toNat) = true ∧ s.fs.pd 3 = true ∧ fieldPages.contains page.toNat = true ∧ s.fs.absentPage page.toNat = false ∧ s.fs.xfer = [(a, w)] ∧ a / 256 = page.toNat ∧ 0x20 ≤ a % 256 ∧ logReg a = false ∧ settleRegs.contains a = false)
    ∧ (∃ (n : Stn) (page : Byte) (s : State), page.toNat = stnPage n 0xD ∧ s.fs.pd 6 = true ∧ s.fs.pd 3 = true ∧ s.fs.absentPage page.toNat = false ∧ s.fs.evtBit 0x05 0 = true)
    ∧ (∃ (id : Nat) (s : State), [0x11, 0x14, 0x1B, 0x1D].contains id = true ∧ s.fs.pd 3 = true ∧ s.fs.dsOld = [])
    ∧ (∃ (id : Nat) (s : State), [0x22, 0x27].contains id = true ∧ s.fs.pd 3 = true ∧ s.fs.dsOld = [])
    ∧ (∃ (id : Nat) (a : Nat) (w : Word) (s : State), dsCrossings.contains id = true ∧ s.fs.pd 3 = true ∧ s.fs.dsOld = [(a, w)] ∧ dsRegs id a = true)
    ∧ (∃ (clk : Fin 8) (s : State), s.fs.pd 2 = true ∧ s.fs.clk.run.getLsbD clk = true) :=
  ⟨⟨(fun s => { s with fs.clk.pllA := true }) up, by decide +kernel⟩,
   ⟨(fun s => { s with fs.clk.pllB := true }) up, by decide +kernel⟩,
   ⟨1, 1, 1, up, ((up).fs.elapse (2 ^ 20 - (up).fs.ft.toNat % 2 ^ 20)), (decide (4 < (up).fs.clk.ce.off tickCe 1 ((up).fs.elapse (2 ^ 20 - (up).fs.ft.toNat % 2 ^ 20)).ft * 3)), (decide (4 < (up).fs.clk.fb.off tickFb 1 ((up).fs.elapse (2 ^ 20 - (up).fs.ft.toNat % 2 ^ 20)).ft)), (decide (8 < (up).fs.clk.sq.off tickSq 1 ((up).fs.elapse (2 ^ 20 - (up).fs.ft.toNat % 2 ^ 20)).ft * 3)), by decide +kernel⟩,
   ⟨0x23, (0x33 : Byte), (fun s => { s with fs.xfer := [] }) up, by decide +kernel⟩,
   ⟨0x23, (0x33 : Byte), (put (PG_EVT.EVT 0x05) 1) ((fun s => { s with fs.xfer := [] }) up), by decide +kernel⟩,
   ⟨0x23, (0x33 : Byte), 0x3320, (5 : Word), (let a : Nat := 0x3320; let w : Word := (5 : Word); (fun s => { s with fs.xfer := [(a, w)] }) up), by decide +kernel⟩,
   ⟨(1 : Stn), (0x5D : Byte), (put (PG_EVT.EVT 0x05) 1) up, by decide +kernel⟩,
   ⟨0x14, (fun s => { s with fs.dsOld := [] }) up, by decide +kernel⟩,
   ⟨0x27, (fun s => { s with fs.dsOld := [] }) up, by decide +kernel⟩,
   ⟨0x1D, 0x5124, (5 : Word), (let a : Nat := 0x5124; let w : Word := (5 : Word); (fun s => { s with fs.dsOld := [(a, w)] }) up), by decide +kernel⟩,
   ⟨(0 : Fin 8), up, by decide +kernel⟩⟩

/-- The hypotheses of each clause of Supplies can be met together. -/
theorem test_wit_Supplies :
    (∃ (s : State), s.fs.pd 1 = true ∧ s.fs.aon.aValid = true)
    ∧ (∃ (s : State), s.fs.pd 1 = true ∧ s.fs.pd 3 = true ∧ s.fs.aon.ho = .commit ∧ (s.fs.aon.hoTimes.filter (fun x => s.fs.now ≤ x + 24000000000)).length < 7)
    ∧ (∃ (s : State), s.fs.pd 1 = true ∧ s.fs.pd 3 = true ∧ s.fs.aon.ho = .commit ∧ 7 ≤ (s.fs.aon.hoTimes.filter (fun x => s.fs.now ≤ x + 24000000000)).length)
    ∧ (∃ (s : State), s.fs.pd 1 = true)
    ∧ (∃ (d : Nat) (s : State), s.fs.aon.ho = .dwell ∧ s.fs.aon.dwell = some d ∧ s.fs.pd 3 = true)
    ∧ (∃ (s : State), s.fs.pd 1 = true ∧ s.fs.pd 3 = true ∧ s.fs.aon.bValid = true ∧ s.fs.aon.ho = .commit ∧ s.fs.aon.aValid = true)
    ∧ (∃ (s : State), s.fs.pd 1 = true ∧ s.fs.pd 3 = true ∧ s.fs.aon.bValid = true ∧ s.fs.aon.ho ≠ .commit)
    ∧ (∃ (s : State), s.fs.pd 3 = true)
    ∧ (∃ (s : State), s.fs.us ≠ .off) :=
  ⟨⟨(fun s => { s with fs.aon.aValid := true }) up, by decide +kernel⟩,
   ⟨(fun s => { s with fs.aon.ho := .commit }) up, by decide +kernel⟩,
   ⟨(fsU (fun t => { t with now := 5000 })) ((aonU (fun a => { a with hoTimes := List.replicate 7 0 })) ((fun s => { s with fs.aon.ho := .commit }) up)), by decide +kernel⟩,
   ⟨up, by decide +kernel⟩,
   ⟨7, (let d : Nat := 7; (fun s => { s with fs.aon.dwell := some d }) ((fun s => { s with fs.aon.ho := .dwell }) up)), by decide +kernel⟩,
   ⟨(fun s => { s with fs.aon.aValid := true }) ((fun s => { s with fs.aon.ho := .commit }) ((fun s => { s with fs.aon.bValid := true }) up)), by decide +kernel⟩,
   ⟨(fun s => { s with fs.aon.bValid := true }) up, by decide +kernel⟩,
   ⟨up, by decide +kernel⟩,
   ⟨up, by decide +kernel⟩⟩

/-- The hypotheses of each clause of PowerStates can be met together. -/
theorem test_wit_PowerStates :
    (∃ (s : State), s.fs.pd 3 = true ∧ s.fs.aon.accepted = none ∧ s.fs.aon.switching = none ∧ s.fs.aon.wakePend = false ∧ s.fs.aon.ps = .standby)
    ∧ (∃ (s : State), s.fs.pd 3 = true ∧ s.fs.aon.accepted = none ∧ s.fs.aon.switching = none ∧ s.fs.aon.wakePend = false ∧ (s.fs.us = .readySafe ∨ s.fs.us = .sleep) ∧ s.fs.allDisabled = true)
    ∧ (∃ (s : State), s.fs.pd 3 = true ∧ s.fs.aon.accepted = none ∧ s.fs.aon.switching = none ∧ s.fs.aon.wakePend = false ∧ (s.fs.us = .readySafe ∨ s.fs.us = .sleep) ∧ s.fs.allDisabled = true ∧ (∀ k < 8, s.fs.doOn k = false))
    ∧ (∃ (s : State), s.fs.pd 3 = true ∧ s.fs.aon.accepted = none ∧ s.fs.aon.switching = none ∧ s.fs.aon.wakePend = false ∧ s.fs.aon.ps ≠ .standby)
    ∧ (∃ (s : State), s.fs.pd 3 = true ∧ s.fs.aon.accepted = none ∧ s.fs.aon.switching = none ∧ s.fs.aon.wakePend = false ∧ s.fs.allDisabled = false)
    ∧ (∃ (s : State), s.fs.pd 3 = true ∧ s.fs.aon.accepted = none ∧ s.fs.aon.switching = none ∧ s.fs.aon.wakePend = false ∧ s.fs.us ≠ .readySafe ∧ s.fs.us ≠ .sleep)
    ∧ (∃ (s : State), s.fs.pd 3 = true ∧ s.fs.aon.accepted = none ∧ s.fs.aon.switching = none ∧ s.fs.aon.wakePend = false ∧ (List.range 8).any (fun k => s.fs.doOn k) = true)
    ∧ (∃ (s : State), s.fs.pd 3 = true ∧ (s.fs.aon.accepted ≠ none ∨ s.fs.aon.switching ≠ none))
    ∧ (∃ (s : State), s.fs.aon.accepted = some .standby ∧ s.fs.aon.switching = none ∧ s.fs.aon.retained = false ∧ s.fs.link.rsps = [] ∧ s.fs.link.prio = [])
    ∧ (∃ (s : State), s.fs.aon.accepted = some .run ∧ s.fs.aon.switching = none ∧ s.fs.aon.retained = false ∧ s.fs.link.rsps = [] ∧ s.fs.link.prio = [])
    ∧ (∃ (s : State), s.fs.aon.switching = some .run ∧ s.fs.us = .sleep ∧ s.fs.aon.held = none ∧ s.fs.xferWait = [])
    ∧ (∃ (s : State), s.fs.aon.switching = some .standby ∧ s.fs.aon.held = none ∧ s.fs.g PWR_CTRL.RETAIN = 0)
    ∧ (∃ (s : State), s.fs.aon.switching = some .deep)
    ∧ (∃ (s : State), s.fs.aon.cold = true)
    ∧ (∃ (s : State), s.fs.aon.accepted = some .deep ∧ s.fs.aon.switching = none ∧ s.fs.aon.retained = false ∧ s.fs.link.rsps = [] ∧ s.fs.link.prio = [])
    ∧ (∃ (s : State), s.fs.aon.switching = some .standby ∧ s.fs.aon.held = none ∧ s.fs.g PWR_CTRL.RETAIN = 1 ∧ s.fs.store.wb = Vector.replicate 8 []) :=
  ⟨⟨(fun s => { s with fs.aon.ps := .standby }) ((fun s => { s with fs.aon.wakePend := false }) ((fun s => { s with fs.aon.switching := none }) ((fun s => { s with fs.aon.accepted := none }) up))), by decide +kernel⟩,
   ⟨(fun s => { s with fs.us := .readySafe }) ((fun s => { s with fs.aon.wakePend := false }) ((fun s => { s with fs.aon.switching := none }) ((fun s => { s with fs.aon.accepted := none }) up))), by decide +kernel⟩,
   ⟨(fun s => { s with fs.us := .readySafe }) ((fun s => { s with fs.aon.wakePend := false }) ((fun s => { s with fs.aon.switching := none }) ((fun s => { s with fs.aon.accepted := none }) up))), by decide +kernel⟩,
   ⟨(aonU (fun a => { a with ps := .run })) ((fun s => { s with fs.aon.wakePend := false }) ((fun s => { s with fs.aon.switching := none }) ((fun s => { s with fs.aon.accepted := none }) up))), by decide +kernel⟩,
   ⟨(stU 0 (fun x => { x with sq.st := .ready })) ((fun s => { s with fs.aon.wakePend := false }) ((fun s => { s with fs.aon.switching := none }) ((fun s => { s with fs.aon.accepted := none }) up))), by decide +kernel⟩,
   ⟨(fsU (fun t => { t with us := .run })) ((fun s => { s with fs.aon.wakePend := false }) ((fun s => { s with fs.aon.switching := none }) ((fun s => { s with fs.aon.accepted := none }) up))), by decide +kernel⟩,
   ⟨(fsU (fun t => { t with dio.low := false })) ((put DIO_OSTAT.OVL 0) ((put (PG_CTRL.ENABLE 0x22) 1) ((put (DIO_OCFG.FUNC 0) 0) ((put DIO_OUT.OUT 1) ((fun s => { s with fs.aon.wakePend := false }) ((fun s => { s with fs.aon.switching := none }) ((fun s => { s with fs.aon.accepted := none }) up))))))), by decide +kernel⟩,
   ⟨(aonU (fun a => { a with accepted := some .deep })) up, by decide +kernel⟩,
   ⟨(fun s => { s with fs.link.prio := [] }) ((fun s => { s with fs.link.rsps := [] }) ((fun s => { s with fs.aon.retained := false }) ((fun s => { s with fs.aon.switching := none }) ((fun s => { s with fs.aon.accepted := some .standby }) up)))), by decide +kernel⟩,
   ⟨(fun s => { s with fs.link.prio := [] }) ((fun s => { s with fs.link.rsps := [] }) ((fun s => { s with fs.aon.retained := false }) ((fun s => { s with fs.aon.switching := none }) ((fun s => { s with fs.aon.accepted := some .run }) up)))), by decide +kernel⟩,
   ⟨(fun s => { s with fs.xferWait := [] }) ((fun s => { s with fs.aon.held := none }) ((fun s => { s with fs.us := .sleep }) ((fun s => { s with fs.aon.switching := some .run }) up))), by decide +kernel⟩,
   ⟨(put PWR_CTRL.RETAIN (0)) ((fun s => { s with fs.aon.held := none }) ((fun s => { s with fs.aon.switching := some .standby }) up)), by decide +kernel⟩,
   ⟨(fun s => { s with fs.aon.switching := some .deep }) up, by decide +kernel⟩,
   ⟨(fun s => { s with fs.aon.cold := true }) up, by decide +kernel⟩,
   ⟨(fun s => { s with fs.link.prio := [] }) ((fun s => { s with fs.link.rsps := [] }) ((fun s => { s with fs.aon.retained := false }) ((fun s => { s with fs.aon.switching := none }) ((fun s => { s with fs.aon.accepted := some .deep }) up)))), by decide +kernel⟩,
   ⟨(fun s => { s with fs.store.wb := Vector.replicate 8 [] }) ((put PWR_CTRL.RETAIN (1)) ((fun s => { s with fs.aon.held := none }) ((fun s => { s with fs.aon.switching := some .standby }) up))), by decide +kernel⟩⟩

/-- The hypotheses of each clause of WakeFromDeepSleep can be met together. -/
theorem test_wit_WakeFromDeepSleep :
    (∃ (s : State), s.fs.pd 1 = true ∧ s.hs.powered = true ∧ s.fs.aon.ps ≠ .deep)
    ∧ (∃ (s : State), s.fs.pd 1 = true ∧ s.hs.powered = true ∧ s.hs.wake = true ∧ s.fs.link.wakeRun = 1 ∧ s.fs.aon.ps = .deep ∧ s.fs.aon.wakePend = false ∧ s.fs.us ≠ .thermalShutdown)
    ∧ (∃ (err : BitVec 3) (s : State), s.fs.pd 1 = true ∧ (s.hs.powered = false ∨ err = 1 ∨ err = 2 ∨ err = 4 ∨ err = 7))
    ∧ (∃ (s : State), s.fs.pd 1 = true ∧ s.hs.powered = true ∧ s.fs.us = .thermalShutdown)
    ∧ (∃ (s : State), s.fs.aon.wakePend = true ∧ s.fs.aon.cold = false ∧ s.fs.us = .sleep) :=
  ⟨⟨(fun s => { s with hs.powered := true }) up, by decide +kernel⟩,
   ⟨(fun s => { s with fs.aon.wakePend := false }) ((fun s => { s with fs.aon.ps := .deep }) ((fun s => { s with fs.link.wakeRun := 1 }) ((fun s => { s with hs.wake := true }) ((fun s => { s with hs.powered := true }) up)))), by decide +kernel⟩,
   ⟨(1 : BitVec 3), (fun s => { s with hs.powered := false }) up, by decide +kernel⟩,
   ⟨(fun s => { s with fs.us := .thermalShutdown }) ((fun s => { s with hs.powered := true }) up), by decide +kernel⟩,
   ⟨(fun s => { s with fs.us := .sleep }) ((fun s => { s with fs.aon.cold := false }) ((fun s => { s with fs.aon.wakePend := true }) up)), by decide +kernel⟩⟩

/-- The hypotheses of each clause of StreamCommands can be met together. -/
theorem test_wit_StreamCommands :
    (∃ (k : Byte) (s : State), s.fs.on 3 = true ∧ strdAbsent s.fs.u k.toNat = false ∧ k ≠ 161 ∧ ¬ (168 ≤ k.toNat ∧ k.toNat < 192) ∧ s.fs.strdBusy k.toNat = false)
    ∧ (∃ (k : Byte) (s : State), s.fs.on 3 = true ∧ strdAbsent s.fs.u k.toNat = false)
    ∧ (∃ (k : Byte) (word : Word) (s : State), s.fs.on 3 = true ∧ refusal (s.fs.strdCheck (Wr.one (STRD_CFG.EN k.toNat).addr word)) = none)
    ∧ (∃ (k : Byte) (word : Word) (o : Nat) (s : State), s.fs.on 3 = true ∧ (refusal (s.fs.strdCheck (Wr.one (STRD_CFG.EN k.toNat).addr word))).isSome = true ∧ s.fs.strdClash (Wr.one (STRD_CFG.EN k.toNat).addr word) (strdWritten s.fs.u (Wr.one (STRD_CFG.EN k.toNat).addr word)) (ringsOf s.fs.u (s.fs.strdFrom (Wr.one (STRD_CFG.EN k.toNat).addr word))) = some (k.toNat, o))
    ∧ (∃ (k : Byte) (h : HeldRec) (q : List HeldRec) (s : State), s.fs.pd 4 = true ∧ s.fs.aon.retained = false ∧ (s.fs.sst k.toNat).held = h :: q ∧ s.fs.streamOn k.toNat = true ∧ s.fs.fits k.toNat h.data.length = true) :=
  ⟨⟨(0x33 : Byte), up, by decide +kernel⟩,
   ⟨(0x33 : Byte), up, by decide +kernel⟩,
   ⟨(0x33 : Byte), (5 : Word), up, by decide +kernel⟩,
   ⟨(20 : Byte), (0x1000D000 : Word), 0, up, by decide +kernel⟩,
   ⟨(3 : Byte), (⟨0, 2, true, false, [1, 2, 3]⟩ : HeldRec), default, (let h : HeldRec := (⟨0, 2, true, false, [1, 2, 3]⟩ : HeldRec); let q : List HeldRec := default; (fsU (fun t => { t with store := { t.store with streams := smSet (fun _ => StreamSt.fresh) t.store.streams 3 { t.sst 3 with held := h :: q } } })) ((fun s => { s with fs.aon.retained := false }) up)), by decide +kernel⟩⟩

/-- The hypotheses of each clause of StoreMaintenance can be met together. -/
theorem test_wit_StoreMaintenance :
    (∃ (bank : Fin 8) (e : WbEntry) (q : List WbEntry) (s : State), s.fs.pd 4 = true ∧ s.fs.aon.retained = false ∧ s.fs.g CSG_STAT.INIT_DONE = 1 ∧ s.fs.store.wb[bank] = e :: q ∧ e.addr < 0x1E0000)
    ∧ (∃ (bank : Fin 8) (upset : BitVec 72) (s : State) (t : Tail) (r : Tail) (a : Nat), s.fs.storeUp = true ∧ s.fs.cfb CSA_CTRL.SCRUB_EN = true ∧ s.fs.thd.scrubT = none ∧ s.fs.store.wb[bank] = [] ∧ s.fs.store.inj = [] ∧ s.fs.store.scrub[bank] < 0x3C000 ∧ t = s.fs.elapseTo (s.fs.store.paceFrom + s.fs.store.scrub[bank] * (max 8 (min 60 (s.fs.cf CSA_CTRL.PERIOD)) * 400000000) / 0x40000) ∧ a = 8 * s.fs.store.scrub[bank] + bank.val ∧ r = ((t.memPut a (t.memGet a ^^^ upset)).memRead a).2)
    ∧ (∃ (bank : Fin 8) (s : State), s.fs.storeUp = true ∧ s.fs.cfb CSA_CTRL.SCRUB_EN = true ∧ s.fs.thd.scrubT = none ∧ s.fs.store.scrub[bank] < 0x40000 ∧ s.fs.store.catchUp[bank].length < 64)
    ∧ (∃ (bank : Fin 8) (a : Nat) (l : List Nat) (s : State), s.fs.storeUp = true ∧ s.fs.cfb CSA_CTRL.SCRUB_EN = true ∧ s.fs.thd.scrubT = none ∧ 0x40000 ≤ s.fs.store.scrub[bank] ∧ s.fs.store.catchUp[bank] = a :: l ∧ l.length < 64)
    ∧ (∃ (word : Word) (s : State), s.fs.on 3 = true ∧ fdGet CSA_INJ.MODE word = 1 ∧ fdGet CSA_INJ.ADDR word < 0x1E0000 ∧ (s.fs.stns.all (fun n => (s.fs.stnGet n).sq.st = .disabled || (s.fs.stnGet n).sq.st = .ready)) = true)
    ∧ (∃ (i : Injection) (q : List Injection) (s : State), s.fs.storeUp = true ∧ s.fs.store.inj = i :: q ∧ s.fs.store.wb[bankOf i.addr] = [] ∧ syndrome i.addr (s.fs.memGet i.addr) = 0) :=
  ⟨⟨(0 : Fin 8), (⟨40, false, 0x55⟩ : WbEntry), ([] : List WbEntry), (let bank : Fin 8 := (0 : Fin 8); let e : WbEntry := (⟨40, false, 0x55⟩ : WbEntry); let q : List WbEntry := ([] : List WbEntry); (fsU (fun t => { t with store := { t.store with wb := t.store.wb.set bank (e :: q) } })) ((put CSG_STAT.INIT_DONE (1)) ((fun s => { s with fs.aon.retained := false }) up))), by decide +kernel⟩,
   ⟨(5 : Fin 8), (0 : BitVec 72), (fun s => { s with fs.store.inj := [] }) ((fun s => { s with fs.thd.scrubT := none }) ((put CSA_CTRL.SCRUB_EN 1) up)), (let s : State := (fun s => { s with fs.store.inj := [] }) ((fun s => { s with fs.thd.scrubT := none }) ((put CSA_CTRL.SCRUB_EN 1) up)); (let s : State := (fun s => { s with fs.store.inj := [] }) ((fun s => { s with fs.thd.scrubT := none }) ((put CSA_CTRL.SCRUB_EN 1) up)); s.fs.elapseTo (s.fs.store.paceFrom + s.fs.store.scrub[(5 : Fin 8)] * (max 8 (min 60 (s.fs.cf CSA_CTRL.PERIOD)) * 400000000) / 0x40000))), (let s : State := (fun s => { s with fs.store.inj := [] }) ((fun s => { s with fs.thd.scrubT := none }) ((put CSA_CTRL.SCRUB_EN 1) up)); let t : Tail := (let s : State := (fun s => { s with fs.store.inj := [] }) ((fun s => { s with fs.thd.scrubT := none }) ((put CSA_CTRL.SCRUB_EN 1) up)); s.fs.elapseTo (s.fs.store.paceFrom + s.fs.store.scrub[(5 : Fin 8)] * (max 8 (min 60 (s.fs.cf CSA_CTRL.PERIOD)) * 400000000) / 0x40000)); (let t : Tail := (let s : State := (fun s => { s with fs.store.inj := [] }) ((fun s => { s with fs.thd.scrubT := none }) ((put CSA_CTRL.SCRUB_EN 1) up)); s.fs.elapseTo (s.fs.store.paceFrom + s.fs.store.scrub[(5 : Fin 8)] * (max 8 (min 60 (s.fs.cf CSA_CTRL.PERIOD)) * 400000000) / 0x40000)); ((t.memPut 5 (t.memGet 5 ^^^ (0 : BitVec 72))).memRead 5).2)), 5, by decide +kernel⟩,
   ⟨(5 : Fin 8), (fun s => { s with fs.thd.scrubT := none }) ((put CSA_CTRL.SCRUB_EN 1) up), by decide +kernel⟩,
   ⟨(5 : Fin 8), 5, [9], (let bank : Fin 8 := (5 : Fin 8); let a : Nat := 5; let l : List Nat := [9]; (fsU (fun t => { t with store := { t.store with scrub := t.store.scrub.set bank 0x40000, catchUp := t.store.catchUp.set bank (a :: l) } })) ((fun s => { s with fs.thd.scrubT := none }) ((put CSA_CTRL.SCRUB_EN 1) up))), by decide +kernel⟩,
   ⟨(0x40000123 : Word), up, by decide +kernel⟩,
   ⟨(⟨0x77, 4⟩ : Injection), ([] : List Injection), (let i : Injection := (⟨0x77, 4⟩ : Injection); let q : List Injection := ([] : List Injection); (fun s => { s with fs.store.inj := i :: q }) up), by decide +kernel⟩⟩

/-- The hypotheses of each clause of PreChargeAndDischarge can be met together. -/
theorem test_wit_PreChargeAndDischarge :
    (∃ (g : Fin 2) (s : State), s.fs.sqcUp = true ∧ s.fs.g (PG_CTRL.ENABLE 0x21) = 1 ∧ s.fs.enabled 0x21 = true ∧ s.fs.g (PCHG_GCFG.MODE g.val) = 1 ∧ s.fs.inRun = true ∧ s.fs.grp[g].dwell = false ∧ (s.fs.grp[g].st = .idle ∨ s.fs.grp[g].st = .failed ∨ s.fs.grp[g].st = .aborted) ∧ s.fs.dwellStns (s.fs.grpStns g) = none)
    ∧ (∃ (g : Fin 2) (v w : Nat) (s : State), s.fs.sqcUp = true ∧ s.fs.g (PCHG_GCFG.MODE g.val) ≠ 2 ∧ s.fs.grp[g].st = .idle ∧ v = (if s.fs.fitted (s.fs.g (PCHG_GCFG.VSRC g.val)) = true then (roundDiv (s.fs.vlink (Fin.ofNat 4 (s.fs.g (PCHG_GCFG.VSRC g.val)))) 10000).toNat else w))
    ∧ (∃ (g : Fin 2) (v w : Nat) (s : State), s.fs.sqcUp = true ∧ s.fs.g (PCHG_GCFG.MODE g.val) ≠ 2 ∧ s.fs.grp[g].st = .ramp ∧ v = (if s.fs.fitted (s.fs.g (PCHG_GCFG.VSRC g.val)) = true then (roundDiv (s.fs.vlink (Fin.ofNat 4 (s.fs.g (PCHG_GCFG.VSRC g.val)))) 10000).toNat else w) ∧ s.fs.g (PCHG_GTHR.VDONE g.val) * 100 ≤ v)
    ∧ (∃ (g : Fin 2) (s : State), s.fs.grp[g].st = .ramp ∧ s.fs.grp[g].retries = 0)
    ∧ (∃ (g : Fin 2) (d : Nat) (s : State), s.fs.grp[g].st = .waitRetry ∧ s.fs.grp[g].dwell = false ∧ s.fs.grp[g].wait = some d ∧ s.fs.dwellStns (s.fs.grpStns g) = none)
    ∧ (∃ (g : Fin 2) (d : Nat) (s : State), s.fs.sqcUp = true ∧ s.fs.g (PG_CTRL.ENABLE 0x21) = 1 ∧ s.fs.enabled 0x21 = true ∧ s.fs.g (PCHG_GCFG.MODE g.val) = 1 ∧ s.fs.inRun = true ∧ s.fs.grp[g].dwell = false ∧ (s.fs.grp[g].st = .idle ∨ s.fs.grp[g].st = .failed ∨ s.fs.grp[g].st = .aborted) ∧ s.fs.dwellStns (s.fs.grpStns g) = some d)
    ∧ (∃ (g : Fin 2) (s : State), s.fs.grp[g].st = .ramp ∧ s.fs.grp[g].retries ≠ 0)
    ∧ (∃ (g : Fin 2) (s : State), s.fs.sqcUp = true ∧ s.fs.g (PG_CTRL.ENABLE 0x21) = 1 ∧ (s.fs.grpStns g).any (fun n => (s.fs.stnGet n).sq.st.isRunning) = true)
    ∧ (∃ (g : Fin 2) (s : State), s.fs.sqcUp = true ∧ s.fs.g (PG_CTRL.ENABLE 0x21) = 1 ∧ s.fs.g (PCHG_GCFG.MODE g.val) ≠ 2 ∧ (s.fs.grpStns g).any (fun n => (s.fs.stnGet n).sq.st.isRunning) = false ∧ s.fs.grp[g].st ≠ .waitRetry)
    ∧ (∃ (g : Fin 2) (v w : Nat) (s : State), s.fs.sqcUp = true ∧ s.fs.g (PCHG_GCFG.MODE g.val) ≠ 2 ∧ s.fs.grp[g].st = .discharging ∧ v = (if s.fs.fitted (s.fs.g (PCHG_GCFG.VSRC g.val)) = true then (roundDiv (s.fs.vlink (Fin.ofNat 4 (s.fs.g (PCHG_GCFG.VSRC g.val)))) 10000).toNat else w) ∧ v < s.fs.g (PCHG_GTHR.VSAFE g.val) * 100)
    ∧ (∃ (g : Fin 2) (s : State), s.fs.sqcUp = true ∧ s.fs.g (PG_CTRL.ENABLE 0x21) = 1 ∧ (s.fs.grpStns g).any (fun n => (s.fs.stnGet n).sq.st.isRunning) = false) :=
  ⟨⟨(1 : Fin 2), (let g : Fin 2 := (1 : Fin 2); (fsU (fun t => { t with grp := t.grp.set g { t.grp[g] with st := .idle } })) ((fsU (fun t => { t with grp := t.grp.set g { t.grp[g] with dwell := false } })) ((put (PCHG_GCFG.MODE g.val) (1)) ((put (PG_CTRL.ENABLE 0x21) 1) ((put (PG_CTRL.ENABLE 0x21) (1)) up))))), by decide +kernel⟩,
   ⟨(1 : Fin 2), 0, 7, (let g : Fin 2 := (1 : Fin 2); (fsU (fun t => { t with grp := t.grp.set g { t.grp[g] with st := .idle } })) up), by decide +kernel⟩,
   ⟨(1 : Fin 2), 0, 7, (let g : Fin 2 := (1 : Fin 2); (put (PCHG_GTHR.VDONE g.val) 0) ((fsU (fun t => { t with grp := t.grp.set g { t.grp[g] with st := .ramp } })) up)), by decide +kernel⟩,
   ⟨(1 : Fin 2), (let g : Fin 2 := (1 : Fin 2); (fsU (fun t => { t with grp := t.grp.set g { t.grp[g] with retries := 0 } })) ((fsU (fun t => { t with grp := t.grp.set g { t.grp[g] with st := .ramp } })) up)), by decide +kernel⟩,
   ⟨(1 : Fin 2), 7, (let g : Fin 2 := (1 : Fin 2); let d : Nat := 7; (fsU (fun t => { t with grp := t.grp.set g { t.grp[g] with wait := some d } })) ((fsU (fun t => { t with grp := t.grp.set g { t.grp[g] with dwell := false } })) ((fsU (fun t => { t with grp := t.grp.set g { t.grp[g] with st := .waitRetry } })) up))), by decide +kernel⟩,
   ⟨(1 : Fin 2), (let g : Fin 2 := (1 : Fin 2); (((let g : Fin 2 := (1 : Fin 2); (stU 0 (fun x => { x with thm := x.thm.set 0 { x.thm[0] with highWarn := true, max := some 900 } })) ((put THD_DWELL.DWELL_BASE 500) ((fsU (fun t => { t with grp := t.grp.set g { t.grp[g] with st := .idle } })) ((fsU (fun t => { t with grp := t.grp.set g { t.grp[g] with dwell := false } })) ((put (PCHG_GCFG.MODE g.val) (1)) ((put (PG_CTRL.ENABLE 0x21) 1) ((put (PG_CTRL.ENABLE 0x21) (1)) up)))))))).fs.dwellStns (((let g : Fin 2 := (1 : Fin 2); (stU 0 (fun x => { x with thm := x.thm.set 0 { x.thm[0] with highWarn := true, max := some 900 } })) ((put THD_DWELL.DWELL_BASE 500) ((fsU (fun t => { t with grp := t.grp.set g { t.grp[g] with st := .idle } })) ((fsU (fun t => { t with grp := t.grp.set g { t.grp[g] with dwell := false } })) ((put (PCHG_GCFG.MODE g.val) (1)) ((put (PG_CTRL.ENABLE 0x21) 1) ((put (PG_CTRL.ENABLE 0x21) (1)) up)))))))).fs.grpStns g)).getD 0), (let g : Fin 2 := (1 : Fin 2); (stU 0 (fun x => { x with thm := x.thm.set 0 { x.thm[0] with highWarn := true, max := some 900 } })) ((put THD_DWELL.DWELL_BASE 500) ((fsU (fun t => { t with grp := t.grp.set g { t.grp[g] with st := .idle } })) ((fsU (fun t => { t with grp := t.grp.set g { t.grp[g] with dwell := false } })) ((put (PCHG_GCFG.MODE g.val) (1)) ((put (PG_CTRL.ENABLE 0x21) 1) ((put (PG_CTRL.ENABLE 0x21) (1)) up))))))), by decide +kernel⟩,
   ⟨(1 : Fin 2), (let g : Fin 2 := (1 : Fin 2); (fsU (fun t => { t with grp := t.grp.set g { t.grp[g] with retries := 2 } })) ((fsU (fun t => { t with grp := t.grp.set g { t.grp[g] with st := .ramp } })) up)), by decide +kernel⟩,
   ⟨(1 : Fin 2), (let g : Fin 2 := (1 : Fin 2); (stU 1 (fun x => { x with sq.st := .running })) ((put (PCHG_GCFG.STN_MASK g.val) 2) ((put (PG_CTRL.ENABLE 0x21) (1)) up))), by decide +kernel⟩,
   ⟨(1 : Fin 2), (put (PG_CTRL.ENABLE 0x21) (1)) up, by decide +kernel⟩,
   ⟨(1 : Fin 2), 0, 7, (let g : Fin 2 := (1 : Fin 2); (put (PCHG_GTHR.VSAFE g.val) 50) ((fsU (fun t => { t with grp := t.grp.set g { t.grp[g] with st := .discharging } })) up)), by decide +kernel⟩,
   ⟨(1 : Fin 2), (put (PG_CTRL.ENABLE 0x21) (1)) up, by decide +kernel⟩⟩

/-- The hypotheses of each clause of DigitalIo can be met together. -/
theorem test_wit_DigitalIo :
    (∃ (s : State), s.fs.pd 3 = true)
    ∧ (∃ (k : Fin 8) (s : State), s.fs.sqcUp = true ∧ s.fs.g (PG_CTRL.ENABLE 0x22) = 1 ∧ s.fs.g (DIO_OCFG.AUX_EN k.val) = 1 ∧ s.fs.g (DIO_OCFG.FUNC k.val) = 0 ∧ s.fs.dio.di.getLsbD (s.fs.g (DIO_OCFG.AUX_IN k.val)) ≠ (s.fs.doCmd k.val != s.fs.b (DIO_OCFG.AUX_POL k.val)))
    ∧ (∃ (k : Fin 8) (n : Stn) (s : State), s.fs.sqcUp = true ∧ s.fs.g (PG_CTRL.ENABLE 0x22) = 1 ∧ s.fs.g (DIO_OCFG.AUX_EN k.val) = 1 ∧ s.fs.g (DIO_OCFG.FUNC k.val) = 8 + n.val ∧ (s.fs.stnGet n).sq.brake = true ∧ s.fs.dio.di.getLsbD (s.fs.g (DIO_OCFG.AUX_IN k.val)) ≠ (s.fs.doCmd k.val != s.fs.b (DIO_OCFG.AUX_POL k.val)))
    ∧ (∃ (k : Fin 8) (s : State), s.fs.doOn k.val = true)
    ∧ (∃ (t : Tail), t.dio.low = true) :=
  ⟨⟨up, by decide +kernel⟩,
   ⟨(5 : Fin 8), (let k : Fin 8 := (5 : Fin 8); (put (DIO_OCFG.AUX_POL k.val) 0) ((fsU (fun t => { t with dio.di := 0xFF })) ((put (DIO_OUT.OUT) 0) ((put (DIO_OCFG.FUNC k.val) (0)) ((put (DIO_OCFG.AUX_EN k.val) (1)) ((put (PG_CTRL.ENABLE 0x22) (1)) up)))))), by decide +kernel⟩,
   ⟨(5 : Fin 8), (1 : Stn), (let k : Fin 8 := (5 : Fin 8); let n : Stn := (1 : Stn); (put (DIO_OCFG.AUX_POL k.val) 0) ((fsU (fun t => { t with dio.di := 0 })) ((put (DIO_OUT.OUT) 0) ((stU n (fun x => { x with sq.brake := true })) ((put (DIO_OCFG.FUNC k.val) (8 + n.val)) ((put (DIO_OCFG.AUX_EN k.val) (1)) ((put (PG_CTRL.ENABLE 0x22) (1)) up))))))), by decide +kernel⟩,
   ⟨(5 : Fin 8), (let k : Fin 8 := (5 : Fin 8); (fsU (fun t => { t with dio.low := false })) ((put DIO_OSTAT.OVL 0) ((put (PG_CTRL.ENABLE 0x22) 1) ((put (DIO_OCFG.FUNC k.val) 0) ((put DIO_OUT.OUT 0xFF) up))))), by decide +kernel⟩,
   ⟨{ up.fs with dio.low := true }, by decide +kernel⟩⟩

/-- The hypotheses of each clause of ArmingAndRequests can be met together. -/
theorem test_wit_ArmingAndRequests :
    (∃ (s : State), s.fs.sqcUp = true ∧ s.fs.armBlock = 0 ∧ s.fs.us = .readySafe)
    ∧ (∃ (s : State), s.fs.sqcUp = true ∧ s.fs.armBlock ≠ 0)
    ∧ (∃ (s : State), s.fs.sqcUp = true ∧ s.fs.us = .armed)
    ∧ (∃ (s : State), s.fs.sqcUp = true ∧ s.fs.us = .run ∧ s.fs.u.tw2 = false ∧ (s.fs.stnGet 0).sq.st = .running ∧ (s.fs.stnGet 0).sq.pendStop = none ∧ (s.fs.stnGet 1).sq.st = .emergency ∧ (s.fs.stnGet 2).sq.st = .ready ∧ (s.fs.stnGet 3).sq.st = .disabled)
    ∧ (∃ (word : Word) (s : State), s.fs.sqcUp = true ∧ fdGet SEQ_RESET.KEY word = 0x5EC0 ∧ fdGet SEQ_RESET.EPOCH word = s.fs.aon.epoch.toNat % 2 ^ 16 ∧ (s.fs.us = .readySafe ∨ s.fs.us = .fault) ∧ s.fs.anyRunning = false)
    ∧ (∃ (n : Stn) (s : State), s.fs.sqcUp = true ∧ s.fs.fitted n.val = true)
    ∧ (∃ (n : Stn) (s : State), s.fs.sqcUp = true ∧ s.fs.fitted n.val = true ∧ (s.fs.stnGet n).sq.pendStop = none)
    ∧ (∃ (n : Stn) (o : StopReq) (s : State), s.fs.sqcUp = true ∧ s.fs.fitted n.val = true ∧ (s.fs.stnGet n).sq.pendStop = some o)
    ∧ (∃ (n : Stn) (word : Word) (s : State), s.fs.sqcUp = true ∧ s.fs.fitted n.val = true ∧ (s.fs.stnGet n).sq.pendStop = none ∧ fdGet EMG_CMD.STOP word = 2 ^ n.val ∧ fdGet EMG_CMD.CAT word = 1)
    ∧ (∃ (n : Stn) (word : Word) (s : State), s.fs.sqcUp = true ∧ s.fs.fitted n.val = true ∧ (s.fs.stnGet n).sq.pendStop = none ∧ fdGet EMG_CMD.STOP word = 2 ^ n.val ∧ fdGet EMG_CMD.CAT word = 2)
    ∧ (∃ (word : Word), (fdGet EMG_CMD.CAT word = 0 ∨ fdGet EMG_CMD.CAT word = 3))
    ∧ (∃ (n : Stn) (s : State), s.fs.us = .boot ∧ s.fs.on 3 = true ∧ s.fs.fitted n.val = true) :=
  ⟨⟨(put STO_STAT.DIAG_FAIL 0) ((put STO_STAT.STO_DISC 0) ((fun s => { s with fs.us := .readySafe }) up)), by decide +kernel⟩,
   ⟨(fsU (fun t => { t with sto.a := false })) up, by decide +kernel⟩,
   ⟨(fun s => { s with fs.us := .armed }) up, by decide +kernel⟩,
   ⟨(stU 3 (fun x => { x with sq.st := .disabled })) ((stU 2 (fun x => { x with sq.st := .ready })) ((stU 1 (fun x => { x with sq.st := .emergency })) ((stU 0 (fun x => { x with sq.pendStop := none })) ((stU 0 (fun x => { x with sq.st := .running })) ((fun s => { s with fs.u.tw2 := false }) ((fun s => { s with fs.us := .run }) up)))))), by decide +kernel⟩,
   ⟨(0x5EC00000 : Word), (aonU (fun a => { a with epoch := 0 })) ((fun s => { s with fs.us := .readySafe }) up), by decide +kernel⟩,
   ⟨(1 : Stn), up, by decide +kernel⟩,
   ⟨(1 : Stn), (let n : Stn := (1 : Stn); (stU n (fun x => { x with sq.pendStop := none })) up), by decide +kernel⟩,
   ⟨(1 : Stn), (⟨true, false, false, true⟩ : StopReq), (let n : Stn := (1 : Stn); let o : StopReq := (⟨true, false, false, true⟩ : StopReq); (stU n (fun x => { x with sq.pendStop := some o })) up), by decide +kernel⟩,
   ⟨(1 : Stn), (let n : Stn := (1 : Stn); ((1 : Word) <<< (n.val + 4) ||| 1 : Word)), (let n : Stn := (1 : Stn); (stU n (fun x => { x with sq.pendStop := none })) up), by decide +kernel⟩,
   ⟨(1 : Stn), (let n : Stn := (1 : Stn); ((1 : Word) <<< (n.val + 4) ||| 2 : Word)), (let n : Stn := (1 : Stn); (stU n (fun x => { x with sq.pendStop := none })) up), by decide +kernel⟩,
   ⟨(0x14 : Word), by decide +kernel⟩,
   ⟨(1 : Stn), (fun s => { s with fs.us := .boot }) up, by decide +kernel⟩⟩

/-- The hypotheses of each clause of CommandPoint can be met together. -/
theorem test_wit_CommandPoint :
    (∃ (n : Stn) (s : State), s.fs.fitted n.val = true ∧ s.fs.on 6 = true ∧ s.fs.sqcUp = true ∧ s.fs.diagOn = false ∧ (s.fs.stnGet n).sq.st = .ready ∧ (s.fs.stnGet n).sq.pendStart = true ∧ (s.fs.stnGet n).sq.pendStop = none ∧ (s.fs.stnGet n).sq.pendExit = false ∧ (s.fs.stnGet n).sq.pendRelease = false ∧ (s.fs.stnGet n).share.role = .none ∧ s.fs.block n ≠ 0)
    ∧ (∃ (n : Stn) (s : State), s.fs.fitted n.val = true ∧ s.fs.on 6 = true ∧ s.fs.sqcUp = true ∧ s.fs.diagOn = false ∧ (s.fs.stnGet n).sq.st = .ready ∧ (s.fs.stnGet n).sq.pendStart = true ∧ (s.fs.stnGet n).sq.pendStop = none ∧ (s.fs.stnGet n).sq.pendExit = false ∧ (s.fs.stnGet n).sq.pendRelease = false ∧ (s.fs.stnGet n).share.role = .none ∧ s.fs.block n = 0 ∧ s.fs.unitFault = false ∧ s.fs.g (PROT_ACT.ACT n) = 0 ∧ s.fs.enabled (stnPage n 0xD) = true ∧ (s.fs.stnGet n).modu.fb &&& s.fs.usedCh n = 0)
    ∧ (∃ (n : Stn) (o : StopReq) (s : State), s.fs.fitted n.val = true ∧ s.fs.on 6 = true ∧ s.fs.sqcUp = true ∧ s.fs.diagOn = false ∧ (s.fs.stnGet n).sq.st = .ready ∧ (s.fs.stnGet n).sq.pendStart = true ∧ (s.fs.stnGet n).sq.pendStop = some o ∧ (s.fs.stnGet n).share.role = .none)
    ∧ (∃ (n : Stn) (s : State), s.fs.fitted n.val = true ∧ s.fs.on 6 = true ∧ s.fs.sqcUp = true ∧ (s.fs.stnGet n).sq.st = .running ∧ (s.fs.stnGet n).sq.pendStart = false ∧ (s.fs.stnGet n).sq.pendStop = some ⟨false, false, false, true⟩ ∧ s.fs.dio.lever = false ∧ (s.fs.stnGet n).share.role = .none ∧ s.fs.us = .run ∧ s.fs.unitFault = false ∧ (s.fs.stnGet n).sq.step = .none) :=
  ⟨⟨(1 : Stn), (let n : Stn := (1 : Stn); (stU n (fun x => { x with share.role := .none })) ((stU n (fun x => { x with sq.pendRelease := false })) ((stU n (fun x => { x with sq.pendExit := false })) ((stU n (fun x => { x with sq.pendStop := none })) ((stU n (fun x => { x with sq.pendStart := true })) ((stU n (fun x => { x with sq.st := .ready })) up)))))), by decide +kernel⟩,
   ⟨(1 : Stn), (let n : Stn := (1 : Stn); (fsU (fun t => { t with grp := t.grp.set 0 { t.grp[0] with st := .charged } })) ((put (PCHG_GCFG.STN_MASK 0) 15) ((put (PCHG_GCFG.MODE 0) 1) ((put (STN_UBASE.VALUE n) 100) ((put (STN_TBASE.VALUE n) 100) ((put (STN_NBASE.VALUE n) 100) ((put (STN_IBASE.VALUE n) 100) ((put (PG_CTRL.ENABLE (stnPage n 0)) 1) ((fsU (fun t => { t with us := .armed })) ((put (PG_CTRL.ENABLE (stnPage n 0xD)) 1) ((put (PROT_ACT.ACT n) (0)) ((stU n (fun x => { x with share.role := .none })) ((stU n (fun x => { x with sq.pendRelease := false })) ((stU n (fun x => { x with sq.pendExit := false })) ((stU n (fun x => { x with sq.pendStop := none })) ((stU n (fun x => { x with sq.pendStart := true })) ((stU n (fun x => { x with sq.st := .ready })) up))))))))))))))))), by decide +kernel⟩,
   ⟨(1 : Stn), (⟨true, false, false, true⟩ : StopReq), (let n : Stn := (1 : Stn); let o : StopReq := (⟨true, false, false, true⟩ : StopReq); (stU n (fun x => { x with share.role := .none })) ((stU n (fun x => { x with sq.pendStop := some o })) ((stU n (fun x => { x with sq.pendStart := true })) ((stU n (fun x => { x with sq.st := .ready })) up)))), by decide +kernel⟩,
   ⟨(1 : Stn), (let n : Stn := (1 : Stn); (stU n (fun x => { x with sq.step := .none })) ((fun s => { s with fs.us := .run }) ((stU n (fun x => { x with share.role := .none })) ((fun s => { s with fs.dio.lever := false }) ((stU n (fun x => { x with sq.pendStop := some ⟨false, false, false, true⟩ })) ((stU n (fun x => { x with sq.pendStart := false })) ((stU n (fun x => { x with sq.st := .running })) up))))))), by decide +kernel⟩⟩

/-- The hypotheses of each clause of StartSequence can be met together. -/
theorem test_wit_StartSequence :
    (∃ (n : Stn) (d : Nat) (s : State), (s.fs.stnGet n).sq.st = .magnetizing ∧ (s.fs.stnGet n).sq.step = .flux ∧ (s.fs.stnGet n).sq.t = some d ∧ (s.fs.stnGet n).sq.abandon = false ∧ s.fs.cf (STN_CFG.BRAKE_EN n) = 1 ∧ s.fs.dwellStns [n] = none)
    ∧ (∃ (n : Stn) (d : Nat) (s : State), (s.fs.stnGet n).sq.st = .magnetizing ∧ (s.fs.stnGet n).sq.step = .flux ∧ (s.fs.stnGet n).sq.t = some d ∧ (s.fs.stnGet n).sq.abandon = false ∧ s.fs.cf (STN_CFG.BRAKE_EN n) = 0)
    ∧ (∃ (n : Stn) (d : Nat) (s : State), (s.fs.stnGet n).sq.st = .magnetizing ∧ (s.fs.stnGet n).sq.step = .prove ∧ (s.fs.stnGet n).sq.t = some d ∧ (s.fs.stnGet n).sq.abandon = false ∧ (s.fs.stnGet n).sq.proved = false)
    ∧ (∃ (n : Stn) (d : Nat) (s : State), (s.fs.stnGet n).sq.st = .magnetizing ∧ (s.fs.stnGet n).sq.step = .prove ∧ (s.fs.stnGet n).sq.t = some d ∧ (s.fs.stnGet n).sq.abandon = false ∧ (s.fs.stnGet n).sq.proved = true)
    ∧ (∃ (n : Stn) (d : Nat) (s : State), (s.fs.stnGet n).sq.st = .magnetizing ∧ (s.fs.stnGet n).sq.step = .tRel ∧ (s.fs.stnGet n).sq.t = some d ∧ (s.fs.stnGet n).sq.abandon = false ∧ (s.fs.stnGet n).share.role = .follower) :=
  ⟨⟨(1 : Stn), 7, (let n : Stn := (1 : Stn); let d : Nat := 7; (put (STN_CFG.BRAKE_EN n) (1)) ((stU n (fun x => { x with sq.abandon := false })) ((stU n (fun x => { x with sq.t := some d })) ((stU n (fun x => { x with sq.step := .flux })) ((stU n (fun x => { x with sq.st := .magnetizing })) up))))), by decide +kernel⟩,
   ⟨(1 : Stn), 7, (let n : Stn := (1 : Stn); let d : Nat := 7; (put (STN_CFG.BRAKE_EN n) (0)) ((stU n (fun x => { x with sq.abandon := false })) ((stU n (fun x => { x with sq.t := some d })) ((stU n (fun x => { x with sq.step := .flux })) ((stU n (fun x => { x with sq.st := .magnetizing })) up))))), by decide +kernel⟩,
   ⟨(1 : Stn), 7, (let n : Stn := (1 : Stn); let d : Nat := 7; (stU n (fun x => { x with sq.proved := false })) ((stU n (fun x => { x with sq.abandon := false })) ((stU n (fun x => { x with sq.t := some d })) ((stU n (fun x => { x with sq.step := .prove })) ((stU n (fun x => { x with sq.st := .magnetizing })) up))))), by decide +kernel⟩,
   ⟨(1 : Stn), 7, (let n : Stn := (1 : Stn); let d : Nat := 7; (stU n (fun x => { x with sq.proved := true })) ((stU n (fun x => { x with sq.abandon := false })) ((stU n (fun x => { x with sq.t := some d })) ((stU n (fun x => { x with sq.step := .prove })) ((stU n (fun x => { x with sq.st := .magnetizing })) up))))), by decide +kernel⟩,
   ⟨(1 : Stn), 7, (let n : Stn := (1 : Stn); let d : Nat := 7; (stU n (fun x => { x with share.role := .follower })) ((stU n (fun x => { x with sq.abandon := false })) ((stU n (fun x => { x with sq.t := some d })) ((stU n (fun x => { x with sq.step := .tRel })) ((stU n (fun x => { x with sq.st := .magnetizing })) up))))), by decide +kernel⟩⟩

/-- The hypotheses of each clause of StopSequence can be met together. -/
theorem test_wit_StopSequence :
    (∃ (n : Stn) (r : StopReq) (s : State), (s.fs.stnGet n).sq.st.isRunning = true ∧ (s.fs.stnGet n).sq.step = .ramp ∧ 10 ≤ (s.fs.stnGet n).sq.zcount ∧ (s.fs.stnGet n).sq.c2 = false ∧ (s.fs.stnGet n).sq.stop = some r ∧ r.cat2 = true)
    ∧ (∃ (n : Stn) (r : StopReq) (s : State), (s.fs.stnGet n).sq.st.isRunning = true ∧ (s.fs.stnGet n).sq.step = .ramp ∧ 10 ≤ (s.fs.stnGet n).sq.zcount ∧ (s.fs.stnGet n).sq.c2 = false ∧ (s.fs.stnGet n).sq.stop = some r ∧ r.cat2 = false ∧ s.fs.cf (STN_CFG.BRAKE_EN n) = 0)
    ∧ (∃ (n : Stn) (r : StopReq) (s : State), (s.fs.stnGet n).sq.st.isRunning = true ∧ (s.fs.stnGet n).sq.step = .ramp ∧ 10 ≤ (s.fs.stnGet n).sq.zcount ∧ (s.fs.stnGet n).sq.c2 = false ∧ (s.fs.stnGet n).sq.stop = some r ∧ r.cat2 = false ∧ s.fs.cf (STN_CFG.BRAKE_EN n) = 1)
    ∧ (∃ (n : Stn) (d : Nat) (s : State), (s.fs.stnGet n).sq.step = .tSet ∧ (s.fs.stnGet n).sq.t = some d ∧ (s.fs.stnGet n).sq.stop = none)
    ∧ (∃ (n : Stn) (d : Nat) (r : StopReq) (s : State), (s.fs.stnGet n).sq.step = .tSet ∧ (s.fs.stnGet n).sq.t = some d ∧ (s.fs.stnGet n).sq.stop = some r ∧ r.classC = true ∧ s.fs.g (PROT_LATCH.LATCH n) ≠ 0)
    ∧ (∃ (n : Stn) (d : Nat) (s : State), (s.fs.stnGet n).sq.step = .zeroProve ∧ (s.fs.stnGet n).sq.t = some d ∧ s.fs.cf (STN_CFG.BRAKE_EN n) = 1)
    ∧ (∃ (n : Stn) (a : Nat) (s : State), (s.fs.stnGet n).sq.vsT = some a ∧ (s.fs.stnGet n).sq.st = .running)
    ∧ (∃ (n : Stn) (a : Nat) (s : State), (s.fs.stnGet n).sq.vsT = some a ∧ (s.fs.stnGet n).sq.st = .voltLimited)
    ∧ (∃ (n : Stn) (d : Nat) (s : State), (s.fs.stnGet n).sq.c1T = some d ∧ (s.fs.stnGet n).sq.step = .ramp ∧ (s.fs.stnGet n).setp.stop = .normal) :=
  ⟨⟨(1 : Stn), (⟨false, true, false, true⟩ : StopReq), (let n : Stn := (1 : Stn); let r : StopReq := (⟨false, true, false, true⟩ : StopReq); (stU n (fun x => { x with sq.zcount := 10 })) ((stU n (fun x => { x with sq.stop := some r })) ((stU n (fun x => { x with sq.c2 := false })) ((stU n (fun x => { x with sq.step := .ramp })) ((stU n (fun x => { x with sq.st := .running })) up))))), by decide +kernel⟩,
   ⟨(1 : Stn), (⟨true, false, false, true⟩ : StopReq), (let n : Stn := (1 : Stn); let r : StopReq := (⟨true, false, false, true⟩ : StopReq); (stU n (fun x => { x with sq.zcount := 11 })) ((put (STN_CFG.BRAKE_EN n) (0)) ((stU n (fun x => { x with sq.stop := some r })) ((stU n (fun x => { x with sq.c2 := false })) ((stU n (fun x => { x with sq.step := .ramp })) ((stU n (fun x => { x with sq.st := .running })) up)))))), by decide +kernel⟩,
   ⟨(1 : Stn), (⟨true, false, false, true⟩ : StopReq), (let n : Stn := (1 : Stn); let r : StopReq := (⟨true, false, false, true⟩ : StopReq); (stU n (fun x => { x with sq.zcount := 11 })) ((put (STN_CFG.BRAKE_EN n) (1)) ((stU n (fun x => { x with sq.stop := some r })) ((stU n (fun x => { x with sq.c2 := false })) ((stU n (fun x => { x with sq.step := .ramp })) ((stU n (fun x => { x with sq.st := .running })) up)))))), by decide +kernel⟩,
   ⟨(1 : Stn), 7, (let n : Stn := (1 : Stn); let d : Nat := 7; (stU n (fun x => { x with sq.stop := none })) ((stU n (fun x => { x with sq.t := some d })) ((stU n (fun x => { x with sq.step := .tSet })) up))), by decide +kernel⟩,
   ⟨(1 : Stn), 7, (⟨true, false, true, true⟩ : StopReq), (let n : Stn := (1 : Stn); let d : Nat := 7; let r : StopReq := (⟨true, false, true, true⟩ : StopReq); (put (PROT_LATCH.LATCH n) 16) ((stU n (fun x => { x with sq.stop := some r })) ((stU n (fun x => { x with sq.t := some d })) ((stU n (fun x => { x with sq.step := .tSet })) up)))), by decide +kernel⟩,
   ⟨(1 : Stn), 7, (let n : Stn := (1 : Stn); let d : Nat := 7; (put (STN_CFG.BRAKE_EN n) (1)) ((stU n (fun x => { x with sq.t := some d })) ((stU n (fun x => { x with sq.step := .zeroProve })) up))), by decide +kernel⟩,
   ⟨(1 : Stn), 7, (let n : Stn := (1 : Stn); let a : Nat := 7; (stU n (fun x => { x with sq.st := .running })) ((stU n (fun x => { x with sq.vsT := some a })) up)), by decide +kernel⟩,
   ⟨(1 : Stn), 7, (let n : Stn := (1 : Stn); let a : Nat := 7; (stU n (fun x => { x with sq.st := .voltLimited })) ((stU n (fun x => { x with sq.vsT := some a })) up)), by decide +kernel⟩,
   ⟨(1 : Stn), 7, (let n : Stn := (1 : Stn); let d : Nat := 7; (stU n (fun x => { x with setp.stop := .normal })) ((stU n (fun x => { x with sq.step := .ramp })) ((stU n (fun x => { x with sq.c1T := some d })) up))), by decide +kernel⟩⟩

/-- The hypotheses of each clause of LostHost can be met together. -/
theorem test_wit_LostHost :
    (∃ (s : State), s.fs.pd 3 = true ∧ s.fs.emg.armed = true ∧ s.fs.emg.declared = false ∧ (s.fs.us = .boot ∨ s.fs.us = .fault))
    ∧ (∃ (s : State), s.fs.pd 3 = true ∧ s.fs.emg.armed = true ∧ s.fs.emg.declared = false ∧ s.fs.us = .run)
    ∧ (∃ (n : Stn) (d : Nat) (s : State), s.fs.emg.discT = some d ∧ (s.fs.stnGet n).sq.lever = true ∧ s.fs.g EMG_STAT.LEV_DISC = 1)
    ∧ (∃ (n : Stn) (d : Nat) (s : State), s.fs.emg.discT = some d ∧ (s.fs.stnGet n).sq.lever = true ∧ s.fs.g EMG_STAT.LEV_DISC = 0) :=
  ⟨⟨(fun s => { s with fs.us := .boot }) ((fun s => { s with fs.emg.declared := false }) ((fun s => { s with fs.emg.armed := true }) up)), by decide +kernel⟩,
   ⟨(fun s => { s with fs.us := .run }) ((fun s => { s with fs.emg.declared := false }) ((fun s => { s with fs.emg.armed := true }) up)), by decide +kernel⟩,
   ⟨(1 : Stn), 7, (let n : Stn := (1 : Stn); let d : Nat := 7; (put EMG_STAT.LEV_DISC (1)) ((stU n (fun x => { x with sq.lever := true })) ((fun s => { s with fs.emg.discT := some d }) up))), by decide +kernel⟩,
   ⟨(1 : Stn), 7, (let n : Stn := (1 : Stn); let d : Nat := 7; (put EMG_STAT.LEV_DISC (0)) ((stU n (fun x => { x with sq.lever := true })) ((fun s => { s with fs.emg.discT := some d }) up))), by decide +kernel⟩⟩

/-- The hypotheses of each clause of Protection can be met together. -/
theorem test_wit_Protection :
    (∃ (n : Stn) (src : Fin 15) (s : State), s.fs.fitted n.val = true ∧ s.fs.on 3 = true ∧ s.fs.sourceSub n src.val = false ∧ (s.fs.g (PROT_ACT.ACT n)).testBit src.val = false ∧ s.fs.sourceNever n src.val = false ∧ s.fs.armedSrc n src.val = false)
    ∧ (∃ (n : Stn) (src : Fin 15) (s : State), s.fs.fitted n.val = true ∧ s.fs.on 3 = true ∧ s.fs.sourceSub n src.val = false ∧ (s.fs.g (PROT_ACT.ACT n)).testBit src.val = false ∧ s.fs.sourceNever n src.val = false ∧ s.fs.armedSrc n src.val = true ∧ s.fs.protClass n src.val = 3)
    ∧ (∃ (n : Stn) (src : Fin 15) (s : State), s.fs.fitted n.val = true ∧ s.fs.on 3 = true ∧ s.fs.sourceSub n src.val = false ∧ (s.fs.stnGet n).sq.st = .running ∧ s.fs.g (PROT_ACT.ACT n) = 0 ∧ s.fs.g (PROT_LATCH.LATCH n) = 0 ∧ s.fs.protClass n src.val = 0 ∧ src.val ≠ 14 ∧ s.fs.sourceNever n src.val = false ∧ s.fs.g (PG_CTRL.ENABLE (stnPage n 0)) = 1)
    ∧ (∃ (n : Stn) (d : Nat) (s : State), (s.fs.stnGet n).prot.ctoT = some d ∧ (s.fs.stnGet n).sq.step = .ramp)
    ∧ (∃ (n : Stn) (s : State) (a : _), (s.fs.stnGet n).sq.st = .faulted ∧ (s.fs.stnGet n).modu.gate = .asc ∧ (s.fs.stnGet n).prot.slowAt = some a)
    ∧ (∃ (n : Stn) (s : State) (d : _), (s.fs.stnGet n).sq.st = .faulted ∧ (s.fs.stnGet n).modu.gate = .asc ∧ (s.fs.stnGet n).prot.ascT = some d)
    ∧ (∃ (n : Stn) (s : State), (s.fs.stnGet n).sq.st = .faulted ∧ (s.fs.stnGet n).modu.gate = .asc ∧ ((s.fs.stnGet n).prot.hasA = true ∨ s.fs.hardBlocked n = true))
    ∧ (∃ (n : Stn) (s : State), (s.fs.stnGet n).sq.st = .faulted ∧ (s.fs.stnGet n).modu.gate = .asc)
    ∧ (∃ (n : Stn) (src : Fin 15) (s : State), s.fs.fitted n.val = true ∧ s.fs.on 3 = true ∧ s.fs.sourceSub n src.val = true)
    ∧ (∃ (n : Stn) (src : Fin 15) (s : State), s.fs.fitted n.val = true ∧ s.fs.on 3 = true ∧ s.fs.sourceSub n src.val = false ∧ s.fs.sourceNever n src.val = true) :=
  ⟨⟨(1 : Stn), (4 : Fin 15), up, by decide +kernel⟩,
   ⟨(1 : Stn), (4 : Fin 15), (let n : Stn := (1 : Stn); (put (PROT_CLASS.OV n) 3) ((stU n (fun x => { x with sq.st := .running })) up)), by decide +kernel⟩,
   ⟨(1 : Stn), (4 : Fin 15), (let n : Stn := (1 : Stn); (put (PG_CTRL.ENABLE (stnPage n 0)) (1)) ((put (PROT_LATCH.LATCH n) (0)) ((put (PROT_ACT.ACT n) (0)) ((stU n (fun x => { x with sq.st := .running })) up)))), by decide +kernel⟩,
   ⟨(1 : Stn), 7, (let n : Stn := (1 : Stn); let d : Nat := 7; (stU n (fun x => { x with sq.step := .ramp })) ((stU n (fun x => { x with prot.ctoT := some d })) up)), by decide +kernel⟩,
   ⟨(1 : Stn), (let n : Stn := (1 : Stn); let a := 7; (stU n (fun x => { x with prot.slowAt := some a })) ((stU n (fun x => { x with modu.gate := .asc })) ((stU n (fun x => { x with sq.st := .faulted })) up))), 7, by decide +kernel⟩,
   ⟨(1 : Stn), (let n : Stn := (1 : Stn); let d := 7; (stU n (fun x => { x with prot.ascT := some d })) ((stU n (fun x => { x with modu.gate := .asc })) ((stU n (fun x => { x with sq.st := .faulted })) up))), 7, by decide +kernel⟩,
   ⟨(1 : Stn), (let n : Stn := (1 : Stn); (fsU (fun t => { t with sto.blockEstop := true })) ((stU n (fun x => { x with modu.gate := .asc })) ((stU n (fun x => { x with sq.st := .faulted })) up))), by decide +kernel⟩,
   ⟨(1 : Stn), (let n : Stn := (1 : Stn); (stU n (fun x => { x with modu.gate := .asc })) ((stU n (fun x => { x with sq.st := .faulted })) up)), by decide +kernel⟩,
   ⟨(1 : Stn), (4 : Fin 15), (let n : Stn := (1 : Stn); (put DIAG_STAT.STEP 12) ((put DIAG_STAT.STN n.val) ((put DIAG_STAT.STATE 2) up))), by decide +kernel⟩,
   ⟨(1 : Stn), (11 : Fin 15), (fsU (fun t => { t with u.orbit := false })) up, by decide +kernel⟩⟩

/-- The hypotheses of each clause of SafetyInputs can be met together. -/
theorem test_wit_SafetyInputs :
    (∃ (us : Nat) (s : State), s.fs.pd 3 = true ∧ s.fs.stoFilter ≤ us ∧ s.fs.sto.a = true ∧ s.fs.sto.b = true ∧ s.fs.sto.discT = none)
    ∧ (∃ (us : Nat) (s : State), s.fs.pd 3 = true ∧ s.fs.sto.a = true ∧ us < s.fs.stoFilter)
    ∧ (∃ (s : State), s.fs.pd 3 = true ∧ s.fs.sto.a = true ∧ s.fs.sto.b = false ∧ s.fs.sto.ran = 0)
    ∧ (∃ (s : State), s.fs.pd 3 = true ∧ s.fs.sto.a = true ∧ s.fs.sto.b = false ∧ s.fs.sto.ran ≠ 0)
    ∧ (∃ (d : Nat) (s : State), s.fs.sto.readT = some d ∧ s.fs.sto.a = false)
    ∧ (∃ (d : Nat) (s : State), s.fs.sto.discT = some d ∧ s.fs.g STO_STAT.STO_DISC = 0)
    ∧ (∃ (s : State), s.fs.pd 3 = true ∧ s.fs.sto.estopN = true ∧ s.fs.cf STO_CFG.ECAT = 0)
    ∧ (∃ (s : State), s.fs.pd 3 = true ∧ s.fs.sto.estopN = true ∧ s.fs.cf STO_CFG.ECAT = 1)
    ∧ (∃ (d : Nat) (s : State), s.fs.sto.backT = some d)
    ∧ (∃ (s : State), s.fs.pd 3 = true ∧ s.fs.sto.estopN = false)
    ∧ (∃ (t : Tail), (t.sto.blockSto = true ∨ t.sto.blockEstop = true ∨ t.sto.backstop = true)) :=
  ⟨⟨7, (fun s => { s with fs.sto.discT := none }) ((fun s => { s with fs.sto.b := true }) ((fun s => { s with fs.sto.a := true }) up)), by decide +kernel⟩,
   ⟨7, (put STO_CFG.TPF 3) ((fun s => { s with fs.sto.a := true }) up), by decide +kernel⟩,
   ⟨(fun s => { s with fs.sto.ran := 0 }) ((fun s => { s with fs.sto.b := false }) ((fun s => { s with fs.sto.a := true }) up)), by decide +kernel⟩,
   ⟨(fsU (fun t => { t with sto.ran := 2 })) ((fun s => { s with fs.sto.b := false }) ((fun s => { s with fs.sto.a := true }) up)), by decide +kernel⟩,
   ⟨7, (let d : Nat := 7; (fun s => { s with fs.sto.a := false }) ((fun s => { s with fs.sto.readT := some d }) up)), by decide +kernel⟩,
   ⟨7, (let d : Nat := 7; (put STO_STAT.STO_DISC (0)) ((fun s => { s with fs.sto.discT := some d }) up)), by decide +kernel⟩,
   ⟨(put STO_CFG.ECAT (0)) ((fun s => { s with fs.sto.estopN := true }) up), by decide +kernel⟩,
   ⟨(put STO_CFG.ECAT (1)) ((fun s => { s with fs.sto.estopN := true }) up), by decide +kernel⟩,
   ⟨7, (let d : Nat := 7; (fun s => { s with fs.sto.backT := some d }) up), by decide +kernel⟩,
   ⟨(fun s => { s with fs.sto.estopN := false }) up, by decide +kernel⟩,
   ⟨{ up.fs with sto.backstop := true }, by decide +kernel⟩⟩

/-- The hypotheses of each clause of ModulationAndChopper can be met together. -/
theorem test_wit_ModulationAndChopper :
    (∃ (n : Stn) (s : State), s.fs.fitted n.val = true ∧ s.fs.on 6 = true ∧ (s.fs.stnGet n).modu.gate = .enabled ∧ s.fs.hardBlocked n = false ∧ s.fs.cf (MOD_CFG.TOPO n) = 0 ∧ (s.fs.stnGet n).modu.pwm.getLsbD 0 = false ∧ (s.fs.stnGet n).modu.cmp.c[0] ≠ 0)
    ∧ (∃ (n : Stn) (c : CmpSet) (d : Nat) (s : State), (s.fs.stnGet n).modu.next = some c ∧ (s.fs.stnGet n).modu.applyAt = some d)
    ∧ (∃ (n : Stn) (c : CmpSet) (s : State), (s.fs.stnGet n).modu.next = some c ∧ (s.fs.stnGet n).modu.applyAt = none)
    ∧ (∃ (n : Stn) (d : Nat) (s : State), (s.fs.stnGet n).modu.innerT = some d)
    ∧ (∃ (n : Stn) (a : Nat) (s : State), s.fs.fitted n.val = true ∧ s.fs.on 6 = true ∧ (s.fs.stnGet n).modu.chopOnAt = some a ∧ s.fs.cf (MOD_CHOPF.TMAX n) ≠ 0 ∧ ((s.fs.stnGet n).modu.cmd.getLsbD 12 = true ∨ max s.fs.now (a + s.fs.cf (MOD_CHOPF.TMAX n) * 400000) < (s.fs.stnGet n).modu.chopOffAt + 400000))
    ∧ (∃ (n : Stn) (a : Nat) (s : State), (s.fs.stnGet n).modu.chopOnAt = some a ∧ (s.fs.stnGet n).modu.cmd.getLsbD 12 = false ∧ (s.fs.stnGet n).modu.chopOffAt + 400000 ≤ max s.fs.now (a + s.fs.cf (MOD_CHOPF.TMAX n) * 400000)) :=
  ⟨⟨(1 : Stn), (let n : Stn := (1 : Stn); (stU n (fun x => { x with modu.cmp.c := #v[7, 8, 9] })) ((stU n (fun x => { x with modu.pwm := x.modu.pwm &&& ~~~((1 : BitVec 13) <<< (0)) })) ((put (MOD_CFG.TOPO n) (0)) ((stU n (fun x => { x with modu.gate := .enabled })) up)))), by decide +kernel⟩,
   ⟨(1 : Stn), (⟨#v[5, 6, 7], 0⟩ : CmpSet), 7, (let n : Stn := (1 : Stn); let c : CmpSet := (⟨#v[5, 6, 7], 0⟩ : CmpSet); let d : Nat := 7; (stU n (fun x => { x with modu.applyAt := some d })) ((stU n (fun x => { x with modu.next := some c })) up)), by decide +kernel⟩,
   ⟨(1 : Stn), (⟨#v[5, 6, 7], 0⟩ : CmpSet), (let n : Stn := (1 : Stn); let c : CmpSet := (⟨#v[5, 6, 7], 0⟩ : CmpSet); (stU n (fun x => { x with modu.applyAt := none })) ((stU n (fun x => { x with modu.next := some c })) up)), by decide +kernel⟩,
   ⟨(1 : Stn), 7, (let n : Stn := (1 : Stn); let d : Nat := 7; (stU n (fun x => { x with modu.innerT := some d })) up), by decide +kernel⟩,
   ⟨(1 : Stn), 7, (let n : Stn := (1 : Stn); let a : Nat := 7; (put (MOD_CHOPF.TMAX n) 3) ((stU n (fun x => { x with modu.cmd := x.modu.cmd ||| (1 : BitVec 13) <<< (12) })) ((stU n (fun x => { x with modu.chopOnAt := some a })) up))), by decide +kernel⟩,
   ⟨(1 : Stn), 7, (let n : Stn := (1 : Stn); let a : Nat := 7; (fsU (fun t => { t with now := 9000000 })) ((stU n (fun x => { x with modu.cmd := x.modu.cmd &&& ~~~((1 : BitVec 13) <<< (12)) })) ((stU n (fun x => { x with modu.chopOnAt := some a })) up))), by decide +kernel⟩⟩

/-- The hypotheses of each clause of TurnOn can be met together. -/
theorem test_wit_TurnOn :
    (∃ (n : Stn) (ch : Fin 6) (s : State), s.fs.fitted n.val = true ∧ s.fs.on 6 = true ∧ (s.fs.stnGet n).modu.gate = .enabled ∧ ((s.fs.stnGet n).modu.skip = 0 ∨ s.fs.now < (s.fs.stnGet n).modu.skipEnd) ∧ s.fs.hardBlocked n = false ∧ s.fs.cf (MOD_CFG.TOPO n) = 0 ∧ (s.fs.stnGet n).modu.want.getLsbD ch.val = true ∧ (s.fs.stnGet n).modu.cmd.getLsbD ch.val = false ∧ (s.fs.stnGet n).modu.cmd.getLsbD (complementOf false ch.val) = false ∧ (s.fs.stnGet n).modu.conf.getLsbD (complementOf false ch.val) = true ∧ (let t := s.fs.elapse ((s.fs.stnGet n).modu.edgeAt.toList.getD (complementOf false ch.val) 0 + clampN 200 4000 (s.fs.cf (MOD_DT.DT_MIN n)) - s.fs.now); (t.turnOffIn n ch.val = none ∨ ∃ d, t.turnOffIn n ch.val = some d ∧ min 4000 (s.fs.cf (MOD_MINPW.MINPW n)) ≤ d)))
    ∧ (∃ (n : Stn) (ch : Fin 6) (s : State) (d : _), s.fs.fitted n.val = true ∧ s.fs.on 6 = true ∧ (s.fs.stnGet n).modu.gate = .enabled ∧ ((s.fs.stnGet n).modu.skip = 0 ∨ s.fs.now < (s.fs.stnGet n).modu.skipEnd) ∧ s.fs.hardBlocked n = false ∧ s.fs.cf (MOD_CFG.TOPO n) = 0 ∧ (s.fs.stnGet n).modu.want.getLsbD ch.val = true ∧ (s.fs.stnGet n).modu.cmd.getLsbD ch.val = false ∧ (s.fs.stnGet n).modu.cmd.getLsbD (complementOf false ch.val) = false ∧ (s.fs.stnGet n).modu.conf.getLsbD (complementOf false ch.val) = true ∧ (let t := s.fs.elapse ((s.fs.stnGet n).modu.edgeAt.toList.getD (complementOf false ch.val) 0 + clampN 200 4000 (s.fs.cf (MOD_DT.DT_MIN n)) - s.fs.now); t.turnOffIn n ch.val = some d ∧ d < min 4000 (s.fs.cf (MOD_MINPW.MINPW n))))
    ∧ (∃ (n : Stn) (ch : Nat) (s : State), ((s.fs.stnGet n).modu.skip = 0 ∨ s.fs.now < (s.fs.stnGet n).modu.skipEnd) ∧ ((s.fs.stnGet n).modu.cmd.getLsbD (complementOf (s.fs.cfb (MOD_CFG.TOPO n)) ch) = true ∨ (s.fs.stnGet n).modu.conf.getLsbD (complementOf (s.fs.cfb (MOD_CFG.TOPO n)) ch) = false))
    ∧ (∃ (n : Stn) (s : State), (s.fs.stnGet n).modu.skip ≠ 0 ∧ (s.fs.stnGet n).modu.skipEnd ≤ s.fs.now) :=
  ⟨⟨(1 : Stn), (3 : Fin 6), (let n : Stn := (1 : Stn); let ch : Fin 6 := (3 : Fin 6); (stU n (fun x => { x with modu.conf := x.modu.conf ||| (1 : BitVec 13) <<< ((complementOf false ch.val)) })) ((stU n (fun x => { x with modu.cmd := x.modu.cmd &&& ~~~((1 : BitVec 13) <<< ((complementOf false ch.val))) })) ((stU n (fun x => { x with modu.cmd := x.modu.cmd &&& ~~~((1 : BitVec 13) <<< (ch.val)) })) ((stU n (fun x => { x with modu.want := x.modu.want ||| (1 : BitVec 13) <<< (ch.val) })) ((put (MOD_CFG.TOPO n) (0)) ((stU n (fun x => { x with modu.skip := 0 })) ((stU n (fun x => { x with modu.gate := .enabled })) up))))))), by decide +kernel⟩,
   ⟨(1 : Stn), (3 : Fin 6), (let n : Stn := (1 : Stn); let ch : Fin 6 := (3 : Fin 6); (fsU (fun t => { t with ft := 39000, now := 39000 })) ((put (MOD_PHASE.PHASE n) 0) ((put (MOD_CAR.HALF n) 20000) ((stU n (fun x => { x with modu.cmp.c := #v[0, 500, 0] })) ((put (MOD_MINPW.MINPW n) 2000) ((stU n (fun x => { x with modu.conf := x.modu.conf ||| (1 : BitVec 13) <<< ((complementOf false ch.val)) })) ((stU n (fun x => { x with modu.cmd := x.modu.cmd &&& ~~~((1 : BitVec 13) <<< ((complementOf false ch.val))) })) ((stU n (fun x => { x with modu.cmd := x.modu.cmd &&& ~~~((1 : BitVec 13) <<< (ch.val)) })) ((stU n (fun x => { x with modu.want := x.modu.want ||| (1 : BitVec 13) <<< (ch.val) })) ((put (MOD_CFG.TOPO n) (0)) ((stU n (fun x => { x with modu.skip := 0 })) ((stU n (fun x => { x with modu.gate := .enabled })) up)))))))))))), (((((let n : Stn := (1 : Stn); let ch : Fin 6 := (3 : Fin 6); (fsU (fun t => { t with ft := 39000, now := 39000 })) ((put (MOD_PHASE.PHASE n) 0) ((put (MOD_CAR.HALF n) 20000) ((stU n (fun x => { x with modu.cmp.c := #v[0, 500, 0] })) ((put (MOD_MINPW.MINPW n) 2000) ((stU n (fun x => { x with modu.conf := x.modu.conf ||| (1 : BitVec 13) <<< ((complementOf false ch.val)) })) ((stU n (fun x => { x with modu.cmd := x.modu.cmd &&& ~~~((1 : BitVec 13) <<< ((complementOf false ch.val))) })) ((stU n (fun x => { x with modu.cmd := x.modu.cmd &&& ~~~((1 : BitVec 13) <<< (ch.val)) })) ((stU n (fun x => { x with modu.want := x.modu.want ||| (1 : BitVec 13) <<< (ch.val) })) ((put (MOD_CFG.TOPO n) (0)) ((stU n (fun x => { x with modu.skip := 0 })) ((stU n (fun x => { x with modu.gate := .enabled })) up))))))))))))).fs.elapse (0 + 200 - 39000)).turnOffIn 1 3).getD 0), by decide +kernel⟩,
   ⟨(1 : Stn), 7, (let n : Stn := (1 : Stn); (stU n (fun x => { x with modu.skip := 0 })) up), by decide +kernel⟩,
   ⟨(1 : Stn), (let n : Stn := (1 : Stn); (stU n (fun x => { x with modu.skip := 1, modu.skipEnd := 0 })) up), by decide +kernel⟩⟩

/-- The hypotheses of each clause of GateConfirmations can be met together. -/
theorem test_wit_GateConfirmations :
    (∃ (n : Stn) (ch : Fin 6) (s : State), s.fs.fitted n.val = true ∧ s.fs.on 6 = true ∧ (s.fs.stnGet n).modu.conf.getLsbD ch.val = false ∧ (s.fs.stnGet n).modu.cmd.getLsbD ch.val = false ∧ s.fs.g (MOD_CONF.TICKS n) < s.fs.now - (s.fs.stnGet n).modu.edgeAt.toList.getD ch.val 0)
    ∧ (∃ (n : Stn) (ch : Fin 6) (s : State), s.fs.fitted n.val = true ∧ s.fs.on 6 = true ∧ (s.fs.stnGet n).modu.gate = .enabled ∧ s.fs.hardBlocked n = false ∧ (s.fs.stnGet n).modu.conf.getLsbD ch.val = false ∧ (s.fs.stnGet n).sq.st = .running ∧ s.fs.g (PROT_LATCH.LATCH n) = 0 ∧ s.fs.g (PG_CTRL.ENABLE (stnPage n 0)) = 1)
    ∧ (∃ (n : Stn) (ch : Fin 6) (s : State), s.fs.fitted n.val = true ∧ s.fs.on 6 = true ∧ (s.fs.stnGet n).modu.gate = .enabled ∧ s.fs.hardBlocked n = false ∧ (s.fs.stnGet n).modu.conf.getLsbD ch.val = true ∧ (s.fs.stnGet n).sq.st = .running ∧ s.fs.g (PROT_LATCH.LATCH n) = 0 ∧ s.fs.g (PG_CTRL.ENABLE (stnPage n 0)) = 1) :=
  ⟨⟨(1 : Stn), (3 : Fin 6), (let n : Stn := (1 : Stn); let ch : Fin 6 := (3 : Fin 6); (fsU (fun t => { t with now := 500 })) ((put (MOD_CONF.TICKS n) 0) ((stU n (fun x => { x with modu.cmd := x.modu.cmd &&& ~~~((1 : BitVec 13) <<< (ch.val)) })) ((stU n (fun x => { x with modu.conf := x.modu.conf &&& ~~~((1 : BitVec 13) <<< (ch.val)) })) up)))), by decide +kernel⟩,
   ⟨(1 : Stn), (3 : Fin 6), (let n : Stn := (1 : Stn); let ch : Fin 6 := (3 : Fin 6); (put (PG_CTRL.ENABLE (stnPage n 0)) (1)) ((put (PROT_LATCH.LATCH n) (0)) ((stU n (fun x => { x with sq.st := .running })) ((stU n (fun x => { x with modu.conf := x.modu.conf &&& ~~~((1 : BitVec 13) <<< (ch.val)) })) ((stU n (fun x => { x with modu.gate := .enabled })) up))))), by decide +kernel⟩,
   ⟨(1 : Stn), (3 : Fin 6), (let n : Stn := (1 : Stn); let ch : Fin 6 := (3 : Fin 6); (put (PG_CTRL.ENABLE (stnPage n 0)) (1)) ((put (PROT_LATCH.LATCH n) (0)) ((stU n (fun x => { x with sq.st := .running })) ((stU n (fun x => { x with modu.conf := x.modu.conf ||| (1 : BitVec 13) <<< (ch.val) })) ((stU n (fun x => { x with modu.gate := .enabled })) up))))), by decide +kernel⟩⟩

/-- The hypotheses of each clause of EncoderAndHall can be met together. -/
theorem test_wit_EncoderAndHall :
    (∃ (n : Stn) (lv : EncLevels) (held : Nat) (s : State) (d : Int), s.fs.fitted n.val = true ∧ s.fs.on 7 = true ∧ s.fs.fbpMode n = 1 ∧ s.fs.cf (FBA_CFG.MODE n) = 1 ∧ s.fs.enabled (stnPage n 3) = false ∧ lv.z = (s.fs.stnGet n).fb.lv.z ∧ max 1 (s.fs.cf (FBP_CFG.N n)) ≤ held ∧ max 1 (s.fs.cf (FBA_CFG.N n)) ≤ held ∧ max 1 (s.fs.cf (LCMP_CFG.NCAP n)) ≤ held ∧ quadStep (s.fs.stnGet n).fb.lv.a (s.fs.stnGet n).fb.lv.b lv.a lv.b = some d ∧ d ≠ 0)
    ∧ (∃ (n : Stn) (lv : EncLevels) (held : Nat) (s : State), s.fs.fitted n.val = true ∧ s.fs.on 7 = true ∧ s.fs.fbpMode n = 1 ∧ s.fs.cf (FBA_CFG.MODE n) = 1 ∧ s.fs.enabled (stnPage n 3) = false ∧ lv.z = (s.fs.stnGet n).fb.lv.z ∧ max 1 (s.fs.cf (FBP_CFG.N n)) ≤ held ∧ max 1 (s.fs.cf (FBA_CFG.N n)) ≤ held ∧ max 1 (s.fs.cf (LCMP_CFG.NCAP n)) ≤ held ∧ quadStep (s.fs.stnGet n).fb.lv.a (s.fs.stnGet n).fb.lv.b lv.a lv.b = none)
    ∧ (∃ (n : Stn) (code : BitVec 3) (held : Nat) (s : State), s.fs.fitted n.val = true ∧ s.fs.on 7 = true ∧ max 1 (s.fs.cf (FBA_CFG.N n)) ≤ held ∧ s.fs.fbaMode n = 1 ∧ hallSector code ≠ 0 ∧ s.fs.g (FBA_STAT.SECTOR n) ≠ 0 ∧ (hallSector code + 6 - s.fs.g (FBA_STAT.SECTOR n)) % 6 = 1 ∧ s.fs.cf (FBA_CFG.DIR n) = 0)
    ∧ (∃ (n : Stn) (code : BitVec 3) (held : Nat) (s : State), s.fs.fitted n.val = true ∧ s.fs.on 7 = true ∧ max 1 (s.fs.cf (FBA_CFG.N n)) ≤ held ∧ s.fs.fbaMode n = 1 ∧ hallSector code = 0 ∧ (s.fs.stnGet n).fb.hallAt = none)
    ∧ (∃ (n : Stn) (a : Nat) (s : State), (s.fs.stnGet n).fb.hallAt = some a)
    ∧ (∃ (n : Stn) (k : Fin 4) (level : Bool) (held : Nat) (s : State), s.fs.fitted n.val = true ∧ s.fs.on 7 = true ∧ s.fs.enabled (stnPage n 2) = true ∧ (s.fs.stnGet n).fb.sw.getLsbD k.val = !level ∧ max 1 (s.fs.cf (FBA_CFG.NSW n)) ≤ held / 2 ^ s.fs.cf (FBA_CFG.PSW n))
    ∧ (∃ (n : Stn) (held : Nat) (s : State), s.fs.fitted n.val = true ∧ s.fs.on 7 = true ∧ held < max 1 (s.fs.cf (FBP_CFG.N n)) ∧ held < max 1 (s.fs.cf (FBA_CFG.N n)) ∧ held < max 1 (s.fs.cf (LCMP_CFG.NCAP n)))
    ∧ (∃ (n : Stn) (held : Nat) (s : State), held < max 1 (s.fs.cf (FBA_CFG.N n)))
    ∧ (∃ (n : Stn) (held : Nat) (s : State), held / 2 ^ s.fs.cf (FBA_CFG.PSW n) < max 1 (s.fs.cf (FBA_CFG.NSW n))) :=
  ⟨⟨(1 : Stn), (⟨true, false, false, false, false, false, false⟩ : EncLevels), 7, (let n : Stn := (1 : Stn); (put (PG_CTRL.ENABLE (stnPage n 3)) 0) ((put (FBA_CFG.MODE n) (1)) ((put (PG_CTRL.ENABLE (stnPage n 1)) 1) ((put (FBP_CFG.MODE n) 1) up)))), 1, by decide +kernel⟩,
   ⟨(1 : Stn), (⟨true, false, false, false, false, false, false⟩ : EncLevels), 1000, (let n : Stn := (1 : Stn); (stU n (fun x => { x with fb.lv := { encLow with b := true } })) ((put (PG_CTRL.ENABLE (stnPage n 3)) 0) ((put (FBA_CFG.MODE n) (1)) ((put (PG_CTRL.ENABLE (stnPage n 1)) 1) ((put (FBP_CFG.MODE n) 1) up))))), by decide +kernel⟩,
   ⟨(1 : Stn), (3 : BitVec 3), 1000, (let n : Stn := (1 : Stn); (put (FBA_STAT.SECTOR n) 3) ((put (FBA_CFG.DIR n) (0)) ((put (PG_CTRL.ENABLE (stnPage n 2)) 1) ((put (FBA_CFG.MODE n) 1) up)))), by decide +kernel⟩,
   ⟨(1 : Stn), (7 : BitVec 3), 1000, (let n : Stn := (1 : Stn); (stU n (fun x => { x with fb.hallAt := none })) ((put (PG_CTRL.ENABLE (stnPage n 2)) 1) ((put (FBA_CFG.MODE n) 1) up))), by decide +kernel⟩,
   ⟨(1 : Stn), 7, (let n : Stn := (1 : Stn); let a : Nat := 7; (stU n (fun x => { x with fb.hallAt := some a })) up), by decide +kernel⟩,
   ⟨(1 : Stn), (2 : Fin 4), true, 1000000, (let n : Stn := (1 : Stn); (put (PG_CTRL.ENABLE (stnPage n 2)) 1) up), by decide +kernel⟩,
   ⟨(1 : Stn), 0, up, by decide +kernel⟩,
   ⟨(1 : Stn), 0, up, by decide +kernel⟩,
   ⟨(1 : Stn), 7, up, by decide +kernel⟩⟩

/-- The hypotheses of each clause of FeedbackCommandsAndSsi can be met together. -/
theorem test_wit_FeedbackCommandsAndSsi :
    (∃ (n : Stn) (s : State), s.fs.fitted n.val = true ∧ s.fs.on 7 = true ∧ s.fs.enabled (stnPage n 1) = true ∧ s.fs.enabled (stnPage n 3) = false)
    ∧ (∃ (n : Stn) (s : State), s.fs.fitted n.val = true ∧ s.fs.on 7 = true ∧ s.fs.enabled (stnPage n 2) = true)
    ∧ (∃ (n : Stn) (s : State), s.fs.fitted n.val = true ∧ s.fs.on 7 = true ∧ s.fs.enabled (stnPage n 3) = true ∧ s.fs.cf (LCMP_CFG.LCONT n) = 0)
    ∧ (∃ (n : Stn) (s : State), s.fs.fitted n.val = true ∧ s.fs.on 7 = true ∧ s.fs.enabled (stnPage n 3) = true)
    ∧ (∃ (n : Stn) (d : Nat) (s : State), (s.fs.stnGet n).fb.pulse = some d)
    ∧ (∃ (n : Stn) (s : State), s.fs.fitted n.val = true ∧ s.fs.on 7 = true ∧ s.fs.on 6 = true ∧ s.fs.clk.ftRun = true ∧ s.fs.fbpMode n = 2 ∧ (let t := s.fs.elapse (s.fs.ssiIn n); (s.fs.stnGet n).fb.ssiFree ≤ t.now))
    ∧ (∃ (n : Stn) (s : State), s.fs.fitted n.val = true ∧ s.fs.on 7 = true ∧ s.fs.on 6 = true ∧ s.fs.clk.ftRun = true ∧ s.fs.fbpMode n = 2 ∧ (let t := s.fs.elapse (s.fs.ssiIn n); t.now < (s.fs.stnGet n).fb.ssiFree))
    ∧ (∃ (n : Stn) (d : Nat) (s : State), (s.fs.stnGet n).fb.ssiStart = some d)
    ∧ (∃ (n : Stn) (d : Nat) (bits : List Bool) (s : State), (s.fs.stnGet n).fb.ssiStart = some d ∧ bits.length = s.fs.cf (FBP_SSI.LEN n) ∧ s.fs.cf (FBP_SSI.PAR n) = 0 ∧ s.fs.cf (FBP_SSI.GRAY n) = 0 ∧ s.fs.primLost n % 4 = 0 ∧ (s.fs.stnGet n).fb.ssiField = none ∧ s.fs.enabled (stnPage n 3) = false) :=
  ⟨⟨(1 : Stn), (let n : Stn := (1 : Stn); (put (PG_CTRL.ENABLE (stnPage n 3)) 0) ((put (PG_CTRL.ENABLE (stnPage n 1)) 1) up)), by decide +kernel⟩,
   ⟨(1 : Stn), (let n : Stn := (1 : Stn); (put (PG_CTRL.ENABLE (stnPage n 2)) 1) up), by decide +kernel⟩,
   ⟨(1 : Stn), (let n : Stn := (1 : Stn); (put (LCMP_CFG.LCONT n) (0)) ((put (PG_CTRL.ENABLE (stnPage n 3)) 1) up)), by decide +kernel⟩,
   ⟨(1 : Stn), (let n : Stn := (1 : Stn); (put (PG_CTRL.ENABLE (stnPage n 3)) 1) up), by decide +kernel⟩,
   ⟨(1 : Stn), 7, (let n : Stn := (1 : Stn); let d : Nat := 7; (stU n (fun x => { x with fb.pulse := some d })) up), by decide +kernel⟩,
   ⟨(1 : Stn), (let n : Stn := (1 : Stn); (put (PG_CTRL.ENABLE (stnPage n 1)) 1) ((put (FBP_CFG.MODE n) 2) ((fun s => { s with fs.clk.ftRun := true }) up))), by decide +kernel⟩,
   ⟨(1 : Stn), (let n : Stn := (1 : Stn); (stU n (fun x => { x with fb.ssiFree := 900000000000 })) ((put (PG_CTRL.ENABLE (stnPage n 1)) 1) ((put (FBP_CFG.MODE n) 2) ((fun s => { s with fs.clk.ftRun := true }) up)))), by decide +kernel⟩,
   ⟨(1 : Stn), 7, (let n : Stn := (1 : Stn); let d : Nat := 7; (stU n (fun x => { x with fb.ssiStart := some d })) up), by decide +kernel⟩,
   ⟨(1 : Stn), 7, default, (let n : Stn := (1 : Stn); let d : Nat := 7; (put (PG_CTRL.ENABLE (stnPage n 3)) 0) ((stU n (fun x => { x with fb.ssiField := none })) ((put (FBP_SSI.GRAY n) (0)) ((put (FBP_SSI.PAR n) (0)) ((stU n (fun x => { x with fb.ssiStart := some d })) up))))), by decide +kernel⟩⟩

/-- The hypotheses of each clause of FeedbackLoss can be met together. -/
theorem test_wit_FeedbackLoss :
    (∃ (n : Stn) (us : Nat) (s : State), s.fs.fitted n.val = true ∧ s.fs.on 7 = true ∧ max 1 (s.fs.cf (FBP_LOSS.T_LOSS n)) ≤ us)
    ∧ (∃ (n : Stn) (us : Nat) (s : State), us < max 1 (s.fs.cf (FBP_LOSS.T_LOSS n)))
    ∧ (∃ (n : Stn) (s : State), s.fs.fitted n.val = true ∧ s.fs.on 7 = true ∧ s.fs.cf (FBP_SUP.ON n) = 1 ∧ s.fs.enabled (stnPage n 1) = true ∧ s.fs.g (FBP_STAT.ENC_OC n) = 0)
    ∧ (∃ (n : Stn) (t : Tail), t.fbLossNow n = true) :=
  ⟨⟨(1 : Stn), 1000, up, by decide +kernel⟩,
   ⟨(1 : Stn), 7, up, by decide +kernel⟩,
   ⟨(1 : Stn), (let n : Stn := (1 : Stn); (put (FBP_STAT.ENC_OC n) (0)) ((put (PG_CTRL.ENABLE (stnPage n 1)) 1) ((put (FBP_SUP.ON n) (1)) up))), by decide +kernel⟩,
   ⟨(1 : Stn), (let n : Stn := (1 : Stn); (up |> put (PG_CTRL.ENABLE (stnPage n 1)) 1 |> put (FBP_CFG.MODE n) 1 |> put (FBP_STAT.ENC_OC n) 1).fs), by decide +kernel⟩⟩

/-- The hypotheses of each clause of Sensing can be met together. -/
theorem test_wit_Sensing :
    (∃ (k : Fin 8) (code : Int) (s : State), s.fs.ainOn k.val = true ∧ s.fs.ain[k].on = true ∧ -32768 < code ∧ code < 32767 ∧ s.fs.ain[k].gain = s.fs.cf (AIN_CFG.GAIN k.val) ∧ s.fs.ain[k].avg = min 6 (s.fs.cf (AIN_CFG.AVG k.val)) ∧ s.fs.ain[k].badConv = 0 ∧ s.fs.ain[k].n + 1 < 2 ^ s.fs.ain[k].avg)
    ∧ (∃ (k : Fin 8) (code : Int) (s : State), s.fs.ainOn k.val = true ∧ s.fs.ain[k].on = true ∧ -32768 < code ∧ code < 32767 ∧ s.fs.ain[k].gain = s.fs.cf (AIN_CFG.GAIN k.val) ∧ s.fs.ain[k].avg = min 6 (s.fs.cf (AIN_CFG.AVG k.val)) ∧ s.fs.ain[k].badConv = 0 ∧ 2 ^ s.fs.ain[k].avg ≤ s.fs.ain[k].n + 1 ∧ s.fs.ain[k].bad = false ∧ s.fs.ain[k].badOut = 0)
    ∧ (∃ (n : Stn) (ch : Fin 4) (s : State), s.fs.fitted n.val = true ∧ s.fs.on 7 = true ∧ s.fs.enabled (stnPage n 4) = true ∧ (s.fs.g (ISNS_STAT.STUCK n)).testBit ch.val = false)
    ∧ (∃ (n : Stn) (s : State), s.fs.fitted n.val = true ∧ s.fs.on 7 = true ∧ ((s.fs.stnGet n).sq.st = .disabled ∨ (s.fs.stnGet n).sq.st = .ready))
    ∧ (∃ (n : Stn) (s : State), s.fs.fitted n.val = true ∧ s.fs.on 7 = true ∧ (s.fs.stnGet n).sq.st ≠ .disabled ∧ (s.fs.stnGet n).sq.st ≠ .ready)
    ∧ (∃ (n : Stn) (s : State), (s.fs.stnGet n).isns.cal = .command ∧ (s.fs.stnGet n).isns.n = 256 ∧ (s.fs.stnGet n).sq.st = .ready ∧ (∀ k ∈ isnsPhases (s.fs.stnGet n).isns.cfg, (roundDiv (s.fs.stnGet n).isns.sum[k] 256).natAbs ≤ s.fs.cf (ISNS_CALCFG.CALLIM n) * 16))
    ∧ (∃ (n : Stn) (k : Fin 3) (s : State), (s.fs.stnGet n).isns.cal = .command ∧ (s.fs.stnGet n).isns.n = 256 ∧ k ∈ isnsPhases (s.fs.stnGet n).isns.cfg ∧ s.fs.cf (ISNS_CALCFG.CALLIM n) * 16 < (roundDiv (s.fs.stnGet n).isns.sum[k] 256).natAbs)
    ∧ (∃ (n : Stn) (d : Nat) (s : State), (s.fs.stnGet n).isns.cal = .settle ∧ (s.fs.stnGet n).isns.calT = some d)
    ∧ (∃ (n : Stn) (raw : SampleIn) (s : State), s.fs.fitted n.val = true ∧ s.fs.on 7 = true ∧ s.fs.trkOn n = true ∧ s.fs.gatesOn n = true ∧ fdGet (ISNS_CFG.CH_EN 0) (s.fs.stnGet n).isns.cfg = 1 ∧ toggles (sdBits (s.fs.stnGet n).isns.cfg raw.a) = true ∧ (s.fs.stnGet n).isns.trkStop.getLsbD 0 = false ∧ (let o := s.fs.cfi (ISNS_OFS.OFS n 0); (let o2 := o + roundDiv (isnsD (s.fs.stnGet n).isns.cfg (isnsRaw (s.fs.stnGet n).isns.cfg raw.a) - o) (2 ^ clampN 4 12 (s.fs.cf (ISNS_CALCFG.TRK_SHIFT n))); (o2 - (s.fs.stnGet n).isns.calOfs[0]).natAbs ≤ s.fs.cf (ISNS_TRKLIM.TRKLIM n) * 16))) :=
  ⟨⟨(5 : Fin 8), 5, (let k : Fin 8 := (5 : Fin 8); (fsU (fun t => { t with ain := t.ain.set k ⟨true, t.cf (AIN_CFG.GAIN k.val), 3, 12345, 2, false, 0, 0⟩ })) ((put (AIN_CFG.AVG k.val) 3) ((put (AIN_CFG.EN k.val) 1) ((put (PG_CTRL.ENABLE 0x33) 1) up)))), by decide +kernel⟩,
   ⟨(5 : Fin 8), 5, (let k : Fin 8 := (5 : Fin 8); (fsU (fun t => { t with ain := t.ain.set k ⟨true, t.cf (AIN_CFG.GAIN k.val), 3, 12345, 7, false, 0, 0⟩ })) ((put (AIN_CFG.AVG k.val) 3) ((put (AIN_CFG.EN k.val) 1) ((put (PG_CTRL.ENABLE 0x33) 1) up)))), by decide +kernel⟩,
   ⟨(1 : Stn), (2 : Fin 4), (let n : Stn := (1 : Stn); (put (PG_CTRL.ENABLE (stnPage n 4)) 1) up), by decide +kernel⟩,
   ⟨(1 : Stn), (let n : Stn := (1 : Stn); (stU n (fun x => { x with sq.st := .disabled })) up), by decide +kernel⟩,
   ⟨(1 : Stn), (let n : Stn := (1 : Stn); (stU n (fun x => { x with sq.st := .running })) up), by decide +kernel⟩,
   ⟨(1 : Stn), (let n : Stn := (1 : Stn); (put (ISNS_CALCFG.CALLIM n) 10) ((stU n (fun x => { x with isns.sum := #v[512, -300, 700] })) ((stU n (fun x => { x with sq.st := .ready })) ((stU n (fun x => { x with isns.n := 256 })) ((stU n (fun x => { x with isns.cal := .command })) up))))), by decide +kernel⟩,
   ⟨(1 : Stn), (1 : Fin 3), (let n : Stn := (1 : Stn); (put (ISNS_CALCFG.CALLIM n) 10) ((stU n (fun x => { x with isns.sum := #v[5, 600000, 7] })) ((stU n (fun x => { x with isns.cfg := 0xF })) ((stU n (fun x => { x with isns.n := 256 })) ((stU n (fun x => { x with isns.cal := .command })) up))))), by decide +kernel⟩,
   ⟨(1 : Stn), 7, (let n : Stn := (1 : Stn); let d : Nat := 7; (stU n (fun x => { x with isns.calT := some d })) ((stU n (fun x => { x with isns.cal := .settle })) up)), by decide +kernel⟩,
   ⟨(1 : Stn), (⟨[0, 31, 0], [], [], []⟩ : SampleIn), (let n : Stn := (1 : Stn); (put (ISNS_OFS.OFS n 0) 0) ((stU n (fun x => { x with isns.calOfs := #v[0, 0, 0] })) ((put (ISNS_TRKLIM.TRKLIM n) 255) ((fsU (fun t => { t with us := .run })) ((stU n (fun x => { x with sq.st := .running })) ((stU n (fun x => { x with isns.cfg := BitVec.ofNat 32 (1 <<< (ISNS_CFG.CH_EN 0).lo + 1 <<< (ISNS_CFG.LOC 0).lo + 1 <<< (ISNS_CFG.TRK_EN 0).lo) })) ((put (MOD_CFG.TOPO n) 0) ((put (PG_CTRL.ENABLE (stnPage n 4)) 1) up)))))))), by decide +kernel⟩⟩

/-- The hypotheses of each clause of SampleInstant can be met together. -/
theorem test_wit_SampleInstant :
    (∃ (n : Stn) (s : State), s.fs.fitted n.val = true ∧ s.fs.on 6 = true ∧ s.fs.clk.ftRun = true)
    ∧ (∃ (t : Tail), (∀ e ∈ t.ceWords.2, loopReg e.1 = true)) :=
  ⟨⟨(1 : Stn), (fun s => { s with fs.clk.ftRun := true }) up, by decide +kernel⟩,
   ⟨up.fs, by decide +kernel⟩⟩

/-- The hypotheses of each clause of BanksAndTrigger can be met together. -/
theorem test_wit_BanksAndTrigger :
    (∃ (n : Stn) (word : Word) (s : State), s.fs.fitted n.val = true ∧ s.fs.on 5 = true ∧ fdGet (BNKA_SWAP.REQ n) word = 1 ∧ (s.fs.stnGet n).sq.st.isRunning = false)
    ∧ (∃ (n : Stn) (word : Word) (s : State), s.fs.fitted n.val = true ∧ s.fs.on 5 = true ∧ fdGet (BNKA_SWAP.REQ n) word = 1 ∧ (s.fs.stnGet n).sq.st.isRunning = true)
    ∧ (∃ (n : Stn) (d : Fin 3) (r : RetSwap) (e : Nat) (s : State), (s.fs.stnGet n).banks.ret[d] = some r ∧ r.t = some e)
    ∧ (∃ (n : Stn) (s : State), s.fs.fitted n.val = true ∧ s.fs.on 3 = true ∧ s.fs.g (BNKA_STAT.ACT_CUR n) = 0 ∧ s.fs.g (BNKA_STAT.ACT_SO n) = 0)
    ∧ (∃ (n : Stn) (s : State), (s.fs.g (BNKA_STAT.ACT_CUR n) ≠ 0 ∨ s.fs.g (BNKA_STAT.ACT_SO n) ≠ 0))
    ∧ (∃ (s : State), s.fs.on 3 = true ∧ s.fs.enabled 0x38 = true ∧ (s.fs.g TRC_STAT.STATE = 0 ∨ s.fs.g TRC_STAT.STATE = 3))
    ∧ (∃ (s : State), s.fs.on 3 = true ∧ s.fs.enabled 0x38 = true ∧ s.fs.g TRC_STAT.STATE = 1)
    ∧ (∃ (s : State), s.fs.on 3 = true)
    ∧ (∃ (s : State), s.fs.g TRC_STAT.STATE = 2) :=
  ⟨⟨(1 : Stn), (1 : Word), up, by decide +kernel⟩,
   ⟨(1 : Stn), (1 : Word), (let n : Stn := (1 : Stn); (stU n (fun x => { x with sq.st := .running })) up), by decide +kernel⟩,
   ⟨(1 : Stn), (2 : Fin 3), (⟨0, true, false, some 900, false⟩ : RetSwap), 900, (let n : Stn := (1 : Stn); let d : Fin 3 := (2 : Fin 3); let r : RetSwap := (⟨0, true, false, some 900, false⟩ : RetSwap); (stU n (fun x => { x with banks.ret := x.banks.ret.set d (some r) })) up), by decide +kernel⟩,
   ⟨(1 : Stn), (let n : Stn := (1 : Stn); (put (BNKA_STAT.ACT_SO n) (0)) ((put (BNKA_STAT.ACT_CUR n) (0)) up)), by decide +kernel⟩,
   ⟨(1 : Stn), (let n : Stn := (1 : Stn); (put (BNKA_STAT.ACT_CUR n) 1) up), by decide +kernel⟩,
   ⟨(put TRC_STAT.STATE (0)) ((put (PG_CTRL.ENABLE 0x38) 1) up), by decide +kernel⟩,
   ⟨(put TRC_STAT.STATE (1)) ((put (PG_CTRL.ENABLE 0x38) 1) up), by decide +kernel⟩,
   ⟨up, by decide +kernel⟩,
   ⟨(put TRC_STAT.STATE (2)) up, by decide +kernel⟩⟩

/-- The hypotheses of each clause of SharingOverOrbit can be met together. -/
theorem test_wit_SharingOverOrbit :
    (∃ (n : Stn) (d : Nat) (s : State), (s.fs.stnGet n).setp.lostT = some d)
    ∧ (∃ (n : Stn) (d : Nat) (s : State), (s.fs.stnGet n).setp.okT = some d)
    ∧ (∃ (s : State), s.fs.u.orbit = true ∧ s.fs.enabled 0x36 = true ∧ s.fs.on 5 = true ∧ s.fs.g ORB_STAT.LINK1 = 1 ∧ s.fs.g ORB_STAT.LINK2 = 1 ∧ s.fs.g ORB_STAT.WRAPPED = 0)
    ∧ (∃ (s : State), s.fs.u.orbit = true ∧ s.fs.enabled 0x36 = true ∧ s.fs.on 5 = true ∧ s.fs.g ORB_STAT.LINK1 = 0 ∧ s.fs.g ORB_STAT.LINK2 = 1 ∧ s.fs.g ORB_STAT.WRAPPED = 1)
    ∧ (∃ (d : Nat) (s : State), s.fs.orb.unwrapT = some d)
    ∧ (∃ (g : Fin 4) (d : Nat) (m : Stn) (s : State), s.fs.shr[g].repT = some d ∧ s.fs.pacerOf g = some m ∧ (let t : Tail := { s.fs.elapse (d - s.fs.now) with shr := s.fs.shr.set g { s.fs.shr[g] with repT := some (s.fs.now + (d - s.fs.now) + 25000) } }; (t.txRead g).1 = none))
    ∧ (∃ (g : Fin 4) (d : Nat) (m : Stn) (s : State) (b : _), s.fs.shr[g].repT = some d ∧ s.fs.pacerOf g = some m ∧ (let t : Tail := { s.fs.elapse (d - s.fs.now) with shr := s.fs.shr.set g { s.fs.shr[g] with repT := some (s.fs.now + (d - s.fs.now) + 25000) } }; (t.txRead g).1 = some b))
    ∧ (∃ (g : Fin 4) (n : Stn) (s : State), s.fs.followers g = [n])
    ∧ (∃ (g : Fin 4) (n : Stn) (f : Nat) (s : State), s.fs.followers g = [n] ∧ s.fs.plostWaits g = none ∧ s.fs.mayPace g = true ∧ (s.fs.stnGet n).share.next = s.fs.stnId n.val ∧ (s.fs.stnGet n).share.fseq = some f)
    ∧ (∃ (f : OrbFrame) (s : State), s.fs.u.orbit = true ∧ s.fs.enabled 0x36 = true ∧ s.fs.on 5 = true ∧ s.fs.g ORB_STAT.LINK1 = 1 ∧ s.fs.orb.use[1] = true ∧ f.bytes.getD 0 0 = 1 ∧ 16 ≤ f.bytes.length ∧ s.fs.groupOfGid (parseFrame f.bytes).gid = none ∧ (parseFrame f.bytes).pacer / 4 ≠ s.fs.cf ORB_CFG.UNIT ∧ (parseFrame f.bytes).hop < 32 ∧ s.fs.runs 6 = true ∧ s.fs.orb.fwd = [] ∧ s.fs.orb.own = []) :=
  ⟨⟨(1 : Stn), 7, (let n : Stn := (1 : Stn); let d : Nat := 7; (stU n (fun x => { x with setp.lostT := some d })) up), by decide +kernel⟩,
   ⟨(1 : Stn), 7, (let n : Stn := (1 : Stn); let d : Nat := 7; (stU n (fun x => { x with setp.okT := some d })) up), by decide +kernel⟩,
   ⟨(put ORB_STAT.WRAPPED (0)) ((put ORB_STAT.LINK2 (1)) ((put ORB_STAT.LINK1 (1)) ((put (PG_CTRL.ENABLE 0x36) 1) ((fun s => { s with fs.u.orbit := true }) up)))), by decide +kernel⟩,
   ⟨(put ORB_STAT.WRAPPED (1)) ((put ORB_STAT.LINK2 (1)) ((put ORB_STAT.LINK1 (0)) ((put (PG_CTRL.ENABLE 0x36) 1) ((fun s => { s with fs.u.orbit := true }) up)))), by decide +kernel⟩,
   ⟨7, (let d : Nat := 7; (fun s => { s with fs.orb.unwrapT := some d }) up), by decide +kernel⟩,
   ⟨(2 : Fin 4), 7, (1 : Stn), (let g : Fin 4 := (2 : Fin 4); let d : Nat := 7; let m : Stn := (1 : Stn); (stU m (fun x => { x with sq.st := .running, share.role := .pacer })) ((put (SHR_GCFG.EN g.val) 1) ((put (SHR_STN.GRP m.val) g.val) ((put (SHR_STN.ROLE m.val) 1) ((put (PG_CTRL.ENABLE 0x37) 1) ((fsU (fun t => { t with shr := t.shr.set g { t.shr[g] with repT := some d } })) up)))))), by decide +kernel⟩,
   ⟨(2 : Fin 4), 7, (1 : Stn), (let g : Fin 4 := (2 : Fin 4); let d : Nat := 7; let m : Stn := (1 : Stn); (fsU (fun t => { t with shr := t.shr.set g { t.shr[g] with txAt := t.ssn } })) ((fsU (fun t => ((t.commit (fun t => (t.record .engine 130 10 true ((List.range 24).map (fun i => BitVec.ofNat 8 (3 * i)))))).logAll))) ((stU m (fun x => { x with sq.st := .running, share.role := .pacer })) ((put (SHR_GCFG.EN g.val) 1) ((put (SHR_STN.GRP m.val) g.val) ((put (SHR_STN.ROLE m.val) 1) ((put (PG_CTRL.ENABLE 0x37) 1) ((fsU (fun t => { t with shr := t.shr.set g { t.shr[g] with repT := some d } })) up)))))))), ((List.range 24).map (fun i => BitVec.ofNat 8 (3 * i))), by decide +kernel⟩,
   ⟨(2 : Fin 4), (1 : Stn), (let g : Fin 4 := (2 : Fin 4); let n : Stn := (1 : Stn); (stU n (fun x => { x with sq.st := .running, share.role := .follower })) ((put (SHR_GCFG.EN g.val) 1) ((put (SHR_STN.GRP n.val) g.val) ((put (SHR_STN.ROLE n.val) 1) ((put (PG_CTRL.ENABLE 0x37) 1) up))))), by decide +kernel⟩,
   ⟨(2 : Fin 4), (1 : Stn), 7, (let g : Fin 4 := (2 : Fin 4); let n : Stn := (1 : Stn); let f : Nat := 7; (put ORB_CFG.UNIT 0) ((stU n (fun x => { x with sq.st := .running, share.role := .follower })) ((put (SHR_GCFG.EN g.val) 1) ((put (SHR_STN.GRP n.val) g.val) ((put (SHR_STN.ROLE n.val) 1) ((put (PG_CTRL.ENABLE 0x37) 1) ((stU n (fun x => { x with share.next := up.fs.stnId n.val })) ((stU n (fun x => { x with share.fseq := some f })) up)))))))), by decide +kernel⟩,
   ⟨(let b : List Byte := [1, 2, 0, 7, 0xFF, 0xFF, 0x11, 5, 1, 2, 3, 4, 1, 2, 3, 4, 5, 6]; ⟨b ++ leBytes 4 (crc32c b).toNat, true⟩ : OrbFrame), (fsU (fun t => { t with orb.use := #v[true, true] })) ((put ORB_CFG.UNIT 3) ((fun s => { s with fs.orb.own := [] }) ((fun s => { s with fs.orb.fwd := [] }) ((put ORB_STAT.LINK1 (1)) ((put (PG_CTRL.ENABLE 0x36) 1) ((fun s => { s with fs.u.orbit := true }) up)))))), by decide +kernel⟩⟩

/-- The hypotheses of each clause of Diagnostics can be met together. -/
theorem test_wit_Diagnostics :
    (∃ (word : Word) (n : Stn) (s : State), s.fs.on 3 = true ∧ fdGet DIAG_CMD.RUN word = 1 ∧ fdGet DIAG_CMD.STN word = n.val ∧ s.fs.fitted n.val = true ∧ s.fs.enabled 0x25 = true ∧ s.fs.diagOn = false ∧ (s.fs.stnGet n).sq.st = .ready ∧ s.fs.g (ISNS_STAT.CAL_STATE n) ≠ 1 ∧ s.fs.inRun = true ∧ (s.fs.stnGet n).modu.fb &&& s.fs.usedCh n = 0)
    ∧ (∃ (word : Word) (s : State), (fdGet DIAG_CMD.RUN word = 0 ∨ s.fs.diagOn = true))
    ∧ (∃ (s : State), s.fs.on 3 = true ∧ s.fs.g DIAG_STAT.STATE = 2 ∧ (s.fs.stnGet s.fs.diagStn).sq.st = .diag)
    ∧ (∃ (m : DiagMeas) (s : State), s.fs.g DIAG_STAT.STATE = 2 ∧ s.fs.g DIAG_STAT.STEP < 3 ∧ (s.fs.stnGet s.fs.diagStn).sq.st = .diag ∧ s.fs.diagDisturbed s.fs.diagStn = false ∧ (s.fs.g DIAG_THR.DVMIN : Int) * 1000000 ≤ (m.v.getD 1 0 - m.v.getD 0 0) * (max 1 (s.fs.g DIAG_PSCFG.RATIO) : Nat))
    ∧ (∃ (s : State), s.fs.g DIAG_STAT.STATE = 2 ∧ 6 ≤ s.fs.g DIAG_STAT.STEP ∧ (let r := (s.fs.elapse (s.fs.diag.stepAt + 40000 - s.fs.now)).diagReal s.fs.diagStn (s.fs.g DIAG_STAT.STEP); (r.stnGet s.fs.diagStn).sq.st ≠ .diag))
    ∧ (∃ (m : DiagMeas) (s : State), s.fs.g DIAG_STAT.STATE = 2 ∧ 6 ≤ s.fs.g DIAG_STAT.STEP ∧ (let r := (s.fs.elapse (s.fs.diag.stepAt + 40000 - s.fs.now)).diagReal s.fs.diagStn (s.fs.g DIAG_STAT.STEP); (r.stnGet s.fs.diagStn).sq.st = .diag ∧ m.v = [])) :=
  ⟨⟨(0x11 : Word), (1 : Stn), (let n : Stn := (1 : Stn); (put DIAG_CFG.MASK 5) ((put (ISNS_STAT.CAL_STATE n) 2) ((stU n (fun x => { x with sq.st := .ready })) ((put (PG_CTRL.ENABLE 0x25) 1) up)))), by decide +kernel⟩,
   ⟨(0x10 : Word), up, by decide +kernel⟩,
   ⟨(stU 1 (fun x => { x with sq.st := .diag, sq.diagFrom := .ready })) ((put DIAG_STAT.STN 1) ((put DIAG_STAT.STATE (2)) up)), by decide +kernel⟩,
   ⟨(⟨[0, 900000000], true⟩ : DiagMeas), (put DIAG_STAT.STEP 1) ((stU 1 (fun x => { x with sq.st := .diag, sq.diagFrom := .ready })) ((put DIAG_STAT.STN 1) ((put DIAG_STAT.STATE (2)) up))), by decide +kernel⟩,
   ⟨(stU 1 (fun x => { x with isns.prot := #v[0, 0, 0, 5000] })) ((put (PROT_VDC.OV 1) 100) ((put DIAG_STAT.STEP 12) ((stU 1 (fun x => { x with sq.st := .diag, sq.diagFrom := .ready })) ((put DIAG_STAT.STN 1) ((put DIAG_STAT.STATE (2)) up))))), by decide +kernel⟩,
   ⟨(⟨[], true⟩ : DiagMeas), (put DIAG_STAT.STEP 7) ((stU 1 (fun x => { x with sq.st := .diag, sq.diagFrom := .ready })) ((put DIAG_STAT.STN 1) ((put DIAG_STAT.STATE (2)) up))), by decide +kernel⟩⟩

/-- The hypotheses of each clause of Housekeeping can be met together. -/
theorem test_wit_Housekeeping :
    (∃ (s : State), s.fs.pd 7 = true ∧ s.fs.runs 5 = true ∧ s.fs.on 3 = true ∧ s.fs.us = .readySafe ∧ s.fs.hk.od = false ∧ s.fs.hk.entry.getLsbD 0 = false ∧ s.fs.hk.queue = [] ∧ s.fs.hk.next ≠ 0)
    ∧ (∃ (c : Fin 6) (raw : Int) (s : State), s.fs.pd 7 = true ∧ s.fs.runs 5 = true ∧ s.fs.on 3 = true ∧ s.fs.us = .readySafe ∧ s.fs.hk.ch = c.val ∧ s.fs.hk.od = false ∧ s.fs.hk.entry = 1 ∧ s.fs.hk.queue = [] ∧ s.fs.hk.next ≠ 0 ∧ -400 ≤ raw ∧ raw ≤ 1500)
    ∧ (∃ (word : Word) (s : State), s.fs.pd 3 = true ∧ fdGet HK_OD.REQ word = 1 ∧ fdGet HK_OD.CH word < 22 ∧ s.fs.hk.queue.length < 8)
    ∧ (∃ (word : Word) (s : State), s.fs.pd 3 = true ∧ fdGet HK_OD.REQ word = 1 ∧ fdGet HK_OD.CH word < 22 ∧ 8 ≤ s.fs.hk.queue.length)
    ∧ (∃ (s : State), s.fs.pd 3 = true) :=
  ⟨⟨(fsU (fun t => { t with hk.entry := 2 })) ((fun s => { s with fs.hk.queue := [] }) ((fun s => { s with fs.hk.od := false }) ((fun s => { s with fs.us := .readySafe }) up))), by decide +kernel⟩,
   ⟨(3 : Fin 6), 1, (let c : Fin 6 := (3 : Fin 6); (fun s => { s with fs.hk.queue := [] }) ((fun s => { s with fs.hk.entry := 1 }) ((fun s => { s with fs.hk.od := false }) ((fun s => { s with fs.hk.ch := c.val }) ((fun s => { s with fs.us := .readySafe }) up))))), by decide +kernel⟩,
   ⟨(0x105 : Word), up, by decide +kernel⟩,
   ⟨(0x115 : Word), (fsU (fun t => { t with hk.queue := [1, 2, 3, 4, 5, 6, 7, 8] })) up, by decide +kernel⟩,
   ⟨up, by decide +kernel⟩⟩

/-- The hypotheses of each clause of ThermalShutdown can be met together. -/
theorem test_wit_ThermalShutdown :
    (∃ (n : Stn) (d : Nat) (s : State), s.fs.thd.grace[n] = some d)
    ∧ (∃ (e : Nat) (d : Dwell) (s : State), firstDwell s.fs.dwells = some (e, d))
    ∧ (∃ (sensor : Nat) (s : State), s.fs.pd 1 = true ∧ s.fs.us = .run ∧ sensor < 6)
    ∧ (∃ (z : Nat) (s : State), s.fs.us = .thermalShutdown ∧ s.fs.aon.ps = .run ∧ s.fs.aon.shutAt = some z)
    ∧ (∃ (z : Nat) (s : State), s.fs.us = .thermalShutdown ∧ s.fs.aon.ps = .thermal ∧ s.fs.aon.shutAt = some z) :=
  ⟨⟨(1 : Stn), 7, (let n : Stn := (1 : Stn); let d : Nat := 7; (fsU (fun t => { t with thd.grace := t.thd.grace.set n (some d) })) up), by decide +kernel⟩,
   ⟨4000, Dwell.scrub, (let e : Nat := 4000; (fsU (fun t => { t with thd.scrubT := some e })) up), by decide +kernel⟩,
   ⟨3, (fun s => { s with fs.us := .run }) up, by decide +kernel⟩,
   ⟨7, (let z : Nat := 7; (fun s => { s with fs.aon.shutAt := some z }) ((fun s => { s with fs.aon.ps := .run }) ((fun s => { s with fs.us := .thermalShutdown }) up))), by decide +kernel⟩,
   ⟨7, (let z : Nat := 7; (fun s => { s with fs.aon.shutAt := some z }) ((fun s => { s with fs.aon.ps := .thermal }) ((fun s => { s with fs.us := .thermalShutdown }) up))), by decide +kernel⟩⟩

/-- The hypotheses of each clause of SessionTimersAndKeys can be met together. -/
theorem test_wit_SessionTimersAndKeys :
    (∃ (c : Chal) (s : State), s.fs.sec.pend = some c)
    ∧ (∃ (d : Nat) (s : State), s.fs.aon.lockT = some d)
    ∧ (∃ (s : State), s.fs.sess ≠ 0 ∧ s.fs.on 3 = true)
    ∧ (∃ (s : State), s.fs.on 3 = true ∧ s.fs.otp.keyState = 0 ∧ crc32c (keyBytes s.fs.sec.keyw) = s.fs.sec.kchk)
    ∧ (∃ (s : State), s.fs.otp.keyState ≠ 0)
    ∧ (∃ (s : State), s.fs.on 3 = true ∧ s.fs.otp.cosign = false ∧ s.fs.locked 0x0A = false)
    ∧ (∃ (s : State), s.fs.otp.cosign = true) :=
  ⟨⟨(⟨2, 0x1234, [1, 2, 3], 5000⟩ : Chal), (let c : Chal := (⟨2, 0x1234, [1, 2, 3], 5000⟩ : Chal); (fun s => { s with fs.sec.pend := some c }) up), by decide +kernel⟩,
   ⟨7, (let d : Nat := 7; (fun s => { s with fs.aon.lockT := some d }) up), by decide +kernel⟩,
   ⟨(fsU (fun t => { t with sess := 2 })) up, by decide +kernel⟩,
   ⟨(fsU (fun t => { t with sec := { t.sec with kchk := crc32c (keyBytes t.sec.keyw) } })) ((fun s => { s with fs.otp.keyState := 0 }) up), by decide +kernel⟩,
   ⟨(fsU (fun t => { t with otp.keyState := 1 })) up, by decide +kernel⟩,
   ⟨(put (PG_LOCK.HOLD 0x0A) 0) ((fsU (fun t => { t with sess := 3 })) ((fun s => { s with fs.otp.cosign := false }) up)), by decide +kernel⟩,
   ⟨(fun s => { s with fs.otp.cosign := true }) up, by decide +kernel⟩⟩

/-- The hypotheses of each clause of FirmwareLoad can be met together. -/
theorem test_wit_FirmwareLoad :
    (∃ (s : State), s.fs.on 3 = true ∧ s.fs.locked 0x0B = false ∧ s.fs.fw.load = .idle ∧ s.fs.fw.slots[s.fs.fw.booted].st ≠ .trial ∧ s.fs.fw.recovery = false)
    ∧ (∃ (s : State), s.fs.fw.load = .erasing ∧ s.fs.on 3 = true)
    ∧ (∃ (r : RecIx) (d : List Byte) (t1 : Tail) (s : State), s.fs.fw.load = .loading ∧ s.fs.on 3 = true ∧ s.fs.pd 4 = true ∧ s.fs.imageRec = some r ∧ s.fs.takeImage r = (d, false, t1) ∧ d ≠ [] ∧ leNat (d.take 4) = s.fs.fw.ofs ∧ s.fs.fw.ofs + (d.drop 4).length ≤ imageMax ∧ s.fs.fw.commitWait = false)
    ∧ (∃ (s : State), s.fs.on 3 = true ∧ s.fs.locked 0x0B = false ∧ s.fs.fw.load = .loading)
    ∧ (∃ (s : State), s.fs.on 3 = true ∧ s.fs.fw.load = .verifying)
    ∧ (∃ (s : State), s.fs.on 3 = true ∧ s.fs.locked 0x0B = false)
    ∧ (∃ (s : State), s.fs.on 3 = true ∧ s.fs.locked 0x0B = false ∧ s.fs.fw.slots[s.fs.fw.booted].st = .trial ∧ s.fs.us = .readySafe) :=
  ⟨⟨(fsU (fun t => { t with fw.booted := 0 })) ((put (PG_LOCK.HOLD 0x0B) 0) ((fsU (fun t => { t with sess := 3 })) ((fun s => { s with fs.fw.recovery := false }) ((fun s => { s with fs.fw.load := .idle }) up)))), by decide +kernel⟩,
   ⟨(fun s => { s with fs.fw.load := .erasing }) up, by decide +kernel⟩,
   ⟨((fsU (fun t => (t.commit (fun t => t.putRec 168 ⟨0, 0x0B, true, false, [0, 0, 0, 0, 7, 8, 9]⟩)).logAll)) ((fsU (fun t => { t with fw := { t.fw with load := .loading, ofs := 0, target := 1 } })) ((fun s => { s with fs.fw.commitWait := false }) ((fun s => { s with fs.fw.load := .loading }) up)))).fs.imageRec.getD ⟨0, 0, 0, 0, 0, 0, false⟩, (((fsU (fun t => (t.commit (fun t => t.putRec 168 ⟨0, 0x0B, true, false, [0, 0, 0, 0, 7, 8, 9]⟩)).logAll)) ((fsU (fun t => { t with fw := { t.fw with load := .loading, ofs := 0, target := 1 } })) ((fun s => { s with fs.fw.commitWait := false }) ((fun s => { s with fs.fw.load := .loading }) up)))).fs.takeImage (((fsU (fun t => (t.commit (fun t => t.putRec 168 ⟨0, 0x0B, true, false, [0, 0, 0, 0, 7, 8, 9]⟩)).logAll)) ((fsU (fun t => { t with fw := { t.fw with load := .loading, ofs := 0, target := 1 } })) ((fun s => { s with fs.fw.commitWait := false }) ((fun s => { s with fs.fw.load := .loading }) up)))).fs.imageRec.getD ⟨0, 0, 0, 0, 0, 0, false⟩)).1, (((fsU (fun t => (t.commit (fun t => t.putRec 168 ⟨0, 0x0B, true, false, [0, 0, 0, 0, 7, 8, 9]⟩)).logAll)) ((fsU (fun t => { t with fw := { t.fw with load := .loading, ofs := 0, target := 1 } })) ((fun s => { s with fs.fw.commitWait := false }) ((fun s => { s with fs.fw.load := .loading }) up)))).fs.takeImage (((fsU (fun t => (t.commit (fun t => t.putRec 168 ⟨0, 0x0B, true, false, [0, 0, 0, 0, 7, 8, 9]⟩)).logAll)) ((fsU (fun t => { t with fw := { t.fw with load := .loading, ofs := 0, target := 1 } })) ((fun s => { s with fs.fw.commitWait := false }) ((fun s => { s with fs.fw.load := .loading }) up)))).fs.imageRec.getD ⟨0, 0, 0, 0, 0, 0, false⟩)).2.2, (fsU (fun t => (t.commit (fun t => t.putRec 168 ⟨0, 0x0B, true, false, [0, 0, 0, 0, 7, 8, 9]⟩)).logAll)) ((fsU (fun t => { t with fw := { t.fw with load := .loading, ofs := 0, target := 1 } })) ((fun s => { s with fs.fw.commitWait := false }) ((fun s => { s with fs.fw.load := .loading }) up))), by decide +kernel⟩,
   ⟨(put (PG_LOCK.HOLD 0x0B) 0) ((fsU (fun t => { t with sess := 3 })) ((fun s => { s with fs.fw.load := .loading }) up)), by decide +kernel⟩,
   ⟨(fun s => { s with fs.fw.load := .verifying }) up, by decide +kernel⟩,
   ⟨(fsU (fun t => { t with fw := { t.fw with target := 1, slots := t.fw.slots.set 1 Slot.empty } })) ((put (PG_LOCK.HOLD 0x0B) 0) ((fsU (fun t => { t with sess := 3 })) up)), by decide +kernel⟩,
   ⟨(fsU (fun t => { t with fw := { t.fw with booted := 0, slots := t.fw.slots.set 0 ⟨.trial, 1, 2, []⟩ } })) ((put (PG_LOCK.HOLD 0x0B) 0) ((fsU (fun t => { t with sess := 3 })) ((fun s => { s with fs.us := .readySafe }) up))), by decide +kernel⟩⟩

/-- The hypotheses of each clause of HostReads can be met together. -/
theorem test_wit_HostReads :
    (∃ (f : Frame) (s : State), s.Serves .regRead f ∧ s.fs.fw.recovery = false)
    ∧ (∃ (f : Frame) (s : State), s.Serves .statusDigest f ∧ s.fs.fw.recovery = false)
    ∧ (∃ (f : Frame) (s : State), s.Serves .nop f ∧ s.fs.fw.recovery = false)
    ∧ (∃ (f : Frame) (s : State), s.hs.powered = true ∧ s.hs.frame = none ∧ headerCheck s.fs.u .regRead f = none ∧ frameLocal .regRead f = true)
    ∧ (∃ (f : Frame) (st : Nat) (s : State), s.hs.powered = true ∧ s.hs.frame = none ∧ headerCheck s.fs.u .nop f = some st)
    ∧ (∃ (f : Frame) (s : State), s.hs.powered = true ∧ s.hs.frame = none ∧ headerCheck s.fs.u .nop f = none ∧ s.hs.present = false)
    ∧ (∃ (f : Frame) (s : State), s.hs.powered = true ∧ s.hs.frame = none ∧ headerCheck s.fs.u .nop f = none ∧ s.hs.present = true ∧ s.hs.ready = false)
    ∧ (∃ (f : Frame) (s : State), s.hs.powered = true ∧ s.hs.frame = none ∧ headerCheck s.fs.u .nop f = none ∧ s.hs.ready = true ∧ s.fs.serves = false ∧ s.hs.entry (frCh f) f.seq = none) :=
  ⟨⟨({ stream := 0x33, seq := 9, flags := 0x10, addr := 0x20, len := 16, payload := [] } : Frame), (fsU (fun t => { t with fw.recovery := false })) ((linkU (fun l => { l with ready := true })) ((hsU (fun h => { h with frame := none, powered := true, alert := ⟨true, h.alert.level, true⟩, fault := ⟨true, h.fault.level, true⟩ })) ((fun s => { s with fs.fw.recovery := false }) up))), by decide +kernel⟩,
   ⟨({ stream := 0, seq := 9, flags := 0x10, addr := 0, len := 0, payload := [] } : Frame), (fsU (fun t => { t with fw.recovery := false })) ((linkU (fun l => { l with ready := true })) ((hsU (fun h => { h with frame := none, powered := true, alert := ⟨true, h.alert.level, true⟩, fault := ⟨true, h.fault.level, true⟩ })) ((fun s => { s with fs.fw.recovery := false }) up))), by decide +kernel⟩,
   ⟨({ stream := 0, seq := 9, flags := 0x38, addr := 0, len := 0, payload := [] } : Frame), (fsU (fun t => { t with fw.recovery := false })) ((linkU (fun l => { l with ready := true })) ((hsU (fun h => { h with frame := none, powered := true, alert := ⟨true, h.alert.level, true⟩, fault := ⟨true, h.fault.level, true⟩ })) ((fun s => { s with fs.fw.recovery := false }) up))), by decide +kernel⟩,
   ⟨({ stream := 1, seq := 9, flags := 0x10, addr := 0, len := 0x40, payload := [] } : Frame), (fun s => { s with hs.frame := none }) ((fun s => { s with hs.powered := true }) up), by decide +kernel⟩,
   ⟨({ stream := 0, seq := 9, flags := 0x40, addr := 0, len := 0, payload := [] } : Frame), (let f : Frame := ({ stream := 0, seq := 9, flags := 0x40, addr := 0, len := 0, payload := [] } : Frame); (headerCheck up.fs.u .nop f).getD 0), (fun s => { s with hs.frame := none }) ((fun s => { s with hs.powered := true }) up), by decide +kernel⟩,
   ⟨({ stream := 0, seq := 9, flags := 0x10, addr := 0, len := 0, payload := [] } : Frame), (hsU (fun h => { h with alert.alive := false })) ((hsU (fun h => { h with fault := ⟨false, h.fault.level, false⟩, alert := ⟨false, h.alert.level, false⟩ })) ((fun s => { s with hs.frame := none }) ((fun s => { s with hs.powered := true }) up))), by decide +kernel⟩,
   ⟨({ stream := 0, seq := 9, flags := 0x10, addr := 0, len := 0, payload := [] } : Frame), (hsU (fun h => { h with fault := ⟨h.fault.alive, h.fault.level, false⟩, alert := ⟨h.alert.alive, h.alert.level, false⟩ })) ((hsU (fun h => { h with fault := ⟨true, h.fault.level, h.fault.linkRdy⟩, alert := ⟨true, h.alert.level, h.alert.linkRdy⟩ })) ((fun s => { s with hs.frame := none }) ((fun s => { s with hs.powered := true }) up))), by decide +kernel⟩,
   ⟨({ stream := 0, seq := 9, flags := 0x10, addr := 0, len := 0, payload := [] } : Frame), (linkU (fun lk => { lk with ready := false })) ((fun s => { s with hs.frame := none }) ((fun s => { s with hs.powered := true }) up)), by decide +kernel⟩⟩

/-- The hypotheses of each clause of HostWrites can be met together. -/
theorem test_wit_HostWrites :
    (∃ (f : Frame) (s : State), s.Serves .regWrite f ∧ s.fs.fw.recovery = false ∧ frVerify f = false ∧ (let w := payloadWr f.stream.toNat false f.addr.toNat f.payload; (let t := s.begun .regWrite f; refusal (t.writeCheck w) = none)))
    ∧ (∃ (f : Frame) (s : State), s.Serves .regWrite f ∧ s.fs.fw.recovery = false ∧ frVerify f = false ∧ (let w := payloadWr f.stream.toNat false f.addr.toNat f.payload; (let t := s.begun .regWrite f; refusal (t.writeCheck w) = some lockedSt)))
    ∧ (∃ (f : Frame) (s : State), s.Serves .regWriteVerify f ∧ s.fs.fw.recovery = false ∧ (let w := payloadWr f.stream.toNat false f.addr.toNat f.payload; (let t := s.begun .regWriteVerify f; refusal (t.writeCheck w) = none)))
    ∧ (∃ (p : Byte) (s : State), s.fs.on 3 = true ∧ p ≠ 1 ∧ p ≠ 2 ∧ reservedPage p.toNat = false ∧ s.fs.absentPage p.toNat = false ∧ refusal (s.fs.writeCheck (Wr.one (PG_CTRL.SRST p.toNat).addr 2)) = none)
    ∧ (∃ (s : State), s.hs.powered = true ∧ s.hs.g s.fs.u (PG_LOCK.HOLD 1) = 1)
    ∧ (∃ (n : Stn) (f : Frame) (s : State), s.Serves .regWrite f ∧ s.fs.fw.recovery = false ∧ frVerify f = false ∧ f.stream.toNat = stnPage n 0 ∧ s.fs.store.sys = [] ∧ (let w := payloadWr (stnPage n 0) false f.addr.toNat f.payload; (let t0 := s.begun .regWrite f; (let off := w.has (PG_CTRL.ENABLE (stnPage n 0)) = true ∧ t0.newv w (PG_CTRL.ENABLE (stnPage n 0)) = 0; w.srst = false ∧ s.fs.locked (stnPage n 0) = false ∧ refusal (t0.writeCheck w) = none ∧ (w.cmd (STN_CMD.START n) = 1 → s.fs.sqcUp = true) ∧ (off → (t0.stnGet n).sq.st ≠ .diag))))) :=
  ⟨⟨({ stream := 0x33, seq := 9, flags := 0x10, addr := 0x20, len := 8, payload := [1,0,0,0,2,0,0,0] } : Frame), (fun s => { s with fs.fw.recovery := false }) up, by decide +kernel⟩,
   ⟨({ stream := 0x23, seq := 9, flags := 0x10, addr := 0x20, len := 4, payload := [1,0,0,0] } : Frame), (put (PG_LOCK.HOLD 0x23) 1) ((fun s => { s with fs.fw.recovery := false }) up), by decide +kernel⟩,
   ⟨({ stream := 0x33, seq := 9, flags := 0x10, addr := 0x20, len := 8, payload := [1,0,0,0,2,0,0,0] } : Frame), (fun s => { s with fs.fw.recovery := false }) up, by decide +kernel⟩,
   ⟨(0x33 : Byte), up, by decide +kernel⟩,
   ⟨(hput (PG_LOCK.HOLD 1) (1)) ((fun s => { s with hs.powered := true }) up), by decide +kernel⟩,
   ⟨(1 : Stn), ({ stream := 0x50, seq := 9, flags := 0x10, addr := 0x20, len := 12, payload := [1,0,0,0,2,3,0,0,7,0,8,0] } : Frame), (put (PG_LOCK.HOLD 0x50) 0) ((fun s => { s with fs.store.sys := [] }) ((fun s => { s with fs.fw.recovery := false }) up)), by decide +kernel⟩⟩

/-- The hypotheses of each clause of StreamFrames can be met together. -/
theorem test_wit_StreamFrames :
    (∃ (f : Frame) (s : State), s.Serves .streamPut f ∧ frVerify f = false ∧ (let t := s.begun .streamPut f; refusal (t.putCheck f.stream.toNat f.payload.length) = none))
    ∧ (∃ (f : Frame) (s : State) (cut : Bool) (d : List Byte) (ps : List Nat) (skipped : Bool) (t2 : Tail), s.Serves .streamGet f ∧ traceStream f.stream.toNat = false ∧ (let k := f.stream.toNat; (let t := ((s.begun .streamGet f).sysReads (descX k) 2).consume k; refusal ((s.begun .streamGet f).getCheck k (hostGet k)) = none ∧ t.streamData k f.len.toNat (t.sst k).recs (t.sst k).skip = (cut, d, ps, skipped, t2))))
    ∧ (∃ (f : Frame) (s : State) (cut : Bool) (d : List Byte) (ps : List Nat) (skipped : Bool) (t2 : Tail), s.Serves .streamPeek f ∧ traceStream f.stream.toNat = false ∧ (let k := f.stream.toNat; (let t := (s.begun .streamPeek f).sysReads (descX k) 2; refusal ((s.begun .streamPeek f).getCheck k (hostPeek k)) = none ∧ t.streamData k f.len.toNat (skipData f.addr.toNat (t.sst k).recs) false = (cut, d, ps, skipped, t2)))) :=
  ⟨⟨({ stream := 67, seq := 9, flags := 0x10, addr := 0, len := 5, payload := [1,2,3,4,5] } : Frame), up, by decide +kernel⟩,
   ⟨({ stream := 160, seq := 9, flags := 0x10, addr := 0, len := 64, payload := [] } : Frame), (fsU (fun t => (t.commit (fun t => t.putRec 160 ⟨160, 3, true, false, [1, 2, 3, 4, 7, 8, 9]⟩)).logAll)) ((fsU (fun t => (t.commit (fun t => t.putRec 160 ⟨160, 3, true, false, [1, 2, 3, 4, 7, 8, 9]⟩)).logAll)) up), (let f : Frame := ({ stream := 160, seq := 9, flags := 0x10, addr := 0, len := 64, payload := [] } : Frame); let k := f.stream.toNat; (let k := 160; let t := ((((fsU (fun t => (t.commit (fun t => t.putRec 160 ⟨160, 3, true, false, [1, 2, 3, 4, 7, 8, 9]⟩)).logAll)) ((fsU (fun t => (t.commit (fun t => t.putRec 160 ⟨160, 3, true, false, [1, 2, 3, 4, 7, 8, 9]⟩)).logAll)) up)).begun .streamGet f).sysReads (descX k) 2).consume k; t.streamData k f.len.toNat (t.sst k).recs (t.sst k).skip).1), (let f : Frame := ({ stream := 160, seq := 9, flags := 0x10, addr := 0, len := 64, payload := [] } : Frame); let k := f.stream.toNat; (let k := 160; let t := ((((fsU (fun t => (t.commit (fun t => t.putRec 160 ⟨160, 3, true, false, [1, 2, 3, 4, 7, 8, 9]⟩)).logAll)) ((fsU (fun t => (t.commit (fun t => t.putRec 160 ⟨160, 3, true, false, [1, 2, 3, 4, 7, 8, 9]⟩)).logAll)) up)).begun .streamGet f).sysReads (descX k) 2).consume k; t.streamData k f.len.toNat (t.sst k).recs (t.sst k).skip).2.1), (let f : Frame := ({ stream := 160, seq := 9, flags := 0x10, addr := 0, len := 64, payload := [] } : Frame); let k := f.stream.toNat; (let k := 160; let t := ((((fsU (fun t => (t.commit (fun t => t.putRec 160 ⟨160, 3, true, false, [1, 2, 3, 4, 7, 8, 9]⟩)).logAll)) ((fsU (fun t => (t.commit (fun t => t.putRec 160 ⟨160, 3, true, false, [1, 2, 3, 4, 7, 8, 9]⟩)).logAll)) up)).begun .streamGet f).sysReads (descX k) 2).consume k; t.streamData k f.len.toNat (t.sst k).recs (t.sst k).skip).2.2.1), (let f : Frame := ({ stream := 160, seq := 9, flags := 0x10, addr := 0, len := 64, payload := [] } : Frame); let k := f.stream.toNat; (let k := 160; let t := ((((fsU (fun t => (t.commit (fun t => t.putRec 160 ⟨160, 3, true, false, [1, 2, 3, 4, 7, 8, 9]⟩)).logAll)) ((fsU (fun t => (t.commit (fun t => t.putRec 160 ⟨160, 3, true, false, [1, 2, 3, 4, 7, 8, 9]⟩)).logAll)) up)).begun .streamGet f).sysReads (descX k) 2).consume k; t.streamData k f.len.toNat (t.sst k).recs (t.sst k).skip).2.2.2.1), (let f : Frame := ({ stream := 160, seq := 9, flags := 0x10, addr := 0, len := 64, payload := [] } : Frame); let k := f.stream.toNat; (let k := 160; let t := ((((fsU (fun t => (t.commit (fun t => t.putRec 160 ⟨160, 3, true, false, [1, 2, 3, 4, 7, 8, 9]⟩)).logAll)) ((fsU (fun t => (t.commit (fun t => t.putRec 160 ⟨160, 3, true, false, [1, 2, 3, 4, 7, 8, 9]⟩)).logAll)) up)).begun .streamGet f).sysReads (descX k) 2).consume k; t.streamData k f.len.toNat (t.sst k).recs (t.sst k).skip).2.2.2.2), by decide +kernel⟩,
   ⟨({ stream := 160, seq := 9, flags := 0x10, addr := 0, len := 64, payload := [] } : Frame), (fsU (fun t => (t.commit (fun t => t.putRec 160 ⟨160, 3, true, false, [1, 2, 3, 4, 7, 8, 9]⟩)).logAll)) ((fsU (fun t => (t.commit (fun t => t.putRec 160 ⟨160, 3, true, false, [1, 2, 3, 4, 7, 8, 9]⟩)).logAll)) up), (let f : Frame := ({ stream := 160, seq := 9, flags := 0x10, addr := 0, len := 64, payload := [] } : Frame); let k := f.stream.toNat; (let k := 160; let t := (((fsU (fun t => (t.commit (fun t => t.putRec 160 ⟨160, 3, true, false, [1, 2, 3, 4, 7, 8, 9]⟩)).logAll)) ((fsU (fun t => (t.commit (fun t => t.putRec 160 ⟨160, 3, true, false, [1, 2, 3, 4, 7, 8, 9]⟩)).logAll)) up)).begun .streamPeek f).sysReads (descX k) 2; t.streamData k f.len.toNat (skipData f.addr.toNat (t.sst k).recs) false).1), (let f : Frame := ({ stream := 160, seq := 9, flags := 0x10, addr := 0, len := 64, payload := [] } : Frame); let k := f.stream.toNat; (let k := 160; let t := (((fsU (fun t => (t.commit (fun t => t.putRec 160 ⟨160, 3, true, false, [1, 2, 3, 4, 7, 8, 9]⟩)).logAll)) ((fsU (fun t => (t.commit (fun t => t.putRec 160 ⟨160, 3, true, false, [1, 2, 3, 4, 7, 8, 9]⟩)).logAll)) up)).begun .streamPeek f).sysReads (descX k) 2; t.streamData k f.len.toNat (skipData f.addr.toNat (t.sst k).recs) false).2.1), (let f : Frame := ({ stream := 160, seq := 9, flags := 0x10, addr := 0, len := 64, payload := [] } : Frame); let k := f.stream.toNat; (let k := 160; let t := (((fsU (fun t => (t.commit (fun t => t.putRec 160 ⟨160, 3, true, false, [1, 2, 3, 4, 7, 8, 9]⟩)).logAll)) ((fsU (fun t => (t.commit (fun t => t.putRec 160 ⟨160, 3, true, false, [1, 2, 3, 4, 7, 8, 9]⟩)).logAll)) up)).begun .streamPeek f).sysReads (descX k) 2; t.streamData k f.len.toNat (skipData f.addr.toNat (t.sst k).recs) false).2.2.1), (let f : Frame := ({ stream := 160, seq := 9, flags := 0x10, addr := 0, len := 64, payload := [] } : Frame); let k := f.stream.toNat; (let k := 160; let t := (((fsU (fun t => (t.commit (fun t => t.putRec 160 ⟨160, 3, true, false, [1, 2, 3, 4, 7, 8, 9]⟩)).logAll)) ((fsU (fun t => (t.commit (fun t => t.putRec 160 ⟨160, 3, true, false, [1, 2, 3, 4, 7, 8, 9]⟩)).logAll)) up)).begun .streamPeek f).sysReads (descX k) 2; t.streamData k f.len.toNat (skipData f.addr.toNat (t.sst k).recs) false).2.2.2.1), (let f : Frame := ({ stream := 160, seq := 9, flags := 0x10, addr := 0, len := 64, payload := [] } : Frame); let k := f.stream.toNat; (let k := 160; let t := (((fsU (fun t => (t.commit (fun t => t.putRec 160 ⟨160, 3, true, false, [1, 2, 3, 4, 7, 8, 9]⟩)).logAll)) ((fsU (fun t => (t.commit (fun t => t.putRec 160 ⟨160, 3, true, false, [1, 2, 3, 4, 7, 8, 9]⟩)).logAll)) up)).begun .streamPeek f).sysReads (descX k) 2; t.streamData k f.len.toNat (skipData f.addr.toNat (t.sst k).recs) false).2.2.2.2), by decide +kernel⟩⟩

/-- The hypotheses of each clause of SessionFrames can be met together. -/
theorem test_wit_SessionFrames :
    (∃ (f : Frame) (s : State), s.Serves .sessionOpen f ∧ (let t := s.begun .sessionOpen f; (let l := (f.payload.getD 0 0).toNat; (l = 1 ∨ l = 2) ∧ t.otp.keyState = 1 ∧ t.sess = 0 ∧ t.aon.lockT = none)))
    ∧ (∃ (f : Frame) (c : Chal) (s : State), s.Serves .sessionAuth f ∧ (let t := s.begun .sessionAuth f; t.sess = 0 ∧ t.sec.pend = some c ∧ c.sid = BitVec.ofNat 32 (leNat (f.payload.take 4)) ∧ t.sessMac c = f.payload.drop 4 ∧ c.level ≠ 0))
    ∧ (∃ (f : Frame) (c : Chal) (s : State), s.Serves .sessionAuth f ∧ (let t := s.begun .sessionAuth f; t.sess = 0 ∧ t.sec.pend = some c ∧ c.sid = BitVec.ofNat 32 (leNat (f.payload.take 4)) ∧ t.sessMac c ≠ f.payload.drop 4))
    ∧ (∃ (f : Frame) (s : State), s.Serves .sessionClose f ∧ (let t := s.begun .sessionClose f; (let sid : Word := BitVec.ofNat 32 (leNat (f.payload.take 4)); t.sess ≠ 0 ∧ t.sec.sid = sid)))
    ∧ (∃ (f : Frame) (s : State), s.Serves .sessionClose f ∧ (let t := s.begun .sessionClose f; (let sid : Word := BitVec.ofNat 32 (leNat (f.payload.take 4)); t.sess ≠ 0 ∧ t.sec.sid ≠ sid))) :=
  ⟨⟨({ stream := 0, seq := 9, flags := 0x10, addr := 0, len := 4, payload := [1,0,0,0] } : Frame), (aonU (fun a => { a with lockT := none })) ((fsU (fun t => { t with sess := 0, otp.keyState := 1 })) up), by decide +kernel⟩,
   ⟨({ stream := 0, seq := 9, flags := 0x10, addr := 0, len := 36, payload := ([0x34, 0x12, 0, 0] ++ State.reset.fs.sessMac (⟨2, 0x1234, [1, 2, 3], 5000⟩ : Chal)) } : Frame), (⟨2, 0x1234, [1, 2, 3], 5000⟩ : Chal), (let c : Chal := (⟨2, 0x1234, [1, 2, 3], 5000⟩ : Chal); (fsU (fun t => { t with sess := 0, sec.pend := some c, otp := Otp.init })) up), by decide +kernel⟩,
   ⟨({ stream := 0, seq := 9, flags := 0x10, addr := 0, len := 36, payload := ([0x34, 0x12, 0, 0] ++ List.replicate 32 0) } : Frame), (⟨2, 0x1234, [1, 2, 3], 5000⟩ : Chal), (let c : Chal := (⟨2, 0x1234, [1, 2, 3], 5000⟩ : Chal); (put SEC_STAT.FAILS 4) ((fsU (fun t => { t with sess := 0, sec.pend := some c, otp := Otp.init })) up)), by decide +kernel⟩,
   ⟨({ stream := 0, seq := 9, flags := 0x10, addr := 0, len := 4, payload := [0x34,0x12,0,0] } : Frame), (fsU (fun t => { t with sess := 2, sec.sid := 0x1234 })) up, by decide +kernel⟩,
   ⟨({ stream := 0, seq := 9, flags := 0x10, addr := 0, len := 4, payload := [0x34,0x12,1,0] } : Frame), (fsU (fun t => { t with sess := 2, sec.sid := 0x1234 })) up, by decide +kernel⟩⟩

/-- The hypotheses of each clause of FaultClearFrames can be met together. -/
theorem test_wit_FaultClearFrames :
    (∃ (n : Stn) (f0 : Frame) (s : State), (let f := { f0 with stream := BitVec.ofNat 8 (stnPage n 0xE), addr := 1 }; (let t := s.begun .cmd f; (let tok : Word := BitVec.ofNat 32 (leNat (f.payload.take 4)); s.Serves .cmd f ∧ s.fs.fw.recovery = false ∧ tok ≠ 0 ∧ f.payload.length = 8 ∧ t.sess = 0 ∧ t.toks.find? (fun e => e.1 = stnPage n 0xE && e.2.1 = tok) = none))))
    ∧ (∃ (n : Stn) (f0 : Frame) (s : State) (e : _), (let f := { f0 with stream := BitVec.ofNat 8 (stnPage n 0xE), addr := 1 }; (let t := s.begun .cmd f; (let tok : Word := BitVec.ofNat 32 (leNat (f.payload.take 4)); s.Serves .cmd f ∧ s.fs.fw.recovery = false ∧ tok ≠ 0 ∧ f.payload.length = 8 ∧ t.sess = 0 ∧ t.toks.find? (fun e => e.1 = stnPage n 0xE && e.2.1 = tok) = some e))))
    ∧ (∃ (f0 : Frame) (s : State), (let f := { f0 with stream := 0x23, addr := 1 }; (let t := s.begun .cmd f; (let tok : Word := BitVec.ofNat 32 (leNat (f.payload.take 4)); s.Serves .cmd f ∧ s.fs.fw.recovery = false ∧ tok ≠ 0 ∧ f.payload.length = 4 ∧ t.sess = 0 ∧ t.toks.find? (fun e => e.1 = 0x23 && e.2.1 = tok) = none)))) :=
  ⟨⟨(1 : Stn), ({ stream := 0, seq := 9, flags := 0x10, addr := 0, len := 8, payload := [7,0,0,0,255,255,0,0] } : Frame), (fsU (fun t => { t with sess := 0, toks := [] })) ((fun s => { s with fs.fw.recovery := false }) up), by decide +kernel⟩,
   ⟨(1 : Stn), ({ stream := 0, seq := 9, flags := 0x10, addr := 0, len := 8, payload := [7,0,0,0,255,255,0,0] } : Frame), (let n : Stn := (1 : Stn); (fsU (fun t => { t with sess := 0, toks := [(stnPage n 0xE, 7, 5)] })) ((fun s => { s with fs.fw.recovery := false }) up)), (stnPage 1 0xE, (7 : Word), (5 : Word)), by decide +kernel⟩,
   ⟨({ stream := 0, seq := 9, flags := 0x10, addr := 0, len := 4, payload := [7,0,0,0] } : Frame), (fsU (fun t => { t with sess := 0, toks := [] })) ((fun s => { s with fs.fw.recovery := false }) up), by decide +kernel⟩⟩

/-- The hypotheses of each clause of FrameBytesAndClears can be met together. -/
theorem test_wit_FrameBytesAndClears :
    (∃ (bytes : List Byte) (s : State), s.hs.powered = true ∧ s.hs.frame = none ∧ bytes.length = 12 ∧ BitVec.ofNat 32 (leNat (bytes.drop 8)) ≠ crc32c (bytes.take 8))
    ∧ (∃ (bytes : List Byte) (op : HspOp) (s : State), s.hs.powered = true ∧ s.hs.frame = none ∧ bytes.length = 12 ∧ BitVec.ofNat 32 (leNat (bytes.drop 8)) = crc32c (bytes.take 8) ∧ opOf (bytes.getD 0 0) = some op ∧ headerCheck s.fs.u op (headerFrame bytes) = none ∧ frameLocal op (headerFrame bytes) = false ∧ s.hs.ready = true ∧ s.fs.serves = true)
    ∧ (∃ (op : HspOp) (f : Frame) (q : Word) (o : OutReq) (s : State), s.hs.frame = some ⟨op, f, q, .payload⟩ ∧ s.hs.out = some o ∧ opPayload op = false ∧ s.fs.link.openMsg = .open ∧ s.hs.entry (frCh f) f.seq = none)
    ∧ (∃ (op : HspOp) (f : Frame) (q : Word) (o : OutReq) (s : State), s.hs.frame = some ⟨op, f, q, .payload⟩ ∧ s.hs.out = some o ∧ s.fs.link.openMsg = .open)
    ∧ (∃ (op : HspOp) (f : Frame) (q : Word) (s : State), s.hs.frame = some ⟨op, f, q, .over⟩ ∧ frameLocal op f = false)
    ∧ (∃ (op : HspOp) (f : Frame) (q : Word) (o : OutReq) (s : State), s.hs.out = some o ∧ o.disp = .execute ∧ s.hs.frame = some ⟨op, f, q, .waiting⟩)
    ∧ (∃ (op : HspOp) (f : Frame) (q : Word) (o : OutReq) (s : State), s.hs.out = some o ∧ o.disp = .execute ∧ s.hs.frame = some ⟨op, f, q, .data⟩)
    ∧ (∃ (s : State), s.hs.powered = true) :=
  ⟨⟨(([0x3F, 0, 9, 0x10, 0, 0, 0, 0] : List Byte) ++ [1,2,3,4]), (fun s => { s with hs.frame := none }) ((fun s => { s with hs.powered := true }) up), by decide +kernel⟩,
   ⟨(([0x3F, 0, 9, 0x10, 0, 0, 0, 0] : List Byte) ++ leBytes 4 (crc32c ([0x3F, 0, 9, 0x10, 0, 0, 0, 0] : List Byte)).toNat), HspOp.nop, (fun s => { s with hs.frame := none }) ((fun s => { s with hs.powered := true }) up), by decide +kernel⟩,
   ⟨HspOp.nop, ({ stream := 0, seq := 9, flags := 0x10, addr := 0, len := 0, payload := [] } : Frame), (5 : Word), (⟨2, 9, .execute, [], 0, []⟩ : OutReq), (let op : HspOp := HspOp.nop; let f : Frame := ({ stream := 0, seq := 9, flags := 0x10, addr := 0, len := 0, payload := [] } : Frame); let q : Word := (5 : Word); let o : OutReq := (⟨2, 9, .execute, [], 0, []⟩ : OutReq); (linkU (fun l => { l with openMsg := .open })) ((hsU (fun h => { h with frame := some ⟨op, f, q, .payload⟩, dup := Vector.replicate 8 [], out := some o })) ((fun s => { s with fs.link.openMsg := .open }) ((fun s => { s with hs.out := some o }) ((fun s => { s with hs.frame := some ⟨op, f, q, .payload⟩ }) up))))), by decide +kernel⟩,
   ⟨HspOp.nop, ({ stream := 0, seq := 9, flags := 0x10, addr := 0, len := 0, payload := [] } : Frame), (5 : Word), (⟨2, 9, .execute, [], 0, []⟩ : OutReq), (let op : HspOp := HspOp.nop; let f : Frame := ({ stream := 0, seq := 9, flags := 0x10, addr := 0, len := 0, payload := [] } : Frame); let q : Word := (5 : Word); let o : OutReq := (⟨2, 9, .execute, [], 0, []⟩ : OutReq); (linkU (fun l => { l with openMsg := .open })) ((hsU (fun h => { h with frame := some ⟨op, f, q, .payload⟩, out := some o })) ((fun s => { s with fs.link.openMsg := .open }) ((fun s => { s with hs.out := some o }) ((fun s => { s with hs.frame := some ⟨op, f, q, .payload⟩ }) up))))), by decide +kernel⟩,
   ⟨HspOp.nop, ({ stream := 0x33, seq := 9, flags := 0x10, addr := 0x20, len := 4, payload := [] } : Frame), (5 : Word), (let op : HspOp := HspOp.nop; let f : Frame := ({ stream := 0x33, seq := 9, flags := 0x10, addr := 0x20, len := 4, payload := [] } : Frame); let q : Word := (5 : Word); (hsU (fun h => { h with frame := some ⟨op, f, q, .over⟩ })) ((fun s => { s with hs.frame := some ⟨op, f, q, .over⟩ }) up)), by decide +kernel⟩,
   ⟨HspOp.nop, ({ stream := 0, seq := 9, flags := 0x10, addr := 0, len := 0, payload := [] } : Frame), (5 : Word), (⟨2, 9, .execute, [], 0, []⟩ : OutReq), (let op : HspOp := HspOp.nop; let f : Frame := ({ stream := 0, seq := 9, flags := 0x10, addr := 0, len := 0, payload := [] } : Frame); let q : Word := (5 : Word); let o : OutReq := (⟨2, 9, .execute, [], 0, []⟩ : OutReq); (fun s => { s with hs.frame := some ⟨op, f, q, .waiting⟩ }) ((fun s => { s with hs.out := some o }) up)), by decide +kernel⟩,
   ⟨HspOp.nop, ({ stream := 0, seq := 9, flags := 0x10, addr := 0, len := 0, payload := [] } : Frame), (5 : Word), (⟨2, 9, .execute, [], 0, []⟩ : OutReq), (let op : HspOp := HspOp.nop; let f : Frame := ({ stream := 0, seq := 9, flags := 0x10, addr := 0, len := 0, payload := [] } : Frame); let q : Word := (5 : Word); let o : OutReq := (⟨2, 9, .execute, [], 0, []⟩ : OutReq); (fun s => { s with hs.frame := some ⟨op, f, q, .data⟩ }) ((fun s => { s with hs.out := some o }) up)), by decide +kernel⟩,
   ⟨(fun s => { s with hs.powered := true }) up, by decide +kernel⟩⟩

/-- The hypotheses of each clause of MessagesArrive can be met together. -/
theorem test_wit_MessagesArrive :
    (∃ (c : Nat) (op : HspOp) (f : Frame) (chk : Word), c < 256 ∧ f.len.toNat ≤ 4096 ∧ f.payload.length = (if opPayload op then f.len.toNat else 0) ∧ (opPayload op = false → chk = headerCrc op f))
    ∧ (∃ (c : Nat) (d : List Byte), c < 256 ∧ d.length < 256)
    ∧ (∃ (c : Nat) (k : Nat) (r : Nat), c < 256 ∧ k < 256 ∧ r < 256)
    ∧ (∃ (c : Nat) (k : Nat) (b : List Byte), c < 256 ∧ k < 256 ∧ b.length < 65536)
    ∧ (∃ (hdr : Bool) (c : Nat) (r : Nat), c < 256 ∧ r < 256 ∧ hdr = (c != 0xFF)) :=
  ⟨⟨7, HspOp.nop, ({ stream := 0, seq := 9, flags := 0x10, addr := 0, len := 0, payload := [] } : Frame), (headerCrc .nop ({ stream := 0, seq := 9, flags := 0x10, addr := 0, len := 0, payload := [] } : Frame)), by decide +kernel⟩,
   ⟨7, ([] : List Byte), by decide +kernel⟩,
   ⟨7, 7, 7, by decide +kernel⟩,
   ⟨7, 7, ([] : List Byte), by decide +kernel⟩,
   ⟨true, 7, 7, by decide +kernel⟩⟩

/-- The hypotheses of each clause of LinkRequests can be met together. -/
theorem test_wit_LinkRequests :
    (∃ (c : Fin 8) (l : Half) (op : HspOp) (f : Frame) (chk : Word) (rx : Rx) (rest : List H2F) (s : State), (let m : H2F := .reqHsp c.val l op f chk .execute; (let q : Fin 16 := Fin.ofNat 16 c.val; s.h2f = m :: rest ∧ m.heard rx = .good m ∧ s.fs.serves = true ∧ s.fs.link.lastLseq[q] ≠ some l)))
    ∧ (∃ (c : Fin 8) (l : Half) (op : HspOp) (f : Frame) (chk : Word) (rx : Rx) (rest : List H2F) (s : State) (k : _), (let m : H2F := .reqHsp c.val l op f chk .execute; (let t := s.fs.carriedH2F m; (let q : Fin 16 := Fin.ofNat 16 c.val; s.h2f = m :: rest ∧ m.heard rx = .good m ∧ s.fs.serves = true ∧ s.fs.link.lastLseq[q] = some l ∧ (t.sysReads (rspX c.val) 520).link.retained[q] = some k))))
    ∧ (∃ (c : Fin 16) (l : Half) (t : Tail), (t.link.lastLseq[c] = none ∨ t.link.lastLseq[c] = some (l - 1)))
    ∧ (∃ (c : Fin 16) (l : Half) (t : Tail) (q : _), t.link.lastLseq[c] = some q ∧ l ≠ q + 1)
    ∧ (∃ (c : Nat) (l : Half) (op : HspOp) (f : Frame) (chk : Word) (rx : Rx) (rest : List H2F) (s : State), (let m : H2F := .reqHsp c l op f chk .abandon; s.h2f = m :: rest ∧ m.heard rx = .good m ∧ s.fs.serves = true))
    ∧ (∃ (c : Nat) (l : Half) (op : HspOp) (f : Frame) (chk : Word) (d : Disp) (rx : Rx) (rest : List H2F) (s : State) (reason : _) (x : _), (let m : H2F := .reqHsp c l op f chk d; s.h2f = m :: rest ∧ s.fs.serves = true ∧ m.heard rx = .bad reason (some x) ∧ reason ≠ nakType))
    ∧ (∃ (c : Nat) (l : Half) (op : HspOp) (f : Frame) (chk : Word) (d : Disp) (rx : Rx) (rest : List H2F) (s : State) (reason : _), (let m : H2F := .reqHsp c l op f chk d; s.h2f = m :: rest ∧ s.fs.serves = true ∧ m.heard rx = .bad reason none ∧ reason ≠ nakType))
    ∧ (∃ (c : Nat) (l : Half) (op : HspOp) (f : Frame) (chk : Word) (d : Disp) (rx : Rx) (rest : List H2F) (s : State) (x : _), (let m : H2F := .reqHsp c l op f chk d; s.h2f = m :: rest ∧ s.fs.serves = true ∧ m.heard rx = .cut x))
    ∧ (∃ (c : Nat) (l : Half) (op : HspOp) (f : Frame) (chk : Word) (d : Disp) (rest : List H2F) (s : State), (let m : H2F := .reqHsp c l op f chk d; s.h2f = m :: rest ∧ s.fs.serves = false))
    ∧ (∃ (l : Half) (c : MbCmd) (d : List Byte) (rx : Rx) (rest : List H2F) (s : State), (let m : H2F := .reqMb 8 l (mbCode c) d .execute; s.h2f = m :: rest ∧ m.heard rx = .good m ∧ s.fs.serves = true ∧ s.fs.link.lastLseq[8] ≠ some l)) :=
  ⟨⟨(5 : Fin 8), (9 : Half), HspOp.nop, ({ stream := 0, seq := 9, flags := 0x10, addr := 0, len := 0, payload := [] } : Frame), (headerCrc .nop ({ stream := 0, seq := 9, flags := 0x10, addr := 0, len := 0, payload := [] } : Frame)), Rx.asSent, ([] : List H2F), (let rest : List H2F := ([] : List H2F); let c : Fin 8 := (5 : Fin 8); let l : Half := (9 : Half); let op : HspOp := HspOp.nop; let f : Frame := ({ stream := 0, seq := 9, flags := 0x10, addr := 0, len := 0, payload := [] } : Frame); let chk : Word := (headerCrc .nop ({ stream := 0, seq := 9, flags := 0x10, addr := 0, len := 0, payload := [] } : Frame)); let m : H2F := .reqHsp c.val l op f chk .execute; (fun s => { s with h2f := m :: rest }) up), by decide +kernel⟩,
   ⟨(5 : Fin 8), (9 : Half), HspOp.nop, ({ stream := 0, seq := 9, flags := 0x10, addr := 0, len := 0, payload := [] } : Frame), (headerCrc .nop ({ stream := 0, seq := 9, flags := 0x10, addr := 0, len := 0, payload := [] } : Frame)), Rx.asSent, ([] : List H2F), (let l : Half := (9 : Half); let rest : List H2F := ([] : List H2F); let c : Fin 8 := (5 : Fin 8); let op : HspOp := HspOp.nop; let f : Frame := ({ stream := 0, seq := 9, flags := 0x10, addr := 0, len := 0, payload := [] } : Frame); let chk : Word := (headerCrc .nop ({ stream := 0, seq := 9, flags := 0x10, addr := 0, len := 0, payload := [] } : Frame)); let m : H2F := .reqHsp c.val l op f chk .execute; let q : Fin 16 := Fin.ofNat 16 c.val; (linkU (fun lk => { lk with retained := lk.retained.set q.val (some ⟨false, 9, 9, 5, 0, 4, [1, 2]⟩) })) ((linkU (fun lk => { lk with lastLseq := lk.lastLseq.set q (some l) })) ((fun s => { s with h2f := m :: rest }) up))), (⟨false, 9, 9, 5, 0, 4, [1, 2]⟩ : Retained), by decide +kernel⟩,
   ⟨(3 : Fin 16), (9 : Half), up.fs, by decide +kernel⟩,
   ⟨(3 : Fin 16), (9 : Half), (linkU (fun lk => { lk with lastLseq := lk.lastLseq.set 3 (some 7) }) up).fs, 7, by decide +kernel⟩,
   ⟨7, (9 : Half), HspOp.nop, ({ stream := 0, seq := 9, flags := 0x10, addr := 0, len := 0, payload := [] } : Frame), (headerCrc .nop ({ stream := 0, seq := 9, flags := 0x10, addr := 0, len := 0, payload := [] } : Frame)), Rx.asSent, ([] : List H2F), (let rest : List H2F := ([] : List H2F); let c : Nat := 7; let l : Half := (9 : Half); let op : HspOp := HspOp.nop; let f : Frame := ({ stream := 0, seq := 9, flags := 0x10, addr := 0, len := 0, payload := [] } : Frame); let chk : Word := (headerCrc .nop ({ stream := 0, seq := 9, flags := 0x10, addr := 0, len := 0, payload := [] } : Frame)); let m : H2F := .reqHsp c l op f chk .abandon; (fun s => { s with h2f := m :: rest }) up), by decide +kernel⟩,
   ⟨7, (9 : Half), HspOp.nop, ({ stream := 0, seq := 9, flags := 0x10, addr := 0, len := 0, payload := [] } : Frame), (headerCrc .nop ({ stream := 0, seq := 9, flags := 0x10, addr := 0, len := 0, payload := [] } : Frame)), Disp.execute, (let c : Nat := 7; let l : Half := (9 : Half); let op : HspOp := HspOp.nop; let f : Frame := ({ stream := 0, seq := 9, flags := 0x10, addr := 0, len := 0, payload := [] } : Frame); let chk : Word := (headerCrc .nop ({ stream := 0, seq := 9, flags := 0x10, addr := 0, len := 0, payload := [] } : Frame)); let d : Disp := Disp.execute; let m : H2F := .reqHsp c l op f chk d; (Rx.altered (codesOf false ([.ctl .comma, .ctl .sof] ++ (m.bytes.set (m.bytes.length - 1) (m.bytes.getD (m.bytes.length - 1) 0 ^^^ 1)).map Sym.data ++ [.ctl .eof])))), ([] : List H2F), (let rest : List H2F := ([] : List H2F); let c : Nat := 7; let l : Half := (9 : Half); let op : HspOp := HspOp.nop; let f : Frame := ({ stream := 0, seq := 9, flags := 0x10, addr := 0, len := 0, payload := [] } : Frame); let chk : Word := (headerCrc .nop ({ stream := 0, seq := 9, flags := 0x10, addr := 0, len := 0, payload := [] } : Frame)); let d : Disp := Disp.execute; let m : H2F := .reqHsp c l op f chk d; (fun s => { s with h2f := m :: rest }) up), nakCrc, (let c : Nat := 7; let l : Half := (9 : Half); let op : HspOp := HspOp.nop; let f : Frame := ({ stream := 0, seq := 9, flags := 0x10, addr := 0, len := 0, payload := [] } : Frame); let chk : Word := (headerCrc .nop ({ stream := 0, seq := 9, flags := 0x10, addr := 0, len := 0, payload := [] } : Frame)); let d : Disp := Disp.execute; let m : H2F := .reqHsp c l op f chk d; let rx : Rx := (Rx.altered (codesOf false ([.ctl .comma, .ctl .sof] ++ (m.bytes.set (m.bytes.length - 1) (m.bytes.getD (m.bytes.length - 1) 0 ^^^ 1)).map Sym.data ++ [.ctl .eof]))); (match m.heard rx with | .bad _ (some x) => x | .cut (some x) => x | _ => ⟨0, 0, 0, 0, 0, []⟩)), by decide +kernel⟩,
   ⟨7, (9 : Half), HspOp.nop, ({ stream := 0, seq := 9, flags := 0x10, addr := 0, len := 0, payload := [] } : Frame), (headerCrc .nop ({ stream := 0, seq := 9, flags := 0x10, addr := 0, len := 0, payload := [] } : Frame)), Disp.execute, (let c : Nat := 7; let l : Half := (9 : Half); let op : HspOp := HspOp.nop; let f : Frame := ({ stream := 0, seq := 9, flags := 0x10, addr := 0, len := 0, payload := [] } : Frame); let chk : Word := (headerCrc .nop ({ stream := 0, seq := 9, flags := 0x10, addr := 0, len := 0, payload := [] } : Frame)); let d : Disp := Disp.execute; let m : H2F := .reqHsp c l op f chk d; (Rx.altered (m.codes.set 4 0))), ([] : List H2F), (let rest : List H2F := ([] : List H2F); let c : Nat := 7; let l : Half := (9 : Half); let op : HspOp := HspOp.nop; let f : Frame := ({ stream := 0, seq := 9, flags := 0x10, addr := 0, len := 0, payload := [] } : Frame); let chk : Word := (headerCrc .nop ({ stream := 0, seq := 9, flags := 0x10, addr := 0, len := 0, payload := [] } : Frame)); let d : Disp := Disp.execute; let m : H2F := .reqHsp c l op f chk d; (fun s => { s with h2f := m :: rest }) up), nakCode, by decide +kernel⟩,
   ⟨7, (9 : Half), HspOp.nop, ({ stream := 0, seq := 9, flags := 0x10, addr := 0, len := 0, payload := [] } : Frame), (headerCrc .nop ({ stream := 0, seq := 9, flags := 0x10, addr := 0, len := 0, payload := [] } : Frame)), Disp.execute, (let c : Nat := 7; let l : Half := (9 : Half); let op : HspOp := HspOp.nop; let f : Frame := ({ stream := 0, seq := 9, flags := 0x10, addr := 0, len := 0, payload := [] } : Frame); let chk : Word := (headerCrc .nop ({ stream := 0, seq := 9, flags := 0x10, addr := 0, len := 0, payload := [] } : Frame)); let d : Disp := Disp.execute; let m : H2F := .reqHsp c l op f chk d; (Rx.altered m.codes.dropLast)), ([] : List H2F), (let rest : List H2F := ([] : List H2F); let c : Nat := 7; let l : Half := (9 : Half); let op : HspOp := HspOp.nop; let f : Frame := ({ stream := 0, seq := 9, flags := 0x10, addr := 0, len := 0, payload := [] } : Frame); let chk : Word := (headerCrc .nop ({ stream := 0, seq := 9, flags := 0x10, addr := 0, len := 0, payload := [] } : Frame)); let d : Disp := Disp.execute; let m : H2F := .reqHsp c l op f chk d; (fun s => { s with h2f := m :: rest }) up), (let c : Nat := 7; let l : Half := (9 : Half); let op : HspOp := HspOp.nop; let f : Frame := ({ stream := 0, seq := 9, flags := 0x10, addr := 0, len := 0, payload := [] } : Frame); let chk : Word := (headerCrc .nop ({ stream := 0, seq := 9, flags := 0x10, addr := 0, len := 0, payload := [] } : Frame)); let d : Disp := Disp.execute; let m : H2F := .reqHsp c l op f chk d; let rx : Rx := (Rx.altered m.codes.dropLast); (some (match m.heard rx with | .bad _ (some x) => x | .cut (some x) => x | _ => ⟨0, 0, 0, 0, 0, []⟩))), by decide +kernel⟩,
   ⟨7, (9 : Half), HspOp.nop, ({ stream := 0, seq := 9, flags := 0x10, addr := 0, len := 0, payload := [] } : Frame), (headerCrc .nop ({ stream := 0, seq := 9, flags := 0x10, addr := 0, len := 0, payload := [] } : Frame)), Disp.execute, ([] : List H2F), (let rest : List H2F := ([] : List H2F); let c : Nat := 7; let l : Half := (9 : Half); let op : HspOp := HspOp.nop; let f : Frame := ({ stream := 0, seq := 9, flags := 0x10, addr := 0, len := 0, payload := [] } : Frame); let chk : Word := (headerCrc .nop ({ stream := 0, seq := 9, flags := 0x10, addr := 0, len := 0, payload := [] } : Frame)); let d : Disp := Disp.execute; let m : H2F := .reqHsp c l op f chk d; (linkU (fun lk => { lk with ready := false })) ((fun s => { s with h2f := m :: rest }) up)), by decide +kernel⟩,
   ⟨(9 : Half), MbCmd.statusWord, ([] : List Byte), Rx.asSent, ([] : List H2F), (let rest : List H2F := ([] : List H2F); let l : Half := (9 : Half); let c : MbCmd := MbCmd.statusWord; let d : List Byte := ([] : List Byte); let m : H2F := .reqMb 8 l (mbCode c) d .execute; (fun s => { s with h2f := m :: rest }) up), by decide +kernel⟩⟩

/-- The hypotheses of each clause of LinkSegments can be met together. -/
theorem test_wit_LinkSegments :
    (∃ (c : Fin 10) (l : Half) (r : Nat) (ins : Bool) (body : List Byte) (rx : Rx) (rest : List H2F) (s : State), (let m : H2F := .nakH c.val l 0 r ins; s.h2f = m :: rest ∧ (∃ r' i', m.heard rx = .good (.nakH c.val l 0 r' i')) ∧ s.fs.serves = true ∧ s.fs.link.sent[c.val] = some (l, body)))
    ∧ (∃ (s : State), s.fs.link.openMsg = .open)
    ∧ (∃ (x : HspFrame) (o : OutReq) (s : State), s.hs.frame = some x ∧ s.hs.out = some o ∧ x.phase = .waiting ∧ o.naks = [0] ∧ o.parts = [])
    ∧ (∃ (c : Nat) (l : Half) (retx : Bool) (b : List Byte) (rx : Rx) (x : HspFrame) (o : OutReq) (s : State), (let m : F2H := .seg false c l 0 false retx b; s.f2h = [m] ∧ m.heard rx = .good m ∧ s.hs.powered = true ∧ s.hs.frame = some x ∧ s.hs.out = some o ∧ x.phase = .waiting ∧ o.cstr = c ∧ o.lseq = l ∧ o.parts = [] ∧ o.passed = 0 ∧ b ≠ [] ∧ b.getD 0 0 = 0))
    ∧ (∃ (c : Nat) (l : Half) (k : Nat) (more : Bool) (retx : Bool) (b : List Byte) (rx : Rx) (reason : Nat) (g : Msg) (x : HspFrame) (o : OutReq) (s : State), (let m : F2H := .seg false c l k more retx b; s.f2h = [m] ∧ m.heard rx = .bad reason (some g) ∧ g.ty = 0x81 ∧ g.cstr = c ∧ g.lseq = l ∧ s.hs.powered = true ∧ s.hs.frame = some x ∧ s.hs.out = some o ∧ x.phase = .waiting ∧ o.cstr = c ∧ o.lseq = l ∧ o.parts = [] ∧ o.naks = []))
    ∧ (∃ (mb : Bool) (c : Nat) (l : Half) (k : Nat) (retx : Bool) (b : List Byte) (rx : Rx) (s : State), (let m : F2H := .seg mb c l k false retx b; s.f2h = [m] ∧ m.heard rx = .good m ∧ s.hs.powered = true ∧ s.hs.frame = none ∧ s.hs.mb.phase = .idle ∧ s.hs.mb.push ≠ .fetching))
    ∧ (∃ (c : Nat) (l : Half) (b : List Byte) (k : Nat) (s : State), s.hs.powered = true ∧ s.hs.frame = none ∧ k < 12 ∧ s.rxBuf = [⟨false, c, l, .body b⟩])
    ∧ (∃ (c : Nat) (l : Half) (k : Nat) (retx : Bool) (b : List Byte) (rx : Rx) (x : HspFrame) (o : OutReq) (s : State), (let m : F2H := .seg false c l k false retx b; s.f2h = [m] ∧ m.heard rx = .good m ∧ s.hs.powered = true ∧ s.hs.frame = some x ∧ s.hs.out = some o ∧ (o.cstr ≠ c ∨ o.lseq ≠ l)))
    ∧ (∃ (c : Nat) (l : Half) (reason : Nat) (rx : Rx) (x : HspFrame) (o : OutReq) (s : State), (let m : F2H := .nakF true c l reason; s.f2h = [m] ∧ m.heard rx = .good m ∧ s.hs.powered = true ∧ s.hs.frame = some x ∧ s.hs.out = some o ∧ x.phase = .waiting ∧ o.cstr = c ∧ o.lseq = l ∧ o.passed = 0 ∧ s.hs.mb.out = none))
    ∧ (∃ (l : Half) (retx : Bool) (cmd : MbCmd) (x : MbTxn) (o : OutReq) (d : List Byte) (rx : Rx) (s : State), (let m : F2H := .seg true 8 l 0 false retx (mbResponse okSt d); s.f2h = [m] ∧ m.heard rx = .good m ∧ s.hs.powered = true ∧ d.length < 256 ∧ s.hs.mb.out = some o ∧ o.cstr = 8 ∧ o.lseq = l ∧ s.hs.mb.txn = some x ∧ s.hs.mb.phase = .response ∧ x.kind = .read ∧ x.cmd = mbCode cmd)) :=
  ⟨⟨(3 : Fin 10), (9 : Half), 1, true, (List.replicate 600 7 : List Byte), Rx.asSent, ([] : List H2F), (let c : Fin 10 := (3 : Fin 10); let l : Half := (9 : Half); let body : List Byte := (List.replicate 600 7 : List Byte); let rest : List H2F := ([] : List H2F); let r : Nat := 1; let ins : Bool := true; let m : H2F := .nakH c.val l 0 r ins; (linkU (fun lk => { lk with sent := lk.sent.set c.val (some (l, body)) })) ((fun s => { s with h2f := m :: rest }) up)), by decide +kernel, ⟨1, false, by decide +kernel⟩, by decide +kernel, by decide +kernel⟩,
   ⟨(fun s => { s with fs.link.openMsg := .open }) up, by decide +kernel⟩,
   ⟨(⟨.nop, ({ stream := 0, seq := 9, flags := 0x10, addr := 0, len := 0, payload := [] } : Frame), 0, .waiting⟩ : HspFrame), (⟨2, 9, .execute, [], 0, [0]⟩ : OutReq), (let x : HspFrame := (⟨.nop, ({ stream := 0, seq := 9, flags := 0x10, addr := 0, len := 0, payload := [] } : Frame), 0, .waiting⟩ : HspFrame); let o : OutReq := (⟨2, 9, .execute, [], 0, [0]⟩ : OutReq); (fun s => { s with hs.out := some o }) ((fun s => { s with hs.frame := some x }) up)), by decide +kernel⟩,
   ⟨2, (9 : Half), true, (([0x00, 9] ++ leBytes 4 77 ++ [1, 2, 3, 4] ++ [5, 6, 7, 8]) : List Byte), Rx.asSent, (⟨.nop, ({ stream := 0, seq := 9, flags := 0x10, addr := 0, len := 0, payload := [] } : Frame), 9, .waiting⟩ : HspFrame), (⟨2, 9, .execute, [], 0, []⟩ : OutReq), (let x : HspFrame := (⟨.nop, ({ stream := 0, seq := 9, flags := 0x10, addr := 0, len := 0, payload := [] } : Frame), 9, .waiting⟩ : HspFrame); let o : OutReq := (⟨2, 9, .execute, [], 0, []⟩ : OutReq); let c : Nat := 2; let l : Half := (9 : Half); let retx : Bool := true; let b : List Byte := (([0x00, 9] ++ leBytes 4 77 ++ [1, 2, 3, 4] ++ [5, 6, 7, 8]) : List Byte); let m : F2H := .seg false c l 0 false retx b; (fun s => { s with f2h := [m] }) ((fun s => { s with hs.out := some o }) ((fun s => { s with hs.frame := some x }) ((fun s => { s with hs.powered := true }) up)))), by decide +kernel⟩,
   ⟨2, (9 : Half), 0, false, true, (([0x00, 9] ++ leBytes 4 77 ++ [1, 2, 3, 4] ++ [5, 6, 7, 8]) : List Byte), (let c : Nat := 2; let l : Half := (9 : Half); let k : Nat := 0; let more : Bool := false; let retx : Bool := true; let b : List Byte := (([0x00, 9] ++ leBytes 4 77 ++ [1, 2, 3, 4] ++ [5, 6, 7, 8]) : List Byte); let m : F2H := .seg false c l k more retx b; (Rx.altered (codesOf false ([.ctl .comma, .ctl .sof] ++ (m.bytes.set (m.bytes.length - 1) (m.bytes.getD (m.bytes.length - 1) 0 ^^^ 1)).map Sym.data ++ [.ctl .eof])))), nakCrc, (let c : Nat := 2; let l : Half := (9 : Half); let k : Nat := 0; let more : Bool := false; let retx : Bool := true; let b : List Byte := (([0x00, 9] ++ leBytes 4 77 ++ [1, 2, 3, 4] ++ [5, 6, 7, 8]) : List Byte); let m : F2H := .seg false c l k more retx b; let rx : Rx := (Rx.altered (codesOf false ([.ctl .comma, .ctl .sof] ++ (m.bytes.set (m.bytes.length - 1) (m.bytes.getD (m.bytes.length - 1) 0 ^^^ 1)).map Sym.data ++ [.ctl .eof]))); (match m.heard rx with | .bad _ (some x) => x | .cut (some x) => x | _ => ⟨0, 0, 0, 0, 0, []⟩)), (⟨.nop, ({ stream := 0, seq := 9, flags := 0x10, addr := 0, len := 0, payload := [] } : Frame), 9, .waiting⟩ : HspFrame), (⟨2, 9, .execute, [], 0, []⟩ : OutReq), (let x : HspFrame := (⟨.nop, ({ stream := 0, seq := 9, flags := 0x10, addr := 0, len := 0, payload := [] } : Frame), 9, .waiting⟩ : HspFrame); let o : OutReq := (⟨2, 9, .execute, [], 0, []⟩ : OutReq); let c : Nat := 2; let l : Half := (9 : Half); let k : Nat := 0; let more : Bool := false; let retx : Bool := true; let b : List Byte := (([0x00, 9] ++ leBytes 4 77 ++ [1, 2, 3, 4] ++ [5, 6, 7, 8]) : List Byte); let m : F2H := .seg false c l k more retx b; (fun s => { s with f2h := [m] }) ((fun s => { s with hs.out := some o }) ((fun s => { s with hs.frame := some x }) ((fun s => { s with hs.powered := true }) up)))), by decide +kernel⟩,
   ⟨true, 7, (9 : Half), 7, true, (([0x00, 9] ++ leBytes 4 77 ++ [1, 2, 3, 4] ++ [5, 6, 7, 8]) : List Byte), Rx.asSent, (let mb : Bool := true; let c : Nat := 7; let l : Half := (9 : Half); let k : Nat := 7; let retx : Bool := true; let b : List Byte := (([0x00, 9] ++ leBytes 4 77 ++ [1, 2, 3, 4] ++ [5, 6, 7, 8]) : List Byte); let m : F2H := .seg mb c l k false retx b; (fun s => { s with f2h := [m] }) ((fun s => { s with hs.mb.phase := .idle }) ((fun s => { s with hs.frame := none }) ((fun s => { s with hs.powered := true }) up)))), by decide +kernel⟩,
   ⟨7, (9 : Half), ([] : List Byte), 7, (let c : Nat := 7; let l : Half := (9 : Half); let b : List Byte := ([] : List Byte); (fun s => { s with rxBuf := [⟨false, c, l, .body b⟩] }) ((fun s => { s with hs.frame := none }) ((fun s => { s with hs.powered := true }) up))), by decide +kernel⟩,
   ⟨7, (9 : Half), 7, true, (([0x00, 9] ++ leBytes 4 77 ++ [1, 2, 3, 4] ++ [5, 6, 7, 8]) : List Byte), Rx.asSent, (⟨.nop, ({ stream := 0, seq := 9, flags := 0x10, addr := 0, len := 0, payload := [] } : Frame), 9, .waiting⟩ : HspFrame), (⟨2, 9, .execute, [], 0, []⟩ : OutReq), (let x : HspFrame := (⟨.nop, ({ stream := 0, seq := 9, flags := 0x10, addr := 0, len := 0, payload := [] } : Frame), 9, .waiting⟩ : HspFrame); let o : OutReq := (⟨2, 9, .execute, [], 0, []⟩ : OutReq); let c : Nat := 7; let l : Half := (9 : Half); let k : Nat := 7; let retx : Bool := true; let b : List Byte := (([0x00, 9] ++ leBytes 4 77 ++ [1, 2, 3, 4] ++ [5, 6, 7, 8]) : List Byte); let m : F2H := .seg false c l k false retx b; (fun s => { s with f2h := [m] }) ((fun s => { s with hs.out := some o }) ((fun s => { s with hs.frame := some x }) ((fun s => { s with hs.powered := true }) up)))), by decide +kernel⟩,
   ⟨2, (9 : Half), 1, Rx.asSent, (⟨.nop, ({ stream := 0, seq := 9, flags := 0x10, addr := 0, len := 0, payload := [] } : Frame), 9, .waiting⟩ : HspFrame), (⟨2, 9, .execute, [], 0, []⟩ : OutReq), (let x : HspFrame := (⟨.nop, ({ stream := 0, seq := 9, flags := 0x10, addr := 0, len := 0, payload := [] } : Frame), 9, .waiting⟩ : HspFrame); let o : OutReq := (⟨2, 9, .execute, [], 0, []⟩ : OutReq); let c : Nat := 2; let l : Half := (9 : Half); let reason : Nat := 1; let m : F2H := .nakF true c l reason; (fun s => { s with f2h := [m] }) ((fun s => { s with hs.mb.out := none }) ((fun s => { s with hs.out := some o }) ((fun s => { s with hs.frame := some x }) ((fun s => { s with hs.powered := true }) up))))), by decide +kernel⟩,
   ⟨(9 : Half), true, MbCmd.statusWord, (let cmd : MbCmd := MbCmd.statusWord; (⟨.read, mbCode cmd, none, [], none⟩ : MbTxn)), (⟨8, 9, .execute, [], 0, []⟩ : OutReq), ([1, 2] : List Byte), Rx.asSent, (let cmd : MbCmd := MbCmd.statusWord; let x : MbTxn := (⟨.read, mbCode cmd, none, [], none⟩ : MbTxn); let o : OutReq := (⟨8, 9, .execute, [], 0, []⟩ : OutReq); let l : Half := (9 : Half); let retx : Bool := true; let d : List Byte := ([1, 2] : List Byte); let m : F2H := .seg true 8 l 0 false retx (mbResponse okSt d); (fun s => { s with f2h := [m] }) ((fun s => { s with hs.mb.phase := .response }) ((fun s => { s with hs.mb.txn := some x }) ((fun s => { s with hs.mb.out := some o }) ((fun s => { s with hs.powered := true }) up))))), by decide +kernel⟩⟩

/-- The hypotheses of each clause of PresenceAndLevels can be met together. -/
theorem test_wit_PresenceAndLevels :
    (∃ (s : State), s.fs.link.hsPresent = true ∧ 4 ≤ s.fs.link.deafRun ∧ s.fs.pd 3 = true)
    ∧ (∃ (s : State), s.hs.powered = true ∧ s.fs.pd 1 = true ∧ s.hs.mb.phase = .idle)
    ∧ (∃ (e : BitVec 3) (s : State), s.hs.powered = true ∧ s.fs.pd 1 = true ∧ s.hs.mb.phase = .idle ∧ (e = 1 ∨ e = 2 ∨ e = 4 ∨ e = 7)) :=
  ⟨⟨(linkU (fun l => { l with deafRun := 4 })) ((fun s => { s with fs.link.hsPresent := true }) up), by decide +kernel⟩,
   ⟨(fun s => { s with hs.mb.phase := .idle }) ((fun s => { s with hs.powered := true }) up), by decide +kernel⟩,
   ⟨(1 : BitVec 3), (fun s => { s with hs.mb.phase := .idle }) ((fun s => { s with hs.powered := true }) up), by decide +kernel⟩⟩

/-- The hypotheses of each clause of LinkTraining can be met together. -/
theorem test_wit_LinkTraining :
    (∃ (s : State), s.fs.trains = true)
    ∧ (∃ (s : State), (s.fs.trains = true ∨ s.fs.aon.wakePend = true ∧ s.fs.pd 2 = true ∧ s.fs.us = .sleep))
    ∧ (∃ (s : State), s.fs.trains = true ∧ s.fs.link.trainFail = true)
    ∧ (∃ (s : State), s.fs.on 3 = true)
    ∧ (∃ (s : State), s.f2h = [] ∧ s.fs.link.retrain = true ∧ s.fs.link.rsps = [] ∧ s.fs.link.prio = []) :=
  ⟨⟨(linkU (fun l => { l with ready := false })) up, by decide +kernel⟩,
   ⟨(linkU (fun lk => { lk with ready := false })) up, by decide +kernel⟩,
   ⟨(linkU (fun l => { l with ready := false })) ((fun s => { s with fs.link.trainFail := true }) up), by decide +kernel⟩,
   ⟨up, by decide +kernel⟩,
   ⟨(fun s => { s with fs.link.prio := [] }) ((fun s => { s with fs.link.rsps := [] }) ((fun s => { s with fs.link.retrain := true }) ((fun s => { s with f2h := [] }) up))), by decide +kernel⟩⟩

/-- The hypotheses of each clause of BusReads can be met together. -/
theorem test_wit_BusReads :
    (∃ (s : State), s.ServesBus ∧ s.fs.fw.recovery = false)
    ∧ (∃ (w : MbWin) (s : State), s.ServesBus ∧ s.fs.fw.recovery = false ∧ s.hs.window s.fs.u = w ∧ localRegs w.page w.ofs w.rlen = false ∧ pageAbsent s.fs.u w.page = false ∧ reservedPage w.page = false ∧ s.fs.absentPage w.page = false ∧ regRange w.ofs w.rlen = true)
    ∧ (∃ (s : State) (t2 : _), s.ServesBus ∧ s.fs.fw.recovery = false ∧ s.fs.aon.retained = false ∧ (let ack : Word := s.hs.word s.fs.u MBUS_EVACK.INDEX.addr; (let d : List Byte := leBytes 4 ack.toNat ++ [0x00]; (let t := (s.begunBus .eventFetch d).sysReads (descX 160) 2; t.eventsAfter ack false t.evtSpan.2 0 none (t.sst 160).recs = (none, t2)))))
    ∧ (∃ (s : State) (tag : _) (x : _) (t2 : _), s.ServesBus ∧ s.fs.fw.recovery = false ∧ s.fs.aon.retained = false ∧ (let ack : Word := s.hs.word s.fs.u MBUS_EVACK.INDEX.addr; (let d : List Byte := leBytes 4 ack.toNat ++ [0x00]; (let t := (s.begunBus .eventFetch d).sysReads (descX 160) 2; t.eventsAfter ack false t.evtSpan.2 0 none (t.sst 160).recs = (some (tag, x), t2)))))
    ∧ (∃ (s : State), s.hs.powered = true ∧ s.hs.mb.phase = .idle)
    ∧ (∃ (s : State), s.hs.powered = true ∧ s.hs.mb.phase = .idle ∧ s.hs.present = false) :=
  ⟨⟨(fsU (fun t => { t with fw.recovery := false })) ((linkU (fun l => { l with ready := true })) ((hsU (fun h => { h with mb := MbState.init, powered := true, alert := ⟨true, h.alert.level, true⟩, fault := ⟨true, h.fault.level, true⟩ })) ((fun s => { s with fs.fw.recovery := false }) up))), by decide +kernel⟩,
   ⟨(⟨0x33, 0x20, 8⟩ : MbWin), (let w : MbWin := (⟨0x33, 0x20, 8⟩ : MbWin); (fun s => { s with hs := ((s.hs.p s.fs.u MBUS_WIN.PAGE w.page).p s.fs.u MBUS_WIN.OFFSET w.ofs).p s.fs.u MBUS_WIN.RLEN w.rlen }) ((fun s => { s with fs.fw.recovery := false }) up)), by decide +kernel⟩,
   ⟨(fun s => { s with fs.aon.retained := false }) ((fun s => { s with fs.fw.recovery := false }) up), (let s : State := (fun s => { s with fs.aon.retained := false }) ((fun s => { s with fs.fw.recovery := false }) up); (let s : State := (fun s => { s with fs.aon.retained := false }) ((fun s => { s with fs.fw.recovery := false }) up); let ack : Word := s.hs.word s.fs.u MBUS_EVACK.INDEX.addr; let d : List Byte := leBytes 4 ack.toNat ++ [0x00]; let t := (s.begunBus .eventFetch d).sysReads (descX 160) 2; t.eventsAfter ack false t.evtSpan.2 0 none (t.sst 160).recs).2), by decide +kernel⟩,
   ⟨(fsU (fun t => (t.evt 0x23 3).finish)) ((fun s => { s with fs.aon.retained := false }) ((fun s => { s with fs.fw.recovery := false }) up)), (let s : State := (fsU (fun t => (t.evt 0x23 3).finish)) ((fun s => { s with fs.aon.retained := false }) ((fun s => { s with fs.fw.recovery := false }) up)); ((let s : State := (fsU (fun t => (t.evt 0x23 3).finish)) ((fun s => { s with fs.aon.retained := false }) ((fun s => { s with fs.fw.recovery := false }) up)); let ack : Word := s.hs.word s.fs.u MBUS_EVACK.INDEX.addr; let d : List Byte := leBytes 4 ack.toNat ++ [0x00]; let t := (s.begunBus .eventFetch d).sysReads (descX 160) 2; t.eventsAfter ack false t.evtSpan.2 0 none (t.sst 160).recs).1.getD (0, [])).1), (let s : State := (fsU (fun t => (t.evt 0x23 3).finish)) ((fun s => { s with fs.aon.retained := false }) ((fun s => { s with fs.fw.recovery := false }) up)); ((let s : State := (fsU (fun t => (t.evt 0x23 3).finish)) ((fun s => { s with fs.aon.retained := false }) ((fun s => { s with fs.fw.recovery := false }) up)); let ack : Word := s.hs.word s.fs.u MBUS_EVACK.INDEX.addr; let d : List Byte := leBytes 4 ack.toNat ++ [0x00]; let t := (s.begunBus .eventFetch d).sysReads (descX 160) 2; t.eventsAfter ack false t.evtSpan.2 0 none (t.sst 160).recs).1.getD (0, [])).2), (let s : State := (fsU (fun t => (t.evt 0x23 3).finish)) ((fun s => { s with fs.aon.retained := false }) ((fun s => { s with fs.fw.recovery := false }) up)); (let s : State := (fsU (fun t => (t.evt 0x23 3).finish)) ((fun s => { s with fs.aon.retained := false }) ((fun s => { s with fs.fw.recovery := false }) up)); let ack : Word := s.hs.word s.fs.u MBUS_EVACK.INDEX.addr; let d : List Byte := leBytes 4 ack.toNat ++ [0x00]; let t := (s.begunBus .eventFetch d).sysReads (descX 160) 2; t.eventsAfter ack false t.evtSpan.2 0 none (t.sst 160).recs).2), by decide +kernel⟩,
   ⟨(fun s => { s with hs.mb.phase := .idle }) ((fun s => { s with hs.powered := true }) up), by decide +kernel⟩,
   ⟨(hsU (fun h => { h with alert.alive := false })) ((fun s => { s with hs.mb.phase := .idle }) ((fun s => { s with hs.powered := true }) up)), by decide +kernel⟩⟩

/-- The hypotheses of each clause of BusWrites can be met together. -/
theorem test_wit_BusWrites :
    (∃ (s : State), s.ServesBus ∧ s.fs.fw.recovery = false)
    ∧ (∃ (s : State), s.ServesBus ∧ s.fs.fw.recovery = false ∧ s.hs.g s.fs.u MBUS_CFG.PEC_REQ = 0)
    ∧ (∃ (tok : Byte) (s : State), s.ServesBus ∧ s.fs.fw.recovery = false ∧ tok ≠ 0 ∧ (let t := s.begunBus .faultClear [tok]; t.mbToks.contains tok = false))
    ∧ (∃ (tok : Byte) (s : State), s.ServesBus ∧ s.fs.fw.recovery = false ∧ tok ≠ 0 ∧ (let t := s.begunBus .faultClear [tok]; t.mbToks.contains tok = true))
    ∧ (∃ (v : Byte) (r : PwrReq) (s : State), s.ServesBus ∧ s.fs.fw.recovery = false ∧ (v = 1 ∧ r = .standby ∨ v = 2 ∧ r = .deep))
    ∧ (∃ (v : Byte) (s : State), s.ServesBus ∧ v ≠ 1 ∧ v ≠ 2)
    ∧ (∃ (s : State), s.ServesBus)
    ∧ (∃ (d : List Byte) (w : MbWin) (s : State), s.ServesBus ∧ s.fs.fw.recovery = false ∧ s.hs.window s.fs.u = w ∧ localRegs w.page w.ofs d.length = false ∧ pageAbsent s.fs.u w.page = false ∧ reservedPage w.page = false ∧ s.fs.absentPage w.page = false ∧ regRange w.ofs d.length = true ∧ mbWrites .regData d.length = true ∧ (let e := [BitVec.ofNat 8 w.page, BitVec.ofNat 8 w.ofs, BitVec.ofNat 8 w.rlen] ++ d; (let t := s.begunBus .regData e; refusal (t.writeCheck (payloadWr w.page true w.ofs d)) = none)))
    ∧ (∃ (o : Byte) (k : Byte) (s : State), s.hs.powered = true ∧ s.hs.mb.phase = .idle ∧ windowOk o.toNat k.toNat = true)
    ∧ (∃ (d : List Byte) (s : State), s.hs.powered = true ∧ s.hs.mb.phase = .idle ∧ d.length = 4)
    ∧ (∃ (s : State), s.hs.powered = true ∧ s.hs.mb.phase = .idle ∧ s.hs.g s.fs.u MBUS_CFG.PEC_REQ = 0)
    ∧ (∃ (pec : Byte) (s : State), s.ServesBus ∧ some pec ≠ (s.hs.writeWithPec .heartbeat []).pec)
    ∧ (∃ (s : State), s.hs.powered = true ∧ s.hs.mb.phase = .idle ∧ s.hs.ready = true ∧ s.hs.g s.fs.u MBUS_CFG.PEC_REQ = 1) :=
  ⟨⟨(fsU (fun t => { t with fw.recovery := false })) ((linkU (fun l => { l with ready := true })) ((hsU (fun h => { h with mb := MbState.init, powered := true, alert := ⟨true, h.alert.level, true⟩, fault := ⟨true, h.fault.level, true⟩ })) ((fun s => { s with fs.fw.recovery := false }) up))), by decide +kernel⟩,
   ⟨(hput MBUS_CFG.PEC_REQ (0)) ((fun s => { s with fs.fw.recovery := false }) up), by decide +kernel⟩,
   ⟨(0x33 : Byte), (fun s => { s with fs.fw.recovery := false }) up, by decide +kernel⟩,
   ⟨(0x33 : Byte), (let tok : Byte := (0x33 : Byte); (fsU (fun t => { t with mbToks := [tok] })) ((fun s => { s with fs.fw.recovery := false }) up)), by decide +kernel⟩,
   ⟨(1 : Byte), PwrReq.standby, (fsU (fun t => { t with fw.recovery := false })) ((linkU (fun l => { l with ready := true })) ((hsU (fun h => { h with mb := MbState.init, powered := true, alert := ⟨true, h.alert.level, true⟩, fault := ⟨true, h.fault.level, true⟩ })) ((fun s => { s with fs.fw.recovery := false }) up))), by decide +kernel⟩,
   ⟨(0x33 : Byte), up, by decide +kernel⟩,
   ⟨up, by decide +kernel⟩,
   ⟨[1,0,0,0,2,0,0,0], (⟨0x33, 0x20, 8⟩ : MbWin), (let w : MbWin := (⟨0x33, 0x20, 8⟩ : MbWin); (fun s => { s with hs := ((s.hs.p s.fs.u MBUS_WIN.PAGE w.page).p s.fs.u MBUS_WIN.OFFSET w.ofs).p s.fs.u MBUS_WIN.RLEN w.rlen }) ((fun s => { s with fs.fw.recovery := false }) up)), by decide +kernel⟩,
   ⟨(0x20 : Byte), (4 : Byte), (fsU (fun t => { t with fw.recovery := false })) ((linkU (fun l => { l with ready := true })) ((hsU (fun h => { h with mb := MbState.init, powered := true, alert := ⟨true, h.alert.level, true⟩, fault := ⟨true, h.fault.level, true⟩ })) ((fun s => { s with hs.mb.phase := .idle }) ((fun s => { s with hs.powered := true }) up)))), by decide +kernel⟩,
   ⟨([1, 2, 3, 4] : List Byte), (fsU (fun t => { t with fw.recovery := false })) ((linkU (fun l => { l with ready := true })) ((hsU (fun h => { h with mb := MbState.init, powered := true, alert := ⟨true, h.alert.level, true⟩, fault := ⟨true, h.fault.level, true⟩ })) ((fun s => { s with hs.mb.phase := .idle }) ((fun s => { s with hs.powered := true }) up)))), by decide +kernel⟩,
   ⟨(fsU (fun t => { t with fw.recovery := false })) ((linkU (fun l => { l with ready := true })) ((hsU (fun h => { h with mb := MbState.init, powered := true, alert := ⟨true, h.alert.level, true⟩, fault := ⟨true, h.fault.level, true⟩ })) ((hput MBUS_CFG.PEC_REQ (0)) ((fun s => { s with hs.mb.phase := .idle }) ((fun s => { s with hs.powered := true }) up))))), by decide +kernel⟩,
   ⟨(0xAA : Byte), (fsU (fun t => { t with fw.recovery := false })) ((linkU (fun l => { l with ready := true })) ((hsU (fun h => { h with mb := MbState.init, powered := true, alert := ⟨true, h.alert.level, true⟩, fault := ⟨true, h.fault.level, true⟩ })) up)), by decide +kernel⟩,
   ⟨(hput MBUS_CFG.PEC_REQ (1)) ((fun s => { s with hs.mb.phase := .idle }) ((fun s => { s with hs.powered := true }) up)), by decide +kernel⟩⟩

/-- The hypotheses of each clause of BusTransactions can be met together. -/
theorem test_wit_BusTransactions :
    (∃ (c : MbCmd) (s : State), s.hs.powered = true ∧ s.hs.mb.phase = .idle ∧ (c = .statusWord ∨ c = .maxTemp ∨ c = .groupTemps) ∧ s.hs.ready = true)
    ∧ (∃ (c : MbCmd) (s : State), s.hs.powered = true ∧ s.hs.mb.phase = .idle ∧ (c = .statusWord ∨ c = .maxTemp ∨ c = .groupTemps) ∧ s.hs.ready = false ∧ s.hs.present = true ∧ s.hs.fault.level = false)
    ∧ (∃ (c : MbCmd) (s : State), s.hs.powered = true ∧ s.hs.mb.phase = .idle ∧ (c = .statusWord ∨ c = .maxTemp ∨ c = .groupTemps) ∧ s.hs.present = false)
    ∧ (∃ (x : MbTxn) (s : State), s.hs.powered = true ∧ s.hs.mb.phase = .idle ∧ mbOf x.cmd = none ∧ x.kind ≠ .quick)
    ∧ (∃ (x : MbTxn) (s : State), s.hs.mb.phase = .stretch ∧ s.hs.mb.txn = some x)
    ∧ (∃ (c : MbCmd) (x : MbTxn) (s : State), s.hs.mb.phase = .response ∧ s.hs.mb.txn = some x ∧ x.kind = .read ∧ x.cmd = mbCode c)
    ∧ (∃ (s : State), s.hs.powered = true) :=
  ⟨⟨MbCmd.statusWord, (hsU (fun h => { h with mb := MbState.init, powered := true, alert := ⟨true, h.alert.level, true⟩, fault := ⟨true, h.fault.level, true⟩ })) ((hsU (fun h => { h with fault := ⟨true, h.fault.level, true⟩, alert := ⟨true, h.alert.level, true⟩ })) ((fun s => { s with hs.mb.phase := .idle }) ((fun s => { s with hs.powered := true }) up))), by decide +kernel⟩,
   ⟨MbCmd.statusWord, (hsU (fun h => { h with alert := ⟨true, false, false⟩, fault := ⟨true, false, false⟩ })) ((hsU (fun h => { h with mb := MbState.init, powered := true, alert := ⟨true, h.alert.level, true⟩, fault := ⟨true, h.fault.level, true⟩ })) ((fun s => { s with hs.fault.level := false }) ((hsU (fun h => { h with fault := ⟨true, h.fault.level, h.fault.linkRdy⟩, alert := ⟨true, h.alert.level, h.alert.linkRdy⟩ })) ((hsU (fun h => { h with fault := ⟨h.fault.alive, h.fault.level, false⟩, alert := ⟨h.alert.alive, h.alert.level, false⟩ })) ((fun s => { s with hs.mb.phase := .idle }) ((fun s => { s with hs.powered := true }) up)))))), by decide +kernel⟩,
   ⟨MbCmd.statusWord, (hsU (fun h => { h with alert := ⟨false, true, false⟩, fault := ⟨true, false, false⟩ })) ((hsU (fun h => { h with mb := MbState.init, powered := true, alert := ⟨true, h.alert.level, true⟩, fault := ⟨true, h.fault.level, true⟩ })) ((hsU (fun h => { h with fault := ⟨false, h.fault.level, false⟩, alert := ⟨false, h.alert.level, false⟩ })) ((fun s => { s with hs.mb.phase := .idle }) ((fun s => { s with hs.powered := true }) up)))), by decide +kernel⟩,
   ⟨(⟨.write, 0x99, none, [], none⟩ : MbTxn), (fun s => { s with hs.mb.phase := .idle }) ((fun s => { s with hs.powered := true }) up), by decide +kernel⟩,
   ⟨(⟨.read, 0x01, none, [], none⟩ : MbTxn), (let x : MbTxn := (⟨.read, 0x01, none, [], none⟩ : MbTxn); (fun s => { s with hs.mb.txn := some x }) ((fun s => { s with hs.mb.phase := .stretch }) up)), by decide +kernel⟩,
   ⟨MbCmd.statusWord, (let c : MbCmd := MbCmd.statusWord; (⟨.read, mbCode c, none, [], none⟩ : MbTxn)), (let c : MbCmd := MbCmd.statusWord; let x : MbTxn := (⟨.read, mbCode c, none, [], none⟩ : MbTxn); (fun s => { s with hs.mb.txn := some x }) ((fun s => { s with hs.mb.phase := .response }) up)), by decide +kernel⟩,
   ⟨(fun s => { s with hs.powered := true }) up, by decide +kernel⟩⟩

/-- The hypotheses of each clause of BusPushes can be met together. -/
theorem test_wit_BusPushes :
    (∃ (s : State), s.hs.powered = true ∧ s.hs.g s.fs.u MBUS_CTLR.EN = 1 ∧ s.hs.g s.fs.u MBUS_CTLR.TARGET ≠ 0 ∧ s.hs.g s.fs.u MBUS_PSTAT.PUSH_STALLED = 0 ∧ s.hs.ready = true ∧ s.hs.alert.level = true ∧ s.hs.mb.push = .idle ∧ s.hs.mb.phase = .idle)
    ∧ (∃ (l : Half) (retx : Bool) (o : OutReq) (d : List Byte) (rx : Rx) (s : State), (let m : F2H := .seg true 9 l 0 false retx (mbResponse okSt d); s.f2h = [m] ∧ m.heard rx = .good m ∧ s.hs.powered = true ∧ d.length < 256 ∧ d.any (· != 0) = true ∧ s.hs.mb.out = some o ∧ o.cstr = 9 ∧ o.lseq = l ∧ s.hs.mb.push = .fetching))
    ∧ (∃ (s : State), s.hs.mb.push = .ready ∧ s.hs.mb.phase = .idle)
    ∧ (∃ (s : State), s.hs.mb.push = .ready ∧ s.hs.mb.phase = .idle ∧ (let u := s.fs.u; (let tries := s.hs.g u MBUS_PSTAT.TRIES; 7 ≤ tries)))
    ∧ (∃ (s : State), s.hs.mb.push = .ready ∧ s.hs.mb.phase = .idle ∧ (let u := s.fs.u; (let tries := s.hs.g u MBUS_PSTAT.TRIES; tries < 7)))
    ∧ (∃ (s : State), s.hs.mb.push = .backoff)
    ∧ (∃ (s : State), s.hs.mb.push = .poll) :=
  ⟨⟨(hput MBUS_CTLR.TARGET 0x21) ((fun s => { s with hs.mb.phase := .idle }) ((fun s => { s with hs.mb.push := .idle }) ((fun s => { s with hs.alert.level := true }) ((hput MBUS_PSTAT.PUSH_STALLED (0)) ((hput MBUS_CTLR.EN (1)) ((fun s => { s with hs.powered := true }) up)))))), by decide +kernel⟩,
   ⟨(9 : Half), true, (⟨9, 9, .execute, [], 0, []⟩ : OutReq), [1, 2, 3], Rx.asSent, (let o : OutReq := (⟨9, 9, .execute, [], 0, []⟩ : OutReq); let l : Half := (9 : Half); let retx : Bool := true; let d : List Byte := [1, 2, 3]; let m : F2H := .seg true 9 l 0 false retx (mbResponse okSt d); (fun s => { s with f2h := [m] }) ((fun s => { s with hs.mb.push := .fetching }) ((fun s => { s with hs.mb.out := some o }) ((fun s => { s with hs.powered := true }) up)))), by decide +kernel⟩,
   ⟨(fun s => { s with hs.mb.phase := .idle }) ((fun s => { s with hs.mb.push := .ready }) up), by decide +kernel⟩,
   ⟨(hput MBUS_PSTAT.TRIES 7) ((fun s => { s with hs.mb.phase := .idle }) ((fun s => { s with hs.mb.push := .ready }) up)), by decide +kernel⟩,
   ⟨(fun s => { s with hs.mb.phase := .idle }) ((fun s => { s with hs.mb.push := .ready }) up), by decide +kernel⟩,
   ⟨(fun s => { s with hs.mb.push := .backoff }) up, by decide +kernel⟩,
   ⟨(fun s => { s with hs.mb.push := .poll }) up, by decide +kernel⟩⟩

/-- The hypotheses of each clause of DuplicateRequests can be met together. -/
theorem test_wit_DuplicateRequests :
    (∃ (op : HspOp) (f : Frame) (q : Word) (o : OutReq) (bytes : List Byte) (e : DupEntry) (s : State), s.hs.frame = some ⟨op, f, q, .payload⟩ ∧ s.hs.out = some o ∧ s.fs.link.openMsg = .open ∧ bytes.length = (if opPayload op then f.len.toNat + 4 else 0) ∧ s.hs.entry (frCh f) f.seq = some e ∧ (let g := { f with payload := if opPayload op then bytes.take f.len.toNat else [] }; (if opPayload op then BitVec.ofNat 32 (leNat (bytes.drop f.len.toNat)) = payloadCrc g else q = headerCrc op g) ∧ e.chk = frameChk op g ∧ e.complete = true ∧ e.n ≤ 64))
    ∧ (∃ (op : HspOp) (f : Frame) (q : Word) (o : OutReq) (bytes : List Byte) (e : DupEntry) (s : State), s.hs.frame = some ⟨op, f, q, .payload⟩ ∧ s.hs.out = some o ∧ s.fs.link.openMsg = .open ∧ bytes.length = (if opPayload op then f.len.toNat + 4 else 0) ∧ s.hs.entry (frCh f) f.seq = some e ∧ (let g := { f with payload := if opPayload op then bytes.take f.len.toNat else [] }; (if opPayload op then BitVec.ofNat 32 (leNat (bytes.drop f.len.toNat)) = payloadCrc g else q = headerCrc op g) ∧ e.chk = frameChk op g ∧ ¬ (e.complete = true ∧ e.n ≤ 64) ∧ s.hs.newestEntry (frCh f) e = true))
    ∧ (∃ (op : HspOp) (f : Frame) (q : Word) (o : OutReq) (bytes : List Byte) (e : DupEntry) (s : State), s.hs.frame = some ⟨op, f, q, .payload⟩ ∧ s.hs.out = some o ∧ s.fs.link.openMsg = .open ∧ bytes.length = (if opPayload op then f.len.toNat + 4 else 0) ∧ s.hs.entry (frCh f) f.seq = some e ∧ (let g := { f with payload := if opPayload op then bytes.take f.len.toNat else [] }; (if opPayload op then BitVec.ofNat 32 (leNat (bytes.drop f.len.toNat)) = payloadCrc g else q = headerCrc op g) ∧ e.chk = frameChk op g ∧ e.complete = true ∧ 64 < e.n ∧ s.hs.newestEntry (frCh f) e = false))
    ∧ (∃ (op : HspOp) (f : Frame) (q : Word) (o : OutReq) (bytes : List Byte) (e : DupEntry) (s : State), s.hs.frame = some ⟨op, f, q, .payload⟩ ∧ s.hs.out = some o ∧ s.fs.link.openMsg = .open ∧ bytes.length = (if opPayload op then f.len.toNat + 4 else 0) ∧ s.hs.entry (frCh f) f.seq = some e ∧ (let g := { f with payload := if opPayload op then bytes.take f.len.toNat else [] }; (if opPayload op then BitVec.ofNat 32 (leNat (bytes.drop f.len.toNat)) = payloadCrc g else q = headerCrc op g) ∧ e.chk = frameChk op g ∧ e.complete = false ∧ s.hs.newestEntry (frCh f) e = false))
    ∧ (∃ (op : HspOp) (f : Frame) (q : Word) (o : OutReq) (bytes : List Byte) (e : DupEntry) (s : State), s.hs.frame = some ⟨op, f, q, .payload⟩ ∧ s.hs.out = some o ∧ s.fs.link.openMsg = .open ∧ bytes.length = (if opPayload op then f.len.toNat + 4 else 0) ∧ s.hs.entry (frCh f) f.seq = some e ∧ (let g := { f with payload := if opPayload op then bytes.take f.len.toNat else [] }; (if opPayload op then BitVec.ofNat 32 (leNat (bytes.drop f.len.toNat)) = payloadCrc g else q = headerCrc op g) ∧ e.chk ≠ frameChk op g)) :=
  ⟨⟨HspOp.nop, ({ stream := 0x23, seq := 9, flags := 0x10, addr := 0x20, len := 4, payload := [] } : Frame), (let op : HspOp := HspOp.nop; let f : Frame := ({ stream := 0x23, seq := 9, flags := 0x10, addr := 0x20, len := 4, payload := [] } : Frame); (headerCrc op f)), (⟨2, 9, .execute, [], 0, []⟩ : OutReq), ([] : List Byte), (let op : HspOp := HspOp.nop; let f : Frame := ({ stream := 0x23, seq := 9, flags := 0x10, addr := 0x20, len := 4, payload := [] } : Frame); (⟨9, frameChk op f, true, 5, 77, 3, [1, 2, 3]⟩ : DupEntry)), (let op : HspOp := HspOp.nop; let f : Frame := ({ stream := 0x23, seq := 9, flags := 0x10, addr := 0x20, len := 4, payload := [] } : Frame); let q : Word := (headerCrc op f); let o : OutReq := (⟨2, 9, .execute, [], 0, []⟩ : OutReq); let e : DupEntry := (⟨9, frameChk op f, true, 5, 77, 3, [1, 2, 3]⟩ : DupEntry); (hsU (fun h => { h with frame := some ⟨op, f, q, .payload⟩, out := some o, dup := Vector.replicate 8 [e] })) ((linkU (fun lk => { lk with openMsg := .open })) up)), by decide +kernel⟩,
   ⟨HspOp.nop, ({ stream := 0x23, seq := 9, flags := 0x10, addr := 0x20, len := 4, payload := [] } : Frame), (let op : HspOp := HspOp.nop; let f : Frame := ({ stream := 0x23, seq := 9, flags := 0x10, addr := 0x20, len := 4, payload := [] } : Frame); (headerCrc op f)), (⟨2, 9, .execute, [], 0, []⟩ : OutReq), ([] : List Byte), (let op : HspOp := HspOp.nop; let f : Frame := ({ stream := 0x23, seq := 9, flags := 0x10, addr := 0x20, len := 4, payload := [] } : Frame); (⟨9, frameChk op f, true, 5, 77, 65, [1, 2, 3]⟩ : DupEntry)), (let op : HspOp := HspOp.nop; let f : Frame := ({ stream := 0x23, seq := 9, flags := 0x10, addr := 0x20, len := 4, payload := [] } : Frame); let q : Word := (headerCrc op f); let o : OutReq := (⟨2, 9, .execute, [], 0, []⟩ : OutReq); let e : DupEntry := (⟨9, frameChk op f, true, 5, 77, 65, [1, 2, 3]⟩ : DupEntry); (hsU (fun h => { h with frame := some ⟨op, f, q, .payload⟩, out := some o, dup := Vector.replicate 8 [e] })) ((linkU (fun lk => { lk with openMsg := .open })) up)), by decide +kernel⟩,
   ⟨HspOp.nop, ({ stream := 0x23, seq := 9, flags := 0x10, addr := 0x20, len := 4, payload := [] } : Frame), (let op : HspOp := HspOp.nop; let f : Frame := ({ stream := 0x23, seq := 9, flags := 0x10, addr := 0x20, len := 4, payload := [] } : Frame); (headerCrc op f)), (⟨2, 9, .execute, [], 0, []⟩ : OutReq), ([] : List Byte), (let op : HspOp := HspOp.nop; let f : Frame := ({ stream := 0x23, seq := 9, flags := 0x10, addr := 0x20, len := 4, payload := [] } : Frame); (⟨9, frameChk op f, true, 5, 77, 65, [1, 2, 3]⟩ : DupEntry)), (let op : HspOp := HspOp.nop; let f : Frame := ({ stream := 0x23, seq := 9, flags := 0x10, addr := 0x20, len := 4, payload := [] } : Frame); let q : Word := (headerCrc op f); let o : OutReq := (⟨2, 9, .execute, [], 0, []⟩ : OutReq); let e : DupEntry := (⟨9, frameChk op f, true, 5, 77, 65, [1, 2, 3]⟩ : DupEntry); (hsU (fun h => { h with frame := some ⟨op, f, q, .payload⟩, out := some o, dup := Vector.replicate 8 [(⟨8, 1, true, 0, 1, 0, []⟩ : DupEntry), e] })) ((linkU (fun lk => { lk with openMsg := .open })) up)), by decide +kernel⟩,
   ⟨HspOp.nop, ({ stream := 0x23, seq := 9, flags := 0x10, addr := 0x20, len := 4, payload := [] } : Frame), (let op : HspOp := HspOp.nop; let f : Frame := ({ stream := 0x23, seq := 9, flags := 0x10, addr := 0x20, len := 4, payload := [] } : Frame); (headerCrc op f)), (⟨2, 9, .execute, [], 0, []⟩ : OutReq), ([] : List Byte), (let op : HspOp := HspOp.nop; let f : Frame := ({ stream := 0x23, seq := 9, flags := 0x10, addr := 0x20, len := 4, payload := [] } : Frame); (⟨9, frameChk op f, false, 5, 77, 0, []⟩ : DupEntry)), (let op : HspOp := HspOp.nop; let f : Frame := ({ stream := 0x23, seq := 9, flags := 0x10, addr := 0x20, len := 4, payload := [] } : Frame); let q : Word := (headerCrc op f); let o : OutReq := (⟨2, 9, .execute, [], 0, []⟩ : OutReq); let e : DupEntry := (⟨9, frameChk op f, false, 5, 77, 0, []⟩ : DupEntry); (hsU (fun h => { h with frame := some ⟨op, f, q, .payload⟩, out := some o, dup := Vector.replicate 8 [(⟨8, 1, true, 0, 1, 0, []⟩ : DupEntry), e] })) ((linkU (fun lk => { lk with openMsg := .open })) up)), by decide +kernel⟩,
   ⟨HspOp.nop, ({ stream := 0x23, seq := 9, flags := 0x10, addr := 0x20, len := 4, payload := [] } : Frame), (let op : HspOp := HspOp.nop; let f : Frame := ({ stream := 0x23, seq := 9, flags := 0x10, addr := 0x20, len := 4, payload := [] } : Frame); (headerCrc op f)), (⟨2, 9, .execute, [], 0, []⟩ : OutReq), ([] : List Byte), (⟨9, (1 : Word), true, 5, 77, 3, [1, 2, 3]⟩ : DupEntry), (let op : HspOp := HspOp.nop; let f : Frame := ({ stream := 0x23, seq := 9, flags := 0x10, addr := 0x20, len := 4, payload := [] } : Frame); let q : Word := (headerCrc op f); let o : OutReq := (⟨2, 9, .execute, [], 0, []⟩ : OutReq); let e : DupEntry := (⟨9, (1 : Word), true, 5, 77, 3, [1, 2, 3]⟩ : DupEntry); (hsU (fun h => { h with frame := some ⟨op, f, q, .payload⟩, out := some o, dup := Vector.replicate 8 [e] })) ((linkU (fun lk => { lk with openMsg := .open })) up)), by decide +kernel⟩⟩

end Sys2Proof.Tests
end

section
/-! What a record or an event that is only latched leaves of the field side: `Tail.quiet`, one equation per operation. -/

namespace Sys2Proof.Machine

/-! ## Sparse maps: entries under keys that a predicate leaves out -/

/-- An insertion under a key left out leaves the other entries. -/
theorem smIns_filter {α : Type} (p : Nat → Bool) (m : SMap α) (k : Nat) (v : α) (hk : p k = false) :
    (smIns m k v).filter (fun e => p e.1) = m.filter (fun e => p e.1) := by
  induction m with
  | nil => simp [smIns, hk]
  | cons e m ih =>
    obtain ⟨a, w⟩ := e
    simp only [smIns]
    split
    · simp [hk]
    · split
      · next h => subst h; simp [hk]
      · rw [List.filter_cons, List.filter_cons, ih]

/-- A write under a key left out leaves the other entries. -/
theorem smSet_filter {α : Type} [DecidableEq α] (p : Nat → Bool) (d : Nat → α) (m : SMap α) (k : Nat) (v : α) (hk : p k = false) :
    (smSet d m k v).filter (fun e => p e.1) = m.filter (fun e => p e.1) := by
  unfold smSet
  split
  · unfold smDel
    rw [List.filter_filter]
    refine List.filter_congr fun e _ => ?_
    by_cases h : e.1 = k
    · simp [h, hk]
    · simp [h]
  · exact smIns_filter p m k v hk

/-- A key that is not left out reads in the filtered map as in the whole one. -/
theorem smGet_filter {α : Type} (p : Nat → Bool) (d : Nat → α) (m : SMap α) (k : Nat) (hk : p k = true) :
    smGet d (m.filter (fun e => p e.1)) k = smGet d m k := by
  induction m with
  | nil => rfl
  | cons e m ih =>
    obtain ⟨a, w⟩ := e
    by_cases h : a = k
    · subst h; simp [hk, smGet]
    · rw [List.filter_cons]
      split <;> simp [smGet, h, ih]

/-! ## The field side but for latched events and records -/

/-- The register at `a` is no event latch (00 R11). -/
def notLatch (a : Nat) : Bool := a % 256 != 0x0C

/-- The field side without the event latches, the events that wait to be logged, the store and its sequence number: all that a latched
event or a record of a unit block may touch. -/
def Tail.quiet (t : Tail) : Tail :=
  { t with ssn := 0, regs := t.regs.filter (fun e => notLatch e.1), log := ⟨[], 0, t.log.ready⟩, store := Store.init }

theorem Tail.word_of_quiet {t r : Tail} (h : r.quiet = t.quiet) {a : Nat} (ha : notLatch a = true) : r.word a = t.word a := by
  have hu : r.u = t.u := show r.quiet.u = t.quiet.u by rw [h]
  have hr : r.regs.filter (fun e => notLatch e.1) = t.regs.filter (fun e => notLatch e.1) :=
    show r.quiet.regs = t.quiet.regs by rw [h]
  unfold Tail.word
  rw [← smGet_filter notLatch _ r.regs a ha, hr, hu, smGet_filter notLatch _ _ _ ha]

/-! ## Events -/

theorem Tail.setWord_quiet (t : Tail) (a : Nat) (w : Word) (ha : notLatch a = false) : (t.setWord a w).quiet = t.quiet := by
  unfold Tail.quiet Tail.setWord
  dsimp only
  rw [smSet_filter notLatch _ _ _ _ ha]

theorem notLatch_evt (p : Nat) : notLatch (PG_EVT.EVT p).addr = false := by
  have : (p * 256 + 0x0C) % 256 = 0x0C := by omega
  simp [notLatch, PG_EVT.EVT, this]

@[simp] theorem Tail.evtV_quiet (t : Tail) (p i : Nat) (v : Option Word) : (t.evtV p i v).quiet = t.quiet := by
  unfold Tail.evtV
  split
  · rfl
  · exact Tail.setWord_quiet t _ _ (notLatch_evt p)

@[simp] theorem Tail.evt_quiet (t : Tail) (p i : Nat) : (t.evt p i).quiet = t.quiet := Tail.evtV_quiet t p i none

@[simp] theorem Tail.seal_quiet (t : Tail) : t.seal.quiet = t.quiet := rfl

/-- Before the log is open (06 R226) the latches of a step only wait. -/
theorem Tail.logAll_quiet (t : Tail) (h : t.log.ready = false) : t.logAll.quiet = t.quiet := by
  simp [Tail.logAll, h]

/-! ## Records -/

theorem Tail.store_quiet (t : Tail) (s : Store) : { t with store := s }.quiet = t.quiet := rfl

@[simp] theorem Tail.sstMap_quiet (t : Tail) (k : Nat) (g : StreamSt → StreamSt) : (t.sstMap k g).quiet = t.quiet :=
  Tail.store_quiet t _

@[simp] theorem Tail.wbMap_quiet (t : Tail) (b : Fin 8) (g : List WbEntry → List WbEntry) : (t.wbMap b g).quiet = t.quiet :=
  Tail.store_quiet t _

@[simp] theorem Tail.memWrite_quiet (t : Tail) (a d : Nat) : (t.memWrite a d).quiet = t.quiet :=
  (Tail.wbMap_quiet _ _ _).trans (Tail.store_quiet t _)

@[simp] theorem Tail.sysClear_quiet (t : Tail) (a : Nat) : (t.sysClear a).quiet = t.quiet :=
  (Tail.wbMap_quiet _ _ _).trans (Tail.store_quiet t _)

@[simp] theorem Tail.pushRec_quiet (t : Tail) (k kind words len : Nat) (d : Bool) : (t.pushRec k kind words len d).quiet = t.quiet :=
  Tail.sstMap_quiet t _ _

@[simp] theorem Tail.ringWrite_quiet (k : Nat) (ws : List Nat) (t : Tail) (pos : Nat) : (t.ringWrite k pos ws).quiet = t.quiet := by
  induction ws generalizing t pos with
  | nil => rfl
  | cons w ws ih => simp [Tail.ringWrite, ih]

@[simp] theorem Tail.sysWrites_quiet (t : Tail) (x n : Nat) : (t.sysWrites x n).quiet = t.quiet :=
  List.foldlRecOn (motive := fun r : Tail => r.quiet = t.quiet) _ _ rfl (fun _ h _ _ => (Tail.sysClear_quiet _ _).trans h)

@[simp] theorem Tail.wmUpdate_quiet (t : Tail) (k : Nat) : (t.wmUpdate k).quiet = t.quiet := by
  simp only [Tail.wmUpdate, apply_ite Tail.quiet, evt_quiet, sstMap_quiet, ite_self]

@[simp] theorem Tail.lose_quiet (t : Tail) (k c : Nat) : (t.lose k c).quiet = t.quiet := by simp [Tail.lose]

@[simp] theorem Tail.putRec_quiet (t : Tail) (k : Nat) (r : HeldRec) : (t.putRec k r).quiet = t.quiet := by
  simp only [Tail.putRec, apply_ite Tail.quiet, wmUpdate_quiet, sstMap_quiet, pushRec_quiet, ringWrite_quiet, ite_self]

@[simp] theorem Tail.makeRoom_quiet (t : Tail) (k n : Nat) : (t.makeRoom k n).quiet = t.quiet := by
  simp only [Tail.makeRoom, apply_ite Tail.quiet, lose_quiet, sstMap_quiet, ite_self]

@[simp] theorem Tail.holdRec_quiet (t : Tail) (k : Nat) (r : HeldRec) : (t.holdRec k r).2.quiet = t.quiet := by
  unfold Tail.holdRec
  split <;> simp

/-- However an append ends (06 R212), it touches no more than a record may. -/
theorem Tail.appendAs_quiet (t : Tail) (who : Producer) (k : Nat) (r : HeldRec) : (t.appendAs who k r).2.quiet = t.quiet := by
  unfold Tail.appendAs
  dsimp only
  repeat' split
  all_goals simp

/-- With no error in the system area a read of it finds nothing to correct. -/
theorem Tail.sysReads_of_sys_nil (t : Tail) (x n : Nat) (h : t.store.sys = []) : t.sysReads x n = t := by
  simp [Tail.sysReads, h]

theorem Tail.record_quiet (t : Tail) (who : Producer) (k kind : Nat) (v : Bool) (d : List Byte) (h : t.store.sys = []) :
    (t.record who k kind v d).quiet = t.quiet := by
  unfold Tail.record Tail.append Tail.appendRec
  rw [Tail.sysReads_of_sys_nil t _ _ h]
  split
  · rfl
  · simp only [apply_ite Tail.quiet, Tail.sysWrites_quiet, Tail.appendAs_quiet, ite_self]

/-- A commit touches no more than a record may if what is done under it does not. -/
theorem Tail.commitOn_quiet (t : Tail) (k : Nat) (f : Tail → Tail) (h : (f { t with ssn := t.ssn + 1 }).quiet = t.quiet) :
    (t.commitOn k f).quiet = t.quiet := by
  unfold Tail.commitOn Tail.commitAny
  dsimp only
  split
  · exact h
  · exact h

end Sys2Proof.Machine
end

section
/-! PON (00 R14, 04 R136): the registers that a reset keeps, the boot of a firmware slot, and O4. -/

namespace Sys2Proof.Machine

/-! ## The registers that a reset keeps -/

/-- Folding over fields that are not kept restores nothing of the old word. -/
theorem foldl_keep_none {keep : Fd → Bool} (fs : List Fd) (h : ∀ f ∈ fs, keep f = false) (w d : Word) :
    fs.foldl (fun x f => if keep f then fdPut f (fdGet f w) x else x) d = d :=
  List.foldlRecOn (motive := fun x => x = d) fs _ rfl (fun x hx f hf => by simp [h f hf, hx])

/-- A register of which no field is kept reads its reset value after the reset. -/
theorem smGet_keepFields (u : UnitInfo) (keep : Fd → Bool) (regs : SMap Word) (a : Nat) (h : ∀ f ∈ regFields a, keep f = false) :
    smGet (regDefault u) (keepFields u keep regs) a = regDefault u a := by
  refine smGet_none _ _ a fun e he hea => ?_
  obtain ⟨⟨b, v⟩, -, hb⟩ := List.mem_filterMap.mp he
  dsimp only at hb
  split at hb
  · exact absurd hb (by simp)
  · next hne =>
    obtain rfl : (b, _) = e := Option.some.inj hb
    obtain rfl : b = a := hea
    exact hne (foldl_keep_none _ h v _)

/-! ## The boot of a slot (23 R813) -/

theorem Tail.auditFw_quiet (t : Tail) (step : Nat) (i : Fin 2) (fr : FrameRef) (h : t.store.sys = []) :
    (t.auditFw step i fr).quiet = t.quiet := Tail.record_quiet t _ _ _ _ _ h

/-- The field side without the registers and the firmware's own state too. -/
def Tail.bootKept (t : Tail) : Tail := { t.quiet with regs := [], fw := Fw.init }

/-- `r` differs from `t` at most in what the boot of a slot may touch: latches and records, the firmware's own state, and the register of
the cause FW_ACT. -/
structure Tail.Boots (t r : Tail) : Prop where
  kept : r.bootKept = t.bootKept
  word : ∀ x, notLatch x = true → x ≠ DEV_RSTCAUSE.FW_ACT.addr → r.word x = t.word x

theorem Tail.Boots.trans {t r q : Tail} (h1 : t.Boots r) (h2 : r.Boots q) : t.Boots q :=
  ⟨h2.kept.trans h1.kept, fun x hl hc => (h2.word x hl hc).trans (h1.word x hl hc)⟩

theorem Tail.Boots.of_quiet {t r : Tail} (h : r.quiet = t.quiet) : t.Boots r :=
  ⟨congrArg (fun x : Tail => { x with regs := [], fw := Fw.init }) h, fun _ hl _ => Tail.word_of_quiet h hl⟩

theorem Tail.Boots.rfl (t : Tail) : t.Boots t := .of_quiet (Eq.refl _)

theorem Tail.boots_fw {t r : Tail} (w : Fw) (h : t.Boots r) : t.Boots { r with fw := w } :=
  h.trans ⟨Eq.refl _, fun _ _ _ => Eq.refl _⟩

theorem Tail.boots_cause {t r : Tail} (v : Nat) (h : t.Boots r) : t.Boots (r.p DEV_RSTCAUSE.FW_ACT v) :=
  h.trans ⟨Eq.refl _, fun x _ hc => Tail.setWord_word_ne r _ x _ hc⟩

theorem Tail.boots_slotMap {t r : Tail} (i : Fin 2) (g : Slot → Slot) (h : t.Boots r) : t.Boots (r.slotMap i g) := Tail.boots_fw _ h

theorem Tail.boots_bootFw (t : Tail) (h : t.store.sys = []) : t.Boots t.bootFw := by
  unfold Tail.bootFw
  split
  · exact Tail.boots_fw _ (.rfl t)
  · next i _ =>
    dsimp only
    split
    · exact Tail.boots_fw _ (.rfl t)
    · refine .trans ?_ (.of_quiet (Tail.commitOn_quiet _ _ _ (Tail.auditFw_quiet _ _ _ _ ?_)))
      · exact .trans (Tail.boots_cause 1 (Tail.boots_slotMap i _ (Tail.boots_fw _ (Tail.boots_fw _ (.rfl t)))))
          (.of_quiet (Tail.evt_quiet _ _ _))
      · rw [Tail.evt_eq, Tail.evtV_store]; exact h

/-- What a boot leaves of the fields that a reset sets up. -/
theorem Tail.Boots.fields {t r : Tail} (h : t.Boots r) : r.u = t.u ∧ r.us = t.us ∧ r.ft = t.ft ∧ r.otp = t.otp ∧ r.sess = t.sess
    ∧ r.link = t.link ∧ r.aon = t.aon ∧ r.stn = t.stn ∧ r.log.ready = t.log.ready := by
  have hk := h.kept
  simp only [Tail.bootKept, Tail.quiet, Tail.mk.injEq, EvtLog.mk.injEq] at hk
  simp only [hk, and_self]

/-! ## PON (00 R14, 04 R136) -/

@[simp] theorem Tail.coldMark_quiet (t : Tail) (cold : Bool) : (t.coldMark cold).quiet = t.quiet := by
  unfold Tail.coldMark
  split <;> simp

/-- The fresh field side of PON, before its first event and the boot of a slot. -/
def Tail.ponFresh (a b cold : Bool) (t : Tail) : Tail :=
  let aon := { Aon.init a b cold with log := t.aon.log }
  let t := if t.us = .off then t.elapse (100 * ms1) else t
  let t := t.renew aon (keepFields t.u (fun f => f.rby = .never) t.regs)
  { t with fw := { t.fw with bootFail := Vector.replicate 2 0 }, boot := { t.boot with upAt := t.now + bootT1 } }

theorem Tail.pon_eq (a b cold : Bool) (t : Tail) :
    t.pon a b cold = (((t.ponFresh a b cold).evt 0x00 0).seal.bootFw.coldMark cold).logAll := rfl

@[simp] theorem Tail.ponFresh_u (a b cold : Bool) (t : Tail) : (t.ponFresh a b cold).u = t.u := by
  unfold Tail.ponFresh
  dsimp only [Tail.renew]
  split <;> simp [Tail.init]

@[simp] theorem Tail.ponFresh_otp (a b cold : Bool) (t : Tail) : (t.ponFresh a b cold).otp = t.otp := by
  unfold Tail.ponFresh
  dsimp only [Tail.renew]
  split <;> simp

@[simp] theorem Tail.ponFresh_regs (a b cold : Bool) (t : Tail) :
    (t.ponFresh a b cold).regs = keepFields t.u (fun f => f.rby = .never) t.regs := by
  unfold Tail.ponFresh
  dsimp only [Tail.renew]
  split <;> simp

/-- After PON every register without a field of OTP or flash reads its reset value (00 R14). -/
theorem Tail.ponFresh_word (a b cold : Bool) (t : Tail) (x : Nat) (h : ∀ f ∈ regFields x, f.rby ≠ .never) :
    (t.ponFresh a b cold).word x = regDefault t.u x := by
  unfold Tail.word
  rw [Tail.ponFresh_u, Tail.ponFresh_regs]
  exact smGet_keepFields _ _ _ _ (fun f hf => decide_eq_false (h f hf))

/-- PON is the fresh field side but for what its events and the boot of a slot may touch. -/
theorem Tail.boots_pon (a b cold : Bool) (t : Tail) : (t.ponFresh a b cold).Boots (t.pon a b cold) := by
  rw [Tail.pon_eq]
  have hq : ((t.ponFresh a b cold).evt 0x00 0).seal.quiet = (t.ponFresh a b cold).quiet := by simp
  have hs : ((t.ponFresh a b cold).evt 0x00 0).seal.store.sys = [] := by
    change ((t.ponFresh a b cold).evt 0x00 0).store.sys = []
    rw [Tail.evt_eq, Tail.evtV_store]
    rfl
  have hc : (t.ponFresh a b cold).Boots (((t.ponFresh a b cold).evt 0x00 0).seal.bootFw.coldMark cold) :=
    .trans (.of_quiet hq) (.trans (Tail.boots_bootFw _ hs) (.of_quiet (Tail.coldMark_quiet _ _)))
  obtain ⟨-, -, -, -, -, -, -, -, hready⟩ := hc.fields
  exact .trans hc (.of_quiet (Tail.logAll_quiet _ hready))

/-- Settles O4: but for latches, records and the boot of a slot (`Tail.Boots`), PON is the fresh field side `Tail.ponFresh`, in which
`keepFields` has kept no word of a register without a field of OTP or flash. -/
theorem powerOn : Obligations.PowerOn := by
  intro a b cold s hab
  have hexec : exec (.pon a b cold) s = .next { s with h2f := [], f2h := [], fs := s.fs.pon a b cold } := if_pos hab
  have hb := s.fs.boots_pon a b cold
  obtain ⟨hu, hus, hft, hotp, hsess, hlink, haon, hstn, -⟩ := hb.fields
  refine ⟨_, hexec, rfl, rfl, rfl, rfl, rfl, rfl, hu.trans (s.fs.ponFresh_u a b cold), hus, hft, hotp.trans (s.fs.ponFresh_otp a b cold),
    hsess, hlink, haon, hstn, fun x hx hlatch hcause => ?_⟩
  calc (s.fs.pon a b cold).word x
    _ = (s.fs.ponFresh a b cold).word x := hb.word x (by simpa [notLatch] using hlatch) hcause
    _ = regDefault s.fs.u x := s.fs.ponFresh_word a b cold x hx

end Sys2Proof.Machine
end

section
/-! The Headstock between transactions (01 R22): of the commands outside transactions and resets, all but the two level commands leave the
Headstock and the receive buffer alone (`exec_keepsHead`), and the level commands touch their own cell (02 R76); O57. -/

namespace Sys2Proof.Machine

/-! ## Outcomes that leave the Headstock alone -/

/-- If the outcome is a next state, it has the Headstock and the receive buffer of `s`. -/
def State.KeepsHead (s : State) (o : Host.Outcome State Fault Refusal) : Prop := ∀ t, o = .next t → t.hs = s.hs ∧ t.rxBuf = s.rxBuf

theorem State.KeepsHead.next {s r : State} (hh : r.hs = s.hs) (hr : r.rxBuf = s.rxBuf) : s.KeepsHead (.next r) := by
  rintro t ⟨⟩
  exact ⟨hh, hr⟩

theorem State.KeepsHead.ite {s : State} {c : Prop} [Decidable c] {a b : Host.Outcome State Fault Refusal} (ha : s.KeepsHead a)
    (hb : s.KeepsHead b) : s.KeepsHead (if c then a else b) := by
  split
  · exact ha
  · exact hb

theorem State.keepsHead_self (s : State) : s.KeepsHead (.next s) := .next rfl rfl

/-- A change of the Tailstock alone. -/
theorem State.keepsHead_tailNext (s : State) (f : Tail → Tail) : s.KeepsHead (tailNext s f) := .next rfl rfl

/-! ## Messages for the field side (02 R62, R86) -/

@[simp] theorem State.launch_hs (s : State) (m : F2H) (l : Link) : (s.launch m l).hs = s.hs := rfl
@[simp] theorem State.launch_rxBuf (s : State) (m : F2H) (l : Link) : (s.launch m l).rxBuf = s.rxBuf := rfl

/-- Taking its next message, the lane changes nothing on the Headstock's side. -/
theorem State.pump_head (s : State) : s.pump.hs = s.hs ∧ s.pump.rxBuf = s.rxBuf := by
  unfold State.pump
  repeat' split
  all_goals simp

@[simp] theorem State.pump_hs (s : State) : s.pump.hs = s.hs := s.pump_head.1
@[simp] theorem State.pump_rxBuf (s : State) : s.pump.rxBuf = s.rxBuf := s.pump_head.2

@[simp] theorem State.received_hs (s : State) (m : H2F) (rest : List H2F) (rx : Rx) : (s.received m rest rx).hs = s.hs := State.pump_hs _
@[simp] theorem State.received_rxBuf (s : State) (m : H2F) (rest : List H2F) (rx : Rx) : (s.received m rest rx).rxBuf = s.rxBuf :=
  State.pump_rxBuf _

/-- What arrives on the H2F lane changes nothing on the Headstock's side, whichever message it is. -/
theorem arrivalOnH2f_keepsHead (rx : Rx) (s : State) :
    s.KeepsHead (execReqHsp rx s) ∧ s.KeepsHead (execReqMb rx s) ∧ s.KeepsHead (execNakH rx s) := by
  unfold execReqHsp execReqMb execNakH
  refine ⟨?_, ?_, ?_⟩ <;> split <;> exact .next (by simp) (by simp)

/-! ## The power of the field side -/

theorem execThermalDomainsOff_keepsHead (s : State) : s.KeepsHead (execThermalDomainsOff s) := by
  unfold execThermalDomainsOff
  split
  · exact .ite s.keepsHead_self (.next rfl rfl)
  · exact s.keepsHead_self

theorem execDeepSleepEntered_keepsHead (s : State) : s.KeepsHead (execDeepSleepEntered s) := by
  unfold execDeepSleepEntered
  split
  · exact .next rfl rfl
  · exact s.keepsHead_self

/-! ## Every command outside transactions and resets -/

/-- Of the commands outside transactions and resets, the level commands alone touch the Headstock: the others change the Tailstock, and
those with a case of their own below the lanes too. -/
theorem exec_keepsHead {c : Instr} (s : State) (htxn : inTransaction c = false) (hreset : resetsHeadstock c = false)
    (hrefresh : ∀ ch e, c ≠ .levelRefresh ch e) (htimeout : ∀ ch, c ≠ .levelTimeout ch) : s.KeepsHead (exec c s) := by
  cases c
  case levelRefresh ch e => exact absurd rfl (hrefresh ch e)
  case levelTimeout ch => exact absurd rfl (htimeout ch)
  case reqHsp rx => exact (arrivalOnH2f_keepsHead rx s).1
  case reqMb rx => exact (arrivalOnH2f_keepsHead rx s).2.1
  case nakH rx => exact (arrivalOnH2f_keepsHead rx s).2.2
  case wakeInterrogation err cold => exact .ite s.keepsHead_self (.next rfl rfl)
  case retrainEffect => exact .ite (s.keepsHead_tailNext _) s.keepsHead_self
  case pon a b cold => exact .ite (.next rfl rfl) s.keepsHead_self
  case trst cause cold => exact .ite s.keepsHead_self (.next rfl rfl)
  case bothSuppliesFailed cut => exact .ite s.keepsHead_self (.next rfl rfl)
  case thermalDomainsOff => exact execThermalDomainsOff_keepsHead s
  case deepSleepEntered => exact execDeepSleepEntered_keepsHead s
  case watchdogExpiry => exact .next rfl rfl
  case storeInitDone fail => exact .next rfl rfl
  case thermalRestart => exact .next rfl rfl
  case sqcImageVerified ok => exact .next rfl rfl
  -- `htxn` and `hreset` rule out their commands; each command left is a change of the Tailstock.
  all_goals cases htxn <;> cases hreset <;> exact s.keepsHead_tailNext _

/-! ## The level commands (02 R76 to R79) -/

/-- `t` has the Headstock of `s` but for the two level cells, and its receive buffer. -/
def State.SameButLevels (s t : State) : Prop := t.hs = { s.hs with alert := t.hs.alert, fault := t.hs.fault } ∧ t.rxBuf = s.rxBuf

theorem State.sameButLevels_of_eq {s t : State} (hh : t.hs = s.hs) (hr : t.rxBuf = s.rxBuf) : s.SameButLevels t := by
  unfold State.SameButLevels
  rw [hh]
  exact ⟨rfl, hr⟩

/-- The receive cell of channel `ch` changed. -/
def Head.setLevel (h : Head) (ch : LevelCh) (x : LevelCell) : Head :=
  match ch with
  | .alert => { h with alert := x }
  | .fault => { h with fault := x }

theorem State.sameButLevels_setLevel (s : State) (ch : LevelCh) (x : LevelCell) :
    s.SameButLevels { s with hs := s.hs.setLevel ch x } := by
  cases ch <;> exact ⟨rfl, rfl⟩

@[simp] theorem Head.setLevel_mb (h : Head) (ch : LevelCh) (x : LevelCell) : (h.setLevel ch x).mb = h.mb := by
  cases ch <;> rfl

/-- The cell of channel `ch`. -/
def Head.level (h : Head) (ch : LevelCh) : LevelCell :=
  match ch with
  | .alert => h.alert
  | .fault => h.fault

theorem execLevelTimeout_eq (ch : LevelCh) (s : State) :
    execLevelTimeout ch s = .next { s with hs := s.hs.setLevel ch LevelCell.init } := by
  cases ch <;> rfl

theorem execLevelRefresh_eq (ch : LevelCh) (e : BitVec 3) (s : State) :
    execLevelRefresh ch e s = if !(s.hs.powered && s.fs.pd 1) then .next s
      else .next { s with hs := s.hs.setLevel ch ((s.hs.level ch).take (s.fs.refresh ch ^^^ e)) }.mbResume := by
  cases ch <;> rfl

/-- Without a stretch there is none to end (09 R348). -/
theorem State.mbResume_of_not_stretch {s : State} (h : s.hs.mb.phase ≠ .stretch) : s.mbResume = s := by
  simp [State.mbResume, h]

theorem execLevelRefresh_sameButLevels {ch : LevelCh} {e : BitVec 3} {s t : State} (hphase : s.hs.mb.phase ≠ .stretch)
    (h : execLevelRefresh ch e s = .next t) : s.SameButLevels t := by
  rw [execLevelRefresh_eq] at h
  split at h
  · cases h
    exact State.sameButLevels_of_eq rfl rfl
  · rw [State.mbResume_of_not_stretch (by simpa using hphase)] at h
    cases h
    exact s.sameButLevels_setLevel ch _

theorem execLevelTimeout_sameButLevels {ch : LevelCh} {s t : State} (h : execLevelTimeout ch s = .next t) : s.SameButLevels t := by
  rw [execLevelTimeout_eq] at h
  cases h
  exact s.sameButLevels_setLevel ch _

/-! ## O57 -/

/-- Settles O57: the level commands touch their cell, where a refresh ends no stretch, and `exec_keepsHead` has every other command. -/
theorem headstockFrozen : Obligations.HeadstockFrozen := by
  intro c s t htxn hreset hstretch hexec
  change s.SameButLevels t
  by_cases hrefresh : ∃ ch e, c = .levelRefresh ch e
  · obtain ⟨ch, e, rfl⟩ := hrefresh
    exact execLevelRefresh_sameButLevels (fun hphase => hstretch hphase ch e rfl) hexec
  · by_cases htimeout : ∃ ch, c = .levelTimeout ch
    · obtain ⟨ch, rfl⟩ := htimeout
      exact execLevelTimeout_sameButLevels hexec
    · push Not at hrefresh htimeout
      obtain ⟨hh, hr⟩ := exec_keepsHead s htxn hreset hrefresh htimeout t hexec
      exact State.sameButLevels_of_eq hh hr

end Sys2Proof.Machine
end

section
/-! The symbols and messages of the lanes (02 R47 to R60): bytes and codes spell what they were made from; O44. -/

namespace Sys2Proof.Machine

/-! ## Bytes, least significant first (00 R7) -/

@[simp] theorem leBytes_length (k x : Nat) : (leBytes k x).length = k := by
  induction k generalizing x with
  | zero => rfl
  | succ k ih => simp [leBytes, ih]

theorem leNat_leBytes (k x : Nat) : leNat (leBytes k x) = x % 256 ^ k := by
  induction k generalizing x with
  | zero => simp [leBytes, leNat, Nat.mod_one]
  | succ k ih => rw [leBytes, leNat, ih, BitVec.toNat_ofNat, pow_succ' 256 k, Nat.mod_mul]

@[simp] theorem ofNat_leNat_leBytes_two (x : Half) : BitVec.ofNat 16 (leNat (leBytes 2 x.toNat)) = x := by
  simp [leNat_leBytes, BitVec.ofNat_toNat, Nat.mod_eq_of_lt x.isLt]

@[simp] theorem ofNat_leNat_leBytes_four (x : Word) : BitVec.ofNat 32 (leNat (leBytes 4 x.toNat)) = x := by
  simp [leNat_leBytes, BitVec.ofNat_toNat, Nat.mod_eq_of_lt x.isLt]

/-! ## Codes and symbols (02 R47, R49) -/

/-- A data byte's code is neither form of the COMMA's, and a receiver of the sender's disparity takes the byte from it. -/
theorem symOf_code_data (b : Byte) (rd : Bool) :
    ((Sym.data b).code rd).1.toNat ≠ ctlCode .comma false ∧ ((Sym.data b).code rd).1.toNat ≠ ctlCode .comma true
      ∧ symOf ((Sym.data b).code rd).1 rd = some (.data b) := by
  revert b rd
  decide +kernel

/-- A receiver of the sender's disparity takes a symbol from its code, and then has the sender's disparity again. -/
theorem symsOf_code_cons (s : Sym) (rd : Bool) (l : List (BitVec 10)) :
    symsOf rd ((s.code rd).1 :: l) = some s :: symsOf (s.code rd).2 l := by
  cases s with
  | data b =>
    obtain ⟨hneg, hpos, hsym⟩ := symOf_code_data b rd
    simp only [symsOf, if_neg hneg, if_neg hpos, hsym]
  | ctl c => cases c <;> cases rd <;> rfl

/-- A burst is received whole from the disparity it was sent at, whatever follows. -/
theorem symsOf_codesOf_append (l : List Sym) (rd : Bool) (r : List (BitVec 10)) :
    ∃ rd', symsOf rd (codesOf rd l ++ r) = l.map some ++ symsOf rd' r := by
  induction l generalizing rd with
  | nil => exact ⟨rd, rfl⟩
  | cons s l ih =>
    obtain ⟨rd', h⟩ := ih (s.code rd).2
    exact ⟨rd', by rw [codesOf, List.cons_append, symsOf_code_cons, h, List.map_cons, List.cons_append]⟩

theorem symsOf_codesOf (l : List Sym) (rd : Bool) : symsOf rd (codesOf rd l) = l.map some := by
  obtain ⟨rd', h⟩ := symsOf_codesOf_append l rd []
  simpa [symsOf] using h

/-- The COMMA of a burst sets the receiver's disparity, whatever it was (02 R49). -/
theorem symsOf_of_comma (l : List Sym) (rd : Bool) (r : List (BitVec 10)) :
    symsOf rd (codesOf false (.ctl .comma :: l) ++ r) = symsOf false (codesOf false (.ctl .comma :: l) ++ r) := by
  simp only [codesOf, List.cons_append, symsOf]
  rfl

/-- Bursts that each begin with a COMMA are received whole (02 R49). -/
theorem symsOf_bursts (bs : List (List Sym)) (h : ∀ b ∈ bs, ∃ l, b = .ctl .comma :: l) (rd : Bool) :
    symsOf rd (bs.flatMap (codesOf false)) = bs.flatten.map some := by
  induction bs generalizing rd with
  | nil => rfl
  | cons b bs ih =>
    obtain ⟨l, rfl⟩ := h b List.mem_cons_self
    obtain ⟨rd', hl⟩ := symsOf_codesOf_append (.ctl .comma :: l) false (bs.flatMap (codesOf false))
    rw [List.flatMap_cons, symsOf_of_comma, hl, ih (fun b hb => h b (List.mem_cons_of_mem _ hb)), List.flatten_cons, List.map_append]

/-! ## Messages among the symbols (02 R48, R54) -/

/-- The byte of a data symbol. -/
def Sym.byte : Sym → Option Byte
  | .data b => some b
  | .ctl _ => none

/-- A symbol that may stand inside a message: a data byte, or the COMMA of a further burst. -/
def Sym.inner : Sym → Bool
  | .data _ => true
  | .ctl c => c = .comma

theorem catchBody_inner (l : List Sym) (h : ∀ s ∈ l, s.inner = true) :
    catchBody (l.map some ++ [some (.ctl .eof)]) = ⟨(l.filterMap Sym.byte).map some, true⟩ := by
  induction l with
  | nil => rfl
  | cons s l ih =>
    have hs := h s List.mem_cons_self
    have ih := ih (fun s hs => h s (List.mem_cons_of_mem _ hs))
    cases s with
    | data b => simp [catchBody, ih, Sym.byte]
    | ctl c =>
      obtain rfl : c = .comma := of_decide_eq_true hs
      exact ih

/-- COMMAs ahead of a message are passed over. -/
theorem catchMsg_commas (n : Nat) (l : List (Option Sym)) :
    catchMsg ((List.replicate n (Sym.ctl .comma)).map some ++ l) = catchMsg l := by
  induction n with
  | zero => rfl
  | succ n ih => simpa [List.replicate_succ, catchMsg] using ih

/-- The first eight bytes of a message (02 R54). -/
def msgHead (ty flags : Nat) (lseq : Half) (cstr seg n : Nat) : List Byte :=
  [BitVec.ofNat 8 ty, BitVec.ofNat 8 flags] ++ leBytes 2 lseq.toNat ++ leBytes 2 n ++ [BitVec.ofNat 8 cstr, BitVec.ofNat 8 seg]

theorem msgBytes_eq (ty flags : Nat) (lseq : Half) (cstr seg : Nat) (body : List Byte) :
    msgBytes ty flags lseq cstr seg body = msgHead ty flags lseq cstr seg body.length ++ body
      ++ leBytes 4 (crc32c (msgHead ty flags lseq cstr seg body.length ++ body)).toNat := rfl

@[simp] theorem msgHead_length (ty flags : Nat) (lseq : Half) (cstr seg n : Nat) : (msgHead ty flags lseq cstr seg n).length = 8 := rfl

@[simp] theorem msgBytes_length (ty flags : Nat) (lseq : Half) (cstr seg : Nat) (body : List Byte) :
    (msgBytes ty flags lseq cstr seg body).length = body.length + 12 := by
  simp only [msgBytes_eq, List.length_append, msgHead_length, leBytes_length]
  omega

/-- The bytes of a message check good (02 R53, R59, R60). -/
theorem msgDefect_msgBytes (ty flags : Nat) (lseq : Half) (cstr seg : Nat) (body : List Byte) (hb : body.length < 65536) :
    msgDefect ((msgBytes ty flags lseq cstr seg body).map some) = none := by
  have hany : ((msgBytes ty flags lseq cstr seg body).map some).any (·.isNone) = false := by simp
  have hid : ((msgBytes ty flags lseq cstr seg body).map some).filterMap id = msgBytes ty flags lseq cstr seg body := by simp
  have hlen : leNat (((msgBytes ty flags lseq cstr seg body).drop 4).take 2) = body.length :=
    (leNat_leBytes 2 body.length).trans (Nat.mod_eq_of_lt hb)
  have hcrc : (msgBytes ty flags lseq cstr seg body).length - 4 = (msgHead ty flags lseq cstr seg body.length ++ body).length := by
    rw [msgBytes_length, List.length_append, msgHead_length]
    omega
  unfold msgDefect
  dsimp only
  rw [hid, hany, hlen, hcrc, msgBytes_length, msgBytes_eq, List.drop_left, List.take_left, ofNat_leNat_leBytes_four]
  simp

/-- The bytes of a message spell its fields (02 R54). -/
theorem msgOf_msgBytes {ty flags cstr seg : Nat} (lseq : Half) (body : List Byte) (ht : ty < 256) (hf : flags < 256) (hc : cstr < 256)
    (hs : seg < 256) : msgOf (msgBytes ty flags lseq cstr seg body) = ⟨ty, flags, lseq, cstr, seg, body⟩ := by
  have hbody : ((msgBytes ty flags lseq cstr seg body).drop 8).take ((msgBytes ty flags lseq cstr seg body).length - 12) = body := by
    rw [msgBytes_length, Nat.add_sub_cancel, msgBytes_eq, List.append_assoc, List.drop_left' (msgHead_length ..), List.take_left]
  unfold msgOf
  rw [hbody]
  simp only [Msg.mk.injEq, and_true]
  refine ⟨Nat.mod_eq_of_lt ht, Nat.mod_eq_of_lt hf, ofNat_leNat_leBytes_two lseq, Nat.mod_eq_of_lt hc, Nat.mod_eq_of_lt hs⟩

/-- Symbols that, between COMMAs and EOF, hold the bytes of a message that `read` understands are heard as what it reads. -/
theorem hear_good {α : Type} {known : Nat → Bool} {read : Msg → Option α} {codes : List (BitVec 10)} {n : Nat} {start : Ctl}
    {l : List Sym} {ty flags cstr seg : Nat} {lseq : Half} {body : List Byte} {x : α}
    (hsyms : symsOf false codes = (List.replicate n (Sym.ctl .comma) ++ [Sym.ctl start] ++ l ++ [Sym.ctl .eof]).map some)
    (hstart : start = .sof ∨ start = .soi) (hinner : ∀ s ∈ l, s.inner = true)
    (hbytes : l.filterMap Sym.byte = msgBytes ty flags lseq cstr seg body) (ht : ty < 256) (hf : flags < 256) (hc : cstr < 256)
    (hs : seg < 256) (hb : body.length < 65536) (hread : read ⟨ty, flags, lseq, cstr, seg, body⟩ = some x) :
    hear known read codes = .good x := by
  have hcatch : catchMsg (symsOf false codes) = some ⟨(msgBytes ty flags lseq cstr seg body).map some, true⟩ := by
    rw [hsyms, ← hbytes, ← catchBody_inner l hinner, List.append_assoc, List.append_assoc, List.map_append, catchMsg_commas]
    rcases hstart with rfl | rfl <;> simp [catchMsg]
  have hid : ((msgBytes ty flags lseq cstr seg body).map some).filterMap id = msgBytes ty flags lseq cstr seg body := by simp
  unfold hear
  rw [hcatch]
  simp only [Bool.not_true, Bool.false_eq_true, if_false, msgDefect_msgBytes _ _ _ _ _ _ hb, hid, msgOf_msgBytes lseq body ht hf hc hs,
    hread]

/-- Data symbols stand inside a message, and their bytes are what they were made from. -/
theorem inner_data (b : List Byte) : ∀ s ∈ b.map Sym.data, s.inner = true := by
  simp [Sym.inner]

theorem byte_data (b : List Byte) : (b.map Sym.data).filterMap Sym.byte = b := by
  simp [List.filterMap_map, Function.comp_def, Sym.byte]

/-! ## The messages of the H2F lane (02 R49, R51, R55, R56) -/

/-- Every burst of an H2F message begins with a COMMA. -/
theorem H2F.bursts_comma (m : H2F) : ∀ b ∈ m.bursts, ∃ l, b = Sym.ctl .comma :: l := by
  unfold H2F.bursts
  dsimp only
  split
  · split
    · intro b hb
      simp only [List.cons_append, List.nil_append, List.mem_cons, List.mem_append, List.mem_map, List.not_mem_nil, or_false] at hb
      rcases hb with rfl | ⟨x, -, rfl⟩ | rfl
      · exact ⟨_, rfl⟩
      · exact ⟨_, rfl⟩
      · exact ⟨_, rfl⟩
    · simp
  · simp
  · simp

/-- The codes of an H2F message, received unaltered, are its symbols. -/
theorem H2F.symsOf_codes (m : H2F) : symsOf false m.codes = m.bursts.flatten.map some := symsOf_bursts _ m.bursts_comma false

@[simp] theorem headerBytes_length (op : HspOp) (f : Frame) : (headerBytes op f).length = 8 := rfl

theorem opOf_opCode (op : HspOp) : opOf (BitVec.ofNat 8 (opCode op)) = some op := by
  cases op <;> rfl

theorem dispOf_dispCode (d : Disp) : dispOf (BitVec.ofNat 8 (dispCode d)) = d := by
  cases d <;> rfl

/-- The header of a frame spells the frame but for its payload (08 R277). -/
theorem headerFrame_headerBytes (op : HspOp) (f : Frame) (r : List Byte) :
    headerFrame (headerBytes op f ++ r) = { f with payload := [] } := by
  change Frame.mk f.stream f.seq f.flags (BitVec.ofNat 16 (leNat (leBytes 2 f.addr.toNat)))
    (BitVec.ofNat 16 (leNat (leBytes 2 f.len.toNat))) [] = _
  simp only [ofNat_leNat_leBytes_two]

theorem padTo_length (l : List Byte) : padTo l.length l = l := by
  simp [padTo]

/-- The last byte of a body. -/
theorem getD_concat (l : List Byte) (x : Byte) : (l ++ [x]).getD ((l ++ [x]).length - 1) 0 = x := by simp

/-- The payload of a request with its PCRC, as it stands in the message (02 R55). -/
def reqTail (op : HspOp) (f : Frame) (chk : Word) : List Byte := if opPayload op then f.payload ++ leBytes 4 chk.toNat else []

section
variable {op : HspOp} {f : Frame} {chk : Word} {d : Disp} (h : f.payload.length = if opPayload op then f.len.toNat else 0)
include h

theorem reqHspBody_eq : reqHspBody op f chk d = headerBytes op f ++ reqTail op f chk ++ [BitVec.ofNat 8 (dispCode d)] := by
  unfold reqHspBody reqTail
  split
  · next hp => rw [← (h.trans (if_pos hp)), padTo_length]
  · rfl

theorem reqTail_length : (reqTail op f chk).length = if opPayload op then f.len.toNat + 4 else 0 := by
  unfold reqTail
  split
  · next hp => rw [List.length_append, leBytes_length, h, if_pos hp]
  · rfl

theorem reqHspBody_length : (reqHspBody op f chk d).length = 9 + if opPayload op then f.len.toNat + 4 else 0 := by
  rw [reqHspBody_eq h, List.length_append, List.length_append, headerBytes_length, reqTail_length h, List.length_singleton]
  omega

/-- The body of a REQ_HSP spells its request (02 R55, R56). -/
theorem readReqHsp_reqHspBody (c : Nat) (l : Half) (hchk : opPayload op = false → chk = headerCrc op f) :
    readReqHsp ⟨0x01, 0, l, c, 0, reqHspBody op f chk d⟩ = some (.reqHsp c l op f chk d) := by
  have hop : (reqHspBody op f chk d).getD 0 0 = BitVec.ofNat 8 (opCode op) := rfl
  have hframe : headerFrame (reqHspBody op f chk d) = { f with payload := [] } := by
    rw [reqHspBody_eq h, List.append_assoc, headerFrame_headerBytes]
  have hdisp : (reqHspBody op f chk d).getD ((reqHspBody op f chk d).length - 1) 0 = BitVec.ofNat 8 (dispCode d) := by
    rw [reqHspBody_eq h, getD_concat]
  have hdrop : (reqHspBody op f chk d).drop 8 = reqTail op f chk ++ [BitVec.ofNat 8 (dispCode d)] := by
    rw [reqHspBody_eq h, List.append_assoc, List.drop_left' (headerBytes_length op f)]
  unfold readReqHsp
  simp only [hop, opOf_opCode, hframe, hdisp, dispOf_dispCode]
  rw [reqHspBody_length h]
  cases hp : opPayload op with
  | false =>
    have hnil : f.payload = [] := by simpa [hp] using h
    have hf : { f with payload := [] } = f := hnil ▸ rfl
    simp [hf, hchk hp]
  | true =>
    have hlen : f.payload.length = f.len.toNat := by simpa [hp] using h
    have hpay : ((reqHspBody op f chk d).drop 8).take f.len.toNat = f.payload := by
      rw [hdrop, ← hlen]
      simp [reqTail, hp]
    have hpcrc : ((reqHspBody op f chk d).drop (8 + f.len.toNat)).take 4 = leBytes 4 chk.toNat := by
      rw [← List.drop_drop, hdrop, ← hlen]
      simp [reqTail, hp]
    simp [hpay, hpcrc]

end

/-! ## Every message arrives -/

theorem reqHspBody_lt {op : HspOp} {f : Frame} (chk : Word) (d : Disp) (hlen : f.len.toNat ≤ 4096)
    (h : f.payload.length = if opPayload op then f.len.toNat else 0) : (reqHspBody op f chk d).length < 65536 := by
  rw [reqHspBody_length h]
  split <;> omega

/-- The symbols of a REQ_HSP with bytes `b` and `n` bytes of payload between its SOF and its EOF: behind the HSP header a COMMA goes
ahead of each byte of the payload, and of the last ones together (02 R49). -/
def reqHspInner (n : Nat) (b : List Byte) : List Sym :=
  (b.take 16).map .data ++ ((b.drop 16).take (n + 3)).flatMap (fun x => [.ctl .comma, .data x])
    ++ .ctl .comma :: (b.drop (16 + (n + 3))).map .data

theorem reqHspInner_inner (n : Nat) (b : List Byte) : ∀ s ∈ reqHspInner n b, s.inner = true := by
  intro s hs
  simp only [reqHspInner, List.mem_append, List.mem_map, List.mem_flatMap, List.mem_cons, List.not_mem_nil, or_false] at hs
  rcases hs with (⟨x, -, rfl⟩ | ⟨x, -, rfl | rfl⟩) | rfl | ⟨x, -, rfl⟩ <;> rfl

theorem reqHspInner_byte (n : Nat) (b : List Byte) : (reqHspInner n b).filterMap Sym.byte = b := by
  have hsingle : ((b.drop 16).take (n + 3)).flatMap (fun x => [Sym.ctl .comma, .data x].filterMap Sym.byte)
      = (b.drop 16).take (n + 3) := List.flatMap_singleton' _
  have hrest : (b.drop 16).take (n + 3) ++ b.drop (16 + (n + 3)) = b.drop 16 := by
    rw [← List.drop_drop, List.take_append_drop]
  rw [reqHspInner, List.filterMap_append, List.filterMap_append, byte_data, List.filterMap_flatMap, hsingle,
    List.filterMap_cons_none rfl, byte_data, List.append_assoc, hrest, List.take_append_drop]

theorem H2F.bursts_reqHsp_flatten {c : Nat} {l : Half} {op : HspOp} {f : Frame} {chk : Word} {d : Disp} (hp : opPayload op = true) :
    (H2F.reqHsp c l op f chk d).bursts.flatten = List.replicate 1 (Sym.ctl .comma) ++ [Sym.ctl .sof]
      ++ reqHspInner f.len.toNat (H2F.reqHsp c l op f chk d).bytes ++ [Sym.ctl .eof] := by
  have hn : 15 + (f.len.toNat + 4) = 16 + (f.len.toNat + 3) := by omega
  simp [H2F.bursts, hp, reqHspInner, hn, List.flatMap_def, Function.comp_def]

/-- A REQ_HSP arrives as it was sent, with its payload byte by byte in bursts of its own (02 R49). -/
theorem H2F.heard_reqHsp {c : Nat} (l : Half) {op : HspOp} {f : Frame} {chk : Word} (d : Disp) (hc : c < 256)
    (hlen : f.len.toNat ≤ 4096) (h : f.payload.length = if opPayload op then f.len.toNat else 0)
    (hchk : opPayload op = false → chk = headerCrc op f) :
    (H2F.reqHsp c l op f chk d).heard .asSent = .good (.reqHsp c l op f chk d) := by
  have hread : readH2F ⟨0x01, 0, l, c, 0, reqHspBody op f chk d⟩ = some (.reqHsp c l op f chk d) := readReqHsp_reqHspBody h c l hchk
  have hb := reqHspBody_lt chk d hlen h
  have hsyms := H2F.symsOf_codes (.reqHsp c l op f chk d)
  cases hp : opPayload op with
  | false =>
    refine hear_good (n := 1) (start := .sof) (l := (H2F.reqHsp c l op f chk d).bytes.map .data) (hsyms.trans ?_) (.inl rfl)
      (inner_data _) (byte_data _) (by decide) (by decide) hc (by decide) hb hread
    simp [H2F.bursts, hp]
  | true =>
    exact hear_good (n := 1) (start := .sof) (l := reqHspInner f.len.toNat (H2F.reqHsp c l op f chk d).bytes)
      (hsyms.trans (congrArg _ (H2F.bursts_reqHsp_flatten hp))) (.inl rfl) (reqHspInner_inner _ _) (reqHspInner_byte _ _) (by decide)
      (by decide) hc (by decide) hb hread

/-- A REQ_MB arrives as it was sent, whole between SOI and EOF (02 R51). -/
theorem H2F.heard_reqMb {c : Nat} (l : Half) (cmd : Byte) {b : List Byte} (d : Disp) (hc : c < 256) (hb : b.length < 256) :
    (H2F.reqMb c l cmd b d).heard .asSent = .good (.reqMb c l cmd b d) := by
  refine hear_good (n := 1) (start := .soi) (l := (H2F.reqMb c l cmd b d).bytes.map .data)
    ((H2F.symsOf_codes _).trans ?_) (.inr rfl) (inner_data _) (byte_data _) (by decide) (by decide) hc (by decide) ?_ ?_
  · simp [H2F.bursts]
  · simp [reqMbBody]
    omega
  · have hn : (BitVec.ofNat 8 b.length).toNat = b.length := Nat.mod_eq_of_lt hb
    simp [readH2F, reqMbBody, hn, dispOf_dispCode]

/-- A NAK_H arrives as it was sent, without the mark that it was inserted. -/
theorem H2F.heard_nakH {c k r : Nat} (l : Half) (ins : Bool) (hc : c < 256) (hk : k < 256) (hr : r < 256) :
    (H2F.nakH c l k r ins).heard .asSent = .good (.nakH c l k r false) := by
  refine hear_good (n := 1) (start := if ins then .soi else .sof) (l := (H2F.nakH c l k r ins).bytes.map .data)
    ((H2F.symsOf_codes _).trans ?_) ?_ (inner_data _) (byte_data _) (by decide) (by decide) hc hk ?_ ?_
  · simp [H2F.bursts]
  · cases ins <;> simp
  · simp [nakBody]
  · simp [readH2F, nakBody, Nat.mod_eq_of_lt hr]

/-- FLAGS of a segment hold RETX and MORE (02 R54). -/
theorem segFlags (more retx : Bool) : b2n retx + 2 * b2n more < 256 ∧ bitOf (b2n retx + 2 * b2n more) 1 = more
    ∧ bitOf (b2n retx + 2 * b2n more) 0 = retx := by
  revert more retx
  decide

/-- A segment of either type of response arrives as it was sent. -/
theorem F2H.heard_seg (mb : Bool) {c k : Nat} (l : Half) (more retx : Bool) {b : List Byte} (hc : c < 256) (hk : k < 256)
    (hb : b.length < 65536) : (F2H.seg mb c l k more retx b).heard .asSent = .good (.seg mb c l k more retx b) := by
  refine hear_good (n := 8) (start := .sof) (l := (F2H.seg mb c l k more retx b).bytes.map .data)
    (symsOf_codesOf _ _) (.inl rfl) (inner_data _) (byte_data _) ?_ (segFlags more retx).1 hc hk hb ?_
  · cases mb <;> decide
  · obtain ⟨-, hmore, hretx⟩ := segFlags more retx
    cases mb <;> simp [readF2H, hmore, hretx]

/-- A NAK_F arrives as it was sent, naming a request unless its CSTR is 0xFF (02 R63). -/
theorem F2H.heard_nakF {hdr : Bool} {c r : Nat} (l : Half) (hc : c < 256) (hr : r < 256) (hh : hdr = (c != 0xFF)) :
    (F2H.nakF hdr c l r).heard .asSent = .good (.nakF hdr c l r) := by
  refine hear_good (n := 8) (start := .sof) (l := (F2H.nakF hdr c l r).bytes.map .data)
    (symsOf_codesOf _ _) (.inl rfl) (inner_data _) (byte_data _) (by decide) (by decide) hc (by decide) ?_ ?_
  · simp [nakBody]
  · simp [readF2H, nakBody, Nat.mod_eq_of_lt hr, hh]

/-- Settles O44: each type of message has the symbols that `hear_good` asks for, COMMAs apart its own bytes, and a body that spells it. -/
theorem messagesArrive : Obligations.MessagesArrive :=
  ⟨fun _ l _ _ _ d hc hlen h hchk => H2F.heard_reqHsp l d hc hlen h hchk, fun _ l cmd _ d hc hb => H2F.heard_reqMb l cmd d hc hb,
    fun _ l _ _ ins hc hk hr => H2F.heard_nakH l ins hc hk hr,
    fun mb _ l _ more retx _ hc hk hb => F2H.heard_seg mb l more retx hc hk hb,
    fun _ _ l _ hc hr hh => F2H.heard_nakF l hc hr hh⟩

end Sys2Proof.Machine
end

section
/-! Registers read after a write, whatever the form of the register map; latches that stay set. -/

namespace Sys2Proof.Machine

/-! ## Sparse maps -/

theorem smGet_smIns_self {α : Type} (d : Nat → α) (m : SMap α) (k : Nat) (v : α) : smGet d (smIns m k v) k = v := by
  induction m with
  | nil => simp [smIns, smGet]
  | cons e m ih =>
    obtain ⟨a, w⟩ := e
    simp only [smIns]
    split
    · simp [smGet]
    · split
      · simp [smGet]
      · next hne => simp [smGet, hne, ih]

/-- A key reads as written, whatever the form of the map. -/
theorem smGet_smSet_self {α : Type} [DecidableEq α] (d : Nat → α) (m : SMap α) (k : Nat) (v : α) : smGet d (smSet d m k v) k = v := by
  unfold smSet
  split
  · next h => rw [smGet_smDel, if_pos rfl, h]
  · exact smGet_smIns_self d m k v

/-! ## Fields of the field side's registers -/

theorem satInc_mod (w a : Nat) : satInc w a % 2 ^ w = satInc w a := by
  have := Nat.two_pow_pos w
  exact Nat.mod_eq_of_lt (by unfold satInc; omega)

section
variable {f g : Fd}

theorem Tail.word_p (t : Tail) (x : Nat) : (t.p f x).word f.addr = fdPut f x (t.word f.addr) := smGet_smSet_self _ _ _ _

theorem Tail.word_p_ne (t : Tail) (x : Nat) {a : Nat} (h : a ≠ f.addr) : (t.p f x).word a = t.word a :=
  Tail.setWord_word_ne t f.addr a _ h

/-- A field reads as written. -/
theorem Tail.g_p (t : Tail) (x : Nat) (h : f.ok) : (t.p f x).g f = x % 2 ^ f.width := by
  rw [Tail.g, Tail.word_p, fdGet_fdPut f h]

/-- A field of another register reads as before. -/
theorem Tail.g_p_ne (t : Tail) (x : Nat) (h : g.addr ≠ f.addr) : (t.p f x).g g = t.g g := by
  rw [Tail.g, Tail.word_p_ne t x h]
  rfl

/-- A field of another register, or one that shares no bit with the one written, reads as before. -/
theorem Tail.g_p_apart (t : Tail) (x : Nat) (hf : f.ok) (hg : g.ok) (h : g.addr ≠ f.addr ∨ f.apart g) : (t.p f x).g g = t.g g := by
  by_cases ha : g.addr = f.addr
  · rw [Tail.g, ha, Tail.word_p, fdGet_fdPut_apart f g hf hg (h.resolve_left (absurd ha)), ← ha]
    rfl
  · exact t.g_p_ne x ha

/-- A counter reads one more, saturating. -/
theorem Tail.g_inc (t : Tail) (h : f.ok) : (t.inc f).g f = satInc f.width (t.g f) := by
  rw [Tail.inc_eq, t.g_p _ h, satInc_mod]

end

/-! ## Latches (00 R11) -/

/-- A latch reads as its register does. -/
theorem Tail.evtBit_of_word {t r : Tail} {p : Nat} (h : r.word (PG_EVT.EVT p).addr = t.word (PG_EVT.EVT p).addr) (i : Nat) :
    r.evtBit p i = t.evtBit p i := by
  unfold Tail.evtBit Tail.g
  rw [h]

theorem testBit_setBit (x i j : Nat) : (setBit x i true).testBit j = (x.testBit j || decide (i = j)) := by
  simp [setBit, Nat.one_shiftLeft, Nat.testBit_two_pow]

theorem PG_EVT_ok (p : Nat) : (PG_EVT.EVT p).ok := ⟨Nat.zero_le 31, Nat.lt_succ_self 31⟩

/-- Setting a latch of a page leaves the page's other latches. -/
theorem Tail.evtBit_setLatch (t : Tail) (p i : Nat) {j : Nat} (h : j < 32) :
    (t.p (PG_EVT.EVT p) (setBit (t.g (PG_EVT.EVT p)) i true)).evtBit p j = (t.evtBit p j || decide (i = j)) := by
  unfold Tail.evtBit
  rw [t.g_p _ (PG_EVT_ok p)]
  change (setBit _ i true % 2 ^ 32).testBit j = _
  rw [Nat.testBit_mod_two_pow, testBit_setBit]
  simp [h]

theorem Tail.evtBit_lt {t : Tail} {p i : Nat} (h : t.evtBit p i = true) : i < 32 := by
  by_contra hi
  have hlt : t.g (PG_EVT.EVT p) < 2 ^ i := Nat.lt_of_lt_of_le (BitVec.isLt _) (Nat.pow_le_pow_right (by decide) (Nat.le_of_not_lt hi))
  exact absurd (h.symm.trans (Nat.testBit_lt_two_pow hlt)) (by decide)

/-- The latch of an event is set after it. -/
theorem Tail.evtV_sets (t : Tail) (p : Nat) {i : Nat} (v : Option Word) (h : i < 32) : (t.evtV p i v).evtBit p i = true := by
  unfold Tail.evtV
  split
  · assumption
  · exact (t.evtBit_setLatch p i h).trans (by simp)

theorem Tail.evt_sets (t : Tail) (p : Nat) {i : Nat} (h : i < 32) : (t.evt p i).evtBit p i = true := t.evtV_sets p none h

/-- Every latch that is set in `t` is set in `r`. -/
def Tail.KeepsLatches (t r : Tail) : Prop := ∀ p i, t.evtBit p i = true → r.evtBit p i = true

section
variable {o t : Tail}

theorem Tail.KeepsLatches.refl (t : Tail) : t.KeepsLatches t := fun _ _ h => h

/-- The registers are the same. -/
theorem Tail.KeepsLatches.of_regs {r : Tail} (h : o.KeepsLatches t) (hu : r.u = t.u) (hr : r.regs = t.regs) : o.KeepsLatches r :=
  fun p i hp => (Tail.evtBit_of_word (by unfold Tail.word; rw [hu, hr]) i).trans (h p i hp)

/-- A register that is no latch is written. -/
theorem Tail.KeepsLatches.setWord {a : Nat} (w : Word) (ha : notLatch a = true) (h : o.KeepsLatches t) :
    o.KeepsLatches (t.setWord a w) := by
  intro p i hp
  have hne : (PG_EVT.EVT p).addr ≠ a := fun e => by rw [← e, notLatch_evt] at ha; exact absurd ha (by decide)
  exact (Tail.evtBit_of_word (Tail.setWord_word_ne t a _ w hne) i).trans (h p i hp)

theorem Tail.KeepsLatches.p {f : Fd} (x : Nat) (hf : notLatch f.addr = true) (h : o.KeepsLatches t) : o.KeepsLatches (t.p f x) :=
  h.setWord _ hf

theorem Tail.KeepsLatches.evtV (p i : Nat) (v : Option Word) (h : o.KeepsLatches t) : o.KeepsLatches (t.evtV p i v) := by
  unfold Tail.evtV
  split
  · exact h
  · intro q j hj
    by_cases hq : q = p
    · subst hq
      have hset := t.evtBit_setLatch q i (Tail.evtBit_lt hj)
      exact hset.trans (by simp [h q j hj])
    · have hne : (PG_EVT.EVT q).addr ≠ (PG_EVT.EVT p).addr := by
        simp only [PG_EVT.EVT]
        omega
      exact (Tail.evtBit_of_word (Tail.setWord_word_ne t _ _ _ hne) j).trans (h q j hj)

theorem Tail.KeepsLatches.evt (p i : Nat) (h : o.KeepsLatches t) : o.KeepsLatches (t.evt p i) := h.evtV p i none

end

end Sys2Proof.Machine
end

section
/-! What a record does to the field side, step by step: a property that each step keeps, a record keeps. -/

namespace Sys2Proof.Machine

/-- The fields that count and log the reads of bad words (07 R246, R249). -/
def readFields : List Fd :=
  [CSA_CORR.COUNT, CSA_CORR.WB_DROP, CSA_UNCORR.POISON_RD, CSA_UNCORR.DETECT, CSA_ELOG.SYND, CSA_ELOG.TYPE, CSA_ELOG.ADDR]

/-- `P` is kept by each step that a record may consist of: a change of the store, a latch, a count of a bad word, the loss of a
stream's descriptor. -/
structure Tail.RecordKeeps (P : Tail → Prop) : Prop where
  store : ∀ (t : Tail) (s : Store), P t → P { t with store := s }
  latch : ∀ (t : Tail) (p i : Nat) (v : Option Word), P t → P (t.evtV p i v)
  count : ∀ (t : Tail) (f : Fd) (x : Nat), f ∈ readFields → P t → P (t.p f x)
  desc : ∀ (t : Tail) (k : Nat), k < 256 → P t → P (t.descLost k)

section
variable {P : Tail → Prop} (hP : Tail.RecordKeeps P)
include hP

/-! ## Reads and writes of a descriptor's words in the system area -/

theorem Tail.RecordKeeps.elog {t : Tail} (a s ty : Nat) (h : P t) : P (t.elog a s ty) :=
  hP.count _ _ _ (by decide) (hP.count _ _ _ (by decide) (hP.count _ _ _ (by decide) h))

theorem Tail.RecordKeeps.wbMap {t : Tail} (b : Fin 8) (g : List WbEntry → List WbEntry) (h : P t) : P (t.wbMap b g) :=
  hP.store t _ h

theorem Tail.RecordKeeps.countRead {t : Tail} (a s : Nat) (c : EccClass) (h : P t) : P (t.countRead a s c) := by
  cases c with
  | good => exact h
  | corrected => exact hP.latch _ _ _ _ (hP.elog _ _ _ (hP.count _ CSA_CORR.COUNT _ (by decide) h))
  | poisoned => exact hP.elog _ _ _ (hP.count _ CSA_UNCORR.POISON_RD _ (by decide) h)
  | uncorrectable => exact hP.latch _ _ _ _ (hP.elog _ _ _ (hP.count _ CSA_UNCORR.DETECT _ (by decide) h))

theorem Tail.RecordKeeps.queueCorrection {t : Tail} (a : Nat) (w : StoreWord) (h : P t) : P (t.queueCorrection a w) := by
  unfold Tail.queueCorrection
  dsimp only
  repeat' split
  · exact h
  · exact hP.wbMap _ _ h
  · exact hP.count _ CSA_CORR.WB_DROP _ (by decide) h

theorem Tail.RecordKeeps.queuePoison {t : Tail} (a : Nat) (w : StoreWord) (h : P t) : P (t.queuePoison a w) := by
  unfold Tail.queuePoison
  dsimp only
  repeat' split
  · exact hP.wbMap _ _ h
  · exact h
  · exact hP.count _ CSA_CORR.WB_DROP _ (by decide) (hP.wbMap _ _ h)

theorem Tail.RecordKeeps.sysClear {t : Tail} (a : Nat) (h : P t) : P (t.sysClear a) := hP.wbMap _ _ (hP.store t _ h)

omit hP in
/-- The loss of a descriptor's word is the loss of the descriptor (07 R251). -/
theorem Tail.sysLost_of_descWord (t : Tail) {a : Nat} (h : descWord a) :
    ∃ k, k < 256 ∧ t.sysLost a = (t.descLost k).evtV 0x07 5 (some (BitVec.ofNat 32 a)) := by
  have hx : (a - sysWord) % sysCopy = a - sysWord := by unfold descWord sysWord at h; unfold sysWord sysCopy; omega
  unfold descWord at h
  refine ⟨(a - sysWord - 0x2000) / 2, by omega, ?_⟩
  unfold Tail.sysLost
  simp only [hx, if_neg (show ¬ a - sysWord < 0x2000 by omega), if_pos (show a - sysWord < 0x2200 by omega)]

theorem Tail.RecordKeeps.sysLost {t : Tail} {a : Nat} (ha : descWord a) (h : P t) : P (t.sysLost a) := by
  obtain ⟨k, hk, e⟩ := t.sysLost_of_descWord ha
  rw [e]
  exact hP.latch _ _ _ _ (hP.desc _ _ hk h)

theorem Tail.RecordKeeps.sysRead {t : Tail} {a : Nat} (ha : descWord a) (h : P t) : P (t.sysRead a) := by
  unfold Tail.sysRead
  dsimp only
  split
  · exact h
  · exact hP.queueCorrection _ _ (hP.countRead _ _ _ h)
  · split
    · split
      · exact hP.countRead _ _ _ h
      · exact hP.queuePoison _ _ (hP.countRead _ _ _ h)
    · split
      · exact hP.latch _ _ _ _ (hP.sysClear _ (hP.countRead _ _ _ (hP.countRead _ _ _ h)))
      · exact hP.latch _ _ _ _ (hP.queueCorrection _ _ (hP.sysClear _ (hP.countRead _ _ _ (hP.countRead _ _ _ h))))
      · exact hP.sysLost ha (hP.sysClear _ (hP.sysClear _ (hP.countRead _ _ _ (hP.countRead _ _ _ h))))

theorem Tail.RecordKeeps.descRead {t : Tail} {k : Nat} (hk : k < 256) (h : P t) : P (t.sysReads (descX k) 2) := by
  refine List.foldlRecOn _ _ h fun r hr a ha => hP.sysRead ?_ hr
  have := (List.mem_filter.mp ha).2
  simp only [Bool.and_eq_true, decide_eq_true_eq] at this
  unfold descX at this
  unfold descWord
  omega

theorem Tail.RecordKeeps.sysWrites {t : Tail} (x n : Nat) (h : P t) : P (t.sysWrites x n) :=
  List.foldlRecOn _ _ h fun _ hr a _ => hP.sysClear a hr

/-! ## Records -/

theorem Tail.RecordKeeps.sstMap {t : Tail} (k : Nat) (g : StreamSt → StreamSt) (h : P t) : P (t.sstMap k g) := hP.store t _ h

theorem Tail.RecordKeeps.ringWrite (k : Nat) (ws : List Nat) : ∀ {t : Tail} (pos : Nat), P t → P (t.ringWrite k pos ws) := by
  induction ws with
  | nil => exact fun _ h => h
  | cons w ws ih => exact fun pos h => ih _ (hP.wbMap _ _ (hP.store _ _ h))

theorem Tail.RecordKeeps.pushRec {t : Tail} (k kind words len : Nat) (d : Bool) (h : P t) : P (t.pushRec k kind words len d) := by
  unfold Tail.pushRec
  exact hP.sstMap _ _ h

theorem Tail.RecordKeeps.wmUpdate {t : Tail} (k : Nat) (h : P t) : P (t.wmUpdate k) := by
  unfold Tail.wmUpdate
  dsimp only
  split
  · exact hP.latch _ _ _ _ (hP.sstMap _ _ h)
  · exact hP.sstMap _ _ h

theorem Tail.RecordKeeps.lose {t : Tail} (k c : Nat) (h : P t) : P (t.lose k c) := hP.latch _ _ _ _ (hP.sstMap _ _ h)

theorem Tail.RecordKeeps.putRec {t : Tail} (k : Nat) (r : HeldRec) (h : P t) : P (t.putRec k r) := by
  unfold Tail.putRec
  extract_lets _ _ _ _ _ t1 _ t2 t3 t4 t5
  have h1 : P t1 := by
    unfold t1
    split
    · exact hP.sstMap _ _ h
    · exact h
  have h2 : P t2 := by
    unfold t2
    split
    · exact h1
    · exact hP.pushRec _ _ _ _ _ (hP.ringWrite _ _ _ h1)
  have h3 : P t3 := by
    unfold t3
    split
    · exact hP.pushRec _ _ _ _ _ (hP.ringWrite _ _ _ h2)
    · exact h2
  exact hP.wmUpdate _ (hP.sstMap _ _ (hP.pushRec _ _ _ _ _ (hP.ringWrite _ _ _ h3)))

theorem Tail.RecordKeeps.makeRoom {t : Tail} (k n : Nat) (h : P t) : P (t.makeRoom k n) := by
  unfold Tail.makeRoom
  extract_lets _ _ _
  split
  dsimp only
  split
  · exact hP.sstMap _ _ h
  · exact hP.lose _ _ (hP.sstMap _ _ h)

theorem Tail.RecordKeeps.holdRec {t : Tail} (k : Nat) (r : HeldRec) (h : P t) : P (t.holdRec k r).2 := by
  unfold Tail.holdRec
  split
  · exact hP.lose _ _ h
  · dsimp only
    exact hP.sstMap _ _ h

/-- However an append ends (06 R212). -/
theorem Tail.RecordKeeps.appendAs {t : Tail} (w : Producer) (k : Nat) (r : HeldRec) (h : P t) : P (t.appendAs w k r).2 := by
  unfold Tail.appendAs
  dsimp only
  repeat' split
  · exact h
  · exact hP.holdRec _ _ h
  · exact hP.putRec _ _ h
  · exact hP.putRec _ _ (hP.makeRoom _ _ h)
  · exact h
  · exact hP.holdRec _ _ h
  · exact hP.lose _ _ h

/-- A record of any producer for a stream keeps what each of its steps keeps. -/
theorem Tail.RecordKeeps.record {t : Tail} (w : Producer) {k : Nat} (hk : k < 256) (kind : Nat) (v : Bool) (d : List Byte) (h : P t) :
    P (t.record w k kind v d) := by
  unfold Tail.record Tail.append Tail.appendRec
  split
  · exact h
  · have ha := hP.appendAs w k ⟨k, kind, v, false, d⟩ (hP.descRead hk h)
    dsimp only
    split
    · exact hP.sysWrites _ _ ha
    · exact ha

end

/-- A record clears no latch. -/
theorem Tail.recordKeeps_latches (o : Tail) : Tail.RecordKeeps o.KeepsLatches where
  store _ _ h := h.of_regs rfl rfl
  latch _ p i v h := h.evtV p i v
  count _ f x hf h := h.p x (by revert f; decide)
  desc _ k hk h := (h.setWord _ (by revert k; decide +kernel)).of_regs rfl rfl

end Sys2Proof.Machine
end

section
/-! Training of the link, RETRAIN and the clear of its counters (02 sections 5 and 8); O48. -/

namespace Sys2Proof.Machine

/-! ## Fields at their reset values -/

/-- A register of which no field is restored reads as before. -/
theorem Tail.restore_word (t : Tail) (fs : List Fd) (a : Nat) (h : ∀ f ∈ fs, a ≠ f.addr) : (t.restore fs).word a = t.word a :=
  List.foldlRecOn (motive := fun r : Tail => r.word a = t.word a) fs _ rfl (fun r hr f hf => (r.word_p_ne _ (h f hf)).trans hr)

@[simp] theorem Tail.restore_ssn (t : Tail) (fs : List Fd) : (t.restore fs).ssn = t.ssn :=
  List.foldlRecOn (motive := fun r : Tail => r.ssn = t.ssn) fs _ rfl (fun _ hr _ _ => hr)

/-- A restored field reads its reset value, if none that is restored after it shares a bit with it. -/
theorem Tail.restore_g {fs : List Fd} (hok : ∀ f ∈ fs, f.ok) (hap : fs.Pairwise fun f g => f.addr ≠ g.addr ∨ g.apart f) (t : Tail)
    {f : Fd} (hf : f ∈ fs) : (t.restore fs).g f = fdGet f (regDefault t.u f.addr) % 2 ^ f.width := by
  induction fs generalizing t with
  | nil => exact absurd hf List.not_mem_nil
  | cons e fs ih =>
    obtain ⟨hap, haps⟩ := List.pairwise_cons.mp hap
    have hoks : ∀ f ∈ fs, f.ok := fun f hf => hok f (List.mem_cons_of_mem _ hf)
    have hoke := hok e List.mem_cons_self
    change ((t.p e (fdGet e (regDefault t.u e.addr))).restore fs).g f = _
    rcases List.mem_cons.mp hf with rfl | hf
    · have hrest : ∀ (r : Tail), (r.restore fs).g f = r.g f := fun r =>
        List.foldlRecOn (motive := fun q : Tail => q.g f = r.g f) fs _ rfl
          (fun q hq g hg => (q.g_p_apart _ (hoks g hg) hoke (hap g hg)).trans hq)
      rw [hrest, Tail.g_p _ _ hoke]
    · exact ih hoks haps _ hf

/-! ## Training (02 section 5): O48 -/

/-- The fields that CNT_CLR clears (02 R88). -/
def linkCounters : List Fd := [BLNK_ERR.RX_OTHER, BLNK_ERR.RX_CRC, BLNK_RETX.NAK_TX, BLNK_RETX.NAK_RX, BLNK_SEQ.SEQ_GAP]

theorem linkCounters_default (u : UnitInfo) : ∀ f ∈ linkCounters, fdGet f (regDefault u f.addr) = 0 := by
  have h : ∀ f ∈ linkCounters, strdCfgAt f.addr = none ∧ fdGet f ((regFields f.addr).foldl (fun w f => fdPut f f.rst w) 0) = 0 := by
    decide +kernel
  intro f hf
  obtain ⟨hs, hd⟩ := h f hf
  unfold regDefault
  rw [hs]
  exact hd

theorem Tail.restore_linkCounters (t : Tail) : ∀ f ∈ linkCounters, (t.restore linkCounters).g f = 0 := by
  intro f hf
  rw [Tail.restore_g (by decide) (by decide) t hf, linkCounters_default t.u f hf, Nat.zero_mod]

/-- A write of RETRAIN asks for a training run (02 R75). -/
theorem Tail.hookBlnk_retrain (t : Tail) :
    t.hookBlnk (Wr.one BLNK_CTRL.RETRAIN.addr 1) = { t with link := { t.link with retrain := true } } := by
  have hsrst : (Wr.one BLNK_CTRL.RETRAIN.addr 1).srst = false := by decide
  have hclr : (Wr.one BLNK_CTRL.RETRAIN.addr 1).cmd BLNK_CTRL.CNT_CLR = 0 := by decide
  have hretrain : (Wr.one BLNK_CTRL.RETRAIN.addr 1).cmd BLNK_CTRL.RETRAIN = 1 := by decide
  unfold Tail.hookBlnk
  rw [hsrst, hclr, hretrain]
  rfl

/-- A write of CNT_CLR restores the counters (02 R88). -/
theorem Tail.hookBlnk_cntClr (t : Tail) : t.hookBlnk (Wr.one BLNK_CTRL.CNT_CLR.addr 2) = t.restore linkCounters := by
  have hsrst : (Wr.one BLNK_CTRL.CNT_CLR.addr 2).srst = false := by decide
  have hclr : (Wr.one BLNK_CTRL.CNT_CLR.addr 2).cmd BLNK_CTRL.CNT_CLR = 1 := by decide
  have hretrain : (Wr.one BLNK_CTRL.CNT_CLR.addr 2).cmd BLNK_CTRL.RETRAIN = 0 := by decide
  unfold Tail.hookBlnk
  rw [hsrst, hclr, hretrain]
  rfl

/-- A command of the field side alone settles with what it makes of the field side. -/
theorem settles_of_tail {c : Instr} {s : State} {t : Tail} (f : Tail → Tail) (hexec : exec c s = tailNext s f)
    (h : f s.fs = t.finish) : Settles c s t := by
  unfold Settles Does
  rw [hexec, ← h]
  rfl

theorem linkTrained_settles (s : State) (h : s.fs.trains = true) :
    Settles .linkTrained s { s.fs.elapseTo (s.fs.link.trainAt + bootT4) with
      link := { s.fs.link with ready := true, trainFail := false }, boot := { s.fs.boot with t4 := true } } :=
  settles_of_tail _ rfl (if_pos h)

theorem trainFail_settles (s : State) (h : s.fs.trains = true ∨ s.fs.aon.wakePend = true ∧ s.fs.pd 2 = true ∧ s.fs.us = .sleep) :
    Settles .trainFail s (Tail.evt { s.fs with link := { s.fs.link with trainFail := true } } 0x03 3) :=
  settles_of_tail _ rfl (if_pos (by simpa [and_assoc] using h))

theorem trainingRetry_settles (s : State) (ht : s.fs.trains = true) (hf : s.fs.link.trainFail = true) :
    Settles .trainingRetry s (Tail.inc { s.fs.elapse 400000000 with link := { s.fs.link with trainAt := s.fs.now + 400000000 } }
      BLNK_STAT.TRAIN_CNT) :=
  settles_of_tail _ rfl (if_pos (by simp [ht, hf]))

theorem retrain_settles (s : State) (h : s.fs.on 3 = true) :
    Settles .retrain s (s.fs.commit (fun t => { t with link := { t.link with retrain := true } })) :=
  settles_of_tail _ rfl ((if_pos h).trans (by simp only [Tail.hookBlnk_retrain]))

/-- A training run begins once every response has been sent (02 R75). -/
theorem retrainEffect_settles (s : State) (hlane : s.f2h = []) (hretrain : s.fs.link.retrain = true) (hrsps : s.fs.link.rsps = [])
    (hprio : s.fs.link.prio = []) :
    Settles .retrainEffect s { s.fs.inc BLNK_STAT.TRAIN_CNT with link := { s.fs.link.untrain with trainAt := s.fs.now } } :=
  settles_of_tail _ (if_pos hlane) (if_pos (by simp [hretrain, hrsps, hprio]))

theorem Link.untrain_openMsg (l : Link) : l.untrain.openMsg ≠ .open := by
  unfold Link.untrain
  dsimp only
  split
  · decide
  · assumption

theorem blnkCntClr_settles (s : State) (h : s.fs.on 3 = true) :
    Settles .blnkCntClr s (s.fs.commit (fun t => t.restore linkCounters)) :=
  settles_of_tail _ rfl ((if_pos h).trans (by simp only [Tail.hookBlnk_cntClr]))

/-- What a commit leaves is what is done under it: the latches alone take its number. -/
theorem Tail.commit_ssn (t : Tail) (f : Tail → Tail) : (t.commit f).ssn = (f { t with ssn := t.ssn + 1 }).ssn := rfl
theorem Tail.commit_word (t : Tail) (f : Tail → Tail) (a : Nat) : (t.commit f).word a = (f { t with ssn := t.ssn + 1 }).word a := rfl
theorem Tail.commit_g (t : Tail) (f : Tail → Tail) (x : Fd) : (t.commit f).g x = (f { t with ssn := t.ssn + 1 }).g x := rfl

/-- CNT_CLR is a commit that clears the link's counters and no other register (02 R88). -/
theorem blnkCntClr_clears (s : State) (h : s.fs.on 3 = true) :
    ∃ t : Tail, Settles .blnkCntClr s t ∧ t.ssn = s.fs.ssn + 1 ∧ (∀ f ∈ linkCounters, t.g f = 0)
      ∧ (∀ a, a ≠ BLNK_ERR.RX_OTHER.addr → a ≠ BLNK_RETX.NAK_TX.addr → a ≠ BLNK_SEQ.SEQ_GAP.addr → t.word a = s.fs.word a) := by
  refine ⟨_, blnkCntClr_settles s h, ?_, fun f hf => ?_, fun a herr hretx hseq => ?_⟩
  · rw [Tail.commit_ssn, Tail.restore_ssn]
  · rw [Tail.commit_g, Tail.restore_linkCounters _ f hf]
  · have hne : ∀ f ∈ linkCounters, a ≠ f.addr := by
      simp only [linkCounters, List.forall_mem_cons]
      exact ⟨herr, herr, hretx, hretx, hseq, List.forall_mem_nil _⟩
    rw [Tail.commit_word, Tail.restore_word _ _ a hne]
    rfl

/-- Settles O48: each command's effect stands behind its condition, and the counters are the fields that `Tail.restore` restores. -/
theorem linkTraining : Obligations.LinkTraining := by
  refine ⟨linkTrained_settles, trainFail_settles, trainingRetry_settles, retrain_settles, fun s hlane hretrain hrsps hprio => ?_,
    blnkCntClr_clears⟩
  exact ⟨_, retrainEffect_settles s hlane hretrain hrsps hprio, rfl, rfl, rfl, s.fs.g_inc (by decide), s.fs.link.untrain_openMsg⟩

end Sys2Proof.Machine
end

section
/-! The end of the host's presence (02 R62, R84, 23 R801) and the level channels (02 section 6); O47. -/

namespace Sys2Proof.Machine

/-! ## What the end of the host's presence leaves of the link -/

/-- `r` has the link, the time and the session of `t`, and every latch that is set in `t`. -/
structure Tail.KeepsLink (t r : Tail) : Prop where
  link : r.link = t.link
  now : r.now = t.now
  sess : r.sess = t.sess
  latches : t.KeepsLatches r

section
variable {o t : Tail}

theorem Tail.KeepsLink.refl (t : Tail) : t.KeepsLink t := ⟨Eq.refl _, Eq.refl _, Eq.refl _, .refl t⟩

theorem Tail.KeepsLink.trans {r : Tail} (h : o.KeepsLink t) (h' : t.KeepsLink r) : o.KeepsLink r :=
  ⟨h'.link.trans h.link, h'.now.trans h.now, h'.sess.trans h.sess, fun p i hp => h'.latches p i (h.latches p i hp)⟩

/-- What else changes is neither the link nor the registers. -/
theorem Tail.KeepsLink.of {r : Tail} (h : o.KeepsLink t) (hl : r.link = t.link) (hn : r.now = t.now) (hs : r.sess = t.sess)
    (hu : r.u = t.u) (hr : r.regs = t.regs) : o.KeepsLink r :=
  ⟨hl.trans h.link, hn.trans h.now, hs.trans h.sess, h.latches.of_regs hu hr⟩

theorem Tail.KeepsLink.ssn (n : Word) (h : o.KeepsLink t) : o.KeepsLink { t with ssn := n } := h.of rfl rfl rfl rfl rfl
theorem Tail.KeepsLink.us (us : UnitSt) (h : o.KeepsLink t) : o.KeepsLink { t with us := us } := h.of rfl rfl rfl rfl rfl
theorem Tail.KeepsLink.emg (e : Emg) (h : o.KeepsLink t) : o.KeepsLink { t with emg := e } := h.of rfl rfl rfl rfl rfl
theorem Tail.KeepsLink.grpMap (g : Fin 2) (f : Grp → Grp) (h : o.KeepsLink t) : o.KeepsLink (t.grpMap g f) := h.of rfl rfl rfl rfl rfl
theorem Tail.KeepsLink.sqMap (n : Stn) (f : Sq → Sq) (h : o.KeepsLink t) : o.KeepsLink (t.sqMap n f) := h.of rfl rfl rfl rfl rfl

theorem Tail.KeepsLink.p {f : Fd} (x : Nat) (hf : notLatch f.addr = true) (h : o.KeepsLink t) : o.KeepsLink (t.p f x) :=
  ⟨h.link, h.now, h.sess, h.latches.p x hf⟩

theorem Tail.KeepsLink.evtV (p i : Nat) (v : Option Word) (h : o.KeepsLink t) : o.KeepsLink (t.evtV p i v) :=
  ⟨(t.evtV_link p i v).trans h.link, (t.evtV_now p i v).trans h.now, (t.evtV_sess p i v).trans h.sess, h.latches.evtV p i v⟩

theorem Tail.KeepsLink.evt (p i : Nat) (h : o.KeepsLink t) : o.KeepsLink (t.evt p i) := h.evtV p i none

/-- A record touches none of it. -/
theorem Tail.recordKeeps_keepsLink (o : Tail) : Tail.RecordKeeps o.KeepsLink where
  store _ _ h := h.of rfl rfl rfl rfl rfl
  latch _ p i v h := h.evtV p i v
  count t f x hf h := ⟨h.link, h.now, h.sess, (Tail.recordKeeps_latches o).count t f x hf h.latches⟩
  desc t k hk h := ⟨h.link, h.now, h.sess, (Tail.recordKeeps_latches o).desc t k hk h.latches⟩

theorem Tail.KeepsLink.commitOn (k : Nat) {f : Tail → Tail} (h : o.KeepsLink (f { t with ssn := t.ssn + 1 })) :
    o.KeepsLink (t.commitOn k f) := by
  unfold Tail.commitOn Tail.commitAny
  dsimp only
  split
  · exact h.ssn _
  · exact h.of rfl rfl rfl rfl rfl

theorem Tail.KeepsLink.grpLinkLoss (g : Fin 2) (ecl : Bool) (h : o.KeepsLink t) : o.KeepsLink (t.grpLinkLoss g ecl) := by
  have hf : notLatch (PCHG_GSTAT.CAUSE g.val).addr = true := by revert g; decide
  unfold Tail.grpLinkLoss
  dsimp only
  split
  · exact (h.grpMap g _).p _ hf
  · exact h

theorem Tail.KeepsLink.grpsLinkLoss (ecl : Bool) (h : o.KeepsLink t) :
    o.KeepsLink ((List.finRange 2).foldl (fun t (g : Fin 2) => t.grpLinkLoss g ecl) t) :=
  List.foldlRecOn _ _ h fun _ hr g _ => hr.grpLinkLoss g ecl

theorem Tail.KeepsLink.setUnit (us : UnitSt) (h : o.KeepsLink t) : o.KeepsLink (t.setUnit us) := by
  unfold Tail.setUnit
  split
  · exact h
  · exact ((h.p _ (by decide)).p _ (by decide)).us us

theorem Tail.KeepsLink.declareEclipse (h : o.KeepsLink t) : o.KeepsLink t.declareEclipse := by
  have hdecl : o.KeepsLink ((Tail.evt { t with emg := { t.emg with declared := true } } 0x24 0).inc EMG_CNT.ECLIPSES) :=
    ((h.emg _).evt _ _).p _ (by decide)
  unfold Tail.declareEclipse
  dsimp only
  split
  · refine List.foldlRecOn _ _ ((hdecl.setUnit _).grpsLinkLoss true) fun r hr n _ => ?_
    split
    · exact hr.sqMap n _
    · exact hr
  · exact hdecl

/-- The end of a session closes it, with its latch and its record, and touches nothing else of these. -/
theorem Tail.keepsLink_sessEnd (t : Tail) (fr : FrameRef) (reason : Nat) :
    Tail.KeepsLink { t with sess := 0 } (t.sessEnd fr reason) := by
  unfold Tail.sessEnd
  split
  · next h => exact Tail.KeepsLink.of (.refl _) rfl rfl h rfl rfl
  · dsimp only [Tail.auditSec, Tail.audit]
    exact (Tail.recordKeeps_keepsLink _).record _ (by decide) _ _ _ (.evt _ _ (Tail.KeepsLink.of (.refl _) rfl rfl rfl rfl rfl))

/-- So does the commit in which it closes for the lost host. -/
theorem Tail.keepsLink_commitSessEnd (t : Tail) :
    Tail.KeepsLink { t with sess := 0 } (t.commitOn 161 (fun t => t.sessEnd noFrame 4)) :=
  .commitOn 161 (((Tail.KeepsLink.refl { t with sess := 0 }).ssn _).trans (Tail.keepsLink_sessEnd { t with ssn := t.ssn + 1 } noFrame 4))

end

/-! ## HS_PRESENT falling -/

/-- The link once the host's absence is noted (02 R62, R84). -/
def Link.hostGone (l : Link) : Link := { l with hsPresent := false, wakeLvl := false, wakeRun := 0, lastLseq := Vector.replicate 16 none }

/-- The field side once the host's absence is noted, its latch set and the session closed, before groups and an Eclipse follow. -/
def Tail.hostGone (t : Tail) : Tail :=
  (({ t with link := t.link.hostGone } : Tail).dropOpen.cancelDeliveries.evt 0x03 2).commitOn 161 (fun t => t.sessEnd noFrame 4)

/-- What follows in the groups and for an Eclipse (10 R392, 22 R775). -/
def Tail.linkLost (t : Tail) : Tail :=
  let t := (List.finRange 2).foldl (fun t (g : Fin 2) => t.grpLinkLoss g false) t
  if t.cfb EMG_CFG.FAST && t.emg.armed && !t.emg.declared then t.declareEclipse else t

theorem hsPresentFall_settles (s : State) (hpresent : s.fs.link.hsPresent = true) (hdeaf : 4 ≤ s.fs.link.deafRun)
    (hpd : s.fs.pd 3 = true) : Settles .hsPresentFall s s.fs.hostGone.linkLost := by
  have hfall : (!(s.fs.link.hsPresent && decide (4 ≤ s.fs.link.deafRun))) ≠ true := by simp [hpresent, hdeaf]
  change execHsPresentFall s = _
  unfold execHsPresentFall tailNext State.tail
  dsimp only
  rw [if_neg hfall, if_neg]
  · unfold Tail.linkLost Tail.hostGone Link.hostGone
    dsimp only
  · change (!s.fs.pd 3) ≠ true
    simp [hpd]

theorem Tail.dropOpen_fields (t : Tail) : t.dropOpen.link.hsPresent = t.link.hsPresent ∧ t.dropOpen.link.lastLseq = t.link.lastLseq
    ∧ t.dropOpen.now = t.now := by
  unfold Tail.dropOpen
  split
  · simp [Tail.discard, Tail.evt_eq, Tail.inc_eq]
  · simp

/-- Once the host's absence is noted, the link says so, no LSEQ is remembered, no session is open, and the latch is set. -/
theorem Tail.hostGone_fields (t : Tail) : t.hostGone.link.hsPresent = false ∧ t.hostGone.link.lastLseq = Vector.replicate 16 none
    ∧ t.hostGone.sess = 0 ∧ t.hostGone.evtBit 0x03 2 = true ∧ t.hostGone.now = t.now := by
  let r : Tail := ({ t with link := t.link.hostGone } : Tail).dropOpen.cancelDeliveries
  obtain ⟨hpresent, hlseq, hnow⟩ := ({ t with link := t.link.hostGone } : Tail).dropOpen_fields
  have hk : Tail.KeepsLink { r.evt 0x03 2 with sess := 0 } t.hostGone :=
    (r.evt 0x03 2).keepsLink_commitSessEnd
  have hlink : t.hostGone.link = r.link := hk.link.trans (r.evtV_link 0x03 2 none)
  refine ⟨?_, ?_, hk.sess, hk.latches _ _ (r.evt_sets 0x03 (by decide)), hk.now.trans ((r.evtV_now 0x03 2 none).trans hnow)⟩
  · rw [hlink]
    exact hpresent
  · rw [hlink]
    exact hlseq

theorem Tail.keepsLink_linkLost (t : Tail) : t.KeepsLink t.linkLost := by
  unfold Tail.linkLost
  dsimp only
  split
  · exact ((Tail.KeepsLink.refl t).grpsLinkLoss false).declareEclipse
  · exact (Tail.KeepsLink.refl t).grpsLinkLoss false

/-! ## The level channels (02 R76 to R81) -/

/-- A code that arrives unharmed tells the level and LINK_RDY. -/
theorem LevelCell.take_unharmed (c : LevelCell) (level rdy : Bool) : c.take (levelCode level rdy ^^^ 0) = ⟨true, level, rdy⟩ := by
  cases level <;> cases rdy <;> rfl

/-- An odd number of bits inverted spoils the parity of a code, and it is no refresh. -/
theorem LevelCell.take_odd (c : LevelCell) (level rdy : Bool) {e : BitVec 3} (he : e = 1 ∨ e = 2 ∨ e = 4 ∨ e = 7) :
    c.take (levelCode level rdy ^^^ e) = c := by
  have hbad : codeGood (levelCode level rdy ^^^ e) = false := by
    rcases he with rfl | rfl | rfl | rfl <;> revert level rdy <;> decide
  unfold LevelCell.take
  rw [hbad]
  rfl

/-- A refresh shows the cell what its code says, where no stretch waits for it. -/
theorem levelRefresh_shows (ch : LevelCh) (e : BitVec 3) (s : State) (hpow : s.hs.powered = true) (hpd : s.fs.pd 1 = true)
    (hidle : s.hs.mb.phase = .idle) :
    exec (.levelRefresh ch e) s = .next { s with hs := s.hs.setLevel ch ((s.hs.level ch).take (s.fs.refresh ch ^^^ e)) } := by
  refine (execLevelRefresh_eq ch e s).trans ((if_neg (by simp [hpow, hpd])).trans ?_)
  rw [State.mbResume_of_not_stretch (by simp [hidle])]

theorem Head.setLevel_level (h : Head) (ch : LevelCh) : h.setLevel ch (h.level ch) = h := by
  cases ch <;> rfl

/-- What AON shows on channel `ch`. -/
def Tail.channelLevel (t : Tail) (ch : LevelCh) : Bool :=
  match ch with
  | .alert => t.alertLevel
  | .fault => t.faultLevel

theorem Tail.refresh_eq (t : Tail) (ch : LevelCh) : t.refresh ch = levelCode (t.channelLevel ch) t.link.ready := by
  cases ch <;> rfl

theorem levelRefresh_zero (ch : LevelCh) (s : State) (hpow : s.hs.powered = true) (hpd : s.fs.pd 1 = true)
    (hidle : s.hs.mb.phase = .idle) :
    exec (.levelRefresh ch 0) s = .next { s with hs := s.hs.setLevel ch ⟨true, s.fs.channelLevel ch, s.fs.link.ready⟩ } := by
  rw [levelRefresh_shows ch 0 s hpow hpd hidle, Tail.refresh_eq, LevelCell.take_unharmed]

theorem levelRefresh_odd (ch : LevelCh) (e : BitVec 3) (s : State) (hpow : s.hs.powered = true) (hpd : s.fs.pd 1 = true)
    (hidle : s.hs.mb.phase = .idle) (he : e = 1 ∨ e = 2 ∨ e = 4 ∨ e = 7) : exec (.levelRefresh ch e) s = .next s := by
  rw [levelRefresh_shows ch e s hpow hpd hidle]
  rw [Tail.refresh_eq, LevelCell.take_odd _ _ _ he, Head.setLevel_level]

/-- Settles O47: the fall of HS_PRESENT is `Tail.hostGone`, whose facts what follows keeps; a cell takes a code by its parity. -/
theorem presenceAndLevels : Obligations.PresenceAndLevels := by
  refine ⟨fun s hpresent hdeaf hpd => ?_, fun s hpow hpd hidle => ⟨levelRefresh_zero .alert s hpow hpd hidle,
    levelRefresh_zero .fault s hpow hpd hidle⟩, levelRefresh_odd, fun s => ⟨rfl, rfl⟩⟩
  obtain ⟨hgone, hlseq, hsess, hlatch, hnow⟩ := s.fs.hostGone_fields
  have hk := s.fs.hostGone.keepsLink_linkLost
  exact ⟨_, hsPresentFall_settles s hpresent hdeaf hpd, by rw [hk.link, hgone], by rw [hk.link, hlseq], hk.sess.trans hsess,
    hk.latches _ _ hlatch, hk.now.trans hnow⟩

end Sys2Proof.Machine
end

section
/-! The wake from Deep sleep (02 R83, 04 R144, R151): interrogations, and the completion of the wake; O11. -/

namespace Sys2Proof.Machine

/-! ## Interrogations (02 R76, R77, R83) -/

/-- The link once an interrogation has found the WAKE cell at `lvl`. -/
def Link.answered (l : Link) (lvl : Bool) : Link :=
  { l with hsPresent := true, wakeLvl := lvl, deafRun := 0, wakeRun := if lvl then min 2 (l.wakeRun + 1) else 0 }

/-- The field side once an interrogation has found the WAKE cell at `lvl`: two asserted answers in a row end Deep sleep. -/
def Tail.interrogated (t : Tail) (lvl cold : Bool) : Tail :=
  let t := { t with link := t.link.answered lvl }
  if t.link.wakeRun = 2 && t.aon.ps = .deep && t.us != .thermalShutdown && !t.aon.wakePend then t.wakeBegin cold else t

/-- A powered Headstock whose answer arrives unharmed tells the level of its WAKE cell. -/
theorem Head.wakeAnswer_unharmed {h : Head} (hpow : h.powered = true) :
    (h.wakeAnswer 0).filter codeGood = some (levelCode h.wake false) := by
  unfold Head.wakeAnswer
  rw [if_pos hpow]
  cases h.wake <;> rfl

/-- No answer comes from an unpowered Headstock, and one of even parity counts as none. -/
theorem Head.wakeAnswer_none {h : Head} {err : BitVec 3} (hx : h.powered = false ∨ err = 1 ∨ err = 2 ∨ err = 4 ∨ err = 7) :
    (h.wakeAnswer err).filter codeGood = none := by
  have hodd : err = 1 ∨ err = 2 ∨ err = 4 ∨ err = 7 → codeGood (levelCode h.wake false ^^^ err) = false := by
    generalize h.wake = lvl
    rintro (rfl | rfl | rfl | rfl) <;> revert lvl <;> decide
  unfold Head.wakeAnswer
  rcases hx with hpow | herr
  · simp [hpow]
  · split <;> simp [hodd herr]

theorem levelCode_bit (lvl rdy : Bool) : (levelCode lvl rdy).getLsbD 0 = lvl := by
  cases lvl <;> cases rdy <;> rfl

section
variable {s : State} (hpd : s.fs.pd 1 = true)
include hpd

theorem wakeInterrogation_answered (cold : Bool) (hpow : s.hs.powered = true) :
    Does (.wakeInterrogation 0 cold) s (s.fs.interrogated s.hs.wake cold) := by
  change execWakeInterrogation 0 cold s = _
  unfold execWakeInterrogation State.tail
  rw [if_neg (by simp [hpd]), Head.wakeAnswer_unharmed hpow]
  dsimp only
  rw [levelCode_bit]
  unfold Tail.interrogated Link.answered
  dsimp only

theorem wakeInterrogation_unanswered (err : BitVec 3) (cold : Bool)
    (hx : s.hs.powered = false ∨ err = 1 ∨ err = 2 ∨ err = 4 ∨ err = 7) :
    Does (.wakeInterrogation err cold) s { s.fs with link := { s.fs.link with
      wakeRun := 0, deafRun := min 4 (s.fs.link.deafRun + 1) } } := by
  change execWakeInterrogation err cold s = _
  unfold execWakeInterrogation State.tail
  rw [if_neg (by simp [hpd]), Head.wakeAnswer_none hx]

/-- Outside Deep sleep, and in THERMAL_SHUTDOWN, WAKE does not act (02 R83). -/
theorem wakeInterrogation_stays (cold : Bool) (hpow : s.hs.powered = true) (hstay : s.fs.aon.ps ≠ .deep ∨ s.fs.us = .thermalShutdown) :
    Does (.wakeInterrogation 0 cold) s { s.fs with link := s.fs.link.answered s.hs.wake } := by
  have h := wakeInterrogation_answered hpd cold hpow
  have hif : s.fs.interrogated s.hs.wake cold = { s.fs with link := s.fs.link.answered s.hs.wake } := by
    refine if_neg ?_
    rcases hstay with hps | hus
    · simp [hps]
    · simp [hus]
  rwa [hif] at h

/-- A second asserted answer in Deep sleep begins the wake. -/
theorem wakeInterrogation_wakes (cold : Bool) (hpow : s.hs.powered = true) (hwake : s.hs.wake = true) (hrun : s.fs.link.wakeRun = 1)
    (hps : s.fs.aon.ps = .deep) (hpend : s.fs.aon.wakePend = false) (hus : s.fs.us ≠ .thermalShutdown) :
    Does (.wakeInterrogation 0 cold) s (Tail.wakeBegin { s.fs with link := s.fs.link.answered true } cold) := by
  have h := wakeInterrogation_answered hpd cold hpow
  have hif : s.fs.interrogated true cold = Tail.wakeBegin { s.fs with link := s.fs.link.answered true } cold :=
    if_pos (by simp [Link.answered, hrun, hps, hpend, hus])
  rwa [hwake, hif] at h

end

/-- The wake begins with PD2, PD3 and PD4 powered (04 R151), or held off where it is cold (R144). -/
theorem Tail.wakeBegin_warm (t : Tail) : t.wakeBegin false = { t with
    aon := { t.aon with wakePend := true, cold := false, dom := 0x1E }, boot := { t.boot with upAt := t.now } } := by
  simp [Tail.wakeBegin, Tail.coldMark, Tail.upNow, Tail.aonMap]

theorem Tail.wakeBegin_cold (t : Tail) : t.wakeBegin true = ({ t with
    aon := { t.aon with wakePend := true, cold := true, coldSeen := true, dom := 0x02 }
    boot := { t.boot with upAt := t.now } } : Tail).evt 0x04 6 := by
  simp [Tail.wakeBegin, Tail.coldMark, Tail.upNow, Tail.aonMap]

theorem Link.answered_twice {l : Link} (h : l.wakeRun = 1) :
    l.answered true = { l with hsPresent := true, wakeLvl := true, deafRun := 0, wakeRun := 2 } := by
  unfold Link.answered
  rw [h]
  rfl

/-! ## The completion of the wake (04 R151) -/

/-- `r` has the time, the clocks, the link, and the state of power of `t`. -/
structure Tail.KeepsPower (t r : Tail) : Prop where
  now : r.now = t.now
  ft : r.ft = t.ft
  clk : r.clk = t.clk
  link : r.link = t.link
  ps : r.aon.ps = t.aon.ps
  wakePend : r.aon.wakePend = t.aon.wakePend

section
variable {o t r : Tail}

theorem Tail.KeepsPower.refl (t : Tail) : t.KeepsPower t := ⟨rfl, rfl, rfl, rfl, rfl, rfl⟩

theorem Tail.KeepsPower.trans (h : o.KeepsPower t) (h' : t.KeepsPower r) : o.KeepsPower r :=
  ⟨h'.now.trans h.now, h'.ft.trans h.ft, h'.clk.trans h.clk, h'.link.trans h.link, h'.ps.trans h.ps, h'.wakePend.trans h.wakePend⟩

/-- The end of a step touches none of it. -/
theorem Tail.Frames.keepsPower (h : t.Frames r) : t.KeepsPower r where
  now := show r.kept.now = t.kept.now by rw [h.1]
  ft := show r.kept.ft = t.kept.ft by rw [h.1]
  clk := show r.kept.clk = t.kept.clk by rw [h.1]
  link := show r.kept.link = t.kept.link by rw [h.1]
  ps := show r.kept.aon.ps = t.kept.aon.ps by rw [h.1]
  wakePend := show r.kept.aon.wakePend = t.kept.aon.wakePend by rw [h.1]

theorem Tail.KeepsPower.p (f : Fd) (x : Nat) (h : o.KeepsPower t) : o.KeepsPower (t.p f x) := h.trans ⟨rfl, rfl, rfl, rfl, rfl, rfl⟩

theorem Tail.KeepsPower.evt (p i : Nat) (h : o.KeepsPower t) : o.KeepsPower (t.evt p i) :=
  h.trans (Tail.frames_evt p i (.rfl t)).keepsPower

/-- Of the always-on domain something else changes. -/
theorem Tail.KeepsPower.aon {a : Aon} (hps : a.ps = t.aon.ps) (hw : a.wakePend = t.aon.wakePend) (h : o.KeepsPower t) :
    o.KeepsPower { t with aon := a } := h.trans ⟨rfl, rfl, rfl, rfl, hps, hw⟩

theorem Tail.KeepsPower.aonLog {a : Aon} (l : EvtLog) (hps : a.ps = t.aon.ps) (hw : a.wakePend = t.aon.wakePend) (h : o.KeepsPower t) :
    o.KeepsPower { t with aon := a, log := l } := h.trans ⟨rfl, rfl, rfl, rfl, hps, hw⟩

theorem Tail.logs_commitOn (k : Nat) {f : Tail → Tail} (h : o.Logs (f { t with ssn := t.ssn + 1 })) : o.Logs (t.commitOn k f) := by
  unfold Tail.commitOn Tail.commitAny
  dsimp only
  split
  · exact Tail.logs_ssn _ h
  · exact Tail.logs_seal h

theorem Tail.keepsPower_restoreLog (t : Tail) : t.KeepsPower t.restoreLog := by
  unfold Tail.restoreLog
  dsimp only
  split
  · exact (Tail.KeepsPower.refl t).aonLog _ rfl rfl
  · have hrecs : t.Logs (t.aon.log.recs.foldl
        (fun t d => t.commitOn 160 (fun t => t.record .sqc 160 8 true (evRestored d))) t) :=
      .foldl _ _ (fun r d _ hr => Tail.logs_commitOn 160 (Tail.logs_record _ (by decide) _ _ _ (Tail.logs_ssn _ hr))) t (.rfl t)
    exact (hrecs.frames.keepsPower.p EVT_STAT.RESTORED _).aonLog _ rfl rfl

/-- A request for a power state waits, is accepted or is refused (04 R145 to R148); nothing switches yet. -/
theorem Tail.keepsPower_pwrReq (t : Tail) (q : PwrReq) : t.KeepsPower (t.pwrReq q) := by
  unfold Tail.pwrReq
  split
  · exact (Tail.KeepsPower.refl t).aon rfl rfl
  · split
    · split
      · exact (Tail.KeepsPower.refl t).aon rfl rfl
      · exact (Tail.frames_setUnit .sleep (.rfl t)).keepsPower.aon rfl rfl
    · split
      · exact .refl t
      · exact (Tail.KeepsPower.refl t).evt _ _

theorem Tail.keepsPower_heldReq (t : Tail) : t.KeepsPower t.heldReq := by
  unfold Tail.heldReq
  split
  · exact .refl t
  · have hnone : t.KeepsPower (t.aonMap (fun a => { a with held := none })) := (Tail.KeepsPower.refl t).aon rfl rfl
    exact hnone.trans (Tail.keepsPower_pwrReq _ _)

theorem Tail.keepsPower_finish (t : Tail) : t.KeepsPower t.finish :=
  (Tail.frames_logAll (Tail.frames_settle (.rfl t))).keepsPower

end

/-- The field side at the moment at which the wake is complete: Field Time goes on from the bridged count of CLK_AON cycles, the clocks run,
and the link is ready unless its training has failed (03 R95, 02 R74). -/
def Tail.awake (t : Tail) : Tail :=
  let t := t.elapseTo (t.boot.upAt + wakeTime)
  let ft := t.ft + BitVec.ofNat 64 ((t.now - t.aon.sleptAt) / us1 * us1)
  { t with
    ft := ft
    clk := Clocks.up t.u.orbit ft
    link := { t.link with ready := !t.link.trainFail }
    store := { t.store with passStart := t.now, paceFrom := t.now }
    aon := { t.aon with ps := .standby, wakePend := false } }

theorem Tail.awake_ft (t : Tail) :
    t.awake.ft = (t.elapseTo (t.boot.upAt + wakeTime)).ft + BitVec.ofNat 64 ((t.awake.now - t.aon.sleptAt) / 400 * 400) := by
  unfold Tail.awake us1
  dsimp only
  rw [Tail.elapseTo_eq, Tail.elapse_aon]

theorem Tail.awake_ftRun (t : Tail) : t.awake.clk.ftRun = true := rfl

theorem Tail.awake_ready (t : Tail) : t.awake.link.ready = !t.link.trainFail := by
  unfold Tail.awake
  dsimp only
  rw [Tail.elapseTo_eq, Tail.elapse_link]

/-- What the field side makes of the awakened state before it settles: the log restored, the store ready, RETAIN 0. -/
def Tail.resumed (t : Tail) : Tail :=
  (((((t.restoreLog.p TIME_STAT.BRIDGED 1).p CSG_STAT.INIT_DONE 1).evt 0x06 0).inc BLNK_STAT.TRAIN_CNT).p PWR_CTRL.RETAIN 0).heldReq

theorem wakeComplete_settles {s : State} (hpend : s.fs.aon.wakePend = true) (hcold : s.fs.aon.cold = false) (hus : s.fs.us = .sleep) :
    Settles .wakeComplete s s.fs.awake.resumed := by
  change execWakeComplete s = _
  unfold execWakeComplete tailNext State.tail
  dsimp only
  rw [if_neg (by simp [hpend, hcold, hus])]
  unfold Tail.resumed Tail.awake Tail.aonMap
  dsimp only

theorem Tail.keepsPower_resumed (t : Tail) : t.KeepsPower t.resumed := by
  have hready := (((t.keepsPower_restoreLog.p TIME_STAT.BRIDGED 1).p CSG_STAT.INIT_DONE 1).evt 0x06 0)
  exact ((hready.p BLNK_STAT.TRAIN_CNT _).p PWR_CTRL.RETAIN 0).trans (Tail.keepsPower_heldReq _)

theorem Tail.elapseTo_now (t : Tail) (d : Nat) : (t.elapseTo d).now = max t.now d := by
  rw [Tail.elapseTo_eq, Tail.elapse_eq]
  change t.now + (d - t.now) = max t.now d
  omega

/-- Settles O11: an interrogation is answered or not by `Head.wakeAnswer`, and what follows the wake keeps `Tail.awake`. -/
theorem wakeFromDeepSleep : Obligations.WakeFromDeepSleep := by
  refine ⟨fun cold s hpd hpow hps => wakeInterrogation_stays hpd cold hpow (.inl hps),
    fun s hpd hpow hwake hrun hps hpend hus => ?_, fun err cold s hpd hx => wakeInterrogation_unanswered hpd err cold hx,
    fun cold s hpd hpow hus => wakeInterrogation_stays hpd cold hpow (.inr hus), fun s hpend hcold hus => ?_⟩
  · have hw := fun cold => wakeInterrogation_wakes hpd cold hpow hwake hrun hps hpend hus
    rw [Link.answered_twice hrun] at hw
    have hwarm := hw false
    have hcold := hw true
    rw [Tail.wakeBegin_warm] at hwarm
    rw [Tail.wakeBegin_cold] at hcold
    exact ⟨hwarm, hcold⟩
  · have hk := s.fs.awake.keepsPower_resumed.trans (Tail.keepsPower_finish _)
    have hnow : s.fs.awake.now = max s.fs.now (s.fs.boot.upAt + wakeTime) := s.fs.elapseTo_now _
    refine ⟨_, wakeComplete_settles hpend hcold hus, rfl, rfl, rfl, rfl, rfl, hk.now.trans hnow, ?_, hk.ps, hk.wakePend, ?_, ?_⟩
    · rw [hk.ft, hk.now, Tail.awake_ft]
    · rw [hk.clk, Tail.awake_ftRun]
    · rw [hk.link, Tail.awake_ready]

end Sys2Proof.Machine
end

section
/-! Requests at the field side (02 R53, R57, R62 to R64, R70); O45. -/

namespace Sys2Proof.Machine

/-! ## What the field side makes of a received message -/

/-- What the field side makes of what it has heard (02 R62). -/
def Tail.reacts (t : Tail) : Heard H2F → Tail
  | .good m => t.take m
  | .bad r hdr => t.badMessage r hdr
  | .cut _ => { t with link := { t.link with openMsg := .open } }
  | .none => t

section
variable {t : Tail} {m : H2F} {rx : Rx}

theorem Tail.hears_served (hserves : t.serves = true) : t.hears m rx = (t.carriedH2F m).reacts (m.heard rx) := by
  have hs : (!(t.carriedH2F m).serves) ≠ true := by
    change (!t.serves) ≠ true
    simp [hserves]
  exact if_neg hs

theorem Tail.hears_good (hserves : t.serves = true) {g : H2F} (h : m.heard rx = .good g) : t.hears m rx = (t.carriedH2F m).take g := by
  rw [Tail.hears_served hserves, h, Tail.reacts]

theorem Tail.hears_bad (hserves : t.serves = true) {reason : Nat} {x : Option Msg} (h : m.heard rx = .bad reason x) :
    t.hears m rx = (t.carriedH2F m).badMessage reason x := by
  rw [Tail.hears_served hserves, h, Tail.reacts]

theorem Tail.hears_cut (hserves : t.serves = true) {x : Option Msg} (h : m.heard rx = .cut x) :
    t.hears m rx = { t.carriedH2F m with link := { (t.carriedH2F m).link with openMsg := .open } } := by
  rw [Tail.hears_served hserves, h, Tail.reacts]

/-- A message is lost while the field side does not serve the link (02 R73). -/
theorem Tail.hears_unserved (hserves : t.serves = false) : t.hears m rx = t.carriedH2F m := by
  have hs : (!(t.carriedH2F m).serves) = true := by
    change (!t.serves) = true
    simp [hserves]
  exact if_pos hs

end

section
variable {s : State} {rest : List H2F} (rx : Rx)

theorem exec_reqHsp {c : Nat} {l : Half} {op : HspOp} {f : Frame} {chk : Word} {d : Disp} (h : s.h2f = .reqHsp c l op f chk d :: rest) :
    exec (.reqHsp rx) s = .next (State.pump { s with h2f := rest, fs := s.fs.hears (.reqHsp c l op f chk d) rx }) := by
  change execReqHsp rx s = _
  unfold execReqHsp
  rw [h]
  rfl

theorem exec_reqMb {c : Nat} {l : Half} {cmd : Byte} {d : List Byte} {disp : Disp} (h : s.h2f = .reqMb c l cmd d disp :: rest) :
    exec (.reqMb rx) s = .next (State.pump { s with h2f := rest, fs := s.fs.hears (.reqMb c l cmd d disp) rx }) := by
  change execReqMb rx s = _
  unfold execReqMb
  rw [h]
  rfl

theorem exec_nakH {c : Nat} {l : Half} {k r : Nat} {ins : Bool} (h : s.h2f = .nakH c l k r ins :: rest) :
    exec (.nakH rx) s = .next (State.pump { s with h2f := rest, fs := s.fs.hears (.nakH c l k r ins) rx }) := by
  change execNakH rx s = _
  unfold execNakH
  rw [h]
  rfl

end

/-! ## Good requests (02 R56, R62) -/

section
variable (t : Tail) (c : Fin 16) (l : Half) (run : Tail → List Byte × Tail)

theorem Tail.takeReq_abandon : t.takeReq c l .abandon run = (none, (t.discard BLNK_ERR.RX_OTHER).finish) := if_pos rfl

theorem Tail.takeReq_new (h : t.link.lastLseq[c] ≠ some l) :
    t.takeReq c l .execute run = (some (run (t.acceptReq c l)).1, (run (t.acceptReq c l)).2) := by
  unfold Tail.takeReq
  rw [if_neg (by decide), if_neg h]

theorem Tail.takeReq_again (h : t.link.lastLseq[c] = some l) :
    t.takeReq c l .execute run = ((t.sysReads (rspX c.val) 520).link.retained[c].map Retained.body,
      ((t.sysReads (rspX c.val) 520).discard BLNK_ERR.RX_OTHER).finish) := by
  unfold Tail.takeReq
  rw [if_neg (by decide), if_pos h]

end

section
variable (t : Tail) {c : Nat} {l : Half} (op : HspOp) (f : Frame) (chk : Word)

/-- A new request is executed, and its response is kept and sent. -/
theorem Tail.reqHsp_new (h : t.link.lastLseq[Fin.ofNat 16 c] ≠ some l) :
    t.reqHsp c l op f chk .execute =
      (let r := (t.acceptReq (Fin.ofNat 16 c) l).runHsp c op f
       (r.t.keepRsp (Fin.ofNat 16 c) ⟨false, l, f.seq, chk, r.status, r.snap, r.data⟩).respond false c l (quotaStream op f)
         (rspUrgent op f) (responseBody r.status f.seq r.snap r.data)) := by
  unfold Tail.reqHsp Tail.answerHsp
  dsimp only
  rw [Tail.takeReq_new t _ l _ h, if_neg (by decide)]

/-- The LSEQ accepted last is not executed again: the response kept is sent. -/
theorem Tail.reqHsp_again (hc : c < 16) (h : t.link.lastLseq[Fin.ofNat 16 c] = some l) {k : Retained}
    (hk : (t.sysReads (rspX c) 520).link.retained[Fin.ofNat 16 c] = some k) :
    t.reqHsp c l op f chk .execute =
      (((t.sysReads (rspX c) 520).discard BLNK_ERR.RX_OTHER).finish).respond false c l (quotaStream op f) (rspUrgent op f) k.body := by
  have hx : rspX (Fin.ofNat 16 c).val = rspX c := congrArg rspX (Nat.mod_eq_of_lt hc)
  unfold Tail.reqHsp Tail.answerHsp
  dsimp only
  rw [Tail.takeReq_again t _ l _ h, hx, hk]
  rfl

theorem Tail.reqHsp_abandon : t.reqHsp c l op f chk .abandon = (t.discard BLNK_ERR.RX_OTHER).finish := by
  unfold Tail.reqHsp Tail.answerHsp
  dsimp only
  rw [Tail.takeReq_abandon]

end

theorem mbOf_mbCode (c : MbCmd) : mbOf (mbCode c) = some c := by
  cases c <;> rfl

/-- A new request of the bus is executed, and its response is kept and sent. -/
theorem Tail.reqMb_new (t : Tail) {c : Nat} {l : Half} (cmd : MbCmd) (d : List Byte) (h : t.link.lastLseq[Fin.ofNat 16 c] ≠ some l) :
    t.reqMb c l (mbCode cmd) d .execute =
      (let r := (t.acceptReq (Fin.ofNat 16 c) l).runMb c cmd d
       (r.t.keepRsp (Fin.ofNat 16 c) ⟨true, l, 0, 0, r.status, r.snap, r.data⟩).respond true c l c false (mbResponse r.status r.data)) := by
  unfold Tail.reqMb Tail.answerMb
  dsimp only
  rw [Tail.takeReq_new t _ l _ h, if_neg (by decide), mbOf_mbCode]

/-! ## The acceptance of a request (02 R62) -/

section
variable (t : Tail) (c : Fin 16) (l : Half)

/-- The count of a gap between the last LSEQ accepted and the new one. -/
def Tail.countGap : Tail :=
  match t.link.lastLseq[c] with
  | some q => if l = q + 1 then t else (t.inc BLNK_SEQ.SEQ_GAP).evt 0x03 4
  | none => t

theorem Tail.acceptReq_eq : t.acceptReq c l = { (t.countGap c l).p BLNK_SEQ.LAST_LSEQ l.toNat with
    link := { (t.countGap c l).link with lastLseq := (t.countGap c l).link.lastLseq.set c (some l) } } := rfl

theorem Tail.countGap_next (h : t.link.lastLseq[c] = none ∨ t.link.lastLseq[c] = some (l - 1)) : t.countGap c l = t := by
  unfold Tail.countGap
  rcases h with h | h
  · rw [h]
  · rw [h]
    exact if_pos (by simp)

theorem Tail.countGap_gap {q : Half} (h : t.link.lastLseq[c] = some q) (hne : l ≠ q + 1) :
    t.countGap c l = (t.inc BLNK_SEQ.SEQ_GAP).evt 0x03 4 := by
  unfold Tail.countGap
  rw [h]
  exact if_neg hne

theorem Tail.acceptReq_lastLseq : (t.acceptReq c l).link.lastLseq[c] = some l := by
  rw [Tail.acceptReq_eq]
  simp

theorem Tail.acceptReq_LAST_LSEQ : (t.acceptReq c l).g BLNK_SEQ.LAST_LSEQ = l.toNat := by
  refine ((t.countGap c l).g_p (f := BLNK_SEQ.LAST_LSEQ) l.toNat (by decide)).trans ?_
  exact Nat.mod_eq_of_lt l.isLt

theorem Tail.acceptReq_SEQ_GAP : (t.acceptReq c l).g BLNK_SEQ.SEQ_GAP = (t.countGap c l).g BLNK_SEQ.SEQ_GAP :=
  (t.countGap c l).g_p_apart (f := BLNK_SEQ.LAST_LSEQ) l.toNat (by decide) (by decide) (by decide)

/-- A latch reads the same across another register's write. -/
theorem Tail.acceptReq_evtBit (i : Nat) : (t.acceptReq c l).evtBit 0x03 i = (t.countGap c l).evtBit 0x03 i :=
  Tail.evtBit_of_word ((t.countGap c l).word_p_ne (f := BLNK_SEQ.LAST_LSEQ) l.toNat (by decide)) i

/-- An event's latch is in another register than the field. -/
theorem Tail.g_evt_ne (p i : Nat) {f : Fd} (h : f.addr ≠ (PG_EVT.EVT p).addr) : (t.evt p i).g f = t.g f := by
  unfold Tail.evt Tail.evtV
  split
  · rfl
  · exact t.g_p_ne _ h

/-- A gap is counted and latched. -/
theorem Tail.acceptReq_gap {q : Half} (h : t.link.lastLseq[c] = some q) (hne : l ≠ q + 1) :
    (t.acceptReq c l).g BLNK_SEQ.SEQ_GAP = satInc BLNK_SEQ.SEQ_GAP.width (t.g BLNK_SEQ.SEQ_GAP)
      ∧ (t.acceptReq c l).evtBit 0x03 4 = true := by
  rw [Tail.acceptReq_SEQ_GAP, Tail.acceptReq_evtBit, Tail.countGap_gap t c l h hne]
  refine ⟨?_, Tail.evt_sets _ _ (by decide)⟩
  rw [Tail.g_evt_ne _ _ _ (by decide), Tail.g_inc _ (by decide)]

end

/-! ## Messages with a defect (02 R57, R62, R63) -/

/-- A message that does not check is counted as such and answered with NAK_F, which names the request where its header can be read. -/
theorem Tail.badMessage_defect (t : Tail) {reason : Nat} (h : reason ≠ nakType) (x : Option Msg) :
    t.badMessage reason x = Tail.finish { ((t.inc BLNK_ERR.RX_CRC).evt 0x03 0).inc BLNK_RETX.NAK_TX with
      link := { t.link with prio := t.link.prio ++ [match x with
        | some x => .nakF true x.cstr x.lseq reason
        | none => .nakF false 0xFF 0xFFFF reason] } } := by
  have hlink : ((t.inc BLNK_ERR.RX_CRC).evt 0x03 0).link = t.link := Tail.evtV_link _ _ _ _
  unfold Tail.badMessage Tail.discard
  rw [if_neg h]
  cases x <;> (unfold Tail.nakF; dsimp only; rw [hlink]) <;> rfl

/-- Settles O45: a message received is heard good, bad or cut (`Tail.hears_*`), and a good request is taken as new, as known or not at all
(`Tail.takeReq_*`). -/
theorem linkRequests : Obligations.LinkRequests := by
  refine ⟨fun c l op f chk rx rest s hlane hgood hserves => ⟨fun hnew => ?_, fun hknown k hk => ?_⟩,
    fun c l t => ⟨t.acceptReq_lastLseq c l, t.acceptReq_LAST_LSEQ c l, fun h => ?_, fun q h hne => t.acceptReq_gap c l h hne⟩,
    fun c l op f chk rx rest s hlane hgood hserves => ?_,
    fun c l op f chk d rx rest s hlane => ⟨fun hserves reason x hbad hr => ?_, fun hserves reason hbad hr => ?_,
      fun hserves x hcut => ?_, fun hserves => ?_⟩,
    fun l c d rx rest s hlane hgood hserves hnew => ?_⟩
  · rw [exec_reqHsp rx hlane, Tail.hears_good hserves hgood]
    rw [Tail.take, Tail.reqHsp_new (s.fs.carriedH2F _) op f chk hnew]
  · rw [exec_reqHsp rx hlane, Tail.hears_good hserves hgood]
    rw [Tail.take, Tail.reqHsp_again (s.fs.carriedH2F _) op f chk (by omega) hknown hk]
    rfl
  · rw [Tail.acceptReq_SEQ_GAP, Tail.countGap_next t c l h]
  · rw [exec_reqHsp rx hlane, Tail.hears_good hserves hgood]
    rw [Tail.take, Tail.reqHsp_abandon (s.fs.carriedH2F _) op f chk]
    rfl
  · rw [exec_reqHsp rx hlane, Tail.hears_bad hserves hbad, Tail.badMessage_defect _ hr]
  · rw [exec_reqHsp rx hlane, Tail.hears_bad hserves hbad, Tail.badMessage_defect _ hr]
  · rw [exec_reqHsp rx hlane, Tail.hears_cut hserves hcut]
  · rw [exec_reqHsp rx hlane, Tail.hears_unserved hserves]
  · rw [exec_reqMb rx hlane, Tail.hears_good hserves hgood]
    rw [Tail.take, Tail.reqMb_new (s.fs.carriedH2F _) (c := 8) c d hnew]
    rfl

end Sys2Proof.Machine
end

section
/-! The registers of the Headstock's pages, read after a write. -/

namespace Sys2Proof.Machine

section
variable {f g : Fd} (h : Head) (u : UnitInfo)

theorem Head.word_p (x : Nat) : (h.p u f x).word u f.addr = fdPut f x (h.word u f.addr) := smGet_smSet_self _ _ _ _

theorem Head.word_p_ne (x : Nat) {a : Nat} (ha : a ≠ f.addr) : (h.p u f x).word u a = h.word u a := smGet_smSet_ne _ _ _ _ _ ha

/-- A field reads as written. -/
theorem Head.g_p (x : Nat) (hf : f.ok) : (h.p u f x).g u f = x % 2 ^ f.width := by
  rw [Head.g, Head.word_p, fdGet_fdPut f hf]

/-- A field of another register reads as before. -/
theorem Head.g_p_ne (x : Nat) (ha : g.addr ≠ f.addr) : (h.p u f x).g u g = h.g u g := by
  rw [Head.g, Head.word_p_ne h u x ha]
  rfl

/-- So does a field of the same register that shares no bit with the one written. -/
theorem Head.g_p_apart (x : Nat) (hf : f.ok) (hg : g.ok) (ha : g.addr = f.addr) (hap : f.apart g) : (h.p u f x).g u g = h.g u g := by
  rw [Head.g, ha, Head.word_p, fdGet_fdPut_apart f g hf hg hap, ← ha]
  rfl

/-- A counter reads one more, saturating. -/
theorem Head.g_inc (hf : f.ok) : (h.inc u f).g u f = satInc f.width (h.g u f) := by
  rw [Head.inc, h.g_p u _ hf, satInc_mod]

end

/-! ## HSP_STAT of a frame that ends (08 R319) -/

section
variable (h : Head) (u : UnitInfo) (fr : Frame) (st : Nat)

theorem Head.last_status : (h.last u fr st).g u HSP_STAT.LAST_STATUS = st % 2 ^ 8 :=
  Head.g_p (f := HSP_STAT.LAST_STATUS) _ u st (by decide)

theorem Head.last_seq : (h.last u fr st).g u HSP_STAT.LAST_SEQ = fr.seq.toNat := by
  unfold Head.last
  rw [Head.g_p_apart (f := HSP_STAT.LAST_STATUS) (g := HSP_STAT.LAST_SEQ) _ u st (by decide) (by decide) rfl (by decide), Head.g_p _ u _ (by decide)]
  exact Nat.mod_eq_of_lt fr.seq.isLt

/-- A field outside HSP_STAT reads as before. -/
theorem Head.last_g_ne {g : Fd} (hg : g.addr ≠ HSP_STAT.LAST_CH.addr) : (h.last u fr st).g u g = h.g u g := by
  unfold Head.last
  rw [Head.g_p_ne (f := HSP_STAT.LAST_STATUS) _ u _ hg, Head.g_p_ne (f := HSP_STAT.LAST_SEQ) _ u _ hg, Head.g_p_ne _ u _ hg]

end

end Sys2Proof.Machine
end

section
/-! Response segments, NAK_H and NAK_F (02 R62, R63 to R71); O46. -/

namespace Sys2Proof.Machine

/-! ## Retransmission and the end of a message at the field side (02 R62) -/

/-- A NAK_H for a segment of what its stream sent last puts that segment ahead of the others, counted. -/
theorem Tail.retransmit_first {t : Tail} {c : Nat} {l : Half} {body : List Byte} (h : t.link.sent[Fin.ofNat 16 c] = some (l, body)) :
    t.retransmit c l 0 = Tail.finish { (t.inc BLNK_RETX.NAK_RX).evt 0x03 1 with
      link := { t.link with prio := t.link.prio ++ [segment (decide (8 ≤ c)) c l body 0 true] } } := by
  have hlink : ((t.inc BLNK_RETX.NAK_RX).evt 0x03 1).link = t.link := Tail.evtV_link _ _ _ _
  unfold Tail.retransmit
  rw [h]
  dsimp only
  rw [if_pos (by simp), hlink]

theorem openMessageTimeout_settles (s : State) (h : s.fs.link.openMsg = .open) :
    Settles .openMessageTimeout s { (((s.fs.elapse 16000000).inc BLNK_ERR.RX_OTHER).evt 0x03 0) with
      link := { s.fs.link with openMsg := .discarded } } := by
  have hlink : (s.fs.elapse 16000000).link = s.fs.link := Tail.elapse_link _ _
  refine settles_of_tail _ rfl ((if_pos h).trans (congrArg Tail.finish ?_))
  change (s.fs.elapse 16000000).dropOpen = _
  unfold Tail.dropOpen
  rw [if_pos (by rw [hlink, h]), hlink]
  rfl

/-! ## What the Headstock makes of a received message -/

/-- What the Headstock makes of what it has heard (02 R63 to R71). -/
def State.reacts (s : State) : Heard F2H → State
  | .good (.seg mb c l k more _ b) => s.segArrives mb c l k more b
  | .good (.nakF hdr c l _) => (s.nakHspReq hdr c l).nakMbReq hdr c l
  | .bad r hdr => s.segDefect r hdr
  | .cut hdr => s.segDefect nakIncomplete hdr
  | .none => s

section
variable {s : State} (hpow : s.hs.powered = true)
include hpow

theorem State.hears_powered (m : F2H) (rest : List F2H) (rx : Rx) :
    s.hears m rest rx = (State.reacts { s with f2h := rest } (m.heard rx)).pump := by
  unfold State.hears
  dsimp only
  rw [if_neg (by simp [hpow])]
  rfl

theorem exec_rsp {mb : Bool} {c : Nat} {l : Half} {k : Nat} {more retx : Bool} {b : List Byte} {rest : List F2H}
    (h : s.f2h = .seg mb c l k more retx b :: rest) (rx : Rx) :
    exec (if mb then .rspMb rx else .rspHsp rx) s =
      .next (State.reacts { s with f2h := rest } ((F2H.seg mb c l k more retx b).heard rx)).pump := by
  rw [← State.hears_powered hpow]
  cases mb with
  | true =>
    change execRspMb rx s = _
    unfold execRspMb
    rw [h]
  | false =>
    change execRspHsp rx s = _
    unfold execRspHsp
    rw [h]

theorem exec_nakF {hdr : Bool} {c : Nat} {l : Half} {r : Nat} {rest : List F2H} (h : s.f2h = .nakF hdr c l r :: rest) (rx : Rx) :
    exec (.nakF rx) s = .next (State.reacts { s with f2h := rest } ((F2H.nakF hdr c l r).heard rx)).pump := by
  rw [← State.hears_powered hpow]
  change execNakF rx s = _
  unfold execNakF
  rw [h]

end

/-! ## Asking for a segment again (02 R68) -/

section
variable {s : State} {x : HspFrame} {o : OutReq}

/-- A frame whose request has gone out whole puts nothing more on the lane. -/
theorem Head.sending_waiting {h : Head} (hframe : h.frame = some x) (hphase : x.phase = .waiting) : h.sending = false := by
  simp [Head.sending, hframe, hphase]

theorem State.segBad_again (hframe : s.hs.frame = some x) (hphase : x.phase = .waiting) {k : Nat} (hk : o.naks.count k < 2) (reason : Nat) :
    s.segBad x o k reason = { s with
      hs := ({ s.hs with out := some { o with naks := o.naks ++ [k] } } : Head).inc s.fs.u HSP_LNK.NAK_H_TX
      h2f := s.h2f ++ [.nakH o.cstr o.lseq k reason false] } := by
  have hsend : ({ s.hs with out := some { o with naks := o.naks ++ [k] } } : Head).sending = false :=
    Head.sending_waiting hframe hphase
  unfold State.segBad State.askAgain
  rw [if_pos hk]
  dsimp only
  rw [hsend]

theorem OutReq.part_none (h : o.parts = []) (k : Nat) : o.part k = none := by
  simp [OutReq.part, h]

theorem exec_nakHRepeat (hframe : s.hs.frame = some x) (hout : s.hs.out = some o) (hphase : x.phase = .waiting)
    (hnaks : o.naks = [0]) (hparts : o.parts = []) :
    exec (.nakHRepeat false) s = .next (s.segBad x o 0 nakIncomplete) := by
  change execNakHRepeat false s = _
  have hfind : o.naks.find? (fun k => (o.part k).isNone) = some 0 := by simp [hnaks, OutReq.part_none hparts]
  unfold execNakHRepeat
  rw [if_neg (by decide), hframe, hout]
  dsimp only
  rw [hfind]
  dsimp only
  rw [if_pos (by simp [hphase])]

theorem State.segDefect_again (hframe : s.hs.frame = some x) (hout : s.hs.out = some o) (hphase : x.phase = .waiting)
    (hparts : o.parts = []) (hnaks : o.naks = []) (reason : Nat) {g : Msg} (hty : g.ty = 0x81) (hc : g.cstr = o.cstr) (hl : g.lseq = o.lseq) :
    s.segDefect reason (some g) = { s with
      hs := ({ s.hs with out := some { o with naks := [g.seg] } } : Head).inc s.fs.u HSP_LNK.NAK_H_TX
      h2f := s.h2f ++ [.nakH o.cstr o.lseq g.seg reason false] } := by
  have hseg : s.hs.badSegment (some g) = some (x, o, g.seg) := by
    simp [Head.badSegment, hframe, hout, hphase, hty, hc, hl]
  unfold State.segDefect
  rw [hseg]
  dsimp only
  rw [OutReq.part_none hparts, if_neg (by simp), State.segBad_again hframe hphase (by simp [hnaks]), hnaks]
  rfl

end

/-! ## A whole response of an HSP frame (02 R67, 08 R276, R297) -/

section
variable {x : HspFrame} {o : OutReq} {b : List Byte}

theorem OutReq.body_unpassed (hpassed : o.passed = 0) : o.body = [] := by
  simp [OutReq.body, hpassed]

/-- The one segment of a response is passed on, and it is the whole body. -/
theorem OutReq.pass_only (hpassed : o.passed = 0) (hparts : o.parts = []) :
    let o' := { o with parts := [(0, false, b)], passed := 1 }
    OutReq.pass 16 { o with parts := o.parts ++ [(0, false, b)] } [] = (o', b, true) ∧ o'.body = b := by
  simp [OutReq.pass, OutReq.part, OutReq.body, hpassed, hparts]

/-- The Headstock after a whole response `b` to the frame `x`: it goes out after a wait byte and 0xA5, and ends the frame. -/
theorem Head.segGood_only (h : Head) (u : UnitInfo) (hpassed : o.passed = 0) (hparts : o.parts = []) (hb : b ≠ []) :
    ∃ o' : OutReq, h.segGood u x o 0 false b = Head.complete
      { h with
        drive := h.drive ++ (single [0x00, 0xA5] ++ bodyLanes (frQuad x.fr) 0 b)
        out := some o'
        frame := some { x with phase := .data } } u x b := by
  obtain ⟨hpass, hbody⟩ := OutReq.pass_only (b := b) hpassed hparts
  refine ⟨{ o with parts := [(0, false, b)], passed := 1 }, ?_⟩
  have hdriven : x.driven o.body.length b = single [0x00, 0xA5] ++ bodyLanes (frQuad x.fr) 0 b := by
    simp [HspFrame.driven, OutReq.body_unpassed hpassed, hb]
  unfold Head.segGood
  rw [OutReq.part_none hparts, hpass]
  dsimp only
  rw [hdriven, hbody]
  rfl

/-- An entry just put is found. -/
theorem Head.entry_putEntry (h : Head) (c : Fin 8) {e : DupEntry} {q : Byte} (hq : e.seq = q) : (h.putEntry c e).entry c q = some e := by
  simp [Head.entry, Head.putEntry, hq]

/-- The end of a frame leaves the duplicate table. -/
theorem Head.entry_last_ended (h : Head) (u : UnitInfo) (d : List Driven) (fr : Frame) (st : Nat) (c : Fin 8) (q : Byte) :
    ((h.ended d).last u fr st).entry c q = h.entry c q := rfl

/-- A response with status OK makes its entry. -/
theorem Head.learn_ok (h : Head) (op : HspOp) (f : Frame) (hst : b.getD 0 0 = 0) :
    h.learn op f b = h.putEntry (frCh f) ⟨f.seq, frameChk op f, true, 0, BitVec.ofNat 32 (leNat ((b.drop 2).take 4)),
      ((b.drop 6).take (b.length - 10)).length, ((b.drop 6).take (b.length - 10)).take 64⟩ := by
  unfold Head.learn
  rw [hst]
  rfl

/-- A response with status OK ends the frame and is entered. -/
theorem Head.complete_ok (h : Head) (u : UnitInfo) (hst : b.getD 0 0 = 0) :
    h.complete u x b = ((h.learn x.op x.fr b).ended []).last u x.fr 0 := by
  unfold Head.complete
  rw [hst]
  rfl

end

/-- What the end of a frame leaves to be seen of it. -/
theorem State.segArrives_whole {s : State} {x : HspFrame} {o : OutReq} {b : List Byte} (hframe : s.hs.frame = some x)
    (hout : s.hs.out = some o) (hphase : x.phase = .waiting) (hparts : o.parts = []) (hpassed : o.passed = 0) (hb : b ≠ [])
    (hst : b.getD 0 0 = 0) :
    ∃ h : Head, s.segArrives false o.cstr o.lseq 0 false b = { s with hs := h }
      ∧ h.drive = s.hs.drive ++ single [0x00, 0xA5] ++ bodyLanes (frQuad x.fr) 0 b
      ∧ h.frame = some { x with phase := .over } ∧ h.out = none
      ∧ h.entry (frCh x.fr) x.fr.seq = some ⟨x.fr.seq, frameChk x.op x.fr, true, 0, BitVec.ofNat 32 (leNat ((b.drop 2).take 4)),
          ((b.drop 6).take (b.length - 10)).length, ((b.drop 6).take (b.length - 10)).take 64⟩
      ∧ h.g s.fs.u HSP_STAT.LAST_STATUS = 0 ∧ h.g s.fs.u HSP_STAT.LAST_SEQ = x.fr.seq.toNat := by
  have hawait : s.hs.awaiting o.cstr o.lseq = some (x, o) := by
    simp [Head.awaiting, hframe, hout, hphase]
  obtain ⟨o', hgood⟩ := s.hs.segGood_only s.fs.u (x := x) hpassed hparts hb
  rw [Head.complete_ok _ _ hst, Head.learn_ok _ _ _ hst] at hgood
  refine ⟨s.hs.segGood s.fs.u x o 0 false b, ?_, ?_⟩
  · unfold State.segArrives
    rw [if_neg (by decide), hawait]
  · rw [hgood]
    refine ⟨?_, rfl, rfl, (Head.entry_last_ended ..).trans (Head.entry_putEntry _ _ rfl), Head.last_status _ _ _ _, Head.last_seq _ _ _ _⟩
    change s.hs.drive ++ (single [0x00, 0xA5] ++ bodyLanes (frQuad x.fr) 0 b) ++ [] = _
    rw [List.append_nil, List.append_assoc]

/-! ## Responses that no frame waits for (01 R22, 02 R71, 08 R313) -/

section
variable {s : State} (l : Half) (k : Nat) (b : List Byte)

/-- Between transactions the response waits. -/
theorem State.segArrives_idle (mb : Bool) (c : Nat) (hframe : s.hs.frame = none) (hphase : s.hs.mb.phase = .idle)
    (hpush : s.hs.mb.push ≠ .fetching) : s.segArrives mb c l k false b = s.buffer ⟨mb, c, l, .body b⟩ := by
  cases mb with
  | true => simp [State.segArrives, Head.mbClocked, hphase, hpush]
  | false => simp [State.segArrives, Head.awaiting, hframe]

/-- A response of another request is counted. -/
theorem State.segArrives_other {x : HspFrame} {o : OutReq} {c : Nat} (hframe : s.hs.frame = some x) (hout : s.hs.out = some o)
    (hne : o.cstr ≠ c ∨ o.lseq ≠ l) :
    s.segArrives false c l k false b = { s with hs := s.hs.inc s.fs.u HSP_LNK.RSP_DISCARD } := by
  have hawait : s.hs.awaiting c l = none := by
    rcases hne with h | h <;> simp [Head.awaiting, hframe, hout, h]
  simp [State.segArrives, hawait, hframe, State.stray]

theorem exec_frameAbort_late {c : Nat} {k : Nat} (hpow : s.hs.powered = true) (hframe : s.hs.frame = none) (hk : k < 12)
    (hbuf : s.rxBuf = [⟨false, c, l, .body b⟩]) :
    exec (.frameAbort k) s =
      .next { s with rxBuf := [], hs := (s.hs.inc s.fs.u HSP_LNK.RSP_DISCARD).inc s.fs.u HSP_CNT_A.ABORTED } := by
  change execFrameAbort k s = _
  unfold execFrameAbort
  rw [hframe]
  dsimp only
  rw [if_pos (by simp [hpow, hk])]
  unfold State.takeLateHsp
  rw [hbuf]
  rfl

end

/-! ## NAK_F (02 R63 to R65) -/

/-- The end of a frame in the error form with PCRC_ERR is counted. -/
theorem Head.endError_pcrcErr (h : Head) (u : UnitInfo) (fr : Frame) (w : List Byte) :
    (h.endError u fr w pcrcErr).g u HSP_CNT_B.PCRC_ERR = satInc HSP_CNT_B.PCRC_ERR.width (h.g u HSP_CNT_B.PCRC_ERR) := by
  unfold Head.endError Head.countEnd
  rw [Head.last_g_ne _ _ _ _ (by decide), if_pos rfl, Head.g_inc _ _ (by decide)]
  rfl

theorem Head.endError_frame {h : Head} {x : HspFrame} (u : UnitInfo) (fr : Frame) (w : List Byte) (hframe : h.frame = some x) :
    (h.endError u fr w pcrcErr).frame = some { x with phase := .over } := by
  change h.frame.map (fun x => { x with phase := .over }) = _
  rw [hframe]
  rfl

/-- NAK_F before 0xA5 ends the frame of the request it names with PCRC_ERR; no request of the bus is outstanding. -/
theorem State.nakF_ends {s : State} {x : HspFrame} {o : OutReq} (hframe : s.hs.frame = some x) (hout : s.hs.out = some o)
    (hphase : x.phase = .waiting) (hpassed : o.passed = 0) (hmb : s.hs.mb.out = none) :
    (s.nakHspReq true o.cstr o.lseq).nakMbReq true o.cstr o.lseq = { s with hs := s.hs.endError s.fs.u x.fr [0x00] pcrcErr } := by
  have hreq : s.nakHspReq true o.cstr o.lseq = { s with hs := s.hs.endError s.fs.u x.fr [0x00] pcrcErr } := by
    unfold State.nakHspReq
    rw [hframe, hout]
    dsimp only
    rw [if_pos (by simp [hphase])]
    unfold Head.nakHsp
    rw [if_pos hpassed]
  have hnone : (s.hs.endError s.fs.u x.fr [0x00] pcrcErr).mb.out = none := hmb
  rw [hreq]
  unfold State.nakMbReq
  dsimp only
  rw [hnone]

/-! ## A response of the management bus (09 R328) -/

/-- The response of a read ends the transaction that holds SCL. -/
theorem Head.mbOutcome_read {h : Head} {x : MbTxn} {o : OutReq} {cmd : MbCmd} (u : UnitInfo) (now st : Nat) (d : List Byte) (hc : o.cstr = 8)
    (htxn : h.mb.txn = some x) (hphase : h.mb.phase = .response) (hkind : x.kind = .read) (hcmd : x.cmd = mbCode cmd) :
    h.mbOutcome u now o st d = ({ h with mb := { h.mb with out := none } } : Head).mbRead u cmd st d := by
  unfold Head.mbOutcome Head.mbDone
  rw [if_neg (by omega), htxn]
  dsimp only
  rw [if_neg (by rw [hphase]; decide), hkind, hcmd, mbOf_mbCode]

theorem State.segArrives_mb {s : State} {o : OutReq} (k : Nat) {d : List Byte} (hd : d.length < 256) (hphase : s.hs.mb.phase = .response)
    (hout : s.hs.mb.out = some o) :
    s.segArrives true o.cstr o.lseq k false (mbResponse okSt d) = { s with hs := s.hs.mbOutcome s.fs.u s.fs.now o okSt d } := by
  have hlen : ((mbResponse okSt d).getD 1 0).toNat = d.length := by
    change (BitVec.ofNat 8 d.length).toNat = d.length
    rw [BitVec.toNat_ofNat, Nat.mod_eq_of_lt hd]
  have hdata : ((mbResponse okSt d).drop 2).take d.length = d := List.take_length
  unfold State.segArrives
  dsimp only
  rw [if_pos rfl, if_neg (by simp [Head.mbClocked, hphase]), hout]
  dsimp only
  rw [if_pos (by simp), hlen, hdata]
  rfl

/-- What a transaction of the bus that is acknowledged to its end leaves to be seen. -/
theorem Head.mbAck_stat (h : Head) (u : UnitInfo) (cmd : Byte) (res : Nat) (d : List Byte) :
    (h.mbAck u cmd res d).g u MBUS_STAT.LAST_RESULT = res % 2 ^ 8 ∧ (h.mbAck u cmd res d).g u MBUS_STAT.LAST_CMD = cmd.toNat := by
  let hc := h.p u MBUS_STAT.LAST_CMD cmd.toNat
  refine ⟨hc.g_p (f := MBUS_STAT.LAST_RESULT) u res (by decide), ?_⟩
  refine (hc.g_p_apart (f := MBUS_STAT.LAST_RESULT) (g := MBUS_STAT.LAST_CMD) u res (by decide) (by decide) rfl (by decide)).trans ?_
  exact (h.g_p (f := MBUS_STAT.LAST_CMD) u cmd.toNat (by decide)).trans (Nat.mod_eq_of_lt cmd.isLt)

/-! ## The obligation, clause by clause -/

section
variable {s : State} {rx : Rx}

theorem nakH_retransmits {c : Fin 10} {l : Half} {r : Nat} {ins : Bool} {body : List Byte} {rest : List H2F}
    (hlane : s.h2f = .nakH c.val l 0 r ins :: rest) {r' : Nat} {i' : Bool}
    (hgood : (H2F.nakH c.val l 0 r ins).heard rx = .good (.nakH c.val l 0 r' i')) (hserves : s.fs.serves = true)
    (hsent : s.fs.link.sent[c.val] = some (l, body)) :
    exec (.nakH rx) s = .next (State.pump { s with h2f := rest, fs := (Tail.finish
      { ((s.fs.carriedH2F (.nakH c.val l 0 r ins)).inc BLNK_RETX.NAK_RX).evt 0x03 1 with
        link := { (s.fs.carriedH2F (.nakH c.val l 0 r ins)).link with
          prio := (s.fs.carriedH2F (.nakH c.val l 0 r ins)).link.prio
            ++ [.seg (decide (8 ≤ c.val)) c.val l 0 (decide (512 < body.length)) true (body.take 512)] } }) }) := by
  have hc : Fin.ofNat 16 c.val = ⟨c.val, by omega⟩ := Fin.ext (Nat.mod_eq_of_lt (by omega))
  have hsent' : (s.fs.carriedH2F (.nakH c.val l 0 r ins)).link.sent[Fin.ofNat 16 c.val] = some (l, body) := by
    simp only [hc]
    exact hsent
  rw [exec_nakH rx hlane, Tail.hears_good hserves hgood, Tail.take, Tail.retransmit_first hsent']
  rfl

/-- The response of a read of the bus, as the Headstock shows it. -/
theorem segArrives_endsRead {l : Half} {cmd : MbCmd} {x : MbTxn} {o : OutReq} {d : List Byte} (hd : d.length < 256)
    (hout : s.hs.mb.out = some o) (hc : o.cstr = 8) (hl : o.lseq = l) (htxn : s.hs.mb.txn = some x) (hphase : s.hs.mb.phase = .response)
    (hkind : x.kind = .read) (hcmd : x.cmd = mbCode cmd) :
    ∃ h : Head, s.segArrives true 8 l 0 false (mbResponse okSt d) = { s with hs := h } ∧ h.mb.phase = .idle ∧ h.mb.out = none
      ∧ h.mb.txn = none ∧ h.mb.cellT = none ∧ h.mb.acked = true ∧ h.mb.drive = s.hs.readBytes (mbCode cmd) (mbReads cmd = some true) d
      ∧ h.g s.fs.u MBUS_STAT.LAST_RESULT = 0 ∧ h.g s.fs.u MBUS_STAT.LAST_CMD = (mbCode cmd).toNat := by
  have harrives := State.segArrives_mb 0 hd hphase hout
  rw [Head.mbOutcome_read _ _ _ _ hc htxn hphase hkind hcmd, hc, hl] at harrives
  exact ⟨_, harrives, rfl, rfl, rfl, rfl, rfl, rfl, Head.mbAck_stat ..⟩

end

/-- Settles O46: at the field side a NAK_H is a retransmission; at the Headstock each clause is what `State.reacts` makes of what is heard. -/
theorem linkSegments : Obligations.LinkSegments := by
  refine ⟨fun c l r ins body rx rest s hlane ⟨r', i', hgood⟩ hserves hsent => nakH_retransmits hlane hgood hserves hsent,
    openMessageTimeout_settles, fun x o s hframe hout hphase hnaks hparts => ?_,
    fun c l retx b rx x o s hlane hgood hpow hframe hout hphase hc hl hparts hpassed hb hst => ?_,
    fun c l k more retx b rx reason g x o s hlane hbad hty hc hl hpow hframe hout hphase hoc hol hparts hnaks => ?_,
    fun mb c l k retx b rx s hlane hgood hpow hframe hphase hpush => ?_,
    fun c l b k s hpow hframe hk hbuf => exec_frameAbort_late l b hpow hframe hk hbuf,
    fun c l k retx b rx x o s hlane hgood hpow hframe hout hne => ?_,
    fun c l reason rx x o s hlane hgood hpow hframe hout hphase hc hl hpassed hmb => ?_,
    fun l retx cmd x o d rx s hlane hgood hpow hd hout hc hl htxn hphase hkind hcmd => ?_⟩
  · rw [exec_nakHRepeat hframe hout hphase hnaks hparts, State.segBad_again hframe hphase (by simp [hnaks]), hnaks]
    rfl
  · obtain ⟨h, harrives, hseen⟩ := State.segArrives_whole (s := { s with f2h := [] }) hframe hout hphase hparts hpassed hb hst
    rw [hc, hl] at harrives
    refine ⟨h, (exec_rsp (mb := false) hpow hlane rx).trans ?_, hseen⟩
    rw [hgood, State.reacts, harrives]
  · refine (exec_rsp (mb := false) hpow hlane rx).trans ?_
    subst hoc hol
    rw [hbad, State.reacts, State.segDefect_again (s := { s with f2h := [] }) hframe hout hphase hparts hnaks reason hty hc hl]
  · refine (exec_rsp hpow hlane rx).trans ?_
    rw [hgood, State.reacts, State.segArrives_idle (s := { s with f2h := [] }) l k b mb c hframe hphase hpush]
    rfl
  · refine (exec_rsp (mb := false) hpow hlane rx).trans ?_
    rw [hgood, State.reacts, State.segArrives_other (s := { s with f2h := [] }) l k b hframe hout hne]
  · subst hc hl
    refine ⟨s.hs.endError s.fs.u x.fr [0x00] pcrcErr, (exec_nakF hpow hlane rx).trans ?_, rfl,
      Head.endError_frame _ _ _ hframe, rfl, rfl, Head.endError_pcrcErr ..⟩
    rw [hgood, State.reacts, State.nakF_ends (s := { s with f2h := [] }) hframe hout hphase hpassed hmb]
  · obtain ⟨h, harrives, hseen⟩ := segArrives_endsRead (s := { s with f2h := [] }) hd hout hc hl htxn hphase hkind hcmd
    refine ⟨h, (exec_rsp (mb := true) hpow hlane rx).trans ?_, hseen⟩
    rw [hgood, State.reacts, harrives]

end Sys2Proof.Machine
end

section
/-! What the end of a step does to the field side, step by step: a property that each step keeps, the end of a step keeps (10, 06
section 7); no latch is cleared by it. -/

namespace Sys2Proof.Machine

/-! ## Pairs of records (06 R223) -/

section
variable {P : Tail → Prop} (hP : Tail.RecordKeeps P)
include hP

/-- A record of any producer for a stream, of its own or of a pair. -/
theorem Tail.RecordKeeps.appendRec {t : Tail} (w : Producer) {k : Nat} (hk : k < 256) (r : HeldRec) (h : P t) :
    P (t.appendRec w k r).2 := by
  unfold Tail.appendRec
  split
  · exact h
  · have ha := hP.appendAs w k r (hP.descRead hk h)
    dsimp only
    split
    · exact hP.sysWrites _ _ ha
    · exact ha

theorem Tail.RecordKeeps.roomFor {t : Tail} (k n : Nat) (h : P t) : P (t.roomFor k n) := by
  unfold Tail.roomFor
  split
  · exact hP.makeRoom k n h
  · exact h

theorem Tail.RecordKeeps.eventPair {t : Tail} {k : Nat} (hk : k < 256) (d : List Byte) (h : P t) :
    P (t.eventPair k d) := by
  unfold Tail.eventPair
  exact hP.appendRec _ hk _ (hP.appendRec _ (by decide) _ (hP.roomFor _ _ (hP.roomFor _ _ h)))

end

/-! ## The steps at the end of a step -/

/-- The status registers that the settling of states (`settleRegs`) and a trigger of the trace by a latch (14 R552) may write. -/
def endRegs : List Nat := settleRegs ++ [TRC_STAT.STATE.addr, TRC_TFT_LO.FT.addr, TRC_TFT_HI.FT.addr, TRC_TSSEQ.SSEQ.addr]

/-- `P` is kept by each step that the end of a step may consist of: those of a record, and changes of the states that settle, of the log
and of the trace engine. -/
structure Tail.EndKeeps (P : Tail → Prop) : Prop extends Tail.RecordKeeps P where
  status : ∀ (t : Tail) (f : Fd) (x : Nat), endRegs.contains f.addr = true → P t → P (t.p f x)
  station : ∀ (t : Tail) (n : Stn) (g : Station → Station), P t → P (t.stnMap n g)
  unit : ∀ (t : Tail) (us : UnitSt), P t → P { t with us := us }
  group : ∀ (t : Tail) (v : Vector Grp 2), P t → P { t with grp := v }
  diag : ∀ (t : Tail) (d : Diag), P t → P { t with diag := d }
  trace : ∀ (t : Tail) (c : Trc), P t → P { t with trc := c }
  log : ∀ (t : Tail) (l : EvtLog), P t → P { t with log := l }
  ssn : ∀ (t : Tail) (n : Word), P t → P { t with ssn := n }

theorem endRegs_of_settleRegs {a : Nat} (h : settleRegs.contains a = true) : endRegs.contains a = true := by
  simp only [List.contains_iff_mem] at h ⊢
  exact List.mem_append_left _ h

theorem endRegs_stn (n : Stn) : endRegs.contains (STN_STAT.PREV n).addr = true ∧ endRegs.contains (STN_STAT.CAUSE n).addr = true
    ∧ endRegs.contains (ISNS_STAT.CAL_STATE n).addr = true ∧ endRegs.contains (BNKA_STAT.ACT_CUR n).addr = true := by
  obtain ⟨hprev, hcause, hcal, hact⟩ := settleRegs_stn n
  exact ⟨endRegs_of_settleRegs hprev, endRegs_of_settleRegs hcause, endRegs_of_settleRegs hcal, endRegs_of_settleRegs hact⟩

section
variable {P : Tail → Prop} (hP : Tail.EndKeeps P)
include hP

theorem Tail.EndKeeps.evt {t : Tail} (p i : Nat) (h : P t) : P (t.evt p i) := hP.latch t p i none h

/-! ## Station states -/

theorem Tail.EndKeeps.setSt {t : Tail} (n : Stn) (st : StnSt) (h : P t) : P (t.setSt n st) := by
  unfold Tail.setSt
  split
  · exact h
  · exact hP.station _ _ _ (hP.status _ _ _ (endRegs_stn n).1 h)

theorem Tail.EndKeeps.swapTo {t : Tail} (n : Stn) (cur so : Option Bool) (src bit : Nat) (h : P t) : P (t.swapTo n cur so src bit) := by
  obtain ⟨-, -, -, hact⟩ := endRegs_stn n
  unfold Tail.swapTo
  dsimp only
  split
  · exact h
  · exact hP.evt _ _ (hP.status _ (BNKA_STAT.LAST_SRC n) _ hact (hP.status _ (BNKA_STAT.SWAPS n) _ hact
      (hP.status _ (BNKA_STAT.ACT_SO n) _ hact (hP.status _ (BNKA_STAT.ACT_CUR n) _ hact h))))

theorem Tail.EndKeeps.banksIdle {t : Tail} (n : Stn) (h : P t) : P (t.banksIdle n) := by
  unfold Tail.banksIdle Tail.swapHost
  dsimp only
  split
  · exact hP.station _ _ _ h
  · exact hP.swapTo n _ _ _ _ (hP.status _ (BNKA_STAT.HPEND n) _ (endRegs_stn n).2.2.2 (hP.station _ _ _ h))

theorem Tail.EndKeeps.endBlocks {t : Tail} (n : Stn) (h : P t) : P (t.endBlocks n) := by
  have hb := fun g g' => hP.station _ n g' (hP.station t n g h)
  unfold Tail.endBlocks
  dsimp only
  split
  · exact hP.evt _ _ (hb _ _)
  · exact hb _ _

theorem Tail.EndKeeps.blockGates {t : Tail} (n : Stn) (h : P t) : P (t.blockGates n) := by
  unfold Tail.blockGates
  dsimp only
  exact hP.station _ _ _ h

theorem Tail.EndKeeps.gateUpdate {t : Tail} (n : Stn) (h : P t) : P (t.gateUpdate n) := by
  unfold Tail.gateUpdate
  extract_lets _ _ t1
  have h1 : P t1 := by
    unfold t1
    split
    · exact h
    · exact hP.station _ _ _ h
  split
  · split
    · exact h1
    · exact hP.blockGates n h1
  · exact h1

theorem Tail.EndKeeps.renderStop {t : Tail} (n : Stn) (h : P t) : P (t.renderStop n) := by
  unfold Tail.renderStop
  split
  · exact h
  · exact hP.evt _ _ (hP.station _ _ _ h)

theorem Tail.EndKeeps.leaveRunning {t : Tail} (n : Stn) (st : StnSt) (h : P t) : P (t.leaveRunning n st) := by
  unfold Tail.leaveRunning
  extract_lets t1 t2
  have h1 : P t1 := hP.renderStop n h
  have h2 : P t2 := by
    unfold t2
    split
    · exact h1
    · exact hP.endBlocks n h1
  exact hP.gateUpdate n (hP.station _ _ _ (hP.station _ _ _ (hP.station _ _ _ (hP.banksIdle n (hP.station _ _ _ (hP.setSt n st h2))))))

theorem Tail.EndKeeps.enterFaulted {t : Tail} (n : Stn) (c : Nat) (h : P t) : P (t.enterFaulted n c) := by
  unfold Tail.enterFaulted
  split
  · exact h
  · have h1 := hP.evt (stnPage n 0) 0 (hP.station _ n (fun s => { s with isns := { s.isns with cal := .none, calT := none } })
      (hP.status _ (STN_STAT.CAUSE n) c (endRegs_stn n).2.1 (hP.leaveRunning n .faulted h)))
    dsimp only
    split
    · exact hP.evt _ _ h1
    · split
      · exact hP.evt _ _ h1
      · exact h1

theorem Tail.EndKeeps.calBegin {t : Tail} (n : Stn) (why : CalFor) (h : P t) : P (t.calBegin n why) :=
  hP.status _ _ _ (endRegs_stn n).2.2.1 (hP.station _ _ _ h)

theorem Tail.EndKeeps.calAbandon {t : Tail} (n : Stn) (h : P t) : P (t.calAbandon n) := by
  unfold Tail.calAbandon
  split
  · exact h
  · exact hP.station _ _ _ h
  · exact hP.status _ _ _ (endRegs_stn n).2.2.1 (hP.station _ _ _ h)

theorem Tail.EndKeeps.settleStn {t : Tail} (n : Stn) (h : P t) : P (t.settleStn n) := by
  unfold Tail.settleStn
  dsimp only
  split
  · exact h
  · split
    · split
      · split
        · exact hP.calBegin n _ h
        · exact h
      · split
        · exact hP.calAbandon n h
        · exact h
    · split
      · exact h
      · exact hP.calAbandon n (hP.leaveRunning n _ h)
    · exact h

/-! ## The diagnostic sequence -/

theorem Tail.EndKeeps.diagReturn {t : Tail} (n : Stn) (h : P t) : P (t.diagReturn n) := by
  unfold Tail.diagReturn
  split
  · exact hP.setSt n _ h
  · exact h

theorem Tail.EndKeeps.diagPut {t : Tail} (s r : Nat) (h : P t) : P (t.diagPut s r) := by
  unfold Tail.diagPut
  dsimp only
  split
  · exact hP.status _ _ _ (by decide) h
  · exact hP.status _ _ _ (by decide) h

theorem Tail.EndKeeps.diagAbort {t : Tail} (h : P t) : P t.diagAbort := by
  unfold Tail.diagAbort
  split
  · exact h
  · extract_lets _ t1 _ _ t2
    have h1 : P t1 := by
      unfold t1
      split
      · exact hP.diagPut _ _ h
      · exact h
    have h2 : P t2 := hP.diag _ _ (hP.status _ DIAG_CNT.ABORTS _ (by decide) (hP.status _ DIAG_STAT.STATE 4 (by decide) h1))
    exact hP.diagReturn _ (hP.evt _ _ h2)

theorem Tail.EndKeeps.diagSettle {t : Tail} (h : P t) : P t.diagSettle := by
  unfold Tail.diagSettle
  dsimp only
  split
  · split
    · exact hP.diagAbort h
    · exact h
  · exact List.foldlRecOn _ _ h fun _ hr n _ => hP.diagReturn n hr

/-! ## The unit state -/

theorem Tail.EndKeeps.setUnit {t : Tail} (us : UnitSt) (h : P t) : P (t.setUnit us) := by
  unfold Tail.setUnit
  split
  · exact h
  · exact hP.unit _ _ (hP.status _ _ _ (by decide) (hP.status _ _ _ (by decide) h))

theorem Tail.EndKeeps.enterFault {t : Tail} (h : P t) : P t.enterFault := by
  unfold Tail.enterFault
  refine List.foldlRecOn _ _ (List.foldlRecOn _ _ (hP.evt _ _ (hP.evt _ _ (hP.setUnit .fault h))) fun r hr n _ => ?_) fun r hr g _ => ?_
  · split
    · exact hP.enterFaulted n 1 hr
    · exact hr
  · split
    · exact hP.status _ _ _ (by decide) (hP.group _ _ hr)
    · exact hr

theorem Tail.EndKeeps.settleUnit {t : Tail} (h : P t) : P t.settleUnit := by
  unfold Tail.settleUnit
  split
  · exact hP.enterFault h
  · split
    · split
      · exact hP.setUnit _ h
      · exact h
    · split
      · exact h
      · exact hP.setUnit _ h
    · split
      · exact h
      · exact hP.setUnit _ h
    · exact h

theorem Tail.EndKeeps.settle {t : Tail} (h : P t) : P t.settle := by
  have hstns : P (t.diagSettle.stns.foldl (fun t n => t.settleStn n) t.diagSettle) :=
    List.foldlRecOn _ _ (hP.diagSettle h) fun _ hr n _ => hP.settleStn n hr
  unfold Tail.settle
  exact List.foldlRecOn _ _ (hP.settleUnit (hP.diagSettle hstns)) fun _ hr n _ => hP.gateUpdate n hr

/-! ## The log -/

theorem Tail.EndKeeps.trcEvent {t : Tail} (e : PendEvt) (index ssn : Word) (h : P t) : P (t.trcEvent e index ssn) := by
  unfold Tail.trcEvent
  dsimp only
  split
  · exact hP.evt _ _ (hP.trace _ _ (hP.status _ _ _ (by decide) (hP.status _ _ _ (by decide) (hP.status _ _ _ (by decide)
      (hP.status _ _ _ (by decide) (hP.status _ _ _ (by decide) (hP.status _ _ _ (by decide) h)))))))
  · exact h

theorem Tail.EndKeeps.seal {t : Tail} (h : P t) : P t.seal := hP.log _ _ h

theorem Tail.EndKeeps.logEvent {t : Tail} (e : PendEvt) (h : P t) : P (t.logEvent e) := by
  unfold Tail.logEvent Tail.commit
  refine hP.seal ?_
  beta_reduce
  extract_lets _ _ _ t1 t2
  have h2 : P t2 := hP.trcEvent e _ _ (hP.log _ _ (hP.ssn _ _ h))
  split
  · next hpage =>
    simp only [Bool.and_eq_true, decide_eq_true_eq] at hpage
    exact hP.eventPair (by omega) _ h2
  · exact hP.record _ (by decide) _ _ _ h2

theorem Tail.EndKeeps.flush (n : Nat) : ∀ {t : Tail}, P t → P (Tail.flush n t) := by
  induction n with
  | zero => exact fun h => h
  | succ n ih =>
    intro t h
    unfold Tail.flush
    split
    · exact h
    · exact ih (hP.logEvent _ (hP.log _ _ h))

theorem Tail.EndKeeps.logAll {t : Tail} (h : P t) : P t.logAll := by
  unfold Tail.logAll
  split
  · exact hP.flush _ h
  · exact hP.seal h

/-- The end of a step keeps what each of its steps keeps. -/
theorem Tail.EndKeeps.finish {t : Tail} (h : P t) : P t.finish := hP.logAll (hP.settle h)

end

/-! ## Latches at the end of a step (00 R11) -/

theorem Tail.endKeeps_latches (o : Tail) : Tail.EndKeeps o.KeepsLatches where
  toRecordKeeps := Tail.recordKeeps_latches o
  status _ f x hf h := h.p x ((by decide : ∀ a ∈ endRegs, notLatch a = true) f.addr (List.contains_iff_mem.mp hf))
  station _ _ _ h := h.of_regs rfl rfl
  unit _ _ h := h.of_regs rfl rfl
  group _ _ h := h.of_regs rfl rfl
  diag _ _ h := h.of_regs rfl rfl
  trace _ _ h := h.of_regs rfl rfl
  log _ _ h := h.of_regs rfl rfl
  ssn _ _ h := h.of_regs rfl rfl

/-- The end of a step clears no latch. -/
theorem Tail.keepsLatches_finish (t : Tail) : t.KeepsLatches t.finish := (Tail.endKeeps_latches t).finish (.refl t)

end Sys2Proof.Machine
end

section
/-! Time without a command (03 R93): O2. -/

namespace Sys2Proof.Machine

/-- A tick is one tick of Field Time, or, while it stands, one cycle of CLK_AON. -/
theorem Tail.tick_eq (t : Tail) : t.tick = { t with
    now := t.now + (if t.clk.ftRun then 1 else 400)
    ft := if t.clk.ftRun then t.ft + 1 else t.ft } := by
  unfold Tail.tick us1
  rw [Tail.elapse_eq]
  split <;> rfl

/-- Settles O2: with the queue empty a step is a tick of the field side. -/
theorem emptyQueueTicks : Obligations.EmptyQueueTicks := by
  intro s hempty
  unfold step State.tail
  rw [hempty]
  dsimp only
  rw [Tail.tick_eq]

end Sys2Proof.Machine
end

section
/-! Clocks, the replicas of Field Time and the crossings (03): O8. -/

namespace Sys2Proof.Machine

/-! ## What the end of a step leaves of clocks and crossings -/

/-- `r` has the time, the clocks, the always-on domain and the running values of `t`. -/
structure Tail.KeepsClocks (t r : Tail) : Prop where
  now : r.now = t.now
  ft : r.ft = t.ft
  clk : r.clk = t.clk
  aon : r.aon = t.aon
  ds : r.ds = t.ds

theorem Tail.KeepsClocks.trans {o t r : Tail} (h : o.KeepsClocks t) (h' : t.KeepsClocks r) : o.KeepsClocks r :=
  ⟨h'.now.trans h.now, h'.ft.trans h.ft, h'.clk.trans h.clk, h'.aon.trans h.aon, h'.ds.trans h.ds⟩

/-- A write of a register touches none of it. -/
theorem Tail.keepsClocks_p (t : Tail) (f : Fd) (x : Nat) : t.KeepsClocks (t.p f x) := ⟨rfl, rfl, rfl, rfl, rfl⟩

theorem Tail.Frames.keepsClocks {t r : Tail} (h : t.Frames r) : t.KeepsClocks r where
  now := show r.kept.now = t.kept.now by rw [h.1]
  ft := show r.kept.ft = t.kept.ft by rw [h.1]
  clk := show r.kept.clk = t.kept.clk by rw [h.1]
  aon := show r.kept.aon = t.kept.aon by rw [h.1]
  ds := show r.kept.ds = t.kept.ds by rw [h.1]

theorem Tail.frames_finish (t : Tail) : t.Frames t.finish := Tail.frames_logAll (Tail.frames_settle (.rfl t))

/-- A field that neither the log nor the settling of states writes reads after the end of a step as before. -/
theorem Tail.finish_g (t : Tail) {f : Fd} (hlog : logReg f.addr = false) (hsettle : settleRegs.contains f.addr = false) :
    t.finish.g f = t.g f := by
  unfold Tail.g
  rw [(t.frames_finish.2 f.addr hlog hsettle).1]

theorem Tail.word_evt_ne (t : Tail) (p i : Nat) {a : Nat} (h : a ≠ (PG_EVT.EVT p).addr) : (t.evt p i).word a = t.word a := by
  unfold Tail.evt Tail.evtV
  split
  · rfl
  · exact t.word_p_ne _ h

/-! ## PLL loss (03 R115) -/

theorem pllUnlock_settles (s : State) :
    (s.fs.clk.pllA = true → Settles (.pllUnlock false) s (({ s.fs with clk := { s.fs.clk with pllA := false } }).evt 0x05 4))
    ∧ (s.fs.clk.pllB = true → Settles (.pllUnlock true) s (({ s.fs with clk := { s.fs.clk with pllB := false } }).evt 0x05 4)) := by
  refine ⟨fun h => settles_of_tail _ rfl ((if_pos h).trans ?_), fun h => settles_of_tail _ rfl ((if_pos h).trans ?_)⟩
  · simp only [Bool.and_false, Bool.not_false, Bool.and_true]
  · simp only [Bool.and_true, Bool.not_true, Bool.and_false]

/-! ## Replicas of Field Time (03 R96, R97) -/

/-- The check of a replica reloads it where it stands more than one period of its clock off. -/
theorem Replica.check_eq {r : Replica} {pat : Nat → Nat} {num den : Nat} {d : Int} {ft : DWord} {slip : Bool}
    (h : slip = true ↔ num < r.off pat d ft * den) : r.check pat num den d ft = (r.next slip d ft, slip) := by
  have hslip : slipped (({ r with gain := r.gain + d } : Replica).value pat ft - ft).toInt num den = slip :=
    Bool.eq_iff_iff.mpr (decide_eq_true_iff.trans h.symm)
  unfold Replica.check Replica.next
  dsimp only
  rw [hslip]
  cases slip <;> rfl

section
variable {f g : Fd} {t : Tail}

theorem Tail.slip_keepsClocks (t : Tail) (f : Fd) (slip : Bool) : t.KeepsClocks (t.slip f slip) := by
  cases slip with
  | false => exact ⟨rfl, rfl, rfl, rfl, rfl⟩
  | true => exact (t.keepsClocks_p f _).trans (Tail.frames_evt 0x05 3 (.rfl (t.inc f))).keepsClocks

/-- A slip is counted in its own field. -/
theorem Tail.slip_g (slip : Bool) (h : f.ok ∧ f.addr ≠ (PG_EVT.EVT 0x05).addr) :
    (t.slip f slip).g f = if slip then satInc f.width (t.g f) else t.g f := by
  cases slip with
  | false => rfl
  | true => exact ((t.inc f).g_evt_ne 0x05 3 h.2).trans (t.g_inc h.1)

/-- A slip leaves the counters of the others. -/
theorem Tail.slip_g_apart (slip : Bool) (h : f.ok ∧ g.ok ∧ f.apart g ∧ g.addr ≠ (PG_EVT.EVT 0x05).addr) :
    (t.slip f slip).g g = t.g g := by
  obtain ⟨hf, hg, hap, hevt⟩ := h
  cases slip with
  | false => rfl
  | true => exact ((t.inc f).g_evt_ne 0x05 3 hevt).trans (t.g_p_apart _ hf hg (.inr hap))

/-- A slip sets the latch, and the latch stays. -/
theorem Tail.slip_latch {slip : Bool} (h : t.evtBit 0x05 3 = true ∨ slip = true) :
    (t.slip f slip).evtBit 0x05 3 = true := by
  cases slip with
  | false => exact h.resolve_right Bool.false_ne_true
  | true => exact (t.inc f).evt_sets 0x05 (by decide)

end

/-- The field side at the check of the replicas, with their slips counted and latched. -/
def Tail.replicasChecked (t : Tail) (ce fb sq : Int) (a b d : Bool) : Tail :=
  ((({ t with clk := { t.clk with
    ce := t.clk.ce.next a ce t.ft, fb := t.clk.fb.next b fb t.ft, sq := t.clk.sq.next d sq t.ft } }.slip
      CLK_FTCHK.CE_SLIP a).slip CLK_FTCHK.FB_SLIP b).slip CLK_FTCHK.SEQ_SLIP d)

theorem ftReplicaCheck_settles {ce fb sq : Int} {s : State} {t : Tail} {a b d : Bool} (hrun : s.fs.clk.ftRun = true)
    (ht : t = s.fs.elapse (2 ^ 20 - s.fs.ft.toNat % 2 ^ 20)) (ha : a = true ↔ 4 < s.fs.clk.ce.off tickCe ce t.ft * 3)
    (hb : b = true ↔ 4 < s.fs.clk.fb.off tickFb fb t.ft) (hd : d = true ↔ 8 < s.fs.clk.sq.off tickSq sq t.ft * 3) :
    Settles (.ftReplicaCheck ce fb sq) s (t.replicasChecked ce fb sq a b d) := by
  have hclk : t.clk = s.fs.clk := by rw [ht, Tail.elapse_clk]
  have hcheck : t.clk.check t.ft ce fb sq = ({ t.clk with
      ce := t.clk.ce.next a ce t.ft, fb := t.clk.fb.next b fb t.ft, sq := t.clk.sq.next d sq t.ft }, a, b, d) := by
    unfold Clocks.check
    rw [hclk, Replica.check_eq ha, Replica.check_eq (hb.trans (by rw [Nat.mul_one])), Replica.check_eq hd]
  refine settles_of_tail _ rfl ((if_pos hrun).trans ?_)
  have hin : s.fs.elapse s.fs.checkIn = t := ht.symm
  dsimp only
  rw [hin, hcheck]
  rfl

/-- What the check leaves of the time and the clocks, of the counters and of the latch. -/
theorem Tail.replicasChecked_fields (t : Tail) (ce fb sq : Int) (a b d : Bool) :
    Tail.KeepsClocks { t with clk := { t.clk with
        ce := t.clk.ce.next a ce t.ft, fb := t.clk.fb.next b fb t.ft, sq := t.clk.sq.next d sq t.ft } }
      (t.replicasChecked ce fb sq a b d)
    ∧ (t.replicasChecked ce fb sq a b d).g CLK_FTCHK.CE_SLIP
      = (if a then satInc CLK_FTCHK.CE_SLIP.width (t.g CLK_FTCHK.CE_SLIP) else t.g CLK_FTCHK.CE_SLIP)
    ∧ (t.replicasChecked ce fb sq a b d).g CLK_FTCHK.FB_SLIP
      = (if b then satInc CLK_FTCHK.FB_SLIP.width (t.g CLK_FTCHK.FB_SLIP) else t.g CLK_FTCHK.FB_SLIP)
    ∧ (t.replicasChecked ce fb sq a b d).g CLK_FTCHK.SEQ_SLIP
      = (if d then satInc CLK_FTCHK.SEQ_SLIP.width (t.g CLK_FTCHK.SEQ_SLIP) else t.g CLK_FTCHK.SEQ_SLIP)
    ∧ (t.evtBit 0x05 3 = true ∨ a || b || d → (t.replicasChecked ce fb sq a b d).evtBit 0x05 3 = true) := by
  unfold Tail.replicasChecked
  refine ⟨(Tail.slip_keepsClocks _ _ _).trans ((Tail.slip_keepsClocks _ _ _).trans (Tail.slip_keepsClocks _ _ _)),
    ?_, ?_, ?_, fun h => ?_⟩
  · rw [Tail.slip_g_apart _ (by decide), Tail.slip_g_apart _ (by decide), Tail.slip_g _ (by decide)]
    rfl
  · rw [Tail.slip_g_apart _ (by decide), Tail.slip_g _ (by decide), Tail.slip_g_apart _ (by decide)]
    rfl
  · rw [Tail.slip_g _ (by decide), Tail.slip_g_apart _ (by decide), Tail.slip_g_apart _ (by decide)]
    rfl
  · simp only [Bool.or_eq_true] at h
    rcases h with h | (h | h) | h
    · exact Tail.slip_latch (.inl (Tail.slip_latch (.inl (Tail.slip_latch (.inl h)))))
    · exact Tail.slip_latch (.inl (Tail.slip_latch (.inl (Tail.slip_latch (.inr h)))))
    · exact Tail.slip_latch (.inl (Tail.slip_latch (.inr h)))
    · exact Tail.slip_latch (.inr h)

theorem ftReplicaCheck_answers (ce fb sq : Int) (s : State) (t : Tail) (a b d : Bool) (hrun : s.fs.clk.ftRun = true)
    (ht : t = s.fs.elapse (2 ^ 20 - s.fs.ft.toNat % 2 ^ 20)) (ha : a = true ↔ 4 < s.fs.clk.ce.off tickCe ce t.ft * 3)
    (hb : b = true ↔ 4 < s.fs.clk.fb.off tickFb fb t.ft) (hd : d = true ↔ 8 < s.fs.clk.sq.off tickSq sq t.ft * 3) :
    Answers (.ftReplicaCheck ce fb sq) s (fun r =>
      r.pending = s.pending ∧ r.hs = s.hs ∧ r.h2f = s.h2f ∧ r.f2h = s.f2h ∧ r.rsp = s.rsp ∧ r.fs.now = t.now ∧ r.fs.ft = t.ft
      ∧ r.fs.clk = { s.fs.clk with
          ce := s.fs.clk.ce.next a ce t.ft, fb := s.fs.clk.fb.next b fb t.ft, sq := s.fs.clk.sq.next d sq t.ft }
      ∧ r.fs.g CLK_FTCHK.CE_SLIP = (if a then satInc CLK_FTCHK.CE_SLIP.width (s.fs.g CLK_FTCHK.CE_SLIP) else s.fs.g CLK_FTCHK.CE_SLIP)
      ∧ r.fs.g CLK_FTCHK.FB_SLIP = (if b then satInc CLK_FTCHK.FB_SLIP.width (s.fs.g CLK_FTCHK.FB_SLIP) else s.fs.g CLK_FTCHK.FB_SLIP)
      ∧ r.fs.g CLK_FTCHK.SEQ_SLIP = (if d then satInc CLK_FTCHK.SEQ_SLIP.width (s.fs.g CLK_FTCHK.SEQ_SLIP) else s.fs.g CLK_FTCHK.SEQ_SLIP)
      ∧ (s.fs.evtBit 0x05 3 = true ∨ a || b || d → r.fs.evtBit 0x05 3 = true)) := by
  have hclk : t.clk = s.fs.clk := by rw [ht, Tail.elapse_clk]
  have hword : ∀ x, t.word x = s.fs.word x := fun x => by unfold Tail.word; rw [ht, Tail.elapse_u, Tail.elapse_regs]
  have hg : ∀ f, t.g f = s.fs.g f := fun f => congrArg (fdGet f) (hword f.addr)
  obtain ⟨hkeeps, hce, hfb, hsq, hlatch⟩ := t.replicasChecked_fields ce fb sq a b d
  have hend := hkeeps.trans (Tail.frames_finish _).keepsClocks
  refine ⟨_, ftReplicaCheck_settles hrun ht ha hb hd, rfl, rfl, rfl, rfl, rfl, hend.now, hend.ft, hclk ▸ hend.clk,
    ?_, ?_, ?_, fun h => ?_⟩
  · exact (Tail.finish_g _ (by decide) (by decide)).trans (by rw [hce, hg])
  · exact (Tail.finish_g _ (by decide) (by decide)).trans (by rw [hfb, hg])
  · exact (Tail.finish_g _ (by decide) (by decide)).trans (by rw [hsq, hg])
  · exact Tail.keepsLatches_finish _ _ _ (hlatch (h.imp_left ((Tail.evtBit_of_word (hword _) 3).trans ·)))

/-! ## Abandoned transfers (03 R112) -/

/-- The first abandoned transfer since its latch was cleared names its crossing. -/
def Tail.firstNamed (t : Tail) (id : Nat) : Tail := if t.evtBit 0x05 0 then t else t.p CLK_CDC.FIRST_ID id

/-- An abandoned transfer of page `p` is counted and latched, and the page is STALE. -/
def Tail.countStale (t : Tail) (p : Nat) : Tail := ((t.inc CLK_CDC.TO_COUNT).p (PG_STAT.STALE p) 1).evt 0x05 0

/-- The field side once the transfer of page `p` over crossing `id` is abandoned. -/
def Tail.abandoned (t : Tail) (id p : Nat) : Tail := ((t.firstNamed id).keepOld id p).countStale p

theorem cdcTimeout_settles {id : Nat} {page : Byte} {s : State} (hid : hsCrossings.contains id = true)
    (hcross : crosses id page.toNat = true) (hdom : s.fs.pd (pageDomain page.toNat) = true) (hpd : s.fs.pd 3 = true)
    (hfield : fieldPages.contains page.toNat = true) (habsent : s.fs.absentPage page.toNat = false) :
    Settles (.cdcTimeout id page) s (s.fs.abandoned id page.toNat) := by
  refine settles_of_tail _ rfl ((if_neg ?_).trans rfl)
  rw [hid, hcross, hdom, hpd, hfield, habsent]
  decide

/-- A page's configuration crosses over the page's crossing. -/
theorem crosses_of_pageCrossing {id p : Nat} (h : pageCrossing p = some id) : crosses id p = true := by simp [crosses, h]

section
variable {id : Nat} {t : Tail}

theorem Tail.firstNamed_set (h : t.evtBit 0x05 0 = true) : t.firstNamed id = t := if_pos h

theorem Tail.firstNamed_clear (h : t.evtBit 0x05 0 = false) : t.firstNamed id = t.p CLK_CDC.FIRST_ID id :=
  if_neg (by rw [h]; exact Bool.false_ne_true)

theorem Tail.firstNamed_xfer (t : Tail) (id : Nat) : (t.firstNamed id).xfer = t.xfer := by
  unfold Tail.firstNamed
  split <;> rfl

theorem Tail.firstNamed_word_ne (t : Tail) (id : Nat) {a : Nat} (h : a ≠ CLK_CDC.FIRST_ID.addr) :
    (t.firstNamed id).word a = t.word a := by
  unfold Tail.firstNamed
  split
  · rfl
  · exact t.word_p_ne id h

/-- Of a configuration that no write has changed the block keeps what the registers read. -/
theorem Tail.keepOld_nil (p : Nat) (hid : id ≠ 0x12) (h : t.xfer = []) : t.keepOld id p = t := by
  unfold Tail.keepOld
  rw [if_neg hid, h]
  rfl

/-- Of a written register the block keeps the word that was in effect. -/
theorem Tail.keepOld_one {a p : Nat} {w : Word} (hid : id ≠ 0x12) (h : t.xfer = [(a, w)]) (hp : a / 256 = p) :
    t.keepOld id p = { t with held := smIns t.held a w } :=
  (if_neg hid).trans ((congrArg (List.foldl _ t) h).trans (if_pos hp))

/-- The compare values of station `n` cross for its MOD page (03 R108): the block keeps those in effect. -/
theorem Tail.keepOld_compare (n : Stn) :
    t.keepOld 0x12 (stnPage n 0xD) = t.moduMap n (fun m => { m with next := none }) := by
  have hn : Fin.ofNat 4 ((stnPage n 0xD - 0x40) / 16) = n := by revert n; decide
  unfold Tail.keepOld
  rw [if_pos rfl, hn]

end

/-- An abandoned transfer of a page without a new word (03 R112): it is counted, and named where its latch was clear. -/
theorem cdcTimeout_unchanged (id : Nat) (page : Byte) (s : State) (hid : hsCrossings.contains id = true)
    (hpage : pageCrossing page.toNat = some id) (hne : id ≠ 0x12) (hdom : s.fs.pd (pageDomain page.toNat) = true) (hpd : s.fs.pd 3 = true)
    (hfield : fieldPages.contains page.toNat = true) (habsent : s.fs.absentPage page.toNat = false) (hxfer : s.fs.xfer = []) :
    (s.fs.evtBit 0x05 0 = false → Settles (.cdcTimeout id page) s
      (((((s.fs.p CLK_CDC.FIRST_ID id).inc CLK_CDC.TO_COUNT).p (PG_STAT.STALE page.toNat) 1).evt 0x05 0)))
    ∧ (s.fs.evtBit 0x05 0 = true → Settles (.cdcTimeout id page) s
      ((((s.fs.inc CLK_CDC.TO_COUNT).p (PG_STAT.STALE page.toNat) 1).evt 0x05 0))) := by
  have hsettles := cdcTimeout_settles hid (crosses_of_pageCrossing hpage) hdom hpd hfield habsent
  unfold Tail.abandoned at hsettles
  rw [Tail.keepOld_nil _ hne ((s.fs.firstNamed_xfer id).trans hxfer)] at hsettles
  refine ⟨fun h => ?_, fun h => ?_⟩
  · rwa [Tail.firstNamed_clear h] at hsettles
  · rwa [Tail.firstNamed_set h] at hsettles

/-- The page of CLK has no crossing: its block is the SQC's own (03 R108). -/
theorem pageCrossing_clk : pageCrossing 0x05 = none := by decide

/-- STALE of a page is no register that the end of a step writes. -/
theorem stale_kept (page : Byte) : logReg (PG_STAT.STALE page.toNat).addr = false
    ∧ settleRegs.contains (PG_STAT.STALE page.toNat).addr = false := by
  revert page
  decide +kernel

section
variable {p a : Nat}

/-- Counting an abandoned transfer leaves the registers but its counter, STALE and its latch. -/
theorem Tail.countStale_word_ne (t : Tail) (hcdc : a ≠ CLK_CDC.TO_COUNT.addr) (hstale : a ≠ (PG_STAT.STALE p).addr)
    (hevt : a ≠ (PG_EVT.EVT 0x05).addr) : (t.countStale p).word a = t.word a := by
  unfold Tail.countStale
  rw [Tail.word_evt_ne _ _ _ hevt, Tail.word_p_ne _ _ hstale, Tail.inc_eq, Tail.word_p_ne _ _ hcdc]

theorem Tail.countStale_held (t : Tail) (p : Nat) : (t.countStale p).held = t.held := by
  unfold Tail.countStale
  rw [Tail.evt_eq, Tail.evtV_eq]
  rfl

theorem Tail.countStale_stale (t : Tail) (p : Nat) : (t.countStale p).b (PG_STAT.STALE p) = true := by
  have hok : (PG_STAT.STALE p).ok := ⟨Nat.le_refl 5, show 5 < 32 by decide⟩
  have hevt : (PG_STAT.STALE p).addr ≠ (PG_EVT.EVT 0x05).addr := by simp only [PG_STAT.STALE, PG_EVT.EVT]; omega
  unfold Tail.countStale Tail.b
  rw [Tail.g_evt_ne _ _ _ hevt, Tail.g_p _ _ hok]
  rfl

/-- An abandoned transfer of a written register: its block keeps the word that was in effect, and the register reads the new one. -/
theorem Tail.abandoned_one {t : Tail} {id : Nat} {w : Word} (hpage : pageCrossing p = some id) (hne : id ≠ 0x12)
    (hxfer : t.xfer = [(a, w)]) (hp : a / 256 = p) (hoff : 0x20 ≤ a % 256) :
    (t.abandoned id p).inEff a = w ∧ (t.abandoned id p).word a = t.word a := by
  have hclk : p ≠ 5 := by
    rintro rfl
    rw [pageCrossing_clk] at hpage
    exact absurd hpage (by simp)
  have hcdc : a ≠ CLK_CDC.TO_COUNT.addr := by simp only [CLK_CDC.TO_COUNT]; omega
  have hstale : a ≠ (PG_STAT.STALE p).addr := by simp only [PG_STAT.STALE]; omega
  have hevt : a ≠ (PG_EVT.EVT 5).addr := by simp only [PG_EVT.EVT]; omega
  unfold Tail.abandoned
  rw [Tail.keepOld_one hne ((t.firstNamed_xfer id).trans hxfer) hp]
  refine ⟨?_, ?_⟩
  · unfold Tail.inEff
    rw [Tail.countStale_held]
    exact smGet_smIns_self _ _ _ _
  · exact (Tail.countStale_word_ne _ hcdc hstale hevt).trans (t.firstNamed_word_ne id hcdc)

end

theorem cdcTimeout_written (id : Nat) (page : Byte) (a : Nat) (w : Word) (s : State) (hid : hsCrossings.contains id = true)
    (hpage : pageCrossing page.toNat = some id) (hne : id ≠ 0x12) (hdom : s.fs.pd (pageDomain page.toNat) = true) (hpd : s.fs.pd 3 = true)
    (hfield : fieldPages.contains page.toNat = true) (habsent : s.fs.absentPage page.toNat = false) (hxfer : s.fs.xfer = [(a, w)])
    (hp : a / 256 = page.toNat) (hoff : 0x20 ≤ a % 256) (hlog : logReg a = false) (hsettle : settleRegs.contains a = false) :
    Answers (.cdcTimeout id page) s (fun r =>
      r.fs.inEff a = w ∧ r.fs.word a = s.fs.word a ∧ r.fs.b (PG_STAT.STALE page.toNat) = true) := by
  obtain ⟨heff, hword⟩ := Tail.abandoned_one hpage hne hxfer hp hoff
  obtain ⟨hkword, hkeff⟩ := (Tail.frames_finish (s.fs.abandoned id page.toNat)).2 a hlog hsettle
  obtain ⟨hslog, hssettle⟩ := stale_kept page
  refine ⟨_, cdcTimeout_settles hid (crosses_of_pageCrossing hpage) hdom hpd hfield habsent, hkeff.trans heff, hkword.trans hword, ?_⟩
  unfold Tail.b
  rw [Tail.finish_g _ hslog hssettle]
  exact Tail.countStale_stale _ _

/-- The compare values cross over 0x12 for the MOD page, into PD6 (03 R103, R108). -/
theorem modPage_crosses (n : Stn) : crosses 0x12 (stnPage n 0xD) = true ∧ pageDomain (stnPage n 0xD) = 6
    ∧ fieldPages.contains (stnPage n 0xD) = true := by
  revert n
  decide

theorem cdcTimeout_compare (n : Stn) (page : Byte) (s : State) (hpage : page.toNat = stnPage n 0xD) (hdom : s.fs.pd 6 = true)
    (hpd : s.fs.pd 3 = true) (habsent : s.fs.absentPage page.toNat = false) (hevt : s.fs.evtBit 0x05 0 = true) :
    Settles (.cdcTimeout 0x12 page) s
      ((((s.fs.moduMap n (fun m => { m with next := none })).inc CLK_CDC.TO_COUNT).p (PG_STAT.STALE page.toNat) 1).evt 0x05 0) := by
  obtain ⟨hcross, hdomain, hfield⟩ := modPage_crosses n
  rw [← hpage] at hcross hdomain hfield
  have hsettles := cdcTimeout_settles (id := 0x12) (by decide) hcross (by rwa [hdomain]) hpd hfield habsent
  unfold Tail.abandoned at hsettles
  rwa [Tail.firstNamed_set hevt, hpage, Tail.keepOld_compare, ← hpage] at hsettles

/-! ## Unstable values (03 R105) -/

/-- What the receivers hold once that of crossing `id` has fallen back on what it held before the last update. -/
def Tail.dsFallBack (t : Tail) (id : Nat) : SMap Word :=
  (t.dsOld.filter (fun e => dsRegs id e.1)).foldl (fun (m : SMap Word) (e : Nat × Word) => smIns m e.1 e.2) t.ds

/-- Crossing `id` is named as unstable in field `f`, counted and latched. -/
def Tail.countUnstable (t : Tail) (id : Nat) (f : Fd) : Tail :=
  ((t.p f (setBit (t.g f) (id % 0x20) true)).inc CLK_UNST_CNT.COUNT).evt 0x05 1

theorem dsUnstable_settles {id : Nat} {s : State} (hid : dsCrossings.contains id = true) (hpd : s.fs.pd 3 = true) :
    Settles (.dsUnstable id) s
      (Tail.countUnstable { s.fs with ds := s.fs.dsFallBack id } id (if id < 0x20 then CLK_UNST_LO.ID else CLK_UNST_HI.ID)) := by
  refine settles_of_tail _ rfl ((if_neg ?_).trans rfl)
  rw [hid, hpd]
  decide

/-- With no value before the last update, the receiver has none to fall back on. -/
theorem Tail.dsFallBack_nil {t : Tail} (id : Nat) (h : t.dsOld = []) : t.dsFallBack id = t.ds := by
  unfold Tail.dsFallBack
  rw [h]
  rfl

theorem Tail.dsFallBack_one {t : Tail} {id a : Nat} {w : Word} (h : t.dsOld = [(a, w)]) (hreg : dsRegs id a = true) :
    t.dsFallBack id = smIns t.ds a w := by
  have hfilter : [(a, w)].filter (fun e => dsRegs id e.1) = [(a, w)] := List.filter_cons_of_pos hreg
  unfold Tail.dsFallBack
  rw [h, hfilter]
  rfl

theorem Tail.countUnstable_ds (t : Tail) (id : Nat) (f : Fd) : (t.countUnstable id f).ds = t.ds := Tail.evtV_ds _ _ _ _

theorem dsUnstable_low (id : Nat) (s : State) (hid : [0x11, 0x14, 0x1B, 0x1D].contains id = true) (hpd : s.fs.pd 3 = true)
    (hold : s.fs.dsOld = []) : Settles (.dsUnstable id) s
      (((s.fs.p CLK_UNST_LO.ID (setBit (s.fs.g CLK_UNST_LO.ID) id true)).inc CLK_UNST_CNT.COUNT).evt 0x05 1) := by
  obtain ⟨hds, hlt⟩ : dsCrossings.contains id = true ∧ id < 0x20 :=
    (by decide : ∀ i ∈ [0x11, 0x14, 0x1B, 0x1D], dsCrossings.contains i = true ∧ i < 0x20) id (List.contains_iff_mem.mp hid)
  have hsettles := dsUnstable_settles hds hpd
  unfold Tail.countUnstable at hsettles
  rwa [if_pos hlt, Tail.dsFallBack_nil _ hold, Nat.mod_eq_of_lt hlt] at hsettles

theorem dsUnstable_high (id : Nat) (s : State) (hid : [0x22, 0x27].contains id = true) (hpd : s.fs.pd 3 = true)
    (hold : s.fs.dsOld = []) : Settles (.dsUnstable id) s
      (((s.fs.p CLK_UNST_HI.ID (setBit (s.fs.g CLK_UNST_HI.ID) (id - 0x20) true)).inc CLK_UNST_CNT.COUNT).evt 0x05 1) := by
  obtain ⟨hds, hlt, hmod⟩ : dsCrossings.contains id = true ∧ ¬ id < 0x20 ∧ id % 0x20 = id - 0x20 :=
    (by decide : ∀ i ∈ [0x22, 0x27], dsCrossings.contains i = true ∧ ¬ i < 0x20 ∧ i % 0x20 = i - 0x20) id
      (List.contains_iff_mem.mp hid)
  have hsettles := dsUnstable_settles hds hpd
  unfold Tail.countUnstable at hsettles
  rwa [if_neg hlt, Tail.dsFallBack_nil _ hold, hmod] at hsettles

theorem dsUnstable_keepsOld (id a : Nat) (w : Word) (s : State) (hid : dsCrossings.contains id = true) (hpd : s.fs.pd 3 = true)
    (hold : s.fs.dsOld = [(a, w)]) (hreg : dsRegs id a = true) :
    Answers (.dsUnstable id) s (fun r => r.fs.ds = smIns s.fs.ds a w) :=
  ⟨_, dsUnstable_settles hid hpd,
    (Tail.frames_finish _).keepsClocks.ds.trans ((Tail.countUnstable_ds _ _ _).trans (Tail.dsFallBack_one hold hreg))⟩

/-! ## Stopped clocks (03 R109, R110) -/

theorem Tail.frames_endAsc {o t : Tail} (n : Stn) (h : o.Frames t) : o.Frames (t.endAsc n) := by
  unfold Tail.endAsc
  dsimp only
  split
  · exact Tail.frames_gateUpdate n (Tail.frames_moduMap n _ (Tail.frames_endBlocks n h))
  · exact h

theorem Tail.frames_ascOverride (t : Tail) : t.Frames t.ascOverride := by
  refine List.foldlRecOn _ _ (.rfl t) fun r hr n _ => ?_
  split
  · exact Tail.frames_endAsc n hr
  · exact hr

/-- The clocks once clock `c` has been declared stopped at `now`, while Field Time still counts. -/
def Clocks.declareStopped (k : Clocks) (c : Fin 8) (now : Nat) : Clocks :=
  { k with run := k.run &&& ~~~((1 : BitVec 8) <<< c.val), clkStopped := true, wdogT := some (now + wdogTime) }

/-- The field side with clock `c` declared stopped and the gates blocked. -/
def Tail.declareStopped (t : Tail) (c : Fin 8) : Tail :=
  { t with
    clk := t.clk.declareStopped c t.now
    orb := if c.val = 6 || c.val = 7 then t.orb.cut t.now else t.orb
    aon := { t.aon with gateBlock := true } }

/-- What follows before the states settle: the clock is recorded and latched, and an active short circuit ends under the block. -/
def Tail.clockLost (t : Tail) (c : Fin 8) : Tail :=
  (((t.declareStopped c).p CLK_STOP.CAUSE (setBit (t.g CLK_STOP.CAUSE) c true)).evt 0x05 2).ascOverride

theorem exec_clockStopped {c : Fin 8} {s : State} (hpd : s.fs.pd 2 = true) (hrun : s.fs.clk.run.getLsbD c = true) :
    exec (.clockStopped c) s = .next { s with fs := { (s.fs.clockLost c).finish with
      clk := { (s.fs.clockLost c).finish.clk with ftRun := s.fs.clk.ftRun && c.val != 0 && c.val != 7 } } } := by
  change execClockStopped c s = _
  unfold execClockStopped tailNext State.tail
  dsimp only
  rw [if_neg (by rw [hpd, hrun]; decide)]
  rfl

theorem Tail.clockLost_keepsClocks (t : Tail) (c : Fin 8) : (t.declareStopped c).KeepsClocks (t.clockLost c) :=
  ((t.declareStopped c).keepsClocks_p CLK_STOP.CAUSE _).trans
    ((Tail.frames_evt 0x05 2 (.rfl _)).trans (Tail.frames_ascOverride _)).keepsClocks

/-- FAULT is asserted while a clock is declared stopped (03 R110). -/
theorem Tail.faultLevel_of_clkStopped {t : Tail} (h : t.clk.clkStopped = true) : t.faultLevel = true := by
  unfold Tail.faultLevel
  simp [h]

theorem clockStopped_answers (clk : Fin 8) (s : State) (hpd : s.fs.pd 2 = true) (hrun : s.fs.clk.run.getLsbD clk = true) :
    Answers (.clockStopped clk) s (fun r =>
      r.pending = s.pending ∧ r.hs = s.hs ∧ r.h2f = s.h2f ∧ r.f2h = s.f2h ∧ r.rsp = s.rsp
      ∧ r.fs.aon.gateBlock = true ∧ r.fs.clk.run = s.fs.clk.run &&& ~~~((1 : BitVec 8) <<< clk.val)
      ∧ r.fs.clk.clkStopped = true ∧ r.fs.clk.wdogT = some (s.fs.now + 4000000)
      ∧ r.fs.clk.ftRun = (s.fs.clk.ftRun && clk.val != 0 && clk.val != 7) ∧ r.fs.ft = s.fs.ft ∧ r.fs.faultLevel = true) := by
  have hend := (s.fs.clockLost_keepsClocks clk).trans (Tail.frames_finish _).keepsClocks
  have hstopped : (s.fs.clockLost clk).finish.clk.clkStopped = true := congrArg Clocks.clkStopped hend.clk
  exact ⟨_, exec_clockStopped hpd hrun, rfl, rfl, rfl, rfl, rfl, congrArg Aon.gateBlock hend.aon, congrArg Clocks.run hend.clk, hstopped,
    congrArg Clocks.wdogT hend.clk, rfl, hend.ft, Tail.faultLevel_of_clkStopped hstopped⟩

/-! ## O8 -/

/-- Settles O8: each clause is a command's effect behind its condition (`Settles`), and what the end of the step leaves of it:
`frames_finish` for time, clocks and registers, `keepsLatches_finish` for the latch of a slip. -/
theorem clocksAndCrossings : Obligations.ClocksAndCrossings :=
  ⟨fun s => (pllUnlock_settles s).1, fun s => (pllUnlock_settles s).2, ftReplicaCheck_answers, cdcTimeout_unchanged, cdcTimeout_written,
    cdcTimeout_compare, dsUnstable_low, dsUnstable_high, dsUnstable_keepsOld, clockStopped_answers⟩

end Sys2Proof.Machine
end

section
/-! The resets of the Headstock and its 3.3 V (04 R122, 08 R300, R316, R866, 09 R354); O6. -/

namespace Sys2Proof.Machine

/-! ## Pulses on the reset pins (08 R866) -/

theorem pulseActs_of_long (k : Nat) {ns : Nat} (h : 1000 ≤ ns) : pulseActs k ns = true := by
  unfold pulseActs
  rw [decide_eq_true h, Bool.true_or]

theorem pulseActs_of_short (k : Nat) {ns : Nat} (h : ns < 100) : pulseActs k ns = false := by
  unfold pulseActs
  rw [decide_eq_false (by omega : ¬ 1000 ≤ ns), decide_eq_false (by omega : ¬ 100 ≤ ns)]
  rfl

section
variable {ns : Nat} {s : State}

/-- A short pulse only draws the free value that says whether a longer one would have acted. -/
theorem reset_short (h : ns < 100) :
    exec (.hrst ns) s = .next { s with fs := s.fs.draw } ∧ exec (.mbrst ns) s = .next { s with fs := s.fs.draw } := by
  have hacts : (!s.hs.powered || !pulseActs s.fs.fresh ns) = true := by simp [pulseActs_of_short _ h]
  exact ⟨if_pos hacts, if_pos hacts⟩

/-! ## MBRST (09 R354) -/

theorem mbrst_resets (hpow : s.hs.powered = true) (h : 1000 ≤ ns) :
    exec (.mbrst ns) s = .next { s with hs := s.hs.mbrst s.fs.u, rxBuf := s.rxBuf.filter (fun e => !e.mb), fs := s.fs.draw } :=
  if_neg (by simp [hpow, pulseActs_of_long _ h])

/-! ## HRST (08 R300, R316, R866) -/

/-- A message begun on the lane is discarded by the field side and answered with NAK_F (08 R316, 02 R62). -/
theorem Tail.cutMessage_open {t : Tail} (cstr : Nat) (lseq : Half) (h : t.link.openMsg = .open) :
    t.cutMessage cstr lseq
      = ((({ t with link := { t.link with openMsg := .none } } : Tail).discard BLNK_ERR.RX_CRC).nakF true cstr lseq 3).logAll := by
  unfold Tail.cutMessage
  rw [h]
  rfl

/-- What a pulse that acts leaves of the unit, with `t` the field side, before the lane takes its next message. -/
def State.afterHrst (s : State) (t : Tail) : State :=
  { s with hs := s.hs.hrst s.fs.u, rxBuf := s.rxBuf.filter (·.mb), fs := t }

theorem hrst_acts (hpow : s.hs.powered = true) (h : 1000 ≤ ns) :
    exec (.hrst ns) s = .next (s.afterHrst (s.hs.out.elim s.fs.draw fun o => s.fs.draw.cutMessage o.cstr o.lseq)).pump := by
  refine (if_neg (by simp [hpow, pulseActs_of_long _ h])).trans ?_
  dsimp only
  cases s.hs.out <;> rfl

/-- With no request out, HRST has none to end. -/
theorem Head.hrst_of_out_none {h : Head} (u : UnitInfo) (hout : h.out = none) : h.hrst u = { h.hrst u with out := h.out } :=
  congrArg (fun o => { h.hrst u with out := o }) hout.symm

theorem hrst_idle (hpow : s.hs.powered = true) (h : 1000 ≤ ns) (hout : s.hs.out = none) :
    exec (.hrst ns) s = .next (State.pump { s.afterHrst s.fs.draw with hs := { s.hs.hrst s.fs.u with out := s.hs.out } }) := by
  have hfs : (s.hs.out.elim s.fs.draw fun o => s.fs.draw.cutMessage o.cstr o.lseq) = s.fs.draw := by rw [hout]; rfl
  rw [hrst_acts hpow h, hfs, ← Head.hrst_of_out_none _ hout]
  rfl

/-- The request that is out ends with its message (08 R316). -/
theorem hrst_cuts {o : OutReq} (hpow : s.hs.powered = true) (h : 1000 ≤ ns) (hout : s.hs.out = some o) :
    exec (.hrst ns) s = .next (s.afterHrst (s.fs.draw.cutMessage o.cstr o.lseq)).pump := by
  rw [hrst_acts hpow h, hout]
  rfl

/-! ## The 3.3 V supply (04 R122) -/

theorem hs3v3Rise_resets (hoff : s.hs.powered = false) : exec .hs3v3Rise s = .next { s with hs := Head.init s.fs.u.straps } :=
  congrArg Host.Outcome.next (if_neg (by simp [hoff]))

end

/-- Settles O6: a pulse acts by its length (`pulseActs`), HRST ends an open message as `Tail.cutMessage_open` says, and the supply acts
only where it changes. -/
theorem headstockResets : Obligations.HeadstockResets := by
  refine ⟨fun ns s hpow h hout => hrst_idle hpow h hout, fun ns s o hpow h hout hopen => ?_, fun ns s hpow h => mbrst_resets hpow h,
    fun ns s h => reset_short h, fun s hoff => hs3v3Rise_resets hoff, fun s hpow => if_pos hpow⟩
  rw [hrst_cuts hpow h hout, Tail.cutMessage_open (t := s.fs.draw) _ _ hopen]
  rfl

end Sys2Proof.Machine
end

section
/-! The supply selector (04 R121 to R133) and the loss of both supplies (04 R134 to R136); O9. -/

namespace Sys2Proof.Machine

/-! ## Commands that change the field side alone -/

theorem does_of_tail {c : Instr} {s : State} {t : Tail} (f : Tail → Tail) (hexec : exec c s = tailNext s f) (h : f s.fs = t) :
    Does c s t := by
  unfold Does
  rw [hexec, ← h]
  rfl

theorem Tail.evtPwr_of_on {t : Tail} (i : Nat) (h : t.pd 3 = true) : t.evtPwr i = t.evt 0x04 i := if_pos h

theorem Tail.dwellOrB_pd (t : Tail) (n : Nat) : t.dwellOrB.pd n = t.pd n := by
  unfold Tail.dwellOrB Tail.aonMap Tail.pd
  dsimp only
  split <;> rfl

theorem Tail.evt_pd (t : Tail) (p i n : Nat) : (t.evt p i).pd n = t.pd n := congrArg (fun a : Aon => a.dom.getLsbD n) (t.evtV_aon p i none)

/-! ## The selector (04 section 2) -/

section
variable {s : State}

theorem aFailed_does (hpd : s.fs.pd 1 = true) (hvalid : s.fs.aon.aValid = true) :
    Does .aFailed s { s.fs with aon := { s.fs.aon with
      aValid := false, aRet := false
      ho := if s.fs.aon.ho = .onA ∧ s.fs.aon.bValid = true then .commit else if s.fs.aon.ho = .dwell then .onB else s.fs.aon.ho
      dwell := if s.fs.aon.ho = .dwell then none else s.fs.aon.dwell } } := by
  refine does_of_tail _ rfl ((if_neg (by simp [hpd, hvalid])).trans ?_)
  unfold Tail.aonMap
  cases hho : s.fs.aon.ho
  case onA => cases hb : s.fs.aon.bValid <;> simp [hho, hb]
  all_goals simp [hho]

theorem aReturn_does (hpd : s.fs.pd 1 = true) :
    Does .aReturn s { s.fs with aon := { s.fs.aon with
      aRet := true, aValid := true
      ho := if s.fs.aon.ho = .onB then .dwell else s.fs.aon.ho
      dwell := if s.fs.aon.ho = .onB then some (s.fs.now + 200000000) else s.fs.aon.dwell } } := by
  refine does_of_tail _ rfl ((if_neg (by simp [hpd])).trans ?_)
  dsimp only [Tail.aonMap, Tail.dwellOrB]
  by_cases hho : s.fs.aon.ho = .onB
  · simp [hho, Tail.after, dwellTicks, ms1]
  · simp [hho]

theorem aExcursion_does (hpd : s.fs.pd 1 = true) :
    Does .aExcursion s { s.fs with aon := { s.fs.aon with
      aRet := false, ho := if s.fs.aon.ho = .dwell then .onB else s.fs.aon.ho, dwell := none } } :=
  does_of_tail _ rfl (if_neg (by simp [hpd]))

theorem supplyValid_does (hpd : s.fs.pd 1 = true) :
    Does (.supplyValid false) s { s.fs with aon := { s.fs.aon with aValid := true } }
    ∧ Does (.supplyValid true) s { s.fs with aon := { s.fs.aon with bValid := true } } :=
  ⟨does_of_tail _ rfl (if_neg (by simp [hpd])), does_of_tail _ rfl (if_neg (by simp [hpd]))⟩

theorem unstableClr_does (hpd : s.fs.pd 3 = true) :
    Does .unstableClr s { s.fs with aon := { s.fs.aon with
      unstable := false, hoTimes := []
      ho := if s.fs.aon.ho = .heldB then (if s.fs.aon.aRet then .dwell else .onB) else s.fs.aon.ho
      dwell := if s.fs.aon.ho = .heldB then (if s.fs.aon.aRet then some (s.fs.now + 200000000) else none) else s.fs.aon.dwell } } := by
  refine does_of_tail _ rfl ((if_pos hpd).trans ?_)
  dsimp only [Tail.unstableClr, Tail.dwellOrB, Tail.aonMap]
  by_cases hho : s.fs.aon.ho = .heldB
  · cases hret : s.fs.aon.aRet <;> simp [hho, Tail.after, dwellTicks, ms1]
  · simp [hho]

theorem dwellComplete_settles {d : Nat} (hho : s.fs.aon.ho = .dwell) (hdwell : s.fs.aon.dwell = some d) (hpd : s.fs.pd 3 = true) :
    Settles .dwellComplete s
      (({ s.fs.elapse (d - s.fs.now) with aon := { s.fs.aon with ho := .onA, dwell := none } }).evt 0x04 1) := by
  refine settles_of_tail _ rfl ?_
  dsimp only
  rw [hho, hdwell]
  have hon : (s.fs.elapse (d - s.fs.now)).pd 3 = true := by rwa [Tail.pd, Tail.elapse_aon]
  rw [← Tail.elapse_aon s.fs (d - s.fs.now)]
  exact congrArg Tail.finish (Tail.evtPwr_of_on 1 hon)

/-- The field side once B carries the load: A stands as `aRet` says, and the hand-over is counted (04 R126, R129). -/
def Tail.handedOver (t : Tail) (aRet : Bool) : Tail :=
  t.aonMap (fun a => { a with
    aRet := aRet, aValid := a.aValid || aRet, hoTimes := t.hoWindow ++ [t.now], hoTotal := satInc 16 a.hoTotal })

/-- The eighth hand-over of the window holds B (04 R129), each other leaves for DWELL or ON_B (R126). -/
theorem bConnected_settles {aRet : Bool} (hpd : s.fs.pd 1 = true) (hho : s.fs.aon.ho = .commit) :
    Settles (.bConnected aRet) s (Tail.evtPwr (if 8 ≤ (s.fs.hoWindow ++ [s.fs.now]).length
      then ((s.fs.handedOver aRet).aonMap (fun a => { a with ho := .heldB, dwell := none, unstable := true })).evtPwr 2
      else (s.fs.handedOver aRet).dwellOrB) 0) :=
  settles_of_tail _ rfl (if_neg (by simp [hpd, hho]))

theorem bConnected_counted {aRet : Bool} (hpd : s.fs.pd 1 = true) (hon : s.fs.pd 3 = true) (hho : s.fs.aon.ho = .commit)
    (hfew : s.fs.hoWindow.length < 7) :
    Settles (.bConnected aRet) s (({ s.fs with aon := { s.fs.aon with
      aRet := aRet, aValid := s.fs.aon.aValid || aRet
      hoTimes := s.fs.hoWindow ++ [s.fs.now]
      hoTotal := min 0xFFFF (s.fs.aon.hoTotal + 1)
      ho := if aRet then .dwell else .onB
      dwell := if aRet then some (s.fs.now + 200000000) else none } }).evt 0x04 0) := by
  have h := bConnected_settles (aRet := aRet) hpd hho
  rw [if_neg (by simpa using hfew), Tail.evtPwr_of_on 0 (((s.fs.handedOver aRet).dwellOrB_pd 3).trans hon)] at h
  cases aRet <;> exact h

theorem bConnected_held {aRet : Bool} (hpd : s.fs.pd 1 = true) (hon : s.fs.pd 3 = true) (hho : s.fs.aon.ho = .commit)
    (hmany : 7 ≤ s.fs.hoWindow.length) :
    Settles (.bConnected aRet) s ((({ s.fs with aon := { s.fs.aon with
      aRet := aRet, aValid := s.fs.aon.aValid || aRet
      hoTimes := s.fs.hoWindow ++ [s.fs.now]
      hoTotal := min 0xFFFF (s.fs.aon.hoTotal + 1)
      ho := .heldB, dwell := none, unstable := true } }).evt 0x04 2).evt 0x04 0) := by
  have h := bConnected_settles (aRet := aRet) hpd hho
  rw [if_pos (by simpa using hmany), Tail.evtPwr_of_on 2, Tail.evtPwr_of_on 0] at h
  · exact h
  · exact (Tail.evt_pd _ _ _ _).trans hon
  · exact hon

/-- B is no longer valid, and a valid A carries the load (04 R131, R133). -/
def Tail.bLost (t : Tail) : Tail :=
  t.aonMap (fun a => { a with bValid := false, ho := if a.aValid then .onA else a.ho, dwell := if a.aValid then none else a.dwell })

theorem bFailed_settles (hpd : s.fs.pd 1 = true) (hvalid : s.fs.aon.bValid = true) :
    Settles .bFailed s (if s.fs.aon.ho = .commit && (s.fs.bLost.evtPwr 3).aon.aValid
      then ((s.fs.bLost.evtPwr 3).aonMap (fun a => { a with hoAborts := satInc 8 a.hoAborts })).evtPwr 4
      else s.fs.bLost.evtPwr 3) :=
  settles_of_tail _ rfl (if_neg (by simp [hpd, hvalid]))

theorem bFailed_aborts (hpd : s.fs.pd 1 = true) (hon : s.fs.pd 3 = true) (hvalid : s.fs.aon.bValid = true)
    (hho : s.fs.aon.ho = .commit) (ha : s.fs.aon.aValid = true) :
    Settles .bFailed s (({ (({ s.fs with aon := { s.fs.aon with bValid := false, ho := .onA, dwell := none } }).evt 0x04 3) with
      aon := { s.fs.aon with bValid := false, ho := .onA, dwell := none, hoAborts := min 0xFF (s.fs.aon.hoAborts + 1) } }).evt 0x04 4) := by
  have hlost : s.fs.bLost = { s.fs with aon := { s.fs.aon with bValid := false, ho := .onA, dwell := none } } := by
    simp [Tail.bLost, Tail.aonMap, ha]
  have h := bFailed_settles hpd hvalid
  rw [Tail.evtPwr_of_on (t := s.fs.bLost) 3 hon, hlost] at h
  have haon := ({ s.fs with aon := { s.fs.aon with bValid := false, ho := .onA, dwell := none } } : Tail).evtV_aon 0x04 3 none
  rw [if_pos (by rw [hho, Tail.evt_eq, haon]; simp [ha]), Tail.aonMap, Tail.evt_eq, haon] at h
  rwa [Tail.evtPwr_of_on 4] at h
  exact hon

theorem bFailed_returns (hpd : s.fs.pd 1 = true) (hon : s.fs.pd 3 = true) (hvalid : s.fs.aon.bValid = true)
    (hho : s.fs.aon.ho ≠ .commit) :
    Settles .bFailed s (({ s.fs with aon := { s.fs.aon with
      bValid := false, ho := if s.fs.aon.aValid then .onA else s.fs.aon.ho
      dwell := if s.fs.aon.aValid then none else s.fs.aon.dwell } }).evt 0x04 3) := by
  have h := bFailed_settles hpd hvalid
  rwa [if_neg (by simp [hho]), Tail.evtPwr_of_on (t := s.fs.bLost) 3 hon] at h

end

/-! ## Reads of the store (07 R244 to R249, 06 R221) -/

section
variable {P : Tail → Prop} (hP : Tail.RecordKeeps P)
include hP

/-- A read of a word counts what it finds and queues the correction. -/
theorem Tail.RecordKeeps.memRead {t : Tail} (a : Nat) (h : P t) : P (t.memRead a).2 := by
  unfold Tail.memRead
  dsimp only
  split
  · exact h
  · exact hP.queueCorrection _ _ (hP.countRead _ _ _ h)
  · exact hP.countRead _ _ _ h
  · exact hP.queuePoison _ _ (hP.countRead _ _ _ h)

theorem Tail.RecordKeeps.readWords (n : Nat) : ∀ {t : Tail} (a : Nat), P t → P (t.readWords a n).2.2 := by
  induction n with
  | zero => exact fun _ h => h
  | succ n ih => exact fun a h => ih (a + 1) (hP.memRead a h)

theorem Tail.RecordKeeps.readRec {t : Tail} (k : Nat) (r : RecIx) (h : P t) : P (t.readRec k r).2 := by
  have hwords := hP.readWords (r.words - 1) (t.ringBase k + r.pos + 1) (hP.memRead (t.ringBase k + r.pos) h)
  unfold Tail.readRec
  dsimp only
  split
  · exact hwords
  · split <;> exact hwords

theorem Tail.RecordKeeps.eventRecs (rs : List RecIx) : ∀ {t : Tail}, P t → P (t.eventRecs rs).2 := by
  induction rs with
  | nil => exact fun h => h
  | cons r rs ih =>
    intro t h
    unfold Tail.eventRecs
    split
    · exact ih h
    · exact ih (hP.readRec 160 r h)

end

/-! ## The loss of both supplies (04 R134 to R136) -/

/-- `r` has the always-on domain and OTP of `t`. -/
structure Tail.KeepsAonOtp (t r : Tail) : Prop where
  aon : r.aon = t.aon
  otp : r.otp = t.otp

theorem Tail.recordKeeps_aonOtp (o : Tail) : Tail.RecordKeeps o.KeepsAonOtp where
  store _ _ h := ⟨h.aon, h.otp⟩
  latch t p i v h := ⟨(t.evtV_aon p i v).trans h.aon, (t.evtV_otp p i v).trans h.otp⟩
  count _ _ _ _ h := ⟨h.aon, h.otp⟩
  desc _ _ _ h := ⟨h.aon, h.otp⟩

/-- What the flush of cause `cause` leaves in the log area: the newest 128 event records at most, the last `n` of them where the hold-up
runs out after `n` (04 R135). -/
def Tail.flushed (t : Tail) (cause : Nat) (cut : Option Nat) : LogArea :=
  if t.pd 4 && t.log.ready
    then (let recs := (t.eventRecs (t.sst 160).recs).1
      let k := min 128 (min recs.length (cut.getD 128))
      ⟨recs.drop (recs.length - k), cause, k = min 128 recs.length, false⟩)
    else t.aon.log

theorem Tail.flushLog_keeps (t : Tail) (cause : Nat) (cut : Option Nat) :
    Tail.KeepsAonOtp { t with aon := { t.aon with log := t.flushed cause cut } } (t.flushLog cause cut) := by
  obtain ⟨haon, hotp⟩ := (Tail.recordKeeps_aonOtp t).eventRecs (t.sst 160).recs ⟨rfl, rfl⟩
  unfold Tail.flushLog Tail.flushed
  cases hopen : (t.pd 4 && t.log.ready) with
  | false => exact ⟨rfl, rfl⟩
  | true => exact ⟨by simp [haon], hotp⟩

/-- A loss of the unit's power touches neither OTP nor the log area. -/
theorem Tail.powerOff_fields (t : Tail) : t.powerOff.us = .off ∧ t.powerOff.otp = t.otp
    ∧ t.powerOff.aon = { Aon.init false false false with log := t.aon.log, dom := 0 }
    ∧ t.powerOff.stn = Vector.ofFn (fun n => Station.init n.val) := by
  have hcut : t.cutLoad.otp = t.otp ∧ t.cutLoad.aon = t.aon := by
    unfold Tail.cutLoad
    split <;> exact ⟨rfl, rfl⟩
  obtain ⟨hotp, haon⟩ := hcut
  exact ⟨rfl, hotp, congrArg (fun a : Aon => { Aon.init false false false with log := a.log, dom := 0 }) haon, rfl⟩

theorem bothSuppliesFailed_answers (cut : Option Nat) (s : State) (hon : s.fs.us ≠ .off) :
    Answers (.bothSuppliesFailed cut) s (fun r =>
      r.pending = s.pending ∧ r.hs = s.hs ∧ r.rsp = s.rsp ∧ r.h2f = [] ∧ r.f2h = []
      ∧ r.fs.us = .off ∧ r.fs.aon.dom = 0 ∧ r.fs.aon.aValid = false ∧ r.fs.aon.bValid = false ∧ r.fs.otp = s.fs.otp
      ∧ r.fs.stn = Vector.ofFn (fun n => Station.init n.val) ∧ r.fs.aon.log = s.fs.flushed 1 cut) := by
  obtain ⟨hus, hotp, haon, hstn⟩ := (s.fs.flushLog 1 cut).powerOff_fields
  have hflush := s.fs.flushLog_keeps 1 cut
  refine ⟨_, if_neg hon, rfl, rfl, rfl, rfl, rfl, hus, ?_, ?_, ?_, hotp.trans hflush.otp, hstn, ?_⟩ <;> dsimp only <;> rw [haon]
  · rfl
  · rfl
  · exact congrArg Aon.log hflush.aon

/-- Settles O9: each command of the selector is one change of the always-on domain with its latches; a flush reads the event records and
leaves the rest of it and OTP (`flushLog_keeps`), and `powerOff` makes everything else anew. -/
theorem supplies : Obligations.Supplies :=
  ⟨fun _ hpd hvalid => aFailed_does hpd hvalid, fun _ _ hpd hon hho hfew => bConnected_counted hpd hon hho hfew,
    fun _ _ hpd hon hho hmany => bConnected_held hpd hon hho hmany, fun _ hpd => aReturn_does hpd, fun _ hpd => aExcursion_does hpd,
    fun _ _ hho hdwell hon => dwellComplete_settles hho hdwell hon, fun _ hpd hon hvalid hho ha => bFailed_aborts hpd hon hvalid hho ha,
    fun _ hpd hon hvalid hho => bFailed_returns hpd hon hvalid hho, fun _ hon => unstableClr_does hon, fun _ hpd => supplyValid_does hpd,
    bothSuppliesFailed_answers⟩

end Sys2Proof.Machine
end

section
/-! PD7 at the entry into Standby (04 R153, 12 R472): its inputs stop with their power; O10 is refuted by what it says of them. -/

namespace Sys2Proof.Machine

/-! ## The inputs that stop with PD7 (12 R472) -/

/-- What a write of the VALID bits and a change of the inputs keep, the stop of inputs keeps. -/
theorem Tail.ainStop_keeps {P : Tail → Prop}
    (hP : ∀ (t : Tail) (x : Nat) (v : Vector Ain 8), P t → P { t.p AIN_STAT.VALID x with ain := v }) {t : Tail} (h : P t) : P t.ainStop := by
  refine List.foldlRecOn _ _ h fun r hr k _ => ?_
  split
  · exact hP r _ _ hr
  · exact hr

theorem Tail.ainStop_aon (t : Tail) : t.ainStop.aon = t.aon := Tail.ainStop_keeps (P := fun r => r.aon = t.aon) (fun _ _ _ h => h) rfl

theorem Tail.ainStop_store (t : Tail) : t.ainStop.store = t.store :=
  Tail.ainStop_keeps (P := fun r => r.store = t.store) (fun _ _ _ h => h) rfl

theorem Tail.ainStop_word_ne (t : Tail) {a : Nat} (h : a ≠ AIN_STAT.VALID.addr) : t.ainStop.word a = t.word a :=
  Tail.ainStop_keeps (P := fun r => r.word a = t.word a) (fun r x _ hr => (r.word_p_ne x h).trans hr) rfl

/-! ## The end of the transition to Standby (04 R153, 07 R258) -/

/-- Empty write-back queues have nothing to drain. -/
theorem Tail.drainWb_of_empty {t : Tail} (h : t.store.wb = Vector.replicate 8 []) : t.drainWb = t := by
  have hfold : (List.finRange 8).foldl (fun t (b : Fin 8) => (t.store.wb[b]).foldl Tail.wbWrite t) t = t :=
    List.foldlRecOn (motive := fun r => r = t) _ _ rfl fun r hr b _ => by simp [hr, h]
  unfold Tail.drainWb
  rw [hfold, ← h]

theorem Tail.heldReq_of_none {t : Tail} (h : t.aon.held = none) : t.heldReq = t := by
  unfold Tail.heldReq
  rw [h]

/-- The field side once PD5 to PD7 are off. -/
def Tail.inStandby (t : Tail) : Tail :=
  (t.aonMap (fun a => { a with dom := a.dom &&& 0x1F, ps := .standby, switching := none })).senseOff

theorem Tail.inStandby_held (t : Tail) : t.inStandby.aon.held = t.aon.held := by
  unfold Tail.inStandby Tail.senseOff
  dsimp only
  rw [Tail.ainStop_aon]
  rfl

theorem Tail.inStandby_store (t : Tail) : t.inStandby.store = t.store := by
  unfold Tail.inStandby Tail.senseOff
  dsimp only
  rw [Tail.ainStop_store]
  rfl

theorem Tail.inStandby_retain (t : Tail) : t.inStandby.g PWR_CTRL.RETAIN = t.g PWR_CTRL.RETAIN := by
  unfold Tail.inStandby Tail.senseOff Tail.g
  dsimp only
  rw [Tail.ainStop_word_ne _ (by decide), Tail.word_p_ne _ _ (by decide), Tail.word_p_ne _ _ (by decide)]
  rfl

theorem standbyTransitionDone_settles {s : State} (hsw : s.fs.aon.switching = some .standby) :
    Settles .standbyTransitionDone s (Tail.heldReq (if s.fs.inStandby.b PWR_CTRL.RETAIN
      then s.fs.inStandby.drainWb.aonMap (fun a => { a with retained := true }) else s.fs.inStandby)) :=
  settles_of_tail _ rfl (if_neg (by simp [hsw]))

/-- With RETAIN and nothing to drain, the store goes into retention, and the inputs stop with PD7 off. -/
theorem standbyTransitionDone_retains {s : State} (hsw : s.fs.aon.switching = some .standby) (hheld : s.fs.aon.held = none)
    (hretain : s.fs.g PWR_CTRL.RETAIN = 1) (hwb : s.fs.store.wb = Vector.replicate 8 []) :
    Settles .standbyTransitionDone s (s.fs.inStandby.aonMap (fun a => { a with retained := true })) := by
  have hb : s.fs.inStandby.b PWR_CTRL.RETAIN = true := by
    unfold Tail.b
    rw [Tail.inStandby_retain, hretain]
    rfl
  have hempty : s.fs.inStandby.store.wb = Vector.replicate 8 [] := by rw [Tail.inStandby_store, hwb]
  have h := standbyTransitionDone_settles hsw
  rw [if_pos hb, Tail.drainWb_of_empty hempty, Tail.heldReq_of_none] at h
  · exact h
  · dsimp only [Tail.aonMap]
    rw [Tail.inStandby_held, hheld]

/-! ## O10 -/

/-- A command completes in one way. -/
theorem settles_unique {c : Instr} {s : State} {t r : Tail} (ht : Settles c s t) (hr : Settles c s r) : t.finish = r.finish :=
  congrArg State.fs (Host.Outcome.next.inj (ht.symm.trans hr))

theorem Tail.finish_ain (t : Tail) : t.finish.ain = t.ain := show t.finish.kept.ain = t.kept.ain by rw [t.frames_finish.1]

/-- A unit in Run, in SLEEP on its way to Standby with RETAIN, whose fast analogue input 0 is enabled and converting. -/
def convertingToStandby : State :=
  let s := State.reset
  { s with fs := { ((s.fs.p PWR_CTRL.RETAIN 1).p (PG_CTRL.ENABLE 0x33) 1).p (AIN_CFG.EN 0) 1 with
    us := .sleep
    clk := Clocks.up true 0
    ain := s.fs.ain.set 0 { Ain.init with on := true }
    aon := { s.fs.aon with switching := some .standby } } }

/-- Refutes O10: its last clause stops the fast analogue inputs under the domains as they were before the transition, where PD7 is still
on. The model stops them with PD7 off: from `convertingToStandby` input 0 no longer converts, and the clause has it go on. -/
theorem not_powerStates : ¬ Obligations.PowerStates := by
  intro h
  obtain ⟨-, -, -, -, -, -, -, -, -, hretains⟩ := h
  have hsw : convertingToStandby.fs.aon.switching = some .standby := rfl
  have hheld : convertingToStandby.fs.aon.held = none := rfl
  have hretain : convertingToStandby.fs.g PWR_CTRL.RETAIN = 1 := by decide +kernel
  have hwb : convertingToStandby.fs.store.wb = Vector.replicate 8 [] := rfl
  have hain := congrArg Tail.ain (settles_unique (standbyTransitionDone_retains hsw hheld hretain hwb)
    (hretains convertingToStandby hsw hheld hretain hwb))
  rw [Tail.finish_ain, Tail.finish_ain] at hain
  exact absurd (congrArg (fun v : Vector Ain 8 => v[0].on) hain) (by decide +kernel)

end Sys2Proof.Machine
end


section
/-! Register writes of the host: a write of a page's configuration clears the page's STALE flag (03 R113), which refutes O39. -/

namespace Sys2Proof.Machine

/-! ## What an answered frame leaves of the registers -/

theorem Tail.keepRsp_word (t : Tail) (c : Fin 16) (r : Retained) {a : Nat} (h : logReg a = false) :
    (t.keepRsp c r).word a = t.word a :=
  ((Tail.logs_sysWrites (rspX c.val) 520 (.rfl t)).2 a h).1

theorem Tail.commitOn_record_word (t : Tail) {c : Nat} (hc : c < 256) (kind : Nat) (d : List Byte) {a : Nat} (h : logReg a = false) :
    (t.commitOn c (fun r => r.record .sqc c kind true d)).word a = t.word a :=
  ((Tail.logs_commitOn (f := fun r => r.record .sqc c kind true d) c
    (Tail.logs_record .sqc hc kind true d (Tail.logs_ssn _ (.rfl t)))).2 a h).1

theorem Tail.logAll_word (t : Tail) {a : Nat} (h : logReg a = false) : t.logAll.word a = t.word a :=
  ((Tail.logs_logAll (.rfl t)).2 a h).1

theorem Tail.noteSent_word (t : Tail) (l : Link) (c : Nat) (q : Half) (body : List Byte) (a : Nat) :
    (({ t with link := l } : Tail).noteSent c q body).word a = t.word a := rfl

/-- A register that neither the log nor the settling of states writes reads, once the frame is answered, as its operation left it. -/
theorem State.answered_word (s : State) (op : HspOp) (f : Frame) (st : Nat) (data : List Byte) (t : Tail) {a : Nat}
    (hlog : logReg a = false) (hsettle : settleRegs.contains a = false) : (s.answered op f st data t).fs.word a = t.word a := by
  have hch : (frCh f).val < 256 := by omega
  unfold State.answered
  rw [Tail.noteSent_word, Tail.keepRsp_word _ _ _ hlog, Tail.logAll_word _ hlog, Tail.commitOn_record_word _ hch _ _ hlog]
  exact ((Tail.frames_finish t.seal).2 a hlog hsettle).1

/-! ## O39 -/

/-- A unit in READY_SAFE whose link is up, with STALE set on the STN page of S0, as an abandoned transfer of that page left it
(03 R112). -/
def stalePage : State :=
  let s := State.reset
  { s with
    hs := { s.hs with alert := ⟨true, false, true⟩, fault := ⟨true, false, true⟩ }
    fs := { s.fs.p (PG_STAT.STALE 0x40) 1 with
      us := .readySafe
      clk := Clocks.up true 0
      link := { s.fs.link with ready := true, hsPresent := true } } }

/-- A REG_WRITE of STN_CFG of S0 alone. -/
def cfgFrame : Frame := ⟨0x40, 9, 0x10, 0x28, 4, [1, 0x0A, 0, 0]⟩

theorem stalePage_serves_cfgFrame : stalePage.Serves .regWrite cfgFrame := by decide +kernel

theorem stalePage_stale : stalePage.fs.g (PG_STAT.STALE 0x40) = 1 := by decide +kernel

/-- The write begins a transfer of the page, which clears STALE (03 R113). -/
theorem cfgFrame_clears_stale : (stalePage.hostOp .regWrite cfgFrame).fs.g (PG_STAT.STALE 0x40) = 0 := by decide +kernel

/-- Refutes O39: its last clause has every register of the STN page that the frame does not write stay as it is. A write of the page's
configuration completes a transfer and clears PG_STAT.STALE (03 R113), where an abandoned one had set it: from `stalePage`, `cfgFrame`
writes STN_CFG alone, and STALE changes from 1 to 0. -/
theorem not_hostWrites : ¬ Obligations.HostWrites := by
  intro h
  obtain ⟨-, -, -, -, hstn⟩ := h
  obtain ⟨t, hexec, -, hframe, -⟩ := hstn 0 cfgFrame stalePage stalePage_serves_cfgFrame rfl rfl rfl rfl (by decide) (by decide +kernel)
    (by decide +kernel) (by decide) (by decide)
  have hkept : t.g (PG_STAT.STALE 0x40) = stalePage.fs.g (PG_STAT.STALE 0x40) :=
    congrArg (fdGet (PG_STAT.STALE 0x40)) (hframe (PG_STAT.STALE 0x40).addr rfl (by decide) rfl)
  have hend : (stalePage.answered .regWrite cfgFrame okSt [] t).fs.g (PG_STAT.STALE 0x40) = t.g (PG_STAT.STALE 0x40) :=
    congrArg (fdGet (PG_STAT.STALE 0x40)) (State.answered_word _ _ _ _ _ _ (by decide) (by decide))
  have hrun : stalePage.hostOp .regWrite cfgFrame = stalePage.answered .regWrite cfgFrame okSt [] t := Host.Outcome.next.inj hexec
  rw [← hrun, cfgFrame_clears_stale, hkept, stalePage_stale] at hend
  exact absurd hend (by decide)

end Sys2Proof.Machine
end

section
/-! The commands on streams: RESET, SYNC, descriptor writes and held records (06 R199, R212, R218, R229); O12. -/

namespace Sys2Proof.Machine

/-! ## Refusals (05 R864) -/

/-- No refusal applies where none of the conditions holds. -/
theorem refusal_of_none {l : List (Bool × Nat)} (h : ∀ e ∈ l, e.1 = false) : refusal l = none := by
  have hany : ∀ st : Nat, (l.any fun e => e.1 && e.2 = st) = false := fun st =>
    List.any_eq_false.mpr fun e he => by simp [h e he]
  simp [refusal, hany]

/-! ## Stream commands (06 R218, R229) -/

/-- A stream command that no condition refuses is executed under a commit of its own. -/
theorem Tail.scmd_accepted {t : Tail} {op k : Nat} (hon : t.on 3 = true) (h : refusal (t.scmdCheck op k) = none) :
    t.scmd op k = (t.commit (fun t => t.scmdApply op k)).finish :=
  if_neg (by simp [hon, h])

section
variable {s : State} (hon : s.fs.on 3 = true)
include hon

theorem streamReset_settles (k : Byte) (habsent : strdAbsent s.fs.u k.toNat = false) (haudit : k ≠ 161)
    (hfixed : ¬ (168 ≤ k.toNat ∧ k.toNat < 192)) (hbusy : s.fs.strdBusy k.toNat = false) :
    Settles (.streamReset k) s (s.fs.commit (fun t => t.streamClear k.toNat)) := by
  have hne : k.toNat ≠ 161 := fun h => haudit (BitVec.eq_of_toNat_eq h)
  have hcheck : ∀ e ∈ s.fs.scmdCheck 1 k.toNat, e.1 = false := by
    simpa [Tail.scmdCheck, habsent, hbusy, hne] using hfixed
  exact settles_of_tail _ rfl (Tail.scmd_accepted hon (refusal_of_none hcheck))

theorem streamSync_settles (k : Byte) (habsent : strdAbsent s.fs.u k.toNat = false) :
    Settles (.streamSync k) s (s.fs.commit (fun t => t.sstMap k.toNat (fun x => { x with syncReq := true }))) := by
  have hcheck : ∀ e ∈ s.fs.scmdCheck 2 k.toNat, e.1 = false := by simp [Tail.scmdCheck, habsent]
  exact settles_of_tail _ rfl (Tail.scmd_accepted hon (refusal_of_none hcheck))

/-! ## Descriptor writes (06 R199 to R203) -/

theorem strdCfgWrite_commits (k : Byte) (word : Word)
    (h : refusal (s.fs.strdCheck (Wr.one (STRD_CFG.EN k.toNat).addr word)) = none) :
    Settles (.strdCfgWrite k word) s (s.fs.commit (fun t =>
      ((t.xferBegin (Wr.one (STRD_CFG.EN k.toNat).addr word).page).strdApply (Wr.one (STRD_CFG.EN k.toNat).addr word)).wmUpdate
        k.toNat)) := by
  refine settles_of_tail _ rfl ?_
  dsimp only
  rw [if_neg (by simp [hon]), h]

theorem strdCfgWrite_refused (k : Byte) (word : Word)
    (h : (refusal (s.fs.strdCheck (Wr.one (STRD_CFG.EN k.toNat).addr word))).isSome = true) :
    Settles (.strdCfgWrite k word) s (s.fs.strdRefuse (Wr.one (STRD_CFG.EN k.toNat).addr word)) := by
  obtain ⟨st, hst⟩ := Option.isSome_iff_exists.mp h
  refine settles_of_tail _ rfl ?_
  dsimp only
  rw [if_neg (by simp [hon]), hst]

end

/-- A descriptor write refused under R199 records its stream and what it clashes with (06 R228). -/
theorem Tail.strdRefuse_clash {t : Tail} {w : Wr} {k o : Nat}
    (h : t.strdClash w (strdWritten t.u w) (ringsOf t.u (t.strdFrom w)) = some (k, o)) :
    t.strdRefuse w = (((t.p CSG_REFUSE.VALID 1).p CSG_REFUSE.OTHER o).p CSG_REFUSE.STREAM k).evt 0x06 1 := by
  unfold Tail.strdRefuse
  rw [h]

/-! ## Held records (06 R212) -/

/-- The oldest held record of an enabled stream is written once it fits. -/
theorem Tail.retryHeld_fits {t : Tail} {k : Nat} {h : HeldRec} {q : List HeldRec} (hheld : (t.sst k).held = h :: q)
    (hon : t.streamOn k = true) (hfits : t.fits k h.data.length = true) :
    t.retryHeld k = t.commit (fun t => (t.sstMap k (fun x => { x with held := q })).putRec k h) := by
  unfold Tail.retryHeld
  rw [hheld]
  exact if_pos (by simp [hon, hfits])

theorem backpressureRetry_does {s : State} (k : Byte) (hpd : s.fs.pd 4 = true) (hret : s.fs.aon.retained = false) :
    Does (.backpressureRetry k) s (s.fs.retryHeld k.toNat).logAll :=
  does_of_tail _ rfl (if_pos (by simp [hpd, hret]))

/-- Settles O12: each command is its shared operation behind the conditions that the clause gives it. -/
theorem streamCommands : Obligations.StreamCommands := by
  refine ⟨fun k s hon => streamReset_settles hon k, fun k s hon => streamSync_settles hon k,
    fun k word s hon => strdCfgWrite_commits hon k word, fun k word o s hon hrefused hclash => ?_,
    fun k h q s hpd hret hheld hstream hfits => ?_⟩
  · rw [← Tail.strdRefuse_clash hclash]
    exact strdCfgWrite_refused hon k word hrefused
  · rw [← Tail.retryHeld_fits hheld hstream hfits]
    exact backpressureRetry_does k hpd hret

end Sys2Proof.Machine
end

section
/-! Frames served whole by the field side (08 R278, R281, R292, R297, R319), and those on streams (06 R205, R212, 07 R253, 08 R289, R301 to
R304); O40. -/

namespace Sys2Proof.Machine

/-! ## What the operation of a frame leaves (06 R219) -/

/-- `r` has the kind of unit and the store sequence number of `t`. -/
structure Tail.KeepsSsn (t r : Tail) : Prop where
  u : r.u = t.u
  ssn : r.ssn = t.ssn

theorem Tail.KeepsSsn.refl (t : Tail) : t.KeepsSsn t := ⟨rfl, rfl⟩

theorem Tail.KeepsSsn.trans {o t r : Tail} (h : o.KeepsSsn t) (h' : t.KeepsSsn r) : o.KeepsSsn r :=
  ⟨h'.u.trans h.u, h'.ssn.trans h.ssn⟩

/-- A record and the reads of the store take no store sequence number. -/
theorem Tail.recordKeeps_ssn (o : Tail) : Tail.RecordKeeps o.KeepsSsn where
  store _ _ h := h.trans ⟨rfl, rfl⟩
  latch t p i v h := h.trans ⟨t.evtV_u p i v, t.evtV_ssn p i v⟩
  count _ _ _ _ h := h.trans ⟨rfl, rfl⟩
  desc _ _ _ h := h.trans ⟨rfl, rfl⟩

theorem Tail.keepsSsn_setUnit (t : Tail) (us : UnitSt) : t.KeepsSsn (t.setUnit us) := by
  unfold Tail.setUnit
  split
  · exact .refl t
  · exact ⟨rfl, rfl⟩

theorem Tail.KeepsSsn.p {o t : Tail} (f : Fd) (x : Nat) (h : o.KeepsSsn t) : o.KeepsSsn (t.p f x) := h.trans ⟨rfl, rfl⟩

theorem Tail.KeepsSsn.evt {o t : Tail} (p i : Nat) (h : o.KeepsSsn t) : o.KeepsSsn (t.evt p i) :=
  (Tail.recordKeeps_ssn o).latch _ _ _ _ h

/-- Host activity takes no store sequence number (22 R773). -/
theorem Tail.keepsSsn_hostActivity (t : Tail) : t.KeepsSsn t.hostActivity := by
  unfold Tail.hostActivity
  extract_lets _ _ _ t1 t2 _ _ t3
  have h1 : t.KeepsSsn t1 := ⟨rfl, rfl⟩
  have h2 : t.KeepsSsn t2 := h1.evt _ _
  have h3 : t.KeepsSsn t3 := by
    unfold t3
    split
    · exact (h2.trans (Tail.keepsSsn_setUnit _ _)).trans ⟨rfl, rfl⟩
    · exact h2
  split
  · exact h1
  · split
    · refine List.foldlRecOn _ _ h3 fun r hr n _ => ?_
      split
      · exact hr.trans ⟨rfl, rfl⟩
      · exact hr
    · exact h3

theorem Tail.keepsSsn_acceptReq (t : Tail) (c : Fin 16) (l : Half) : t.KeepsSsn (t.acceptReq c l) := by
  have hgap : t.KeepsSsn (t.countGap c l) := by
    unfold Tail.countGap
    split
    · split
      · exact .refl t
      · exact ((Tail.KeepsSsn.refl t).p _ _).evt _ _
    · exact .refl t
  rw [Tail.acceptReq_eq]
  exact (hgap.p BLNK_SEQ.LAST_LSEQ l.toNat).trans ⟨rfl, rfl⟩

/-- The commit of a frame has the next store sequence number. -/
theorem State.begun_keeps (s : State) (op : HspOp) (f : Frame) : (s.begun op f).u = s.fs.u ∧ (s.begun op f).ssn = s.fs.ssn + 1 := by
  have hch : (frCh f).val < 256 := by omega
  unfold State.begun
  generalize s.hs.lseq[(frCh f).val] + 1 = q
  have haccept := s.fs.keepsSsn_acceptReq (Fin.ofNat 16 (frCh f).val) q
  generalize s.fs.acceptReq (Fin.ofNat 16 (frCh f).val) q = t at haccept
  have hrec := (Tail.recordKeeps_ssn _).record .sqc hch 3 true (requestBody op f ++ [0x00])
    (Tail.keepsSsn_hostActivity { t with ssn := t.ssn + 1 })
  exact ⟨hrec.u.trans haccept.u, hrec.ssn.trans (congrArg (· + 1) haccept.ssn)⟩

/-! ## The body of a response (08 R281) -/

theorem responseBody_eq (st : Nat) (seq : Byte) (snap : Word) (data : List Byte) :
    ∃ crc : List Byte, crc.length = 4
      ∧ responseBody st seq snap data = [BitVec.ofNat 8 st, seq] ++ leBytes 4 snap.toNat ++ data ++ crc :=
  ⟨_, leBytes_length 4 _, rfl⟩

section
variable (st : Nat) (seq : Byte) (snap : Word) (data : List Byte)

theorem responseBody_status (h : st < 256) : ((responseBody st seq snap data).getD 0 0).toNat = st := Nat.mod_eq_of_lt h

theorem responseBody_snap : BitVec.ofNat 32 (leNat (((responseBody st seq snap data).drop 2).take 4)) = snap :=
  ofNat_leNat_leBytes_four snap

theorem responseBody_data :
    ((responseBody st seq snap data).drop 6).take ((responseBody st seq snap data).length - 10) = data := by
  obtain ⟨crc, hcrc, hbody⟩ := responseBody_eq st seq snap data
  have hhead : ([BitVec.ofNat 8 st, seq] ++ leBytes 4 snap.toNat).length = 6 := by simp
  have hlen : (responseBody st seq snap data).length - 10 = data.length := by
    rw [hbody, List.length_append, List.length_append, hhead, hcrc]
    omega
  rw [hlen, hbody, List.append_assoc, List.drop_left' hhead, List.take_left]

end

/-! ## A frame served whole -/

/-- What waits in the receive buffer changes a counter of the Headstock alone. -/
theorem State.takeLateHsp_hs (s : State) : ∃ regs, s.takeLateHsp.hs = { s.hs with regs := regs } :=
  List.foldlRecOn (motive := fun h : Head => ∃ regs, h = { s.hs with regs := regs }) _ _ ⟨_, rfl⟩ fun h hh e _ => by
    obtain ⟨regs, rfl⟩ := hh
    split
    · exact ⟨_, rfl⟩
    · exact ⟨_, rfl⟩

/-- A request without an entry in the duplicate table is executed (08 R292). -/
theorem Head.disposition_new {h : Head} {c : Fin 8} {q : Byte} (chk : Word) (hnone : h.entry c q = none) :
    h.disposition c q chk = (.execute, none) := by
  unfold Head.disposition
  rw [hnone]

section
variable {s : State} {op : HspOp} {f : Frame}

/-- The request of a served frame goes out: the Headstock answers it neither itself nor from the duplicate table (08 R278, R292). -/
theorem State.Serves.hostOp_fieldWhole (h : s.Serves op f) :
    s.hostOp op f =
      ({ s with rxBuf := s.rxBuf.filter (·.mb), hs := s.requested f } : State).fieldWhole op f (s.hs.lseq[(frCh f).val] + 1)
        .execute := by
  obtain ⟨hpow, hframe, hcheck, hlocal, hready, -, hentry, -⟩ := h
  obtain ⟨regs, hlate⟩ := s.takeLateHsp_hs
  have hready' : s.takeLateHsp.hs.ready = true := by rw [hlate]; exact hready
  have hpresent : s.takeLateHsp.hs.present = true := by
    simp only [Head.ready, Bool.and_eq_true] at hready'
    exact hready'.1.1
  have hfield : s.takeLateHsp.hs.fieldStatus = none := by simp [Head.fieldStatus, hpresent, hready']
  have hnone : (s.takeLateHsp.hs.nextLseq ⟨(frCh f).val, by omega⟩).2.entry (frCh f) f.seq = none := by
    rw [hlate]
    exact hentry
  have hlseq : s.takeLateHsp.hs.lseq = s.hs.lseq := by rw [hlate]
  rw [← hlseq]
  unfold State.hostOp
  dsimp only
  rw [if_neg (by simp [hpow, hframe]), hcheck]
  dsimp only
  rw [if_neg (by simp [hlocal]), hfield]
  dsimp only
  rw [Head.disposition_new _ hnone]
  rfl

/-- A request that the field side has not accepted yet is executed, and its response is kept (02 R62, R70). -/
theorem Tail.answerHsp_new {t : Tail} {c : Nat} {q : Half} (op : HspOp) (f : Frame) (chk : Word)
    (hnew : t.link.lastLseq[Fin.ofNat 16 c] ≠ some q) :
    t.answerHsp c q op f chk .execute =
      (let r := (t.acceptReq (Fin.ofNat 16 c) q).runHsp c op f
       (some (responseBody r.status f.seq r.snap r.data),
        r.t.keepRsp (Fin.ofNat 16 c) ⟨false, q, f.seq, chk, r.status, r.snap, r.data⟩)) := by
  unfold Tail.answerHsp
  dsimp only
  rw [Tail.takeReq_new t _ q _ hnew, if_neg (by decide)]

/-- The response to a served frame: the operation answers `a` in the frame's commit, and the RSP record follows (06 R206, R219). -/
theorem State.begun_runHsp (s : State) (op : HspOp) (f : Frame) {a : Ans} (ha : (s.begun op f).runOp op f = a) :
    (s.fs.acceptReq (Fin.ofNat 16 (frCh f).val) (s.hs.lseq[(frCh f).val] + 1)).runHsp (frCh f).val op f =
      ⟨a.status, a.t.ssn, a.data, (a.t.seal.finish.commitOn (frCh f).val
        (fun r => r.record .sqc (frCh f).val 4 true (responseBody a.status f.seq a.t.ssn a.data))).logAll⟩ := by
  subst ha
  rfl

theorem Tail.Frames.u_eq {t r : Tail} (h : t.Frames r) : r.u = t.u := show r.kept.u = t.kept.u by rw [h.1]

theorem Tail.noteSent_u (t : Tail) (l : Link) (c : Nat) (q : Half) (body : List Byte) :
    (({ t with link := l } : Tail).noteSent c q body).u = t.u := rfl

theorem Tail.keepRsp_u (t : Tail) (c : Fin 16) (r : Retained) : (t.keepRsp c r).u = t.u :=
  (Tail.logs_sysWrites (rspX c.val) 520 (.rfl t)).frames.u_eq

theorem Tail.logAll_u (t : Tail) : t.logAll.u = t.u := (Tail.logs_logAll (.rfl t)).frames.u_eq

theorem Tail.commitOn_record_u (t : Tail) {c : Nat} (hc : c < 256) (kind : Nat) (d : List Byte) :
    (t.commitOn c (fun r => r.record .sqc c kind true d)).u = t.u :=
  (Tail.logs_commitOn (f := fun r => r.record .sqc c kind true d) c
    (Tail.logs_record .sqc hc kind true d (Tail.logs_ssn _ (.rfl t)))).frames.u_eq

/-- The end of a frame leaves the kind of unit (00 R3). -/
theorem State.answered_u (s : State) (op : HspOp) (f : Frame) (st : Nat) (data : List Byte) (t : Tail) :
    (s.answered op f st data t).fs.u = t.u := by
  have hch : (frCh f).val < 256 := by omega
  unfold State.answered
  rw [Tail.noteSent_u, Tail.keepRsp_u, Tail.logAll_u, Tail.commitOn_record_u _ hch]
  exact t.seal.frames_finish.u_eq

/-- The field side has answered a request with the body `b` and has become `t`: the frame ends with what the body says (08 R297, R319). -/
theorem State.fieldWhole_answered {s : State} {op : HspOp} {f : Frame} {q : Half} {d : Disp} {b : List Byte} {t r : Tail}
    (hserves : s.fs.serves = true) (h : s.fs.answerHsp (frCh f).val q op f (frameChk op f) d = (some b, t))
    {m : H2F} (hm : m = .reqHsp (frCh f).val q op f (frameChk op f) d)
    (hr : r = ({ t with link := t.link.carried t.now m.count (rspSymbols b.length) } : Tail).noteSent (frCh f).val q b) :
    s.fieldWhole op f q d = { s with
      fs := r
      hs := (((s.hs.learn op f b).countEnd r.u (b.getD 0 0).toNat).last r.u f (b.getD 0 0).toNat).release
      rsp := some ⟨(b.getD 0 0).toNat, f.seq, BitVec.ofNat 32 (leNat ((b.drop 2).take 4)), (b.drop 6).take (b.length - 10)⟩ } := by
  unfold State.fieldWhole
  dsimp only
  rw [if_neg (by simp [hserves]), h, hr, hm]
  rfl

/-- A served frame whose operation answers `a` in the frame's commit ends with that answer. -/
theorem State.Serves.hostOp_answered (h : s.Serves op f) {a : Ans} (ha : (s.begun op f).runOp op f = a) (hst : a.status < 256)
    (hkeep : (s.begun op f).KeepsSsn a.t) : s.hostOp op f = s.answered op f a.status a.data a.t := by
  obtain ⟨hu, hssn⟩ := s.begun_keeps op f
  have hsnap : a.t.ssn = s.fs.ssn + 1 := hkeep.ssn.trans hssn
  have hkind : (s.answered op f a.status a.data a.t).fs.u = s.fs.u := (s.answered_u ..).trans (hkeep.u.trans hu)
  have hwhole := h.hostOp_fieldWhole
  obtain ⟨-, -, -, -, -, hserves, -, hnew⟩ := h
  have hidx : s.fs.link.lastLseq[Fin.ofNat 16 (frCh f).val] = s.fs.link.lastLseq[(frCh f).val] := by
    simp [Nat.mod_eq_of_lt (show (frCh f).val < 16 by omega)]
  have hanswer := Tail.answerHsp_new op f (frameChk op f) (hidx ▸ hnew)
  rw [s.begun_runHsp op f ha, hsnap] at hanswer
  dsimp only at hanswer
  have hfield := State.fieldWhole_answered (s := { s with rxBuf := s.rxBuf.filter (·.mb), hs := s.requested f }) hserves hanswer
    rfl rfl
  unfold State.answered at hkind ⊢
  rw [hwhole, hfield, responseBody_status _ _ _ _ hst, responseBody_snap, responseBody_data]
  dsimp only at hkind ⊢
  rw [hkind]

end

/-! ## Stream reads (06 R221, 07 R252, 08 R301 to R303) -/

section
variable {P : Tail → Prop} (hP : Tail.RecordKeeps P)
include hP

theorem Tail.RecordKeeps.gatherStep {t : Tail} (len k : Nat) (g : Gather) (r : RecIx) (h : P t) : P (t.gatherStep len k g r).2 := by
  have hread : P (t.readRec k r).2 := hP.readRec k r h
  unfold Tail.gatherStep
  dsimp only
  split
  · exact h
  · split
    · split <;> exact hread
    · split
      · exact hread
      · split
        · split <;> exact hread
        · split
          · exact hread
          · exact h

theorem Tail.RecordKeeps.gather (len k : Nat) (rs : List RecIx) :
    ∀ {t : Tail} (g : Gather), P t → P (t.gather len k rs g).2 := by
  induction rs with
  | nil => exact fun _ h => h
  | cons r rs ih => exact fun g h => ih _ (hP.gatherStep len k g r h)

theorem Tail.RecordKeeps.skipLost {t : Tail} (k c : Nat) (h : P t) : P (t.skipLost k c) := by
  unfold Tail.skipLost
  split
  · exact h
  · exact hP.sstMap _ _ (hP.lose _ _ h)

theorem Tail.RecordKeeps.streamData {t : Tail} (k len : Nat) (rs : List RecIx) (skipped : Bool) (h : P t) :
    P (t.streamData k len rs skipped).2.2.2.2 := by
  unfold Tail.streamData
  split
  · exact h
  · exact hP.skipLost _ _ (hP.gather _ _ _ _ h)

theorem Tail.RecordKeeps.consume {t : Tail} (k : Nat) (h : P t) : P (t.consume k) := by
  unfold Tail.consume
  dsimp only
  split
  · exact hP.wmUpdate _ (hP.sstMap _ _ (hP.sysWrites _ _ h))
  · exact h

theorem Tail.RecordKeeps.markDelivered {t : Tail} (k : Nat) (ps : List Nat) (h : P t) : P (t.markDelivered k ps) := hP.sstMap _ _ h

end

/-! ## The operations on streams (06 R212, 08 R289, R301 to R304) -/

section
variable {t t2 : Tail} {f : Frame} {k len : Nat} {cut skipped : Bool} {d : List Byte} {ps : List Nat}

/-- An accepted STREAM_PUT without VERIFY writes its record and answers no data. -/
theorem Tail.putOp_accepted (hverify : frVerify f = false) (h : refusal (t.putCheck f.stream.toNat f.payload.length) = none) :
    t.putOp f = ⟨okSt, [], t.record .host f.stream.toNat (if f.stream.toNat = 168 then 0x0B else 2) true f.payload⟩ := by
  unfold Tail.putOp
  dsimp only
  rw [h, hverify]
  rfl

/-- An accepted STREAM_GET consumes the delivery before it and marks its own. -/
theorem Tail.getOp_accepted (htrace : traceStream k = false) (h : refusal (t.getCheck k (hostGet k)) = none)
    (hdata : ((t.sysReads (descX k) 2).consume k).streamData k len (((t.sysReads (descX k) 2).consume k).sst k).recs
      (((t.sysReads (descX k) 2).consume k).sst k).skip = (cut, d, ps, skipped, t2)) :
    t.getOp k len = ⟨if cut then partialSt else okSt, d, (t2.markDelivered k ps).sstMap k (fun x => { x with skip := skipped })⟩ := by
  unfold Tail.getOp
  rw [h]
  dsimp only
  rw [hdata]
  dsimp only
  rw [htrace]
  rfl

/-- An accepted STREAM_PEEK delivers and consumes nothing. -/
theorem Tail.peekOp_accepted {skip : Nat} (htrace : traceStream k = false) (h : refusal (t.getCheck k (hostPeek k)) = none)
    (hdata : (t.sysReads (descX k) 2).streamData k len (skipData skip ((t.sysReads (descX k) 2).sst k).recs) false
      = (cut, d, ps, skipped, t2)) :
    t.peekOp k skip len = ⟨if cut then partialSt else okSt, d, t2⟩ := by
  unfold Tail.peekOp
  rw [h]
  dsimp only
  rw [hdata]
  dsimp only
  rw [htrace]
  rfl

end

theorem partialOrOk_lt (cut : Bool) : (if cut then partialSt else okSt) < 256 := by
  cases cut <;> decide

/-! ## O40 -/

section
variable {s : State} {f : Frame}

theorem streamPut_answered (h : s.Serves .streamPut f) (hverify : frVerify f = false)
    (haccept : refusal ((s.begun .streamPut f).putCheck f.stream.toNat f.payload.length) = none) :
    exec (.streamPut f) s = .next (s.answered .streamPut f okSt []
      ((s.begun .streamPut f).record .host f.stream.toNat (if f.stream.toNat = 168 then 0x0B else 2) true f.payload)) :=
  congrArg _ (h.hostOp_answered (Tail.putOp_accepted hverify haccept) (show okSt < 256 by decide)
    ((Tail.recordKeeps_ssn _).record .host f.stream.isLt _ _ _ (.refl _)))

variable {t2 : Tail} {cut skipped : Bool} {d : List Byte} {ps : List Nat}

theorem streamGet_answered (h : s.Serves .streamGet f) (htrace : traceStream f.stream.toNat = false)
    (haccept : refusal ((s.begun .streamGet f).getCheck f.stream.toNat (hostGet f.stream.toNat)) = none) :
    let k := f.stream.toNat
    let t := ((s.begun .streamGet f).sysReads (descX k) 2).consume k
    t.streamData k f.len.toNat (t.sst k).recs (t.sst k).skip = (cut, d, ps, skipped, t2) →
    exec (.streamGet f) s = .next (s.answered .streamGet f (if cut then partialSt else okSt) d
      ((t2.markDelivered k ps).sstMap k (fun x => { x with skip := skipped }))) := by
  intro k t hdata
  have hP := Tail.recordKeeps_ssn (s.begun .streamGet f)
  have hread : (s.begun .streamGet f).KeepsSsn t2 := by
    have := hP.streamData k f.len.toNat (t.sst k).recs (t.sst k).skip (hP.consume k (hP.descRead f.stream.isLt (.refl _)))
    rwa [hdata] at this
  have hend : (s.begun .streamGet f).KeepsSsn ((t2.markDelivered k ps).sstMap k (fun x => { x with skip := skipped })) :=
    hP.sstMap _ _ (hP.markDelivered k ps hread)
  exact congrArg _ (h.hostOp_answered (Tail.getOp_accepted htrace haccept hdata) (partialOrOk_lt cut) hend)

theorem streamPeek_answered (h : s.Serves .streamPeek f) (htrace : traceStream f.stream.toNat = false)
    (haccept : refusal ((s.begun .streamPeek f).getCheck f.stream.toNat (hostPeek f.stream.toNat)) = none) :
    let k := f.stream.toNat
    let t := (s.begun .streamPeek f).sysReads (descX k) 2
    t.streamData k f.len.toNat (skipData f.addr.toNat (t.sst k).recs) false = (cut, d, ps, skipped, t2) →
    exec (.streamPeek f) s = .next (s.answered .streamPeek f (if cut then partialSt else okSt) d t2) := by
  intro k t hdata
  have hP := Tail.recordKeeps_ssn (s.begun .streamPeek f)
  have hread : (s.begun .streamPeek f).KeepsSsn t2 := by
    have := hP.streamData k f.len.toNat (skipData f.addr.toNat (t.sst k).recs) false (hP.descRead f.stream.isLt (.refl _))
    rwa [hdata] at this
  exact congrArg _ (h.hostOp_answered (Tail.peekOp_accepted htrace haccept hdata) (partialOrOk_lt cut) hread)

end

/-- Settles O40: a served frame ends with what its operation answers, and each operation keeps the number of the frame's commit. -/
theorem streamFrames : Obligations.StreamFrames :=
  ⟨fun _ _ h hverify haccept => streamPut_answered h hverify haccept,
    fun _ _ h htrace haccept _ _ _ _ _ hdata => streamGet_answered h htrace haccept hdata,
    fun _ _ h htrace haccept _ _ _ _ _ hdata => streamPeek_answered h htrace haccept hdata⟩

end Sys2Proof.Machine
end

section
/-! The code of the store's words (07 R243 to R245, R247): the syndrome is linear over XOR in the address and in the word, so that a
changed address bit or a flipped bit adds its own column to it; O58. -/

namespace Sys2Proof.Machine

/-! ## Columns -/

/-- The column `c` where the lowest bit of `x` is 1. -/
def lowCol (c x : Nat) : Nat := if x % 2 = 1 then c else 0

theorem colXor_cons (c : Nat) (cs : List Nat) (x : Nat) : colXor (c :: cs) x = lowCol c x ^^^ colXor cs (x / 2) := by
  unfold lowCol
  rw [colXor]
  split
  · rfl
  · exact (Nat.zero_xor _).symm

theorem lowCol_xor (c x y : Nat) : lowCol c (x ^^^ y) = lowCol c x ^^^ lowCol c y := by
  unfold lowCol
  rw [Nat.xor_mod_two_eq, Nat.add_mod]
  rcases Nat.mod_two_eq_zero_or_one x with hx | hx <;> rcases Nat.mod_two_eq_zero_or_one y with hy | hy <;> simp [hx, hy]

theorem colXor_xor (cs : List Nat) (x y : Nat) : colXor cs (x ^^^ y) = colXor cs x ^^^ colXor cs y := by
  induction cs generalizing x y with
  | nil => exact (Nat.xor_self 0).symm
  | cons c cs ih =>
    simp only [colXor_cons, lowCol_xor, Nat.xor_div_two, ih]
    ac_rfl

theorem colXor_lt {cs : List Nat} {n : Nat} (h : ∀ c ∈ cs, c < 2 ^ n) (x : Nat) : colXor cs x < 2 ^ n := by
  induction cs generalizing x with
  | nil => exact Nat.two_pow_pos n
  | cons c cs ih =>
    obtain ⟨hc, hcs⟩ := List.forall_mem_cons.mp h
    have hlow : lowCol c x < 2 ^ n := by
      unfold lowCol
      split
      · exact hc
      · exact Nat.two_pow_pos n
    rw [colXor_cons]
    exact Nat.xor_lt_two_pow hlow (ih hcs _)

theorem checkBits_lt (a d : Nat) : checkBits a d < 2 ^ 8 :=
  Nat.xor_lt_two_pow (colXor_lt (by decide) d) (colXor_lt (by decide) a)

/-! ## Data and check bits of a word -/

theorem wordData_ofNat (c d : Nat) : wordData (BitVec.ofNat 72 (d % 2 ^ 64 + c * 2 ^ 64)) = d % 2 ^ 64 := by
  rw [wordData, BitVec.toNat_ofNat]
  omega

section
variable {c : Nat} (d : Nat) (hc : c < 2 ^ 8)
include hc

theorem wordCheck_ofNat : wordCheck (BitVec.ofNat 72 (d % 2 ^ 64 + c * 2 ^ 64)) = c := by
  rw [wordCheck, BitVec.toNat_ofNat]
  omega

theorem syndrome_ofNat (a : Nat) :
    syndrome a (BitVec.ofNat 72 (d % 2 ^ 64 + c * 2 ^ 64)) = c ^^^ checkBits a (d % 2 ^ 64) := by
  rw [syndrome, wordCheck_ofNat d hc, wordData_ofNat c d]

end

theorem wordData_encWord (a : Nat) {d : Nat} (hd : d < 2 ^ 64) : wordData (encWord a d) = d :=
  (wordData_ofNat _ d).trans (Nat.mod_eq_of_lt hd)

theorem syndrome_encWord (a d : Nat) : syndrome a (encWord a d) = 0 := by
  rw [encWord, syndrome_ofNat d (checkBits_lt a _), Nat.xor_self]

theorem syndrome_poisonWord (a d : Nat) : syndrome a (poisonWord a d) = 0xFF := by
  rw [poisonWord, syndrome_ofNat d (Nat.xor_lt_two_pow (by decide) (checkBits_lt a _)), Nat.xor_assoc, Nat.xor_self, Nat.xor_zero]

/-! ## The syndrome is linear -/

theorem wordData_xor (v w : StoreWord) : wordData (v ^^^ w) = wordData v ^^^ wordData w := by
  rw [wordData, BitVec.toNat_xor, Nat.xor_mod_two_pow]
  rfl

theorem wordCheck_xor (v w : StoreWord) : wordCheck (v ^^^ w) = wordCheck v ^^^ wordCheck w := by
  rw [wordCheck, BitVec.toNat_xor, Nat.xor_div_two_pow]
  rfl

theorem checkBits_xor (a b d e : Nat) : checkBits (a ^^^ b) (d ^^^ e) = checkBits a d ^^^ checkBits b e := by
  unfold checkBits
  rw [colXor_xor, colXor_xor]
  ac_rfl

theorem syndrome_xor (a b : Nat) (v w : StoreWord) : syndrome (a ^^^ b) (v ^^^ w) = syndrome a v ^^^ syndrome b w := by
  unfold syndrome
  rw [wordCheck_xor, wordData_xor, checkBits_xor]
  ac_rfl

/-- The syndrome of an encoded word with the bits of `e` flipped is that of the flips. -/
theorem syndrome_flips (a d : Nat) (e : StoreWord) : syndrome a (encWord a d ^^^ e) = syndrome 0 e := by
  simpa [syndrome_encWord] using syndrome_xor a 0 (encWord a d) e

/-- The syndrome of an encoded word read at an address that differs in the bits of `q` is that of the difference. -/
theorem syndrome_otherAddr (a q d : Nat) : syndrome (a ^^^ q) (encWord a d) = syndrome q 0 := by
  simpa [syndrome_encWord] using syndrome_xor a q (encWord a d) 0

/-! ## The classes of a syndrome (07 R244) -/

theorem b2n_xor (x y : Bool) : b2n (x ^^ y) % 2 = (b2n x + b2n y) % 2 := by revert x y; decide

theorem popcount_xor_parity (n x y : Nat) : popcount n (x ^^^ y) % 2 = (popcount n x + popcount n y) % 2 := by
  induction n with
  | zero => rfl
  | succ n ih =>
    have hbit := b2n_xor (x.testBit n) (y.testBit n)
    simp only [popcount, Nat.testBit_xor]
    omega

/-- What a syndrome corrects is XORed to the data (07 R244): a correction follows the data. -/
theorem classify_corrected_xor {s d x : Nat} (h : classify s d = .corrected x) (e : Nat) :
    classify s (d ^^^ e) = .corrected (x ^^^ e) := by
  unfold classify at h ⊢
  by_cases hgood : s = 0
  · simp [hgood] at h
  by_cases hpoison : s = 0xFF
  · simp [hpoison] at h
  rw [if_neg hgood, if_neg hpoison] at h ⊢
  cases hcol : dataCols.findIdx? (· == s) with
  | some i =>
    simp only [hcol, EccClass.corrected.injEq] at h ⊢
    rw [← h, Nat.xor_right_comm]
  | none =>
    simp only [hcol] at h ⊢
    by_cases hunit : popcount 8 s = 1
    · rw [if_pos hunit, EccClass.corrected.injEq] at h ⊢
      rw [h]
    · simp [hunit] at h

/-- Every column of the data and of the check bits has odd weight: an even one that is not 0 corrects nothing. -/
theorem classify_of_even {s : Nat} (d : Nat) (heven : popcount 8 s % 2 = 0) (hne : s ≠ 0) :
    classify s d = if s = 0xFF then .poisoned else .uncorrectable := by
  have hodd : ∀ c ∈ dataCols, popcount 8 c % 2 = 1 := by decide
  have hcol : dataCols.findIdx? (· == s) = none :=
    List.findIdx?_eq_none_iff.mpr fun c hc => beq_false_of_ne fun e => by
      have := hodd c hc
      rw [e] at this
      omega
  unfold classify
  rw [if_neg hne, hcol]
  exact if_congr Iff.rfl rfl (if_neg (by omega))

/-! ## Single bits -/

/-- The columns of a word's 72 bits: those of its data bits, and a unit vector for each check bit (07 R243). -/
def wordCols : List Nat := dataCols ++ (List.range 8).map (2 ^ ·)

theorem syndrome_oneBit (i : Fin 72) : syndrome 0 ((1 : StoreWord) <<< i.val) = wordCols[i] := by
  revert i
  decide +kernel

theorem wordCols_odd (i : Fin 72) : popcount 8 wordCols[i] % 2 = 1 := by
  revert i
  decide +kernel

theorem wordCols_ne {i j : Fin 72} (h : i ≠ j) : wordCols[i] ≠ wordCols[j] := fun e =>
  h (Fin.ext (((show wordCols.Nodup by decide +kernel).getElem_inj_iff).mp e))

/-- A flip in a word of zeros is corrected to 0. -/
theorem classify_oneBit (i : Fin 72) :
    classify (syndrome 0 ((1 : StoreWord) <<< i.val)) (wordData ((1 : StoreWord) <<< i.val)) = .corrected 0 := by
  revert i
  decide +kernel

theorem encWord_oneFlip (a : Nat) {d : Nat} (hd : d < 2 ^ 64) (i : Fin 72) :
    classify (syndrome a (encWord a d ^^^ (1 : StoreWord) <<< i.val)) (wordData (encWord a d ^^^ (1 : StoreWord) <<< i.val))
      = .corrected d := by
  rw [syndrome_flips, wordData_xor, wordData_encWord a hd, Nat.xor_comm, classify_corrected_xor (classify_oneBit i), Nat.zero_xor]

/-- Two flips add two different columns of odd weight. -/
theorem encWord_twoFlips (a d x : Nat) {i j : Fin 72} (h : i ≠ j) :
    let y := syndrome a (encWord a d ^^^ (1 : StoreWord) <<< i.val ^^^ (1 : StoreWord) <<< j.val)
    classify y x = if y = 0xFF then .poisoned else .uncorrectable := by
  intro y
  have hy : y = wordCols[i] ^^^ wordCols[j] := by
    rw [← syndrome_oneBit i, ← syndrome_oneBit j, ← syndrome_xor, Nat.xor_zero, ← syndrome_flips a d, ← BitVec.xor_assoc]
  refine classify_of_even x ?_ ?_
  · rw [hy, popcount_xor_parity, Nat.add_mod, wordCols_odd i, wordCols_odd j]
  · rw [hy]
    exact fun e => wordCols_ne h (Nat.xor_eq_zero_iff.mp e)

/-! ## Wrong addresses (07 R245) -/

/-- An even, non-zero syndrome other than that of a poisoned word. -/
def Detects (y : Nat) : Prop := popcount 8 y % 2 = 0 ∧ y ≠ 0 ∧ y ≠ 0xFF

theorem Detects.uncorrectable {y : Nat} (h : Detects y) (d : Nat) :
    popcount 8 y % 2 = 0 ∧ y ≠ 0 ∧ classify y d = .uncorrectable :=
  ⟨h.1, h.2.1, (classify_of_even d h.1 h.2.1).trans (if_neg h.2.2)⟩

theorem syndrome_oneAddrBit (k : Fin 21) : syndrome (2 ^ k.val) 0 = addrCols[k] := by
  revert k
  decide +kernel

theorem addrCols_detect (k : Fin 21) : Detects addrCols[k] := by
  revert k
  unfold Detects
  decide +kernel

theorem addrCols_detect_two {k l : Fin 21} : k ≠ l → Detects (addrCols[k] ^^^ addrCols[l]) := by
  revert k l
  unfold Detects
  decide +kernel

theorem wrongAddr_detects (a d b : Nat) (k l : Fin 21) (h : b = a ^^^ 2 ^ k.val ∨ k ≠ l ∧ b = a ^^^ 2 ^ k.val ^^^ 2 ^ l.val) :
    Detects (syndrome b (encWord a d)) := by
  rcases h with rfl | ⟨hne, rfl⟩
  · rw [syndrome_otherAddr, syndrome_oneAddrBit]
    exact addrCols_detect k
  · have hsum : syndrome (2 ^ k.val ^^^ 2 ^ l.val) 0 = addrCols[k] ^^^ addrCols[l] := by
      rw [← syndrome_oneAddrBit k, ← syndrome_oneAddrBit l]
      exact syndrome_xor _ _ 0 0
    rw [Nat.xor_assoc, syndrome_otherAddr, hsum]
    exact addrCols_detect_two hne

/-- Settles O58: the syndrome is the sum of the columns of what is wrong, and the columns' weights and differences class it. -/
theorem storeCode : Obligations.StoreCode := by
  intro a d hd
  refine ⟨⟨syndrome_encWord a d, wordData_encWord a hd⟩, encWord_oneFlip a hd, fun i j hne => ?_, ?_,
    fun k l b h => (wrongAddr_detects a d b k l h).uncorrectable _⟩
  · dsimp only
    rw [encWord_twoFlips a d _ hne]
    split <;> simp
  · rw [syndrome_poisonWord]
    rfl

end Sys2Proof.Machine
end

section
/-! Write-back, scrub and injection in the Central Store (07 R246, R247, R259 to R268); O13. -/

namespace Sys2Proof.Machine

/-! ## What the reads of a word leave of the scrubber's state (07 R246 to R249) -/

@[simp] theorem Tail.inc_store (t : Tail) (f : Fd) : (t.inc f).store = t.store := rfl

@[simp] theorem Tail.elog_store (t : Tail) (a s ty : Nat) : (t.elog a s ty).store = t.store := rfl

@[simp] theorem Tail.countRead_store (t : Tail) (a s : Nat) (c : EccClass) : (t.countRead a s c).store = t.store := by
  cases c <;> simp [Tail.countRead]

theorem Tail.queueCorrection_scrub (t : Tail) (a : Nat) (w : StoreWord) : (t.queueCorrection a w).store.scrub = t.store.scrub := by
  unfold Tail.queueCorrection
  dsimp only
  split
  · rfl
  · split <;> rfl

theorem Tail.queuePoison_scrub (t : Tail) (a : Nat) (w : StoreWord) : (t.queuePoison a w).store.scrub = t.store.scrub := by
  unfold Tail.queuePoison
  dsimp only
  split
  · rfl
  · split <;> rfl

theorem Tail.memRead_scrub (t : Tail) (a : Nat) : (t.memRead a).2.store.scrub = t.store.scrub := by
  unfold Tail.memRead
  dsimp only
  split
  · rfl
  · rw [Tail.queueCorrection_scrub, Tail.countRead_store]
  · rw [Tail.countRead_store]
  · rw [Tail.queuePoison_scrub, Tail.countRead_store]

/-- A word with syndrome 0 is read with no trace (07 R244). -/
theorem Tail.memRead_good {t : Tail} {a : Nat} (h : syndrome a (t.memGet a) = 0) : t.memRead a = (some (wordData (t.memGet a)), t) := by
  have hgood : classify (syndrome a (t.memGet a)) (wordData (t.memGet a)) = .good := if_pos h
  unfold Tail.memRead
  simp only [hgood]

/-! ## Correction write-back (07 R246, R260) -/

theorem Tail.storeUp_of {t : Tail} (hpd : t.pd 4 = true) (hret : t.aon.retained = false) (hinit : t.g CSG_STAT.INIT_DONE = 1) :
    t.storeUp = true := by
  simp [Tail.storeUp, Tail.b, hpd, hret, hinit]

theorem correctionWriteback_does {bank : Fin 8} {e : WbEntry} {q : List WbEntry} {s : State} (hup : s.fs.storeUp = true)
    (hwb : s.fs.store.wb[bank] = e :: q) :
    Does (.correctionWriteback bank) s ((s.fs.wbWrite e).wbMap bank (fun _ => q)) := by
  refine does_of_tail _ rfl ?_
  rw [hup, hwb]

/-! ## The scrubber's next word (07 R259, R263) -/

section
variable {t : Tail} {bank : Fin 8}

theorem Tail.scrubNext_pass (h : t.store.scrub[bank] < 0x40000) : t.scrubNext bank = some (8 * t.store.scrub[bank] + bank.val) :=
  if_pos h

theorem Tail.scrubNext_catchUp {a : Nat} {l : List Nat} (h : 0x40000 ≤ t.store.scrub[bank]) (hl : t.store.catchUp[bank] = a :: l) :
    t.scrubNext bank = some a := by
  rw [Tail.scrubNext, if_neg (Nat.not_lt.mpr h), hl]
  rfl

theorem Tail.scrubDue_pass (h : t.store.scrub[bank] < 0x40000) (late : Nat) : t.scrubDue bank late =
    t.store.paceFrom + t.store.scrub[bank] * (max 8 (min 60 (t.cf CSA_CTRL.PERIOD)) * 400000000) / 0x40000 + late :=
  if_pos h

theorem Tail.scrubDue_catchUp (h : 0x40000 ≤ t.store.scrub[bank]) (late : Nat) : t.scrubDue bank late = t.now + late :=
  if_neg (Nat.not_lt.mpr h)

theorem Tail.scrubStep_pass (h : t.store.scrub[bank] < 0x40000) : t.scrubStep bank =
    { t with store := { t.store with scrub := t.store.scrub.set bank (t.store.scrub[bank] + 1) } } :=
  if_pos h

theorem Tail.scrubStep_catchUp (h : 0x40000 ≤ t.store.scrub[bank]) : t.scrubStep bank =
    { t with store := { t.store with catchUp := t.store.catchUp.set bank (t.store.catchUp[bank].drop 1) } } :=
  if_neg (Nat.not_lt.mpr h)

end

/-- A word of the stream area is read, and the scrubber moves on from `v`, where it stood (07 R259). -/
theorem Tail.scrubStep_scrubWord {t r : Tail} {bank : Fin 8} {v : Vector Nat 8} {a : Nat} {upset : BitVec 72} (hv : t.store.scrub = v)
    (h : v[bank] < 0x3C000) (ha : a = 8 * v[bank] + bank.val) (hr : r = ((t.memPut a (t.memGet a ^^^ upset)).memRead a).2)
    (mirrorBad : Bool) :
    (t.scrubWord a upset mirrorBad).scrubStep bank =
      { r with store := { r.store with scrub := v.set bank (v[bank] + 1) } } := by
  have hword : t.scrubWord a upset mirrorBad = r := hr ▸ if_pos (by unfold sysWord; omega)
  have hkept : r.store.scrub = v := by
    rw [hr, Tail.memRead_scrub]
    exact hv
  rw [hword, Tail.scrubStep_pass (by rw [hkept]; omega), hkept]

/-! ## Scrub reads and skipped words (07 R259 to R263) -/

@[simp] theorem Tail.elapseTo_store (t : Tail) (d : Nat) : (t.elapseTo d).store = t.store := Tail.elapse_store _ _

@[simp] theorem Tail.elapseTo_g (t : Tail) (d : Nat) (f : Fd) : (t.elapseTo d).g f = t.g f := by
  unfold Tail.g Tail.word
  rw [Tail.elapseTo_eq, Tail.elapse_u, Tail.elapse_regs]

section
variable {bank : Fin 8} {a : Nat} {s : State} (hup : s.fs.storeUp = true) (hen : s.fs.cfb CSA_CTRL.SCRUB_EN = true)
  (hdwell : s.fs.thd.scrubT = none) (hnext : s.fs.scrubNext bank = some a)
include hup hen hdwell hnext

/-- The scrubber of a bank in which no write-back and no injection waits reads its next word once it is due. -/
theorem scrubRead_settles (upset : BitVec 72) (mirrorBad : Bool) (hwb : s.fs.store.wb[bank] = []) (hinj : s.fs.store.inj = []) :
    Settles (.scrubRead bank upset mirrorBad) s
      (((((s.fs.elapseTo (s.fs.scrubDue bank 0)).scrubWord a upset mirrorBad).scrubStep bank).scrubProgress).scrubPass) := by
  refine settles_of_tail _ rfl ?_
  dsimp only
  rw [if_neg (by simp [hup, hen, hdwell, hwb, hinj]), hnext]

/-- With room in the catch-up list, the waiting word goes to its end and is counted; `st` is the store past that word. -/
theorem scrubSkip_settles {t : Tail} {st : Store} (ht : s.fs.elapseTo (s.fs.scrubDue bank ms1) = t)
    (hstep : t.scrubStep bank = { t with store := st }) (hroom : st.catchUp[bank].length < 64) :
    Settles (.scrubSkip bank) s ((((((({ t with store := { st with
        catchUp := st.catchUp.set bank (st.catchUp[bank] ++ [a]) } } : Tail).inc CSA_SKIP.COUNT).p CSA_SKIP.BANKS
          (setBit (s.fs.g CSA_SKIP.BANKS) bank true)).evtV 0x07 2 (some (BitVec.ofNat 32 bank.val))).scrubProgress).scrubPass)) := by
  have hbanks : t.g CSA_SKIP.BANKS = s.fs.g CSA_SKIP.BANKS := by rw [← ht, Tail.elapseTo_g]
  refine settles_of_tail _ rfl ?_
  dsimp only
  rw [if_neg (by simp [hup, hen, hdwell]), hnext]
  dsimp only
  rw [ht, hstep, if_pos hroom, ← hbanks]
  rfl

end

/-! ## Error injection (07 R268) -/

theorem csaInj_single {word : Word} {s : State} (hon : s.fs.on 3 = true) (hmode : fdGet CSA_INJ.MODE word = 1)
    (haddr : fdGet CSA_INJ.ADDR word < 0x1E0000)
    (hstns : (s.fs.stns.all fun n => (s.fs.stnGet n).sq.st = .disabled || (s.fs.stnGet n).sq.st = .ready) = true) :
    Does (.csaInj word) s { s.fs with store := { s.fs.store with
      inj := s.fs.store.inj ++ [⟨fdGet CSA_INJ.ADDR word, (1 : DWord) <<< fdGet CSA_INJ.BIT word⟩] } } := by
  have hcheck : ∀ e ∈ s.fs.injCheck word, e.1 = false := by
    simpa [Tail.injCheck, hmode, sysWord, Nat.not_le.mpr haddr] using hstns
  refine does_of_tail _ rfl ?_
  dsimp only
  rw [if_neg (by simp [hon, refusal_of_none hcheck])]
  simp [Tail.injApply, hmode]

/-- A good word is written back with its data bits flipped and its old check bits. -/
theorem errorInjection_does {i : Injection} {q : List Injection} {s : State} (hup : s.fs.storeUp = true)
    (hinj : s.fs.store.inj = i :: q) (hwb : s.fs.store.wb[bankOf i.addr] = []) (hgood : syndrome i.addr (s.fs.memGet i.addr) = 0) :
    Does .errorInjection s (Tail.logAll { s.fs with store := { s.fs.store with
      inj := q
      mem := smSet memDefault s.fs.store.mem i.addr (s.fs.memGet i.addr ^^^ i.flips.setWidth 72) } }) := by
  have hread := Tail.memRead_good (t := { s.fs with store := { s.fs.store with inj := q } }) hgood
  have hset : s.fs.store.wb.set (bankOf i.addr) [] = s.fs.store.wb := by
    rw [← hwb]
    exact Vector.set_getElem_self _
  refine does_of_tail _ rfl ?_
  dsimp only
  rw [hup, hinj]
  dsimp only
  rw [if_pos (by simp [hwb]), hread]
  simp only [Tail.wbMap, Tail.memPut, hwb, List.filter_nil, hset]
  rfl

/-- Settles O13: each command is its shared operation on the word that its bank has next. -/
theorem storeMaintenance : Obligations.StoreMaintenance := by
  refine ⟨fun bank e q s hpd hret hinit hwb haddr => ?_, fun bank upset mirrorBad s t r a hup hen hdwell hwb hinj hscrub ht ha hr => ?_,
    fun bank s hup hen hdwell hscrub hroom => ?_, fun bank a l s hup hen hdwell hscrub hlist hroom => ?_,
    fun word s hon hmode haddr hstns => csaInj_single hon hmode haddr hstns,
    fun i q s hup hinj hwb hgood => errorInjection_does hup hinj hwb hgood⟩
  · have hdoes := correctionWriteback_does (Tail.storeUp_of hpd hret hinit) hwb
    rwa [Tail.wbWrite, if_pos (show e.addr < sysWord from haddr)] at hdoes
  · have hpass : s.fs.store.scrub[bank] < 0x40000 := by omega
    have hkept : t.store.scrub = s.fs.store.scrub := by rw [ht, Tail.elapseTo_store]
    have hread := scrubRead_settles hup hen hdwell (Tail.scrubNext_pass hpass) upset mirrorBad hwb hinj
    rwa [Tail.scrubDue_pass hpass, Nat.add_zero, ← ht, ← ha, Tail.scrubStep_scrubWord hkept hscrub ha hr] at hread
  · exact scrubSkip_settles (st := { s.fs.store with scrub := s.fs.store.scrub.set bank (s.fs.store.scrub[bank] + 1) }) hup hen hdwell
      (Tail.scrubNext_pass hscrub) rfl (by rw [Tail.scrubStep_pass (by rwa [Tail.elapseTo_store]), Tail.elapseTo_store]) hroom
  · have hdue : s.fs.scrubDue bank ms1 = s.fs.now + 400000 := Tail.scrubDue_catchUp hscrub ms1
    have hskip := scrubSkip_settles (st := { s.fs.store with catchUp := s.fs.store.catchUp.set bank l }) hup hen hdwell
      (Tail.scrubNext_catchUp hscrub hlist) (congrArg s.fs.elapseTo hdue)
      (by rw [Tail.scrubStep_catchUp (by rwa [Tail.elapseTo_store]), Tail.elapseTo_store, hlist, List.drop_one, List.tail_cons])
      (by simpa using hroom)
    simpa using hskip

end Sys2Proof.Machine
end

section
/-! Every step keeps the Headstock sound (08 R296, R297): what a change of the Headstock must keep for it, then the commands of the two
ports in turn; O55. -/

namespace Sys2Proof.Machine

/-! ## Changes that leave the frame and its request alone -/

/-- `r` has the power, the frame and the outstanding request of `h`, and duplicate tables that are sound where those of `h` are. -/
structure Head.KeepsFrame (h r : Head) : Prop where
  same : (r.powered, r.frame, r.out) = (h.powered, h.frame, h.out)
  dup : ∀ c : Fin 8, dupSound h.dup[c] → dupSound r.dup[c]

theorem Head.KeepsFrame.of_eq {h r : Head} (same : (r.powered, r.frame, r.out) = (h.powered, h.frame, h.out)) (dup : r.dup = h.dup) :
    h.KeepsFrame r := ⟨same, fun _ hc => dup ▸ hc⟩

theorem Head.KeepsFrame.refl (h : Head) : h.KeepsFrame h := .of_eq rfl rfl

theorem Head.KeepsFrame.trans {h r q : Head} (h1 : h.KeepsFrame r) (h2 : r.KeepsFrame q) : h.KeepsFrame q :=
  ⟨h2.same.trans h1.same, fun c hc => h2.dup c (h1.dup c hc)⟩

theorem Head.KeepsFrame.ite {h a b : Head} {c : Prop} [Decidable c] (ha : h.KeepsFrame a) (hb : h.KeepsFrame b) :
    h.KeepsFrame (if c then a else b) := by
  split
  · exact ha
  · exact hb

theorem Head.KeepsFrame.powered {h r : Head} (hk : h.KeepsFrame r) : r.powered = h.powered := (Prod.mk.inj hk.same).1

/-- A powered Headstock stays sound under such a change. -/
theorem Head.KeepsFrame.sound {h r : Head} (hk : h.KeepsFrame r) (hs : h.Sound) (hpow : h.powered = true) : r.Sound := by
  obtain ⟨hsame, hdup⟩ := hk
  simp only [Prod.mk.injEq] at hsame
  obtain ⟨hp, hf, ho⟩ := hsame
  obtain ⟨hd, hout, -⟩ := hs
  refine ⟨fun c => hdup c (hd c), ?_, ?_⟩
  · rw [ho, hf]
    exact hout
  · rw [hp, hpow]
    exact fun h => absurd h (by decide)

/-- So does any, where the management bus stays as it is too. -/
theorem Head.KeepsFrame.sound_of_mb {h r : Head} (hk : h.KeepsFrame r) (hs : h.Sound) (hmb : r.mb = h.mb) : r.Sound := by
  obtain ⟨hsame, hdup⟩ := hk
  simp only [Prod.mk.injEq] at hsame
  obtain ⟨hp, hf, ho⟩ := hsame
  obtain ⟨hd, hout, hoff⟩ := hs
  refine ⟨fun c => hdup c (hd c), ?_, ?_⟩
  · rw [ho, hf]
    exact hout
  · rw [hp, hf, ho, hmb]
    exact hoff

/-- A powered Headstock stays sound with the same frame, request and tables. -/
theorem Head.Sound.of_same {h r : Head} (hs : h.Sound) (hpow : h.powered = true)
    (same : (r.powered, r.frame, r.out) = (h.powered, h.frame, h.out)) (dup : r.dup = h.dup) : r.Sound :=
  (Head.KeepsFrame.of_eq same dup).sound hs hpow

/-- A sound Headstock with a frame in progress, or whose bus is not as its reset leaves it, is powered. -/
theorem Head.Sound.powered_of_frame {h : Head} {x : HspFrame} (hs : h.Sound) (hf : h.frame = some x) : h.powered = true := by
  by_contra hp
  obtain ⟨hnone, -, -⟩ := hs.2.2 (by simpa using hp)
  simp [hnone] at hf

theorem Head.Sound.powered_of_mb {h : Head} (hs : h.Sound) (hne : h.mb ≠ MbState.init) : h.powered = true := by
  by_contra hp
  obtain ⟨-, -, hmb⟩ := hs.2.2 (by simpa using hp)
  exact hne hmb

/-- Without a frame in progress no request is outstanding. -/
theorem Head.Sound.out_none {h : Head} (hs : h.Sound) (hf : h.frame = none) : h.out = none := by
  by_contra hne
  obtain ⟨o, ho⟩ := Option.ne_none_iff_exists'.mp hne
  obtain ⟨-, x, hx, -⟩ := hs.2.1 o ho
  simp [hf] at hx

/-- With sound tables and no request outstanding, a powered Headstock is sound. -/
theorem Head.sound_of_out_none {h : Head} (hpow : h.powered = true) (hd : ∀ c : Fin 8, dupSound h.dup[c]) (ho : h.out = none) : h.Sound :=
  ⟨hd, fun o h' => by simp [ho] at h', fun h' => by simp [hpow] at h'⟩

/-! ## Registers and counters of the Headstock -/

section
variable (h : Head) (u : UnitInfo)

theorem Head.keepsFrame_setWord (a : Nat) (w : Word) : h.KeepsFrame (h.setWord u a w) := .of_eq rfl rfl
theorem Head.keepsFrame_p (f : Fd) (x : Nat) : h.KeepsFrame (h.p u f x) := .of_eq rfl rfl
theorem Head.keepsFrame_inc (f : Fd) : h.KeepsFrame (h.inc u f) := .of_eq rfl rfl
theorem Head.keepsFrame_last (f : Frame) (st : Nat) : h.KeepsFrame (h.last u f st) := .of_eq rfl rfl
theorem Head.keepsFrame_cntClr : h.KeepsFrame (h.cntClr u) := .of_eq rfl rfl

theorem Head.countEnd_eq (st : Nat) : ∃ regs, h.countEnd u st = { h with regs := regs } := by
  unfold Head.countEnd
  repeat' split
  all_goals exact ⟨_, rfl⟩

theorem Head.keepsFrame_countEnd (st : Nat) : h.KeepsFrame (h.countEnd u st) := by
  obtain ⟨regs, e⟩ := h.countEnd_eq u st
  rw [e]
  exact .of_eq rfl rfl

theorem Head.keepsFrame_pushClr (w : Wr) : h.KeepsFrame (h.pushClr u w) := .ite (.of_eq rfl rfl) (.refl h)

theorem dupSound_nil : dupSound [] := ⟨by simp, by simp, by simp⟩

/-- A duplicate table that DUP_CLR empties is sound. -/
theorem Head.keepsFrame_dupClr (m : Nat) : h.KeepsFrame (h.dupClr m) := by
  refine ⟨rfl, fun c hc => ?_⟩
  simp only [Head.dupClr, Fin.getElem_fin, Vector.getElem_ofFn]
  split
  · exact dupSound_nil
  · exact hc

theorem Head.keepsFrame_setWords (l : List (Nat × Word)) :
    h.KeepsFrame (l.foldl (fun (h : Head) (e : Nat × Word) => h.setWord u e.1 e.2) h) :=
  List.foldlRecOn (motive := h.KeepsFrame) l _ (.refl h) fun r hr e _ => hr.trans (r.keepsFrame_setWord u e.1 e.2)

theorem Head.keepsFrame_write (w : Wr) : h.KeepsFrame (h.write u w).2 := by
  unfold Head.write
  split
  · exact .refl h
  · extract_lets as h1 h2 h3
    have hset : h.KeepsFrame h1 := h.keepsFrame_setWords u _
    have hclr : h2.KeepsFrame h3 := .ite (h2.keepsFrame_cntClr u) (.refl h2)
    exact ((hset.trans (h1.keepsFrame_dupClr _)).trans hclr).trans (h3.keepsFrame_pushClr u w)

end

/-! ## The duplicate table (08 R296, R297) -/

section
variable (h : Head)

/-- A sound entry joins the table in front; of nine entries the oldest goes. -/
theorem dupSound_put {l : List DupEntry} {e : DupEntry} (hl : dupSound l) (he : e.data.length = if e.complete then min e.n 64 else 0) :
    dupSound ((e :: l.filter (fun x => x.seq != e.seq)).take 8) := by
  obtain ⟨-, hnodup, hdata⟩ := hl
  have hsub : (l.filter (fun x => x.seq != e.seq)).Sublist l := List.filter_sublist
  have hnew : e.seq ∉ (l.filter (fun x => x.seq != e.seq)).map (·.seq) := by simp
  refine ⟨List.length_take_le 8 _, ?_, fun x hx => ?_⟩
  · exact (List.nodup_cons.mpr ⟨hnew, (hsub.map _).nodup hnodup⟩).sublist ((List.take_sublist 8 _).map _)
  · rcases List.mem_cons.mp (List.mem_of_mem_take hx) with rfl | hx
    · exact he
    · exact hdata x (hsub.subset hx)

theorem dupSound_filter {l : List DupEntry} (p : DupEntry → Bool) (hl : dupSound l) : dupSound (l.filter p) := by
  obtain ⟨hlen, hnodup, hdata⟩ := hl
  exact ⟨(List.length_filter_le _ _).trans hlen, (List.filter_sublist.map _).nodup hnodup,
    fun x hx => hdata x (List.mem_of_mem_filter hx)⟩

/-- A change of one channel's table that is sound where it was. -/
theorem Head.keepsFrame_setDup (c : Fin 8) {l : List DupEntry} (hl : dupSound h.dup[c] → dupSound l) :
    h.KeepsFrame { h with dup := h.dup.set c l } := by
  refine ⟨rfl, fun d hd => ?_⟩
  simp only [Fin.getElem_fin, Vector.getElem_set]
  split
  · next hcd => exact hl (Fin.ext hcd ▸ hd)
  · exact hd

theorem Head.keepsFrame_putEntry (c : Fin 8) {e : DupEntry} (he : e.data.length = if e.complete then min e.n 64 else 0) :
    h.KeepsFrame (h.putEntry c e) := h.keepsFrame_setDup c fun hc => dupSound_put hc he

theorem Head.keepsFrame_dropEntry (c : Fin 8) (q : Byte) : h.KeepsFrame (h.dropEntry c q) :=
  h.keepsFrame_setDup c (dupSound_filter _)

theorem Head.keepsFrame_pendingFor (d : Disp) (op : HspOp) (f : Frame) : h.KeepsFrame (h.pendingFor d op f) :=
  .ite (h.keepsFrame_putEntry _ rfl) (.refl h)

theorem Head.keepsFrame_pendingEntry (op : HspOp) (f : Frame) : h.KeepsFrame (h.pendingEntry op f) := by
  unfold Head.pendingEntry
  split
  · exact h.keepsFrame_pendingFor _ op f
  · exact .refl h

theorem Head.keepsFrame_learn (op : HspOp) (f : Frame) (b : List Byte) : h.KeepsFrame (h.learn op f b) :=
  .ite (h.keepsFrame_putEntry _ (by simp [Nat.min_comm])) (.ite (h.keepsFrame_dropEntry _ _) (.refl h))

end

/-! ## The end of a frame (08 R276, R284) -/

/-- In `r` no request is outstanding; it has the power of `h`, and duplicate tables that are sound where those of `h` are. -/
structure Head.Ends (h r : Head) : Prop where
  same : (r.powered, r.out) = (h.powered, none)
  dup : ∀ c : Fin 8, dupSound h.dup[c] → dupSound r.dup[c]

theorem Head.Ends.of_eq {h r : Head} (same : (r.powered, r.out) = (h.powered, none)) (dup : r.dup = h.dup) : h.Ends r :=
  ⟨same, fun _ hc => dup ▸ hc⟩

theorem Head.Ends.sound {h r : Head} (he : h.Ends r) (hs : h.Sound) (hpow : h.powered = true) : r.Sound := by
  obtain ⟨hsame, hdup⟩ := he
  obtain ⟨hp, ho⟩ := Prod.mk.inj hsame
  exact Head.sound_of_out_none (hp.trans hpow) (fun c => hdup c (hs.1 c)) ho

/-- A powered Headstock stays sound where its request ends and the tables stay. -/
theorem Head.Sound.of_ended {h r : Head} (hs : h.Sound) (hpow : h.powered = true) (same : (r.powered, r.out) = (h.powered, none))
    (dup : r.dup = h.dup) : r.Sound := (Head.Ends.of_eq same dup).sound hs hpow

theorem Head.Ends.keepsFrame {h r q : Head} (he : h.Ends r) (hk : r.KeepsFrame q) : h.Ends q := by
  obtain ⟨hp, ho⟩ := Prod.mk.inj he.same
  obtain ⟨kp, k⟩ := Prod.mk.inj hk.same
  obtain ⟨-, ko⟩ := Prod.mk.inj k
  exact ⟨by rw [kp, ko, hp, ho], fun c hc => hk.dup c (he.dup c hc)⟩

theorem Head.KeepsFrame.ends {h r q : Head} (hk : h.KeepsFrame r) (he : r.Ends q) : h.Ends q :=
  ⟨he.same.trans (by rw [hk.powered]), fun c hc => he.dup c (hk.dup c hc)⟩

section
variable (h : Head) (u : UnitInfo)

theorem Head.ends_ended (d : List Driven) : h.Ends (h.ended d) := .of_eq rfl rfl

theorem Head.ends_endError (f : Frame) (w : List Byte) (st : Nat) : h.Ends (h.endError u f w st) :=
  ((h.ends_ended _).keepsFrame (Head.keepsFrame_countEnd _ u st)).keepsFrame (Head.keepsFrame_last _ u f st)

theorem Head.ends_endLocal (f : Frame) (st : Nat) (snap : Word) (d : List Byte) : h.Ends (h.endLocal u f st snap d) := by
  unfold Head.endLocal
  split
  · exact h.ends_endError u f _ st
  · exact ((h.ends_ended _).keepsFrame (Head.keepsFrame_countEnd _ u st)).keepsFrame (Head.keepsFrame_last _ u f st)

theorem Head.ends_complete (x : HspFrame) (b : List Byte) : h.Ends (h.complete u x b) :=
  (((h.keepsFrame_learn x.op x.fr b).ends (Head.ends_ended _ _)).keepsFrame (Head.keepsFrame_countEnd _ u _)).keepsFrame
    (Head.keepsFrame_last _ u x.fr _)

theorem Head.ends_cut (x : HspFrame) (o : OutReq) : h.Ends (h.cut u x o) := .of_eq rfl rfl

theorem Head.ends_segLost (x : HspFrame) (o : OutReq) : h.Ends (h.segLost u x o) := by
  unfold Head.segLost
  refine (h.keepsFrame_pendingEntry x.op x.fr).ends ?_
  split
  · exact Head.ends_endError _ u x.fr _ _
  · exact Head.ends_cut _ u x o

theorem Head.ends_nakHsp (x : HspFrame) (o : OutReq) : h.Ends (h.nakHsp u x o) := by
  unfold Head.nakHsp
  split
  · exact h.ends_endError u x.fr _ _
  · exact h.ends_cut u x o

/-- A rejected header leaves the status on HS_IO, and otherwise counters and HSP_STAT alone change. -/
theorem Head.reject_eq (loc : Bool) (f : Frame) (st : Nat) :
    ∃ regs, h.reject u loc f st = { h with regs := regs, drive := single [0x5A, BitVec.ofNat 8 st], frame := none } := by
  unfold Head.reject Head.rejected
  dsimp only
  repeat' split
  all_goals exact ⟨_, rfl⟩

theorem Head.ends_reject {h r : Head} (hk : h.KeepsFrame r) (u : UnitInfo) (loc : Bool) (f : Frame) (st : Nat) (ho : r.out = none) :
    h.Ends (r.reject u loc f st) := by
  obtain ⟨regs, e⟩ := r.reject_eq u loc f st
  rw [e]
  exact hk.ends (.of_eq (congrArg (Prod.mk r.powered) ho) rfl)

end

/-! ## A response as it arrives (02 R67 to R71) -/

/-- A sound Headstock whose frame `x` waits for the response to `o`: what it keeps with the request anew. -/
theorem Head.Sound.awaits {h r : Head} {x : HspFrame} {o : OutReq} (hs : h.Sound) (hpow : r.powered = true) (hd : r.dup = h.dup)
    (ho : r.out = some o) (hc : o.cstr < 8) (hf : r.frame = some x) (hx : x.phase ≠ .over) : r.Sound := by
  refine ⟨fun c => hd ▸ hs.1 c, fun q hq => ?_, fun hoff => by simp [hpow] at hoff⟩
  obtain rfl := Option.some.inj (ho.symm.trans hq)
  exact ⟨hc, x, hf, hx⟩

theorem OutReq.pass_cstr (n : Nat) (o : OutReq) (d : List Byte) : (OutReq.pass n o d).1.cstr = o.cstr := by
  induction n generalizing o d with
  | zero => rfl
  | succ n ih =>
    unfold OutReq.pass
    split
    · rfl
    · split
      · exact ih _ _
      · rfl

theorem Head.Sound.segGood {h : Head} {x : HspFrame} {o : OutReq} (hs : h.Sound) (hf : h.frame = some x) (ho : h.out = some o)
    (u : UnitInfo) (k : Nat) (more : Bool) (b : List Byte) : (h.segGood u x o k more b).Sound := by
  have hpow := hs.powered_of_frame hf
  obtain ⟨hc, -⟩ := hs.2.1 o ho
  have hpass := OutReq.pass_cstr 16 { o with parts := o.parts ++ [(k, more, b)] } []
  unfold Head.segGood
  split
  · exact hs
  · generalize OutReq.pass 16 { o with parts := o.parts ++ [(k, more, b)] } [] = p at hpass
    obtain ⟨o', d, done⟩ := p
    dsimp -zeta only
    extract_lets h1
    have h1s : h1.Sound := hs.awaits (o := o') hpow rfl rfl (hpass ▸ hc) rfl (by dsimp only; split <;> decide)
    split
    · exact (h1.ends_complete u x _).sound h1s hpow
    · exact h1s

/-- A segment asked for again leaves its request outstanding. -/
theorem State.sound_askAgain {s : State} (hs : s.hs.Sound) (c : Nat) (l : Half) (k reason : Nat) :
    (s.askAgain c l k reason).hs.Sound := (Head.keepsFrame_inc _ _ _).sound_of_mb hs rfl

theorem State.sound_segBad {s : State} {x : HspFrame} {o : OutReq} (hs : s.hs.Sound) (hf : s.hs.frame = some x) (ho : s.hs.out = some o)
    (k reason : Nat) : (s.segBad x o k reason).hs.Sound := by
  have hpow := hs.powered_of_frame hf
  obtain ⟨hc, y, hy, hx⟩ := hs.2.1 o ho
  obtain rfl := Option.some.inj (hf.symm.trans hy)
  unfold State.segBad
  split
  · exact State.sound_askAgain (s := { s with hs := { s.hs with out := some { o with naks := o.naks ++ [k] } } })
      (hs.awaits hpow rfl rfl hc hf hx) _ _ _ _
  · exact (s.hs.ends_segLost s.fs.u x o).sound hs hpow

/-! ## The management bus (09) -/

section
variable (h : Head) (u : UnitInfo)

theorem Head.keepsFrame_mbNack (c : Byte) (res : Nat) : h.KeepsFrame (h.mbNack u c res) := .of_eq rfl rfl
theorem Head.keepsFrame_mbAck (c : Byte) (res : Nat) (d : List Byte) : h.KeepsFrame (h.mbAck u c res d) := .of_eq rfl rfl
theorem Head.keepsFrame_mbRead (c : MbCmd) (st : Nat) (d : List Byte) : h.KeepsFrame (h.mbRead u c st d) := .of_eq rfl rfl
theorem Head.keepsFrame_mbWritten (x : MbTxn) (st : Nat) : h.KeepsFrame (h.mbWritten u x st) := .ite (.of_eq rfl rfl) (.of_eq rfl rfl)
theorem Head.keepsFrame_pushWait (p : PushPhase) (dl : Nat) : h.KeepsFrame (h.pushWait p dl) := .of_eq rfl rfl
theorem Head.keepsFrame_mbMatch : h.KeepsFrame (h.mbMatch u) := .of_eq rfl rfl
theorem Head.keepsFrame_nextLseq (c : Fin 10) : h.KeepsFrame (h.nextLseq c).2 := .of_eq rfl rfl

theorem Head.keepsFrame_mbDone (st : Nat) (d : List Byte) : h.KeepsFrame (h.mbDone u st d) := by
  unfold Head.mbDone
  dsimp only
  split
  · exact .of_eq rfl rfl
  · split
    · exact .of_eq rfl rfl
    · split
      · exact .of_eq rfl rfl
      · exact .ite (.of_eq rfl rfl) (.of_eq rfl rfl)

theorem Head.keepsFrame_pushFetched (now st : Nat) (d : List Byte) : h.KeepsFrame (h.pushFetched u now st d) := by
  unfold Head.pushFetched
  split
  · dsimp only
    split
    · exact .of_eq rfl rfl
    · exact .of_eq rfl rfl
  · exact h.keepsFrame_pushWait _ _

theorem Head.keepsFrame_mbOutcome (now : Nat) (o : OutReq) (st : Nat) (d : List Byte) : h.KeepsFrame (h.mbOutcome u now o st d) :=
  .ite (h.keepsFrame_pushFetched u now st d) (h.keepsFrame_mbDone u st d)

theorem Head.keepsFrame_mbSent (now : Nat) (x : MbTxn) (q : Half) : h.KeepsFrame (h.mbSent u now x q) := by
  unfold Head.mbSent
  extract_lets h1
  have h1k : h.KeepsFrame h1 := .ite (.refl h) (h.keepsFrame_p u _ _)
  exact h1k.trans (.of_eq rfl rfl)

theorem Head.keepsFrame_pushEnd (now : Nat) (r : PushResult) : h.KeepsFrame (h.pushEnd u now r) := by
  cases r with
  | acked => exact .of_eq rfl rfl
  | nacked k => exact .ite (.of_eq rfl rfl) (.of_eq rfl rfl)
  | arbLost b k => exact .of_eq rfl rfl

end

/-- What the commands of the bus clock out of the receive buffer first. -/
theorem State.keepsFrame_takeLateMb (s : State) : s.hs.KeepsFrame s.takeLateMb.hs := by
  refine List.foldlRecOn (motive := s.hs.KeepsFrame) _ _ (.refl s.hs) fun h hk e _ => hk.trans ?_
  split
  · exact .ite (h.keepsFrame_mbOutcome ..) (h.keepsFrame_inc ..)
  · exact h.keepsFrame_inc ..
  · exact .ite (h.keepsFrame_mbOutcome ..) (.refl h)
  · exact .ite (h.keepsFrame_mbOutcome ..) (.refl h)
  · exact .refl h

theorem State.keepsFrame_localWrite (s : State) (c : MbCmd) (d : List Byte) : s.hs.KeepsFrame (s.localWrite c d).2 := by
  cases c
  case pageSel =>
    change s.hs.KeepsFrame (Prod.snd (if _ then _ else _))
    split
    · exact .of_eq rfl rfl
    · exact .refl s.hs
  case regData =>
    change s.hs.KeepsFrame (Prod.snd (if _ then _ else _))
    split
    · exact .refl s.hs
    · split
      · exact s.hs.keepsFrame_write s.fs.u _
      · exact .refl s.hs
  case eventFetch => exact .of_eq rfl rfl
  all_goals exact .refl s.hs

theorem State.keepsFrame_mbSend (s : State) (x : MbTxn) (c : MbCmd) : s.hs.KeepsFrame (s.mbSend x c).hs :=
  (s.hs.keepsFrame_nextLseq 8).trans (Head.keepsFrame_mbSent ..)

theorem State.keepsFrame_mbAtOnce (s : State) (x : MbTxn) (c : MbCmd) : s.hs.KeepsFrame (s.mbAtOnce x c).hs := by
  have hsent : s.hs.KeepsFrame ((s.hs.nextLseq 8).2.mbSent s.fs.u s.fs.now x (s.hs.nextLseq 8).1) :=
    (s.hs.keepsFrame_nextLseq 8).trans (Head.keepsFrame_mbSent ..)
  unfold State.mbAtOnce
  split
  · change s.hs.KeepsFrame (State.hs (if _ then _ else _))
    split
    · exact hsent.trans (Head.keepsFrame_mbDone _ _ _ _)
    · exact hsent
  · exact s.keepsFrame_mbSend x c

section
variable {field : MbCmd → State → State} (hfield : ∀ (c : MbCmd) (s : State), s.hs.KeepsFrame (field c s).hs)
include hfield

theorem State.keepsFrame_mbWrite (s : State) (x : MbTxn) (c : MbCmd) : s.hs.KeepsFrame (s.mbWrite x c (field c)).hs := by
  unfold State.mbWrite
  extract_lets u h ended
  split
  · exact h.keepsFrame_mbAck ..
  · split
    · exact h.keepsFrame_mbAck ..
    · split
      · exact h.keepsFrame_mbNack ..
      · split
        · exact (h.keepsFrame_inc ..).trans (Head.keepsFrame_mbNack ..)
        · split
          · exact hfield c s
          · have hw := s.keepsFrame_localWrite c x.data
            generalize s.localWrite c x.data = p at hw
            exact hw.trans (.ite (Head.keepsFrame_mbNack ..) (Head.keepsFrame_mbWritten ..))

theorem State.keepsFrame_mbProceed (s : State) (x : MbTxn) (c : MbCmd) : s.hs.KeepsFrame (s.mbProceed x c (field c)).hs := by
  unfold State.mbProceed
  extract_lets u
  split
  · exact State.keepsFrame_mbWrite hfield s x c
  · split
    · exact s.hs.keepsFrame_mbNack ..
    · split
      · exact hfield c s
      · exact s.hs.keepsFrame_mbRead ..
  all_goals exact .refl s.hs

theorem State.keepsFrame_mbStart (s : State) (x : MbTxn) : s.hs.KeepsFrame (s.mbStart x field).hs := by
  unfold State.mbStart
  extract_lets u s1 h s2 _
  split
  · exact .refl s.hs
  · have hk : s.hs.KeepsFrame s2.hs := s.keepsFrame_takeLateMb.trans (s1.hs.keepsFrame_mbMatch u)
    refine hk.trans ?_
    split
    · exact h.keepsFrame_mbAck ..
    · split
      · exact h.keepsFrame_mbNack ..
      · split
        · exact h.keepsFrame_mbNack ..
        · split
          · exact State.keepsFrame_mbProceed hfield s2 x _
          · split
            · exact h.keepsFrame_mbNack ..
            · split
              · exact h.keepsFrame_mbNack ..
              · exact .of_eq rfl rfl

end

/-- The transaction of a stretch that ends goes on. -/
theorem State.keepsFrame_mbResume {h : Head} {s : State} (hk : h.KeepsFrame s.hs) : h.KeepsFrame s.mbResume.hs := by
  refine hk.trans ?_
  unfold State.mbResume
  split
  · split
    · next x _ =>
      split
      · next c _ =>
        refine Head.KeepsFrame.trans (r := { s.hs with mb := { s.hs.mb with phase := .idle, found := true, cellT := none } })
          (.of_eq rfl rfl) ?_
        exact State.keepsFrame_mbProceed (field := fun c s => s.mbSend x c) (fun c s => s.keepsFrame_mbSend x c)
          { s with hs := { s.hs with mb := { s.hs.mb with phase := .idle, found := true, cellT := none } } } x c
      · exact .refl s.hs
    · exact .refl s.hs
  · exact .refl s.hs

@[simp] theorem State.toCell_hs (s : State) (dl : Timer) : (s.toCell dl).hs = s.hs := by
  cases dl <;> rfl

/-! ## The level channels (02 R76 to R79) -/

theorem Head.keepsFrame_setLevel (h : Head) (ch : LevelCh) (x : LevelCell) : h.KeepsFrame (h.setLevel ch x) := by
  cases ch
  · exact .of_eq rfl rfl
  · exact .of_eq rfl rfl

/-! ## Outcomes -/

/-- If the outcome is a next state, its Headstock is sound. -/
def SoundNext (o : Host.Outcome State Fault Refusal) : Prop := ∀ t, o = .next t → t.hs.Sound

theorem SoundNext.next {t : State} (h : t.hs.Sound) : SoundNext (.next t) := by
  rintro r ⟨⟩
  exact h

theorem SoundNext.ite {c : Prop} [Decidable c] {a b : Host.Outcome State Fault Refusal} (ha : c → SoundNext a) (hb : ¬ c → SoundNext b) :
    SoundNext (if c then a else b) := by
  split
  · exact ha ‹_›
  · exact hb ‹_›

/-! ## What arrives from the field side (02 R63 to R71) -/

theorem Head.awaiting_eq {h : Head} {c : Nat} {l : Half} {x : HspFrame} {o : OutReq} (ha : h.awaiting c l = some (x, o)) :
    h.frame = some x ∧ h.out = some o := by
  unfold Head.awaiting at ha
  split at ha
  · next hf ho =>
    split at ha
    · obtain ⟨rfl, rfl⟩ := Prod.mk.inj (Option.some.inj ha)
      exact ⟨hf, ho⟩
    · simp at ha
  · simp at ha

theorem Head.badSegment_eq {h : Head} {m : Option Msg} {x : HspFrame} {o : OutReq} {k : Nat} (hb : h.badSegment m = some (x, o, k)) :
    h.frame = some x ∧ h.out = some o := by
  unfold Head.badSegment at hb
  split at hb
  · next hf ho =>
    repeat' split at hb
    all_goals simp only [Option.some.injEq, Prod.mk.injEq, reduceCtorEq] at hb
    all_goals
      obtain ⟨rfl, rfl, -⟩ := hb
      exact ⟨hf, ho⟩
  · simp at hb

section
variable {s : State} (hs : s.hs.Sound) (hpow : s.hs.powered = true)
include hs hpow

theorem State.sound_stray (more : Bool) : (s.stray more).hs.Sound := by
  unfold State.stray
  split
  · exact hs
  · exact (s.hs.keepsFrame_inc ..).sound hs hpow

theorem State.sound_segArrives (mb : Bool) (c : Nat) (l : Half) (k : Nat) (more : Bool) (b : List Byte) :
    (s.segArrives mb c l k more b).hs.Sound := by
  unfold State.segArrives
  dsimp only
  split
  · split
    · exact hs
    · split
      · split
        · exact (s.hs.keepsFrame_mbOutcome ..).sound hs hpow
        · exact State.sound_stray hs hpow more
      · exact State.sound_stray hs hpow more
  · split
    · next ha =>
      obtain ⟨hf, ho⟩ := Head.awaiting_eq ha
      exact hs.segGood hf ho ..
    · split
      · exact State.sound_stray hs hpow more
      · split
        · exact hs
        · exact hs

theorem State.sound_mbBad (o : OutReq) (reason : Nat) : (s.mbBad o reason).hs.Sound := by
  unfold State.mbBad
  split
  · exact hs.of_same hpow rfl rfl
  · exact (s.hs.keepsFrame_mbOutcome ..).sound hs hpow

theorem State.sound_segDefect (reason : Nat) (m : Option Msg) : (s.segDefect reason m).hs.Sound := by
  unfold State.segDefect
  split
  · next hb =>
    obtain ⟨hf, ho⟩ := Head.badSegment_eq hb
    split
    · exact hs
    · exact State.sound_segBad hs hf ho ..
  · split
    · split
      · split
        · exact State.sound_mbBad hs hpow ..
        · exact hs
      · exact hs
    · exact hs

theorem State.sound_nakHspReq (hdr : Bool) (c : Nat) (l : Half) :
    (s.nakHspReq hdr c l).hs.Sound ∧ (s.nakHspReq hdr c l).hs.powered = true := by
  unfold State.nakHspReq
  split
  · next x o _ _ =>
    split
    · have he := s.hs.ends_nakHsp s.fs.u x o
      exact ⟨he.sound hs hpow, (Prod.mk.inj he.same).1.trans hpow⟩
    · exact ⟨hs, hpow⟩
  · exact ⟨hs, hpow⟩

theorem State.sound_nakMbReq (hdr : Bool) (c : Nat) (l : Half) : (s.nakMbReq hdr c l).hs.Sound := by
  unfold State.nakMbReq
  repeat' split
  · exact (s.hs.keepsFrame_mbOutcome ..).sound hs hpow
  all_goals exact hs

theorem State.sound_reacts (m : Heard F2H) : (s.reacts m).hs.Sound := by
  unfold State.reacts
  split
  · exact State.sound_segArrives hs hpow ..
  · obtain ⟨hs', hpow'⟩ := State.sound_nakHspReq hs hpow ..
    exact State.sound_nakMbReq hs' hpow' ..
  · exact State.sound_segDefect hs hpow ..
  · exact State.sound_segDefect hs hpow ..
  · exact hs

end

section
variable {s : State} (hs : s.hs.Sound)
include hs

theorem State.sound_hears (m : F2H) (rest : List F2H) (rx : Rx) : (s.hears m rest rx).hs.Sound := by
  by_cases hpow : s.hs.powered = true
  · rw [State.hears_powered hpow, State.pump_hs]
    exact State.sound_reacts (s := { s with f2h := rest }) hs hpow _
  · unfold State.hears
    dsimp only
    rw [if_pos (by simpa using hpow), State.pump_hs]
    exact hs

/-- Whatever arrives on the F2H lane. -/
theorem arrivalOnF2h_sound (rx : Rx) : SoundNext (execRspHsp rx s) ∧ SoundNext (execRspMb rx s) ∧ SoundNext (execNakF rx s) := by
  unfold execRspHsp execRspMb execNakF
  refine ⟨?_, ?_, ?_⟩
  all_goals
    split
    · exact .next (State.sound_hears hs ..)
    · exact .next hs

theorem execNakHRepeat_sound (mb : Bool) : SoundNext (execNakHRepeat mb s) := by
  unfold execNakHRepeat
  refine .ite (fun _ => ?_) fun _ => ?_
  · split
    · next ho =>
      have hpow := hs.powered_of_mb (fun e => by simp [e, MbState.init] at ho)
      refine .next ?_
      split
      · exact State.sound_mbBad hs hpow ..
      · exact hs
    · exact .next hs
  · split
    · next hf ho =>
      split
      · refine .next ?_
        split
        · exact State.sound_segBad hs hf ho ..
        · exact hs
      · exact .next hs
    · exact .next hs

end

/-! ## Frames whole (08 sections 2 to 8) -/

theorem State.keepsFrame_takeLateHsp (s : State) : s.hs.KeepsFrame s.takeLateHsp.hs := by
  obtain ⟨regs, e⟩ := s.takeLateHsp_hs
  rw [e]
  exact .of_eq rfl rfl

theorem State.keepsFrame_localOp (s : State) (op : HspOp) (f : Frame) : s.hs.KeepsFrame (s.localOp op f).2.2.hs := by
  have hwrite : s.hs.KeepsFrame (if f.stream.toNat = 1 then s.hs.write s.fs.u (payloadWr f.stream.toNat false f.addr.toNat f.payload)
      else (okSt, s.hs)).2 := by
    split
    · exact s.hs.keepsFrame_write s.fs.u _
    · exact .refl s.hs
  unfold State.localOp
  dsimp only
  split
  · exact .refl s.hs
  · generalize (if f.stream.toNat = 1 then s.hs.write s.fs.u (payloadWr f.stream.toNat false f.addr.toNat f.payload)
      else (okSt, s.hs)) = p at hwrite ⊢
    repeat' split
    all_goals exact hwrite

theorem State.keepsFrame_endWhole {h : Head} {s : State} (hk : h.KeepsFrame s.hs) (f : Frame) (st : Nat) (snap : Word) (d : List Byte) :
    h.KeepsFrame (s.endWhole f st snap d).hs :=
  ((hk.trans (s.hs.keepsFrame_countEnd s.fs.u st)).trans (Head.keepsFrame_last _ s.fs.u f st)).trans (.of_eq rfl rfl)

theorem State.keepsFrame_fieldWhole {h : Head} {s : State} (hk : h.KeepsFrame s.hs) (op : HspOp) (f : Frame) (q : Half) (d : Disp) :
    h.KeepsFrame (s.fieldWhole op f q d).hs := by
  unfold State.fieldWhole
  dsimp only
  split
  · exact State.keepsFrame_endWhole (hk.trans (s.hs.keepsFrame_pendingFor d op f)) ..
  · exact State.keepsFrame_endWhole (hk.trans (s.hs.keepsFrame_learn op f _)) ..

theorem State.abandonWhole_hs (s : State) (op : HspOp) (f : Frame) (q : Half) : (s.abandonWhole op f q).hs = s.hs := by
  unfold State.abandonWhole
  split
  · rfl
  · rfl

theorem State.keepsFrame_hostOp (s : State) (op : HspOp) (f : Frame) : s.hs.KeepsFrame (s.hostOp op f).hs := by
  unfold State.hostOp
  dsimp only
  split
  · exact .refl s.hs
  · refine s.keepsFrame_takeLateHsp.trans ?_
    generalize s.takeLateHsp = r
    split
    · exact .ite (.refl r.hs) (r.hs.keepsFrame_last ..)
    · split
      · exact r.keepsFrame_localOp op f
      · split
        · exact .of_eq rfl rfl
        · have hsent : r.hs.KeepsFrame ((r.hs.nextLseq ⟨(frCh f).val, by omega⟩).2.inc s.fs.u HSP_CNT_A.FRAMES) := .of_eq rfl rfl
          split
          · refine State.keepsFrame_endWhole ?_ ..
            split
            · refine Head.KeepsFrame.trans ?_ (Head.keepsFrame_dropEntry ..)
              rw [State.abandonWhole_hs]
              exact hsent
            · rw [State.abandonWhole_hs]
              exact hsent
          · exact State.keepsFrame_fieldWhole hsent ..

/-- Without power the host's frames reach nobody. -/
theorem State.hostOp_unpowered {s : State} (hpow : s.hs.powered = false) (op : HspOp) (f : Frame) : s.hostOp op f = s :=
  if_pos (by simp [hpow])

/-! ## Frames byte by byte -/

@[simp] theorem State.openLane_hs (s : State) : s.openLane.hs = s.hs := by
  unfold State.openLane
  split
  · rfl
  · rfl

section
variable {s : State} (hs : s.hs.Sound)
include hs

theorem State.sound_hostOp (op : HspOp) (f : Frame) : (s.hostOp op f).hs.Sound := by
  by_cases hpow : s.hs.powered = true
  · exact (s.keepsFrame_hostOp op f).sound hs hpow
  · rw [State.hostOp_unpowered (by simpa using hpow)]
    exact hs

theorem execHspHeader_sound (bytes : List Byte) : SoundNext (execHspHeader bytes s) := by
  unfold execHspHeader
  dsimp only
  refine .ite (fun _ => .next hs) fun hguard => ?_
  simp only [Bool.or_eq_true, Bool.not_eq_true', not_or, Bool.not_eq_false, Option.isSome_iff_ne_none, not_not] at hguard
  obtain ⟨⟨hpow, hframe⟩, -⟩ := hguard
  have hlate := s.keepsFrame_takeLateHsp
  have hpow' : s.takeLateHsp.hs.powered = true := hlate.powered.trans hpow
  have hs' := hlate.sound hs hpow
  have hout : s.takeLateHsp.hs.out = none := hs'.out_none ((Prod.mk.inj (Prod.mk.inj hlate.same).2).1.trans hframe)
  generalize s.takeLateHsp = r at hpow' hs' hout
  have hreject : ∀ loc st, (r.hs.reject s.fs.u loc (headerFrame bytes) st).Sound := fun loc st =>
    (Head.ends_reject (.refl r.hs) s.fs.u loc _ st hout).sound hs' hpow'
  refine .ite (fun _ => .next (hreject _ _)) fun _ => ?_
  split
  · exact .next (hreject _ _)
  · split
    · exact .next (hreject _ _)
    · refine .ite (fun _ => .next ?_) fun _ => ?_
      · exact hs'.of_ended hpow' rfl rfl
      · split
        · refine .next (Head.Ends.sound (h := r.hs) ?_ hs' hpow')
          dsimp only
          refine Head.ends_reject ?_ s.fs.u _ _ _ ?_
          · exact .of_eq rfl rfl
          · exact hout
        · refine .next ?_
          rw [State.openLane_hs]
          exact hs'.awaits hpow' rfl rfl (frCh (headerFrame bytes)).isLt rfl nofun

theorem State.sound_localEnd (hpow : s.hs.powered = true) (op : HspOp) (f : Frame) (bad : Bool) : (s.localEnd op f bad).hs.Sound := by
  unfold State.localEnd
  split
  · exact ((s.hs.ends_ended _).keepsFrame (Head.keepsFrame_countEnd ..)).sound hs hpow
  · exact ((s.keepsFrame_localOp op f).ends (Head.ends_ended ..)).sound hs hpow

theorem State.sound_fieldEnd {x : HspFrame} {o : OutReq} (hf : s.hs.frame = some x) (ho : s.hs.out = some o) (op : HspOp) (f : Frame)
    (chk : Word) (bad : Bool) : (s.fieldEnd op f o chk bad).hs.Sound := by
  have hpow := hs.powered_of_frame hf
  obtain ⟨hc, -⟩ := hs.2.1 o ho
  unfold State.fieldEnd
  dsimp only
  generalize (if bad = true then (Disp.abandon, none) else s.hs.disposition (frCh f) f.seq chk) = p
  split
  · exact (s.hs.ends_endError ..).sound hs hpow
  · split
    · split
      · exact ((s.hs.keepsFrame_dropEntry ..).ends (Head.ends_endLocal ..)).sound hs hpow
      · exact (s.hs.ends_endLocal ..).sound hs hpow
    · refine hs.awaits hpow rfl rfl hc (x := { x with fr := f, phase := .waiting }) ?_ nofun
      simp [hf]

theorem execHspRequestEnd_sound (bytes : List Byte) : SoundNext (execHspRequestEnd bytes s) := by
  unfold execHspRequestEnd
  split
  · next hf =>
    dsimp only
    refine .ite (fun _ => .next hs) fun _ => ?_
    split
    · exact .next (State.sound_localEnd hs (hs.powered_of_frame hf) ..)
    · next ho => exact .next (State.sound_fieldEnd hs hf ho ..)
  · exact .next hs

theorem execFrameAbort_sound (k : Nat) : SoundNext (execFrameAbort k s) := by
  unfold execFrameAbort
  dsimp only
  split
  · refine .ite (fun hguard => .next ?_) fun _ => .next hs
    have hpow : s.hs.powered = true := (Bool.and_eq_true_iff.mp hguard).1
    exact (s.keepsFrame_takeLateHsp.trans (Head.keepsFrame_inc ..)).sound hs hpow
  · next hf =>
    have hpow := hs.powered_of_frame hf
    refine .ite (fun _ => .next hs) fun _ => ?_
    split
    · next ho =>
      exact .next (hs.of_ended hpow (congrArg (Prod.mk s.hs.powered) ho) rfl)
    · exact .next (hs.of_ended hpow rfl rfl)

theorem execHsCsNRise_sound : SoundNext (execHsCsNRise s) := by
  unfold execHsCsNRise
  dsimp only
  split
  · next x hf =>
    refine .ite (fun _ => .next hs) fun _ => .next ?_
    have hk : s.hs.KeepsFrame (if x.phase = .over then s.hs else s.hs.pendingEntry x.op x.fr) :=
      .ite (.refl s.hs) (s.hs.keepsFrame_pendingEntry x.op x.fr)
    generalize (if x.phase = .over then s.hs else s.hs.pendingEntry x.op x.fr) = r at hk
    refine Head.Ends.sound (hk.ends ?_) hs (hs.powered_of_frame hf)
    split
    · exact .of_eq rfl rfl
    · exact .of_eq rfl rfl
  · exact .next hs

theorem execFieldTimeout_sound : SoundNext (execFieldTimeout s) := by
  unfold execFieldTimeout
  dsimp only
  split
  · next x o hf _ =>
    have hpow := hs.powered_of_frame hf
    have hk := s.hs.keepsFrame_pendingEntry x.op x.fr
    exact .ite (fun _ => .next ((hk.ends (Head.ends_endError ..)).sound hs hpow)) fun _ =>
      .ite (fun _ => .next ((hk.ends (Head.ends_cut ..)).sound hs hpow)) fun _ => .next hs
  · exact .next hs

/-- The Headstock's own clears (08 R300, R319). -/
theorem clears_sound (m : Byte) : SoundNext (execHspCntClr s) ∧ SoundNext (execDupClr m s) := by
  refine ⟨.next ?_, .next ?_⟩
  · split
    · exact (s.hs.keepsFrame_cntClr s.fs.u).sound_of_mb hs rfl
    · exact hs
  · split
    · exact (s.hs.keepsFrame_dupClr m.toNat).sound_of_mb hs rfl
    · exact hs

theorem execPgrst_sound (p : Byte) : SoundNext (execPgrst p s) := by
  unfold execPgrst
  refine .ite (fun _ => .next ?_) fun _ => .next hs
  split
  · next hpow => exact (s.hs.keepsFrame_write s.fs.u _).sound hs hpow
  · exact hs

end

/-! ## Resets of the Headstock and its supply (08 R300, 09 R354, 04 R122) -/

theorem Head.sound_init (straps : BitVec 3) : (Head.init straps).Sound :=
  Head.sound_of_out_none rfl (fun c => by simpa [Head.init] using dupSound_nil) rfl

section
variable {s : State} (hs : s.hs.Sound)
include hs

theorem execHrst_sound (ns : Nat) : SoundNext (execHrst ns s) := by
  unfold execHrst
  dsimp only
  refine .ite (fun _ => .next hs) fun hguard => .next ?_
  have hpow : s.hs.powered = true := by_contra fun h => hguard (by simp [h])
  rw [State.pump_hs]
  exact Head.sound_of_out_none hpow (fun c => by simpa [Head.hrst] using dupSound_nil) rfl

theorem execMbrst_sound (ns : Nat) : SoundNext (execMbrst ns s) := by
  unfold execMbrst
  dsimp only
  refine .ite (fun _ => .next hs) fun hguard => .next ?_
  have hpow : s.hs.powered = true := by_contra fun h => hguard (by simp [h])
  exact hs.of_same hpow rfl rfl

theorem supply_sound : SoundNext (execHs3v3Rise s) ∧ SoundNext (execHs3v3Fall s) := by
  refine ⟨.next ?_, .ite (fun _ => .next ?_) fun _ => .next hs⟩
  · split
    · exact hs
    · exact Head.sound_init _
  · exact ⟨hs.1, nofun, fun _ => ⟨rfl, rfl, rfl⟩⟩

/-! ## Commands of the management bus -/

/-- A transaction acts on a powered Headstock alone. -/
theorem State.sound_mbStart (x : MbTxn) {field : MbCmd → State → State}
    (hfield : ∀ (c : MbCmd) (s : State), s.hs.KeepsFrame (field c s).hs) : (s.mbStart x field).hs.Sound := by
  by_cases hpow : s.hs.powered = true
  · exact (State.keepsFrame_mbStart hfield s x).sound hs hpow
  · unfold State.mbStart
    dsimp only
    rw [if_pos (by simp [hpow])]
    exact hs

theorem State.sound_mbWhole (x : MbTxn) : (s.mbWhole x).hs.Sound := State.sound_mbStart hs x fun c s => s.keepsFrame_mbAtOnce x c

theorem execMbCommandByte_sound (x : MbTxn) : SoundNext (execMbCommandByte x s) :=
  .next (State.sound_mbStart hs x fun c s => s.keepsFrame_mbSend x c)

theorem execMbStretchLimit_sound : SoundNext (execMbStretchLimit s) := by
  refine .next ?_
  split
  · next hphase _ =>
    have hpow := hs.powered_of_mb fun e => by simp [e, MbState.init] at hphase
    exact hs.of_same hpow rfl rfl
  · exact hs

theorem execMbResponseWait_sound : SoundNext (execMbResponseWait s) := by
  unfold execMbResponseWait
  dsimp only
  refine .ite (fun hphase => ?_) fun _ => .ite (fun hpush => ?_) fun _ => .next hs
  · have hpow := hs.powered_of_mb fun e => by simp [e, MbState.init] at hphase
    exact .next (((s.hs.keepsFrame_inc ..).trans (Head.keepsFrame_mbDone ..)).sound hs hpow)
  · have hpow := hs.powered_of_mb fun e => by simp [e, MbState.init] at hpush
    refine .next ?_
    rw [State.toCell_hs]
    exact hs.of_same hpow rfl rfl

/-- The time-outs of the bus lines. -/
theorem lineTimeouts_sound : SoundNext (execSclTimeout s) ∧ SoundNext (execSdaTimeout s) := by
  refine ⟨.ite (fun hpow => .next ?_) fun _ => .next hs, .ite (fun hpow => .next ?_) fun _ => .next hs⟩
  · exact hs.of_same hpow rfl rfl
  · exact hs.of_same hpow rfl rfl

theorem execPushStart_sound : SoundNext (execPushStart s) := by
  unfold execPushStart
  dsimp only
  refine .ite (fun _ => .next hs) fun hmay => .next ?_
  have hpow : s.hs.powered = true := by_contra fun h => hmay (by simp [h])
  refine (s.keepsFrame_takeLateMb.trans ?_).sound hs hpow
  exact .of_eq rfl rfl

theorem execPushTransaction_sound (r : PushResult) : SoundNext (execPushTransaction r s) := by
  unfold execPushTransaction
  dsimp only
  refine .ite (fun _ => .next hs) fun hready => .next ?_
  have hpow := hs.powered_of_mb fun e => by simp [e, MbState.init] at hready
  refine Head.KeepsFrame.sound (h := s.hs) (.trans ?_ (Head.keepsFrame_pushEnd ..)) hs hpow
  exact .of_eq rfl rfl

/-- The ends of a push's waits. -/
theorem pushWaits_sound : SoundNext (execPushBackoffEnd s) ∧ SoundNext (execPollExpiry s) := by
  refine ⟨.next ?_, .next ?_⟩
  · split
    · next hpush =>
      have hpow := hs.powered_of_mb fun e => by simp [e, MbState.init] at hpush
      exact hs.of_same hpow rfl rfl
    · exact hs
  · split
    · next hpush =>
      have hpow := hs.powered_of_mb fun e => by simp [e, MbState.init] at hpush
      exact hs.of_same hpow rfl rfl
    · exact hs

/-! ## Every command -/

theorem execLevelRefresh_sound (ch : LevelCh) (e : BitVec 3) : SoundNext (execLevelRefresh ch e s) := by
  rw [execLevelRefresh_eq]
  refine .ite (fun _ => .next hs) fun hguard => .next ?_
  have hpow : s.hs.powered = true := by_contra fun h => hguard (by simp [h])
  exact (State.keepsFrame_mbResume (s.hs.keepsFrame_setLevel ch _)).sound hs hpow

theorem State.SameButLevels.sound {t : State} (h : s.SameButLevels t) : t.hs.Sound := by
  rw [h.1]
  refine Head.KeepsFrame.sound_of_mb (h := s.hs) ?_ hs rfl
  exact .of_eq rfl rfl

theorem exec_sound (c : Instr) : SoundNext (exec c s) := by
  by_cases hrefresh : ∃ ch e, c = .levelRefresh ch e
  · obtain ⟨ch, e, rfl⟩ := hrefresh
    exact execLevelRefresh_sound hs ch e
  push Not at hrefresh
  by_cases hother : inTransaction c = false ∧ resetsHeadstock c = false
  · exact fun t ht => State.SameButLevels.sound hs (headstockFrozen c s t hother.1 hother.2 (fun _ => hrefresh) ht)
  cases c
  case pgrst p => exact execPgrst_sound hs p
  case hspHeader bytes => exact execHspHeader_sound hs bytes
  case hspRequestEnd bytes => exact execHspRequestEnd_sound hs bytes
  case frameAbort k => exact execFrameAbort_sound hs k
  case fieldTimeout => exact execFieldTimeout_sound hs
  case hsCsNRise => exact execHsCsNRise_sound hs
  case hspCntClr => exact (clears_sound hs 0).1
  case dupClr m => exact (clears_sound hs m).2
  case rspHsp rx => exact (arrivalOnF2h_sound hs rx).1
  case rspMb rx => exact (arrivalOnF2h_sound hs rx).2.1
  case nakF rx => exact (arrivalOnF2h_sound hs rx).2.2
  case nakHRepeat mb => exact execNakHRepeat_sound hs mb
  case hrst ns => exact execHrst_sound hs ns
  case mbrst ns => exact execMbrst_sound hs ns
  case hs3v3Rise => exact (supply_sound hs).1
  case hs3v3Fall => exact (supply_sound hs).2
  case mbCommandByte x => exact execMbCommandByte_sound hs x
  case mbStretchLimit => exact execMbStretchLimit_sound hs
  case mbResponseWait => exact execMbResponseWait_sound hs
  case sclTimeout => exact (lineTimeouts_sound hs).1
  case sdaTimeout => exact (lineTimeouts_sound hs).2
  case pushStart => exact execPushStart_sound hs
  case pushTransaction r => exact execPushTransaction_sound hs r
  case pushBackoffEnd => exact (pushWaits_sound hs).1
  case pollExpiry => exact (pushWaits_sound hs).2
  case regWrite | regRead | regWriteVerify | streamPut | streamGet | streamPeek | statusDigest | nop | sessionOpen | sessionAuth
      | sessionClose | faultClear | faultClearAll => exact .next (State.sound_hostOp hs _ _)
  case statusWord | alarmSummary | unitState | maxTemp | groupTemps | stationStatus | mbFaultClear | pageSelRead | pageSelWrite
      | regDataRead | regDataWrite | eventFetchRead | eventFetchWrite | heartbeat | sleepReq | identity | wakePing =>
    exact .next (State.sound_mbWhole hs _)
  -- `hother` rules out the commands outside transactions and resets.
  all_goals exact absurd ⟨rfl, rfl⟩ hother

end

/-- Settles O55: a tick leaves the Headstock alone, and `exec_sound` has every command. -/
theorem headstockStaysSound : Obligations.HeadstockStaysSound := by
  intro s t hs hstep
  unfold step at hstep
  split at hstep
  · next cs _ => exact exec_sound (s := { s with pending := cs }) hs _ t hstep
  · cases hstep
    exact hs

end Sys2Proof.Machine
end

section
/-! Frames byte by byte at the Headstock: the end of a request, with an entry in the duplicate table (08 R292, R298; O59) or without, the
header before it, aborts, endings and clears (08 R278, R312 to R319; O43). -/

namespace Sys2Proof.Machine

/-! ## The end of a request (08 R292) -/

/-- The frame of a request with the payload as `bytes` bring it, followed by the PCRC. -/
def requestFrame (op : HspOp) (f : Frame) (bytes : List Byte) : Frame :=
  { f with payload := if opPayload op then bytes.take f.len.toNat else [] }

section
variable {s : State} {op : HspOp} {f : Frame} {o : OutReq}

/-- The last byte of a request whose PCRC is good, if it has one. -/
theorem exec_hspRequestEnd_good {q chk : Word} {bytes : List Byte} (hframe : s.hs.frame = some ⟨op, f, q, .payload⟩)
    (hout : s.hs.out = some o) (hlen : bytes.length = if opPayload op then f.len.toNat + 4 else 0)
    (hchk : (if opPayload op then BitVec.ofNat 32 (leNat (bytes.drop f.len.toNat)) else q) = chk)
    (hgood : opPayload op = true → chk = payloadCrc (requestFrame op f bytes)) :
    exec (.hspRequestEnd bytes) s = .next (s.fieldEnd op (requestFrame op f bytes) o chk false) := by
  have hbad : (opPayload op && chk != payloadCrc (requestFrame op f bytes)) = false := by
    cases hp : opPayload op with
    | false => rfl
    | true => simp [hgood hp]
  change execHspRequestEnd bytes s = _
  unfold execHspRequestEnd
  rw [hframe]
  dsimp only
  rw [if_neg (by simp [hlen]), hout]
  dsimp only
  rw [hchk]
  exact congrArg (fun b => Host.Outcome.next (s.fieldEnd op (requestFrame op f bytes) o chk b)) hbad

theorem State.closeLane_open (hopen : s.fs.link.openMsg = .open) (m : H2F) :
    s.closeLane m = { s with h2f := s.h2f ++ [m], fs := { s.fs with link := { s.fs.link with openMsg := .none } } } := if_pos hopen

section
variable {d : Disp} {chk : Word} (hopen : s.fs.link.openMsg = .open)
include hopen

/-- A request that goes out waits for its response. -/
theorem State.fieldEnd_sent (hd : s.hs.disposition (frCh f) f.seq chk = (d, none)) :
    s.fieldEnd op f o chk false = { s with
      h2f := s.h2f ++ [.reqHsp o.cstr o.lseq op f chk d]
      fs := { s.fs with link := { s.fs.link with openMsg := .none } }
      hs := { s.hs with out := some { o with disp := d }, frame := s.hs.frame.map (fun x => { x with fr := f, phase := .waiting }) } } := by
  unfold State.fieldEnd
  dsimp only
  rw [if_neg (by decide), hd, State.closeLane_open hopen]
  rfl

/-- A request that the Headstock answers itself ends with that answer. -/
theorem State.fieldEnd_answered {st : Nat} {snap : Word} {data : List Byte}
    (hd : s.hs.disposition (frCh f) f.seq (frameChk op f) = (d, some (st, snap, data))) :
    s.fieldEnd op f o (frameChk op f) false = s.requestOver o op f d
      ((if st = retrySt then s.hs.dropEntry (frCh f) f.seq else s.hs).endLocal s.fs.u f st snap data) := by
  unfold State.fieldEnd
  dsimp only
  rw [if_neg (by decide), hd, State.closeLane_open hopen]
  rfl

end

end

/-! ## Answers from the duplicate table (08 R298) -/

section
variable {h : Head} {x : HspFrame} (hframe : h.frame = some x) (u : UnitInfo) (f : Frame)
include hframe

/-- What is seen of a frame that has ended: what it drove last, no request outstanding, and the duplicate table as it was. -/
theorem Head.ended_seen (d : List Driven) :
    (h.ended d).drive = h.drive ++ d ∧ (h.ended d).frame = some { x with phase := .over } ∧ (h.ended d).out = none
      ∧ (h.ended d).dup = h.dup := by
  refine ⟨rfl, ?_, rfl, rfl⟩
  simp [Head.ended, hframe]

theorem Head.endError_seen (w : List Byte) (st : Nat) :
    (h.endError u f w st).drive = h.drive ++ single (w ++ errorForm st f.seq)
      ∧ (h.endError u f w st).frame = some { x with phase := .over } ∧ (h.endError u f w st).out = none
      ∧ (h.endError u f w st).dup = h.dup := by
  obtain ⟨regs, e⟩ := (h.ended (single (w ++ errorForm st f.seq))).countEnd_eq u st
  unfold Head.endError
  rw [e]
  exact Head.ended_seen hframe _

theorem Head.endLocal_seen {st : Nat} (hst : st ≠ seqConflict) (snap : Word) (data : List Byte) :
    (h.endLocal u f st snap data).drive
        = h.drive ++ single [0x00, 0xA5] ++ bodyLanes (frQuad f) 0 (responseBody st f.seq snap data)
      ∧ (h.endLocal u f st snap data).frame = some { x with phase := .over } ∧ (h.endLocal u f st snap data).out = none
      ∧ (h.endLocal u f st snap data).dup = h.dup := by
  obtain ⟨regs, e⟩ := (h.ended (answerLanes (frQuad f) (responseBody st f.seq snap data))).countEnd_eq u st
  unfold Head.endLocal
  rw [if_neg hst, e, List.append_assoc]
  exact Head.ended_seen hframe _

end

section
variable {h : Head} {c : Fin 8} {q : Byte} {e : DupEntry} (he : h.entry c q = some e)
include he

theorem Head.disposition_conflict {chk : Word} (hne : e.chk ≠ chk) : h.disposition c q chk = (.abandon, some (seqConflict, 0, [])) := by
  simp [Head.disposition, he, hne]

theorem Head.disposition_dup (hcomplete : e.complete = true) (hn : e.n ≤ 64) :
    h.disposition c q e.chk = (.abandon, some (dupSt, e.snap, e.data)) := by
  simp [Head.disposition, he, hcomplete, hn]

theorem Head.disposition_replay (hlong : ¬ (e.complete = true ∧ e.n ≤ 64)) (hnew : h.newestEntry c e = true) :
    h.disposition c q e.chk = (.replay, none) := by
  simp [Head.disposition, he, hnew, hlong]

theorem Head.disposition_expired (hcomplete : e.complete = true) (hn : 64 < e.n) (hold : h.newestEntry c e = false) :
    h.disposition c q e.chk = (.abandon, some (expiredSt, e.snap, [])) := by
  simp [Head.disposition, he, hcomplete, hn, hold]

theorem Head.disposition_retry (hpending : e.complete = false) (hold : h.newestEntry c e = false) :
    h.disposition c q e.chk = (.abandon, some (retrySt, 0, [])) := by
  simp [Head.disposition, he, hpending, hold]

end

/-! ## O59 -/

/-- Settles O59: the disposition of the request follows its entry, and the frame ends as the Headstock answers, or goes out. -/
theorem duplicateRequests : Obligations.DuplicateRequests := by
  intro op f q o bytes e s hframe hout hopen hlen hentry g hcrc
  have hchk : (if opPayload op then BitVec.ofNat 32 (leNat (bytes.drop f.len.toNat)) else q) = frameChk op g := by
    unfold frameChk
    split at hcrc
    · next hp => rw [if_pos hp, if_pos hp, hcrc]
    · next hp => rw [if_neg hp, if_neg hp, hcrc]
  have hexec := exec_hspRequestEnd_good hframe hout hlen hchk fun hp => if_pos hp
  change exec _ s = .next (s.fieldEnd op g o (frameChk op g) false) at hexec
  refine ⟨fun hsame hcomplete hn => ?_, fun hsame hlong hnew => ?_, fun hsame hcomplete hn hold => ?_, fun hsame hpending hold => ?_,
    fun hne => ?_⟩
  · have hd := hsame ▸ Head.disposition_dup hentry hcomplete hn
    exact ⟨_, hexec.trans (congrArg _ (State.fieldEnd_answered hopen hd)), Head.endLocal_seen hframe _ g (by decide) ..⟩
  · have hd := hsame ▸ Head.disposition_replay hentry hlong hnew
    refine ⟨_, hexec.trans (congrArg _ (State.fieldEnd_sent hopen hd)), rfl, ?_, rfl, rfl⟩
    rw [hframe]
    rfl
  · have hd := hsame ▸ Head.disposition_expired hentry hcomplete hn hold
    exact ⟨_, hexec.trans (congrArg _ (State.fieldEnd_answered hopen hd)), Head.endLocal_seen hframe _ g (by decide) ..⟩
  · have hd := hsame ▸ Head.disposition_retry hentry hpending hold
    exact ⟨_, hexec.trans (congrArg _ (State.fieldEnd_answered hopen hd)),
      Head.endLocal_seen (h := s.hs.dropEntry (frCh f) f.seq) hframe _ g (by decide) ..⟩
  · have hd := Head.disposition_conflict hentry hne
    exact ⟨_, hexec.trans (congrArg _ (State.fieldEnd_answered hopen hd)), Head.endError_seen hframe ..⟩

/-! ## The header of a frame (08 R278, R292) -/

/-- No field frame is refused for the field side's absence once it is ready. -/
theorem Head.fieldStatus_ready {h : Head} (hready : h.ready = true) : h.fieldStatus = none := by
  have hpresent : h.present = true := by
    simp only [Head.ready, Bool.and_eq_true] at hready
    exact hready.1.1
  simp [Head.fieldStatus, hpresent, hready]

section
variable {s : State} {bytes : List Byte}

/-- What waits in the receive buffer counts in HSP_LNK alone. -/
theorem State.takeLateHsp_word (s : State) {a : Nat} (ha : a ≠ HSP_LNK.RSP_DISCARD.addr) :
    s.takeLateHsp.hs.word s.fs.u a = s.hs.word s.fs.u a :=
  List.foldlRecOn (motive := fun h : Head => h.word s.fs.u a = s.hs.word s.fs.u a) _ _ rfl fun h hh e _ => by
    split
    · exact (h.word_p_ne s.fs.u _ ha).trans hh
    · exact hh

theorem State.takeLateHsp_g (s : State) {f : Fd} (hf : f.addr ≠ HSP_LNK.RSP_DISCARD.addr) :
    s.takeLateHsp.hs.g s.fs.u f = s.hs.g s.fs.u f := congrArg (fdGet f) (s.takeLateHsp_word hf)

/-- A header whose HCRC is wrong is rejected (08 R278). -/
theorem exec_hspHeader_hcrc (hpow : s.hs.powered = true) (hframe : s.hs.frame = none) (hlen : bytes.length = 12)
    (hcrc : BitVec.ofNat 32 (leNat (bytes.drop 8)) ≠ crc32c (bytes.take 8)) :
    exec (.hspHeader bytes) s =
      .next { s.takeLateHsp with hs := s.takeLateHsp.hs.reject s.fs.u false (headerFrame bytes) hcrcErr } := by
  change execHspHeader bytes s = _
  unfold execHspHeader
  dsimp only
  rw [if_neg (by simp [hpow, hframe, hlen]), if_pos (by simpa using hcrc)]

/-- The Headstock once a good header of the field frame `f` has been acknowledged: its request is open under the next LSEQ. -/
def Head.accepted (h : Head) (u : UnitInfo) (op : HspOp) (f : Frame) : Head :=
  let q := h.nextLseq ⟨(frCh f).val, by omega⟩
  { ({ q.2 with frame := some ⟨op, f, headerCrc op f, .payload⟩, drive := single [0xC3], out := none } : Head).inc u HSP_CNT_A.FRAMES with
    out := some ⟨(frCh f).val, q.1, .execute, [], 0, []⟩ }

/-- A good header of a field frame is acknowledged, and its message begins (08 R278, R292). -/
theorem exec_hspHeader_accepted {op : HspOp} (hpow : s.hs.powered = true) (hframe : s.hs.frame = none) (hlen : bytes.length = 12)
    (hcrc : BitVec.ofNat 32 (leNat (bytes.drop 8)) = crc32c (bytes.take 8)) (hop : opOf (bytes.getD 0 0) = some op)
    (hcheck : headerCheck s.fs.u op (headerFrame bytes) = none) (hlocal : frameLocal op (headerFrame bytes) = false)
    (hready : s.hs.ready = true) :
    exec (.hspHeader bytes) s =
      .next (State.openLane { s.takeLateHsp with hs := s.takeLateHsp.hs.accepted s.fs.u op (headerFrame bytes) }) := by
  obtain ⟨regs, hlate⟩ := s.takeLateHsp_hs
  have hready' : s.takeLateHsp.hs.ready = true := by rw [hlate]; exact hready
  change execHspHeader bytes s = _
  unfold execHspHeader
  dsimp only
  rw [if_neg (by simp [hpow, hframe, hlen]), if_neg (by simp [hcrc]), hop]
  dsimp only
  rw [hcheck]
  dsimp only
  rw [if_neg (by simp [hlocal]), Head.fieldStatus_ready hready']
  rfl

end

/-! ## What is seen of a header -/

section
variable {s : State}

theorem State.takeLateHsp_dup : s.takeLateHsp.hs.dup = s.hs.dup := by
  obtain ⟨regs, e⟩ := s.takeLateHsp_hs
  rw [e]

theorem State.takeLateHsp_lseq : s.takeLateHsp.hs.lseq = s.hs.lseq := by
  obtain ⟨regs, e⟩ := s.takeLateHsp_hs
  rw [e]

theorem State.openLane_serves (hserves : s.fs.serves = true) :
    s.openLane = { s with fs := Tail.logAll { s.fs.dropOpen with link := { s.fs.dropOpen.link with openMsg := .open } } } :=
  if_pos hserves

end

section
variable (h : Head) (u : UnitInfo) (f : Frame)

theorem Head.reject_hcrcErr_seen :
    (h.reject u false f hcrcErr).drive = single [0x5A, 0x03] ∧ (h.reject u false f hcrcErr).frame = none
      ∧ (h.reject u false f hcrcErr).dup = h.dup ∧ (h.reject u false f hcrcErr).lseq = h.lseq
      ∧ (h.reject u false f hcrcErr).g u HSP_CNT_B.HCRC_ERR = satInc HSP_CNT_B.HCRC_ERR.width (h.g u HSP_CNT_B.HCRC_ERR)
      ∧ (h.reject u false f hcrcErr).g u HSP_STAT.LAST_STATUS = 3 := by
  obtain ⟨regs, e⟩ := h.reject_eq u false f hcrcErr
  refine ⟨by rw [e]; rfl, by rw [e], by rw [e], by rw [e], ?_, Head.last_status _ u f hcrcErr⟩
  exact (Head.last_g_ne _ u f hcrcErr (by decide)).trans (h.g_inc u (by decide))

theorem Head.accepted_seen (op : HspOp) :
    let c := frCh f
    let r := h.accepted u op f
    r.drive = single [0xC3] ∧ r.frame = some ⟨op, f, headerCrc op f, .payload⟩
      ∧ (∃ q, r.out = some ⟨c.val, q, .execute, [], 0, []⟩ ∧ q = h.lseq[c.val] + 1 ∧ r.lseq[c.val] = q)
      ∧ r.dup = h.dup ∧ r.g u HSP_CNT_A.FRAMES = satInc HSP_CNT_A.FRAMES.width (h.g u HSP_CNT_A.FRAMES) :=
  ⟨rfl, rfl, ⟨_, rfl, rfl, Vector.getElem_set_self ..⟩, rfl, Head.g_inc _ u (by decide)⟩

end

/-! ## Aborts and endings (08 R297, R312 to R315) -/

section
variable {s : State} {op : HspOp} {f : Frame} {q : Word} {o : OutReq}

theorem exec_frameAbort_request (k : Nat) (hframe : s.hs.frame = some ⟨op, f, q, .payload⟩) (hout : s.hs.out = some o)
    (hopen : s.fs.link.openMsg = .open) :
    exec (.frameAbort k) s = .next { s with
      h2f := s.h2f ++ [.reqHsp o.cstr o.lseq op f 0 .abandon]
      fs := { s.fs with link := { s.fs.link with openMsg := .none } }
      hs := { s.hs.inc s.fs.u HSP_CNT_A.ABORTED with frame := none, out := none, wake := false } } := by
  change execFrameAbort k s = _
  unfold execFrameAbort
  rw [hframe]
  dsimp only
  rw [if_neg (by decide), hout]
  dsimp only
  rw [State.closeLane_open hopen]
  rfl

theorem exec_hsCsNRise_over (hframe : s.hs.frame = some ⟨op, f, q, .over⟩) (hlocal : frameLocal op f = false) :
    exec .hsCsNRise s = .next { s with hs := { s.hs with frame := none, out := none, wake := false } } := by
  change execHsCsNRise s = _
  unfold execHsCsNRise
  rw [hframe]
  dsimp only
  rw [if_neg (by decide), if_pos rfl, hlocal]
  rfl

/-- A request that went out with EXECUTE leaves a pending entry (08 R297). -/
theorem Head.pendingEntry_execute {h : Head} (hout : h.out = some o) (hexec : o.disp = .execute) (op : HspOp) (f : Frame) :
    h.pendingEntry op f = h.putEntry (frCh f) ⟨f.seq, frameChk op f, false, 0, 0, 0, []⟩ := by
  unfold Head.pendingEntry
  rw [hout]
  exact if_pos hexec

section
variable (hout : s.hs.out = some o) (hexec : o.disp = .execute)
include hout hexec

theorem exec_fieldTimeout_waiting (hframe : s.hs.frame = some ⟨op, f, q, .waiting⟩) :
    exec .fieldTimeout s = .next { s with
      hs := (s.hs.putEntry (frCh f) ⟨f.seq, frameChk op f, false, 0, 0, 0, []⟩).endError s.fs.u f
        (List.replicate (s.hs.waitMax s.fs.u) 0x00) fieldTimeout } := by
  change execFieldTimeout s = _
  unfold execFieldTimeout
  rw [hframe, hout]
  dsimp only
  rw [if_pos rfl, Head.pendingEntry_execute hout hexec]
  rfl

theorem exec_fieldTimeout_data (hframe : s.hs.frame = some ⟨op, f, q, .data⟩) :
    exec .fieldTimeout s = .next { s with
      hs := (s.hs.putEntry (frCh f) ⟨f.seq, frameChk op f, false, 0, 0, 0, []⟩).cut s.fs.u ⟨op, f, q, .data⟩ o } := by
  change execFieldTimeout s = _
  unfold execFieldTimeout
  rw [hframe, hout]
  dsimp only
  rw [if_neg (by decide), if_pos rfl, Head.pendingEntry_execute hout hexec]

end

end

/-- The end of a frame with FIELD_TIMEOUT is counted. -/
theorem Head.endError_fieldTimeout (h : Head) (u : UnitInfo) (f : Frame) (w : List Byte) :
    (h.endError u f w fieldTimeout).g u HSP_CNT_C.TIMEOUT = satInc HSP_CNT_C.TIMEOUT.width (h.g u HSP_CNT_C.TIMEOUT) := by
  unfold Head.endError
  rw [Head.last_g_ne _ _ _ _ (by decide)]
  exact Head.g_inc _ u (by decide)

/-- An entry is found where the duplicate table holds it. -/
theorem Head.entry_of_dup_eq {h r : Head} (hd : r.dup = h.dup) (c : Fin 8) (q : Byte) : r.entry c q = h.entry c q := by
  unfold Head.entry
  rw [hd]

/-! ## The Headstock's clears (08 R319) -/

section
variable (h : Head) (u : UnitInfo)

/-- Counters cleared one after the other leave every other register. -/
theorem Head.clear_word {fs : List Fd} {a : Nat} (ha : ∀ f ∈ fs, a ≠ f.addr) :
    (fs.foldl (fun (h : Head) f => h.p u f 0) h).word u a = h.word u a := by
  induction fs generalizing h with
  | nil => rfl
  | cons f fs ih =>
    rw [List.foldl_cons, ih _ fun g hg => ha g (List.mem_cons_of_mem f hg), h.word_p_ne u 0 (ha f List.mem_cons_self)]

/-- Field `f` keeps its value when `g` is cleared: it is of another register, or shares no bit with `g`. -/
abbrev Fd.sparedBy (f g : Fd) : Prop := f.addr ≠ g.addr ∨ f.addr = g.addr ∧ g.apart f

/-- A field among those that are cleared reads 0 after them. -/
theorem Head.clear_g {fs : List Fd} {f : Fd} (hf : f.ok) (hfs : ∀ g ∈ fs, g.ok ∧ (f ≠ g → Fd.sparedBy f g))
    (h0 : f ∈ fs ∨ h.g u f = 0) : (fs.foldl (fun (h : Head) f => h.p u f 0) h).g u f = 0 := by
  induction fs generalizing h with
  | nil => exact h0.resolve_left List.not_mem_nil
  | cons g fs ih =>
    obtain ⟨hg, hspared⟩ := hfs g List.mem_cons_self
    refine ih _ (fun g hg => hfs g (List.mem_cons_of_mem _ hg)) ?_
    by_cases hfg : f = g
    · subst hfg
      exact .inr ((h.g_p u 0 hf).trans (Nat.zero_mod _))
    · refine h0.imp (fun hmem => (List.mem_cons.mp hmem).resolve_left hfg) fun hzero => ?_
      rcases hspared hfg with hne | ⟨heq, hapart⟩
      · exact (h.g_p_ne u 0 hne).trans hzero
      · exact (h.g_p_apart u 0 hg hf heq hapart).trans hzero

theorem Head.cntClr_g {f : Fd} (hf : f ∈ hspCounters) : (h.cntClr u).g u f = 0 := by
  have hall : ∀ f ∈ hspCounters, f.ok ∧ ∀ g ∈ hspCounters, g.ok ∧ (f ≠ g → Fd.sparedBy f g) := by decide
  obtain ⟨hok, hfs⟩ := hall f hf
  exact h.clear_g u hok hfs (.inl hf)

end

/-! ## O43 -/

/-- The end of a request without a payload that the duplicate table does not hold. -/
theorem hspRequestEnd_executes {s : State} {op : HspOp} {f : Frame} {q : Word} {o : OutReq}
    (hframe : s.hs.frame = some ⟨op, f, q, .payload⟩) (hout : s.hs.out = some o) (hpayload : opPayload op = false)
    (hopen : s.fs.link.openMsg = .open) (hnone : s.hs.entry (frCh f) f.seq = none) :
    exec (.hspRequestEnd []) s = .next { s with
      h2f := s.h2f ++ [.reqHsp o.cstr o.lseq op { f with payload := [] } q .execute]
      fs := { s.fs with link := { s.fs.link with openMsg := .none } }
      hs := { s.hs with out := some { o with disp := .execute }, frame := some ⟨op, { f with payload := [] }, q, .waiting⟩ } } := by
  have hreq : requestFrame op f [] = { f with payload := [] } := by simp [requestFrame, hpayload]
  have hend := exec_hspRequestEnd_good (chk := q) (bytes := []) hframe hout (by simp [hpayload]) (by simp [hpayload])
    fun hp => absurd (hpayload.symm.trans hp) (by decide)
  rw [hreq] at hend
  refine hend.trans (congrArg _ ((State.fieldEnd_sent (f := { f with payload := [] }) hopen (Head.disposition_new q hnone)).trans ?_))
  rw [hframe]
  rfl

/-- Settles O43: each clause is the equation of its command, and what is seen of the Headstock after it. -/
theorem frameBytesAndClears : Obligations.FrameBytesAndClears := by
  refine ⟨fun bytes s hpow hframe hlen hcrc => ?_, fun bytes op s hpow hframe hlen hcrc hop hcheck hlocal hready hserves => ?_,
    fun op f q o s hframe hout hpayload hopen hnone => hspRequestEnd_executes hframe hout hpayload hopen hnone,
    fun op f q o k s hframe hout hopen => exec_frameAbort_request k hframe hout hopen,
    fun op f q s hframe hlocal => exec_hsCsNRise_over hframe hlocal,
    fun op f q o s hout hexec => ⟨fun hframe => ?_, fun hframe => ?_⟩,
    fun mask s hpow => congrArg Host.Outcome.next (if_pos hpow), fun s hpow => ?_⟩
  · have hseen := s.takeLateHsp.hs.reject_hcrcErr_seen s.fs.u (headerFrame bytes)
    rw [State.takeLateHsp_dup, State.takeLateHsp_lseq, State.takeLateHsp_g s (by decide)] at hseen
    exact ⟨_, exec_hspHeader_hcrc hpow hframe hlen hcrc, rfl, rfl, rfl, rfl, rfl, hseen⟩
  · have hseen := s.takeLateHsp.hs.accepted_seen s.fs.u (headerFrame bytes) op
    simp only [State.takeLateHsp_dup, State.takeLateHsp_lseq, State.takeLateHsp_g s (f := HSP_CNT_A.FRAMES) (by decide)] at hseen
    have hexec := exec_hspHeader_accepted hpow hframe hlen hcrc hop hcheck hlocal hready
    exact ⟨_, hexec.trans (congrArg _ (State.openLane_serves hserves)), rfl, rfl, rfl, rfl, rfl, hseen⟩
  · obtain ⟨hdrive, hover, hnone, hdup⟩ := Head.endError_seen
      (h := s.hs.putEntry (frCh f) ⟨f.seq, frameChk op f, false, 0, 0, 0, []⟩) hframe s.fs.u f
      (List.replicate (s.hs.waitMax s.fs.u) 0x00) fieldTimeout
    exact ⟨_, exec_fieldTimeout_waiting hout hexec hframe, rfl, rfl, rfl, rfl, rfl, hdrive, hover, hnone,
      (Head.entry_of_dup_eq hdup _ _).trans (s.hs.entry_putEntry _ rfl), Head.endError_fieldTimeout ..⟩
  · obtain ⟨hdrive, hover, hnone, hdup⟩ := Head.ended_seen
      (h := s.hs.putEntry (frCh f) ⟨f.seq, frameChk op f, false, 0, 0, 0, []⟩) hframe
      (bodyLanes (frQuad f) o.body.length (cutRest o.body f.len.toNat))
    exact ⟨_, exec_fieldTimeout_data hout hexec hframe, rfl, rfl, rfl, rfl, rfl, hdrive, hover, hnone,
      (Head.entry_of_dup_eq hdup _ _).trans (s.hs.entry_putEntry _ rfl)⟩
  · exact ⟨_, congrArg Host.Outcome.next (if_pos hpow), rfl, rfl, rfl, rfl, rfl, fun f hf => s.hs.cntClr_g s.fs.u hf, rfl, rfl,
      fun a ha => s.hs.clear_word s.fs.u ha⟩

end Sys2Proof.Machine
end

section
/-! Frames of the host that read or that end at HACK (08 R278, R285, R290, R310 to R312, 05 R178); O38. -/

namespace Sys2Proof.Machine

/-! ## The firmware is as it was when the operation of a frame begins (23 R816) -/

theorem Tail.recordKeeps_fw (o : Tail) : Tail.RecordKeeps (fun t => t.fw = o.fw) where
  store _ _ h := h
  latch t p i v h := (t.evtV_fw p i v).trans h
  count _ _ _ _ h := h
  desc _ _ _ h := h

theorem Tail.setUnit_fw (t : Tail) (us : UnitSt) : (t.setUnit us).fw = t.fw := by
  unfold Tail.setUnit
  split
  · rfl
  · rfl

theorem Tail.hostActivity_fw (t : Tail) : t.hostActivity.fw = t.fw := by
  unfold Tail.hostActivity
  extract_lets _ _ _ t1 t2 _ _ t3
  have h2 : t2.fw = t.fw := t1.evtV_fw _ _ _
  have h3 : t3.fw = t.fw := by
    unfold t3
    split
    · exact (t2.setUnit_fw _).trans h2
    · exact h2
  split
  · rfl
  · split
    · refine List.foldlRecOn (motive := fun r : Tail => r.fw = t.fw) _ _ h3 fun r hr n _ => ?_
      split
      · exact hr
      · exact hr
    · exact h3

theorem Tail.acceptReq_fw (t : Tail) (c : Fin 16) (l : Half) : (t.acceptReq c l).fw = t.fw := by
  have hgap : (t.countGap c l).fw = t.fw := by
    unfold Tail.countGap
    split
    · split
      · rfl
      · exact Tail.evtV_fw _ _ _ _
    · rfl
  exact hgap

theorem State.begun_fw (s : State) (op : HspOp) (f : Frame) : (s.begun op f).fw = s.fs.fw := by
  have hch : (frCh f).val < 256 := by omega
  exact (Tail.recordKeeps_fw s.fs).record .sqc hch 3 true _ ((Tail.hostActivity_fw _).trans (s.fs.acceptReq_fw _ _))

/-! ## Reads of registers (05 R178, 07 R251) -/

/-- A read of any word of the system area keeps what its steps keep, if the loss of the word does. -/
theorem Tail.RecordKeeps.sysRead_of_lost {P : Tail → Prop} (hP : Tail.RecordKeeps P) {a : Nat} (hlost : ∀ t : Tail, P t → P (t.sysLost a))
    {t : Tail} (h : P t) : P (t.sysRead a) := by
  unfold Tail.sysRead
  dsimp only
  split
  · exact h
  · exact hP.queueCorrection _ _ (hP.countRead _ _ _ h)
  · have hread := hP.countRead a (sysSyndrome (t.sysPat a)) (classify (sysSyndrome (t.sysPat a)) 0) h
    split
    · split
      · exact hread
      · exact hP.queuePoison _ _ hread
    · split
      · exact hP.latch _ _ _ _ (hP.sysClear _ (hP.countRead _ _ _ hread))
      · exact hP.latch _ _ _ _ (hP.queueCorrection _ _ (hP.sysClear _ (hP.countRead _ _ _ hread)))
      · exact hlost _ (hP.sysClear _ (hP.sysClear _ (hP.countRead _ _ _ hread)))

theorem Tail.KeepsSsn.descLost {o t : Tail} (k : Nat) (h : o.KeepsSsn t) : o.KeepsSsn (t.descLost k) := h.trans ⟨rfl, rfl⟩

theorem Tail.KeepsSsn.imgLost {o t : Tail} (r : Nat) (h : o.KeepsSsn t) : o.KeepsSsn (t.imgLost r) := h.trans ⟨rfl, rfl⟩

/-- The loss of a word of the system area takes no store sequence number (07 R251). -/
theorem Tail.KeepsSsn.sysLost {o t : Tail} (a : Nat) (h : o.KeepsSsn t) : o.KeepsSsn (t.sysLost a) := by
  unfold Tail.sysLost
  dsimp only
  refine (Tail.recordKeeps_ssn o).latch _ _ _ _ ?_
  split
  · split
    · exact ((h.imgLost _).imgLost _).p _ _
    · exact h
  · split
    · exact h.descLost _
    · exact h.trans ⟨rfl, rfl⟩

theorem Tail.keepsSsn_regReads (t : Tail) (as : List Nat) : t.KeepsSsn (t.regReads as) :=
  List.foldlRecOn _ _ (.refl t) fun _ hr _ _ => List.foldlRecOn _ _ hr fun _ hq _ _ =>
    (Tail.recordKeeps_ssn t).sysRead_of_lost (fun _ h => h.sysLost _) hq

/-! ## The digest (08 R310) -/

theorem Tail.perStn_length (t : Tail) {f : Stn → List Byte} {z : List Byte} {k : Nat} (hf : ∀ n, (f n).length = k) (hz : z.length = k) :
    (t.perStn f z).length = 4 * k := by
  have hall : ∀ n : Stn, (if t.fitted n.val then f n else z).length = k := fun n => by
    split
    · exact hf n
    · exact hz
  simp [Tail.perStn, List.length_flatMap, hall]
  omega

theorem Tail.digestEvents_length (t : Tail) : t.digestEvents.length = 16 := by
  simp [Tail.digestEvents]

theorem Tail.digest_length (t : Tail) : t.digest.length = 64 := by
  have hst := t.perStn_length (f := fun n => [BitVec.ofNat 8 (t.stnGet n).sq.st.code, BitVec.ofNat 8 (t.stnFlags t.ag n)])
    (z := [0xFF, 0]) (fun _ => rfl) rfl
  have hdl := t.perStn_length (f := fun n => leBytes 2 (t.ag (STN_DL.DL_COUNT n.val))) (z := [0, 0]) (fun _ => leBytes_length 2 _) rfl
  have hpct := t.perStn_length (f := fun n => [BitVec.ofNat 8 (t.g (THD_REQ.PCT n.val))]) (z := [0]) (fun _ => rfl) rfl
  unfold Tail.digest
  simp only [List.length_append, hst, hdl, hpct, t.digestEvents_length, leBytes_length]
  rfl

/-! ## Frames that the field side serves -/

theorem okSt_lt : okSt < 256 := by decide

section
variable {s : State} {f : Frame}

theorem regRead_answered (h : s.Serves .regRead f) (hrec : s.fs.fw.recovery = false) :
    let t := (s.begun .regRead f).regReads (regAddrs f.stream.toNat f.addr.toNat f.len.toNat)
    exec (.regRead f) s = .next (s.answered .regRead f okSt
      (readBytes (t.view (s.fs.ssn + 1)) (f.stream.toNat * 256 + f.addr.toNat) (f.len.toNat / 4)) t) := by
  intro t
  have hkeep : (s.begun .regRead f).KeepsSsn t := Tail.keepsSsn_regReads _ _
  have hssn : t.ssn = s.fs.ssn + 1 := hkeep.ssn.trans (s.begun_keeps .regRead f).2
  have hrun : (s.begun .regRead f).runOp .regRead f =
      ⟨okSt, readBytes (t.view (s.fs.ssn + 1)) (f.stream.toNat * 256 + f.addr.toNat) (f.len.toNat / 4), t⟩ := by
    rw [← hssn]
    exact if_neg (by simp [Tail.recoveryPage, s.begun_fw, hrec])
  exact congrArg _ (h.hostOp_answered hrun okSt_lt hkeep)

theorem statusDigest_answered (h : s.Serves .statusDigest f) (hrec : s.fs.fw.recovery = false) :
    exec (.statusDigest f) s = .next (s.answered .statusDigest f okSt (s.begun .statusDigest f).digest (s.begun .statusDigest f)) := by
  have hrun : (s.begun .statusDigest f).runOp .statusDigest f = ⟨okSt, (s.begun .statusDigest f).digest, s.begun .statusDigest f⟩ :=
    if_neg (by simp [s.begun_fw, hrec])
  exact congrArg _ (h.hostOp_answered hrun okSt_lt (.refl _))

theorem nop_answered (h : s.Serves .nop f) (hrec : s.fs.fw.recovery = false) :
    exec (.nop f) s = .next (s.answered .nop f okSt [] (s.begun .nop f)) := by
  have hrun : (s.begun .nop f).runOp .nop f = ⟨okSt, [], s.begun .nop f⟩ := if_neg (by simp [s.begun_fw, hrec])
  exact congrArg _ (h.hostOp_answered hrun okSt_lt (.refl _))

end

theorem State.takeLateHsp_present (s : State) : s.takeLateHsp.hs.present = s.hs.present := by
  obtain ⟨regs, e⟩ := s.takeLateHsp_hs
  rw [e]
  rfl

theorem State.takeLateHsp_ready (s : State) : s.takeLateHsp.hs.ready = s.hs.ready := by
  obtain ⟨regs, e⟩ := s.takeLateHsp_hs
  rw [e]
  rfl

/-! ## Frames that end at the Headstock (08 R278, R290, R312) -/

section
variable {s : State} {op : HspOp} {f : Frame} (hpow : s.hs.powered = true) (hframe : s.hs.frame = none)
include hpow hframe

/-- A header that fails a check is answered with its status. -/
theorem State.hostOp_rejected {st : Nat} (hcheck : headerCheck s.fs.u op f = some st) :
    s.hostOp op f = { s.takeLateHsp with
      rsp := some ⟨st, f.seq, 0, []⟩, hs := s.takeLateHsp.hs.rejected s.fs.u (frameLocal op f) f st } := by
  unfold State.hostOp
  dsimp only
  rw [if_neg (by simp [hpow, hframe]), hcheck]

section
variable (hcheck : headerCheck s.fs.u op f = none)
include hcheck

/-- Registers of the Headstock are read there. -/
theorem State.hostOp_local (hlocal : frameLocal op f = true) :
    s.hostOp op f = { (s.takeLateHsp.localOp op f).2.2 with
      rsp := some ⟨(s.takeLateHsp.localOp op f).1, f.seq, 0, (s.takeLateHsp.localOp op f).2.1⟩ } := by
  unfold State.hostOp
  dsimp only
  rw [if_neg (by simp [hpow, hframe]), hcheck]
  exact if_pos hlocal

variable (hlocal : frameLocal op f = false)
include hlocal

/-- The field side is absent or not ready. -/
theorem State.hostOp_fieldStatus {st : Nat} (hst : s.takeLateHsp.hs.fieldStatus = some st) :
    s.hostOp op f = { s.takeLateHsp with
      rsp := some ⟨st, f.seq, 0, []⟩
      hs := ({ s.takeLateHsp.hs with wake := s.takeLateHsp.hs.wake || st = busySt } : Head).last s.fs.u f st } := by
  unfold State.hostOp
  dsimp only
  rw [if_neg (by simp [hpow, hframe]), hcheck]
  dsimp only
  rw [if_neg (by simp [hlocal]), hst]

/-- A request without an entry in the duplicate table goes out (08 R278, R292). -/
theorem State.hostOp_sent (hready : s.hs.ready = true) (hentry : s.hs.entry (frCh f) f.seq = none) :
    s.hostOp op f = ({ s.takeLateHsp with hs := s.requested f } : State).fieldWhole op f (s.hs.lseq[(frCh f).val] + 1) .execute := by
  have hnone : (s.takeLateHsp.hs.nextLseq ⟨(frCh f).val, by omega⟩).2.entry (frCh f) f.seq = none :=
    (Head.entry_of_dup_eq State.takeLateHsp_dup _ _).trans hentry
  rw [← State.takeLateHsp_lseq]
  unfold State.hostOp
  dsimp only
  rw [if_neg (by simp [hpow, hframe]), hcheck]
  dsimp only
  rw [if_neg (by simp [hlocal]), Head.fieldStatus_ready (s.takeLateHsp_ready.trans hready)]
  dsimp only
  rw [Head.disposition_new _ hnone]
  rfl

end

end

/-! ## O38 -/

/-- Settles O38: what the field side serves ends with what its operation answers; every other frame ends where `State.hostOp` stops. -/
theorem hostReads : Obligations.HostReads := by
  refine ⟨fun f s h hrec => regRead_answered h hrec, fun f s h hrec => ⟨statusDigest_answered h hrec, Tail.digest_length _⟩,
    fun f s h hrec => nop_answered h hrec,
    fun f s hpow hframe hcheck hlocal => congrArg Host.Outcome.next (State.hostOp_local hpow hframe hcheck hlocal),
    fun f st s hpow hframe hcheck => congrArg Host.Outcome.next (State.hostOp_rejected hpow hframe hcheck),
    fun f s hpow hframe hcheck => ⟨fun habsent => ?_, fun hpresent hready => ?_⟩,
    fun f s hpow hframe hcheck hready hserves hentry => ?_⟩
  · have hst : s.takeLateHsp.hs.fieldStatus = some linkDown := by simp [Head.fieldStatus, s.takeLateHsp_present, habsent]
    have hend := State.hostOp_fieldStatus hpow hframe hcheck rfl hst
    rw [show (s.takeLateHsp.hs.wake || decide (linkDown = busySt)) = s.takeLateHsp.hs.wake from Bool.or_false _] at hend
    exact congrArg Host.Outcome.next hend
  · have hst : s.takeLateHsp.hs.fieldStatus = some busySt := by
      simp [Head.fieldStatus, s.takeLateHsp_present, s.takeLateHsp_ready, hpresent, hready]
    have hend := State.hostOp_fieldStatus hpow hframe hcheck rfl hst
    rw [show (s.takeLateHsp.hs.wake || decide (busySt = busySt)) = true from Bool.or_true _] at hend
    exact congrArg Host.Outcome.next hend
  · have hsent := State.hostOp_sent hpow hframe hcheck rfl hready hentry
    exact congrArg Host.Outcome.next (hsent.trans (if_pos (show (!s.fs.serves) = true by simp [hserves])))

end Sys2Proof.Machine
end

section
/-! The management bus at the Headstock: what the receive buffer and an address match leave as it was, and a transaction from its command
byte on (09 R324 to R331, R336, R338, R348, R349). -/

namespace Sys2Proof.Machine

/-! ## What the receive buffer and an address match leave (01 R22, 09 section 6) -/

/-- The registers that a late response and an address match may write while the bus is idle: results, tries, counts. -/
def busRegs : List Nat :=
  [HSP_LNK.RSP_DISCARD.addr, MBUS_STAT.LAST_RESULT.addr, MBUS_PSTAT.TRIES.addr, MBUS_CNT_A.CMDS.addr]

/-- `r` is `h` but for WAKE, the bus block, which is idle, and the registers `busRegs`. -/
structure Head.IdleBus (u : UnitInfo) (h r : Head) : Prop where
  rest : r = { h with regs := r.regs, wake := r.wake, mb := r.mb }
  idle : r.mb.phase = .idle
  word : ∀ a, a ∉ busRegs → r.word u a = h.word u a

section
variable {u : UnitInfo} {o h r : Head}

theorem Head.IdleBus.refl (hidle : h.mb.phase = .idle) : h.IdleBus u h := ⟨rfl, hidle, fun _ _ => rfl⟩

theorem Head.IdleBus.p {f : Fd} (hf : f.addr ∈ busRegs) (x : Nat) (hb : o.IdleBus u h) : o.IdleBus u (h.p u f x) :=
  ⟨congrArg (Head.p · u f x) hb.rest, hb.idle, fun a ha => (h.word_p_ne u x (ne_of_mem_of_not_mem hf ha).symm).trans (hb.word a ha)⟩

theorem Head.IdleBus.inc {f : Fd} (hf : f.addr ∈ busRegs) (hb : o.IdleBus u h) : o.IdleBus u (h.inc u f) := hb.p hf _

theorem Head.IdleBus.mb (hb : o.IdleBus u h) (m : MbState) (hm : m.phase = .idle) : o.IdleBus u { h with mb := m } :=
  ⟨congrArg (fun h : Head => { h with mb := m }) hb.rest, hm, hb.word⟩

theorem Head.IdleBus.wake (hb : o.IdleBus u h) (w : Bool) : o.IdleBus u { h with wake := w } :=
  ⟨congrArg (fun h : Head => { h with wake := w }) hb.rest, hb.idle, hb.word⟩

/-- The outcome of a write that ended without its PEC byte is told by LAST_RESULT alone (09 R334). -/
theorem Head.IdleBus.mbDone (st : Nat) (d : List Byte) (hb : o.IdleBus u h) : o.IdleBus u (h.mbDone u st d) := by
  unfold Head.mbDone
  dsimp only
  split
  · exact hb.mb _ hb.idle
  · rw [if_pos hb.idle]
    exact ((hb.mb _ hb.idle).p (f := MBUS_STAT.LAST_RESULT) (by decide) st).mb _ hb.idle

theorem Head.IdleBus.pushFetched (now st : Nat) (d : List Byte) (hb : o.IdleBus u h) : o.IdleBus u (h.pushFetched u now st d) := by
  unfold Head.pushFetched
  split
  · dsimp only
    split
    · exact hb.mb _ hb.idle
    · exact (hb.p (f := MBUS_PSTAT.TRIES) (by decide) 0).mb _ hb.idle
  · exact hb.mb _ hb.idle

theorem Head.IdleBus.mbOutcome (now : Nat) (q : OutReq) (st : Nat) (d : List Byte) (hb : o.IdleBus u h) :
    o.IdleBus u (h.mbOutcome u now q st d) := by
  unfold Head.mbOutcome
  split
  · exact hb.pushFetched now st d
  · exact hb.mbDone st d

theorem Head.IdleBus.mbMatch (hb : o.IdleBus u h) : o.IdleBus u (h.mbMatch u) :=
  ((hb.inc (f := MBUS_CNT_A.CMDS) (by decide)).wake (h.wake || (h.present && !h.ready))).mb
    { h.mb with found := h.ready, out := none, txn := none, push := if h.mb.push = .fetching then .idle else h.mb.push } hb.idle

/-! What follows for the parts of the Headstock that a transaction consults. -/

variable (hb : h.IdleBus u r)
include hb

theorem Head.IdleBus.powered : r.powered = h.powered := (congrArg Head.powered hb.rest).trans rfl
theorem Head.IdleBus.lseq : r.lseq = h.lseq := (congrArg Head.lseq hb.rest).trans rfl
theorem Head.IdleBus.frame : r.frame = h.frame := (congrArg Head.frame hb.rest).trans rfl
theorem Head.IdleBus.dup : r.dup = h.dup := (congrArg Head.dup hb.rest).trans rfl
theorem Head.IdleBus.fault : r.fault = h.fault := (congrArg Head.fault hb.rest).trans rfl
theorem Head.IdleBus.present : r.present = h.present := (congrArg Head.present hb.rest).trans rfl
theorem Head.IdleBus.ready : r.ready = h.ready := (congrArg Head.ready hb.rest).trans rfl
theorem Head.IdleBus.writePec (x : MbTxn) : r.writePec x = h.writePec x := (congrArg (Head.writePec · x) hb.rest).trans rfl

theorem Head.IdleBus.g {f : Fd} (hf : f.addr ∉ busRegs) : r.g u f = h.g u f := congrArg (fdGet f) (hb.word _ hf)

theorem Head.IdleBus.window : r.window u = h.window u := by
  unfold Head.window
  rw [hb.g (f := MBUS_WIN.PAGE) (by decide), hb.g (f := MBUS_WIN.OFFSET) (by decide), hb.g (f := MBUS_WIN.RLEN) (by decide)]

end

/-- What waits in the receive buffer of an idle bus. -/
theorem State.takeLateMb_idleBus {s : State} (hidle : s.hs.mb.phase = .idle) : s.hs.IdleBus s.fs.u s.takeLateMb.hs := by
  refine List.foldlRecOn (motive := s.hs.IdleBus s.fs.u) _ _ (.refl hidle) fun h hb e _ => ?_
  split
  · split
    · exact hb.mbOutcome ..
    · exact hb.inc (by decide)
  · exact hb.inc (by decide)
  · split
    · exact hb.mbOutcome ..
    · exact hb
  · split
    · exact hb.mbOutcome ..
    · exact hb
  · exact hb

theorem State.matched_idleBus {s : State} (hidle : s.hs.mb.phase = .idle) : s.hs.IdleBus s.fs.u s.matched.hs :=
  (State.takeLateMb_idleBus hidle).mbMatch

/-! ## From the command byte on (09 R336, R348, R349) -/

section
variable {s : State} {x : MbTxn} {c : MbCmd} {field : MbCmd → State → State} (hpow : s.hs.powered = true) (hidle : s.hs.mb.phase = .idle)
include hpow hidle

/-- A Quick Command acts as WAKE_PING (09 R324). -/
theorem State.mbStart_quick (hkind : x.kind = .quick) :
    s.mbStart x field = { s.matched with hs := s.matched.hs.mbAck s.fs.u (mbCode .wakePing) okSt [] } := by
  unfold State.mbStart
  dsimp only
  rw [if_neg (by simp [hpow, hidle]), if_pos hkind]
  rfl

/-- Every other code is refused at the command byte (09 R336). -/
theorem State.mbStart_unknown (hkind : x.kind ≠ .quick) (hcmd : mbOf x.cmd = none) :
    s.mbStart x field = { s.matched with hs := s.matched.hs.mbNack s.fs.u x.cmd badOp } := by
  unfold State.mbStart
  dsimp only
  rw [if_neg (by simp [hpow, hidle]), if_neg hkind, hcmd]
  rfl

/-- A read or a write of a command: it goes on, is refused, or stretches. -/
theorem State.mbStart_known (hkind : x.kind = .read ∨ x.kind = .write) (hcmd : x.cmd = mbCode c) :
    s.mbStart x field =
      if !s.matched.hs.fieldCommand s.fs.u c x || s.hs.ready then s.matched.mbProceed x c (field c)
      else if !s.hs.present then { s.matched with hs := s.matched.hs.mbNack s.fs.u x.cmd linkDown }
      else if s.hs.fault.level then { s.matched with hs := s.matched.hs.mbNack s.fs.u x.cmd busySt }
      else { s.matched with hs := { s.matched.hs with mb := { s.matched.hs.mb with
        phase := .stretch, txn := some x, cellT := some (s.fs.now + stretchLimit) } } } := by
  have hb := State.matched_idleBus hidle
  rw [← hb.ready, ← hb.present, ← hb.fault]
  unfold State.mbStart
  dsimp only
  rw [if_neg (by simp [hpow, hidle]), if_neg (by rcases hkind with h | h <;> simp [h]), hcmd, mbOf_mbCode]
  dsimp only
  rw [if_neg (by rcases hkind with h | h <;> simp [h])]
  rfl

end

/-! ## After the command byte (09 R325, R328 to R331) -/

section
variable {s : State} {x : MbTxn} {c : MbCmd} {field : State → State}

/-- A field read goes to the field side. -/
theorem State.mbProceed_fieldRead (hkind : x.kind = .read) (hreads : (mbReads c).isNone = false)
    (hfield : s.hs.fieldCommand s.fs.u c x = true) : s.mbProceed x c field = field s := by
  unfold State.mbProceed
  dsimp only
  rw [hkind]
  dsimp only
  rw [if_neg (by simp [hreads]), if_pos hfield]

/-- Another read is the Headstock's own. -/
theorem State.mbProceed_localRead {st : Nat} {d : List Byte} (hkind : x.kind = .read) (hreads : (mbReads c).isNone = false)
    (hfield : s.hs.fieldCommand s.fs.u c x = false) (hlocal : s.localRead c = (st, d)) :
    s.mbProceed x c field = { s with hs := s.hs.mbRead s.fs.u c st d } := by
  unfold State.mbProceed
  dsimp only
  rw [hkind]
  dsimp only
  rw [if_neg (by simp [hreads]), if_neg (by simp [hfield]), hlocal]

variable (hkind : x.kind = .write)
include hkind

/-- PEC_REQ refuses a write that has ended before its PEC byte (09 R331). -/
theorem State.mbProceed_pecMissing (hpec : x.pec = none) (hdata : dataOk c x = true) (hreq : s.hs.g s.fs.u MBUS_CFG.PEC_REQ = 1) :
    s.mbProceed x c field = { s with hs := s.hs.mbAck s.fs.u x.cmd pecMissing [] } := by
  unfold State.mbProceed
  dsimp only
  rw [hkind]
  dsimp only
  unfold State.mbWrite
  dsimp only
  rw [if_pos (by simp [hpec, hdata, hreq])]

/-- A PEC byte that checks wrong is counted and refused (09 R330). -/
theorem State.mbProceed_pecWrong {p : Byte} (hpec : x.pec = some p) (hdata : dataOk c x = true) (hne : p ≠ s.hs.writePec x) :
    s.mbProceed x c field = { s with hs := (s.hs.inc s.fs.u MBUS_CNT_B.PEC_ERR).mbNack s.fs.u x.cmd pcrcErr } := by
  unfold State.mbProceed
  dsimp only
  rw [hkind]
  dsimp only
  unfold State.mbWrite
  dsimp only
  rw [if_neg (by simp [hpec]), if_neg (by simp [hpec]), if_neg (by simp [hdata]), if_pos (by simp [hpec, hne])]

/-- The data bytes of the write are those of its command, and it has its PEC byte where it must, a good one where it has any. -/
def State.TakesWrite (s : State) (c : MbCmd) (x : MbTxn) : Prop :=
  dataOk c x = true ∧ (x.pec = some (s.hs.writePec x)
    ∨ x.pec = none ∧ dataShort c x = false ∧ s.hs.g s.fs.u MBUS_CFG.PEC_REQ ≠ 1)

variable (hw : s.TakesWrite c x)
include hw

theorem State.TakesWrite.mbProceed_eq :
    s.mbProceed x c field =
      if s.hs.fieldCommand s.fs.u c x then field s
      else
        let (st, h) := s.localWrite c x.data
        let last := c = .pageSel || (c = .regData && pageAbsent s.fs.u (h.window s.fs.u).page)
        { s with hs := if last && st != okSt then h.mbNack s.fs.u x.cmd st else h.mbWritten s.fs.u x st } := by
  obtain ⟨hdata, hpec⟩ := hw
  have hreq : ¬ (x.pec.isNone = true ∧ s.hs.g s.fs.u MBUS_CFG.PEC_REQ = 1) := by
    rintro ⟨hnone, hreq⟩
    rcases hpec with h | ⟨-, -, h⟩
    · simp [h] at hnone
    · exact h hreq
  unfold State.mbProceed
  dsimp only
  rw [hkind]
  dsimp only
  unfold State.mbWrite
  dsimp only
  rw [if_neg (by simpa using fun h _ => fun h' => hreq ⟨by simpa using h, h'⟩), if_neg ?_, if_neg (by simp [hdata]), if_neg ?_]
  · rcases hpec with h | ⟨h, -, -⟩ <;> simp [h]
  · rcases hpec with h | ⟨h, hs, -⟩ <;> simp [h]
    exact hs

/-- A field write goes to the field side. -/
theorem State.TakesWrite.mbProceed_field (hfield : s.hs.fieldCommand s.fs.u c x = true) : s.mbProceed x c field = field s := by
  rw [hw.mbProceed_eq hkind, if_pos hfield]

/-- Another write, accepted by the Headstock. -/
theorem State.TakesWrite.mbProceed_local {h : Head} (hfield : s.hs.fieldCommand s.fs.u c x = false)
    (hlocal : s.localWrite c x.data = (okSt, h)) : s.mbProceed x c field = { s with hs := h.mbWritten s.fs.u x okSt } := by
  rw [hw.mbProceed_eq hkind, if_neg (by simp [hfield]), hlocal]
  simp

end

/-! ## A request on CSTR 8 (09 R327, R328) -/

/-- The request of a transaction that has matched goes out. -/
theorem State.matched_mbSend {s : State} {c : MbCmd} (x : MbTxn) (hidle : s.hs.mb.phase = .idle) :
    s.matched.mbSend x c = { s.takeLateMb with
      hs := s.requestedBus x
      h2f := s.h2f ++ [.reqMb 8 (s.hs.lseq[8] + 1) (mbCode c) (s.matched.hs.mbArgs s.fs.u c x) .execute] } := by
  rw [← (State.matched_idleBus hidle).lseq]
  rfl

end Sys2Proof.Machine
end

section
/-! Transactions of the management bus at the command byte, and the timeouts of the bus (09 R328, R333, R336, R348 to R353); O51. -/

namespace Sys2Proof.Machine

/-! ## At the command byte (09 R328, R336, R348, R349) -/

section
variable {c : MbCmd} {s : State} (hc : c = .statusWord ∨ c = .maxTemp ∨ c = .groupTemps)
include hc

/-- The reads that are the field side's whatever the Headstock sees of it. -/
theorem Head.fieldCommand_fieldRead (h : Head) (u : UnitInfo) : h.fieldCommand u c (readTxn c) = true := by
  rcases hc with rfl | rfl | rfl <;> rfl

theorem Head.mbArgs_fieldRead (h : Head) (u : UnitInfo) : h.mbArgs u c (readTxn c) = [] := by
  rcases hc with rfl | rfl | rfl <;> rfl

theorem mbReads_fieldRead : (mbReads c).isNone = false := by
  rcases hc with rfl | rfl | rfl <;> rfl

variable (hpow : s.hs.powered = true) (hidle : s.hs.mb.phase = .idle)
include hpow hidle

theorem commandByte_sent (hready : s.hs.ready = true) :
    ∃ h : Head, exec (.mbCommandByte (readTxn c)) s = .next { s.takeLateMb with
        hs := h, h2f := s.h2f ++ [.reqMb 8 (s.hs.lseq[8] + 1) (mbCode c) [] .execute] }
      ∧ h.mb.phase = .response ∧ h.mb.txn = some (readTxn c) ∧ h.mb.out = some ⟨8, s.hs.lseq[8] + 1, .execute, [], 0, []⟩
      ∧ h.mb.cellT = some (s.fs.now + 800000) ∧ h.lseq[8] = s.hs.lseq[8] + 1 ∧ h.frame = s.hs.frame ∧ h.dup = s.hs.dup := by
  have hb := State.matched_idleBus hidle
  have hgo : s.mbStart (readTxn c) (fun k s => s.mbSend (readTxn c) k) = s.matched.mbSend (readTxn c) c := by
    rw [State.mbStart_known hpow hidle (.inl rfl) rfl, if_pos (by simp [hready]),
      State.mbProceed_fieldRead rfl (mbReads_fieldRead hc) (Head.fieldCommand_fieldRead hc _ _)]
  rw [State.matched_mbSend _ hidle, Head.mbArgs_fieldRead hc] at hgo
  refine ⟨_, congrArg Host.Outcome.next hgo, rfl, rfl, ?_, rfl, ?_, hb.frame, hb.dup⟩
  · rw [← hb.lseq]
    rfl
  · rw [← hb.lseq]
    exact Vector.getElem_set_self _

theorem commandByte_stretches (hready : s.hs.ready = false) (hpresent : s.hs.present = true) (hfault : s.hs.fault.level = false) :
    ∃ h : Head, exec (.mbCommandByte (readTxn c)) s = .next { s.takeLateMb with hs := h } ∧ h.mb.phase = .stretch ∧ h.wake = true
      ∧ h.mb.txn = some (readTxn c) ∧ h.mb.cellT = some (s.fs.now + 8000000) := by
  have hlate := State.takeLateMb_idleBus hidle
  have hstart := State.mbStart_known (field := fun k s => s.mbSend (readTxn c) k) hpow hidle (x := readTxn c) (.inl rfl) rfl
  rw [if_neg (by simp [hready, Head.fieldCommand_fieldRead hc]), if_neg (by simp [hpresent]), if_neg (by simp [hfault])] at hstart
  refine ⟨_, congrArg Host.Outcome.next hstart, rfl, ?_, rfl, rfl⟩
  change (s.takeLateMb.hs.wake || (s.takeLateMb.hs.present && !s.takeLateMb.hs.ready)) = true
  simp [hlate.present, hlate.ready, hready, hpresent]

theorem commandByte_refused (hpresent : s.hs.present = false) :
    exec (.mbCommandByte (readTxn c)) s = .next { s.matched with hs := s.matched.hs.mbNack s.fs.u (mbCode c) linkDown } := by
  have hready : s.hs.ready = false := by simp [Head.ready, hpresent]
  have hstart := State.mbStart_known (field := fun k s => s.mbSend (readTxn c) k) hpow hidle (x := readTxn c) (.inl rfl) rfl
  rw [if_neg (by simp [hready, Head.fieldCommand_fieldRead hc]), if_pos (by simp [hpresent])] at hstart
  exact congrArg Host.Outcome.next hstart

end

/-! ## The stretch limit and the response wait (09 R333, R348) -/

theorem exec_mbStretchLimit {x : MbTxn} {s : State} (hphase : s.hs.mb.phase = .stretch) (htxn : s.hs.mb.txn = some x) :
    exec .mbStretchLimit s =
      .next { s.toCell s.hs.mb.cellT with hs := (s.hs.inc s.fs.u MBUS_CNT_B.TIMEOUTS).mbNack s.fs.u x.cmd wakeTimeout } := by
  change execMbStretchLimit s = _
  unfold execMbStretchLimit
  rw [hphase, htxn]

/-- A transaction that ends leaves the registers but MBUS_STAT. -/
theorem Head.mbAck_g_ne (h : Head) (u : UnitInfo) (cmd : Byte) (res : Nat) (d : List Byte) {f : Fd}
    (hf : f.addr ≠ MBUS_STAT.LAST_RESULT.addr) : (h.mbAck u cmd res d).g u f = h.g u f :=
  (Head.g_p_ne (f := MBUS_STAT.LAST_RESULT) _ u res hf).trans (Head.g_p_ne (f := MBUS_STAT.LAST_CMD) _ u _ hf)

theorem Head.mbDone_read {h : Head} {x : MbTxn} {c : MbCmd} (u : UnitInfo) (st : Nat) (d : List Byte) (htxn : h.mb.txn = some x)
    (hphase : h.mb.phase ≠ .idle) (hkind : x.kind = .read) (hcmd : x.cmd = mbCode c) :
    h.mbDone u st d = ({ h with mb := { h.mb with out := none } } : Head).mbRead u c st d := by
  unfold Head.mbDone
  rw [htxn]
  dsimp only
  rw [if_neg hphase, hkind, hcmd, mbOf_mbCode]

theorem mbResponseWait_endsRead {c : MbCmd} {x : MbTxn} {s : State} (hphase : s.hs.mb.phase = .response) (htxn : s.hs.mb.txn = some x)
    (hkind : x.kind = .read) (hcmd : x.cmd = mbCode c) :
    ∃ h : Head, exec .mbResponseWait s = .next { s.toCell s.hs.mb.cellT with hs := h } ∧ h.mb.phase = .idle ∧ h.mb.out = none
      ∧ h.mb.drive = s.hs.failedRead c ∧ h.g s.fs.u MBUS_STAT.LAST_RESULT = 8
      ∧ h.g s.fs.u MBUS_CNT_B.TIMEOUTS = satInc MBUS_CNT_B.TIMEOUTS.width (s.hs.g s.fs.u MBUS_CNT_B.TIMEOUTS) := by
  have hdone := Head.mbDone_read (h := s.hs.inc s.fs.u MBUS_CNT_B.TIMEOUTS) s.fs.u fieldTimeout [] htxn
    (by rw [show (s.hs.inc s.fs.u MBUS_CNT_B.TIMEOUTS).mb = s.hs.mb from rfl, hphase]; decide) hkind hcmd
  have hexec : exec .mbResponseWait s =
      .next { s.toCell s.hs.mb.cellT with hs := (s.hs.inc s.fs.u MBUS_CNT_B.TIMEOUTS).mbDone s.fs.u fieldTimeout [] } := if_pos hphase
  rw [hdone] at hexec
  refine ⟨_, hexec, rfl, rfl, rfl, (Head.mbAck_stat ..).1, ?_⟩
  exact (Head.mbAck_g_ne _ _ _ _ _ (by decide)).trans (s.hs.g_inc (f := MBUS_CNT_B.TIMEOUTS) s.fs.u (by decide))

/-! ## SCL and SDA held low (09 R351 to R353) -/

theorem exec_sclTimeout {s : State} (hpow : s.hs.powered = true) :
    exec .sclTimeout s = .next { s with
      hs := (((s.hs.p s.fs.u MBUS_STAT.SCL_TO 1).p s.fs.u MBUS_STAT.LAST_RESULT busTimeout).inc s.fs.u MBUS_CNT_B.TIMEOUTS).dropBus } :=
  if_pos hpow

theorem sclTimeout_resets {s : State} (hpow : s.hs.powered = true) :
    ∃ h : Head, exec .sclTimeout s = .next { s with hs := h } ∧ h.mb.phase = .idle ∧ h.mb.txn = none ∧ h.mb.out = none ∧ h.mb.drive = []
      ∧ h.g s.fs.u MBUS_STAT.SCL_TO = 1 ∧ h.g s.fs.u MBUS_STAT.LAST_RESULT = 0x10
      ∧ h.g s.fs.u MBUS_CNT_B.TIMEOUTS = satInc MBUS_CNT_B.TIMEOUTS.width (s.hs.g s.fs.u MBUS_CNT_B.TIMEOUTS) ∧ h.frame = s.hs.frame := by
  let u := s.fs.u
  let h1 := s.hs.p u MBUS_STAT.SCL_TO 1
  let h2 := h1.p u MBUS_STAT.LAST_RESULT busTimeout
  have hscl : (h2.inc u MBUS_CNT_B.TIMEOUTS).g u MBUS_STAT.SCL_TO = 1 :=
    calc (h2.inc u MBUS_CNT_B.TIMEOUTS).g u MBUS_STAT.SCL_TO = h2.g u MBUS_STAT.SCL_TO := h2.g_p_ne u _ (by decide)
      _ = h1.g u MBUS_STAT.SCL_TO := h1.g_p_apart u _ (by decide) (by decide) rfl (by decide)
      _ = 1 := s.hs.g_p u _ (by decide)
  have hres : (h2.inc u MBUS_CNT_B.TIMEOUTS).g u MBUS_STAT.LAST_RESULT = 0x10 :=
    (h2.g_p_ne u _ (by decide)).trans (h1.g_p u _ (by decide))
  have hcnt : (h2.inc u MBUS_CNT_B.TIMEOUTS).g u MBUS_CNT_B.TIMEOUTS
      = satInc MBUS_CNT_B.TIMEOUTS.width (s.hs.g u MBUS_CNT_B.TIMEOUTS) := by
    rw [h2.g_inc u (by decide), h1.g_p_ne u _ (by decide), s.hs.g_p_ne u _ (by decide)]
  exact ⟨_, exec_sclTimeout hpow, rfl, rfl, rfl, rfl, hscl, hres, hcnt, rfl⟩

/-- The clock pulses are sent by a block that was pushing. -/
theorem exec_sdaTimeout {s : State} (hpow : s.hs.powered = true) :
    let h := (s.hs.p s.fs.u MBUS_STAT.SDA_TO 1).inc s.fs.u MBUS_CNT_B.TIMEOUTS
    exec .sdaTimeout s = .next { s with hs := { h.dropBus with mb := { h.dropBus.mb with
      freed := if h.mb.push = .ready then some (min 9 (Config.sdaPulses s.fs.now)) else h.mb.freed } } } :=
  if_pos hpow

theorem sdaTimeout_resets {s : State} (hpow : s.hs.powered = true) :
    ∃ h : Head, exec .sdaTimeout s = .next { s with hs := h } ∧ h.mb.phase = .idle ∧ h.mb.txn = none ∧ h.mb.out = none ∧ h.mb.drive = []
      ∧ h.g s.fs.u MBUS_STAT.SDA_TO = 1
      ∧ h.g s.fs.u MBUS_CNT_B.TIMEOUTS = satInc MBUS_CNT_B.TIMEOUTS.width (s.hs.g s.fs.u MBUS_CNT_B.TIMEOUTS) ∧ h.frame = s.hs.frame
      ∧ (s.hs.mb.push = .ready → h.mb.push = .idle ∧ ∃ k : Nat, k ≤ 9 ∧ h.mb.freed = some k) := by
  let u := s.fs.u
  let h1 := s.hs.p u MBUS_STAT.SDA_TO 1
  have hsda : (h1.inc u MBUS_CNT_B.TIMEOUTS).g u MBUS_STAT.SDA_TO = 1 :=
    (h1.g_p_ne u _ (by decide)).trans (s.hs.g_p u _ (by decide))
  have hcnt : (h1.inc u MBUS_CNT_B.TIMEOUTS).g u MBUS_CNT_B.TIMEOUTS
      = satInc MBUS_CNT_B.TIMEOUTS.width (s.hs.g u MBUS_CNT_B.TIMEOUTS) := by
    rw [h1.g_inc u (by decide), s.hs.g_p_ne u _ (by decide)]
  refine ⟨_, exec_sdaTimeout hpow, rfl, rfl, rfl, rfl, hsda, hcnt, rfl, fun hpush => ⟨?_, _, Nat.min_le_left .., if_pos hpush⟩⟩
  change (if s.hs.mb.push = .fetching || s.hs.mb.push = .ready then PushPhase.idle else s.hs.mb.push) = .idle
  simp [hpush]

/-! ## O51 -/

/-- Settles O51: at the command byte by what the Headstock sees of the field side; the timeouts each by the end they give the
transaction. -/
theorem busTransactions : Obligations.BusTransactions :=
  ⟨fun _ _ hpow hidle hc => ⟨commandByte_sent hc hpow hidle, commandByte_stretches hc hpow hidle, commandByte_refused hc hpow hidle⟩,
    fun _ _ hpow hidle hcmd hkind => congrArg Host.Outcome.next (State.mbStart_unknown hpow hidle hkind hcmd),
    fun _ _ hphase htxn => exec_mbStretchLimit hphase htxn,
    fun _ _ _ hphase htxn hkind hcmd => mbResponseWait_endsRead hphase htxn hkind hcmd,
    fun _ hpow => sclTimeout_resets hpow,
    fun _ hpow => sdaTimeout_resets hpow⟩

end Sys2Proof.Machine
end

section
/-! Controller mode of the management bus: fetch, push, refusal, lost arbitration and backoff (09 R355 to R361); O52. -/

namespace Sys2Proof.Machine

/-! ## The fetch for a push (09 R355, R356) -/

theorem pushStart_fetches {s : State} (hpow : s.hs.powered = true) (hen : s.hs.g s.fs.u MBUS_CTLR.EN = 1)
    (htarget : s.hs.g s.fs.u MBUS_CTLR.TARGET ≠ 0) (hstall : s.hs.g s.fs.u MBUS_PSTAT.PUSH_STALLED = 0) (hready : s.hs.ready = true)
    (halert : s.hs.alert.level = true) (hpush : s.hs.mb.push = .idle) (hidle : s.hs.mb.phase = .idle) :
    let h := s.takeLateMb.hs
    exec .pushStart s = .next { s.takeLateMb with
      h2f := s.h2f ++ [.reqMb 9 (s.hs.lseq[9] + 1) (mbCode .eventFetch) (leBytes 4 (h.word s.fs.u MBUS_PUSH.INDEX.addr).toNat ++ [0x01]) .execute]
      hs := { h with
        lseq := s.hs.lseq.set 9 (s.hs.lseq[9] + 1)
        mb := { h.mb with
          push := .fetching, txn := none, out := some ⟨9, s.hs.lseq[9] + 1, .execute, [], 0, []⟩, pushT := some (s.fs.now + 800000) } } } := by
  intro h
  have hlseq : h.lseq = s.hs.lseq := (State.takeLateMb_idleBus hidle).lseq
  rw [← hlseq]
  exact if_neg (by simp [hpow, hen, htarget, hstall, hready, halert, hpush, hidle])

/-- A record that comes is pushed next; its tries start anew where it is another one (09 R356, R361). -/
theorem Head.pushFetched_record (h : Head) (u : UnitInfo) (now : Nat) {d : List Byte} (hd : d.any (· != 0) = true) :
    (h.pushFetched u now okSt d).mb.push = .ready ∧ (h.pushFetched u now okSt d).mb.pushRec = d
      ∧ (h.pushFetched u now okSt d).g u MBUS_PSTAT.TRIES
        = if evIndex (d.drop 8) = evIndex (h.mb.pushRec.drop 8) then h.g u MBUS_PSTAT.TRIES else 0 := by
  unfold Head.pushFetched
  rw [if_pos (by rw [hd]; rfl)]
  refine ⟨rfl, rfl, ?_⟩
  split
  · rfl
  · exact h.g_p (f := MBUS_PSTAT.TRIES) u 0 (by decide)

/-- The response to a fetch ends it. -/
theorem State.segArrives_push {s : State} {o : OutReq} (k : Nat) {d : List Byte} (hd : d.length < 256) (hpush : s.hs.mb.push = .fetching)
    (hout : s.hs.mb.out = some o) (hc : o.cstr = 9) :
    s.segArrives true o.cstr o.lseq k false (mbResponse okSt d) = { s with hs := s.hs.pushFetched s.fs.u s.fs.now okSt d } := by
  have hlen : ((mbResponse okSt d).getD 1 0).toNat = d.length := Nat.mod_eq_of_lt hd
  have hdata : ((mbResponse okSt d).drop 2).take d.length = d := List.take_length
  have houtcome : s.hs.mbOutcome s.fs.u s.fs.now o okSt d = s.hs.pushFetched s.fs.u s.fs.now okSt d := if_pos hc
  unfold State.segArrives
  dsimp only
  rw [if_pos rfl, if_neg (by simp [Head.mbClocked, hpush]), hout]
  dsimp only
  rw [if_pos (by simp), hlen, hdata, ← houtcome]
  rfl

theorem rspMb_fetched {l : Half} {retx : Bool} {o : OutReq} {d : List Byte} {rx : Rx} {s : State}
    (hlane : s.f2h = [.seg true 9 l 0 false retx (mbResponse okSt d)])
    (hgood : (F2H.seg true 9 l 0 false retx (mbResponse okSt d)).heard rx = .good (.seg true 9 l 0 false retx (mbResponse okSt d)))
    (hpow : s.hs.powered = true) (hlen : d.length < 256) (hd : d.any (· != 0) = true) (hout : s.hs.mb.out = some o) (hc : o.cstr = 9)
    (hl : o.lseq = l) (hpush : s.hs.mb.push = .fetching) :
    ∃ h : Head, exec (.rspMb rx) s = .next (State.pump { s with f2h := [], hs := h }) ∧ h.mb.push = .ready ∧ h.mb.pushRec = d
      ∧ h.g s.fs.u MBUS_PSTAT.TRIES
        = if evIndex (d.drop 8) = evIndex (s.hs.mb.pushRec.drop 8) then s.hs.g s.fs.u MBUS_PSTAT.TRIES else 0 := by
  have harrives := State.segArrives_push (s := { s with f2h := [] }) 0 hlen hpush hout hc
  rw [hc, hl] at harrives
  refine ⟨_, (exec_rsp (mb := true) hpow hlane rx).trans ?_, s.hs.pushFetched_record s.fs.u s.fs.now hd⟩
  rw [hgood, State.reacts, harrives]

/-! ## The transaction of a push (09 R357 to R361) -/

section
variable {s : State} (hpush : s.hs.mb.push = .ready) (hidle : s.hs.mb.phase = .idle)
include hpush hidle

/-- The Headstock as a push that drives `sent` leaves its block, before the result counts. -/
def Head.pushed (h : Head) (sent : List Byte) (r : PushResult) : Head :=
  { h with mb := { h.mb with drive := sent, acked := r = PushResult.acked } }

theorem exec_pushTransaction (r : PushResult) :
    let sent := pushSent (s.hs.pushBytes s.fs.u) r
    let t := s.fs.elapse (9 * sent.length * s.hs.pushClock s.fs.u)
    exec (.pushTransaction r) s = .next { s with hs := (s.hs.pushed sent r).pushEnd s.fs.u t.now r, fs := t } :=
  if_neg (by simp [hpush, hidle])

end

section
variable (h : Head) (u : UnitInfo)

theorem Head.word_setWord (a : Nat) (w : Word) : (h.setWord u a w).word u a = w := smGet_smSet_self _ _ _ _

theorem Head.g_setWord_ne (a : Nat) (w : Word) {f : Fd} (hf : f.addr ≠ a) : (h.setWord u a w).g u f = h.g u f :=
  congrArg (fdGet f) (smGet_smSet_ne _ _ _ _ _ hf)

/-- A push acknowledged to its end advances the index and is counted (09 R358). -/
theorem Head.pushEnd_acked (now : Nat) :
    (h.pushEnd u now .acked).mb = { h.mb with push := .idle, pushT := none }
      ∧ (h.pushEnd u now .acked).word u MBUS_PUSH.INDEX.addr = evIndex (h.mb.pushRec.drop 8)
      ∧ (h.pushEnd u now .acked).g u MBUS_PSTAT.TRIES = 0
      ∧ (h.pushEnd u now .acked).g u MBUS_PSTAT.PUSHED = satInc MBUS_PSTAT.PUSHED.width (h.g u MBUS_PSTAT.PUSHED) := by
  let h1 := h.setWord u MBUS_PUSH.INDEX.addr (evIndex (h.mb.pushRec.drop 8))
  let h2 := h1.inc u MBUS_PSTAT.PUSHED
  have hword : (h2.p u MBUS_PSTAT.TRIES 0).word u MBUS_PUSH.INDEX.addr = evIndex (h.mb.pushRec.drop 8) :=
    calc (h2.p u MBUS_PSTAT.TRIES 0).word u MBUS_PUSH.INDEX.addr = h2.word u MBUS_PUSH.INDEX.addr := h2.word_p_ne u _ (by decide)
      _ = h1.word u MBUS_PUSH.INDEX.addr := h1.word_p_ne u _ (by decide)
      _ = evIndex (h.mb.pushRec.drop 8) := h.word_setWord u _ _
  have hpushed : (h2.p u MBUS_PSTAT.TRIES 0).g u MBUS_PSTAT.PUSHED = satInc MBUS_PSTAT.PUSHED.width (h.g u MBUS_PSTAT.PUSHED) :=
    calc (h2.p u MBUS_PSTAT.TRIES 0).g u MBUS_PSTAT.PUSHED = h2.g u MBUS_PSTAT.PUSHED :=
          h2.g_p_apart u _ (by decide) (by decide) rfl (by decide)
      _ = satInc MBUS_PSTAT.PUSHED.width (h1.g u MBUS_PSTAT.PUSHED) := h1.g_inc u (by decide)
      _ = satInc MBUS_PSTAT.PUSHED.width (h.g u MBUS_PSTAT.PUSHED) := by rw [h.g_setWord_ne u _ _ (by decide)]
  exact ⟨rfl, hword, h2.g_p u _ (by decide), hpushed⟩

/-- The wait after a try that does not succeed (09 R360). -/
theorem Head.pushRetry_mb (now : Nat) :
    (h.pushRetry u now).mb = { h.mb with
      push := .backoff, out := none
      pushT := some (now + ((u.serno.toNat % 8 + h.g u MBUS_PSTAT.TRIES + h.g u MBUS_PSTAT.ARB_LOST) % 8 + 1) * 400000) } := rfl

theorem Head.tries_inc : (h.inc u MBUS_PSTAT.TRIES).g u MBUS_PSTAT.TRIES = min 15 (h.g u MBUS_PSTAT.TRIES + 1) := h.g_inc u (by decide)

/-- The eighth refusal in a row stalls (09 R361). -/
theorem Head.pushEnd_stalls (now k : Nat) (ht : 7 ≤ h.g u MBUS_PSTAT.TRIES) :
    (h.pushEnd u now (.nacked k)).mb = { h.mb with push := .idle, pushT := none }
      ∧ (h.pushEnd u now (.nacked k)).g u MBUS_PSTAT.PUSH_STALLED = 1 := by
  have hend : h.pushEnd u now (.nacked k) = ((h.inc u MBUS_PSTAT.TRIES).p u MBUS_PSTAT.PUSH_STALLED 1).pushIdle :=
    if_pos (by rw [h.tries_inc]; omega)
  rw [hend]
  exact ⟨rfl, (h.inc u MBUS_PSTAT.TRIES).g_p u _ (by decide)⟩

/-- An earlier one is tried again (09 R360). -/
theorem Head.pushEnd_nacked (now k : Nat) (ht : h.g u MBUS_PSTAT.TRIES < 7) :
    (h.pushEnd u now (.nacked k)).mb = { h.mb with
        push := .backoff, out := none
        pushT := some (now + ((u.serno.toNat % 8 + (h.g u MBUS_PSTAT.TRIES + 1) + h.g u MBUS_PSTAT.ARB_LOST) % 8 + 1) * 400000) }
      ∧ (h.pushEnd u now (.nacked k)).g u MBUS_PSTAT.TRIES = h.g u MBUS_PSTAT.TRIES + 1
      ∧ (h.pushEnd u now (.nacked k)).g u MBUS_PSTAT.PUSH_STALLED = h.g u MBUS_PSTAT.PUSH_STALLED := by
  have htries : (h.inc u MBUS_PSTAT.TRIES).g u MBUS_PSTAT.TRIES = h.g u MBUS_PSTAT.TRIES + 1 := by
    rw [h.tries_inc]
    omega
  have hlost : (h.inc u MBUS_PSTAT.TRIES).g u MBUS_PSTAT.ARB_LOST = h.g u MBUS_PSTAT.ARB_LOST :=
    h.g_p_apart u _ (by decide) (by decide) rfl (by decide)
  have hend : h.pushEnd u now (.nacked k) = (h.inc u MBUS_PSTAT.TRIES).pushRetry u now := if_neg (by rw [htries]; omega)
  rw [hend, Head.pushRetry_mb, htries, hlost]
  exact ⟨rfl, htries, h.g_p_apart u _ (by decide) (by decide) rfl (by decide)⟩

/-- A lost arbitration is counted, and is no failed try (09 R359, R360). -/
theorem Head.pushEnd_arbLost (now : Nat) (b : Bool) (k : Nat) :
    (h.pushEnd u now (.arbLost b k)).mb.push = .backoff
      ∧ (h.pushEnd u now (.arbLost b k)).mb.drive = h.mb.drive
      ∧ (h.pushEnd u now (.arbLost b k)).g u MBUS_PSTAT.TRIES = h.g u MBUS_PSTAT.TRIES
      ∧ (h.pushEnd u now (.arbLost b k)).g u MBUS_PSTAT.ARB_LOST = satInc MBUS_PSTAT.ARB_LOST.width (h.g u MBUS_PSTAT.ARB_LOST) :=
  ⟨rfl, rfl, h.g_p_apart u _ (by decide) (by decide) rfl (by decide), h.g_inc u (by decide)⟩

end

/-! ## O52 -/

/-- Settles O52: the fetch with the response that ends it, the transaction by its result, and the two waits. -/
theorem busPushes : Obligations.BusPushes := by
  refine ⟨fun s hpow hen htarget hstall hready halert hpush hidle =>
      pushStart_fetches hpow hen htarget hstall hready halert hpush hidle,
    fun l retx o d rx s hlane hgood hpow hlen hd hout hc hl hpush => rspMb_fetched hlane hgood hpow hlen hd hout hc hl hpush,
    fun s hpush hidle => ⟨?_, fun k ht => ?_, fun k ht => ?_, fun b k => ?_⟩,
    fun s => ⟨fun hpush => congrArg Host.Outcome.next (if_pos hpush), fun hpush => congrArg Host.Outcome.next (if_pos hpush)⟩⟩
  · exact ⟨_, exec_pushTransaction hpush hidle .acked, Head.pushEnd_acked ..⟩
  · exact ⟨_, exec_pushTransaction hpush hidle (.nacked k), Head.pushEnd_stalls (s.hs.pushed _ _) _ _ k ht⟩
  · exact ⟨_, exec_pushTransaction hpush hidle (.nacked k), Head.pushEnd_nacked (s.hs.pushed _ _) _ _ k ht⟩
  · exact ⟨_, exec_pushTransaction hpush hidle (.arbLost b k), Head.pushEnd_arbLost ..⟩

end Sys2Proof.Machine
end

section
/-! Register writes, clears and requests for a power state take no store sequence number (06 R219): they are part of the commit that they
stand in. One equation per operation. -/

namespace Sys2Proof.Machine

/-! ## Changes of one kind -/

section
variable (t : Tail)

@[simp] theorem Tail.ite_ssn {c : Prop} [Decidable c] (a b : Tail) : (if c then a else b).ssn = if c then a.ssn else b.ssn := apply_ite ..

theorem Tail.foldl_ssn {β : Type} {f : Tail → β → Tail} (h : ∀ t b, (f t b).ssn = t.ssn) (l : List β) : (l.foldl f t).ssn = t.ssn :=
  List.foldlRecOn (motive := fun r : Tail => r.ssn = t.ssn) l f rfl fun r hr b _ => (h r b).trans hr

@[simp] theorem Tail.evt_ssn (p i : Nat) : (t.evt p i).ssn = t.ssn := t.evtV_ssn p i none
@[simp] theorem Tail.pb_ssn (f : Fd) (x : Bool) : (t.pb f x).ssn = t.ssn := rfl
@[simp] theorem Tail.inc_ssn (f : Fd) : (t.inc f).ssn = t.ssn := rfl
@[simp] theorem Tail.sqMap_ssn (n : Stn) (g : Sq → Sq) : (t.sqMap n g).ssn = t.ssn := rfl
@[simp] theorem Tail.fbMap_ssn (n : Stn) (g : Fb → Fb) : (t.fbMap n g).ssn = t.ssn := rfl
@[simp] theorem Tail.isnsMap_ssn (n : Stn) (g : Isns → Isns) : (t.isnsMap n g).ssn = t.ssn := rfl
@[simp] theorem Tail.banksMap_ssn (n : Stn) (g : Banks → Banks) : (t.banksMap n g).ssn = t.ssn := rfl
@[simp] theorem Tail.setpMap_ssn (n : Stn) (g : SetPt → SetPt) : (t.setpMap n g).ssn = t.ssn := rfl
@[simp] theorem Tail.shareMap_ssn (n : Stn) (g : Share → Share) : (t.shareMap n g).ssn = t.ssn := rfl
@[simp] theorem Tail.moduMap_ssn (n : Stn) (g : Modu → Modu) : (t.moduMap n g).ssn = t.ssn := rfl
@[simp] theorem Tail.protMap_ssn (n : Stn) (g : Prot → Prot) : (t.protMap n g).ssn = t.ssn := rfl
@[simp] theorem Tail.grpMap_ssn (g : Fin 2) (f : Grp → Grp) : (t.grpMap g f).ssn = t.ssn := rfl
@[simp] theorem Tail.aonMap_ssn (f : Aon → Aon) : (t.aonMap f).ssn = t.ssn := rfl
@[simp] theorem Tail.fwMap_ssn (f : Fw → Fw) : (t.fwMap f).ssn = t.ssn := rfl
@[simp] theorem Tail.slotMap_ssn (i : Fin 2) (f : Slot → Slot) : (t.slotMap i f).ssn = t.ssn := rfl
@[simp] theorem Tail.sstMap_ssn (k : Nat) (f : StreamSt → StreamSt) : (t.sstMap k f).ssn = t.ssn := rfl
@[simp] theorem Tail.setUnit_ssn (us : UnitSt) : (t.setUnit us).ssn = t.ssn := (t.keepsSsn_setUnit us).ssn

/-! ## The store and its records -/

@[simp] theorem Tail.sysWrites_ssn (x n : Nat) : (t.sysWrites x n).ssn = t.ssn := ((Tail.recordKeeps_ssn t).sysWrites x n (.refl t)).ssn
@[simp] theorem Tail.regReads_ssn (as : List Nat) : (t.regReads as).ssn = t.ssn := (t.keepsSsn_regReads as).ssn
@[simp] theorem Tail.regWrites_ssn (as : List Nat) : (t.regWrites as).ssn = t.ssn := t.foldl_ssn (fun t x => t.sysWrites_ssn x 1) _
@[simp] theorem Tail.wmUpdate_ssn (k : Nat) : (t.wmUpdate k).ssn = t.ssn := ((Tail.recordKeeps_ssn t).wmUpdate k (.refl t)).ssn

theorem Tail.record_ssn (w : Producer) {k : Nat} (hk : k < 256) (kind : Nat) (v : Bool) (d : List Byte) :
    (t.record w k kind v d).ssn = t.ssn := ((Tail.recordKeeps_ssn t).record w hk kind v d (.refl t)).ssn

@[simp] theorem Tail.audit_ssn (e l : Nat) (fr : FrameRef) (sid : Word) (a : Nat) (v : Word) : (t.audit e l fr sid a v).ssn = t.ssn :=
  t.record_ssn .sqc (by decide) 9 true _
@[simp] theorem Tail.auditFw_ssn (step : Nat) (i : Fin 2) (fr : FrameRef) : (t.auditFw step i fr).ssn = t.ssn := t.audit_ssn ..
@[simp] theorem Tail.auditSec_ssn (e l : Nat) (fr : FrameRef) (sid : Word) (a : Nat) : (t.auditSec e l fr sid a).ssn = t.ssn := t.audit_ssn ..

@[simp] theorem Tail.streamClear_ssn (k : Nat) : (t.streamClear k).ssn = t.ssn := t.sysWrites_ssn (descX k) 2

/-! ## The words of a frame (05 R162, 03 R102, R112) -/

@[simp] theorem Tail.lateAdd_ssn (a : Nat) (w : Word) : (t.lateAdd a w).ssn = t.ssn := by
  unfold Tail.lateAdd
  split <;> rfl
@[simp] theorem Tail.ceNote_ssn (a : Nat) : (t.ceNote a).ssn = t.ssn := by
  unfold Tail.ceNote
  split <;> rfl
@[simp] theorem Tail.cfgWrite_ssn (a : Nat) (w : Word) : (t.cfgWrite a w).ssn = t.ssn :=
  ((t.lateAdd a (t.word a)).ceNote_ssn a).trans (t.lateAdd_ssn a _)
@[simp] theorem Tail.xferDone_ssn (p : Nat) : (t.xferDone p).ssn = t.ssn := by
  unfold Tail.xferDone
  dsimp only
  split <;> rfl
@[simp] theorem Tail.xferBegin_ssn (p : Nat) : (t.xferBegin p).ssn = t.ssn := by
  unfold Tail.xferBegin
  split
  · rfl
  · exact (Tail.foldl_ssn _ (fun t (e : Nat × Word) => t.lateAdd_ssn e.1 e.2) _).trans (t.xferDone_ssn p)
@[simp] theorem Tail.writeWords_ssn (w : Wr) : (t.writeWords w).ssn = t.ssn := by
  unfold Tail.writeWords
  extract_lets as t1 keep new t2 t3
  have h2 : t2.ssn = t.ssn := by simp [t2, t1]
  refine (Tail.foldl_ssn _ (fun t e => ?_) new).trans ((t3.regWrites_ssn as).trans h2)
  split
  · rfl
  · simp
@[simp] theorem Tail.strdApply_ssn (w : Wr) : (t.strdApply w).ssn = t.ssn := by
  unfold Tail.strdApply
  extract_lets old t1
  have h1 : t1.ssn = t.ssn := by
    unfold t1
    split
    · exact Tail.foldl_ssn t (fun t k => by simp) _
    · rfl
  refine (Tail.foldl_ssn _ (fun t k => ?_) _).trans h1
  simp [Tail.ite_ssn, Tail.emptyRing]

/-! ## Stations (10, 17, 18) -/

@[simp] theorem Tail.setSt_ssn (n : Stn) (st : StnSt) : (t.setSt n st).ssn = t.ssn := by
  unfold Tail.setSt
  split <;> rfl
@[simp] theorem Tail.swapTo_ssn (n : Stn) (cur so : Option Bool) (src bit : Nat) : (t.swapTo n cur so src bit).ssn = t.ssn := by
  unfold Tail.swapTo
  dsimp only
  split
  · rfl
  · simp
@[simp] theorem Tail.swapHost_ssn (n : Stn) : (t.swapHost n).ssn = t.ssn := by
  unfold Tail.swapHost
  split
  · rfl
  · simp
@[simp] theorem Tail.banksIdle_ssn (n : Stn) : (t.banksIdle n).ssn = t.ssn := Tail.swapHost_ssn _ n
@[simp] theorem Tail.gateStep_ssn (n : Stn) : (t.gateStep n).ssn = t.ssn := rfl
@[simp] theorem Tail.blockGates_ssn (n : Stn) : (t.blockGates n).ssn = t.ssn := rfl
@[simp] theorem Tail.gateUpdate_ssn (n : Stn) : (t.gateUpdate n).ssn = t.ssn := by simp [Tail.gateUpdate]
@[simp] theorem Tail.endBlocks_ssn (n : Stn) : (t.endBlocks n).ssn = t.ssn := by simp [Tail.endBlocks]
@[simp] theorem Tail.renderStop_ssn (n : Stn) : (t.renderStop n).ssn = t.ssn := by simp [Tail.renderStop]
@[simp] theorem Tail.leaveRunning_ssn (n : Stn) (st : StnSt) : (t.leaveRunning n st).ssn = t.ssn := by
  simp [Tail.leaveRunning]
@[simp] theorem Tail.enterFaulted_ssn (n : Stn) (c : Nat) : (t.enterFaulted n c).ssn = t.ssn := by
  simp [Tail.enterFaulted]
@[simp] theorem Tail.calBegin_ssn (n : Stn) (why : CalFor) : (t.calBegin n why).ssn = t.ssn := rfl
@[simp] theorem Tail.calAbandon_ssn (n : Stn) : (t.calAbandon n).ssn = t.ssn := by
  unfold Tail.calAbandon
  split <;> rfl
@[simp] theorem Tail.enterDisabled_ssn (n : Stn) : (t.enterDisabled n).ssn = t.ssn := by simp [Tail.enterDisabled]
@[simp] theorem Tail.brakeConfirm_ssn (n : Stn) : (t.brakeConfirm n).ssn = t.ssn := by
  unfold Tail.brakeConfirm
  split
  · rfl
  · split <;> rfl
@[simp] theorem Tail.closeBrake_ssn (n : Stn) : (t.closeBrake n).ssn = t.ssn := by simp [Tail.closeBrake]
@[simp] theorem Tail.stopLimits_ssn (n : Stn) (r : StopRamp) : (t.stopLimits n r).ssn = t.ssn := by simp [Tail.stopLimits]
@[simp] theorem Tail.stopBegin_ssn (n : Stn) (r : StopReq) (st : StnSt) : (t.stopBegin n r st).ssn = t.ssn := by
  simp [Tail.stopBegin]
@[simp] theorem Tail.stopJoin_ssn (n : Stn) (o r : StopReq) (st : StnSt) : (t.stopJoin n o r st).ssn = t.ssn := by
  simp [Tail.stopJoin]
@[simp] theorem Tail.takeStop_ssn (n : Stn) (r : StopReq) : (t.takeStop n r).ssn = t.ssn := by
  unfold Tail.takeStop
  dsimp only
  repeat' split
  all_goals simp
@[simp] theorem Tail.endAsc_ssn (n : Stn) : (t.endAsc n).ssn = t.ssn := by simp [Tail.endAsc]
@[simp] theorem Tail.beginAsc_ssn (n : Stn) : (t.beginAsc n).ssn = t.ssn := rfl
@[simp] theorem Tail.protFault_ssn (n : Stn) (hw asc : Bool) : (t.protFault n hw asc).ssn = t.ssn := by
  simp [Tail.protFault]
@[simp] theorem Tail.assertSource_ssn (n : Stn) (src : Nat) : (t.assertSource n src).ssn = t.ssn := by
  simp [Tail.assertSource]
@[simp] theorem Tail.dropSource_ssn (n : Stn) (src : Nat) : (t.dropSource n src).ssn = t.ssn := by simp [Tail.dropSource]
@[simp] theorem Tail.setSource_ssn (n : Stn) (src : Nat) (on : Bool) : (t.setSource n src on).ssn = t.ssn := by
  simp [Tail.setSource]

/-! ## The diagnostic sequence (19) -/

@[simp] theorem Tail.diagPut_ssn (s r : Nat) : (t.diagPut s r).ssn = t.ssn := by simp [Tail.diagPut]
@[simp] theorem Tail.diagReturn_ssn (n : Stn) : (t.diagReturn n).ssn = t.ssn := by simp [Tail.diagReturn]
@[simp] theorem Tail.diagAbort_ssn : t.diagAbort.ssn = t.ssn := by simp [Tail.diagAbort]
@[simp] theorem Tail.cmpOc_ssn (n : Stn) (ks : List (Fin 3)) (o : Fin 3 → List Int) : (t.cmpOc n ks o).ssn = t.ssn := by simp [Tail.cmpOc]
@[simp] theorem Tail.cmpOv_ssn (n : Stn) (o : List Int) : (t.cmpOv n o).ssn = t.ssn := by simp [Tail.cmpOv]
@[simp] theorem Tail.cmpUv_ssn (n : Stn) (o : List Int) : (t.cmpUv n o).ssn = t.ssn := by simp [Tail.cmpUv]
@[simp] theorem Tail.cmpGf_ssn (n : Stn) (o : List Int) : (t.cmpGf n o).ssn = t.ssn := by simp [Tail.cmpGf]
@[simp] theorem Tail.cmpOspd_ssn (n : Stn) : (t.cmpOspd n).ssn = t.ssn := t.setSource_ssn n 6 _
@[simp] theorem Tail.diagReal_ssn (n : Stn) (s : Nat) : (t.diagReal n s).ssn = t.ssn := by simp [Tail.diagReal]
@[simp] theorem Tail.diagEnd_ssn : t.diagEnd.ssn = t.ssn := by simp [Tail.diagEnd]
@[simp] theorem Tail.diagYield_ssn (n : Stn) : (t.diagYield n).ssn = t.ssn := by simp [Tail.diagYield]
@[simp] theorem Tail.diagDone_ssn (n : Stn) : (t.diagDone n).ssn = t.ssn := by simp [Tail.diagDone]
@[simp] theorem Tail.diagNext_ssn (n : Stn) (d fuel : Nat) : ∀ (t : Tail) (s : Nat), (t.diagNext n d fuel s).ssn = t.ssn := by
  induction fuel with
  | zero => exact fun t _ => t.diagDone_ssn n
  | succ fuel ih =>
    intro t s
    unfold Tail.diagNext
    split
    · exact ih t _
    · dsimp only
      split
      · simp [ih]
      · rfl
@[simp] theorem Tail.dwellBegin_ssn (ms : Nat) : (t.dwellBegin ms).ssn = t.ssn := by simp [Tail.dwellBegin]
@[simp] theorem Tail.diagRun_ssn (n : Stn) : (t.diagRun n).ssn = t.ssn := by
  unfold Tail.diagRun
  dsimp only
  split
  · simp
  · simp [Tail.diagBegin]

/-! ## The DC links (10 R386 to R398) -/

@[simp] theorem Tail.grpFail_ssn (g : Fin 2) (cause : Nat) : (t.grpFail g cause).ssn = t.ssn := by simp [Tail.grpFail]
@[simp] theorem Tail.grpLost_ssn (g : Fin 2) : (t.grpLost g).ssn = t.ssn :=
  (Tail.foldl_ssn _ (fun t n => t.assertSource_ssn n 5) _).trans (t.grpFail_ssn g 7)
@[simp] theorem Tail.auxLatch_ssn (f : Nat) : (t.auxLatch f).ssn = t.ssn := by
  unfold Tail.auxLatch
  split <;> simp
@[simp] theorem Tail.grpAuxStep_ssn (g : Fin 2) : (t.grpAuxStep g).ssn = t.ssn := by
  unfold Tail.grpAuxStep
  split <;> simp
@[simp] theorem Tail.grpAux_ssn (g : Fin 2) : (t.grpAux g).ssn = t.ssn := by simp [Tail.grpAux]
@[simp] theorem Tail.grpExt_ssn (g : Fin 2) : (t.grpExt g).ssn = t.ssn := by simp [Tail.grpExt]
@[simp] theorem Tail.grpReset_ssn (g : Fin 2) : (t.grpReset g).ssn = t.ssn := by simp [Tail.grpReset]
@[simp] theorem Tail.grpInputs_ssn : t.grpInputs.ssn = t.ssn := t.foldl_ssn (fun t g => by simp) _
@[simp] theorem Tail.inputsChanged_ssn : t.inputsChanged.ssn = t.ssn :=
  (Tail.foldl_ssn _ (fun t n => t.brakeConfirm_ssn n) _).trans t.grpInputs_ssn
@[simp] theorem Tail.grpClose_ssn (g : Fin 2) : (t.grpClose g).ssn = t.ssn := by simp [Tail.grpClose]
@[simp] theorem Tail.grpBegin_ssn (g : Fin 2) : (t.grpBegin g).ssn = t.ssn := by
  unfold Tail.grpBegin
  split <;> simp
@[simp] theorem Tail.charge1_ssn (g : Fin 2) : (t.charge1 g).ssn = t.ssn := by simp [Tail.charge1]
@[simp] theorem Tail.discharge1_ssn (g : Fin 2) : (t.discharge1 g).ssn = t.ssn := by simp [Tail.discharge1]

/-! ## What the written registers start, page by page (05) -/

variable (w : Wr) (fr : FrameRef) (n : Stn)

@[simp] theorem Tail.hookBlnk_ssn : (t.hookBlnk w).ssn = t.ssn := by simp [Tail.hookBlnk]
@[simp] theorem Tail.unstableClr_ssn : t.unstableClr.ssn = t.ssn := by simp [Tail.unstableClr, Tail.dwellOrB]
@[simp] theorem Tail.pwrReq_ssn (r : PwrReq) : (t.pwrReq r).ssn = t.ssn := by simp [Tail.pwrReq]
@[simp] theorem Tail.hookPwr_ssn : (t.hookPwr w).ssn = t.ssn := by simp [Tail.hookPwr]
@[simp] theorem Tail.scmdApply_ssn (op k : Nat) : (t.scmdApply op k).ssn = t.ssn := by simp [Tail.scmdApply]
@[simp] theorem Tail.injApply_ssn (x : Word) : (t.injApply x).ssn = t.ssn := by simp [Tail.injApply]
@[simp] theorem Tail.progKey_ssn : (t.progKey fr).ssn = t.ssn := by simp [Tail.progKey, Tail.keyZero, Tail.draw]
@[simp] theorem Tail.progCs_ssn : (t.progCs fr).ssn = t.ssn := by simp [Tail.progCs, Tail.keyZero]
@[simp] theorem Tail.secApply_ssn : (t.secApply w fr).ssn = t.ssn := by
  unfold Tail.secApply
  dsimp only
  split
  · simp
  · split <;> simp
@[simp] theorem Tail.fwBegin_ssn : (t.fwBegin fr).ssn = t.ssn := by simp [Tail.fwBegin]
@[simp] theorem Tail.fwCommit_ssn : t.fwCommit.ssn = t.ssn := by simp [Tail.fwCommit]
@[simp] theorem Tail.fwConfirm_ssn : (t.fwConfirm fr).ssn = t.ssn := by simp [Tail.fwConfirm]
@[simp] theorem Tail.fwCancel_ssn : (t.fwCancel fr).ssn = t.ssn := by simp [Tail.fwCancel]
@[simp] theorem Tail.fwApply_ssn : (t.fwApply w fr).ssn = t.ssn := by simp [Tail.fwApply]
@[simp] theorem Tail.stopReq_ssn (r : StopReq) : (t.stopReq n r).ssn = t.ssn := rfl
@[simp] theorem Tail.armCmd_ssn : t.armCmd.ssn = t.ssn := by simp [Tail.armCmd]
@[simp] theorem Tail.disarmCmd_ssn : t.disarmCmd.ssn = t.ssn := by
  unfold Tail.disarmCmd
  split
  · simp
  · exact (Tail.foldl_ssn _ (fun t n => by simp) _).trans (t.setUnit_ssn _)
  · rfl
@[simp] theorem Tail.hookSeq_ssn : (t.hookSeq w).ssn = t.ssn := by simp [Tail.hookSeq]
@[simp] theorem Tail.hookPchg_ssn (old : Tail) : (t.hookPchg old w).ssn = t.ssn := by
  unfold Tail.hookPchg
  extract_lets t1 t2
  have h1 : t1.ssn = t.ssn := t.foldl_ssn (fun t g => by simp) _
  have h2 : t2.ssn = t1.ssn := t1.foldl_ssn (fun t g => by simp) _
  split
  · exact h1
  · exact (t2.foldl_ssn (fun t g => by simp) _).trans (h2.trans h1)
@[simp] theorem Tail.emgStop_ssn (x : Word) : (t.emgStop x).ssn = t.ssn := by
  unfold Tail.emgStop
  dsimp only
  split
  · exact t.foldl_ssn (fun t n => by simp) _
  · rfl
@[simp] theorem Tail.releaseCmd_ssn (m : Nat) : (t.releaseCmd m).ssn = t.ssn := t.foldl_ssn (fun t n => by simp) _
@[simp] theorem Tail.hookEmg_ssn : (t.hookEmg w).ssn = t.ssn := by simp [Tail.hookEmg]
@[simp] theorem Tail.hookDiag_ssn : (t.hookDiag w).ssn = t.ssn := by simp [Tail.hookDiag]
@[simp] theorem Tail.hkReset_ssn : t.hkReset.ssn = t.ssn := rfl
@[simp] theorem Tail.hookHk_ssn : (t.hookHk w).ssn = t.ssn := by simp [Tail.hookHk, Tail.odApply]
@[simp] theorem Tail.hwLevels_ssn : t.hwLevels.ssn = t.ssn := rfl
@[simp] theorem Tail.resume_ssn (mask : Nat) : (t.resume mask).ssn = t.ssn := t.foldl_ssn (fun t m => by simp) _
@[simp] theorem Tail.ainStop_ssn : t.ainStop.ssn = t.ssn := t.foldl_ssn (fun t k => by simp) _
@[simp] theorem Tail.orbIsolated_ssn : t.orbIsolated.ssn = t.ssn := by
  unfold Tail.orbIsolated
  extract_lets iso t1
  split
  · rfl
  · refine t1.foldl_ssn (fun t n => ?_) _
    split <;> simp
@[simp] theorem Tail.trigger_ssn (c st nd v : Nat) (q : Word) : (t.trigger c st nd v q).ssn = t.ssn := by simp [Tail.trigger]
@[simp] theorem Tail.hookTrc_ssn : (t.hookTrc w).ssn = t.ssn := by simp [Tail.hookTrc, Tail.trcArm, Tail.trcForce, Tail.trcDisarm]
@[simp] theorem Tail.hookUnit_ssn (old : Tail) : (t.hookUnit old w fr).ssn = t.ssn := by
  unfold Tail.hookUnit
  split <;> simp

/-! ## What they start at a station -/

@[simp] theorem Tail.startCmd_ssn : (t.startCmd n).ssn = t.ssn := by simp [Tail.startCmd, Tail.startRefused]
@[simp] theorem Tail.hookStn_ssn : (t.hookStn w n).ssn = t.ssn := by simp [Tail.hookStn]
@[simp] theorem Tail.fbStatus_ssn : (t.fbStatus n).ssn = t.ssn := by simp [Tail.fbStatus]
@[simp] theorem Tail.hookFbp_ssn : (t.hookFbp w n).ssn = t.ssn := by simp [Tail.hookFbp]
@[simp] theorem Tail.hookFba_ssn : (t.hookFba w n).ssn = t.ssn := by simp [Tail.hookFba]
@[simp] theorem Tail.lcmpOff_ssn : (t.lcmpOff n).ssn = t.ssn := rfl
@[simp] theorem Tail.cmpOut_ssn (on : Bool) : (t.cmpOut n on).ssn = t.ssn := rfl
@[simp] theorem Tail.hookLcmp_ssn : (t.hookLcmp w n).ssn = t.ssn := by simp [Tail.hookLcmp]
@[simp] theorem Tail.isnsStart_ssn : (t.isnsStart n).ssn = t.ssn := rfl
@[simp] theorem Tail.calCmd_ssn : (t.calCmd n).ssn = t.ssn := rfl
@[simp] theorem Tail.hookIsns_ssn (old : Tail) : (t.hookIsns old w n).ssn = t.ssn := by simp [Tail.hookIsns]
@[simp] theorem Tail.bnkaSwap_ssn (x : Word) : (t.bnkaSwap n x).ssn = t.ssn := by simp [Tail.bnkaSwap]
@[simp] theorem Tail.bankCopy_ssn : (t.bankCopy n).ssn = t.ssn :=
  t.foldl_ssn (f := fun t (e : Nat × Nat) => t.setWord e.2 (t.word e.1)) (fun _ _ => rfl) (bankPairs n)
@[simp] theorem Tail.hookBnka_ssn : (t.hookBnka w n).ssn = t.ssn := by simp [Tail.hookBnka]
@[simp] theorem Tail.hookStrc_ssn (old : Tail) : (t.hookStrc old w n).ssn = t.ssn := t.foldl_ssn (fun t k => by simp) _
@[simp] theorem Tail.hookStation_ssn (old : Tail) (b : Nat) : (t.hookStation old w n b).ssn = t.ssn := by
  unfold Tail.hookStation
  split <;> simp

/-! ## Writes and clears whole -/

/-- The writes of an accepted frame take no store sequence number beside that of their commit. -/
@[simp] theorem Tail.writeApply_ssn : (t.writeApply w fr).ssn = t.ssn := by
  unfold Tail.writeApply
  extract_lets old t1 t2
  have h1 : t1.ssn = t.ssn := by simp [t1, old]
  have h2 : t2.ssn = t1.ssn := by
    unfold t2
    split
    · exact (Tail.foldl_ssn _ (fun t k => t.wmUpdate_ssn k) _).trans (t1.strdApply_ssn w)
    · rfl
  split
  · rfl
  · simp [h2, h1]

@[simp] theorem Tail.faultClear_ssn (mask : Nat) : (t.faultClear n mask).ssn = t.ssn := by simp [Tail.faultClear]
@[simp] theorem Tail.faultClearAll_ssn (mask : Nat) : (t.faultClearAll mask).ssn = t.ssn := by
  unfold Tail.faultClearAll
  extract_lets t1 t2
  have h1 : t1.ssn = t.ssn := by simp [t1]
  have h2 : t2.ssn = t1.ssn := t1.foldl_ssn (fun t n => t.faultClear_ssn n mask) _
  simp [h2, h1]

end

end Sys2Proof.Machine
end

section
/-! Bus transactions that the field side serves whole (09 R323 to R329, R335): the commit of the command, its response, and the
transaction at the Headstock. -/

namespace Sys2Proof.Machine

/-! ## The commit of a bus command (09 R335, 02 R62) -/

/-- A part of the field side that latches, states, stations, the Eclipse detector and the session's clock leave alone, host activity
leaves alone (22 R773). -/
theorem Tail.hostActivity_view {α : Type} (v : Tail → α) (hlatch : ∀ (t : Tail) (p i : Nat) (w : Option Word), v (t.evtV p i w) = v t)
    (hunit : ∀ (t : Tail) (us : UnitSt), v (t.setUnit us) = v t) (hemg : ∀ (t : Tail) (e : Emg), v { t with emg := e } = v t)
    (hsec : ∀ (t : Tail) (x : Sec), v { t with sec := x } = v t) (hstn : ∀ (t : Tail) (n : Stn) (g : Station → Station), v (t.stnMap n g) = v t)
    (t : Tail) : v t.hostActivity = v t := by
  unfold Tail.hostActivity
  extract_lets _ _ _ t1 t2 _ _ t3
  have h1 : v t1 = v t := (hsec { t with emg := t1.emg } t1.sec).trans (hemg t t1.emg)
  have h2 : v t2 = v t := (hlatch t1 _ _ _).trans h1
  have h3 : v t3 = v t := by
    unfold t3
    split
    · exact (hemg _ _).trans ((hunit t2 _).trans h2)
    · exact h2
  split
  · exact h1
  · split
    · refine List.foldlRecOn (motive := fun r : Tail => v r = v t) _ _ h3 fun r hr n _ => ?_
      split
      · exact (hstn _ _ _).trans hr
      · exact hr
    · exact h3

theorem Tail.recordKeeps_aon (o : Tail) : Tail.RecordKeeps (fun t => t.aon = o.aon) where
  store _ _ h := h
  latch t p i v h := (t.evtV_aon p i v).trans h
  count _ _ _ _ h := h
  desc _ _ _ h := h

theorem Tail.setUnit_aon (t : Tail) (us : UnitSt) : (t.setUnit us).aon = t.aon := by
  unfold Tail.setUnit
  split
  · rfl
  · rfl

theorem Tail.hostActivity_aon (t : Tail) : t.hostActivity.aon = t.aon :=
  Tail.hostActivity_view Tail.aon Tail.evtV_aon Tail.setUnit_aon (fun _ _ => rfl) (fun _ _ => rfl) (fun _ _ _ => rfl) t

theorem Tail.countGap_aon (t : Tail) (c : Fin 16) (l : Half) : (t.countGap c l).aon = t.aon := by
  unfold Tail.countGap
  split
  · split
    · rfl
    · exact Tail.evtV_aon _ _ _ _
  · rfl

section
variable (s : State) (c : MbCmd) (d : List Byte)

theorem State.begunBus_u : (s.begunBus c d).u = s.fs.u :=
  (((Tail.recordKeeps_ssn _).record .sqc (by decide) 3 true _ (Tail.keepsSsn_hostActivity _)).u).trans
    (s.fs.keepsSsn_acceptReq 8 (s.hs.lseq[8] + 1)).u

/-- The commit of a bus command has the next store sequence number. -/
theorem State.begunBus_ssn : (s.begunBus c d).ssn = s.fs.ssn + 1 :=
  (((Tail.recordKeeps_ssn _).record .sqc (by decide) 3 true _ (Tail.keepsSsn_hostActivity _)).ssn).trans
    (congrArg (· + 1) (s.fs.keepsSsn_acceptReq 8 (s.hs.lseq[8] + 1)).ssn)

theorem State.begunBus_fw : (s.begunBus c d).fw = s.fs.fw :=
  (Tail.recordKeeps_fw s.fs).record .sqc (by decide) 3 true _ ((Tail.hostActivity_fw _).trans (s.fs.acceptReq_fw _ _))

theorem State.begunBus_aon : (s.begunBus c d).aon = s.fs.aon :=
  (Tail.recordKeeps_aon s.fs).record .sqc (by decide) 3 true _ ((Tail.hostActivity_aon _).trans (s.fs.countGap_aon _ _))

end

/-! ## The response of the bus (02 R55, 09 R329) -/

section
variable {st : Nat} {data : List Byte}

theorem mbResponse_status (h : st < 256) : ((mbResponse st data).getD 0 0).toNat = st := Nat.mod_eq_of_lt h

theorem mbResponse_data (h : data.length < 256) :
    ((mbResponse st data).drop 2).take ((mbResponse st data).getD 1 0).toNat = data := by
  have hlen : ((mbResponse st data).getD 1 0).toNat = data.length := Nat.mod_eq_of_lt h
  rw [hlen]
  exact List.take_length

/-- A bus request that the field side has not accepted yet is executed, and its response is kept (02 R62, R70). -/
theorem Tail.answerMb_new {t : Tail} {k : Nat} {q : Half} (c : MbCmd) (d : List Byte) (hnew : t.link.lastLseq[Fin.ofNat 16 k] ≠ some q) :
    t.answerMb k q (mbCode c) d .execute =
      (let r := (t.acceptReq (Fin.ofNat 16 k) q).runMb k c d
       (some (mbResponse r.status r.data), r.t.keepRsp (Fin.ofNat 16 k) ⟨true, q, 0, 0, r.status, r.snap, r.data⟩)) := by
  unfold Tail.answerMb
  dsimp only
  rw [Tail.takeReq_new t _ q _ hnew, if_neg (by decide), mbOf_mbCode]

/-- The response to a bus command: its operation answers `a` in the commit, and the RSP record follows (06 R206, R219). -/
theorem State.begunBus_runMb (s : State) (c : MbCmd) (d : List Byte) {a : Ans} (ha : (s.begunBus c d).runMbOp c d = a) :
    (s.fs.acceptReq 8 (s.hs.lseq[8] + 1)).runMb 8 c d =
      ⟨a.status, a.t.ssn, a.data,
        (a.t.seal.finish.commitOn 8 (fun r => r.record .sqc 8 4 true (mbResponse a.status a.data))).logAll⟩ := by
  subst ha
  rfl

end

/-! ## The transaction (09 R328, R329, R334) -/

/-- The field side has answered a command carried out at once with the body `b` and has become `t`. -/
theorem State.mbAtOnce_eq {s : State} {x : MbTxn} {c : MbCmd} {d : List Byte} {q : Half} {b : List Byte} {t : Tail}
    (hserves : s.fs.serves = true) (hargs : s.hs.mbArgs s.fs.u c x = d) (hq : (s.hs.nextLseq 8).1 = q)
    (hanswer : s.fs.answerMb 8 q (mbCode c) d .execute = (some b, t)) :
    s.mbAtOnce x c =
      (let m : H2F := .reqMb 8 q (mbCode c) d .execute
       let r := ({ t with link := t.link.carried t.now m.count (rspSymbols b.length) } : Tail).noteSent 8 q b
       let h := (s.hs.nextLseq 8).2.mbSent s.fs.u s.fs.now x (s.hs.nextLseq 8).1
       if mbWaits x then { s with fs := r, hs := h.mbDone s.fs.u (b.getD 0 0).toNat ((b.drop 2).take (b.getD 1 0).toNat) }
       else { s with fs := r, hs := h, rxBuf := s.rxBuf ++ [⟨true, 8, q, .body b⟩] }) := by
  subst hargs
  unfold State.mbAtOnce
  rw [if_pos hserves]
  generalize s.hs.nextLseq 8 = p at hq ⊢
  obtain ⟨_, h⟩ := p
  subst hq
  dsimp only
  rw [hanswer]
  rfl

section
variable {s : State} {x : MbTxn} {c : MbCmd} {d : List Byte} {a : Ans} (h : s.ServesBus)
include h

/-- What `State.mbAtOnce` sends and hears: the field side answers with `a` in its commit. -/
theorem State.ServesBus.answerMb (hrun : (s.begunBus c d).runMbOp c d = a) (hssn : a.t.ssn = s.fs.ssn + 1) :
    let q := s.hs.lseq[8] + 1
    s.fs.answerMb 8 q (mbCode c) d .execute = (some (mbResponse a.status a.data),
      ((a.t.seal.finish.commitOn 8 (fun r => r.record .sqc 8 4 true (mbResponse a.status a.data))).logAll).keepRsp 8
        ⟨true, q, 0, 0, a.status, s.fs.ssn + 1, a.data⟩) := by
  obtain ⟨-, -, -, -, hnew⟩ := h
  intro q
  have hanswer := Tail.answerMb_new (k := 8) c d hnew
  rw [show Fin.ofNat 16 8 = 8 from rfl, s.begunBus_runMb c d hrun, hssn] at hanswer
  exact hanswer

/-- A command that the field side serves, carried out at once: one that holds SCL ends with its response, another leaves it in the receive
buffer. -/
theorem State.ServesBus.mbAtOnce_answered (hargs : s.matched.hs.mbArgs s.fs.u c x = d) (hrun : (s.begunBus c d).runMbOp c d = a)
    (hssn : a.t.ssn = s.fs.ssn + 1) (hst : a.status < 256) (hlen : a.data.length < 256) :
    s.matched.mbAtOnce x c = if mbWaits x then s.busDone x c d a.status a.data a.t
      else { s.takeLateMb with
        rxBuf := s.takeLateMb.rxBuf ++ [⟨true, 8, s.hs.lseq[8] + 1, .body (mbResponse a.status a.data)⟩]
        hs := s.requestedBus x
        fs := s.answeredBus c d a.status a.data a.t } := by
  have hanswer := h.answerMb hrun hssn
  obtain ⟨-, hidle, -, hserves, -⟩ := h
  have hlseq : (s.matched.hs.nextLseq 8).1 = s.hs.lseq[8] + 1 :=
    congrArg (fun l : Vector Half 10 => l[8] + 1) (State.matched_idleBus hidle).lseq
  have honce := State.mbAtOnce_eq (s := s.matched) hserves hargs hlseq hanswer
  rw [mbResponse_status hst, mbResponse_data hlen] at honce
  exact honce

/-- A field read of the bus, served. -/
theorem State.ServesBus.mbWhole_read (hreads : (mbReads c).isNone = false) (hfield : s.matched.hs.fieldCommand s.fs.u c (readTxn c) = true)
    (hargs : s.matched.hs.mbArgs s.fs.u c (readTxn c) = d) {data : List Byte} {t : Tail}
    (hrun : (s.begunBus c d).runMbOp c d = ⟨okSt, data, t⟩) (hssn : t.ssn = s.fs.ssn + 1) (hlen : data.length < 256) :
    s.mbWhole (readTxn c) = s.busRead c d data t := by
  have hanswered := h.mbAtOnce_answered hargs hrun hssn okSt_lt hlen
  obtain ⟨hpow, hidle, hready, -⟩ := h
  unfold State.mbWhole
  rw [State.mbStart_known hpow hidle (.inl rfl) rfl, if_pos (by simp [hready]), State.mbProceed_fieldRead rfl hreads hfield, hanswered]
  rfl

/-- A field write of the bus that the Headstock takes, served. -/
theorem State.ServesBus.mbWhole_write (hcmd : x.cmd = mbCode c) (hkind : x.kind = .write) (hw : s.matched.TakesWrite c x)
    (hfield : s.matched.hs.fieldCommand s.fs.u c x = true) (hargs : s.matched.hs.mbArgs s.fs.u c x = d)
    (hrun : (s.begunBus c d).runMbOp c d = a) (hssn : a.t.ssn = s.fs.ssn + 1) (hst : a.status < 256) (hlen : a.data.length < 256) :
    s.mbWhole x = if mbWaits x then s.busDone x c d a.status a.data a.t
      else { s.takeLateMb with
        rxBuf := s.takeLateMb.rxBuf ++ [⟨true, 8, s.hs.lseq[8] + 1, .body (mbResponse a.status a.data)⟩]
        hs := s.requestedBus x
        fs := s.answeredBus c d a.status a.data a.t } := by
  have hanswered := h.mbAtOnce_answered hargs hrun hssn hst hlen
  obtain ⟨hpow, hidle, hready, -⟩ := h
  unfold State.mbWhole
  rw [State.mbStart_known hpow hidle (.inr hkind) hcmd, if_pos (by simp [hready]), hw.mbProceed_field hkind hfield, hanswered]

end

end Sys2Proof.Machine
end

section
/-! Reads over the management bus (09 R327, R328, R337, R342, R349); O49. -/

namespace Sys2Proof.Machine

/-! ## What the operation of a bus command is not refused for (05 R864) -/

theorem refusal_cons_false (st : Nat) (l : List (Bool × Nat)) : refusal ((false, st) :: l) = refusal l := by
  simp [refusal]

section
variable {t : Tail} {c : MbCmd} {d : List Byte}

/-- The conditions that refuse a bus command do not hold. -/
theorem Tail.mbRefusal_none (hbad : mbBadOp c d = false) (hrec : t.fw.recovery = false) :
    refusal [(mbBadOp c d, badOp), (t.fw.recovery && c != .regData, busySt)] = none :=
  refusal_of_none (by simp [hbad, hrec])

theorem Tail.runMbOp_badOp (hbad : mbBadOp c d = true) : t.runMbOp c d = ⟨badOp, [], t⟩ := by
  have hrefused : refusal [(mbBadOp c d, badOp), (t.fw.recovery && c != .regData, busySt)] = some badOp := by simp [refusal, hbad]
  unfold Tail.runMbOp
  rw [hrefused]

end

/-! ## The reads that show a state (09 R337) -/

/-- The commands that read a state of the field side. -/
def shownCmds : List MbCmd := [.statusWord, .alarmSummary, .unitState, .maxTemp, .groupTemps, .stationStatus]

/-- What each of them shows. -/
def Tail.shown (t : Tail) : MbCmd → List Byte
  | .statusWord => t.statusWord
  | .alarmSummary => t.digestEvents
  | .unitState => [BitVec.ofNat 8 t.us.code]
  | .maxTemp => t.maxTemp
  | .groupTemps => t.groupTemps
  | .stationStatus => t.stationStatus
  | _ => []

theorem Tail.stationStatus_length (t : Tail) : t.stationStatus.length = 32 :=
  t.perStn_length (k := 8) (fun _ => by simp) rfl

theorem Tail.shown_length (t : Tail) (c : MbCmd) : (t.shown c).length < 256 := by
  cases c
  case alarmSummary => exact t.digestEvents_length.trans_lt (by decide)
  case stationStatus => exact t.stationStatus_length.trans_lt (by decide)
  all_goals simp [Tail.shown, Tail.statusWord, Tail.maxTemp, Tail.groupTemps]

section
variable {c : MbCmd} (hc : c ∈ shownCmds)
include hc

theorem Tail.runMbOp_shown {t : Tail} (hrec : t.fw.recovery = false) : t.runMbOp c [] = ⟨okSt, t.shown c, t⟩ := by
  have hbad : mbBadOp c [] = false := by revert c; decide
  unfold Tail.runMbOp
  rw [Tail.mbRefusal_none hbad hrec]
  simp only [shownCmds, List.mem_cons, List.not_mem_nil, or_false] at hc
  rcases hc with rfl | rfl | rfl | rfl | rfl | rfl <;> rfl

theorem Head.fieldCommand_shown {h : Head} (u : UnitInfo) (hpresent : h.present = true) : h.fieldCommand u c (readTxn c) = true := by
  simp only [shownCmds, List.mem_cons, List.not_mem_nil, or_false] at hc
  rcases hc with rfl | rfl | rfl | rfl | rfl | rfl
  case inr.inr.inl => exact hpresent
  all_goals rfl

theorem Head.mbArgs_shown (h : Head) (u : UnitInfo) : h.mbArgs u c (readTxn c) = [] := by
  simp only [shownCmds, List.mem_cons, List.not_mem_nil, or_false] at hc
  rcases hc with rfl | rfl | rfl | rfl | rfl | rfl <;> rfl

theorem busRead_shown {s : State} (h : s.ServesBus) (hrec : s.fs.fw.recovery = false) :
    s.mbWhole (readTxn c) = s.busRead c [] ((s.begunBus c []).shown c) (s.begunBus c []) := by
  have hpresent : s.matched.hs.present = true := by
    have hready := h.2.2.1
    rw [(State.matched_idleBus h.2.1).present]
    simp only [Head.ready, Bool.and_eq_true] at hready
    exact hready.1.1
  have hreads : (mbReads c).isNone = false := by revert c; decide
  exact h.mbWhole_read hreads (Head.fieldCommand_shown hc _ hpresent) (Head.mbArgs_shown hc _ _)
    (Tail.runMbOp_shown hc ((congrArg Fw.recovery (s.begunBus_fw c [])).trans hrec)) (s.begunBus_ssn c []) (Tail.shown_length _ c)

end

/-! ## The window (09 R338, R339) -/

/-- A field's value fits its width. -/
theorem fdGet_lt {f : Fd} (hf : f.ok) (v : Word) : fdGet f v < 2 ^ f.width := by
  refine Nat.lt_pow_two_of_testBit _ fun i hi => ?_
  have hout : ¬ f.lo + i ≤ f.hi := by
    unfold Fd.width at hi
    obtain ⟨hle, -⟩ := hf
    omega
  rw [fdGet, ← BitVec.getLsbD, BitVec.getLsbD_ushiftRight, BitVec.getLsbD_and, Fd.mask_bit f hf]
  simp [hout]

theorem Head.window_lt (h : Head) (u : UnitInfo) : (h.window u).page < 256 ∧ (h.window u).ofs < 256 ∧ (h.window u).rlen < 256 :=
  ⟨fdGet_lt (f := MBUS_WIN.PAGE) (by decide) _, fdGet_lt (f := MBUS_WIN.OFFSET) (by decide) _, fdGet_lt (f := MBUS_WIN.RLEN) (by decide) _⟩

/-- The window as the request of REG_DATA carries it (log entry 43). -/
def MbWin.bytes (w : MbWin) : List Byte := [BitVec.ofNat 8 w.page, BitVec.ofNat 8 w.ofs, BitVec.ofNat 8 w.rlen]

theorem MbWin.of_bytes {w : MbWin} (hw : w.page < 256 ∧ w.ofs < 256 ∧ w.rlen < 256) (d : List Byte) : MbWin.of (w.bytes ++ d) = w := by
  obtain ⟨hp, ho, hr⟩ := hw
  change (⟨w.page % 256, w.ofs % 256, w.rlen % 256⟩ : MbWin) = w
  rw [Nat.mod_eq_of_lt hp, Nat.mod_eq_of_lt ho, Nat.mod_eq_of_lt hr]

section
variable {s : State} (h : s.ServesBus) {w : MbWin} (hw : s.hs.window s.fs.u = w)
include h hw

theorem State.ServesBus.window_eq : s.matched.hs.window s.fs.u = w := (State.matched_idleBus h.2.1).window.trans hw

/-- REG_DATA in the window is a field command (09 R339, 05 R187). -/
theorem State.ServesBus.fieldCommand_regData {x : MbTxn} (habsent : pageAbsent s.fs.u w.page = false)
    (hlocal : localRegs w.page w.ofs (if x.kind = .read then w.rlen else x.data.length) = false) :
    s.matched.hs.fieldCommand s.fs.u .regData x = true := by
  unfold Head.fieldCommand
  dsimp only
  rw [h.window_eq hw]
  simp [habsent, hlocal]

theorem State.ServesBus.mbArgs_regData (x : MbTxn) :
    s.matched.hs.mbArgs s.fs.u .regData x = w.bytes ++ if x.kind = .read then [] else x.data := by
  unfold Head.mbArgs
  dsimp only
  rw [h.window_eq hw]
  rfl

end

/-- The operation of REG_DATA on a page that the unit has, with its registers in the page (09 R339, 05 R158). -/
theorem Tail.runMbOp_regData {t : Tail} {w : MbWin} (hw : w.page < 256 ∧ w.ofs < 256 ∧ w.rlen < 256) {d : List Byte}
    (hrec : t.fw.recovery = false) (hreserved : reservedPage w.page = false) (habsent : t.absentPage w.page = false)
    (hrange : regRange w.ofs (if d = [] then w.rlen else d.length) = true) :
    t.runMbOp .regData (w.bytes ++ d) =
      if d = [] then t.readOp w.page w.ofs w.rlen
      else ⟨(t.writeOp (payloadWr w.page true w.ofs d) noFrame).1, [], (t.writeOp (payloadWr w.page true w.ofs d) noFrame).2⟩ := by
  have hop : t.runMbOp .regData (w.bytes ++ d) = t.regDataOp (MbWin.of (w.bytes ++ d)) d := by
    unfold Tail.runMbOp
    rw [Tail.mbRefusal_none rfl hrec]
    rfl
  rw [hop, MbWin.of_bytes hw]
  exact if_neg (by simp [hreserved, habsent, hrange])

theorem readBytes_length (view : Nat → Word) (a k : Nat) : (readBytes view a k).length = 4 * k := by
  simp [readBytes, wordsToBytes, List.length_flatMap, Function.comp_def, Nat.mul_comm]

theorem regDataRead_answered {w : MbWin} {s : State} (h : s.ServesBus) (hrec : s.fs.fw.recovery = false) (hw : s.hs.window s.fs.u = w)
    (hlocal : localRegs w.page w.ofs w.rlen = false) (hpage : pageAbsent s.fs.u w.page = false) (hreserved : reservedPage w.page = false)
    (habsent : s.fs.absentPage w.page = false) (hrange : regRange w.ofs w.rlen = true) :
    let d : List Byte := [BitVec.ofNat 8 w.page, BitVec.ofNat 8 w.ofs, BitVec.ofNat 8 w.rlen]
    let t := (s.begunBus .regData d).regReads (regAddrs w.page w.ofs w.rlen)
    exec .regDataRead s = .next (s.busRead .regData d (readBytes (t.view (s.fs.ssn + 1)) (w.page * 256 + w.ofs) (w.rlen / 4)) t) := by
  intro d t
  have hlt : w.page < 256 ∧ w.ofs < 256 ∧ w.rlen < 256 := hw ▸ s.hs.window_lt s.fs.u
  have hfw : (s.begunBus .regData d).fw.recovery = false := (congrArg Fw.recovery (s.begunBus_fw _ _)).trans hrec
  have hssn : t.ssn = s.fs.ssn + 1 := (Tail.regReads_ssn _ _).trans (s.begunBus_ssn _ _)
  have hunit : (s.begunBus .regData d).absentPage w.page = false := by
    unfold Tail.absentPage
    rw [s.begunBus_u]
    exact habsent
  have hread : (s.begunBus .regData d).readOp w.page w.ofs w.rlen =
      ⟨okSt, readBytes (t.view (s.fs.ssn + 1)) (w.page * 256 + w.ofs) (w.rlen / 4), t⟩ := by
    rw [← hssn]
    exact if_neg (by simp [Tail.recoveryPage, hfw])
  have hrun := (Tail.runMbOp_regData hlt (d := []) hfw hreserved hunit hrange).trans ((if_pos rfl).trans hread)
  refine congrArg Host.Outcome.next (h.mbWhole_read rfl (h.fieldCommand_regData hw hpage hlocal) (h.mbArgs_regData hw _) hrun hssn ?_)
  rw [readBytes_length]
  omega

/-! ## EVENT_FETCH (09 R342, R343) -/

/-- The search for a record keeps what the steps of a record keep. -/
theorem Tail.RecordKeeps.eventsAfter {P : Tail → Prop} (hP : Tail.RecordKeeps P) (ack : Word) (en : Bool) (rs : List RecIx) :
    ∀ {t : Tail} (next : Word) (skipped : Nat) (gap : Option Bool), P t → P (t.eventsAfter ack en next skipped gap rs).2 := by
  induction rs with
  | nil => exact fun _ _ _ h => h
  | cons r rs ih =>
    intro t next skipped gap h
    have hread : P (t.readRec 160 r).2 := hP.readRec 160 r h
    unfold Tail.eventsAfter
    split
    · exact ih _ _ _ h
    · dsimp -zeta only
      extract_lets blind
      split
      · exact ih _ _ _ hread
      · extract_lets d ix k gap'
        split
        · exact ih _ _ _ hread
        · split
          · exact hP.skipLost _ _ hread
          · exact ih _ _ _ hread

/-- The request of EVENT_FETCH carries the acknowledged index, and FILTER 0x00. -/
theorem Tail.runMbOp_eventFetch {t : Tail} (ack : Word) (hrec : t.fw.recovery = false) :
    t.runMbOp .eventFetch (leBytes 4 ack.toNat ++ [0x00]) = t.fetchOp ack false := by
  have hack : (leBytes 4 ack.toNat ++ [0x00]).take 4 = leBytes 4 ack.toNat := List.take_left' (leBytes_length 4 _)
  have hfilter : (leBytes 4 ack.toNat ++ [(0x00 : Byte)]).getD 4 0 = 0 := by
    rw [List.getD_append_right _ _ _ _ (by simp)]
    simp
  unfold Tail.runMbOp
  rw [Tail.mbRefusal_none rfl hrec]
  dsimp only
  rw [hack, hfilter, ofNat_leNat_leBytes_four]
  rfl

theorem padTo_length_eq (n : Nat) (l : List Byte) : (padTo n l).length = n := by
  simp [padTo]
  omega

section
variable {s : State} (h : s.ServesBus)
include h

/-- EVENT_FETCH drives what its operation finds. -/
theorem eventFetchRead_answered (hrec : s.fs.fw.recovery = false) {data : List Byte} {t2 : Tail} :
    let ack : Word := s.hs.word s.fs.u MBUS_EVACK.INDEX.addr
    let d : List Byte := leBytes 4 ack.toNat ++ [0x00]
    (s.begunBus .eventFetch d).fetchOp ack false = ⟨okSt, data, t2⟩ → t2.ssn = s.fs.ssn + 1 → data.length < 256 →
      exec .eventFetchRead s = .next (s.busRead .eventFetch d data t2) := by
  intro ack d hfetch hssn hlen
  have hword : s.matched.hs.word s.fs.u MBUS_EVACK.INDEX.addr = ack := (State.matched_idleBus h.2.1).word _ (by decide)
  have hargs : s.matched.hs.mbArgs s.fs.u .eventFetch (readTxn .eventFetch) = d :=
    congrArg (fun a : Word => leBytes 4 a.toNat ++ [0x00]) hword
  have hrun := (Tail.runMbOp_eventFetch ack ((congrArg Fw.recovery (s.begunBus_fw .eventFetch d)).trans hrec)).trans hfetch
  exact congrArg Host.Outcome.next (h.mbWhole_read rfl rfl hargs hrun hssn hlen)

theorem eventFetchRead_delivers (hrec : s.fs.fw.recovery = false) (hret : s.fs.aon.retained = false) :
    let ack : Word := s.hs.word s.fs.u MBUS_EVACK.INDEX.addr
    let d : List Byte := leBytes 4 ack.toNat ++ [0x00]
    let t := (s.begunBus .eventFetch d).sysReads (descX 160) 2
    (∀ t2, t.eventsAfter ack false t.evtSpan.2 0 none (t.sst 160).recs = (none, t2) →
      exec .eventFetchRead s = .next (s.busRead .eventFetch d (List.replicate 32 0) t2))
    ∧ (∀ tag x t2, t.eventsAfter ack false t.evtSpan.2 0 none (t.sst 160).recs = (some (tag, x), t2) →
      exec .eventFetchRead s = .next (s.busRead .eventFetch d (leBytes 8 tag ++ padTo 24 x) t2)) := by
  intro ack d t
  have hP := Tail.recordKeeps_ssn (s.begunBus .eventFetch d)
  have hfound : (t.eventsAfter ack false t.evtSpan.2 0 none (t.sst 160).recs).2.ssn = s.fs.ssn + 1 :=
    (hP.eventsAfter ack false _ _ _ _ (hP.descRead (by decide) (.refl _))).ssn.trans (s.begunBus_ssn _ _)
  have hret' : ¬ (s.begunBus .eventFetch d).aon.retained = true := by simp [s.begunBus_aon, hret]
  refine ⟨fun t2 hnone => ?_, fun tag x t2 hsome => ?_⟩
  · rw [hnone] at hfound
    refine eventFetchRead_answered h hrec ?_ hfound (by simp)
    unfold Tail.fetchOp
    rw [if_neg hret']
    dsimp only
    rw [hnone]
  · rw [hsome] at hfound
    refine eventFetchRead_answered h hrec ?_ hfound (by simp [padTo_length_eq])
    unfold Tail.fetchOp
    rw [if_neg hret']
    dsimp only
    rw [hsome]

end

/-! ## The Headstock's own reads (09 R337, R338, R349) -/

section
variable {s : State} (hpow : s.hs.powered = true) (hidle : s.hs.mb.phase = .idle)
include hpow hidle

theorem State.mbWhole_localRead {c : MbCmd} {st : Nat} {d : List Byte} (hreads : (mbReads c).isNone = false)
    (hfield : s.matched.hs.fieldCommand s.fs.u c (readTxn c) = false) (hlocal : s.matched.localRead c = (st, d)) :
    s.mbWhole (readTxn c) = { s.matched with hs := s.matched.hs.mbRead s.fs.u c st d } := by
  unfold State.mbWhole
  rw [State.mbStart_known hpow hidle (.inl rfl) rfl, if_pos (by simp [hfield]), State.mbProceed_localRead rfl hreads hfield hlocal]
  rfl

theorem headstockReads_answered :
    let r := s.matched
    exec .identity s = .next { r with hs := r.hs.mbRead s.fs.u .identity okSt (readBytes r.localView 0x20 4) }
    ∧ (let w := s.hs.window s.fs.u
       exec .pageSelRead s = .next { r with hs := r.hs.mbRead s.fs.u .pageSel okSt
                                             [BitVec.ofNat 8 w.page, BitVec.ofNat 8 w.ofs, BitVec.ofNat 8 w.rlen] })
    ∧ (s.hs.present = false → exec .unitState s = .next { r with hs := r.hs.mbRead s.fs.u .unitState okSt [0x00] }) := by
  have hb := State.matched_idleBus hidle
  refine ⟨congrArg Host.Outcome.next (State.mbWhole_localRead hpow hidle rfl rfl rfl),
    congrArg Host.Outcome.next (State.mbWhole_localRead hpow hidle rfl rfl ?_),
    fun habsent => congrArg Host.Outcome.next (State.mbWhole_localRead hpow hidle rfl (hb.present.trans habsent) rfl)⟩
  rw [← hb.window]
  rfl

end

/-! ## O49 -/

/-- Settles O49: a served read drives what its operation answers in its commit, another what the Headstock holds. -/
theorem busReads : Obligations.BusReads := by
  refine ⟨fun s h hrec => ⟨?_, ?_, ?_, ?_, ?_, ?_⟩,
    fun w s h hrec hw hlocal hpage hreserved habsent hrange => regDataRead_answered h hrec hw hlocal hpage hreserved habsent hrange,
    fun s h hrec hret => eventFetchRead_delivers h hrec hret,
    fun s hpow hidle => headstockReads_answered hpow hidle⟩
  all_goals exact congrArg Host.Outcome.next (busRead_shown (by decide) h hrec)

end Sys2Proof.Machine
end

section
/-! Writes over the management bus with their PEC (09 R325, R329 to R331, R334, R335, R338 to R340, R344 to R347); O50. -/

namespace Sys2Proof.Machine

/-! ## Writes that the Headstock takes (09 R325, R331) -/

section
variable {s : State} {c : MbCmd} {d : List Byte}

/-- The data bytes of a write that its command takes. -/
theorem dataOk_writeTxn (hd : mbWrites c d.length = true) (pec : Option Byte) : dataOk c (writeTxn c d pec) = true := by
  unfold dataOk
  rw [Bool.and_eq_true]
  refine ⟨hd, ?_⟩
  unfold writeTxn
  split <;> simp [*]

/-- The PEC covers neither itself nor what a match changes. -/
theorem State.writePec_matched (hidle : s.hs.mb.phase = .idle) (pec : Option Byte) :
    s.matched.hs.writePec (writeTxn c d pec) = s.hs.writePec (writeTxn c d none) := (State.matched_idleBus hidle).writePec _

theorem State.takesWrite_withPec (hidle : s.hs.mb.phase = .idle) (hd : mbWrites c d.length = true) :
    s.matched.TakesWrite c (s.hs.writeWithPec c d) :=
  ⟨dataOk_writeTxn hd _, .inl (congrArg some (State.writePec_matched hidle _).symm)⟩

/-- Without PEC_REQ the PEC byte may be left away (09 R331). -/
theorem State.takesWrite_withoutPec (hidle : s.hs.mb.phase = .idle) (hd : mbWrites c d.length = true)
    (hshort : dataShort c (writeTxn c d none) = false) (hreq : s.hs.g s.fs.u MBUS_CFG.PEC_REQ = 0) :
    s.matched.TakesWrite c (writeTxn c d none) := by
  refine ⟨dataOk_writeTxn hd _, .inr ⟨rfl, hshort, ?_⟩⟩
  have hsame : s.matched.hs.g s.fs.u MBUS_CFG.PEC_REQ = s.hs.g s.fs.u MBUS_CFG.PEC_REQ := (State.matched_idleBus hidle).g (by decide)
  exact ne_of_eq_of_ne (hsame.trans hreq) (by decide)

/-- A field write with its PEC byte, served: SCL is held for the response (09 R329). -/
theorem State.ServesBus.write_answered (h : s.ServesBus) {e data : List Byte} {st : Nat} {t : Tail} (hd : mbWrites c d.length = true)
    (hfield : s.matched.hs.fieldCommand s.fs.u c (s.hs.writeWithPec c d) = true)
    (hargs : s.matched.hs.mbArgs s.fs.u c (s.hs.writeWithPec c d) = e) (hrun : (s.begunBus c e).runMbOp c e = ⟨st, data, t⟩)
    (hssn : t.ssn = s.fs.ssn + 1) (hst : st < 256) (hlen : data.length < 256) :
    s.mbWhole (s.hs.writeWithPec c d) = s.busDone (s.hs.writeWithPec c d) c e st data t :=
  (h.mbWhole_write rfl rfl (State.takesWrite_withPec h.2.1 hd) hfield hargs hrun hssn hst hlen).trans (if_pos rfl)

/-- A write to the Headstock itself, accepted (09 R338, R342). -/
theorem State.mbWhole_localWrite {x : MbTxn} {r : Head} (hpow : s.hs.powered = true) (hidle : s.hs.mb.phase = .idle) (hkind : x.kind = .write)
    (hcmd : x.cmd = mbCode c) (hw : s.matched.TakesWrite c x) (hfield : s.matched.hs.fieldCommand s.fs.u c x = false)
    (hlocal : s.matched.localWrite c x.data = (okSt, r)) : s.mbWhole x = { s.matched with hs := r.mbWritten s.fs.u x okSt } := by
  unfold State.mbWhole
  rw [State.mbStart_known hpow hidle (.inr hkind) hcmd, if_pos (by simp [hfield]), hw.mbProceed_local hkind hfield hlocal]
  rfl

end

/-! ## The operations (09 R335, R344 to R347, 05 R162) -/

section
variable {t : Tail} (hrec : t.fw.recovery = false)
include hrec

theorem Tail.runMbOp_heartbeat (d : List Byte) : t.runMbOp .heartbeat d = ⟨okSt, [], t⟩ := by
  unfold Tail.runMbOp
  rw [Tail.mbRefusal_none rfl hrec]

theorem Tail.runMbOp_faultClear {tok : Byte} (htok : tok ≠ 0) : t.runMbOp .faultClear [tok] = t.mbClear tok := by
  have hbad : mbBadOp .faultClear [tok] = false := decide_eq_false htok
  unfold Tail.runMbOp
  rw [Tail.mbRefusal_none hbad hrec]
  rfl

theorem Tail.runMbOp_sleepReq {v : Byte} {r : PwrReq} (hv : v = 1 ∧ r = .standby ∨ v = 2 ∧ r = .deep) :
    t.runMbOp .sleepReq [v] =
      ⟨if (t.aon.accepted.isSome || t.aon.switching.isSome || t.aon.wakePend || t.reqOk r) = true then okSt else busySt, [], t.pwrReq r⟩ := by
  have hbad : mbBadOp .sleepReq [v] = false := by rcases hv with ⟨rfl, -⟩ | ⟨rfl, -⟩ <;> rfl
  have hkind : (if v = 1 then PwrReq.standby else .deep) = r := by rcases hv with ⟨rfl, rfl⟩ | ⟨rfl, rfl⟩ <;> rfl
  unfold Tail.runMbOp
  rw [Tail.mbRefusal_none hbad hrec]
  subst hkind
  rfl

/-- A write that no condition refuses is applied (05 R162). -/
theorem Tail.writeOp_accepted {w : Wr} {fr : FrameRef} (hcheck : refusal (t.writeCheck w) = none) :
    t.writeOp w fr = (okSt, t.writeApply w fr) := by
  have hpage : t.recoveryPage w.page = false := by simp [Tail.recoveryPage, hrec]
  unfold Tail.writeOp
  dsimp only
  rw [hpage, refusal_cons_false, hcheck]

end

/-- The operation of a bus command finds the firmware as it was. -/
theorem State.begunBus_recovery {s : State} (hrec : s.fs.fw.recovery = false) (c : MbCmd) (d : List Byte) :
    (s.begunBus c d).fw.recovery = false := (congrArg Fw.recovery (s.begunBus_fw c d)).trans hrec

/-! ## HEARTBEAT (09 R334, R335) -/

section
variable {s : State} (h : s.ServesBus)
include h

theorem heartbeat_answered (hrec : s.fs.fw.recovery = false) :
    let x := s.hs.writeWithPec .heartbeat []
    exec (.heartbeat x.pec) s = .next (s.busDone x .heartbeat [] okSt [] (s.begunBus .heartbeat [])) :=
  congrArg Host.Outcome.next (h.write_answered (c := .heartbeat) (d := []) (data := []) rfl rfl rfl
    (Tail.runMbOp_heartbeat (State.begunBus_recovery hrec _ _) []) (s.begunBus_ssn _ _) okSt_lt (by decide))

/-- Without its PEC byte the response waits in the receive buffer (09 R334, 01 R22). -/
theorem heartbeat_buffered (hrec : s.fs.fw.recovery = false) (hreq : s.hs.g s.fs.u MBUS_CFG.PEC_REQ = 0) :
    exec (.heartbeat none) s = .next { s.takeLateMb with
      rxBuf := s.takeLateMb.rxBuf ++ [⟨true, 8, s.hs.lseq[8] + 1, .body (mbResponse okSt [])⟩]
      hs := s.requestedBus (writeTxn .heartbeat [] none)
      fs := s.answeredBus .heartbeat [] okSt [] (s.begunBus .heartbeat []) } :=
  congrArg Host.Outcome.next (h.mbWhole_write (x := writeTxn .heartbeat [] none) (c := .heartbeat) (d := [])
    (a := ⟨okSt, [], s.begunBus .heartbeat []⟩) rfl rfl (State.takesWrite_withoutPec h.2.1 rfl rfl hreq) rfl rfl
    (Tail.runMbOp_heartbeat (State.begunBus_recovery hrec _ _) []) (s.begunBus_ssn _ _) okSt_lt (Nat.zero_lt_succ _))

/-- A wrong PEC byte is refused (09 R330). -/
theorem heartbeat_pecWrong {pec : Byte} (hne : some pec ≠ (s.hs.writeWithPec .heartbeat []).pec) :
    exec (.heartbeat (some pec)) s = .next { s.matched with
      hs := (s.matched.hs.inc s.fs.u MBUS_CNT_B.PEC_ERR).mbNack s.fs.u (mbCode .heartbeat) pcrcErr } := by
  obtain ⟨hpow, hidle, hready, -⟩ := h
  have hpec : pec ≠ s.matched.hs.writePec (writeTxn .heartbeat [] (some pec)) := by
    rw [State.writePec_matched hidle]
    exact fun e => hne (congrArg some e)
  refine congrArg Host.Outcome.next ?_
  unfold State.mbWhole
  rw [State.mbStart_known (c := .heartbeat) hpow hidle (.inr rfl) rfl, if_pos (by simp [hready]),
    State.mbProceed_pecWrong rfl rfl (dataOk_writeTxn rfl _) hpec]
  rfl

end

/-- PEC_REQ asks for the PEC byte (09 R331). -/
theorem heartbeat_pecMissing {s : State} (hpow : s.hs.powered = true) (hidle : s.hs.mb.phase = .idle) (hready : s.hs.ready = true)
    (hreq : s.hs.g s.fs.u MBUS_CFG.PEC_REQ = 1) :
    exec (.heartbeat none) s = .next { s.matched with hs := s.matched.hs.mbAck s.fs.u (mbCode .heartbeat) pecMissing [] } := by
  have hreq' : s.matched.hs.g s.fs.u MBUS_CFG.PEC_REQ = 1 := ((State.matched_idleBus hidle).g (by decide)).trans hreq
  refine congrArg Host.Outcome.next ?_
  unfold State.mbWhole
  rw [State.mbStart_known (c := .heartbeat) hpow hidle (.inr rfl) rfl, if_pos (by simp [hready]),
    State.mbProceed_pecMissing rfl rfl (dataOk_writeTxn rfl _) hreq']
  rfl

/-! ## FAULT_CLEAR (09 R345 to R347) -/

section
variable {s : State} (h : s.ServesBus)
include h

/-- FAULT_CLEAR with a token ends with the status its operation answers. -/
theorem mbFaultClear_answered {tok : Byte} {st : Nat} {t : Tail} (hrun : (s.begunBus .faultClear [tok]).runMbOp .faultClear [tok] = ⟨st, [], t⟩)
    (hssn : t.ssn = s.fs.ssn + 1) (hst : st < 256) :
    let x := s.hs.writeWithPec .faultClear [tok]
    exec (.mbFaultClear tok x.pec) s = .next (s.busDone x .faultClear [tok] st [] t) :=
  congrArg Host.Outcome.next (h.write_answered (c := .faultClear) (d := [tok]) (data := []) rfl rfl rfl hrun hssn hst (by decide))

theorem mbFaultClear_token (hrec : s.fs.fw.recovery = false) {tok : Byte} (htok : tok ≠ 0) :
    let x := s.hs.writeWithPec .faultClear [tok]
    let t := s.begunBus .faultClear [tok]
    (t.mbToks.contains tok = false → exec (.mbFaultClear tok x.pec) s = .next (s.busDone x .faultClear [tok] okSt []
      { t.faultClearAll 0xFFFFFFFF with mbToks := tok :: t.mbToks.take 3 }))
    ∧ (t.mbToks.contains tok = true → exec (.mbFaultClear tok x.pec) s = .next (s.busDone x .faultClear [tok] dupSt [] t)) := by
  have hrun := Tail.runMbOp_faultClear (State.begunBus_recovery hrec .faultClear [tok]) htok
  have hssn := s.begunBus_ssn .faultClear [tok]
  refine ⟨fun hnew => ?_, fun hknown => ?_⟩
  · exact mbFaultClear_answered h (hrun.trans (if_neg (Bool.eq_false_iff.mp hnew))) ((Tail.faultClearAll_ssn _ _).trans hssn) okSt_lt
  · exact mbFaultClear_answered h (hrun.trans (if_pos hknown)) hssn (by decide)

/-- The token 0 is none (09 R345). -/
theorem mbFaultClear_zero :
    let x := s.hs.writeWithPec .faultClear [0]
    exec (.mbFaultClear 0 x.pec) s = .next (s.busDone x .faultClear [0] badOp [] (s.begunBus .faultClear [0])) :=
  mbFaultClear_answered h (Tail.runMbOp_badOp rfl) (s.begunBus_ssn _ _) (by decide)

end

/-! ## SLEEP_REQ (09 R344) -/

section
variable {s : State} (h : s.ServesBus)
include h

/-- SLEEP_REQ ends with the status its operation answers. -/
theorem sleepReq_answered {v : Byte} {st : Nat} {t : Tail} (hrun : (s.begunBus .sleepReq [v]).runMbOp .sleepReq [v] = ⟨st, [], t⟩)
    (hssn : t.ssn = s.fs.ssn + 1) (hst : st < 256) :
    let x := s.hs.writeWithPec .sleepReq [v]
    exec (.sleepReq v x.pec) s = .next (s.busDone x .sleepReq [v] st [] t) :=
  congrArg Host.Outcome.next (h.write_answered (c := .sleepReq) (d := [v]) (data := []) rfl rfl rfl hrun hssn hst (by decide))

theorem sleepReq_asks (hrec : s.fs.fw.recovery = false) {v : Byte} {r : PwrReq} (hv : v = 1 ∧ r = .standby ∨ v = 2 ∧ r = .deep) :
    let x := s.hs.writeWithPec .sleepReq [v]
    let t := s.begunBus .sleepReq [v]
    exec (.sleepReq v x.pec) s = .next (s.busDone x .sleepReq [v]
      (if (t.aon.accepted.isSome || t.aon.switching.isSome || t.aon.wakePend || t.reqOk r) = true then okSt else busySt) [] (t.pwrReq r)) := by
  refine sleepReq_answered h (Tail.runMbOp_sleepReq (State.begunBus_recovery hrec _ _) hv)
    ((Tail.pwrReq_ssn _ r).trans (s.begunBus_ssn _ _)) ?_
  split <;> decide

theorem sleepReq_other {v : Byte} (h1 : v ≠ 1) (h2 : v ≠ 2) :
    let x := s.hs.writeWithPec .sleepReq [v]
    exec (.sleepReq v x.pec) s = .next (s.busDone x .sleepReq [v] badOp [] (s.begunBus .sleepReq [v])) :=
  sleepReq_answered h (Tail.runMbOp_badOp ((Bool.and_eq_true _ _).mpr ⟨bne_iff_ne.mpr h1, bne_iff_ne.mpr h2⟩)) (s.begunBus_ssn _ _) (by decide)

end

/-! ## REG_DATA (09 R339, R340) -/

theorem regDataWrite_answered {d : List Byte} {w : MbWin} {s : State} (h : s.ServesBus) (hrec : s.fs.fw.recovery = false)
    (hw : s.hs.window s.fs.u = w) (hlocal : localRegs w.page w.ofs d.length = false) (hpage : pageAbsent s.fs.u w.page = false)
    (hreserved : reservedPage w.page = false) (habsent : s.fs.absentPage w.page = false) (hrange : regRange w.ofs d.length = true)
    (hd : mbWrites .regData d.length = true) :
    let x := s.hs.writeWithPec .regData d
    let e := [BitVec.ofNat 8 w.page, BitVec.ofNat 8 w.ofs, BitVec.ofNat 8 w.rlen] ++ d
    let t := s.begunBus .regData e
    refusal (t.writeCheck (payloadWr w.page true w.ofs d)) = none →
    exec (.regDataWrite d x.pec) s = .next (s.busDone x .regData e okSt [] (t.writeApply (payloadWr w.page true w.ofs d) noFrame)) := by
  intro x e t hcheck
  have hlt : w.page < 256 ∧ w.ofs < 256 ∧ w.rlen < 256 := hw ▸ s.hs.window_lt s.fs.u
  have hne : d ≠ [] := by
    rintro rfl
    exact absurd hd (by decide)
  have hfw : t.fw.recovery = false := State.begunBus_recovery hrec _ _
  have hunit : t.absentPage w.page = false := by
    unfold Tail.absentPage
    rw [s.begunBus_u]
    exact habsent
  have hrun : t.runMbOp .regData e = ⟨okSt, [], t.writeApply (payloadWr w.page true w.ofs d) noFrame⟩ := by
    have hop := Tail.runMbOp_regData hlt (d := d) hfw hreserved hunit (by rwa [if_neg hne])
    rw [if_neg hne, Tail.writeOp_accepted hfw hcheck] at hop
    exact hop
  exact congrArg Host.Outcome.next (h.write_answered (c := .regData) (data := []) hd (h.fieldCommand_regData hw hpage hlocal)
    (h.mbArgs_regData hw _) hrun ((Tail.writeApply_ssn _ _ _).trans (s.begunBus_ssn _ _)) okSt_lt (by decide))

/-! ## The Headstock's own writes (09 R324, R338, R342) -/

section
variable {s : State} (hpow : s.hs.powered = true) (hidle : s.hs.mb.phase = .idle)
include hpow hidle

theorem pageSelWrite_sets {p o k : Byte} (hok : windowOk o.toNat k.toNat = true) :
    let x := s.hs.writeWithPec .pageSel [p, o, k]
    let h := s.matched.hs
    let h := ((h.p s.fs.u MBUS_WIN.PAGE p.toNat).p s.fs.u MBUS_WIN.OFFSET o.toNat).p s.fs.u MBUS_WIN.RLEN k.toNat
    exec (.pageSelWrite [p, o, k] x.pec) s = .next { s.matched with hs := h.mbWritten s.fs.u x okSt } :=
  congrArg Host.Outcome.next (State.mbWhole_localWrite (c := .pageSel) (x := s.hs.writeWithPec .pageSel [p, o, k]) hpow hidle rfl rfl
    (State.takesWrite_withPec hidle rfl) rfl (if_pos hok))

theorem eventFetchWrite_sets {d : List Byte} (hd : d.length = 4) :
    let x := s.hs.writeWithPec .eventFetch d
    let h := s.matched.hs.setWord s.fs.u MBUS_EVACK.INDEX.addr (BitVec.ofNat 32 (leNat d))
    exec (.eventFetchWrite d x.pec) s = .next { s.matched with hs := h.mbWritten s.fs.u x okSt } :=
  congrArg Host.Outcome.next (State.mbWhole_localWrite (c := .eventFetch) (x := s.hs.writeWithPec .eventFetch d) hpow hidle rfl rfl
    (State.takesWrite_withPec hidle (decide_eq_true hd)) rfl rfl)

theorem wakePing_acknowledged (hreq : s.hs.g s.fs.u MBUS_CFG.PEC_REQ = 0) :
    exec (.wakePing true) s = .next { s.matched with hs := s.matched.hs.mbAck s.fs.u (mbCode .wakePing) okSt [] }
    ∧ exec (.wakePing false) s = .next { s.matched with hs := s.matched.hs.mbAck s.fs.u (mbCode .wakePing) okSt [] } :=
  ⟨congrArg Host.Outcome.next (State.mbStart_quick hpow hidle rfl),
    congrArg Host.Outcome.next (State.mbWhole_localWrite (c := .wakePing) (x := writeTxn .wakePing [] none) hpow hidle rfl rfl
      (State.takesWrite_withoutPec hidle rfl rfl hreq) rfl rfl)⟩

end

/-! ## O50 -/

/-- Settles O50: a served write ends with what its operation answers in its commit; the Headstock's own writes and the refusals of a PEC
byte end before. -/
theorem busWrites : Obligations.BusWrites :=
  ⟨fun _ h hrec => heartbeat_answered h hrec,
    fun _ h hrec hreq => heartbeat_buffered h hrec hreq,
    fun _ _ h hrec htok => mbFaultClear_token h hrec htok,
    fun _ _ _ h hrec hv => sleepReq_asks h hrec hv,
    fun _ _ h h1 h2 => sleepReq_other h h1 h2,
    fun _ h => mbFaultClear_zero h,
    fun _ _ _ h hrec hw hlocal hpage hreserved habsent hrange hd =>
      regDataWrite_answered h hrec hw hlocal hpage hreserved habsent hrange hd,
    fun _ _ _ _ hpow hidle hok => pageSelWrite_sets hpow hidle hok,
    fun _ _ hpow hidle hd => eventFetchWrite_sets hpow hidle hd,
    fun _ hpow hidle hreq => wakePing_acknowledged hpow hidle hreq,
    fun _ _ h hne => heartbeat_pecWrong h hne,
    fun _ hpow hidle hready hreq => heartbeat_pecMissing hpow hidle hready hreq⟩

end Sys2Proof.Machine
end

section
/-! The Tailstock resets (10 R867, 00 R14): TRST as a fresh field side and the boot of a slot, its causes, and O5. -/

namespace Sys2Proof.Machine

/-! ## Records leave the errors of the system area alone (06 R207 to R217) -/

section
variable (t : Tail)

theorem Tail.ite_sys {c : Prop} [Decidable c] (a b : Tail) :
    (if c then a else b).store.sys = if c then a.store.sys else b.store.sys := apply_ite (fun t : Tail => t.store.sys) c a b

@[simp] theorem Tail.evt_sys (p i : Nat) : (t.evt p i).store.sys = t.store.sys := by rw [Tail.evt_eq, Tail.evtV_store]
@[simp] theorem Tail.sstMap_sys (k : Nat) (g : StreamSt → StreamSt) : (t.sstMap k g).store.sys = t.store.sys := Eq.refl _
@[simp] theorem Tail.wbMap_sys (b : Fin 8) (g : List WbEntry → List WbEntry) : (t.wbMap b g).store.sys = t.store.sys := Eq.refl _
@[simp] theorem Tail.memPut_sys (a : Nat) (w : StoreWord) : (t.memPut a w).store.sys = t.store.sys := Eq.refl _
@[simp] theorem Tail.memWrite_sys (a d : Nat) : (t.memWrite a d).store.sys = t.store.sys := by simp [Tail.memWrite]
@[simp] theorem Tail.pushRec_sys (k kind words len : Nat) (d : Bool) : (t.pushRec k kind words len d).store.sys = t.store.sys :=
  Tail.sstMap_sys _ _ _
@[simp] theorem Tail.ringWrite_sys (k : Nat) (ws : List Nat) :
    ∀ (t : Tail) (pos : Nat), (t.ringWrite k pos ws).store.sys = t.store.sys := by
  induction ws with
  | nil => exact fun _ _ => rfl
  | cons w ws ih => simp [Tail.ringWrite, ih]
@[simp] theorem Tail.wmUpdate_sys (k : Nat) : (t.wmUpdate k).store.sys = t.store.sys := by simp [Tail.wmUpdate, Tail.ite_sys]
@[simp] theorem Tail.lose_sys (k c : Nat) : (t.lose k c).store.sys = t.store.sys := Tail.evt_sys _ _ _
@[simp] theorem Tail.putRec_sys (k : Nat) (r : HeldRec) : (t.putRec k r).store.sys = t.store.sys := by
  simp [Tail.putRec, Tail.ite_sys]
@[simp] theorem Tail.makeRoom_sys (k n : Nat) : (t.makeRoom k n).store.sys = t.store.sys := by simp [Tail.makeRoom, Tail.ite_sys]
@[simp] theorem Tail.holdRec_sys (k : Nat) (r : HeldRec) : (t.holdRec k r).2.store.sys = t.store.sys := by
  unfold Tail.holdRec
  split <;> simp

theorem Tail.appendAs_sys (who : Producer) (k : Nat) (r : HeldRec) : (t.appendAs who k r).2.store.sys = t.store.sys := by
  unfold Tail.appendAs
  dsimp only
  repeat' split
  all_goals simp

variable {t}

theorem Tail.record_sys (who : Producer) (k kind : Nat) (v : Bool) (d : List Byte) (h : t.store.sys = []) :
    (t.record who k kind v d).store.sys = [] := by
  have happend : (t.appendAs who k ⟨k, kind, v, false, d⟩).2.store.sys = [] := (t.appendAs_sys who k _).trans h
  unfold Tail.record Tail.append Tail.appendRec
  rw [t.sysReads_of_sys_nil _ _ h]
  split
  · exact h
  · dsimp only
    split
    · simp [Tail.sysWrites, happend]
    · exact happend

end

/-! ## What TRST does beyond making the field side anew -/

/-- `r` may be reached from `t` as the boot of a slot may change it (`Tail.Boots`), and no error stands in its system area. -/
structure Tail.CleanBoots (t r : Tail) : Prop where
  boots : t.Boots r
  sys : r.store.sys = []

/-- The causes of a reset stand in one register (10 R376). -/
theorem causeFd_addr (c : RstCause) : (causeFd c).addr = DEV_RSTCAUSE.FW_ACT.addr := by cases c <;> rfl

section
variable {t r : Tail} (h : t.CleanBoots r)
include h

theorem Tail.CleanBoots.cause {f : Fd} (hf : f.addr = DEV_RSTCAUSE.FW_ACT.addr) (v : Nat) : t.CleanBoots (r.p f v) :=
  ⟨h.boots.trans ⟨rfl, fun _ _ hx => r.word_p_ne v (hf ▸ hx)⟩, h.sys⟩

theorem Tail.CleanBoots.evt (p i : Nat) : t.CleanBoots (r.evt p i) :=
  ⟨h.boots.trans (.of_quiet (r.evt_quiet p i)), (r.evt_sys p i).trans h.sys⟩

theorem Tail.CleanBoots.seal : t.CleanBoots r.seal := ⟨h.boots.trans (.of_quiet r.seal_quiet), h.sys⟩

theorem Tail.CleanBoots.firmware (w : Fw) : t.CleanBoots { r with fw := w } := ⟨Tail.boots_fw w h.boots, h.sys⟩

/-- The AUDIT record of a step of the firmware (23 R804). -/
theorem Tail.CleanBoots.audit (step : Nat) (i : Tail → Fin 2) (fr : FrameRef) :
    t.CleanBoots (r.commitOn 161 (fun t => t.auditFw step (i t) fr)) := by
  refine ⟨h.boots.trans (.of_quiet (r.commitOn_quiet _ _ (Tail.auditFw_quiet _ step _ fr h.sys))), ?_⟩
  have hrec : ∀ j, ({ r with ssn := r.ssn + 1 }.auditFw step j fr).store.sys = [] := fun _ => Tail.record_sys _ _ _ _ _ h.sys
  unfold Tail.commitOn Tail.commitAny
  dsimp only
  split
  · exact hrec _
  · exact hrec _

end

/-! ## TRST (10 R867) -/

/-- What TRST leaves of the always-on domain (04 R142 to R144). -/
def Aon.afterTrst (a : Aon) (cold : Bool) : Aon :=
  { a with
    dom := if cold then 0x02 else 0xFE
    ps := .run, accepted := none, switching := none, wakePend := false, held := none, retained := false, cold := cold
    coldSeen := a.coldSeen || cold, epoch := a.epoch + 1, shutAt := none }

/-- The field side of TRST before the records of its cause and the boot of a slot. -/
def Tail.trstFresh (c : RstCause) (cold : Bool) (t : Tail) : Tail :=
  let t := if t.us = .boot then t.countBoot else t
  let t := t.renew (t.aon.afterTrst cold) (keepFields t.u Fd.keptTrst t.regs)
  { t with boot := { t.boot with checkFailed := c = RstCause.storeCheck, therm := c = RstCause.therm } }

/-- The count of failed boots is the firmware's own (23 R814). -/
theorem Tail.countBoot_eq (t : Tail) : t.countBoot = { t with fw := t.countBoot.fw } := by
  unfold Tail.countBoot
  dsimp only
  split
  · rfl
  · split <;> rfl

theorem Tail.countedBoot_eq (t : Tail) : ∃ w : Fw, (if t.us = .boot then t.countBoot else t) = { t with fw := w } := by
  split
  · exact ⟨_, t.countBoot_eq⟩
  · exact ⟨t.fw, rfl⟩

/-- What the fresh field side has of the old one, and what it has anew. -/
theorem Tail.trstFresh_fields (c : RstCause) (cold : Bool) (t : Tail) :
    let r := t.trstFresh c cold
    r.u = t.u ∧ r.now = t.now ∧ r.us = .boot ∧ r.ft = 0 ∧ r.otp = t.otp ∧ r.sess = 0 ∧ r.link = Link.init ∧ r.aon = t.aon.afterTrst cold
      ∧ r.stn = Vector.ofFn (fun n => Station.init n.val) ∧ r.regs = keepFields t.u Fd.keptTrst t.regs := by
  obtain ⟨w, hw⟩ := t.countedBoot_eq
  unfold Tail.trstFresh
  rw [hw]
  exact ⟨rfl, rfl, rfl, rfl, rfl, rfl, rfl, rfl, rfl, rfl⟩

/-- After TRST every register without a field of PD1 or of OTP or flash reads its reset value (00 R14). -/
theorem Tail.trstFresh_word (c : RstCause) (cold : Bool) (t : Tail) (x : Nat) (h : ∀ f ∈ regFields x, f.rby ≠ .never ∧ f.rby ≠ .pon) :
    (t.trstFresh c cold).word x = regDefault t.u x := by
  obtain ⟨hu, -, -, -, -, -, -, -, -, hregs⟩ := t.trstFresh_fields c cold
  unfold Tail.word
  rw [hu, hregs]
  exact smGet_keepFields _ _ _ _ fun f hf => by simp [Fd.keptTrst, h f hf]

/-- TRST is the fresh field side but for what the records of its cause and the boot of a slot may touch. -/
theorem Tail.boots_trst (c : RstCause) (cold : Bool) (t : Tail) : (t.trstFresh c cold).Boots (t.trst c cold) := by
  have hfresh : (t.trstFresh c cold).CleanBoots (t.trstFresh c cold) := ⟨.rfl _, rfl⟩
  have hlog : (t.trstFresh c cold).log.ready = false := rfl
  unfold Tail.trst
  extract_lets t1 fell clk _ aon t2 _ t3 t4 t5 t6 _ t7 t8
  have h5 : (t.trstFresh c cold).CleanBoots t5 := by
    have h4 : (t.trstFresh c cold).CleanBoots t4 := hfresh.cause (causeFd_addr c) 1
    unfold t5
    split
    · exact h4.cause (causeFd_addr .clkStop) 1
    · exact h4
  have h7 : (t.trstFresh c cold).CleanBoots t7 := by
    have h6 : (t.trstFresh c cold).CleanBoots t6 := (h5.evt 0x00 0).seal
    unfold t7
    split
    · exact ((h6.firmware _).evt 0x0B 3).audit 6 (fun t => t.fw.next) noFrame
    · exact h6
  have h8 : (t.trstFresh c cold).CleanBoots t8 := by
    unfold t8
    split
    · exact h7.evt 0x34 4
    · exact h7
  have hcold := (h8.boots.trans (Tail.boots_bootFw t8 h8.sys)).trans (.of_quiet (Tail.coldMark_quiet t8.bootFw cold))
  obtain ⟨-, -, -, -, -, -, -, -, hready⟩ := hcold.fields
  exact hcold.trans (.of_quiet (Tail.logAll_quiet _ (hready.trans hlog)))

theorem Tail.Boots.now {t r : Tail} (h : t.Boots r) : r.now = t.now := by
  have hk := h.kept
  simp only [Tail.bootKept, Tail.quiet, Tail.mk.injEq] at hk
  exact hk.2.1

theorem Tail.trst_aon (c : RstCause) (cold : Bool) (t : Tail) : (t.trst c cold).aon = t.aon.afterTrst cold := by
  obtain ⟨-, -, -, -, -, -, haon, -, -⟩ := (t.boots_trst c cold).fields
  obtain ⟨-, -, -, -, -, -, -, haon', -, -⟩ := t.trstFresh_fields c cold
  exact haon.trans haon'

theorem trst_answers (c : RstCause) (cold : Bool) (s : State) (hon : s.fs.us ≠ .off) :
    Answers (.trst c cold) s (fun r =>
      r.pending = s.pending ∧ r.hs = s.hs ∧ r.rsp = s.rsp ∧ r.rxBuf = s.rxBuf ∧ r.h2f = [] ∧ r.f2h = s.f2h
      ∧ r.fs.u = s.fs.u ∧ r.fs.now = s.fs.now ∧ r.fs.us = .boot ∧ r.fs.ft = 0 ∧ r.fs.otp = s.fs.otp ∧ r.fs.sess = 0
      ∧ r.fs.link = Link.init ∧ r.fs.aon = s.fs.aon.afterTrst cold ∧ r.fs.stn = Vector.ofFn (fun n => Station.init n.val)
      ∧ ∀ x, (∀ f ∈ regFields x, f.rby ≠ .never ∧ f.rby ≠ .pon) → x % 256 ≠ 0x0C → x ≠ DEV_RSTCAUSE.FW_ACT.addr →
          r.fs.word x = regDefault s.fs.u x) := by
  have hb := s.fs.boots_trst c cold
  obtain ⟨hu, hus, hft, hotp, hsess, hlink, haon, hstn, -⟩ := hb.fields
  obtain ⟨hu', hnow', hus', hft', hotp', hsess', hlink', haon', hstn', -⟩ := s.fs.trstFresh_fields c cold
  refine ⟨_, if_neg hon, rfl, rfl, rfl, rfl, rfl, rfl, hu.trans hu', hb.now.trans hnow', hus.trans hus', hft.trans hft',
    hotp.trans hotp', hsess.trans hsess', hlink.trans hlink', haon.trans haon', hstn.trans hstn', fun x hx hlatch hcause => ?_⟩
  exact (hb.word x (by simpa [notLatch] using hlatch) hcause).trans (s.fs.trstFresh_word c cold x hx)

/-! ## Resets that other events cause (10 R377, R375, 07 R256) -/

/-- A step that ends in a Tailstock reset of cause `c` after `d` ticks loses the requests on the lane: the epoch is the next one. -/
theorem exec_trstBy {i : Instr} {s : State} (f : Tail → Tail) (hexec : exec i s = trstNext s f) {c : RstCause} {d : Nat}
    (h : f s.fs = (s.fs.elapseTo d).trstBy c) :
    exec i s = .next { s with
      h2f := [], fs := (s.fs.elapseTo d).draw.trst c (Config.coldAtReset s.fs.fresh) } := by
  have hfresh : (s.fs.elapseTo d).fresh = s.fs.fresh := s.fs.elapse_fresh _
  have haon : (s.fs.elapseTo d).draw.aon = s.fs.aon := s.fs.elapse_aon _
  have hepoch : ((s.fs.elapseTo d).draw.trst c (Config.coldAtReset s.fs.fresh)).aon.epoch ≠ s.fs.aon.epoch := by
    rw [Tail.trst_aon, haon]
    simp [Aon.afterTrst]
  rw [hexec]
  unfold trstNext
  rw [h]
  unfold Tail.trstBy
  rw [hfresh]
  dsimp only
  rw [if_neg hepoch]

/-- Settles O5: but for records, latches and the boot of a slot, TRST is the fresh field side `Tail.trstFresh`; the steps that end in a
reset end in TRST of their cause. -/
theorem tailstockResets : Obligations.TailstockResets := by
  refine ⟨trst_answers, fun s hon => ?_, fun s hus ht3 ht5 hdead hfirst => ?_, fun s hus ht3 ht6 hrec => ?_⟩
  · refine exec_trstBy _ rfl ?_
    rw [if_pos hon]
    rfl
  · have hexec : exec (.storeInitDone true) s = execStoreInitDone true s := rfl
    unfold execStoreInitDone at hexec
    refine exec_trstBy _ hexec ?_
    have hboot : (s.fs.elapseTo (s.fs.boot.t3At + bootT5)).boot.checkFailed = false := by rw [Tail.elapseTo_eq, Tail.elapse_boot, hfirst]
    simp [hus, ht3, ht5, hdead, hboot]
  · refine exec_trstBy _ rfl ?_
    simp [hus, ht3, ht6, hrec]

end Sys2Proof.Machine
end

section
/-! The gates of the stations (10 R366): the end of a step settles them, and what no change of unit, state or gate touches leaves them
safe. -/

namespace Sys2Proof.Machine

/-! ## What the gates hang on -/

/-- The state and the gates of a station. -/
def Station.gate (s : Station) : StnSt × Gate := (s.sq.st, s.modu.gate)

/-- What `Tail.GatesSafe` reads of the field side: which stations there are, the unit's state, and every station's state and gates. -/
def Tail.gates (t : Tail) : UnitInfo × UnitSt × Vector (StnSt × Gate) 4 := (t.u, t.us, t.stn.map Station.gate)

section
variable {t r : Tail}

theorem Tail.stns_congr (h : r.u = t.u) : r.stns = t.stns := by
  unfold Tail.stns Tail.fitted
  rw [h]

theorem Tail.gates_stn (h : r.gates = t.gates) (n : Stn) :
    (r.stnGet n).sq.st = (t.stnGet n).sq.st ∧ (r.stnGet n).modu.gate = (t.stnGet n).modu.gate := by
  obtain ⟨-, hv⟩ := Prod.mk.inj (Prod.mk.inj h).2
  have hn := congrArg (fun v : Vector (StnSt × Gate) 4 => v[n]) hv
  simpa [Tail.stnGet, Station.gate] using hn

theorem Tail.GatesSafe.of_gates (hs : t.GatesSafe) (h : r.gates = t.gates) : r.GatesSafe := by
  obtain ⟨hu, hrest⟩ := Prod.mk.inj h
  obtain ⟨hus, -⟩ := Prod.mk.inj hrest
  intro n hn hon
  obtain ⟨hst, hgate⟩ := Tail.gates_stn h n
  rw [hus, hst]
  exact hs n (Tail.stns_congr hu ▸ hn) (hgate ▸ hon)

/-- No gates are enabled in a field side made anew. -/
theorem Tail.gatesSafe_of_init (h : r.stn = Vector.ofFn (fun n => Station.init n.val)) : r.GatesSafe := by
  intro n _ hon
  have hoff : (r.stnGet n).modu.gate = .off := by simp [Tail.stnGet, h, Station.init, Modu.init]
  rw [hoff] at hon
  exact absurd hon (by decide)

/-- Records and the log leave the gates. -/
theorem Tail.Logs.gates (h : t.Logs r) : r.gates = t.gates := show r.unlogged.gates = t.unlogged.gates by rw [h.1]

end

/-! ## Changes of one station -/

section
variable (t : Tail) (n : Stn)

theorem Tail.stnMap_gates_congr {g g' : Station → Station} (h : (g (t.stnGet n)).gate = (g' (t.stnGet n)).gate) :
    (t.stnMap n g).gates = (t.stnMap n g').gates := by
  have hv : (t.stn.set n (g (t.stnGet n))).map Station.gate = (t.stn.set n (g' (t.stnGet n))).map Station.gate := by
    rw [Vector.map_set, Vector.map_set, h]
  exact congrArg (fun v => (t.u, t.us, v)) hv

/-- A change of a station that leaves its state and its gates. -/
theorem Tail.stnMap_gates {g : Station → Station} (h : (g (t.stnGet n)).gate = (t.stnGet n).gate) : (t.stnMap n g).gates = t.gates := by
  have hid : (t.stnMap n id).gates = t.gates := by
    have hset : t.stn.set n t.stn[n] = t.stn := Vector.set_getElem_self n.2
    exact congrArg (fun v : Vector Station 4 => (t.u, t.us, v.map Station.gate)) hset
  exact (t.stnMap_gates_congr n (g' := id) h).trans hid

@[simp] theorem Tail.blockGates_gates : (t.blockGates n).gates = t.gates := by
  refine t.stnMap_gates n ?_
  unfold Station.gate
  dsimp only
  split
  · split <;> rfl
  · split <;> rfl

end

/-! ## The end of a step (10 R366) -/

section
variable (t : Tail) (n : Stn)

/-- The gates of station `n` are enabled only where 10 R366 has them so. -/
def Tail.SafeAt : Prop := (t.stnGet n).modu.gate = .enabled → t.us.gatesMay = true ∧ (t.stnGet n).sq.st.isRunning = true

/-- The gate block that `Tail.gateUpdate` gives station `n`. -/
def Tail.gateNext : Gate :=
  if t.gatesOn n then .enabled
  else if (t.stnGet n).modu.gate = .asc && (t.stnGet n).sq.st = .faulted && t.pd 6 then .asc else .off

/-- The gate block of crossing 0x16 is all that the gates see of its update. -/
theorem Tail.gateUpdate_gates : (t.gateUpdate n).gates = (t.moduMap n fun m => { m with gate := t.gateNext n }).gates := by
  unfold Tail.gateUpdate
  extract_lets m next t1
  have h1 : t1.gates = (t.moduMap n fun m => { m with gate := t.gateNext n }).gates := by
    unfold t1
    split
    · next hsame => exact (t.stnMap_gates n (congrArg (Prod.mk _) hsame.symm)).symm
    · exact t.stnMap_gates_congr n rfl
  split
  · split
    · exact h1
    · exact (t1.blockGates_gates n).trans h1
  · exact h1

variable {t}

theorem Tail.SafeAt.of_gates {r : Tail} (hs : t.SafeAt n) (h : r.gates = t.gates) : r.SafeAt n := by
  obtain ⟨hst, hgate⟩ := Tail.gates_stn h n
  obtain ⟨-, hrest⟩ := Prod.mk.inj h
  obtain ⟨hus, -⟩ := Prod.mk.inj hrest
  unfold Tail.SafeAt
  rw [hus, hst, hgate]
  exact hs

/-- A station's update makes its gates safe. -/
theorem Tail.gateUpdate_safeAt : (t.gateUpdate n).SafeAt n := by
  refine Tail.SafeAt.of_gates n (fun hon => ?_) (t.gateUpdate_gates n)
  have hnext : t.gateNext n = .enabled := by simpa [Tail.moduMap] using hon
  have hgates : t.gatesOn n = true := by
    unfold Tail.gateNext at hnext
    split at hnext
    · assumption
    · split at hnext <;> exact absurd hnext (by decide)
  simp only [Tail.gatesOn, Bool.and_eq_true] at hgates
  obtain ⟨⟨⟨hus, hst⟩, -⟩, -⟩ := hgates
  exact ⟨hus, by simpa [Tail.moduMap] using hst⟩

/-- It leaves the other stations. -/
theorem Tail.gateUpdate_safeAt_of {m : Stn} (hs : t.SafeAt m) : (t.gateUpdate n).SafeAt m := by
  by_cases hm : m = n
  · exact hm ▸ t.gateUpdate_safeAt n
  · have hget := t.stnMap_get_ne n m (fun s => { s with modu := { s.modu with gate := t.gateNext n } }) (Ne.symm hm)
    refine Tail.SafeAt.of_gates m ?_ (t.gateUpdate_gates n)
    unfold Tail.SafeAt Tail.moduMap
    rw [hget]
    exact hs

end

/-- The updates of the stations of a list make them safe. -/
theorem Tail.gateUpdates_safeAt {n : Stn} (l : List Stn) :
    ∀ {t : Tail}, n ∈ l ∨ t.SafeAt n → (l.foldl (fun t n => t.gateUpdate n) t).SafeAt n := by
  induction l with
  | nil => exact fun h => h.resolve_left (List.not_mem_nil)
  | cons m l ih =>
    intro t h
    refine ih ?_
    rcases h with h | h
    · rcases List.mem_cons.mp h with rfl | h
      · exact .inr (t.gateUpdate_safeAt n)
      · exact .inl h
    · exact .inr (t.gateUpdate_safeAt_of m h)

@[simp] theorem Tail.gateUpdate_u (t : Tail) (n : Stn) : (t.gateUpdate n).u = t.u := (Prod.mk.inj (t.gateUpdate_gates n)).1

/-- With its states settled the field side has safe gates. -/
theorem Tail.gatesSafe_settle (t : Tail) : t.settle.GatesSafe := by
  unfold Tail.settle
  extract_lets t1 t2 t3
  have hu : (t3.stns.foldl (fun t n => t.gateUpdate n) t3).u = t3.u :=
    List.foldlRecOn (motive := fun r : Tail => r.u = t3.u) _ _ rfl fun r hr n _ => (r.gateUpdate_u n).trans hr
  intro n hn
  rw [Tail.stns_congr hu] at hn
  exact Tail.gateUpdates_safeAt _ (.inl hn)

/-- So it has at the end of every step that settles them. -/
theorem Tail.gatesSafe_finish (t : Tail) : t.finish.GatesSafe := t.gatesSafe_settle.of_gates (Tail.logs_logAll (.rfl _)).gates

end Sys2Proof.Machine
end

section
/-! What operations of the model leave of the gates (10 R366): records, reads of the store, changes of one station, resets and sleep. -/

namespace Sys2Proof.Machine

@[simp] theorem Tail.evtV_gates (t : Tail) (p i : Nat) (v : Option Word) : (t.evtV p i v).gates = t.gates := by simp [Tail.gates]
@[simp] theorem Tail.evt_gates (t : Tail) (p i : Nat) : (t.evt p i).gates = t.gates := t.evtV_gates p i none

/-- No step of a record touches the gates. -/
theorem Tail.recordKeeps_gates (o : Tail) : Tail.RecordKeeps (fun t => t.gates = o.gates) where
  store _ _ h := h
  latch t p i v h := h ▸ t.evtV_gates p i v
  count _ _ _ _ h := h
  desc _ _ _ h := h

/-! ## Field by field -/

section
variable (t : Tail) (n : Stn)

@[simp] theorem Tail.elapse_gates (d : Nat) : (t.elapse d).gates = t.gates := by simp [Tail.gates]
@[simp] theorem Tail.elapseTo_gates (d : Nat) : (t.elapseTo d).gates = t.gates := t.elapse_gates _
@[simp] theorem Tail.p_gates (f : Fd) (x : Nat) : (t.p f x).gates = t.gates := rfl
@[simp] theorem Tail.inc_gates (f : Fd) : (t.inc f).gates = t.gates := rfl
@[simp] theorem Tail.aonMap_gates (f : Aon → Aon) : (t.aonMap f).gates = t.gates := rfl
@[simp] theorem Tail.wbMap_gates (b : Fin 8) (f : List WbEntry → List WbEntry) : (t.wbMap b f).gates = t.gates := rfl
@[simp] theorem Tail.logAll_gates : t.logAll.gates = t.gates := (Tail.logs_logAll (.rfl t)).gates

/-- A fold of steps that leave the gates leaves them. -/
theorem Tail.foldl_gates {α : Type} {f : Tail → α → Tail} (l : List α) (h : ∀ r a, (f r a).gates = r.gates) :
    (l.foldl f t).gates = t.gates :=
  List.foldlRecOn (motive := fun r : Tail => r.gates = t.gates) l f rfl fun r hr a _ => (h r a).trans hr

theorem Tail.moduMap_gates {f : Modu → Modu} (h : (f (t.stnGet n).modu).gate = (t.stnGet n).modu.gate) : (t.moduMap n f).gates = t.gates :=
  t.stnMap_gates n (congrArg (Prod.mk _) h)

theorem Tail.sqMap_gates {f : Sq → Sq} (h : (f (t.stnGet n).sq).st = (t.stnGet n).sq.st) : (t.sqMap n f).gates = t.gates :=
  t.stnMap_gates n (congrArg (Prod.mk · _) h)

@[simp] theorem Tail.isnsMap_gates (f : Isns → Isns) : (t.isnsMap n f).gates = t.gates := t.stnMap_gates n rfl
@[simp] theorem Tail.banksMap_gates (f : Banks → Banks) : (t.banksMap n f).gates = t.gates := t.stnMap_gates n rfl
@[simp] theorem Tail.protMap_gates (f : Prot → Prot) : (t.protMap n f).gates = t.gates := t.stnMap_gates n rfl
@[simp] theorem Tail.fbMap_gates (f : Fb → Fb) : (t.fbMap n f).gates = t.gates := t.stnMap_gates n rfl

/-! ## The store -/

@[simp] theorem Tail.memRead_gates (a : Nat) : (t.memRead a).2.gates = t.gates := (Tail.recordKeeps_gates t).memRead a rfl
@[simp] theorem Tail.memPut_gates (a : Nat) (w : StoreWord) : (t.memPut a w).gates = t.gates := rfl

@[simp] theorem Tail.wbWrite_gates (e : WbEntry) : (t.wbWrite e).gates = t.gates := by
  unfold Tail.wbWrite
  split
  · rfl
  · rfl

@[simp] theorem Tail.flushLog_gates (r : Nat) (cut : Option Nat) : (t.flushLog r cut).gates = t.gates := by
  unfold Tail.flushLog
  split
  · rfl
  · exact (Tail.recordKeeps_gates t).eventRecs _ rfl

theorem Tail.retryHeld_gates (k : Nat) : (t.retryHeld k).gates = t.gates := by
  unfold Tail.retryHeld
  split
  · rfl
  · split
    · exact (Tail.recordKeeps_gates t).putRec (t := Tail.sstMap { t with ssn := t.ssn + 1 } k _) k _ rfl
    · rfl

end

end Sys2Proof.Machine
end

section
/-! The gates over messages, frames and transactions of the bus (10 R366): a request that the field side serves ends its step, and nothing
else on the way touches the gates. -/

namespace Sys2Proof.Machine

/-! ## Records and reads of the system area -/

section
variable (t : Tail)

@[simp] theorem Tail.imgLost_gates (r : Nat) : (t.imgLost r).gates = t.gates := rfl

@[simp] theorem Tail.descLost_gates (k : Nat) : (t.descLost k).gates = t.gates := rfl

theorem Tail.sysLost_gates (a : Nat) : (t.sysLost a).gates = t.gates := by
  unfold Tail.sysLost
  dsimp only
  refine (Tail.evtV_gates _ _ _ _).trans ?_
  split
  · split
    · exact (Tail.p_gates _ _ _).trans ((Tail.imgLost_gates _ _).trans (t.imgLost_gates _))
    · rfl
  · split
    · exact t.descLost_gates _
    · exact Eq.refl t.gates

theorem Tail.sysReads_gates (x n : Nat) : (t.sysReads x n).gates = t.gates :=
  t.foldl_gates _ fun r a => (Tail.recordKeeps_gates r).sysRead_of_lost (fun q h => (q.sysLost_gates a).trans h) rfl

theorem Tail.sysWrites_gates (x n : Nat) : (t.sysWrites x n).gates = t.gates := (Tail.recordKeeps_gates t).sysWrites x n rfl

theorem Tail.record_gates (w : Producer) (k kind : Nat) (v : Bool) (d : List Byte) : (t.record w k kind v d).gates = t.gates := by
  have happend := (Tail.recordKeeps_gates t).appendAs w k ⟨k, kind, v, false, d⟩ (t.sysReads_gates (descX k) 2)
  unfold Tail.record Tail.append Tail.appendRec
  split
  · rfl
  · dsimp only
    split
    · exact (Tail.sysWrites_gates _ _ _).trans happend
    · exact happend

theorem Tail.commitOn_gates {f : Tail → Tail} (k : Nat) (h : ∀ r : Tail, (f r).gates = r.gates) : (t.commitOn k f).gates = t.gates := by
  unfold Tail.commitOn Tail.commitAny
  dsimp only
  split
  · exact h _
  · exact h _

/-! ## Answers of the field side -/

theorem Tail.keepRsp_gates (c : Fin 16) (r : Retained) : (t.keepRsp c r).gates = t.gates := t.sysWrites_gates _ _

/-- A reply leaves the gates safe: it ends its step, and what follows are its record and the log. -/
theorem Ans.reply_gatesSafe (a : Ans) (cstr : Nat) (body : Word → List Byte) : (a.reply cstr body).t.GatesSafe := by
  refine (Tail.gatesSafe_finish a.t).of_gates ?_
  exact (Tail.logAll_gates _).trans (a.t.finish.commitOn_gates cstr fun r => r.record_gates _ _ _ _ _)

theorem Tail.runHsp_gatesSafe (cstr : Nat) (op : HspOp) (f : Frame) : (t.runHsp cstr op f).t.GatesSafe := by
  unfold Tail.runHsp
  exact Ans.reply_gatesSafe _ _ _

theorem Tail.runMb_gatesSafe (cstr : Nat) (c : MbCmd) (d : List Byte) : (t.runMb cstr c d).t.GatesSafe := by
  unfold Tail.runMb
  exact Ans.reply_gatesSafe _ _ _

/-- A request leaves the gates safe, if its run does. -/
theorem Tail.takeReq_gatesSafe (c : Fin 16) (l : Half) (d : Disp) {run : Tail → List Byte × Tail} (h : ∀ r, (run r).2.GatesSafe) :
    (t.takeReq c l d run).2.GatesSafe := by
  unfold Tail.takeReq
  split
  · exact Tail.gatesSafe_finish _
  · split
    · exact Tail.gatesSafe_finish _
    · exact h _

theorem Tail.answerHsp_gatesSafe (cstr : Nat) (l : Half) (op : HspOp) (f : Frame) (chk : Word) (d : Disp) :
    (t.answerHsp cstr l op f chk d).2.GatesSafe := by
  refine t.takeReq_gatesSafe _ l d fun r => ?_
  split
  · exact Tail.gatesSafe_finish _
  · exact Tail.GatesSafe.of_gates (r.runHsp_gatesSafe cstr op f) (Tail.keepRsp_gates _ _ _)

theorem Tail.answerMb_gatesSafe (cstr : Nat) (l : Half) (cmd : Byte) (bytes : List Byte) (d : Disp) :
    (t.answerMb cstr l cmd bytes d).2.GatesSafe := by
  refine t.takeReq_gatesSafe _ l d fun r => ?_
  split
  · exact Tail.gatesSafe_finish _
  · split
    · next m _ =>
      exact Tail.GatesSafe.of_gates (r.runMb_gatesSafe cstr m bytes) (Tail.keepRsp_gates _ _ _)
    · exact Tail.gatesSafe_finish _

end

/-! ## Messages at the field side -/

section
variable {t : Tail} (ht : t.GatesSafe)
include ht

theorem Tail.retransmit_gatesSafe (cstr : Nat) (l : Half) (k : Nat) : (t.retransmit cstr l k).GatesSafe := by
  unfold Tail.retransmit
  split
  · split
    · exact Tail.gatesSafe_finish _
    · exact ht
  · exact ht

omit ht in
theorem Tail.reqHsp_gatesSafe (t : Tail) (cstr : Nat) (l : Half) (op : HspOp) (f : Frame) (chk : Word) (d : Disp) :
    (t.reqHsp cstr l op f chk d).GatesSafe := by
  have h := t.answerHsp_gatesSafe cstr l op f chk d
  unfold Tail.reqHsp
  split
  · next e =>
    rw [e] at h
    exact Tail.GatesSafe.of_gates h rfl
  · next e =>
    rw [e] at h
    exact h

omit ht in
theorem Tail.reqMb_gatesSafe (t : Tail) (cstr : Nat) (l : Half) (cmd : Byte) (bytes : List Byte) (d : Disp) :
    (t.reqMb cstr l cmd bytes d).GatesSafe := by
  have h := t.answerMb_gatesSafe cstr l cmd bytes d
  unfold Tail.reqMb
  split
  · next e =>
    rw [e] at h
    exact Tail.GatesSafe.of_gates h rfl
  · next e =>
    rw [e] at h
    exact h

theorem Tail.take_gatesSafe (m : H2F) : (t.take m).GatesSafe := by
  cases m with
  | reqHsp => exact t.reqHsp_gatesSafe _ _ _ _ _ _
  | reqMb => exact t.reqMb_gatesSafe _ _ _ _ _
  | nakH => exact Tail.retransmit_gatesSafe ht _ _ _

theorem Tail.hears_gatesSafe (m : H2F) (rx : Rx) : (t.hears m rx).GatesSafe := by
  have hlink : Tail.GatesSafe { t with link := t.link.carried t.now m.count 0 } := ht.of_gates rfl
  unfold Tail.hears
  dsimp only
  split
  · exact hlink
  · split
    · exact Tail.take_gatesSafe hlink _
    · exact Tail.gatesSafe_finish _
    · exact hlink.of_gates rfl
    · exact hlink

end

/-! ## Messages on the lanes -/

section
variable (t : Tail)

@[simp] theorem Tail.discard_gates (f : Fd) : (t.discard f).gates = t.gates := by
  unfold Tail.discard
  simp

@[simp] theorem Tail.dropOpen_gates : t.dropOpen.gates = t.gates := by
  unfold Tail.dropOpen
  split
  · exact t.discard_gates _
  · rfl

theorem Tail.cutMessage_gates (c : Nat) (l : Half) : (t.cutMessage c l).gates = t.gates := by
  unfold Tail.cutMessage
  dsimp only
  split
  · rfl
  · split
    · exact (Tail.logAll_gates _).trans (Tail.discard_gates _ _)
    · rfl

variable (s : State)

@[simp] theorem State.pump_gates : s.pump.fs.gates = s.fs.gates := by
  unfold State.pump
  split
  · rfl
  · split
    · rfl
    · split
      · rfl
      · rfl

@[simp] theorem State.openLane_gates : s.openLane.fs.gates = s.fs.gates := by
  unfold State.openLane
  split
  · exact (Tail.logAll_gates _).trans s.fs.dropOpen_gates
  · rfl

@[simp] theorem State.closeLane_gates (m : H2F) : (s.closeLane m).fs.gates = s.fs.gates := by
  unfold State.closeLane
  dsimp only
  split
  · rfl
  · rfl

@[simp] theorem State.toCell_gates (d : Timer) : (s.toCell d).fs.gates = s.fs.gates := by
  unfold State.toCell
  split
  · exact s.fs.elapseTo_gates _
  · rfl

end
end Sys2Proof.Machine
end

section
/-! The gates over whole frames and bus transactions and over what the Headstock hears (10 R366): the Headstock has no hand in the gates,
and what the field side serves it answers safely. -/

namespace Sys2Proof.Machine

/-! ## What the Headstock hears (02 R63 to R71) -/

section
variable (s : State)

@[simp] theorem State.stray_fs (more : Bool) : (s.stray more).fs = s.fs := by
  unfold State.stray
  split
  · rfl
  · rfl

@[simp] theorem State.segBad_fs (x : HspFrame) (o : OutReq) (k r : Nat) : (s.segBad x o k r).fs = s.fs := by
  unfold State.segBad
  split
  · rfl
  · rfl

@[simp] theorem State.mbBad_fs (o : OutReq) (r : Nat) : (s.mbBad o r).fs = s.fs := by
  unfold State.mbBad
  split
  · rfl
  · rfl

theorem State.segArrives_fs (mb : Bool) (c : Nat) (l : Half) (k : Nat) (more : Bool) (b : List Byte) :
    (s.segArrives mb c l k more b).fs = s.fs := by
  unfold State.segArrives
  dsimp only
  split
  · split
    · rfl
    · split
      · split
        · rfl
        · exact s.stray_fs more
      · exact s.stray_fs more
  · split
    · rfl
    · split
      · exact s.stray_fs more
      · split
        · rfl
        · rfl

theorem State.segDefect_fs (r : Nat) (hdr : Option Msg) : (s.segDefect r hdr).fs = s.fs := by
  unfold State.segDefect
  split
  · split
    · rfl
    · exact s.segBad_fs ..
  · split
    · split
      · split
        · exact s.mbBad_fs ..
        · rfl
      · rfl
    · rfl

theorem State.nakHspReq_fs (hdr : Bool) (c : Nat) (l : Half) : (s.nakHspReq hdr c l).fs = s.fs := by
  unfold State.nakHspReq
  split
  · split
    · rfl
    · rfl
  · rfl

theorem State.nakMbReq_fs (hdr : Bool) (c : Nat) (l : Half) : (s.nakMbReq hdr c l).fs = s.fs := by
  unfold State.nakMbReq
  split
  · split
    · split
      · rfl
      · rfl
    · rfl
  · rfl

@[simp] theorem State.hears_gates (m : F2H) (rest : List F2H) (rx : Rx) : (s.hears m rest rx).fs.gates = s.fs.gates := by
  unfold State.hears
  dsimp only
  rw [State.pump_gates]
  split
  · rfl
  · split
    · rw [State.segArrives_fs]
    · rw [State.nakMbReq_fs, State.nakHspReq_fs]
    · rw [State.segDefect_fs]
    · rw [State.segDefect_fs]
    · rfl

/-! ## Frames (08 sections 2 to 8) -/

theorem State.localOp_fs (op : HspOp) (f : Frame) : (s.localOp op f).2.2.fs = s.fs := by
  unfold State.localOp
  dsimp only
  repeat' split
  all_goals rfl

theorem State.localEnd_fs (op : HspOp) (f : Frame) (bad : Bool) : (s.localEnd op f bad).fs = s.fs := by
  unfold State.localEnd
  split
  · rfl
  · exact s.localOp_fs op f

theorem State.fieldEnd_gates (op : HspOp) (f : Frame) (o : OutReq) (chk : Word) (bad : Bool) :
    (s.fieldEnd op f o chk bad).fs.gates = s.fs.gates := by
  unfold State.fieldEnd
  dsimp only
  split
  · exact s.closeLane_gates _
  · split
    · exact s.closeLane_gates _
    · exact s.closeLane_gates _

variable {s : State} (hs : s.fs.GatesSafe)
include hs

theorem State.fieldWhole_gatesSafe (op : HspOp) (f : Frame) (l : Half) (d : Disp) : (s.fieldWhole op f l d).fs.GatesSafe := by
  unfold State.fieldWhole
  dsimp only
  split
  · exact hs
  · exact Tail.GatesSafe.of_gates (s.fs.answerHsp_gatesSafe _ _ _ _ _ _) rfl

theorem State.abandonWhole_gatesSafe (op : HspOp) (f : Frame) (l : Half) : (s.abandonWhole op f l).fs.GatesSafe := by
  unfold State.abandonWhole
  split
  · exact Tail.GatesSafe.of_gates (s.fs.answerHsp_gatesSafe _ _ _ _ _ _) rfl
  · exact hs

theorem State.hostOp_gatesSafe (op : HspOp) (f : Frame) : (s.hostOp op f).fs.GatesSafe := by
  unfold State.hostOp
  dsimp only
  split
  · exact hs
  · split
    · exact hs
    · split
      · exact (State.localOp_fs s.takeLateHsp op f).symm ▸ hs
      · split
        · exact hs
        · split
          · split
            · exact State.abandonWhole_gatesSafe (s := { s.takeLateHsp with hs := _ }) hs op f _
            · exact State.abandonWhole_gatesSafe (s := { s.takeLateHsp with hs := _ }) hs op f _
          · exact State.fieldWhole_gatesSafe (s := { s.takeLateHsp with hs := _ }) hs op f _ _

/-! ## Transactions of the bus (09) -/

theorem State.mbWrite_gatesSafe (x : MbTxn) (c : MbCmd) {field : State → State}
    (hfield : ∀ s : State, s.fs.GatesSafe → (field s).fs.GatesSafe) : (s.mbWrite x c field).fs.GatesSafe := by
  unfold State.mbWrite
  dsimp only
  split
  · exact hs
  · split
    · exact hs
    · split
      · exact hs
      · split
        · exact hs
        · split
          · exact hfield s hs
          · exact hs

theorem State.mbProceed_gatesSafe (x : MbTxn) (c : MbCmd) {field : State → State}
    (hfield : ∀ s : State, s.fs.GatesSafe → (field s).fs.GatesSafe) : (s.mbProceed x c field).fs.GatesSafe := by
  unfold State.mbProceed
  dsimp only
  split
  · exact State.mbWrite_gatesSafe hs x c hfield
  · split
    · exact hs
    · split
      · exact hfield s hs
      · exact hs
  · exact hs
  · exact hs

theorem State.mbStart_gatesSafe (x : MbTxn) {field : MbCmd → State → State}
    (hfield : ∀ (c : MbCmd) (s : State), s.fs.GatesSafe → (field c s).fs.GatesSafe) : (s.mbStart x field).fs.GatesSafe := by
  unfold State.mbStart
  dsimp only
  split
  · exact hs
  · split
    · exact hs
    · split
      · exact hs
      · next c _ =>
        split
        · exact hs
        · split
          · exact State.mbProceed_gatesSafe (s := { s.takeLateMb with hs := s.takeLateMb.hs.mbMatch s.fs.u }) hs x c (hfield c)
          · split
            · exact hs
            · split
              · exact hs
              · exact hs

theorem State.mbAtOnce_gatesSafe (x : MbTxn) (c : MbCmd) : (s.mbAtOnce x c).fs.GatesSafe := by
  unfold State.mbAtOnce
  dsimp only
  split
  · have h : (s.fs.answerMb 8 (s.hs.nextLseq 8).1 (mbCode c) (s.hs.mbArgs s.fs.u c x) .execute).2.GatesSafe :=
      s.fs.answerMb_gatesSafe _ _ _ _ _
    split
    · exact h.of_gates rfl
    · exact h.of_gates rfl
  · exact hs

theorem State.mbWhole_gatesSafe (x : MbTxn) : (s.mbWhole x).fs.GatesSafe :=
  State.mbStart_gatesSafe hs x fun c _ h => State.mbAtOnce_gatesSafe h x c

theorem State.mbResume_gatesSafe : s.mbResume.fs.GatesSafe := by
  unfold State.mbResume
  split
  · split
    · split
      · exact State.mbProceed_gatesSafe
          (s := { s with hs := { s.hs with mb := { s.hs.mb with phase := .idle, found := true, cellT := none } } }) hs _ _ fun _ h => h
      · exact hs
    · exact hs
  · exact hs

theorem State.received_gatesSafe (m : H2F) (rest : List H2F) (rx : Rx) : (s.received m rest rx).fs.GatesSafe :=
  Tail.GatesSafe.of_gates (Tail.hears_gatesSafe hs m rx) (State.pump_gates _)

end
end Sys2Proof.Machine
end

section
/-! Settling O54: every command leaves the gates safe (10 R366). -/

namespace Sys2Proof.Machine

/-- The answer of a command leaves the gates safe. -/
def GatesNext (o : Host.Outcome State Fault Refusal) : Prop := ∀ t, o = .next t → t.fs.GatesSafe

section
variable {s : State}

theorem GatesNext.next {t : State} (h : t.fs.GatesSafe) : GatesNext (.next t) := by
  rintro _ ⟨⟩
  exact h

theorem GatesNext.tail {f : Tail → Tail} (h : (f s.fs).GatesSafe) : GatesNext (tailNext s f) := .next h

theorem GatesNext.trst {f : Tail → Tail} (h : (f s.fs).GatesSafe) : GatesNext (trstNext s f) := .next h

theorem GatesNext.ite {c : Prop} [Decidable c] {a b : Host.Outcome State Fault Refusal} (ha : GatesNext a) (hb : GatesNext b) :
    GatesNext (if c then a else b) := by
  split
  · exact ha
  · exact hb

variable {t : Tail} (ht : t.GatesSafe)
include ht

/-- A step that ends, or leaves the field side as it was. -/
theorem Tail.GatesSafe.actIf {c : Prop} [Decidable c] (r : Tail) : Tail.GatesSafe (if c then r.finish else t) := by
  split
  · exact Tail.gatesSafe_finish r
  · exact ht

theorem Tail.GatesSafe.idleIf {c : Prop} [Decidable c] (r : Tail) : Tail.GatesSafe (if c then t else r.finish) := by
  split
  · exact ht
  · exact Tail.gatesSafe_finish r

end

/-! ## Operations that leave the gates (10 R366) -/

section
variable (t : Tail) (n : Stn)

@[simp] theorem Tail.passBegin_gates (d : Nat) : (t.passBegin d).gates = t.gates := rfl

theorem Tail.pllUp_gates : t.pllUp.gates = t.gates := rfl

@[simp] theorem Tail.unretain_gates : t.unretain.gates = t.gates := by
  unfold Tail.unretain
  split
  · rfl
  · rfl

theorem Tail.unstableClr_gates : t.unstableClr.gates = t.gates := by
  unfold Tail.unstableClr
  dsimp only
  split
  · rfl
  · rfl

theorem Tail.calBegin_gates (why : CalFor) : (t.calBegin n why).gates = t.gates := (Tail.p_gates _ _ _).trans (t.isnsMap_gates n _)

theorem Tail.cmpOut_gates (on : Bool) : (t.cmpOut n on).gates = t.gates := rfl

theorem Tail.startRefused_gates : (t.startRefused n).gates = t.gates := (Tail.evt_gates _ _ _).trans (t.inc_gates _)

theorem Tail.startCmd_gates : (t.startCmd n).gates = t.gates := by
  unfold Tail.startCmd
  split
  · exact t.sqMap_gates n rfl
  · exact t.startRefused_gates n

theorem Tail.stopReq_gates (r : StopReq) : (t.stopReq n r).gates = t.gates := t.sqMap_gates n rfl

theorem Tail.emgStop_gates (w : Word) : (t.emgStop w).gates = t.gates := by
  unfold Tail.emgStop
  dsimp only
  split
  · refine t.foldl_gates _ fun r m => ?_
    split
    · exact r.stopReq_gates m _
    · rfl
  · rfl

theorem Tail.releaseCmd_gates (m : Nat) : (t.releaseCmd m).gates = t.gates := by
  refine t.foldl_gates _ fun r n => ?_
  split
  · exact r.sqMap_gates n rfl
  · rfl

theorem Tail.resume_gates (m : Nat) : (t.resume m).gates = t.gates := by
  refine t.foldl_gates _ fun r k => ?_
  split
  · rfl
  · rfl

theorem Tail.commit_gates {f : Tail → Tail} (h : ∀ r : Tail, (f r).gates = r.gates) : (t.commit f).gates = t.gates := h _

theorem Tail.coldMark_gates (cold : Bool) : (t.coldMark cold).gates = t.gates := by
  unfold Tail.coldMark
  split
  · exact t.evt_gates _ _
  · rfl

theorem Tail.wakeBegin_gates (cold : Bool) : (t.wakeBegin cold).gates = t.gates := Tail.coldMark_gates _ cold

theorem Tail.pDs_gates (f : Fd) (x : Nat) : (t.pDs f x).gates = t.gates := rfl

theorem Tail.injApply_gates (w : Word) : (t.injApply w).gates = t.gates := by
  unfold Tail.injApply
  extract_lets m b flips
  split
  · rfl
  · rfl

theorem Tail.bankCopy_gates : (t.bankCopy n).gates = t.gates := t.foldl_gates _ fun _ _ => rfl

/-! ## Commands of the switches (17) -/

/-- What edges of switches and the commands that they follow leave: the gate block. -/
theorem Tail.gateStep_gates : (t.gateStep n).gates = t.gates := by
  refine t.moduMap_gates n ?_
  extract_lets _ _ off on
  split
  · rfl
  · rfl

theorem Tail.wantStep_gates : (t.wantStep n).gates = t.gates := by
  unfold Tail.wantStep
  split
  · rfl
  · exact (Tail.gateStep_gates _ n).trans (t.moduMap_gates n rfl)

theorem Tail.setFb_gates (ch : Nat) (level : Bool) : (t.setFb n ch level).gates = t.gates := t.moduMap_gates n rfl

end

/-! ## Resets, sleep and shutdown -/

section
variable (t : Tail)

/-- A field side made anew enables no gates: after PON, after TRST, without supplies, in a sleep without PD2 to PD7. -/
theorem Tail.pon_gatesSafe (a b cold : Bool) : (t.pon a b cold).GatesSafe := by
  obtain ⟨-, -, -, -, -, -, -, hstn, -⟩ := (t.boots_pon a b cold).fields
  exact Tail.gatesSafe_of_init hstn

theorem Tail.trst_gatesSafe (c : RstCause) (cold : Bool) : (t.trst c cold).GatesSafe := by
  obtain ⟨-, -, -, -, -, -, -, hstn, -⟩ := (t.boots_trst c cold).fields
  exact Tail.gatesSafe_of_init hstn

theorem Tail.trstBy_gatesSafe (c : RstCause) : (t.trstBy c).GatesSafe := t.draw.trst_gatesSafe c _

theorem Tail.powerOff_gatesSafe : t.powerOff.GatesSafe := by
  obtain ⟨-, -, -, hstn⟩ := t.powerOff_fields
  exact Tail.gatesSafe_of_init hstn

theorem Tail.asleep_gatesSafe (us : UnitSt) : (t.asleep us).GatesSafe := by
  refine Tail.gatesSafe_of_init ?_
  unfold Tail.asleep
  extract_lets cfg r pon r1
  refine List.foldlRecOn (motive := fun r : Tail => r.stn = _) _ _ rfl fun q hq e _ => ?_
  refine List.foldlRecOn (motive := fun r : Tail => r.stn = _) _ _ hq fun q hq f _ => ?_
  split
  · exact hq
  · exact hq

theorem Tail.hwShutdown_gatesSafe (c : Nat) : (t.hwShutdown c).GatesSafe := by
  unfold Tail.hwShutdown
  extract_lets _ _ _ _ _ _ t1 _
  refine (Tail.gatesSafe_settle t1).of_gates ?_
  exact (Tail.flushLog_gates _ _ _).trans t1.settle.logAll_gates

variable {t} (ht : t.GatesSafe)
include ht

theorem Tail.transition_gatesSafe (r : PwrReq) : (t.transition r).GatesSafe := by
  cases r with
  | run => exact Tail.gatesSafe_finish _
  | standby => exact Tail.gatesSafe_finish _
  | deep =>
    refine ht.of_gates ?_
    exact (Tail.flushLog_gates _ _ _).trans ((Tail.logAll_gates _).trans (Tail.unretain_gates _))

end
end Sys2Proof.Machine
end

section
/-! Settling O54: every command leaves the gates safe (10 R366). -/

namespace Sys2Proof.Machine

theorem Tail.GatesSafe.ite {c : Prop} [Decidable c] {a b : Tail} (ha : a.GatesSafe) (hb : b.GatesSafe) :
    Tail.GatesSafe (if c then a else b) := by
  split
  · exact ha
  · exact hb

section
variable {s : State} (hs : s.fs.GatesSafe)
include hs

/-! ## Commands with several outcomes -/

theorem execClockStopped_gatesSafe (clk : Fin 8) : GatesNext (execClockStopped clk s) := by
  refine .tail ?_
  dsimp only
  split
  · exact hs
  · exact (Tail.gatesSafe_finish _).of_gates rfl

theorem execStoreInitDone_gatesSafe (fail : Bool) : GatesNext (execStoreInitDone fail s) := by
  refine .trst ?_
  dsimp only
  split
  · split
    · split
      · exact hs.of_gates (s.fs.elapseTo_gates _)
      · exact Tail.trstBy_gatesSafe _ _
    · refine hs.of_gates ?_
      exact (Tail.logAll_gates _).trans ((Tail.evt_gates _ _ _).trans (s.fs.elapseTo_gates _))
  · split
    · exact Tail.trstBy_gatesSafe _ _
    · exact hs

theorem execSqcImageVerified_gatesSafe (ok : Bool) : GatesNext (execSqcImageVerified ok s) := by
  refine .trst ?_
  dsimp only
  split
  · split
    · exact hs.of_gates (s.fs.elapseTo_gates _)
    · exact Tail.trstBy_gatesSafe _ _
  · exact hs

theorem execErrorInjection_gatesSafe : GatesNext (execErrorInjection s) := by
  refine .tail ?_
  dsimp only
  split
  · split
    · refine hs.of_gates ?_
      exact (Tail.logAll_gates _).trans (Tail.memRead_gates _ _)
    · exact hs
  · exact hs

theorem execPwmBitChange_gatesSafe (n : Stn) (ch : Nat) (level : Bool) : GatesNext (execPwmBitChange n ch level s) := by
  have hgo (d : Nat) (f : Modu → BitVec 13) : (((s.fs.elapse d).moduMap n fun m => { m with pwm := f m }).wantStep n).GatesSafe :=
    hs.of_gates ((Tail.wantStep_gates _ n).trans ((Tail.moduMap_gates _ n rfl).trans (s.fs.elapse_gates d)))
  refine .tail ?_
  extract_lets m go
  refine .ite hs (.ite (.ite (.ite (hgo _ _) hs) hs) ?_)
  split
  · exact .ite (hgo _ _) hs
  · exact hs

theorem execTurnOn_gatesSafe (n : Stn) (ch : Nat) : GatesNext (execTurnOn n ch s) := by
  refine .tail ?_
  extract_lets t m npc c live t' bit skip
  have ht : t.GatesSafe := by
    unfold t
    exact .ite (hs.of_gates (s.fs.wantStep_gates n)) hs
  have ht' : t'.GatesSafe := ht.of_gates (t.elapseTo_gates _)
  refine .ite ht (.ite ?_ ?_)
  · exact ht'.of_gates (Tail.moduMap_gates _ n rfl)
  · exact ht'.of_gates (t'.moduMap_gates n rfl)

theorem execGateConfirmation_gatesSafe (n : Stn) (ch : Nat) (level : Bool) : GatesNext (execGateConfirmation n ch level s) := by
  refine .tail ?_
  dsimp only
  split
  · exact hs
  · split
    · exact hs.of_gates (s.fs.setFb_gates n ch level)
    · split
      · exact Tail.gatesSafe_finish _
      · split
        · exact Tail.gatesSafe_finish _
        · exact Tail.gatesSafe_finish _

theorem execFluxBuilt_gatesSafe (n : Stn) : GatesNext (execFluxBuilt n s) := by
  refine .tail ?_
  dsimp only
  split
  · next d _ _ _ _ =>
    have ht : (s.fs.elapseTo d).GatesSafe := hs.of_gates (s.fs.elapseTo_gates d)
    split
    · exact ht.of_gates (Tail.sqMap_gates _ n rfl)
    · split
      · exact Tail.gatesSafe_finish _
      · exact ht.of_gates (Tail.sqMap_gates _ n rfl)
  · exact hs

theorem execZeroSpeedHeld_gatesSafe (n : Stn) : GatesNext (execZeroSpeedHeld n s) := by
  refine .tail ?_
  dsimp only
  split
  · exact hs
  · split
    · exact Tail.gatesSafe_finish _
    · split
      · exact Tail.gatesSafe_finish _
      · refine hs.of_gates ((Tail.sqMap_gates _ n rfl).trans ((Tail.protMap_gates _ n _).trans ?_))
        exact s.fs.sqMap_gates n rfl

end
end Sys2Proof.Machine
end

section
/-! Settling O54 (10 R366): every command, by the shape of its step. -/

namespace Sys2Proof.Machine

section
variable {s : State} (hs : s.fs.GatesSafe)
include hs

/-! ## Commands of the Headstock and of its lanes -/

theorem execHspHeader_gatesSafe (bytes : List Byte) : GatesNext (execHspHeader bytes s) := by
  unfold execHspHeader
  dsimp only
  refine .ite (.next hs) (.ite (.next hs) ?_)
  split
  · exact .next hs
  · split
    · exact .next hs
    · refine .ite (.next hs) ?_
      split
      · exact .next hs
      · exact .next (hs.of_gates (State.openLane_gates _))

theorem execHspRequestEnd_gatesSafe (bytes : List Byte) : GatesNext (execHspRequestEnd bytes s) := by
  unfold execHspRequestEnd
  split
  · dsimp only
    refine .ite (.next hs) ?_
    split
    · exact .next ((State.localEnd_fs s _ _ _).symm ▸ hs)
    · exact .next (hs.of_gates (s.fieldEnd_gates ..))
  · exact .next hs

theorem execFrameAbort_gatesSafe (k : Nat) : GatesNext (execFrameAbort k s) := by
  unfold execFrameAbort
  dsimp only
  split
  · exact .ite (.next hs) (.next hs)
  · refine .ite (.next hs) ?_
    split
    · exact .next hs
    · exact .next (hs.of_gates (s.closeLane_gates _))

theorem execHsCsNRise_gatesSafe : GatesNext (execHsCsNRise s) := by
  unfold execHsCsNRise
  split
  · exact .ite (.next hs) (.next hs)
  · exact .next hs

theorem execFieldTimeout_gatesSafe : GatesNext (execFieldTimeout s) := by
  unfold execFieldTimeout
  split
  · exact .ite (.next hs) (.ite (.next hs) (.next hs))
  · exact .next hs

theorem execHrst_gatesSafe (ns : Nat) : GatesNext (execHrst ns s) := by
  unfold execHrst
  dsimp only
  refine .ite (.next hs) (.next (hs.of_gates ((State.pump_gates _).trans ?_)))
  dsimp only
  split
  · exact Tail.cutMessage_gates _ _ _
  · rfl

theorem execNakHRepeat_gatesSafe (mb : Bool) : GatesNext (execNakHRepeat mb s) := by
  unfold execNakHRepeat
  refine .ite ?_ ?_
  · split
    · refine .next ?_
      split
      · exact (s.mbBad_fs ..).symm ▸ hs
      · exact hs
    · exact .next hs
  · split
    · split
      · refine .next ?_
        split
        · exact (s.segBad_fs ..).symm ▸ hs
        · exact hs
      · exact .next hs
    · exact .next hs

theorem execMbResponseWait_gatesSafe : GatesNext (execMbResponseWait s) :=
  .ite (.next (hs.of_gates (s.toCell_gates _))) (.ite (.next (hs.of_gates (s.toCell_gates _))) (.next hs))

theorem execTrst_gatesSafe (c : RstCause) (cold : Bool) : GatesNext (execTrst c cold s) :=
  .ite (.next hs) (.next (s.fs.trst_gatesSafe c cold))

theorem execThermalRestart_gatesSafe : GatesNext (execThermalRestart s) := by
  refine .trst ?_
  split
  · exact Tail.trstBy_gatesSafe _ _
  · exact hs

theorem execDeepSleepEntered_gatesSafe : GatesNext (execDeepSleepEntered s) := by
  unfold execDeepSleepEntered
  split
  · exact .next (Tail.GatesSafe.of_gates (s.fs.asleep_gatesSafe _) rfl)
  · exact .next hs

theorem execThermalDomainsOff_gatesSafe : GatesNext (execThermalDomainsOff s) := by
  unfold execThermalDomainsOff
  split
  · exact .ite (.next hs) (.next (Tail.GatesSafe.of_gates (Tail.asleep_gatesSafe _ _) rfl))
  · exact .next hs

theorem execWakeInterrogation_gatesSafe (err : BitVec 3) (cold : Bool) : GatesNext (execWakeInterrogation err cold s) := by
  refine .ite (.next hs) (.next ?_)
  dsimp only [State.tail]
  split
  · exact .ite (hs.of_gates (Tail.wakeBegin_gates _ cold)) (hs.of_gates rfl)
  · exact hs.of_gates rfl

theorem execPgrst_gatesSafe (p : Byte) : GatesNext (execPgrst p s) := by
  unfold execPgrst
  refine .ite (.next ?_) (.tail (.ite hs ?_))
  · split
    · exact hs
    · exact hs
  · split
    · exact Tail.gatesSafe_finish _
    · exact Tail.gatesSafe_finish _

/-! ## Every command -/

theorem exec_gatesSafe (c : Instr) : GatesNext (exec c s) := by
  cases c
  -- Commands that act under a condition, and end their step.
  case openMessageTimeout | linkTrained | trainingRetry | retrain | blnkCntClr | ftReplicaCheck | reqRun | reqStandby | reqDeep | arm | disarm
      | charge | discharge | pchgTimeout | auxFail | doOverload | sampleInstant | encoderEdge | ssiFrameStart | encOc | fbpPresetCmd | sdStuck
      | cal | bnkaSwap | trcArm | force | trcDisarm | departure | protSourceAssert | diagAbort | eclipse | trainFail | pllUnlock =>
    exact .tail (hs.actIf _)
  case cdcTimeout | dsUnstable | bConnected | bFailed | runTransitionDone | standbyTransitionDone | wakeComplete | bootComplete | streamReset
      | streamSync | commandPoint | vlinkUpdate | hallChange | switchChange | pairLoss | ainConversion | calibrationDone | trackingSample
      | tracePostEnd | orbitFrameRx | orbitLinkDown | orbitLinkUp | hsFault | estop | diagRun | diagStepEnd | hkSlotEnd | sessionTimeout | prog
      | progcs | begin | commit | verifyDone | cancel | confirm | eventLogRestored | stoEnergized | estopNHigh =>
    exact .tail (hs.idleIf _)
  case hsPresentFall => exact .tail (.ite hs (.ite (hs.of_gates rfl) (Tail.gatesSafe_finish _)))
  case stoDemand => exact .tail (.ite hs (.ite (hs.of_gates (s.fs.inc_gates _)) (Tail.gatesSafe_finish _)))
  -- Commands at a deadline, or for something that waits, that end their step.
  case dwellComplete | hallIllegalTimeout | unwrap | backstop | dwellEnd | holdBrakeProvingEnd =>
    refine .tail ?_
    split
    · exact Tail.gatesSafe_finish _
    · exact hs
  case brakeSetDone | retryWaitEnd =>
    refine .tail ?_
    dsimp only
    split
    · exact Tail.gatesSafe_finish _
    · exact hs
  case gateCommandUpdate | ssiFrameEnd =>
    refine .tail ?_
    split
    · exact hs
    · exact Tail.gatesSafe_finish _
  case voltLim =>
    refine .tail ?_
    split
    · exact Tail.gatesSafe_finish _
    · exact Tail.gatesSafe_finish _
    · exact hs
  case followerLost =>
    refine .tail ?_
    dsimp only
    split
    · exact Tail.gatesSafe_finish _
    · exact Tail.gatesSafe_finish _
    · exact hs
  case provingEnd | takeover =>
    refine .tail ?_
    dsimp only
    split
    · exact .ite (Tail.gatesSafe_finish _) (Tail.gatesSafe_finish _)
    · exact hs
  case stoDisc =>
    refine .tail ?_
    split
    · exact .ite (hs.of_gates (s.fs.elapseTo_gates _)) (Tail.gatesSafe_finish _)
    · exact hs
  case stoReadback =>
    refine .tail ?_
    split
    · exact .ite (Tail.gatesSafe_finish _) (hs.of_gates (s.fs.elapseTo_gates _))
    · exact hs
  case cto n =>
    refine .tail ?_
    split
    · exact .ite (Tail.gatesSafe_finish _) (hs.of_gates ((Tail.protMap_gates _ n _).trans (s.fs.elapseTo_gates _)))
    · exact hs
  case c1Timeout n =>
    refine .tail ?_
    split
    · exact .ite (Tail.gatesSafe_finish _) (hs.of_gates ((Tail.sqMap_gates _ n rfl).trans (s.fs.elapseTo_gates _)))
    · exact hs
  case levDisc =>
    refine .tail ?_
    split
    · exact .ite hs (.ite (hs.of_gates (s.fs.elapseTo_gates _)) (Tail.gatesSafe_finish _))
    · exact hs
  case chopLim =>
    refine .tail ?_
    dsimp only
    split
    · exact .ite hs (Tail.gatesSafe_finish _)
    · exact hs
  case ascEnd =>
    refine .tail (.ite hs ?_)
    split
    · split
      · exact Tail.gatesSafe_finish _
      · exact hs
    · split
      · exact Tail.gatesSafe_finish _
      · exact hs
    · exact hs.actIf _
  case strdCfgWrite =>
    refine .tail (.ite hs ?_)
    split
    · exact Tail.gatesSafe_finish _
    · exact Tail.gatesSafe_finish _
  case scrubRead | scrubSkip | imageRecordConsumed =>
    refine .tail (.ite hs ?_)
    split
    · exact hs
    · exact Tail.gatesSafe_finish _
  case frameRepeat =>
    refine .tail ?_
    split
    · dsimp only
      split
      · exact Tail.gatesSafe_finish _
      · exact hs
    · exact hs
  case orbLoss =>
    refine .tail ?_
    split
    · dsimp only
      split
      · exact hs
      · exact Tail.gatesSafe_finish _
    · exact hs
  case successionTakeover =>
    refine .tail ?_
    split
    · split
      · exact Tail.gatesSafe_finish _
      · exact hs
      · exact Tail.gatesSafe_finish _
    · exact hs
  case diAccept =>
    refine .tail (.ite hs ?_)
    split
    · exact hs.of_gates rfl
    · exact hs.of_gates rfl
    · exact Tail.gatesSafe_finish _
  case hkOd =>
    refine .tail (.ite hs ?_)
    split
    · exact hs.actIf _
    · exact .ite (hs.of_gates rfl) hs
  -- Commands that leave the gates as they are.
  case dioSupplyLow => exact .tail (hs.of_gates rfl)
  case seqReset | eraseDone => exact .tail (.ite (hs.of_gates rfl) hs)
  case aFailed | aExcursion | supplyValid | coldHoldRelease => exact .tail (.ite hs (hs.of_gates rfl))
  case aReturn => exact .tail (.ite hs (.ite (hs.of_gates rfl) (hs.of_gates rfl)))
  case unstableClr => exact .tail (.ite (hs.of_gates s.fs.unstableClr_gates) hs)
  case pllLocked => exact .tail (.ite (hs.of_gates (s.fs.elapseTo_gates _)) hs)
  case pllRetry => exact .tail (.ite (.ite (hs.of_gates (s.fs.elapse_gates _)) (hs.of_gates (s.fs.elapse_gates _))) hs)
  case fbaPresetCmd n => exact .tail (.ite (.ite (hs.of_gates (s.fs.pDs_gates _ _)) hs) hs)
  case latchArm => exact .tail (.ite (.ite (hs.of_gates rfl) hs) hs)
  case gtClr n => exact .tail (.ite (.ite (hs.of_gates ((Tail.p_gates _ _ _).trans (s.fs.fbMap_gates n _))) hs) hs)
  case copy n => exact .tail (.ite (hs.of_gates (s.fs.commit_gates fun r => r.bankCopy_gates n)) hs)
  case backpressureRetry k => exact .tail (.ite (hs.of_gates ((Tail.logAll_gates _).trans (s.fs.retryHeld_gates _))) hs)
  case csaInj w => exact .tail (.ite hs (hs.of_gates (s.fs.injApply_gates w)))
  case start n => exact .tail (.ite hs (.ite (hs.of_gates (s.fs.startCmd_gates n)) (Tail.gatesSafe_finish _)))
  case stop n => exact .tail (.ite (hs.of_gates (s.fs.stopReq_gates n _)) hs)
  case emgStop w => exact .tail (.ite (hs.of_gates (s.fs.emgStop_gates w)) hs)
  case release m => exact .tail (.ite (hs.of_gates (s.fs.releaseCmd_gates m.toNat)) hs)
  case resume k => exact .tail (.ite (hs.of_gates (s.fs.resume_gates _)) hs)
  case comparePulseEnd n =>
    refine .tail ?_
    split
    · exact hs.of_gates ((Tail.cmpOut_gates _ n _).trans ((Tail.fbMap_gates _ n _).trans (s.fs.elapseTo_gates _)))
    · exact hs
  case recalSettleEnd n =>
    refine .tail ?_
    split
    · exact hs.of_gates ((Tail.calBegin_gates _ n _).trans (s.fs.elapseTo_gates _))
    · exact hs
  case correctionWriteback =>
    refine .tail ?_
    split
    · exact hs.of_gates ((Tail.wbMap_gates _ _ _).trans (s.fs.wbWrite_gates _))
    · exact hs
  case swapReturnTimeout n _ =>
    refine .tail ?_
    split
    · split
      · exact hs.of_gates ((Tail.banksMap_gates _ n _).trans (s.fs.elapseTo_gates _))
      · exact hs
    · exact hs
  case npcInnerOff n =>
    refine .tail ?_
    split
    · exact hs.of_gates ((Tail.moduMap_gates _ n rfl).trans (s.fs.elapseTo_gates _))
    · exact hs
  case graceOver | challengeExpiry | lockoutEnd =>
    refine .tail ?_
    split
    · exact hs.of_gates (s.fs.elapseTo_gates _)
    · exact hs
  case transitionStart =>
    refine .tail ?_
    split
    · exact .ite (Tail.transition_gatesSafe hs _) hs
    · exact hs
  case clockStopped clk => exact execClockStopped_gatesSafe hs clk
  case storeInitDone fail => exact execStoreInitDone_gatesSafe hs fail
  case sqcImageVerified ok => exact execSqcImageVerified_gatesSafe hs ok
  case errorInjection => exact execErrorInjection_gatesSafe hs
  case pwmBitChange n ch level => exact execPwmBitChange_gatesSafe hs n ch level
  case turnOn n ch => exact execTurnOn_gatesSafe hs n ch
  case gateConfirmation n ch level => exact execGateConfirmation_gatesSafe hs n ch level
  case fluxBuilt n => exact execFluxBuilt_gatesSafe hs n
  case zeroSpeedHeld n => exact execZeroSpeedHeld_gatesSafe hs n
  -- Resets, sleep and shutdown.
  case pon a b cold => exact .ite (.next (s.fs.pon_gatesSafe a b cold)) (.next hs)
  case trst => exact execTrst_gatesSafe hs _ _
  case watchdogExpiry => exact .trst (.ite (Tail.trstBy_gatesSafe _ _) hs)
  case thermalRestart => exact execThermalRestart_gatesSafe hs
  case bothSuppliesFailed => exact .ite (.next hs) (.next (Tail.powerOff_gatesSafe _))
  case deepSleepEntered => exact execDeepSleepEntered_gatesSafe hs
  case thermalDomainsOff => exact execThermalDomainsOff_gatesSafe hs
  case hwShutdown => exact .tail (.ite (Tail.hwShutdown_gatesSafe _ _) hs)
  case wakeInterrogation => exact execWakeInterrogation_gatesSafe hs _ _
  -- The Headstock and the lanes.
  case reqHsp | reqMb | nakH =>
    dsimp only [exec, execReqHsp, execReqMb, execNakH]
    split
    · exact .next (State.received_gatesSafe hs _ _ _)
    · exact .next hs
  case rspHsp | rspMb | nakF =>
    dsimp only [exec, execRspHsp, execRspMb, execNakF]
    split
    · exact .next (hs.of_gates (s.hears_gates _ _ _))
    · exact .next hs
  case pgrst p => exact execPgrst_gatesSafe hs p
  case hspHeader bytes => exact execHspHeader_gatesSafe hs bytes
  case hspRequestEnd bytes => exact execHspRequestEnd_gatesSafe hs bytes
  case frameAbort k => exact execFrameAbort_gatesSafe hs k
  case fieldTimeout => exact execFieldTimeout_gatesSafe hs
  case hsCsNRise => exact execHsCsNRise_gatesSafe hs
  case hrst ns => exact execHrst_gatesSafe hs ns
  case nakHRepeat mb => exact execNakHRepeat_gatesSafe hs mb
  case mbResponseWait => exact execMbResponseWait_gatesSafe hs
  case levelRefresh => exact .ite (.next hs) (.next (State.mbResume_gatesSafe (s := { s with hs := _ }) hs))
  case levelTimeout =>
    refine .next ?_
    split
    · exact hs
    · exact hs
  case retrainEffect => exact .ite (.tail (hs.actIf _)) (.next hs)
  case mbrst | hs3v3Fall | sclTimeout | sdaTimeout | pushStart => exact .ite (.next hs) (.next hs)
  case hspCntClr | dupClr | hs3v3Rise =>
    refine .next ?_
    split
    · exact hs
    · exact hs
  case pushBackoffEnd | pollExpiry | mbStretchLimit =>
    refine .next ?_
    split
    · exact hs.of_gates (s.toCell_gates _)
    · exact hs
  case pushTransaction => exact .ite (.next hs) (.next (hs.of_gates (s.fs.elapse_gates _)))
  case mbCommandByte x => exact .next (State.mbStart_gatesSafe hs x fun _ _ h => h)
  case regWrite | regRead | regWriteVerify | streamPut | streamGet | streamPeek | statusDigest | nop | sessionOpen | sessionAuth
      | sessionClose | faultClear | faultClearAll => exact .next (State.hostOp_gatesSafe hs _ _)
  case statusWord | alarmSummary | unitState | maxTemp | groupTemps | stationStatus | mbFaultClear | pageSelRead | pageSelWrite
      | regDataRead | regDataWrite | eventFetchRead | eventFetchWrite | heartbeat | sleepReq | identity =>
    exact .next (State.mbWhole_gatesSafe hs _)
  case wakePing => exact .next (State.mbWhole_gatesSafe hs _)

end

/-- Settles O54: a tick leaves the gates, and `exec_gatesSafe` has every command; what settles the states settles the gates last
(`Tail.gatesSafe_finish`). -/
theorem gatesOnlyWhileRunning : Obligations.GatesOnlyWhileRunning := by
  intro s t hs hstep
  unfold step at hstep
  split at hstep
  · next c cs _ => exact exec_gatesSafe (s := { s with pending := cs }) hs c t hstep
  · cases hstep
    exact hs.of_gates (s.fs.elapse_gates _)

end Sys2Proof.Machine
end

section
/-! Settling O7: the steps of the start-up (10 R372). -/

namespace Sys2Proof.Machine

/-- A step that may end in a Tailstock reset, and does not. -/
theorem does_of_trst {c : Instr} {s : State} {t : Tail} (f : Tail → Tail) (hexec : exec c s = trstNext s f) (h : f s.fs = t)
    (hepoch : t.aon.epoch = s.fs.aon.epoch) : Does c s t := by
  unfold Does
  rw [hexec]
  unfold trstNext
  dsimp only
  rw [h, if_pos hepoch]

theorem Tail.logAll_aon (t : Tail) : t.logAll.aon = t.aon :=
  show t.logAll.unlogged.aon = t.unlogged.aon by rw [(Tail.logs_logAll (.rfl t)).1]

/-- READY_SAFE from BOOT, with every pre-charge group IDLE (10 R373). -/
theorem Tail.grpsIdle_setUnit {t : Tail} (h : t.us = .boot) : t.grpsIdle.setUnit .readySafe =
    { (t.p DEV_STATE.PREV 1).p SEQ_STAT.PREV_STATE 1 with
      us := .readySafe
      grp := t.grp.map (fun (g : Grp) => { Grp.init with v := g.v, vPrev := g.vPrev, vAt := g.vAt }) } := by
  have hidle : t.grpsIdle.us = .boot := h
  unfold Tail.setUnit
  rw [hidle, if_neg (by decide)]
  rfl

section
variable {s : State} (hboot : s.fs.us = .boot)
include hboot

theorem pllLocked_does (hpd : s.fs.pd 2 = true) (ht3 : s.fs.boot.t3 = false) :
    Does .pllLocked s (s.fs.elapseTo (s.fs.boot.upAt + bootT3)).pllsUp :=
  does_of_tail _ rfl (if_pos (by simp [hboot, hpd, ht3]))

theorem pllRetry_does (hpd : s.fs.pd 2 = true) (ht3 : s.fs.boot.t3 = false) :
    Does (.pllRetry false) s { s.fs.elapse 400000000 with boot := { s.fs.boot with dead := true } }
    ∧ Does (.pllRetry true) s (s.fs.elapse 400000000).pllsUp := by
  have hmay : (decide (s.fs.us = .boot) && s.fs.pd 2 && !s.fs.boot.t3) = true := by simp [hboot, hpd, ht3]
  refine ⟨does_of_tail _ rfl ((if_pos hmay).trans ?_), does_of_tail _ rfl (if_pos hmay)⟩
  rw [← Tail.elapse_boot s.fs 400000000]
  rfl

theorem storeInitDone_does (ht3 : s.fs.boot.t3 = true) (ht5 : s.fs.boot.t5 = false) (hdead : s.fs.boot.dead = false) :
    Does (.storeInitDone false) s ((({ (s.fs.elapseTo (s.fs.boot.t3At + bootT5)).passBegin 0 with
      boot := { s.fs.boot with t5 := true, last := (s.fs.elapseTo (s.fs.boot.t3At + bootT5)).now } }.p CSG_STAT.INIT_DONE 1).evt 0x06 0).logAll)
    ∧ (s.fs.boot.checkFailed = true → Does (.storeInitDone true) s
      { s.fs.elapseTo (s.fs.boot.t3At + bootT5) with boot := { s.fs.boot with dead := true } }) := by
  have hmay : (decide (s.fs.us = .boot) && s.fs.boot.t3 && !s.fs.boot.t5 && !s.fs.boot.dead) = true := by simp [hboot, ht3, ht5, hdead]
  have hkeep : (s.fs.elapseTo (s.fs.boot.t3At + bootT5)).boot = s.fs.boot := s.fs.elapse_boot _
  have hexec (fail : Bool) : exec (.storeInitDone fail) s = execStoreInitDone fail s := rfl
  unfold execStoreInitDone at hexec
  refine ⟨does_of_trst _ (hexec false) ((if_pos hmay).trans ?_) ?_, fun hfailed => does_of_trst _ (hexec true) ((if_pos hmay).trans ?_) ?_⟩
  · dsimp only
    rw [hkeep]
    rfl
  · refine congrArg Aon.epoch ((Tail.logAll_aon _).trans ((Tail.evtV_aon _ _ _ _).trans ?_))
    exact s.fs.elapse_aon _
  · dsimp only
    rw [if_pos rfl, hkeep, if_pos hfailed]
  · exact congrArg Aon.epoch (s.fs.elapse_aon _)

theorem imageVerified_does (ht3 : s.fs.boot.t3 = true) (ht6 : s.fs.boot.t6 = false) (hrec : s.fs.fw.recovery = false) :
    Does (.sqcImageVerified true) s { s.fs.elapseTo (s.fs.boot.t3At + bootT6) with
      boot := { s.fs.boot with t6 := true, last := (s.fs.elapseTo (s.fs.boot.t3At + bootT6)).now } } := by
  have hmay : (decide (s.fs.us = .boot) && s.fs.boot.t3 && !s.fs.boot.t6 && !s.fs.fw.recovery) = true := by simp [hboot, ht3, ht6, hrec]
  have hkeep : (s.fs.elapseTo (s.fs.boot.t3At + bootT6)).boot = s.fs.boot := s.fs.elapse_boot _
  have hexec : exec (.sqcImageVerified true) s = execSqcImageVerified true s := rfl
  unfold execSqcImageVerified at hexec
  refine does_of_trst _ hexec ((if_pos hmay).trans ?_) (congrArg Aon.epoch (s.fs.elapse_aon _))
  dsimp only
  rw [if_pos rfl, hkeep]

theorem eventLogRestored_settles (ht5 : s.fs.boot.t5 = true) (ht6 : s.fs.boot.t6 = true) (ht7 : s.fs.boot.t7 = false)
    (htherm : s.fs.boot.therm = false) :
    Settles .eventLogRestored s { (s.fs.elapseTo (s.fs.boot.last + bootT7)).restoreLog.hwLevels with
      boot := { s.fs.boot with t7 := true, last := (s.fs.elapseTo (s.fs.boot.last + bootT7)).now }
      hk := { Hk.init with since := (s.fs.elapseTo (s.fs.boot.last + bootT7)).now } } := by
  have hkeep : (s.fs.elapseTo (s.fs.boot.last + bootT7)).boot = s.fs.boot := s.fs.elapse_boot _
  refine settles_of_tail _ rfl ((if_neg (by simp [hboot, ht5, ht6, ht7])).trans ?_)
  dsimp only
  rw [hkeep]
  split
  · next htrue _ => simp [htherm] at htrue
  · rw [hkeep]

theorem bootComplete_settles (ht4 : s.fs.boot.t4 = true ∨ s.fs.link.trainFail = true) (ht5 : s.fs.boot.t5 = true)
    (ht6 : s.fs.boot.t6 = true) (ht8 : s.fs.boot.t8 = true) (hdead : s.fs.boot.dead = false) (hrec : s.fs.fw.recovery = false) :
    Settles .bootComplete s (({ ((((s.fs.elapseTo (s.fs.boot.last + bootT9)).p DEV_STATE.PREV 1).p SEQ_STAT.PREV_STATE 1).p DEV_BOOTMS.MS
        (min 0xFFFF (((s.fs.elapseTo (s.fs.boot.last + bootT9)).now - s.fs.boot.start) / 400000))) with
      us := .readySafe
      grp := s.fs.grp.map (fun (g : Grp) => { Grp.init with v := g.v, vPrev := g.vPrev, vAt := g.vAt })
      fw := { s.fs.fw with bootFail := Vector.replicate 2 0 } }).evt 0x20 2) := by
  have hus : (s.fs.elapseTo (s.fs.boot.last + bootT9)).us = .boot := (s.fs.elapse_us _).trans hboot
  have hgrp : (s.fs.elapseTo (s.fs.boot.last + bootT9)).grp = s.fs.grp := s.fs.elapse_grp _
  have hfw : (s.fs.elapseTo (s.fs.boot.last + bootT9)).fw = s.fs.fw := s.fs.elapse_fw _
  refine settles_of_tail _ rfl ((if_neg ?_).trans ?_)
  · rcases ht4 with h | h <;> simp [hboot, h, ht5, ht6, ht8, hdead, hrec]
  · generalize s.fs.elapseTo (s.fs.boot.last + bootT9) = t at hus hgrp hfw ⊢
    dsimp only
    rw [Tail.grpsIdle_setUnit hus, ← hgrp, ← hfw]
    rfl

end

/-- Settles O7: each step acts in BOOT alone, at its time after the PLLs' lock or after the step before it; the steps that may end in a
Tailstock reset do not (`does_of_trst`). -/
theorem startUpSteps : Obligations.StartUpSteps :=
  ⟨fun _ hboot hpd ht3 => pllLocked_does hboot hpd ht3, fun _ hboot hpd ht3 => pllRetry_does hboot hpd ht3,
    fun _ hboot ht3 ht5 hdead => storeInitDone_does hboot ht3 ht5 hdead,
    fun _ hboot ht3 ht6 hrec => imageVerified_does hboot ht3 ht6 hrec,
    fun _ hboot ht5 ht6 ht7 htherm => eventLogRestored_settles hboot ht5 ht6 ht7 htherm,
    fun _ hboot ht4 ht5 ht6 ht8 hdead hrec => bootComplete_settles hboot ht4 ht5 ht6 ht8 hdead hrec⟩

end Sys2Proof.Machine
end

section
/-! Settling O56: the state right after reset (10 R366, 08 R296, 07 R254). -/

namespace Sys2Proof.Machine

/-- The one register that does not read its default after reset is the event latch of DEV, whose default is 0. -/
theorem regs_reset_wf : SMap.wf (regDefault State.reset.fs.u) State.reset.fs.regs := by
  refine ⟨List.pairwise_singleton _ _, fun e he => ?_⟩
  obtain rfl := List.mem_singleton.mp he
  decide +kernel

/-- Settles O56: every station is as made (`Tail.gatesSafe_of_init`), the Headstock as after its supply's rise, and every word of the store
a fresh zero. -/
theorem resetIsSound : Obligations.ResetIsSound :=
  ⟨Tail.gatesSafe_of_init rfl, Head.sound_init 0, ⟨.nil, nofun⟩, regs_reset_wf, rfl, fun a => syndrome_encWord a 0⟩

end Sys2Proof.Machine
end

section
/-! Settling O14: the pre-charge groups (10 section 6). -/

namespace Sys2Proof.Machine

/-! ## Groups, registers and events -/

section
variable (t : Tail) (g : Fin 2)

@[simp] theorem Tail.elapse_word (d a : Nat) : (t.elapse d).word a = t.word a := by simp [Tail.word]

@[simp] theorem Tail.elapse_g (d : Nat) (f : Fd) : (t.elapse d).g f = t.g f := by simp [Tail.g]

theorem Tail.elapse_now (d : Nat) : (t.elapse d).now = t.now + d := by rw [Tail.elapse_eq]

@[simp] theorem Tail.grpMap_get (f : Grp → Grp) : (t.grpMap g f).grp[g] = f t.grp[g] := Vector.getElem_set_self g.2

theorem Tail.grpMap_grpMap (f h : Grp → Grp) : (t.grpMap g f).grpMap g h = t.grpMap g (fun x => h (f x)) := by
  unfold Tail.grpMap
  dsimp only
  simp [Vector.set_set]

/-- A change of a group and an event touch different things. -/
theorem Tail.grpMap_evt (f : Grp → Grp) (p i : Nat) : (t.grpMap g f).evt p i = (t.evt p i).grpMap g f := by
  by_cases h : t.evtBit p i = true
  · rw [Tail.evt, Tail.evtV, if_pos (show (t.grpMap g f).evtBit p i = true from h), Tail.evt, Tail.evtV, if_pos h]
  · rw [Tail.evt, Tail.evtV, if_neg (show ¬ (t.grpMap g f).evtBit p i = true from h), Tail.evt, Tail.evtV, if_neg h]
    rfl

@[simp] theorem Tail.elapse_dwellStns (d : Nat) (ns : List Stn) : (t.elapse d).dwellStns ns = t.dwellStns ns := by
  rw [Tail.elapse_eq]
  rfl

@[simp] theorem Tail.elapse_grpStns (d : Nat) : (t.elapse d).grpStns g = t.grpStns g := by
  rw [Tail.elapse_eq]
  rfl

/-- A mask with one bit names its group alone. -/
theorem maskGroups_one : maskGroups ((1 : BitVec 2) <<< g.val) = [g] := by revert g; decide

end

/-! ## Charging (10 R387, 21 R748) -/

theorem Tail.b_of_g_one {t : Tail} {f : Fd} (h : t.g f = 1) : t.b f = true := by simp [Tail.b, h]

section
variable {t : Tail} {g : Fin 2} {s : State}

/-- Without a dwell the sequence begins at K1. -/
theorem Tail.grpBegin_of_none (h : t.dwellStns (t.grpStns g) = none) : t.grpBegin g = t.grpClose g := by
  unfold Tail.grpBegin
  rw [h]

theorem Tail.grpBegin_of_some {d : Nat} (h : t.dwellStns (t.grpStns g) = some d) :
    t.grpBegin g = (t.grpMap g fun x => { x with wait := t.after (d * ms1), dwell := true }).dwellBegin d := by
  unfold Tail.grpBegin
  rw [h]
  exact (Tail.grpMap_evt _ g _ _ _).symm

/-- An accepted CHARGE begins the sequence with the retries of the configuration. -/
theorem Tail.charge1_accepted (hen : t.g (PG_CTRL.ENABLE 0x21) = 1) (hmode : t.g (PCHG_GCFG.MODE g.val) = 1) (hrun : t.inRun = true)
    (hdwell : t.grp[g].dwell = false) (hst : t.grp[g].st = .idle ∨ t.grp[g].st = .failed ∨ t.grp[g].st = .aborted) :
    t.charge1 g = (t.grpMap g fun x => { x with retries := t.g (PCHG_GCFG.RETRIES g.val) }).grpBegin g := by
  refine if_pos ?_
  simp only [Tail.b_of_g_one hen, hmode, hrun, hdwell]
  simpa [or_assoc] using hst

theorem charge_settles (hup : s.fs.sqcUp = true) : Settles (.charge ((1 : BitVec 2) <<< g.val)) s (s.fs.charge1 g) := by
  refine settles_of_tail _ rfl ((if_pos hup).trans ?_)
  rw [maskGroups_one]
  rfl

/-- A CHARGE without a dwell: K1 closes (10 R387). -/
theorem charge_close (hup : s.fs.sqcUp = true) (hen : s.fs.g (PG_CTRL.ENABLE 0x21) = 1) (hmode : s.fs.g (PCHG_GCFG.MODE g.val) = 1)
    (hrun : s.fs.inRun = true) (hdwell : s.fs.grp[g].dwell = false)
    (hst : s.fs.grp[g].st = .idle ∨ s.fs.grp[g].st = .failed ∨ s.fs.grp[g].st = .aborted)
    (hnone : s.fs.dwellStns (s.fs.grpStns g) = none) :
    Settles (.charge ((1 : BitVec 2) <<< g.val)) s
      (Tail.grpAux { s.fs with grp := s.fs.grp.set g { s.fs.grp[g] with
        st := .closeK1, wait := none, dwell := false, retries := s.fs.g (PCHG_GCFG.RETRIES g.val) } } g) := by
  have h := charge_settles (g := g) hup
  rw [Tail.charge1_accepted hen hmode hrun hdwell hst, Tail.grpBegin_of_none (t := s.fs.grpMap g _) hnone, Tail.grpClose, Tail.grpMap_grpMap] at h
  exact h

/-- A CHARGE with a dwell keeps its state until the dwell is over (21 R748). -/
theorem charge_dwell {d : Nat} (hup : s.fs.sqcUp = true) (hen : s.fs.g (PG_CTRL.ENABLE 0x21) = 1)
    (hmode : s.fs.g (PCHG_GCFG.MODE g.val) = 1) (hrun : s.fs.inRun = true) (hdwell : s.fs.grp[g].dwell = false)
    (hst : s.fs.grp[g].st = .idle ∨ s.fs.grp[g].st = .failed ∨ s.fs.grp[g].st = .aborted)
    (hsome : s.fs.dwellStns (s.fs.grpStns g) = some d) :
    Settles (.charge ((1 : BitVec 2) <<< g.val)) s (Tail.dwellBegin { s.fs with grp := s.fs.grp.set g { s.fs.grp[g] with
      wait := some (s.fs.now + d * 400000), dwell := true, retries := s.fs.g (PCHG_GCFG.RETRIES g.val) } } d) := by
  have h := charge_settles (g := g) hup
  rw [Tail.charge1_accepted hen hmode hrun hdwell hst, Tail.grpBegin_of_some (t := s.fs.grpMap g _) hsome, Tail.grpMap_grpMap] at h
  exact h

/-- The end of the wait for the next try begins the sequence again (10 R389). -/
theorem retryWaitEnd_settles {d : Nat} (hst : s.fs.grp[g].st = .waitRetry) (hdwell : s.fs.grp[g].dwell = false)
    (hwait : s.fs.grp[g].wait = some d) (hnone : s.fs.dwellStns (s.fs.grpStns g) = none) :
    Settles (.retryWaitEnd g) s (Tail.grpAux { s.fs.elapse (d - s.fs.now) with
      grp := s.fs.grp.set g { s.fs.grp[g] with st := .closeK1, wait := none, dwell := false } } g) := by
  refine settles_of_tail _ rfl ?_
  dsimp only
  rw [hst, hdwell, hwait]
  dsimp only
  rw [Tail.grpBegin_of_none ?_, Tail.grpClose, ← s.fs.elapse_grp (d - s.fs.now)]
  · rfl
  · rw [Tail.elapseTo, Tail.elapse_dwellStns, Tail.elapse_grpStns]
    exact hnone

/-! ## The link voltage (10 R388, R391) -/

/-- The group once its link voltage has been taken: the unit after the update, 1 ms after the one before. -/
def Tail.linkTaken (t : Tail) (g : Fin 2) (v : Nat) (st : GrpSt) : Tail :=
  ({ t.elapse (t.grp[g].vAt + 400000 - t.now) with
    grp := t.grp.set g { t.grp[g] with
      st := st, vPrev := t.grp[g].v, v := v, vAt := t.now + (t.grp[g].vAt + 400000 - t.now) } } : Tail).p
    (PCHG_GSTAT.VLINK g.val) (min 0xFFFF ((v + 50) / 100))

@[simp] theorem Tail.linkTaken_get (t : Tail) (g : Fin 2) (v : Nat) (st : GrpSt) :
    (t.linkTaken g v st).grp[g] = { t.grp[g] with
      st := st, vPrev := t.grp[g].v, v := v, vAt := t.now + (t.grp[g].vAt + 400000 - t.now) } := Vector.getElem_set_self g.2

theorem Tail.linkTaken_g (t : Tail) (g : Fin 2) (v : Nat) (st : GrpSt) {f : Fd} (h : f.addr ≠ (PCHG_GSTAT.VLINK g.val).addr) :
    (t.linkTaken g v st).g f = t.g f := (Tail.g_p_ne _ _ h).trans (t.elapse_g _ f)

theorem Tail.linkTaken_grpMap (t : Tail) (g : Fin 2) (v : Nat) (st st' : GrpSt) :
    (t.linkTaken g v st).grpMap g (fun x => { x with st := st' }) = t.linkTaken g v st' := by
  unfold Tail.linkTaken
  rw [show ∀ (r : Tail) (f : Fd) (x : Nat) (h : Grp → Grp), (r.p f x).grpMap g h = (r.grpMap g h).p f x from fun _ _ _ _ => rfl]
  refine congrArg (fun r : Tail => r.p _ _) ?_
  unfold Tail.grpMap
  simp [Vector.set_set]

theorem Tail.elapse_grpLink (t : Tail) (g : Fin 2) (w d : Nat) : (t.elapse d).grpLink g w = t.grpLink g w := by
  simp [Tail.grpLink, Tail.fitted, Tail.vlink, Tail.stnGet]

theorem PCHG_MODE_ne_VLINK (g : Fin 2) : (PCHG_GCFG.MODE g.val).addr ≠ (PCHG_GSTAT.VLINK g.val).addr := by revert g; decide
theorem PCHG_VDONE_ne_VLINK (g : Fin 2) : (PCHG_GTHR.VDONE g.val).addr ≠ (PCHG_GSTAT.VLINK g.val).addr := by revert g; decide
theorem PCHG_VSAFE_ne_VLINK (g : Fin 2) : (PCHG_GTHR.VSAFE g.val).addr ≠ (PCHG_GSTAT.VLINK g.val).addr := by revert g; decide

theorem vlinkUpdate_settles {v w : Nat} (hup : s.fs.sqcUp = true)
    (hv : v = (if s.fs.fitted (s.fs.g (PCHG_GCFG.VSRC g.val)) = true
        then (roundDiv (s.fs.vlink (Fin.ofNat 4 (s.fs.g (PCHG_GCFG.VSRC g.val)))) 10000).toNat else w)) :
    Settles (.vlinkUpdate g w) s ((s.fs.linkTaken g v s.fs.grp[g].st).grpVoltage g) := by
  refine settles_of_tail _ rfl ((if_neg (by simp [hup])).trans ?_)
  have hlink : (s.fs.elapseTo (s.fs.grp[g].vAt + ms1)).grpLink g w = v := (s.fs.elapse_grpLink g w _).trans hv.symm
  dsimp only
  rw [hlink]
  refine congrArg (fun r : Tail => (r.grpVoltage g).finish) ?_
  unfold Tail.linkTaken Tail.elapseTo
  rw [Tail.elapse_eq, Tail.elapse_eq]
  rfl

/-- Of the checks of the link voltage of an idle internal group none acts. -/
theorem vlinkUpdate_idle {v w : Nat} (hup : s.fs.sqcUp = true) (hmode : s.fs.g (PCHG_GCFG.MODE g.val) ≠ 2) (hst : s.fs.grp[g].st = .idle)
    (hv : v = (if s.fs.fitted (s.fs.g (PCHG_GCFG.VSRC g.val)) = true
        then (roundDiv (s.fs.vlink (Fin.ofNat 4 (s.fs.g (PCHG_GCFG.VSRC g.val)))) 10000).toNat else w)) :
    Settles (.vlinkUpdate g w) s (s.fs.linkTaken g v s.fs.grp[g].st) := by
  have h := vlinkUpdate_settles hup hv
  unfold Tail.grpVoltage at h
  dsimp only at h
  rw [Tail.linkTaken_g _ _ _ _ (PCHG_MODE_ne_VLINK g), if_neg hmode, Tail.linkTaken_get, hst] at h
  rw [hst]
  exact h

/-- A ramp that has reached VDONE goes on to K2 (10 R387, R388). -/
theorem vlinkUpdate_ramp {v w : Nat} (hup : s.fs.sqcUp = true) (hmode : s.fs.g (PCHG_GCFG.MODE g.val) ≠ 2) (hst : s.fs.grp[g].st = .ramp)
    (hv : v = (if s.fs.fitted (s.fs.g (PCHG_GCFG.VSRC g.val)) = true
        then (roundDiv (s.fs.vlink (Fin.ofNat 4 (s.fs.g (PCHG_GCFG.VSRC g.val)))) 10000).toNat else w))
    (hdone : s.fs.g (PCHG_GTHR.VDONE g.val) * 100 ≤ v) :
    Settles (.vlinkUpdate g w) s ((s.fs.linkTaken g v .closeK2).grpAux g) := by
  have h := vlinkUpdate_settles hup hv
  unfold Tail.grpVoltage at h
  dsimp only at h
  rw [Tail.linkTaken_g _ _ _ _ (PCHG_MODE_ne_VLINK g), if_neg hmode, Tail.linkTaken_get, hst] at h
  dsimp only at h
  rw [Tail.linkTaken_g _ _ _ _ (PCHG_VDONE_ne_VLINK g), if_pos hdone, Tail.linkTaken_grpMap] at h
  exact h

/-- A discharged link makes the group idle (10 R391). -/
theorem vlinkUpdate_discharged {v w : Nat} (hup : s.fs.sqcUp = true) (hmode : s.fs.g (PCHG_GCFG.MODE g.val) ≠ 2)
    (hst : s.fs.grp[g].st = .discharging)
    (hv : v = (if s.fs.fitted (s.fs.g (PCHG_GCFG.VSRC g.val)) = true
        then (roundDiv (s.fs.vlink (Fin.ofNat 4 (s.fs.g (PCHG_GCFG.VSRC g.val)))) 10000).toNat else w))
    (hsafe : v < s.fs.g (PCHG_GTHR.VSAFE g.val) * 100) :
    Settles (.vlinkUpdate g w) s (s.fs.linkTaken g v .idle) := by
  have h := vlinkUpdate_settles hup hv
  unfold Tail.grpVoltage at h
  dsimp only at h
  rw [Tail.linkTaken_g _ _ _ _ (PCHG_MODE_ne_VLINK g), if_neg hmode, Tail.linkTaken_get, hst] at h
  dsimp only at h
  rw [Tail.linkTaken_g _ _ _ _ (PCHG_VSAFE_ne_VLINK g), if_pos hsafe, Tail.linkTaken_grpMap] at h
  exact h

/-! ## A ramp that lasts TMAX (10 R388, R389) -/

theorem pchgTimeout_settles (hst : s.fs.grp[g].st = .ramp) :
    Settles (.pchgTimeout g) s ((s.fs.elapse (s.fs.grp[g].rampAt + s.fs.g (PCHG_GTIME.TMAX g.val) * 400000 - s.fs.now)).grpFails g 4) :=
  settles_of_tail _ rfl (if_pos hst)

theorem Tail.grpFail_eq (t : Tail) (g : Fin 2) (c : Nat) : t.grpFail g c =
    ((t.p (PCHG_GSTAT.CAUSE g.val) c).evt 0x21 g.val).grpMap g fun x => { x with st := .failed, wait := none, dwell := false } :=
  Tail.grpMap_evt (t.p (PCHG_GSTAT.CAUSE g.val) c) g (fun x => { x with st := .failed, wait := none, dwell := false }) 0x21 g.val

@[simp] theorem Tail.grpFail_retries (t : Tail) (g : Fin 2) (c : Nat) : (t.grpFail g c).grp[g].retries = t.grp[g].retries := by
  rw [Tail.grpFail_eq, Tail.grpMap_get]
  exact congrArg (fun v : Vector Grp 2 => v[g].retries) (Tail.evtV_grp ..)

theorem PCHG_RETRY_WAIT_ne_CAUSE (g : Fin 2) : (PCHG_GTIME.RETRY_WAIT g.val).addr ≠ (PCHG_GSTAT.CAUSE g.val).addr := by
  revert g; decide
theorem PCHG_RETRY_WAIT_ne_EVT (g : Fin 2) : (PCHG_GTIME.RETRY_WAIT g.val).addr ≠ (PG_EVT.EVT 0x21).addr := by revert g; decide

/-- A failure with retries left is the wait for the next try (10 R389). -/
theorem Tail.grpFails_of_retries {t : Tail} (c : Nat) (h : t.grp[g].retries ≠ 0) : t.grpFails g c =
    ((t.grpMap g fun x => { x with
      st := .waitRetry, dwell := false, retries := t.grp[g].retries - 1
      wait := some (t.now + t.g (PCHG_GTIME.RETRY_WAIT g.val) * 400000000) }).p (PCHG_GSTAT.CAUSE g.val) c).evt 0x21 g.val := by
  have hwait : (t.grpFail g c).g (PCHG_GTIME.RETRY_WAIT g.val) = t.g (PCHG_GTIME.RETRY_WAIT g.val) :=
    (Tail.g_evt_ne _ _ _ (PCHG_RETRY_WAIT_ne_EVT g)).trans (Tail.g_p_ne _ _ (PCHG_RETRY_WAIT_ne_CAUSE g))
  have hnow : (t.grpFail g c).now = t.now := Tail.evtV_now ..
  unfold Tail.grpFails
  dsimp only
  rw [Tail.grpFail_retries, if_neg h, Tail.after, hwait, hnow, Tail.grpFail_eq, Tail.grpMap_grpMap]
  exact (Tail.grpMap_evt (t.p _ _) g _ _ _).symm

theorem pchgTimeout_failed (hst : s.fs.grp[g].st = .ramp) (hnone : s.fs.grp[g].retries = 0) :
    Settles (.pchgTimeout g) s ((({ s.fs.elapse (s.fs.grp[g].rampAt + s.fs.g (PCHG_GTIME.TMAX g.val) * 400000 - s.fs.now) with
      grp := s.fs.grp.set g { s.fs.grp[g] with st := .failed, wait := none, dwell := false } } : Tail).p
        (PCHG_GSTAT.CAUSE g.val) 4).evt 0x21 g.val) := by
  have h := pchgTimeout_settles hst
  generalize s.fs.grp[g].rampAt + s.fs.g (PCHG_GTIME.TMAX g.val) * 400000 - s.fs.now = d at h ⊢
  unfold Tail.grpFails at h
  dsimp only at h
  rw [Tail.grpFail_retries, Tail.elapse_grp, if_pos hnone] at h
  rw [← s.fs.elapse_grp d]
  exact h

theorem pchgTimeout_waits (hst : s.fs.grp[g].st = .ramp) (hsome : s.fs.grp[g].retries ≠ 0) :
    Settles (.pchgTimeout g) s ((({ s.fs.elapse (s.fs.grp[g].rampAt + s.fs.g (PCHG_GTIME.TMAX g.val) * 400000 - s.fs.now) with
      grp := s.fs.grp.set g { s.fs.grp[g] with
        st := .waitRetry, dwell := false, retries := s.fs.grp[g].retries - 1
        wait := some (s.fs.now + (s.fs.grp[g].rampAt + s.fs.g (PCHG_GTIME.TMAX g.val) * 400000 - s.fs.now)
          + s.fs.g (PCHG_GTIME.RETRY_WAIT g.val) * 400000000) } } : Tail).p
        (PCHG_GSTAT.CAUSE g.val) 4).evt 0x21 g.val) := by
  have h := pchgTimeout_settles hst
  generalize s.fs.grp[g].rampAt + s.fs.g (PCHG_GTIME.TMAX g.val) * 400000 - s.fs.now = d at h ⊢
  rw [Tail.grpFails_of_retries _ (by rwa [Tail.elapse_grp]), Tail.elapse_g, Tail.elapse_now] at h
  rw [← s.fs.elapse_grp d]
  exact h

/-! ## Discharging (10 R391, R400) -/

theorem discharge_settles (hup : s.fs.sqcUp = true) : Settles (.discharge ((1 : BitVec 2) <<< g.val)) s (s.fs.discharge1 g) := by
  refine settles_of_tail _ rfl ((if_pos hup).trans ?_)
  rw [maskGroups_one]
  rfl

/-- Refused while a station of the group runs (21 R751). -/
theorem discharge_refused (hup : s.fs.sqcUp = true) (hen : s.fs.g (PG_CTRL.ENABLE 0x21) = 1)
    (hruns : (s.fs.grpStns g).any (fun n => (s.fs.stnGet n).sq.st.isRunning) = true) :
    Settles (.discharge ((1 : BitVec 2) <<< g.val)) s (s.fs.evt 0x21 4) := by
  have h := discharge_settles (g := g) hup
  unfold Tail.discharge1 at h
  rwa [if_neg (by simp [Tail.b_of_g_one hen]), if_pos hruns] at h

/-- Else the group is DISCHARGING, and an external one has the state of R390 again; a retry that waited is preempted. -/
theorem discharge_accepted (hup : s.fs.sqcUp = true) (hen : s.fs.g (PG_CTRL.ENABLE 0x21) = 1)
    (hidle : (s.fs.grpStns g).any (fun n => (s.fs.stnGet n).sq.st.isRunning) = false) :
    Settles (.discharge ((1 : BitVec 2) <<< g.val)) s
      (((if s.fs.grp[g].st = .waitRetry then s.fs.inc SEQ_BG.PREEMPT else s.fs).grpMap g fun x =>
        { x with st := .discharging, wait := none, dwell := false }).grpExt g) := by
  have h := discharge_settles (g := g) hup
  unfold Tail.discharge1 at h
  rwa [if_neg (by simp [Tail.b_of_g_one hen]), if_neg (by simp [hidle])] at h

theorem discharge_begins (hup : s.fs.sqcUp = true) (hen : s.fs.g (PG_CTRL.ENABLE 0x21) = 1)
    (hidle : (s.fs.grpStns g).any (fun n => (s.fs.stnGet n).sq.st.isRunning) = false) :
    Settles (.discharge ((1 : BitVec 2) <<< g.val)) s (Tail.grpExt
      { (if s.fs.grp[g].st = .waitRetry then s.fs.inc SEQ_BG.PREEMPT else s.fs) with
        grp := s.fs.grp.set g { s.fs.grp[g] with st := .discharging, wait := none, dwell := false } } g) := by
  have h := discharge_accepted hup hen hidle
  by_cases hst : s.fs.grp[g].st = .waitRetry
  · rw [if_pos hst] at h ⊢
    exact h
  · rw [if_neg hst] at h ⊢
    exact h

/-- The state of an internal group does not hang on R390. -/
theorem Tail.grpExt_of_mode {t : Tail} (hmode : t.g (PCHG_GCFG.MODE g.val) ≠ 2) : t.grpExt g = t := if_pos (by simp [hmode])

theorem discharge_internal (hup : s.fs.sqcUp = true) (hen : s.fs.g (PG_CTRL.ENABLE 0x21) = 1) (hmode : s.fs.g (PCHG_GCFG.MODE g.val) ≠ 2)
    (hidle : (s.fs.grpStns g).any (fun n => (s.fs.stnGet n).sq.st.isRunning) = false) (hst : s.fs.grp[g].st ≠ .waitRetry) :
    Settles (.discharge ((1 : BitVec 2) <<< g.val)) s
      { s.fs with grp := s.fs.grp.set g { s.fs.grp[g] with st := .discharging, wait := none, dwell := false } } := by
  have h := discharge_accepted hup hen hidle
  rw [if_neg hst, Tail.grpExt_of_mode (t := s.fs.grpMap g _) hmode] at h
  exact h

end

/-- Settles O14: CHARGE and the end of a wait begin the sequence (`Tail.grpBegin`), a link voltage is taken before it is checked
(`Tail.linkTaken`), and a DISCHARGE of a group whose stations stand still makes it DISCHARGING. -/
theorem preChargeAndDischarge : Obligations.PreChargeAndDischarge :=
  ⟨fun _ _ hup hen _ hmode hrun hdwell hst hnone => charge_close hup hen hmode hrun hdwell hst hnone,
    fun _ _ _ _ hup hmode hst hv => vlinkUpdate_idle hup hmode hst hv,
    fun _ _ _ _ hup hmode hst hv hdone => vlinkUpdate_ramp hup hmode hst hv hdone,
    fun _ _ hst hnone => pchgTimeout_failed hst hnone,
    fun _ _ _ hst hdwell hwait hnone => retryWaitEnd_settles hst hdwell hwait hnone,
    fun _ _ _ hup hen _ hmode hrun hdwell hst hsome => charge_dwell hup hen hmode hrun hdwell hst hsome,
    fun _ _ hst hsome => pchgTimeout_waits hst hsome,
    fun _ _ hup hen hruns => discharge_refused hup hen hruns,
    fun _ _ hup hen hmode hidle hst => discharge_internal hup hen hmode hidle hst,
    fun _ _ _ _ hup hmode hst hv hsafe => vlinkUpdate_discharged hup hmode hst hv hsafe,
    fun _ _ hup hen hidle => discharge_begins hup hen hidle⟩

end Sys2Proof.Machine
end

section
/-! Settling O15: the digital inputs and outputs (10 R395 to R398, 24 R827). -/

namespace Sys2Proof.Machine

/-! ## Auxiliary contacts (10 R397) -/

section
variable {t : Tail} {k : Fin 8} {s : State}

@[simp] theorem Tail.evt_stnGet (t : Tail) (p i : Nat) (n : Stn) : (t.evt p i).stnGet n = t.stnGet n :=
  congrArg (fun v : Vector Station 4 => v[n]) (t.evtV_stn p i none)

theorem DIO_FUNC_ne_EVT (k : Fin 8) : (DIO_OCFG.FUNC k.val).addr ≠ (PG_EVT.EVT 0x22).addr := by revert k; decide

/-- An output that is no contactor's reacts as the brake of its station, if it is one. -/
theorem Tail.auxReaction_of_func (h : t.g (DIO_OCFG.FUNC k.val) = 0 ∨ 8 ≤ t.g (DIO_OCFG.FUNC k.val)) : t.auxReaction k.val =
    if h : 8 ≤ t.g (DIO_OCFG.FUNC k.val) ∧ t.g (DIO_OCFG.FUNC k.val) < 12 then
      let n : Stn := ⟨t.g (DIO_OCFG.FUNC k.val) - 8, by omega⟩
      if (t.stnGet n).sq.brake || (t.stnGet n).sq.step = .brakeClose || (t.stnGet n).sq.step = .tSet
        then (t.sqMap n (fun s => { s with brake := false })).enterFaulted n 2 else t
    else t := by
  unfold Tail.auxReaction
  dsimp only
  split
  · omega
  · omega
  · omega
  · omega
  · rfl

/-- A general output has no reaction of its own. -/
theorem Tail.auxReaction_general (h : t.g (DIO_OCFG.FUNC k.val) = 0) : t.auxReaction k.val = t :=
  (Tail.auxReaction_of_func (.inl h)).trans (dif_neg (by omega))

/-- A brake that does not confirm while its output is on opens its station (10 R384, R385). -/
theorem Tail.auxReaction_brake {n : Stn} (h : t.g (DIO_OCFG.FUNC k.val) = 8 + n.val) (hbrake : (t.stnGet n).sq.brake = true) :
    t.auxReaction k.val = (t.sqMap n (fun q => { q with brake := false })).enterFaulted n 2 := by
  have hn : ∀ hlt, (⟨t.g (DIO_OCFG.FUNC k.val) - 8, hlt⟩ : Stn) = n := fun _ => Fin.ext (by simp [h])
  rw [Tail.auxReaction_of_func (.inr (by omega)), dif_pos (by omega)]
  dsimp only
  rw [hn, if_pos (by simp [hbrake])]

theorem auxFail_settles (hup : s.fs.sqcUp = true) (hdio : s.fs.g (PG_CTRL.ENABLE 0x22) = 1) (haux : s.fs.g (DIO_OCFG.AUX_EN k.val) = 1)
    (hbad : s.fs.dio.di.getLsbD (s.fs.g (DIO_OCFG.AUX_IN k.val)) ≠ (s.fs.doCmd k.val != s.fs.b (DIO_OCFG.AUX_POL k.val))) :
    Settles (.auxFail k) s ((s.fs.evt 0x22 k.val).auxReaction k.val) := by
  refine settles_of_tail _ rfl (if_pos ?_)
  rw [hup, Tail.b_of_g_one hdio, Tail.b_of_g_one haux]
  simpa using hbad

end

/-- Settles O15: an accepted level is taken as it is, a contact's failure is latched before its reaction, and of the outputs none is driven
while DIO_24V is low. -/
theorem digitalIo : Obligations.DigitalIo := by
  refine ⟨fun k level s hpd => ?_, fun level s hpd => ?_, fun k s hup hdio haux hfunc hbad => ?_,
    fun k n s hup hdio haux hfunc hbrake hbad => ?_, fun k s hon => settles_of_tail _ rfl (if_pos hon),
    fun low s => does_of_tail _ rfl rfl, fun k t hlow => ?_, fun k level s hpd => ?_⟩
  · exact settles_of_tail _ rfl (if_neg (by simp [hpd]))
  · exact does_of_tail _ rfl (if_neg (by simp [hpd]))
  · have h := auxFail_settles hup hdio haux hbad
    rwa [Tail.auxReaction_general ((Tail.g_evt_ne _ _ _ (DIO_FUNC_ne_EVT k)).trans hfunc)] at h
  · have h := auxFail_settles hup hdio haux hbad
    rwa [Tail.auxReaction_brake ((Tail.g_evt_ne _ _ _ (DIO_FUNC_ne_EVT k)).trans hfunc) ((congrArg (·.sq.brake) (s.fs.evt_stnGet _ _ n)).trans hbrake)] at h
  · simp [Tail.doOn, hlow]
  · exact does_of_tail _ rfl (if_neg (by simp [hpd]))

end Sys2Proof.Machine
end

section
/-! Settling O16: arming, disarming and the requests that wait for a command point (10 R367 to R371, R379 to R382, R402). -/

namespace Sys2Proof.Machine

/-! ## Stations -/

section
variable {t : Tail}

theorem Tail.sqMap_congr {n : Stn} {f g : Sq → Sq} (h : f (t.stnGet n).sq = g (t.stnGet n).sq) : t.sqMap n f = t.sqMap n g :=
  congrArg (fun q : Sq => { t with stn := t.stn.set n { t.stn[n] with sq := q } }) h

theorem Tail.mem_stns (n : Stn) : n ∈ t.stns ↔ t.fitted n.val = true := by simp [Tail.stns]

theorem Tail.stns_nodup : t.stns.Nodup := (List.nodup_finRange 4).filter _

/-- A fold over distinct stations of which one alone is meant acts on that one. -/
theorem foldl_one {l : List Stn} {n : Stn} {p : Stn → Prop} [DecidablePred p] (hp : ∀ m, p m ↔ m = n) (F : Tail → Stn → Tail) (t : Tail)
    (hmem : n ∈ l) (hnodup : l.Nodup) : l.foldl (fun t m => if p m then F t m else t) t = F t n := by
  have hskip : ∀ (l : List Stn) (r : Tail), n ∉ l → l.foldl (fun t m => if p m then F t m else t) r = r := by
    intro l r hn
    refine List.foldlRecOn (motive := fun q => q = r) _ _ rfl fun q hq m hm => ?_
    rw [if_neg (fun h => hn ((hp m).mp h ▸ hm))]
    exact hq
  induction l with
  | nil => exact absurd hmem List.not_mem_nil
  | cons m l ih =>
    obtain ⟨hm, hl⟩ := List.nodup_cons.mp hnodup
    rw [List.foldl_cons]
    by_cases hmn : m = n
    · subst hmn
      rw [if_pos ((hp m).mpr rfl)]
      exact hskip l _ hm
    · rw [if_neg (fun h => hmn ((hp m).mp h))]
      exact ih ((List.mem_cons.mp hmem).resolve_left (Ne.symm hmn)) hl

/-- A mask with one bit names its station alone. -/
theorem testBit_two_pow_stn (n m : Stn) : (2 ^ n.val).testBit m.val = true ↔ m = n := by
  rw [Nat.testBit_two_pow, decide_eq_true_eq, Fin.ext_iff, eq_comm]

theorem Tail.setUnit_of_ne {us : UnitSt} (h : t.us ≠ us) :
    t.setUnit us = { (t.p DEV_STATE.PREV t.us.code).p SEQ_STAT.PREV_STATE t.us.code with us := us } := if_neg h

/-! ## Requests that wait (10 R379 to R382) -/

theorem Tail.stopReq_of_none {n : Stn} (h : (t.stnGet n).sq.pendStop = none) (r : StopReq) :
    t.stopReq n r = t.sqMap n fun q => { q with pendStop := some r } :=
  Tail.sqMap_congr (by rw [h])

theorem Tail.stopReq_of_some {n : Stn} {o : StopReq} (h : (t.stnGet n).sq.pendStop = some o) (r : StopReq) :
    t.stopReq n r = t.sqMap n fun q => { q with pendStop := some (o.merge r) } :=
  Tail.sqMap_congr (by rw [h])

/-- EMG_STOP of one station, in category 1 or 2. -/
theorem Tail.emgStop_one {n : Stn} {w : Word} (hfit : t.fitted n.val = true) (hstop : fdGet EMG_CMD.STOP w = 2 ^ n.val)
    (hcat : fdGet EMG_CMD.CAT w = 1 ∨ fdGet EMG_CMD.CAT w = 2) :
    t.emgStop w = t.stopReq n ⟨true, fdGet EMG_CMD.CAT w = 2, false, true⟩ := by
  refine (if_pos (by simpa using hcat)).trans ?_
  rw [hstop]
  exact foldl_one (testBit_two_pow_stn n) (fun t m => t.stopReq m _) t ((t.mem_stns n).mpr hfit) t.stns_nodup

theorem Tail.emgStop_of_cat {w : Word} (h : fdGet EMG_CMD.CAT w = 0 ∨ fdGet EMG_CMD.CAT w = 3) : t.emgStop w = t :=
  if_neg (by rcases h with h | h <;> simp [h])

theorem Tail.releaseCmd_one {n : Stn} (hfit : t.fitted n.val = true) :
    t.releaseCmd ((1 : BitVec 4) <<< n.val).toNat = t.sqMap n fun q => { q with pendRelease := true } := by
  have hmask : ∀ n : Stn, ((1 : BitVec 4) <<< n.val).toNat = 2 ^ n.val := by decide
  rw [hmask]
  exact foldl_one (testBit_two_pow_stn n) (fun t m => t.sqMap m _) t ((t.mem_stns n).mpr hfit) t.stns_nodup

end

/-! ## DISARM of a unit in RUN (10 R371) -/

/-- A DISARM asks station `n` to stop if it is in a running state but EMERGENCY. -/
theorem Tail.disarmCmd_run {t : Tail} (hrun : t.us = .run) (htw : t.u.tw2 = false) (h0 : (t.stnGet 0).sq.st = .running)
    (hpend : (t.stnGet 0).sq.pendStop = none) (h1 : (t.stnGet 1).sq.st = .emergency) (h2 : (t.stnGet 2).sq.st = .ready)
    (h3 : (t.stnGet 3).sq.st = .disabled) :
    t.disarmCmd = (t.setUnit .stopping).sqMap 0 fun q => { q with pendStop := some ⟨false, false, false, true⟩ } := by
  have hstns : t.stns = [0, 1, 2, 3] := by
    unfold Tail.stns Tail.fitted
    rw [htw]
    decide
  unfold Tail.disarmCmd
  rw [hrun]
  dsimp only
  have hget : ∀ m, (t.setUnit .stopping).stnGet m = t.stnGet m := fun m => by
    rw [Tail.setUnit_of_ne (by rw [hrun]; decide)]
    rfl
  rw [hstns]
  generalize t.setUnit .stopping = r at hget ⊢
  have hasked : ((r.stnGet 0).sq.st.isRunning && (r.stnGet 0).sq.st != .emergency) = true := by
    rw [hget, h0]
    rfl
  have hother : ∀ (m : Stn) (f : Sq → Sq), m ≠ 0 → (t.stnGet m).sq.st = .emergency ∨ (t.stnGet m).sq.st.isRunning = false →
      ¬ ((((r.sqMap 0 f).stnGet m).sq.st.isRunning && ((r.sqMap 0 f).stnGet m).sq.st != .emergency) = true) := fun m f hm hst => by
    have hm' : (r.sqMap 0 f).stnGet m = t.stnGet m := (r.stnMap_get_ne 0 m _ (Ne.symm hm)).trans (hget m)
    rw [hm']
    rcases hst with h | h <;> simp [h]
  simp only [List.foldl_cons, List.foldl_nil]
  rw [if_pos hasked, Tail.stopReq_of_none (by rw [hget, hpend]), if_neg (hother 1 _ (by decide) (.inl h1)),
    if_neg (hother 2 _ (by decide) (.inr (by rw [h2]; rfl))), if_neg (hother 3 _ (by decide) (.inr (by rw [h3]; rfl)))]

/-- Settles O16: the requests of a station are changes of its own sequence (`Tail.stopReq_of_none`, `foldl_one`). -/
theorem armingAndRequests : Obligations.ArmingAndRequests := by
  refine ⟨fun s hup hblock hus => ?_, fun s hup hblock => ?_, fun s hup hus => ?_,
    fun s hup hus htw h0 hpend h1 h2 h3 => ?_, fun word s hup hkey hepoch hus hidle => ?_, fun n s hup hfit => ?_,
    fun n s hup hfit hnone => ?_, fun n o s hup hfit hsome => ?_, fun n word s hup hfit hnone hstop hcat => ?_,
    fun n word s hup hfit hnone hstop hcat => ?_, fun word s hcat => ?_, fun n s hup hfit => ?_, fun n s hboot hon hfit => ?_⟩
  · refine settles_of_tail _ rfl ((if_pos hup).trans ?_)
    rw [Tail.armCmd, if_neg (by simp [hblock]), if_pos hus, Tail.setUnit_of_ne (by rw [hus]; decide), hus]
    rfl
  · refine settles_of_tail _ rfl ((if_pos hup).trans ?_)
    rw [Tail.armCmd, if_pos (by simp [hblock])]
  · refine settles_of_tail _ rfl ((if_pos hup).trans ?_)
    rw [Tail.disarmCmd, hus, Tail.setUnit_of_ne (by rw [hus]; decide), hus]
    rfl
  · refine settles_of_tail _ rfl ((if_pos hup).trans ?_)
    rw [Tail.disarmCmd_run hus htw h0 hpend h1 h2 h3, Tail.setUnit_of_ne (by rw [hus]; decide), hus]
    rfl
  · refine does_of_tail _ rfl (if_pos ?_)
    simp [hup, Tail.seqResetMay, hkey, hepoch, hus, hidle]
  · obtain ⟨hon, hus⟩ := Bool.and_eq_true_iff.mp hup
    refine does_of_tail _ rfl ((if_neg ?_).trans ((if_pos hup).trans (if_pos hup)))
    simp only [Bool.not_eq_true', Bool.or_eq_false_iff, decide_eq_false_iff_not] at hus
    simp [hon, hfit, hus]
  · exact does_of_tail _ rfl ((if_pos (by simp [hup, hfit])).trans (Tail.stopReq_of_none hnone _))
  · refine does_of_tail _ rfl ((if_pos (by simp [hup, hfit])).trans ((Tail.stopReq_of_some hsome _).trans ?_))
    simp [StopReq.merge]
  · refine does_of_tail _ rfl ((if_pos hup).trans ((Tail.emgStop_one hfit hstop (.inl hcat)).trans ?_))
    rw [Tail.stopReq_of_none hnone, hcat]
    rfl
  · refine does_of_tail _ rfl ((if_pos hup).trans ((Tail.emgStop_one hfit hstop (.inr hcat)).trans ?_))
    rw [Tail.stopReq_of_none hnone, hcat]
    rfl
  · refine does_of_tail _ rfl ?_
    rw [Tail.emgStop_of_cat hcat, ite_self]
  · exact does_of_tail _ rfl ((if_pos hup).trans (Tail.releaseCmd_one hfit))
  · have hup : ¬ s.fs.sqcUp = true := by simp [Tail.sqcUp, hboot]
    refine settles_of_tail _ rfl ((if_neg (by simp [hon, hfit, hboot])).trans ((if_neg hup).trans ?_))
    rw [Tail.startCmd, if_neg hup]
    rfl

end Sys2Proof.Machine
end

section
/-! Settling O18: the start sequence (10 R383, R384). -/

namespace Sys2Proof.Machine

/-! ## Time and stations -/

section
variable (t : Tail) (d : Nat) (n : Stn)

@[simp] theorem Tail.elapse_stnGet : (t.elapse d).stnGet n = t.stnGet n := congrArg (fun v : Vector Station 4 => v[n]) (t.elapse_stn d)

@[simp] theorem Tail.elapse_inEff (a : Nat) : (t.elapse d).inEff a = t.inEff a := by
  have hword : (t.elapse d).word = t.word := funext (t.elapse_word d)
  simp [Tail.inEff, hword]

@[simp] theorem Tail.elapse_cf (f : Fd) : (t.elapse d).cf f = t.cf f := by simp [Tail.cf]

@[simp] theorem Tail.elapse_cfb (f : Fd) : (t.elapse d).cfb f = t.cfb f := by simp [Tail.cfb]

variable {t n}

theorem Tail.setSt_of_ne {st : StnSt} (h : (t.stnGet n).sq.st ≠ st) :
    t.setSt n st = (t.p (STN_STAT.PREV n) (t.stnGet n).sq.st.code).sqMap n fun s => { s with st := st } := if_neg h

/-- A station that does not act as Pacer keeps its role at its takeover (16 R589). -/
theorem Tail.roleAtTakeover_of_ne (h : (t.stnGet n).share.role ≠ .pacer) : t.roleAtTakeover n = t := by
  unfold Tail.roleAtTakeover
  split
  · exact if_neg (by simp [h])
  · rfl

theorem Tail.sqMap_share (f : Sq → Sq) : ((t.sqMap n f).stnGet n).share = (t.stnGet n).share := by simp [Tail.sqMap]

theorem Tail.beginProve_eq : t.beginProve n = t.sqMap n fun q => { q with
    step := .prove, proved := true, t := some (t.now + t.cf (STN_BRK1.PROVE_MS n) * 400000) } := rfl

end

/-! ## The steps -/

section
variable {s : State} {n : Stn} {d : Nat} (hst : (s.fs.stnGet n).sq.st = .magnetizing) (ht : (s.fs.stnGet n).sq.t = some d)
  (hgo : (s.fs.stnGet n).sq.abandon = false)
include hst ht hgo

/-- A station with a brake proves for PROVE_MS (10 R383 step 3). -/
theorem fluxBuilt_proves (hstep : (s.fs.stnGet n).sq.step = .flux) (hbrake : s.fs.cf (STN_CFG.BRAKE_EN n) = 1)
    (hnone : s.fs.dwellStns [n] = none) :
    Does (.fluxBuilt n) s ((s.fs.elapse (d - s.fs.now)).sqMap n (fun q => { q with
      step := .prove, proved := true
      t := some (s.fs.now + (d - s.fs.now) + s.fs.cf (STN_BRK1.PROVE_MS n) * 400000) })) := by
  refine does_of_tail _ rfl ?_
  dsimp only
  rw [hst, hstep, ht, hgo]
  dsimp only
  rw [Tail.elapseTo, if_neg (by simp [Tail.cfb, hbrake]), Tail.elapse_dwellStns, hnone]
  dsimp only
  rw [Tail.beginProve_eq, Tail.elapse_cf, Tail.elapse_now]

/-- One without goes on to the takeover at once. -/
theorem fluxBuilt_takesOver (hstep : (s.fs.stnGet n).sq.step = .flux) (hbrake : s.fs.cf (STN_CFG.BRAKE_EN n) = 0) :
    Does (.fluxBuilt n) s ((s.fs.elapse (d - s.fs.now)).sqMap n (fun q => { q with
      step := .tRel, t := some (s.fs.now + (d - s.fs.now)) })) := by
  refine does_of_tail _ rfl ?_
  dsimp only
  rw [hst, hstep, ht, hgo]
  dsimp only
  rw [Tail.elapseTo, if_pos (by simp [Tail.cfb, hbrake]), Tail.after, Tail.elapse_now]
  rfl

/-- The end of the proving: FAULTED, or the brake opens (10 R383 step 4, R384). -/
theorem provingEnd_settles (hstep : (s.fs.stnGet n).sq.step = .prove) :
    ((s.fs.stnGet n).sq.proved = false → Settles (.provingEnd n) s ((s.fs.elapse (d - s.fs.now)).enterFaulted n 3))
    ∧ ((s.fs.stnGet n).sq.proved = true → Settles (.provingEnd n) s
        (((s.fs.elapse (d - s.fs.now)).sqMap n (fun q => { q with brake := true, step := .brakeOpen, t := none })).brakeConfirm n)) := by
  refine ⟨fun hproved => settles_of_tail _ rfl ?_, fun hproved => settles_of_tail _ rfl ?_⟩
  · dsimp only
    rw [hst, hstep, ht, hgo]
    exact if_neg (by simp [Tail.elapseTo, hproved])
  · dsimp only
    rw [hst, hstep, ht, hgo]
    exact if_pos (by simp [Tail.elapseTo, hproved])

/-- A Follower takes over with no torque (10 R383 step 5). -/
theorem takeover_follower (hstep : (s.fs.stnGet n).sq.step = .tRel) (hrole : (s.fs.stnGet n).share.role = .follower) :
    Settles (.takeover n) s (((((s.fs.elapse (d - s.fs.now)).p (STN_STAT.PREV n) 3).sqMap n (fun q => { q with st := .running })).sqMap n
      (fun q => { q with step := .none, t := none, vsT := none })).shareMap n (fun x => { x with share := 0 })) := by
  have hst' : ((s.fs.elapse (d - s.fs.now)).stnGet n).sq.st = .magnetizing := by rw [Tail.elapse_stnGet, hst]
  have hrole' (x : Nat) : (((s.fs.elapse (d - s.fs.now)).p (STN_STAT.PREV n) x).stnGet n).share.role = .follower := by
    rw [← hrole, ← s.fs.elapse_stnGet (d - s.fs.now) n]
    rfl
  refine settles_of_tail _ rfl ?_
  dsimp only
  rw [hst, hstep, ht, hgo]
  dsimp only
  rw [Tail.elapseTo, Tail.setSt_of_ne (by rw [hst']; decide), hst', Tail.roleAtTakeover_of_ne ?_, if_pos ?_]
  · rfl
  · rw [Tail.sqMap_share, Tail.sqMap_share, hrole']
  · rw [Tail.sqMap_share, Tail.sqMap_share, hrole']
    decide

end

/-- Settles O18: every step of the sequence acts at its time on the station as it then stands. -/
theorem startSequence : Obligations.StartSequence :=
  ⟨fun _ _ _ hst hstep ht hgo hbrake hnone => fluxBuilt_proves hst ht hgo hstep hbrake hnone,
    fun _ _ _ hst hstep ht hgo hbrake => fluxBuilt_takesOver hst ht hgo hstep hbrake,
    fun _ _ _ hst hstep ht hgo => provingEnd_settles hst ht hgo hstep,
    fun _ _ _ hst hstep ht hgo hrole => takeover_follower hst ht hgo hstep hrole⟩

end Sys2Proof.Machine
end

section
/-! Settling O19: the stop sequence and the watches of running stations (10 R378, R385, 22 R763 to R765, R780). -/

namespace Sys2Proof.Machine

/-! ## Stations at zero speed (10 R385) -/

section
variable {t : Tail} {n : Stn}

theorem Tail.inc_stnGet (f : Fd) : (t.inc f).stnGet n = t.stnGet n := rfl

/-- Without a brake step 4 follows at once. -/
theorem Tail.closeBrake_of_none (h : t.cf (STN_CFG.BRAKE_EN n) = 0) : t.closeBrake n =
    t.sqMap n fun q => { q with brake := false, step := .tSet, t := some t.now, c2 := false } := if_neg (by simp [Tail.cfb, h])

theorem Tail.closeBrake_of_brake (h : t.cf (STN_CFG.BRAKE_EN n) = 1) : t.closeBrake n =
    (t.sqMap n fun q => { q with brake := false, step := .brakeClose, t := none, c2 := false }).brakeConfirm n :=
  if_pos (by simp [Tail.cfb, h])

/-- A ramp with the normal limits takes the emergency limits (15 R569). -/
theorem Tail.stopLimits_of_normal (h : (t.stnGet n).setp.stop = .normal) : t.stopLimits n .emergency =
    (t.setpMap n fun x => { x with stop := .emergency }).evt (stnPage n 0xB) 6 := by
  unfold Tail.stopLimits
  dsimp only
  rw [h, if_neg (by decide), if_pos rfl]
  simp

end

section
variable {s : State} {n : Stn} {d : Nat}

/-- The station once its ramp has ended: the monitors of the ramp stop. -/
theorem zeroSpeedHeld_settles {r : StopReq} (hrun : (s.fs.stnGet n).sq.st.isRunning = true) (hstep : (s.fs.stnGet n).sq.step = .ramp)
    (hten : 10 ≤ (s.fs.stnGet n).sq.zcount) (hc2 : (s.fs.stnGet n).sq.c2 = false) (hstop : (s.fs.stnGet n).sq.stop = some r) :
    (r.cat2 = true → Settles (.zeroSpeedHeld n) s (((s.fs.sqMap n (fun q => { q with c1T := none })).protMap n
      (fun p => { p with ctoT := none })).sqMap n (fun q => { q with c2 := true })))
    ∧ (r.cat2 = false → Settles (.zeroSpeedHeld n) s (((s.fs.sqMap n (fun q => { q with c1T := none })).protMap n
      (fun p => { p with ctoT := none })).closeBrake n)) := by
  refine ⟨fun hcat => settles_of_tail _ rfl ((if_neg (by simp [hrun, hstep, hten, hc2])).trans ?_),
    fun hcat => settles_of_tail _ rfl ((if_neg (by simp [hrun, hstep, hten, hc2])).trans ?_)⟩
  · dsimp only
    rw [hstop]
    dsimp only
    rw [if_pos hcat]
  · dsimp only
    rw [hstop]
    dsimp only
    rw [if_neg (by simp [hcat])]

/-! ## The brake has set (10 R385 step 4, 18 R672) -/

theorem brakeSetDone_ready (hstep : (s.fs.stnGet n).sq.step = .tSet) (ht : (s.fs.stnGet n).sq.t = some d)
    (hstop : (s.fs.stnGet n).sq.stop = none) : Settles (.brakeSetDone n) s ((s.fs.elapse (d - s.fs.now)).enterReady n) := by
  refine settles_of_tail _ rfl ?_
  dsimp only
  rw [hstep, ht, hstop]
  rfl

theorem brakeSetDone_faulted {r : StopReq} (hstep : (s.fs.stnGet n).sq.step = .tSet) (ht : (s.fs.stnGet n).sq.t = some d)
    (hstop : (s.fs.stnGet n).sq.stop = some r) (hclass : r.classC = true) (hlatch : s.fs.g (PROT_LATCH.LATCH n) ≠ 0) :
    Settles (.brakeSetDone n) s ((s.fs.elapse (d - s.fs.now)).enterFaulted n 0) := by
  refine settles_of_tail _ rfl ?_
  dsimp only
  rw [hstep, ht, hstop]
  dsimp only
  rw [if_pos (by simp [Tail.elapseTo, hclass, hlatch])]
  rfl

/-- Under HOLD_BRAKE the brake is set after the proving (22 R780). -/
theorem holdBrakeProvingEnd_settles (hstep : (s.fs.stnGet n).sq.step = .zeroProve) (ht : (s.fs.stnGet n).sq.t = some d)
    (hbrake : s.fs.cf (STN_CFG.BRAKE_EN n) = 1) :
    Settles (.holdBrakeProvingEnd n) s (((s.fs.elapse (d - s.fs.now)).sqMap n (fun q =>
      { q with brake := false, step := .brakeClose, t := none, c2 := false })).brakeConfirm n) := by
  refine settles_of_tail _ rfl ?_
  rw [hstep, ht]
  dsimp only
  rw [Tail.elapseTo, Tail.closeBrake_of_brake (by rwa [Tail.elapse_cf])]

/-! ## The watches of a running station (10 R378, 22 R765) -/

theorem voltLim_settles {a : Nat} (hvs : (s.fs.stnGet n).sq.vsT = some a) :
    ((s.fs.stnGet n).sq.st = .running → Settles (.voltLim n) s (((((s.fs.elapse (a + 80000000 - s.fs.now)).p (STN_STAT.PREV n) 4).sqMap n
      (fun q => { q with st := .voltLimited })).sqMap n (fun q => { q with vsT := none })).evt (stnPage n 0) 3))
    ∧ ((s.fs.stnGet n).sq.st = .voltLimited → Settles (.voltLim n) s ((((s.fs.elapse (a + 80000000 - s.fs.now)).p (STN_STAT.PREV n) 5).sqMap n
      (fun q => { q with st := .running })).sqMap n (fun q => { q with vsT := none }))) := by
  refine ⟨fun hst => settles_of_tail _ rfl ?_, fun hst => settles_of_tail _ rfl ?_⟩
  · have hst' : ((s.fs.elapse (a + 80000000 - s.fs.now)).stnGet n).sq.st = .running := by rw [Tail.elapse_stnGet, hst]
    rw [hst, hvs]
    dsimp only
    rw [show a + 200 * ms1 = a + 80000000 from rfl, Tail.elapseTo, Tail.setSt_of_ne (by rw [hst']; decide), hst']
    rfl
  · have hst' : ((s.fs.elapse (a + 80000000 - s.fs.now)).stnGet n).sq.st = .voltLimited := by rw [Tail.elapse_stnGet, hst]
    rw [hst, hvs]
    dsimp only
    rw [show a + 200 * ms1 = a + 80000000 from rfl, Tail.elapseTo, Tail.setSt_of_ne (by rw [hst']; decide), hst']
    rfl

theorem c1Timeout_settles (hc1 : (s.fs.stnGet n).sq.c1T = some d) (hstep : (s.fs.stnGet n).sq.step = .ramp)
    (hstop : (s.fs.stnGet n).setp.stop = .normal) :
    Settles (.c1Timeout n) s (((((((s.fs.elapse (d - s.fs.now)).sqMap n (fun q => { q with c1T := none })).evt 0x24 4).inc EMG_CNT.C1_TO).setpMap n
      (fun x => { x with stop := .emergency }))).evt (stnPage n 0xB) 6) := by
  refine settles_of_tail _ rfl ?_
  dsimp only
  rw [hc1]
  dsimp only
  rw [Tail.elapseTo, if_pos (by simp [Tail.sqMap, hstep]), Tail.stopLimits_of_normal ?_]
  rw [Tail.inc_stnGet, Tail.evt_stnGet]
  simp [Tail.sqMap, hstop]

end

/-- Settles O19: each end of a wait acts on the station as it then stands. -/
theorem stopSequence : Obligations.StopSequence := by
  refine ⟨fun n r s hrun hstep hten hc2 hstop => ?_, fun _ _ _ hstep ht hstop => brakeSetDone_ready hstep ht hstop,
    fun _ _ _ _ hstep ht hstop hclass hlatch => brakeSetDone_faulted hstep ht hstop hclass hlatch,
    fun _ _ _ hstep ht hbrake => holdBrakeProvingEnd_settles hstep ht hbrake, fun _ _ _ hvs => voltLim_settles hvs,
    fun _ _ _ hc1 hstep hstop => c1Timeout_settles hc1 hstep hstop⟩
  obtain ⟨hholds, hcloses⟩ := zeroSpeedHeld_settles hrun hstep hten hc2 hstop
  exact ⟨hholds, fun hcat hbrake => Tail.closeBrake_of_none (t := (s.fs.sqMap n _).protMap n _) hbrake ▸ hcloses hcat,
    fun hcat hbrake => Tail.closeBrake_of_brake (t := (s.fs.sqMap n _).protMap n _) hbrake ▸ hcloses hcat⟩

end Sys2Proof.Machine
end

section
/-! What the end of a step leaves of a station that runs, while the unit has no fault (10 R366, R367, R378). -/

namespace Sys2Proof.Machine

/-- STN_STAT of station `n`, and STO_STAT. -/
def steadyRegs (n : Stn) : List Nat := [(STN_STAT.PREV n).addr, STO_STAT.STO_DISC.addr]

/-- The sequence of station `n`, the time, STN_STAT and STO_STAT. -/
def Tail.steady (t : Tail) (n : Stn) : Sq × Nat × Word × Word :=
  ((t.stnGet n).sq, t.now, t.word (STN_STAT.PREV n).addr, t.word STO_STAT.STO_DISC.addr)

section
variable {t r : Tail} {n : Stn}

theorem Tail.steady_of (hsq : (r.stnGet n).sq = (t.stnGet n).sq) (hnow : r.now = t.now)
    (hw : ∀ a ∈ steadyRegs n, r.word a = t.word a) : r.steady n = t.steady n := by
  unfold Tail.steady
  rw [hsq, hnow, hw _ (by simp [steadyRegs]), hw _ (by simp [steadyRegs])]

/-- What `Tail.steady` holds, apart. -/
theorem Tail.of_steady (h : r.steady n = t.steady n) : (r.stnGet n).sq = (t.stnGet n).sq ∧ r.now = t.now
    ∧ r.g (STN_STAT.PREV n) = t.g (STN_STAT.PREV n) ∧ r.unitFault = t.unitFault := by
  obtain ⟨hsq, hrest⟩ := Prod.mk.inj h
  obtain ⟨hnow, hrest⟩ := Prod.mk.inj hrest
  obtain ⟨hprev, hsto⟩ := Prod.mk.inj hrest
  exact ⟨hsq, hnow, congrArg (fdGet (STN_STAT.PREV n)) hprev,
    congrArg (fun w => fdGet STO_STAT.STO_DISC w != 0 || fdGet STO_STAT.DIAG_FAIL w != 0) hsto⟩

theorem steadyRegs_not_evt (n : Stn) : ∀ a ∈ steadyRegs n, a % 256 ≠ 0x0C := by revert n; decide

theorem steadyRegs_not_log (n : Stn) : ∀ a ∈ steadyRegs n, logReg a = false := by revert n; decide

theorem Tail.Logs.steady (h : t.Logs r) (n : Stn) : r.steady n = t.steady n :=
  Tail.steady_of (show (r.unlogged.stnGet n).sq = (t.unlogged.stnGet n).sq by rw [h.1])
    (show r.unlogged.now = t.unlogged.now by rw [h.1]) fun a ha => (h.2 a (steadyRegs_not_log n a ha)).1

end

section
variable (t : Tail) (n m : Stn)

/-! ## Registers, latches and stations -/

theorem Tail.p_steady {f : Fd} (x : Nat) (h : f.addr ∉ steadyRegs n) : (t.p f x).steady n = t.steady n :=
  Tail.steady_of rfl rfl fun _ ha => t.word_p_ne x fun he => h (he ▸ ha)

@[simp] theorem Tail.evt_steady (p i : Nat) : (t.evt p i).steady n = t.steady n := by
  refine Tail.steady_of (congrArg Station.sq (t.evt_stnGet p i n)) (t.evtV_now p i none) fun a ha => t.word_evt_ne p i fun he => steadyRegs_not_evt n a ha ?_
  rw [he]
  exact Nat.mul_add_mod_self_right p 256 0x0C

variable {n m} in
/-- A change of a station that leaves the sequence of station `n`. -/
theorem Tail.stnMap_steady {g : Station → Station} (h : n = m → (g (t.stnGet n)).sq = (t.stnGet n).sq) :
    (t.stnMap m g).steady n = t.steady n := by
  refine Tail.steady_of ?_ rfl fun _ _ => rfl
  by_cases hm : n = m
  · subst hm
    rw [Tail.stnMap_get, h rfl]
  · rw [t.stnMap_get_ne m n g (Ne.symm hm)]

@[simp] theorem Tail.isnsMap_steady (f : Isns → Isns) : (t.isnsMap m f).steady n = t.steady n := t.stnMap_steady fun _ => rfl
@[simp] theorem Tail.banksMap_steady (f : Banks → Banks) : (t.banksMap m f).steady n = t.steady n := t.stnMap_steady fun _ => rfl
@[simp] theorem Tail.protMap_steady (f : Prot → Prot) : (t.protMap m f).steady n = t.steady n := t.stnMap_steady fun _ => rfl
@[simp] theorem Tail.setpMap_steady (f : SetPt → SetPt) : (t.setpMap m f).steady n = t.steady n := t.stnMap_steady fun _ => rfl
@[simp] theorem Tail.moduMap_steady (f : Modu → Modu) : (t.moduMap m f).steady n = t.steady n := t.stnMap_steady fun _ => rfl

/-- A fold of steps that leave it leaves it. -/
theorem Tail.foldl_steady {f : Tail → Stn → Tail} (l : List Stn) (h : ∀ r m, r.steady n = t.steady n → (f r m).steady n = t.steady n) :
    (l.foldl f t).steady n = t.steady n :=
  List.foldlRecOn (motive := fun r : Tail => r.steady n = t.steady n) l f rfl fun r hr m _ => h r m hr

/-! ## Operations on any station -/

theorem bank_notMem_steadyRegs : (BNKA_STAT.ACT_CUR m).addr ∉ steadyRegs n := by revert n m; decide

theorem cal_notMem_steadyRegs : (ISNS_STAT.CAL_STATE m).addr ∉ steadyRegs n := by revert n m; decide

@[simp] theorem Tail.swapTo_steady (cur so : Option Bool) (src bit : Nat) : (t.swapTo m cur so src bit).steady n = t.steady n := by
  have hp (r : Tail) (f : Fd) (x : Nat) (hf : f.addr = (BNKA_STAT.ACT_CUR m).addr) : (r.p f x).steady n = r.steady n :=
    r.p_steady n x (hf ▸ bank_notMem_steadyRegs n m)
  unfold Tail.swapTo
  dsimp only
  split
  · rfl
  · rw [Tail.evt_steady, hp _ (BNKA_STAT.LAST_SRC m) _ rfl]
    exact (hp _ (BNKA_STAT.SWAPS m) _ rfl).trans ((hp _ (BNKA_STAT.ACT_SO m) _ rfl).trans (hp _ (BNKA_STAT.ACT_CUR m) _ rfl))

@[simp] theorem Tail.banksIdle_steady : (t.banksIdle m).steady n = t.steady n := by
  unfold Tail.banksIdle Tail.swapHost
  dsimp only
  split
  · simp
  · rw [Tail.swapTo_steady, Tail.p_steady (f := BNKA_STAT.HPEND m) _ n _ (bank_notMem_steadyRegs n m), Tail.banksMap_steady]

@[simp] theorem Tail.endBlocks_steady : (t.endBlocks m).steady n = t.steady n := by
  unfold Tail.endBlocks
  dsimp only
  split <;> simp

@[simp] theorem Tail.blockGates_steady : (t.blockGates m).steady n = t.steady n := t.stnMap_steady fun _ => rfl

@[simp] theorem Tail.gateUpdate_steady : (t.gateUpdate m).steady n = t.steady n := by
  unfold Tail.gateUpdate
  extract_lets _ _ t1
  have h1 : t1.steady n = t.steady n := by
    unfold t1
    split
    · rfl
    · exact t.moduMap_steady n m _
  split
  · split
    · exact h1
    · exact (t1.blockGates_steady n m).trans h1
  · exact h1

@[simp] theorem Tail.renderStop_steady : (t.renderStop m).steady n = t.steady n := by
  unfold Tail.renderStop
  split <;> simp

@[simp] theorem Tail.calBegin_steady (why : CalFor) : (t.calBegin m why).steady n = t.steady n :=
  (Tail.p_steady _ n _ (cal_notMem_steadyRegs n m)).trans (t.isnsMap_steady n m _)

@[simp] theorem Tail.calAbandon_steady : (t.calAbandon m).steady n = t.steady n := by
  unfold Tail.calAbandon
  split
  · rfl
  · simp
  · rw [Tail.p_steady _ n _ (cal_notMem_steadyRegs n m), Tail.isnsMap_steady]

/-! ## Operations on another station -/

variable {n m}

theorem Tail.setSt_steady (hm : n ≠ m) (st : StnSt) : (t.setSt m st).steady n = t.steady n := by
  have haddr : ∀ n m : Stn, n ≠ m → (STN_STAT.PREV m).addr ∉ steadyRegs n := by decide
  unfold Tail.setSt
  split
  · rfl
  · exact (Tail.stnMap_steady _ fun he => absurd he hm).trans (t.p_steady n _ (haddr n m hm))

theorem Tail.leaveRunning_steady (hm : n ≠ m) (st : StnSt) : (t.leaveRunning m st).steady n = t.steady n := by
  unfold Tail.leaveRunning
  extract_lets t1 t2
  have h2 : t2.steady n = t.steady n := by
    unfold t2 t1
    split <;> simp
  simp only [gateUpdate_steady, moduMap_steady, protMap_steady, setpMap_steady, banksIdle_steady]
  exact (Tail.stnMap_steady _ fun he => absurd he hm).trans ((t2.setSt_steady hm st).trans h2)

end

/-! ## The settling of states -/

section
variable {t : Tail} {n : Stn}

/-- A running station stays what it is; what another does is its own. -/
theorem Tail.settleStn_steady (hrun : (t.stnGet n).sq.st.isRunning = true) (m : Stn) : (t.settleStn m).steady n = t.steady n := by
  have hm {st : StnSt} (hst : (t.stnGet m).sq.st = st) (hno : st.isRunning = false) : n ≠ m := by
    rintro rfl
    rw [hst, hno] at hrun
    exact absurd hrun (by decide)
  unfold Tail.settleStn
  dsimp only
  split
  · rfl
  · split
    · split
      · split
        · simp
        · rfl
      · split
        · simp
        · rfl
    · next hready =>
      split
      · rfl
      · exact (Tail.calAbandon_steady _ n m).trans (t.leaveRunning_steady (hm hready rfl) .disabled)
    · rfl

theorem Tail.diagReturn_steady (hrun : (t.stnGet n).sq.st.isRunning = true) (m : Stn) : (t.diagReturn m).steady n = t.steady n := by
  unfold Tail.diagReturn
  split
  · next hdiag =>
    refine t.setSt_steady (fun he => ?_) _
    rw [he, hdiag] at hrun
    exact absurd hrun (by decide)
  · rfl

theorem Tail.diagPut_steady (t : Tail) (n : Stn) (s r : Nat) : (t.diagPut s r).steady n = t.steady n := by
  unfold Tail.diagPut
  dsimp only
  split
  · exact t.p_steady n _ (by revert n; decide)
  · exact t.p_steady n _ (by revert n; decide)

theorem Tail.diagAbort_steady (hrun : (t.stnGet n).sq.st.isRunning = true) : t.diagAbort.steady n = t.steady n := by
  have hstat : ∀ n : Stn, DIAG_STAT.STATE.addr ∉ steadyRegs n ∧ DIAG_CNT.ABORTS.addr ∉ steadyRegs n := by decide
  unfold Tail.diagAbort
  split
  · rfl
  · extract_lets _ t1 _ _ t2
    have h1 : t1.steady n = t.steady n := by
      unfold t1
      split
      · exact t.diagPut_steady n _ _
      · rfl
    have h2 : (t2.evt 0x25 2).steady n = t.steady n :=
      (t2.evt_steady n 0x25 2).trans (((Tail.p_steady _ n _ (hstat n).2).trans (t1.p_steady n 4 (hstat n).1)).trans h1)
    obtain ⟨hsq, -⟩ := Tail.of_steady h2
    exact (Tail.diagReturn_steady (by rw [hsq, hrun]) _).trans h2

theorem Tail.diagSettle_steady (hrun : (t.stnGet n).sq.st.isRunning = true) : t.diagSettle.steady n = t.steady n := by
  unfold Tail.diagSettle
  dsimp only
  split
  · split
    · exact Tail.diagAbort_steady hrun
    · rfl
  · refine t.foldl_steady n _ fun r m hr => (Tail.diagReturn_steady ?_ m).trans hr
    rw [(Tail.of_steady hr).1, hrun]

theorem Tail.setUnit_steady (us : UnitSt) : (t.setUnit us).steady n = t.steady n := by
  have hprev : ∀ n : Stn, DEV_STATE.PREV.addr ∉ steadyRegs n ∧ SEQ_STAT.PREV_STATE.addr ∉ steadyRegs n := by decide
  unfold Tail.setUnit
  split
  · rfl
  · exact (Tail.p_steady _ n _ (hprev n).2).trans (t.p_steady n _ (hprev n).1)

theorem Tail.settleUnit_steady (hok : t.unitFault = false) : t.settleUnit.steady n = t.steady n := by
  unfold Tail.settleUnit
  rw [if_neg (by simp [hok])]
  split
  · split
    · exact Tail.setUnit_steady _
    · rfl
  · split
    · rfl
    · exact Tail.setUnit_steady _
  · split
    · rfl
    · exact Tail.setUnit_steady _
  · rfl

theorem Tail.settle_steady (hrun : (t.stnGet n).sq.st.isRunning = true) (hok : t.unitFault = false) : t.settle.steady n = t.steady n := by
  have hruns {r : Tail} (h : r.steady n = t.steady n) : (r.stnGet n).sq.st.isRunning = true := by rw [(Tail.of_steady h).1, hrun]
  have h1 := Tail.diagSettle_steady hrun
  have h2 : (t.diagSettle.stns.foldl (fun t n => t.settleStn n) t.diagSettle).steady n = t.steady n :=
    (Tail.foldl_steady _ n _ fun r m hr => (Tail.settleStn_steady (hruns (hr.trans h1)) m).trans hr).trans h1
  have h3 := (Tail.diagSettle_steady (hruns h2)).trans h2
  have h4 := (Tail.settleUnit_steady ((Tail.of_steady h3).2.2.2.trans hok)).trans h3
  unfold Tail.settle
  exact (Tail.foldl_steady _ n _ fun r m hr => (r.gateUpdate_steady n m).trans hr).trans h4

/-- The end of a step of a unit without a fault leaves a running station its sequence, and the time. -/
theorem Tail.finish_steady (hrun : (t.stnGet n).sq.st.isRunning = true) (hok : t.unitFault = false) : t.finish.steady n = t.steady n :=
  ((Tail.logs_logAll (.rfl t.settle)).steady n).trans (Tail.settle_steady hrun hok)

end

end Sys2Proof.Machine
end

section
/-! Settling O17: the command point (10 R379 to R383, R385). -/

namespace Sys2Proof.Machine

/-! ## What a command point takes (10 R381) -/

/-- Station `n` with what was committed for it since its command point before taken. -/
def Tail.taken (t : Tail) (n : Stn) : Tail :=
  (t.sqMap n fun q => { q with pendStart := false, pendStop := none, pendExit := false, pendRelease := false }).shareMap n fun x =>
    { x with stopReq := false }

section
variable {t : Tail} {n : Stn}

theorem Tail.taken_sq : ((t.taken n).stnGet n).sq =
    { (t.stnGet n).sq with pendStart := false, pendStop := none, pendExit := false, pendRelease := false } := by
  simp [Tail.taken, Tail.shareMap, Tail.sqMap]

theorem Tail.taken_st : ((t.taken n).stnGet n).sq.st = (t.stnGet n).sq.st := by rw [Tail.taken_sq]

theorem Tail.taken_role : ((t.taken n).stnGet n).share.role = (t.stnGet n).share.role := by
  simp [Tail.taken, Tail.shareMap, Tail.sqMap]

theorem Tail.taken_startMay : (t.taken n).startMay n = t.startMay n := by
  have hblock : (t.taken n).block n = t.block n := by
    unfold Tail.block Tail.block7
    simp only [Tail.taken, Tail.shareMap, Tail.sqMap, Tail.stnMap_get]
    rfl
  have hfb : ((t.taken n).stnGet n).modu.fb = (t.stnGet n).modu.fb := by simp [Tail.taken, Tail.shareMap, Tail.sqMap]
  unfold Tail.startMay
  rw [Tail.taken_st, hblock, hfb]
  rfl

theorem Tail.startMay_iff (hst : (t.stnGet n).sq.st = .ready) (hon : t.enabled (stnPage n 0xD) = true)
    (hfb : (t.stnGet n).modu.fb &&& t.usedCh n = 0) : t.startMay n = true ↔ t.block n = 0 := by
  simp [Tail.startMay, hst, hon, hfb]

/-- Neither Lever Direct nor a policy acts on a station outside RUNNING, VOLT_LIMITED and EMERGENCY. -/
theorem Tail.pointModes_of {st : StnSt} (h : (t.stnGet n).sq.st = st) (hst : st = .ready ∨ st = .magnetizing) : t.pointModes n = t := by
  unfold Tail.pointModes
  dsimp only
  rw [h]
  rcases hst with rfl | rfl <;> rfl

/-- A station in READY has nothing to stop. -/
theorem Tail.pointStop_of_ready (h : (t.stnGet n).sq.st = .ready) (r : StopReq) : t.pointStop n r = t := by
  unfold Tail.pointStop Tail.takeStop
  dsimp only
  rw [h]
  rfl

/-- A START at the command point of a station in READY that shares nothing, or with it a stop. -/
theorem Tail.commandPoint_start (hst : (t.stnGet n).sq.st = .ready) (hstart : (t.stnGet n).sq.pendStart = true)
    (hrole : (t.stnGet n).share.role = .none) :
    ((t.stnGet n).sq.pendStop = none → (t.stnGet n).sq.pendExit = false → (t.stnGet n).sq.pendRelease = false →
      t.commandPoint n = ((t.taken n).pointStart n false).pointModes n)
    ∧ (∀ o, (t.stnGet n).sq.pendStop = some o → t.commandPoint n = ((t.taken n).pointStart n true).pointStop n o) := by
  refine ⟨fun hstop hexit hrelease => ?_, fun o hstop => ?_⟩
  · simp [Tail.commandPoint, Tail.pointTake, Tail.taken, hst, hstart, hrole, hstop, hexit, hrelease]
  · simp [Tail.commandPoint, Tail.pointTake, Tail.taken, hst, hstart, hrole, hstop]

/-- A stop at the command point of a RUNNING station without Lever Direct. -/
theorem Tail.commandPoint_stop {o : StopReq} (hst : (t.stnGet n).sq.st = .running) (hstart : (t.stnGet n).sq.pendStart = false)
    (hstop : (t.stnGet n).sq.pendStop = some o) (hrole : (t.stnGet n).share.role = .none) (hlever : t.dio.lever = false) :
    t.commandPoint n = (t.taken n).pointStop n o := by
  have hlever' : (t.taken n).dio.lever = false := hlever
  unfold Tail.taken at hlever'
  simp [Tail.commandPoint, Tail.pointTake, Tail.taken, hst, hstart, hrole, hstop, hlever']

end

/-! ## A START that is accepted (10 R383 step 1) -/

/-- The registers of station `n` and of the unit that an accepted START leaves. -/
def startKeeps (n : Stn) : List Nat := [DIAG_STAT.STATE.addr, STO_STAT.STO_DISC.addr, (PROT_ACT.ACT n).addr, (STN_CNT.REFUSED n).addr]

/-- The time, and the registers that an accepted START of station `n` leaves. -/
def Tail.startKept (t : Tail) (n : Stn) : Nat × List Word := (t.now, (startKeeps n).map t.word)

section
variable {t r : Tail} {n : Stn}

theorem Tail.startKept_of (hnow : r.now = t.now) (hw : ∀ a ∈ startKeeps n, r.word a = t.word a) : r.startKept n = t.startKept n :=
  Prod.ext hnow (List.map_congr_left hw)

theorem Tail.of_startKept (h : r.startKept n = t.startKept n) : r.now = t.now ∧ r.diagOn = t.diagOn ∧ r.unitFault = t.unitFault
    ∧ r.g (PROT_ACT.ACT n) = t.g (PROT_ACT.ACT n) ∧ r.g (STN_CNT.REFUSED n) = t.g (STN_CNT.REFUSED n) := by
  obtain ⟨hnow, hw⟩ := Prod.mk.inj h
  have hg (f : Fd) (hf : f.addr ∈ startKeeps n) : r.g f = t.g f := congrArg (fdGet f) (List.map_inj_left.mp hw _ hf)
  have hdiag := hg DIAG_STAT.STATE (by simp [startKeeps])
  have hdisc := hg STO_STAT.STO_DISC (by simp [startKeeps])
  have hfail := hg STO_STAT.DIAG_FAIL (.tail _ (.head _))
  exact ⟨hnow, by simp only [Tail.diagOn, hdiag], by simp only [Tail.unitFault, Tail.b, hdisc, hfail], hg _ (by simp [startKeeps]),
    hg _ (by simp [startKeeps])⟩

variable (t n)

theorem Tail.p_startKept {f : Fd} (x : Nat) (h : f.addr ∉ startKeeps n) : (t.p f x).startKept n = t.startKept n :=
  Tail.startKept_of rfl fun _ ha => t.word_p_ne x fun he => h (he ▸ ha)

theorem Tail.evt_startKept (p i : Nat) : (t.evt p i).startKept n = t.startKept n := by
  have hreg : ∀ n : Stn, ∀ a ∈ startKeeps n, a % 256 ≠ 0x0C := by decide
  refine Tail.startKept_of (t.evtV_now p i none) fun a ha => t.word_evt_ne p i fun he => hreg n a ha ?_
  rw [he]
  exact Nat.mul_add_mod_self_right p 256 0x0C

theorem startKeeps_not : (STN_STAT.PREV n).addr ∉ startKeeps n ∧ (ISNS_STAT.CAL_STATE n).addr ∉ startKeeps n
    ∧ SEQ_BG.PREEMPT.addr ∉ startKeeps n ∧ SHR_STAT.ROLE_ACT.addr ∉ startKeeps n := by revert n; decide

theorem steadyRegs_not : SEQ_BG.PREEMPT.addr ∉ steadyRegs n ∧ SHR_STAT.ROLE_ACT.addr ∉ steadyRegs n := by revert n; decide

theorem Tail.calAbandon_startKept : (t.calAbandon n).startKept n = t.startKept n := by
  unfold Tail.calAbandon
  split
  · rfl
  · rfl
  · exact Tail.p_startKept _ n _ (startKeeps_not n).2.1

theorem Tail.setSt_startKept (st : StnSt) : (t.setSt n st).startKept n = t.startKept n := by
  unfold Tail.setSt
  split
  · rfl
  · exact t.p_startKept n _ (startKeeps_not n).1

theorem Tail.setRole_startKept (r : Role) : (t.setRole n r).startKept n = t.startKept n :=
  Tail.p_startKept (f := roleField n) _ n _ (startKeeps_not n).2.2.2

theorem Tail.setRole_steady (r : Role) : (t.setRole n r).steady n = t.steady n :=
  (Tail.p_steady (f := roleField n) _ n _ (steadyRegs_not n).2).trans (Tail.stnMap_steady t fun _ => rfl)

/-- The role of a start is no part of the station's sequence. -/
theorem Tail.startRole_kept : (t.startRole n).startKept n = t.startKept n ∧ (t.startRole n).steady n = t.steady n := by
  unfold Tail.startRole
  extract_lets t1
  have h1 : t1.startKept n = t.startKept n ∧ t1.steady n = t.steady n := ⟨rfl, Tail.stnMap_steady t fun _ => rfl⟩
  split
  · exact ⟨(t1.setRole_startKept n _).trans h1.1, (t1.setRole_steady n _).trans h1.2⟩
  · split
    · extract_lets denied t2 t3
      have h2 : t2.startKept n = t.startKept n ∧ t2.steady n = t.steady n :=
        ⟨(t1.p_startKept (f := SHR_STAT.PACE_DENIED) n _ (startKeeps_not n).2.2.2).trans h1.1,
          (t1.p_steady (f := SHR_STAT.PACE_DENIED) n _ (steadyRegs_not n).2).trans h1.2⟩
      have h3 : t3.startKept n = t.startKept n ∧ t3.steady n = t.steady n := by
        unfold t3
        split
        · exact ⟨(t2.evt_startKept n _ _).trans h2.1, (t2.evt_steady n _ _).trans h2.2⟩
        · exact h2
      exact ⟨(t3.setRole_startKept n _).trans h3.1, (t3.setRole_steady n _).trans h3.2⟩
    · exact ⟨(t1.setRole_startKept n _).trans h1.1, (t1.setRole_steady n _).trans h1.2⟩

/-- Without an asserted source there is nothing to latch. -/
theorem Tail.rearm_of_none {t : Tail} (h : t.g (PROT_ACT.ACT n) = 0) : t.rearm n = t :=
  List.foldlRecOn (motive := fun r : Tail => r = t) _ _ rfl fun r hr k _ => by
    rw [hr, if_neg (by simp [h])]

/-- A started station without the offset calibration that it ends. -/
def Tail.startFrom : Tail := (if (t.stnGet n).isns.cal = .recal then t.inc SEQ_BG.PREEMPT else t).calAbandon n

theorem Tail.startFrom_kept : (t.startFrom n).startKept n = t.startKept n ∧ (t.startFrom n).steady n = t.steady n
    ∧ t.Frames (t.startFrom n) := by
  unfold Tail.startFrom
  split
  · exact ⟨(Tail.calAbandon_startKept _ n).trans (t.p_startKept n _ (startKeeps_not n).2.2.1),
      (Tail.calAbandon_steady _ n n).trans (t.p_steady n _ (steadyRegs_not n).1),
      Tail.frames_calAbandon n (Tail.frames_p SEQ_BG.PREEMPT _ (by decide) (.rfl t))⟩
  · exact ⟨t.calAbandon_startKept n, t.calAbandon_steady n n, Tail.frames_calAbandon n (.rfl t)⟩

/-- A station that starts in its flux build, its loops and its source at their beginning. -/
def Tail.startFlux : Tail :=
  let t := t.loopsMap n Loops.start
  let t := t.sqMap n (fun s => { s.rest with step := .flux, t := some (t.now + t.fluxTime n), gateWait := true })
  t.setpMap n (fun p => { p with stop := .none, render := .normal, above := 0, enter := false })

/-- A started station is cleared of the STO demand it ran at (18 R676). -/
def Tail.startSto : Tail := Tail.stoRelease { t with sto := { t.sto with ran := t.sto.ran &&& ~~~((1 : BitVec 4) <<< n.val) } }

theorem Tail.startStn_eq :
    t.startStn n = (((((t.startFrom n).setSt n .magnetizing).startFlux n).startSto n).startRole n).rearm n := rfl

theorem Tail.startFlux_kept : (t.startFlux n).startKept n = t.startKept n
    ∧ (t.startFlux n).g (STN_STAT.PREV n) = t.g (STN_STAT.PREV n) := ⟨rfl, rfl⟩

theorem Tail.startFlux_sq : ((t.startFlux n).stnGet n).sq =
    { (t.stnGet n).sq.rest with step := .flux, t := some (t.now + t.fluxTime n), gateWait := true } := by
  have hflux : (t.loopsMap n Loops.start).fluxTime n = t.fluxTime n := rfl
  unfold Tail.startFlux
  simp only [hflux]
  simp [Tail.setpMap, Tail.sqMap, Tail.loopsMap]

theorem Tail.startSto_kept : (t.startSto n).startKept n = t.startKept n ∧ (t.startSto n).steady n = t.steady n := by
  unfold Tail.startSto Tail.stoRelease
  split <;> exact ⟨rfl, rfl⟩

variable {t n}

/-- The registers of the configuration stay. -/
theorem Tail.Frames.fluxTime {r : Tail} (h : t.Frames r) : r.fluxTime n = t.fluxTime n := by
  have hcfg : ∀ n : Stn, logReg (STN_CFG.MOTOR n).addr = false ∧ settleRegs.contains (STN_CFG.MOTOR n).addr = false := by decide
  have hcf (f : Fd) (hf : f.addr = (STN_CFG.MOTOR n).addr) : r.cf f = t.cf f :=
    congrArg (fdGet f) (h.2 f.addr (hf ▸ (hcfg n).1) (hf ▸ (hcfg n).2)).2
  unfold Tail.fluxTime Tail.cfb
  rw [hcf (STN_CFG.MOTOR n) (.refl _), hcf (STN_CFG.FLUX_MS n) (.refl _)]

theorem Tail.sqMap_sq (t : Tail) (n : Stn) (f : Sq → Sq) : ((t.sqMap n f).stnGet n).sq = f (t.stnGet n).sq := by simp [Tail.sqMap]

/-- A station that takes another state. -/
theorem Tail.setSt_spec {st : StnSt} (h : (t.stnGet n).sq.st ≠ st) :
    ((t.setSt n st).stnGet n).sq = { (t.stnGet n).sq with st := st } ∧ (t.setSt n st).g (STN_STAT.PREV n) = (t.stnGet n).sq.st.code := by
  have hok : ∀ n : Stn, (STN_STAT.PREV n).ok := by decide
  have hcode : ∀ st : StnSt, st.code % 2 ^ 8 = st.code := fun st => by cases st <;> rfl
  rw [Tail.setSt_of_ne h]
  exact ⟨Tail.sqMap_sq _ n _, (t.g_p _ (hok n)).trans (hcode _)⟩

/-- What an accepted START makes of the station. -/
theorem Tail.startStn_spec (hst : (t.stnGet n).sq.st = .ready) (hact : t.g (PROT_ACT.ACT n) = 0) :
    (t.startStn n).startKept n = t.startKept n
    ∧ ((t.startStn n).stnGet n).sq =
      { (t.stnGet n).sq.rest with st := .magnetizing, step := .flux, t := some (t.now + t.fluxTime n), gateWait := true }
    ∧ (t.startStn n).g (STN_STAT.PREV n) = 2 := by
  obtain ⟨hkept, hsteady, hframe⟩ := t.startFrom_kept n
  obtain ⟨hsq, -⟩ := Tail.of_steady hsteady
  have hflux : ((t.startFrom n).setSt n .magnetizing).fluxTime n = t.fluxTime n := (Tail.frames_setSt n .magnetizing hframe).fluxTime
  have hkept : ((t.startFrom n).setSt n .magnetizing).startKept n = t.startKept n := (Tail.setSt_startKept _ n _).trans hkept
  obtain ⟨hsq1, hprev⟩ := Tail.setSt_spec (t := t.startFrom n) (n := n) (st := .magnetizing) (by rw [hsq, hst]; decide)
  rw [hsq] at hsq1 hprev
  rw [hst] at hprev
  rw [Tail.startStn_eq]
  generalize (t.startFrom n).setSt n .magnetizing = t1 at hflux hkept hsq1 hprev ⊢
  have hsq2 := t1.startFlux_sq n
  obtain ⟨hkept2, hprev2⟩ := t1.startFlux_kept n
  obtain ⟨hnow, -⟩ := Tail.of_startKept hkept
  rw [hsq1, hflux, hnow] at hsq2
  replace hkept := hkept2.trans hkept
  replace hprev := hprev2.trans hprev
  generalize t1.startFlux n = t2 at hkept hprev hsq2 ⊢
  obtain ⟨hkept3, hsteady3⟩ := t2.startSto_kept n
  obtain ⟨hkept4, hsteady4⟩ := (t2.startSto n).startRole_kept n
  replace hkept := hkept4.trans (hkept3.trans hkept)
  obtain ⟨hsq4, -, hprev4, -⟩ := Tail.of_steady (hsteady4.trans hsteady3)
  obtain ⟨-, -, -, hact4, -⟩ := Tail.of_startKept hkept
  rw [Tail.rearm_of_none n (hact4.trans hact)]
  exact ⟨hkept, hsq4.trans hsq2, hprev4.trans hprev⟩

end

/-! ## A stop that begins (10 R385) -/

section
variable (t : Tail) {n : Stn}

@[simp] theorem Tail.stopLimits_steady (r : StopRamp) : (t.stopLimits n r).steady n = t.steady n := by
  unfold Tail.stopLimits
  dsimp only
  split
  · rfl
  · split <;> simp

theorem Tail.renderStop_role : ((t.renderStop n).stnGet n).share.role = (t.stnGet n).share.role := by
  unfold Tail.renderStop
  split <;> simp [Tail.setpMap]

variable {t}

/-- A stop of a RUNNING station that shares nothing. -/
theorem Tail.stopBegin_spec {r : StopReq} (hst : (t.stnGet n).sq.st = .running) (hstep : (t.stnGet n).sq.step = .none)
    (hrole : (t.stnGet n).share.role = .none) (hclass : r.classC = false) : ∃ q : Sq,
    ((t.stopBegin n r .stopping).stnGet n).sq = q ∧ q.st = .stopping ∧ q.step = .ramp ∧ q.stop = some r
    ∧ q.brake = (t.stnGet n).sq.brake ∧ q.pendStop = (t.stnGet n).sq.pendStop
    ∧ (t.stopBegin n r .stopping).g (STN_STAT.PREV n) = 4 ∧ (t.stopBegin n r .stopping).unitFault = t.unitFault := by
  obtain ⟨hsq1, hprev1⟩ := Tail.setSt_spec (t := t) (n := n) (st := .stopping) (by rw [hst]; decide)
  have hrole1 : ((t.setSt n .stopping).stnGet n).share.role = .none := by
    rw [Tail.setSt_of_ne (by rw [hst]; decide), Tail.sqMap_share]
    exact hrole
  obtain ⟨-, -, hfault1, -⟩ := Tail.of_startKept (t.setSt_startKept n .stopping)
  rw [hst] at hprev1
  unfold Tail.stopBegin
  extract_lets step setting t1 t2 t3 t4 t5
  have hsq2 : (t2.stnGet n).sq = _ := Tail.sqMap_sq t1 n _
  have hrole3 : (t3.stnGet n).share.role = .none :=
    t2.renderStop_role.trans ((congrArg Share.role (Tail.sqMap_share _)).trans hrole1)
  obtain ⟨hsq4, -, hprev4, hfault4⟩ := Tail.of_steady (r := t4) (t := t2) ((t3.stopLimits_steady _).trans (t2.renderStop_steady n n))
  have hsq5 : (t5.stnGet n).sq = _ := Tail.sqMap_sq t4 n _
  rw [if_neg (by rw [hrole3]; decide), if_neg (by simp [setting, step, hstep]), if_neg (by simp [hclass])]
  rw [hsq4, hsq2, show (t1.stnGet n).sq = _ from hsq1] at hsq5
  have hprev2 : t2.g (STN_STAT.PREV n) = 4 := hprev1
  have hfault2 : t2.unitFault = t.unitFault := hfault1
  replace hprev4 := hprev4.trans hprev2
  replace hfault4 := hfault4.trans hfault2
  clear_value t4
  exact ⟨_, hsq5, rfl, rfl, rfl, rfl, rfl, hprev4, hfault4⟩

end

/-! ## The step (10 R381) -/

/-- A station whose events are counted at its command point. -/
def Tail.pointCounted (t : Tail) (n : Stn) (f : Fd) (i : Nat) : Tail := (t.inc f).evt (stnPage n 0) i

section
variable {t : Tail} {n : Stn}

theorem Tail.diagYield_of_off (h : t.diagOn = false) : t.diagYield n = t := if_neg (by simp [h])

/-- A stop of a RUNNING station begins at once. -/
theorem Tail.pointStop_of_running (h : (t.stnGet n).sq.st = .running) (r : StopReq) : t.pointStop n r = t.stopBegin n r .stopping := by
  unfold Tail.pointStop Tail.takeStop
  dsimp only
  rw [if_neg (by simp [h]), if_neg (by simp [h]), h]

theorem Tail.pointCounted_stnGet (f : Fd) (i : Nat) : (t.pointCounted n f i).stnGet n = t.stnGet n := Tail.evt_stnGet _ _ _ _

theorem Tail.pointCounted_diagOn {f : Fd} (i : Nat) (hf : DIAG_STAT.STATE.addr ≠ f.addr) : (t.pointCounted n f i).diagOn = t.diagOn := by
  have hpage : ∀ n : Stn, DIAG_STAT.STATE.addr ≠ (PG_EVT.EVT (stnPage n 0)).addr := by decide
  have hg : (t.pointCounted n f i).g DIAG_STAT.STATE = t.g DIAG_STAT.STATE :=
    (Tail.g_evt_ne _ _ _ (hpage n)).trans (t.g_p_ne _ hf)
  simp only [Tail.diagOn, hg]

end

section
variable {n : Stn} {s : State} (hfit : s.fs.fitted n.val = true) (hon : s.fs.on 6 = true) (hup : s.fs.sqcUp = true)
include hfit hon hup

/-- A command point of a station of a unit that is up. -/
theorem commandPoint_settles (hyield : (s.fs.stnGet n).sq.pendStart = true → (s.fs.commandPoint n).diagOn = false) :
    Settles (.commandPoint n) s (s.fs.commandPoint n) := by
  obtain ⟨hon3, -⟩ := Bool.and_eq_true_iff.mp hup
  refine settles_of_tail _ rfl ((if_neg (by simp [hfit, hon, hon3, hup])).trans ?_)
  dsimp only
  split
  · next hstart => rw [Tail.diagYield_of_off (hyield hstart)]
  · rfl

section
variable (hdiag : s.fs.diagOn = false) (hst : (s.fs.stnGet n).sq.st = .ready) (hstart : (s.fs.stnGet n).sq.pendStart = true)
  (hrole : (s.fs.stnGet n).share.role = .none)
include hdiag hst hstart hrole

/-- A START that falls together with a stop (10 R382). -/
theorem commandPoint_drops {o : StopReq} (hstop : (s.fs.stnGet n).sq.pendStop = some o) :
    Settles (.commandPoint n) s ((s.fs.taken n).pointCounted n (STN_CNT.START_DROP n) 1) := by
  have hreg : ∀ n : Stn, DIAG_STAT.STATE.addr ≠ (STN_CNT.START_DROP n).addr := by decide
  have hpoint : s.fs.commandPoint n = (s.fs.taken n).pointCounted n (STN_CNT.START_DROP n) 1 := by
    rw [(Tail.commandPoint_start hst hstart hrole).2 o hstop]
    exact Tail.pointStop_of_ready (t := (s.fs.taken n).pointCounted n (STN_CNT.START_DROP n) 1)
      (by rw [Tail.pointCounted_stnGet, Tail.taken_st, hst]) o
  rw [← hpoint]
  exact commandPoint_settles hfit hon hup fun _ => by rw [hpoint, Tail.pointCounted_diagOn 1 (hreg n)]; exact hdiag

variable (hstop : (s.fs.stnGet n).sq.pendStop = none) (hexit : (s.fs.stnGet n).sq.pendExit = false)
  (hrelease : (s.fs.stnGet n).sq.pendRelease = false)
include hstop hexit hrelease

/-- A START with BLOCK not 0 (10 R379). -/
theorem commandPoint_refuses (hblock : s.fs.block n ≠ 0) :
    Settles (.commandPoint n) s ((s.fs.taken n).pointCounted n (STN_CNT.REFUSED n) 2) := by
  have hreg : ∀ n : Stn, DIAG_STAT.STATE.addr ≠ (STN_CNT.REFUSED n).addr := by decide
  have hpoint : s.fs.commandPoint n = (s.fs.taken n).pointCounted n (STN_CNT.REFUSED n) 2 := by
    rw [(Tail.commandPoint_start hst hstart hrole).1 hstop hexit hrelease, Tail.pointStart, if_neg (by decide), Tail.taken_startMay,
      if_neg (by simp [Tail.startMay, hblock])]
    exact Tail.pointModes_of (t := (s.fs.taken n).pointCounted n (STN_CNT.REFUSED n) 2)
      (by rw [Tail.pointCounted_stnGet, Tail.taken_st, hst]) (.inl rfl)
  rw [← hpoint]
  exact commandPoint_settles hfit hon hup fun _ => by rw [hpoint, Tail.pointCounted_diagOn 2 (hreg n)]; exact hdiag

/-- A START that is accepted (10 R379, R383 step 1). -/
theorem commandPoint_starts (hblock : s.fs.block n = 0) (hok : s.fs.unitFault = false) (hact : s.fs.g (PROT_ACT.ACT n) = 0)
    (hmod : s.fs.enabled (stnPage n 0xD) = true) (hfb : (s.fs.stnGet n).modu.fb &&& s.fs.usedCh n = 0) :
    ∃ r : Tail, Does (.commandPoint n) s r ∧ r.now = s.fs.now ∧ (r.stnGet n).sq.st = .magnetizing ∧ (r.stnGet n).sq.step = .flux
      ∧ (r.stnGet n).sq.brake = false ∧ (r.stnGet n).sq.pendStart = false ∧ (r.stnGet n).sq.t = some (s.fs.now + s.fs.fluxTime n)
      ∧ r.g (STN_STAT.PREV n) = 2 ∧ r.g (STN_CNT.REFUSED n) = s.fs.g (STN_CNT.REFUSED n) := by
  have hrefused : ∀ n : Stn, logReg (STN_CNT.REFUSED n).addr = false ∧ settleRegs.contains (STN_CNT.REFUSED n).addr = false := by decide
  obtain ⟨hkept, hsq, hprev⟩ := Tail.startStn_spec (t := s.fs.taken n) (n := n) (Tail.taken_st.trans hst) hact
  obtain ⟨hnow, hoff, hfault, -, hcount⟩ := Tail.of_startKept hkept
  rw [Tail.taken_sq] at hsq
  have hpoint : s.fs.commandPoint n = (s.fs.taken n).startStn n := by
    rw [(Tail.commandPoint_start hst hstart hrole).1 hstop hexit hrelease, Tail.pointStart, if_neg (by decide), Tail.taken_startMay,
      if_pos ((Tail.startMay_iff hst hmod hfb).mpr hblock)]
    exact Tail.pointModes_of (by rw [hsq]) (.inr rfl)
  have hdoes := commandPoint_settles hfit hon hup fun _ => by rw [hpoint, hoff]; exact hdiag
  rw [hpoint] at hdoes
  generalize (s.fs.taken n).startStn n = t at hsq hprev hnow hfault hcount hdoes
  obtain ⟨hsq', hnow', hprev', -⟩ := Tail.of_steady (Tail.finish_steady (t := t) (n := n) (by rw [hsq]; rfl) (hfault.trans hok))
  rw [hsq] at hsq'
  refine ⟨t.finish, hdoes, hnow'.trans hnow, ?_, ?_, ?_, ?_, ?_, hprev'.trans hprev,
    (t.finish_g (hrefused n).1 (hrefused n).2).trans hcount⟩ <;> rw [hsq'] <;> rfl

end

/-- A category 1 stop of a RUNNING station (10 R380, R385). -/
theorem commandPoint_stops {o : StopReq} (hst : (s.fs.stnGet n).sq.st = .running) (hstart : (s.fs.stnGet n).sq.pendStart = false)
    (hstop : (s.fs.stnGet n).sq.pendStop = some o) (hclass : o.classC = false) (hlever : s.fs.dio.lever = false)
    (hrole : (s.fs.stnGet n).share.role = .none) (hok : s.fs.unitFault = false) (hstep : (s.fs.stnGet n).sq.step = .none) :
    ∃ r : Tail, Does (.commandPoint n) s r ∧ (r.stnGet n).sq.st = .stopping ∧ (r.stnGet n).sq.step = .ramp
      ∧ (r.stnGet n).sq.stop = some o ∧ (r.stnGet n).sq.brake = (s.fs.stnGet n).sq.brake
      ∧ (r.stnGet n).sq.pendStop = none ∧ r.g (STN_STAT.PREV n) = 4 := by
  have hst' : ((s.fs.taken n).stnGet n).sq.st = .running := Tail.taken_st.trans hst
  obtain ⟨q, hsq, hqst, hqstep, hqstop, hqbrake, hqpend, hprev, hfault⟩ := Tail.stopBegin_spec (t := s.fs.taken n) (n := n) (r := o) hst'
    (by rw [Tail.taken_sq, hstep]) (Tail.taken_role.trans hrole) hclass
  have hpoint : s.fs.commandPoint n = (s.fs.taken n).stopBegin n o .stopping := by
    rw [Tail.commandPoint_stop hst hstart hstop hrole hlever]
    exact Tail.pointStop_of_running hst' o
  have hdoes := commandPoint_settles hfit hon hup fun h => by rw [hstart] at h; exact absurd h (by decide)
  rw [hpoint] at hdoes
  rw [Tail.taken_sq] at hqbrake hqpend
  generalize (s.fs.taken n).stopBegin n o .stopping = t at hsq hprev hfault hdoes
  obtain ⟨hsq', -, hprev', -⟩ := Tail.of_steady (Tail.finish_steady (t := t) (n := n) (by rw [hsq, hqst]; rfl) (hfault.trans hok))
  rw [hsq] at hsq'
  exact ⟨t.finish, hdoes, by rw [hsq', hqst], by rw [hsq', hqstep], by rw [hsq', hqstop], by rw [hsq', hqbrake],
    by rw [hsq', hqpend], hprev'.trans hprev⟩

end

/-- Settles O17: a command point is what was taken (`Tail.taken`) with the START or the stop; a station that then runs keeps its
sequence at the end of the step (`Tail.finish_steady`). -/
theorem commandPoint : Obligations.CommandPoint := by
  refine ⟨fun n s hfit hon hup hdiag hst hstart hstop hexit hrelease hrole => ⟨fun hblock => ?_, fun hblock hok hact hmod hfb => ?_⟩,
    fun n o s hfit hon hup hdiag hst hstart hstop hrole => ?_,
    fun n s hfit hon hup hst hstart hstop hlever hrole _ hok hstep => ?_⟩
  · exact commandPoint_refuses hfit hon hup hdiag hst hstart hrole hstop hexit hrelease hblock
  · simpa [Tail.fluxTime, Tail.cfb, ms1] using
      commandPoint_starts hfit hon hup hdiag hst hstart hrole hstop hexit hrelease hblock hok hact hmod hfb
  · exact commandPoint_drops hfit hon hup hdiag hst hstart hrole hstop
  · exact commandPoint_stops hfit hon hup hst hstart hstop rfl hlever hrole hok hstep

end Sys2Proof.Machine
end

section
/-! Every command completes and leaves the queue of waiting commands (O3, O1). The operations of the Headstock and the lanes rebuild the
state of the block from its parts, and the queue is none of these. -/

namespace Sys2Proof.Machine

/-! ## The queue over the operations of the Headstock -/

section
variable (s : State)

@[simp] theorem State.launch_pending (m : F2H) (l : Link) : (s.launch m l).pending = s.pending := rfl

@[simp] theorem State.pump_pending : s.pump.pending = s.pending := by
  unfold State.pump
  split
  · rfl
  · split
    · rfl
    · split
      · rfl
      · rfl

@[simp] theorem State.openLane_pending : s.openLane.pending = s.pending := by
  unfold State.openLane
  split
  · rfl
  · rfl

@[simp] theorem State.closeLane_pending (m : H2F) : (s.closeLane m).pending = s.pending := by
  unfold State.closeLane
  dsimp only
  split
  · rfl
  · rfl

@[simp] theorem State.toCell_pending (t : Timer) : (s.toCell t).pending = s.pending := by
  unfold State.toCell
  split
  · rfl
  · rfl

/-! ## What the Headstock hears -/

@[simp] theorem State.stray_pending (more : Bool) : (s.stray more).pending = s.pending := by
  unfold State.stray
  split
  · rfl
  · rfl

@[simp] theorem State.segBad_pending (x : HspFrame) (o : OutReq) (k r : Nat) : (s.segBad x o k r).pending = s.pending := by
  unfold State.segBad
  split
  · rfl
  · rfl

@[simp] theorem State.mbBad_pending (o : OutReq) (r : Nat) : (s.mbBad o r).pending = s.pending := by
  unfold State.mbBad
  split
  · rfl
  · rfl

theorem State.segArrives_pending (mb : Bool) (c : Nat) (l : Half) (k : Nat) (more : Bool) (b : List Byte) :
    (s.segArrives mb c l k more b).pending = s.pending := by
  unfold State.segArrives
  dsimp only
  split
  · split
    · rfl
    · split
      · split
        · rfl
        · exact s.stray_pending more
      · exact s.stray_pending more
  · split
    · rfl
    · split
      · exact s.stray_pending more
      · split
        · rfl
        · rfl

theorem State.segDefect_pending (r : Nat) (hdr : Option Msg) : (s.segDefect r hdr).pending = s.pending := by
  unfold State.segDefect
  split
  · split
    · rfl
    · exact s.segBad_pending ..
  · split
    · split
      · split
        · exact s.mbBad_pending ..
        · rfl
      · rfl
    · rfl

theorem State.nakHspReq_pending (hdr : Bool) (c : Nat) (l : Half) : (s.nakHspReq hdr c l).pending = s.pending := by
  unfold State.nakHspReq
  split
  · split
    · rfl
    · rfl
  · rfl

theorem State.nakMbReq_pending (hdr : Bool) (c : Nat) (l : Half) : (s.nakMbReq hdr c l).pending = s.pending := by
  unfold State.nakMbReq
  split
  · split
    · split
      · rfl
      · rfl
    · rfl
  · rfl

theorem State.hears_pending (m : F2H) (rest : List F2H) (rx : Rx) : (s.hears m rest rx).pending = s.pending := by
  unfold State.hears
  rw [State.pump_pending]
  split
  · rfl
  · split
    · rw [State.segArrives_pending]
    · rw [State.nakMbReq_pending, State.nakHspReq_pending]
    · rw [State.segDefect_pending]
    · rw [State.segDefect_pending]
    · rfl

theorem State.received_pending (m : H2F) (rest : List H2F) (rx : Rx) : (s.received m rest rx).pending = s.pending := State.pump_pending _

/-! ## Frames -/

theorem State.localOp_pending (op : HspOp) (f : Frame) : (s.localOp op f).2.2.pending = s.pending := by
  unfold State.localOp
  dsimp only
  repeat' split
  all_goals rfl

theorem State.localEnd_pending (op : HspOp) (f : Frame) (bad : Bool) : (s.localEnd op f bad).pending = s.pending := by
  unfold State.localEnd
  split
  · rfl
  · exact s.localOp_pending op f

theorem State.fieldEnd_pending (op : HspOp) (f : Frame) (o : OutReq) (chk : Word) (bad : Bool) :
    (s.fieldEnd op f o chk bad).pending = s.pending := by
  unfold State.fieldEnd
  dsimp only
  split
  · exact s.closeLane_pending _
  · split
    · exact s.closeLane_pending _
    · exact s.closeLane_pending _

theorem State.fieldWhole_pending (op : HspOp) (f : Frame) (l : Half) (d : Disp) : (s.fieldWhole op f l d).pending = s.pending := by
  unfold State.fieldWhole
  dsimp only
  split
  · rfl
  · rfl

theorem State.abandonWhole_pending (op : HspOp) (f : Frame) (l : Half) : (s.abandonWhole op f l).pending = s.pending := by
  unfold State.abandonWhole
  split
  · rfl
  · rfl

theorem State.hostOp_pending (op : HspOp) (f : Frame) : (s.hostOp op f).pending = s.pending := by
  unfold State.hostOp
  dsimp only
  split
  · rfl
  · split
    · rfl
    · split
      · exact s.takeLateHsp.localOp_pending op f
      · split
        · rfl
        · split
          · split
            · exact State.abandonWhole_pending { s.takeLateHsp with hs := _ } op f _
            · exact State.abandonWhole_pending { s.takeLateHsp with hs := _ } op f _
          · exact State.fieldWhole_pending { s.takeLateHsp with hs := _ } op f _ _

/-! ## Transactions of the bus; `field` carries out a field command -/

theorem State.mbWrite_pending (x : MbTxn) (c : MbCmd) {field : State → State} (hfield : ∀ s, (field s).pending = s.pending) :
    (s.mbWrite x c field).pending = s.pending := by
  unfold State.mbWrite
  dsimp only
  split
  · rfl
  · split
    · rfl
    · split
      · rfl
      · split
        · rfl
        · split
          · exact hfield s
          · rfl

theorem State.mbProceed_pending (x : MbTxn) (c : MbCmd) {field : State → State} (hfield : ∀ s, (field s).pending = s.pending) :
    (s.mbProceed x c field).pending = s.pending := by
  unfold State.mbProceed
  dsimp only
  split
  · exact s.mbWrite_pending x c hfield
  · split
    · rfl
    · split
      · exact hfield s
      · rfl
  · rfl
  · rfl

theorem State.mbStart_pending (x : MbTxn) {field : MbCmd → State → State} (hfield : ∀ c s, (field c s).pending = s.pending) :
    (s.mbStart x field).pending = s.pending := by
  unfold State.mbStart
  dsimp only
  split
  · rfl
  · split
    · rfl
    · split
      · rfl
      · next c _ =>
        split
        · rfl
        · split
          · exact State.mbProceed_pending { s.takeLateMb with hs := s.takeLateMb.hs.mbMatch s.fs.u } x c (hfield c)
          · split
            · rfl
            · split
              · rfl
              · rfl

theorem State.mbAtOnce_pending (x : MbTxn) (c : MbCmd) : (s.mbAtOnce x c).pending = s.pending := by
  unfold State.mbAtOnce
  dsimp only
  split
  · split
    · rfl
    · rfl
  · rfl

theorem State.mbWhole_pending (x : MbTxn) : (s.mbWhole x).pending = s.pending := s.mbStart_pending x fun c s => s.mbAtOnce_pending x c

theorem State.mbResume_pending : s.mbResume.pending = s.pending := by
  unfold State.mbResume
  split
  · split
    · split
      · exact State.mbProceed_pending
          { s with hs := { s.hs with mb := { s.hs.mb with phase := .idle, found := true, cellT := none } } } _ _ fun _ => rfl
      · rfl
    · rfl
  · rfl

end

/-! ## Outcomes -/

/-- The outcome is a next state, and it has the queue of `s`. -/
def State.Completes (s : State) (o : Host.Outcome State Fault Refusal) : Prop := ∃ t, o = .next t ∧ t.pending = s.pending

section
variable {s : State}

theorem State.Completes.next {t : State} (h : t.pending = s.pending) : s.Completes (.next t) := ⟨t, rfl, h⟩

theorem State.Completes.ite {c : Prop} [Decidable c] {a b : Host.Outcome State Fault Refusal} (ha : s.Completes a) (hb : s.Completes b) :
    s.Completes (if c then a else b) := by
  split
  · exact ha
  · exact hb

/-- A change of the field side alone. -/
theorem State.completes_tailNext (f : Tail → Tail) : s.Completes (tailNext s f) := .next rfl

/-- Nothing happens. -/
theorem State.completes_self : s.Completes (.next s) := .next rfl

end

/-! ## The commands of the Headstock with cases of their own -/

section
variable (s : State)

theorem execHspHeader_completes (bytes : List Byte) : s.Completes (execHspHeader bytes s) := by
  unfold execHspHeader
  dsimp only
  split
  · exact .next rfl
  · split
    · exact .next rfl
    · split
      · exact .next rfl
      · split
        · exact .next rfl
        · split
          · exact .next rfl
          · split
            · exact .next rfl
            · exact .next (State.openLane_pending _)

theorem execHspRequestEnd_completes (bytes : List Byte) : s.Completes (execHspRequestEnd bytes s) := by
  unfold execHspRequestEnd
  split
  · refine .ite (.next rfl) ?_
    dsimp only
    split
    · exact .next (s.localEnd_pending ..)
    · exact .next (s.fieldEnd_pending ..)
  · exact .next rfl

theorem execFrameAbort_completes (k : Nat) : s.Completes (execFrameAbort k s) := by
  unfold execFrameAbort
  dsimp only
  split
  · exact .ite (.next rfl) (.next rfl)
  · split
    · exact .next rfl
    · split
      · exact .next rfl
      · exact .next (s.closeLane_pending _)

theorem execHsCsNRise_completes : s.Completes (execHsCsNRise s) := by
  unfold execHsCsNRise
  split
  · exact .ite (.next rfl) (.next rfl)
  · exact .next rfl

theorem execFieldTimeout_completes : s.Completes (execFieldTimeout s) := by
  unfold execFieldTimeout
  split
  · exact .ite (.next rfl) (.ite (.next rfl) (.next rfl))
  · exact .next rfl

theorem execHrst_completes (ns : Nat) : s.Completes (execHrst ns s) := .ite (.next rfl) (.next (State.pump_pending _))

theorem execNakHRepeat_completes (mb : Bool) : s.Completes (execNakHRepeat mb s) := by
  unfold execNakHRepeat
  split
  · split
    · refine .next ?_
      split
      · exact s.mbBad_pending ..
      · rfl
    · exact .next rfl
  · split
    · split
      · refine .next ?_
        split
        · exact s.segBad_pending ..
        · rfl
      · exact .next rfl
    · exact .next rfl

theorem execDeepSleepEntered_completes : s.Completes (execDeepSleepEntered s) := by
  unfold execDeepSleepEntered
  split
  · exact .next rfl
  · exact .next rfl

theorem execThermalDomainsOff_completes : s.Completes (execThermalDomainsOff s) := by
  unfold execThermalDomainsOff
  split
  · exact .ite (.next rfl) (.next rfl)
  · exact .next rfl

end

/-! ## O3 and O1 -/

/-- Settles O3: the operations of the Headstock keep the queue, and every other command changes the field side alone. -/
theorem everyCommandCompletes : Obligations.EveryCommandCompletes := by
  intro c s
  change s.Completes (exec c s)
  cases c
  -- Resets and the power of the field side, which touch the lanes too.
  case pon => exact .ite (.next rfl) (.next rfl)
  case trst | bothSuppliesFailed | wakeInterrogation | sclTimeout | sdaTimeout | pushStart => exact .ite (.next rfl) (.next rfl)
  case watchdogExpiry | storeInitDone | thermalRestart | sqcImageVerified => exact .next rfl
  case deepSleepEntered => exact execDeepSleepEntered_completes s
  case thermalDomainsOff => exact execThermalDomainsOff_completes s
  case retrainEffect => exact .ite (State.completes_tailNext _) (.next rfl)
  -- Frames, byte by byte and whole.
  case hspHeader bytes => exact execHspHeader_completes s bytes
  case hspRequestEnd bytes => exact execHspRequestEnd_completes s bytes
  case frameAbort k => exact execFrameAbort_completes s k
  case hsCsNRise => exact execHsCsNRise_completes s
  case fieldTimeout => exact execFieldTimeout_completes s
  case regWrite | regRead | regWriteVerify | streamPut | streamGet | streamPeek | statusDigest | nop | sessionOpen | sessionAuth
      | sessionClose | faultClear | faultClearAll => exact .next (s.hostOp_pending _ _)
  -- Messages of the lanes.
  case reqHsp | reqMb | nakH =>
    dsimp only [exec, execReqHsp, execReqMb, execNakH]
    split
    · exact .next (s.received_pending _ _ _)
    · exact .next rfl
  case rspHsp | rspMb | nakF =>
    dsimp only [exec, execRspHsp, execRspMb, execNakF]
    split
    · exact .next (s.hears_pending _ _ _)
    · exact .next rfl
  case nakHRepeat mb => exact execNakHRepeat_completes s mb
  case levelRefresh => exact .ite (.next rfl) (.next (State.mbResume_pending _))
  case levelTimeout ch =>
    cases ch with
    | alert => exact .next rfl
    | fault => exact .next rfl
  -- The Headstock's resets and its own pages.
  case hrst ns => exact execHrst_completes s ns
  case mbrst | hs3v3Fall => exact .ite (.next rfl) (.next rfl)
  case pgrst p =>
    refine .ite (.next ?_) (State.completes_tailNext _)
    split
    · rfl
    · rfl
  case hspCntClr | dupClr | hs3v3Rise =>
    refine .next ?_
    split
    · rfl
    · rfl
  -- The management bus.
  case mbCommandByte x => exact .next (s.mbStart_pending x fun _ _ => rfl)
  case statusWord | alarmSummary | unitState | maxTemp | groupTemps | stationStatus | mbFaultClear | pageSelRead | pageSelWrite
      | regDataRead | regDataWrite | eventFetchRead | eventFetchWrite | heartbeat | sleepReq | identity | wakePing =>
    exact .next (s.mbWhole_pending _)
  case mbResponseWait => exact .ite (.next (s.toCell_pending _)) (.ite (.next (s.toCell_pending _)) (.next rfl))
  case mbStretchLimit | pushBackoffEnd | pollExpiry =>
    refine .next ?_
    split
    · exact s.toCell_pending _
    · rfl
  case pushTransaction => exact .ite (.next rfl) (.next rfl)
  -- Every command left changes the field side alone.
  all_goals exact State.completes_tailNext _

/-- Settles O1. -/
theorem stepRunsFront : Obligations.StepRunsFront := fun _ _ _ => rfl

/-- Settles O53: the settling keeps the frame, and so does the log. -/
theorem finishFrame : Obligations.FinishFrame := fun t => Tail.frames_logAll (Tail.frames_settle (.rfl t))

end Sys2Proof.Machine
end

section
/-! Refuting O60: in the end of a step the unit may enter FAULT, and then the groups change too. -/

namespace Sys2Proof.Machine

/-- The field side of a TW4 without Orbit, in RUN with PD3 up; a discrepancy of the STO channels has just been latched (18 R678), while
group 0 waits to retry its pre-charge (10 R389). -/
def Tail.discrepantRetrying : Tail :=
  let t := Tail.init { UnitInfo.delivered with orbit := false } true true false
  { t.p STO_STAT.STO_DISC 1 with
    us := .run
    clk := { t.clk with run := 0xFF }
    grp := t.grp.set 0 { Grp.init with st := .waitRetry } }

/-- Its comparators run, and without Orbit its ORB source never asserts (18 R657). -/
theorem Tail.discrepantRetrying_act :
    (Tail.discrepantRetrying.fitted 0 && Tail.discrepantRetrying.on 3 && !Tail.discrepantRetrying.sourceSub 0 11) = true
      ∧ Tail.discrepantRetrying.sourceNever 0 11 = true := by
  decide +kernel

theorem Tail.discrepantRetrying_settle :
    Tail.discrepantRetrying.grp[0].st = .waitRetry ∧ Tail.discrepantRetrying.settle.grp[0].st = .failed := by
  decide +kernel

/-- A source that never asserts changes nothing. -/
theorem Tail.assertSource_of_never {t : Tail} {n : Stn} {src : Nat} (h : t.sourceNever n src = true) : t.assertSource n src = t := by
  unfold Tail.assertSource
  rw [if_pos (by rw [h, Bool.or_true])]

theorem Tail.logAll_grp (t : Tail) : t.logAll.grp = t.grp :=
  show t.logAll.unlogged.grp = t.unlogged.grp by rw [(Tail.logs_logAll (.rfl t)).1]

/-- The trip of a source that never asserts is over with the end of its step. -/
theorem protSourceAssert_of_never {n : Stn} {src : Fin 15} {s : State} {r : Tail}
    (hact : (s.fs.fitted n && s.fs.on 3 && !s.fs.sourceSub n src) = true) (hnever : s.fs.sourceNever n src = true)
    (h : Does (.protSourceAssert n src) s r) : r = s.fs.finish := by
  have hfs := congrArg State.fs (Host.Outcome.next.inj h)
  exact hfs.symm.trans ((if_pos hact).trans (congrArg Tail.finish (Tail.assertSource_of_never hnever)))

/-- Refutes O60: a command of station 0 that itself changes nothing ends with the settling of states, where the latched discrepancy takes
the unit to FAULT; the retry of the pre-charge group is abandoned (10 R389), so that `grp` is not what it was. -/
theorem not_commandFrames : ¬ Obligations.CommandFrames := by
  rintro ⟨hstation, -⟩
  obtain ⟨hact, hnever⟩ := Tail.discrepantRetrying_act
  obtain ⟨hwait, hfailed⟩ := Tail.discrepantRetrying_settle
  obtain ⟨r, hdoes, -, -, -, -, -, hgrp, -⟩ :=
    hstation 0 (.protSourceAssert 0 11) { State.reset with fs := Tail.discrepantRetrying } (.inl ⟨11, rfl⟩)
  have hst : r.grp[0].st = .waitRetry := by rw [hgrp, hwait]
  rw [protSourceAssert_of_never hact hnever hdoes, Tail.finish, Tail.logAll_grp, hfailed] at hst
  cases hst

end Sys2Proof.Machine
end

section
/-! Settling O24: a switch that turns on (17 R639, R641, R642). -/

namespace Sys2Proof.Machine

/-! ## TURN_ON once no skip is over -/

/-- A switch is due to turn on but for the dead time: it is wanted, off and in order, and its complement is off and confirmed off. -/
def Tail.turnOnDue (t : Tail) (n : Stn) (ch : Nat) : Bool :=
  let m := (t.stnGet n).modu
  let npc := t.cfb (MOD_CFG.TOPO n)
  let c := complementOf npc ch
  t.fitted n && t.on 6 && (t.gatesLive n || (m.gate = .asc && !t.hardBlocked n)) && ch < (if npc then 12 else 6) && m.want.getLsbD ch
    && !m.cmd.getLsbD ch && !m.cmd.getLsbD c && m.conf.getLsbD c && m.orderOn npc ch

/-- Less than MINPW is left to the scheduled turn-off of channel `ch`. -/
def Tail.tooShort (t : Tail) (n : Stn) (ch : Nat) : Bool :=
  ((t.turnOffIn n ch).map (fun d => decide (d < min 4000 (t.cf (MOD_MINPW.MINPW n))))).getD false

/-- Channel `ch` of station `n` turns on at the dead time after its complement, or is skipped. -/
def Tail.turnOn (t : Tail) (n : Stn) (ch : Nat) : Tail :=
  let m := (t.stnGet n).modu
  if !t.turnOnDue n ch then t
  else
    let t := t.elapseTo (m.edgeAt.toList.getD (complementOf (t.cfb (MOD_CFG.TOPO n)) ch) 0 + t.dtMin n)
    let bit : BitVec 13 := (1 : BitVec 13) <<< ch
    if m.gate = .enabled && t.tooShort n ch then (t.inc (MOD_CNT.SKIP n)).moduMap n (fun m =>
      { m with want := m.want &&& ~~~bit, skip := m.skip ||| bit, skipEnd := t.now + (2 * t.half n - t.carrierPos n) })
    else t.moduMap n (fun m => m.edges 0 bit t.now)

/-- A skip whose carrier period is over is taken anew. -/
def Tail.skipsAnew (t : Tail) (n : Stn) : Tail :=
  if (t.stnGet n).modu.skip != 0 && (t.stnGet n).modu.skipEnd ≤ t.now then t.wantStep n else t

theorem execTurnOn_eq (n : Stn) (ch : Nat) (s : State) : exec (.turnOn n ch) s = tailNext s fun t => (t.skipsAnew n).turnOn n ch := rfl

section
variable {t : Tail} {n : Stn}

theorem Tail.skipsAnew_of_none (h : (t.stnGet n).modu.skip = 0 ∨ t.now < (t.stnGet n).modu.skipEnd) : t.skipsAnew n = t := by
  refine if_neg fun hc => ?_
  simp only [Bool.and_eq_true, bne_iff_ne, decide_eq_true_eq] at hc
  exact h.elim hc.1 fun hlt => Nat.not_lt.mpr hc.2 hlt

/-! ## A carrier period that is over (17 R641) -/

theorem Tail.gateStep_skip : ((t.gateStep n).stnGet n).modu.skip = (t.stnGet n).modu.skip := by
  have hedges (c : Prop) [Decidable c] (m : Modu) (off on : BitVec 13) : (if c then m else m.edges off on t.now).skip = m.skip := by
    split
    · rfl
    · rfl
  simp only [Tail.gateStep, Tail.moduMap, Tail.stnMap_get]
  exact hedges _ _ _ _

/-- Where the gates are live no skip outlasts its period; where they are not, nothing is taken. -/
theorem Tail.skipsAnew_wantStep (h : (t.stnGet n).modu.skipEnd ≤ t.now) : (t.wantStep n).skipsAnew n = t.wantStep n := by
  by_cases hlive : t.gatesLive n = true
  · refine Tail.skipsAnew_of_none (.inl ?_)
    unfold Tail.wantStep
    rw [if_neg (by simp [hlive]), Tail.gateStep_skip]
    simp only [Tail.moduMap, Tail.stnMap_get]
    exact if_neg (Nat.not_lt.mpr h)
  · have hself : t.wantStep n = t := if_pos (by simp [hlive])
    rw [hself]
    unfold Tail.skipsAnew
    rw [hself, ite_self]

/-! ## One switch -/

theorem getLsbD_one_shiftLeft {ch c : Nat} (hc : c < 13) : ((1 : BitVec 13) <<< ch).getLsbD c = decide (c = ch) := by
  rw [BitVec.getLsbD_shiftLeft, show (1 : BitVec 13) = 1#13 from rfl, BitVec.getLsbD_one]
  rw [Bool.eq_iff_iff]
  simp only [Bool.and_eq_true, Bool.not_eq_true', decide_eq_true_eq, decide_eq_false_iff_not]
  omega

/-- A switch of the inverter that turns on awaits its confirmation; the chopper stays as it was. -/
theorem Modu.edges_on (m : Modu) {ch : Nat} (hch : ch < 6) (now : Nat) : m.edges 0 ((1 : BitVec 13) <<< ch) now =
    { m with
      cmd := m.cmd ||| (1 : BitVec 13) <<< ch
      conf := m.conf &&& ~~~((1 : BitVec 13) <<< ch)
      edgeAt := Vector.ofFn (fun c => if c.val = ch then now else m.edgeAt[c]) } := by
  have hbit (c : Fin 13) : ((1 : BitVec 13) <<< ch).getLsbD c.val = decide (c.val = ch) := getLsbD_one_shiftLeft c.isLt
  have hchop : ((1 : BitVec 13) <<< ch).getLsbD 12 = false := by
    rw [getLsbD_one_shiftLeft (by omega)]
    simp only [decide_eq_false_iff_not]
    omega
  have hall (x : BitVec 13) : x &&& 8191#13 = x := BitVec.and_allOnes
  generalize (1 : BitVec 13) <<< ch = b at hbit hchop ⊢
  unfold Modu.edges
  simp [hbit, hchop, hall, -BitVec.getLsbD_eq_getElem]

variable {ch : Nat}

theorem Tail.turnOn_of_not_due (h : t.turnOnDue n ch = false) : t.turnOn n ch = t := by
  unfold Tail.turnOn
  rw [h]
  rfl

/-- An on complement, or one not confirmed, holds a switch off. -/
theorem Tail.turnOnDue_of_complement
    (h : (t.stnGet n).modu.cmd.getLsbD (complementOf (t.cfb (MOD_CFG.TOPO n)) ch) = true
      ∨ (t.stnGet n).modu.conf.getLsbD (complementOf (t.cfb (MOD_CFG.TOPO n)) ch) = false) : t.turnOnDue n ch = false := by
  unfold Tail.turnOnDue
  rcases h with h | h
  · simp [h]
  · simp [h]

end

/-! ## A switch of a two-level inverter that is due -/

section
variable {t : Tail} {n : Stn} {ch : Nat} (hgate : (t.stnGet n).modu.gate = .enabled) (htopo : t.cf (MOD_CFG.TOPO n) = 0)
  (hdue : t.turnOnDue n ch = true)
include hgate htopo hdue

theorem Tail.turnOn_of_due : t.turnOn n ch =
    let r := t.elapseTo ((t.stnGet n).modu.edgeAt.toList.getD (complementOf false ch) 0 + t.dtMin n)
    if r.tooShort n ch then (r.inc (MOD_CNT.SKIP n)).moduMap n (fun m =>
      { m with want := m.want &&& ~~~((1 : BitVec 13) <<< ch), skip := m.skip ||| (1 : BitVec 13) <<< ch
               skipEnd := r.now + (2 * r.half n - r.carrierPos n) })
    else r.moduMap n (fun m => m.edges 0 ((1 : BitVec 13) <<< ch) r.now) := by
  have hcfb : t.cfb (MOD_CFG.TOPO n) = false := by simp [Tail.cfb, htopo]
  unfold Tail.turnOn
  simp [hdue, hgate, hcfb]

end

theorem Tail.tooShort_false {t : Tail} {n : Stn} {ch w : Nat} (hw : t.cf (MOD_MINPW.MINPW n) = w)
    (h : t.turnOffIn n ch = none ∨ ∃ d, t.turnOffIn n ch = some d ∧ min 4000 w ≤ d) : t.tooShort n ch = false := by
  subst hw
  unfold Tail.tooShort
  rcases h with h | ⟨d, h, hle⟩
  · rw [h]
    rfl
  · rw [h]
    exact decide_eq_false (Nat.not_lt.mpr hle)

theorem Tail.tooShort_true {t : Tail} {n : Stn} {ch w d : Nat} (hw : t.cf (MOD_MINPW.MINPW n) = w) (h : t.turnOffIn n ch = some d)
    (hlt : d < min 4000 w) : t.tooShort n ch = true := by
  subst hw
  unfold Tail.tooShort
  rw [h]
  exact decide_eq_true hlt

/-- A change of a station's modulation by what the change makes of it. -/
theorem Tail.moduMap_of_modu {t : Tail} {n : Stn} {m : Modu} (h : (t.stnGet n).modu = m) (f : Modu → Modu) :
    t.moduMap n f = t.moduMap n fun _ => f m := by
  subst h
  rfl

/-- Settles O24. -/
theorem turnOn : Obligations.TurnOn := by
  refine ⟨fun n ch s hfit hon hgate hskip hblock htopo hwant hoff hcoff hconf => ?_, fun n ch s hskip hcompl => ?_,
    fun n ch s hskip hend => ?_⟩
  · have hcfb : s.fs.cfb (MOD_CFG.TOPO n) = false := by simp [Tail.cfb, htopo]
    have hdue : s.fs.turnOnDue n ch = true := by
      simp [Tail.turnOnDue, Tail.gatesLive, Modu.orderOn, hfit, hon, hgate, hblock, hcfb, hwant, hoff, hcoff, hconf, ch.isLt]
    have hturn := (congrArg (Tail.turnOn · n ch) (Tail.skipsAnew_of_none hskip)).trans (Tail.turnOn_of_due hgate htopo hdue)
    have hm (d : Nat) : ((s.fs.elapse d).stnGet n).modu = (s.fs.stnGet n).modu := by simp
    have hpw (d : Nat) : (s.fs.elapse d).cf (MOD_MINPW.MINPW n) = s.fs.cf (MOD_MINPW.MINPW n) := by simp
    refine ⟨fun hlong => does_of_tail _ (execTurnOn_eq n ch s) (hturn.trans ?_),
      fun d hd hshort => does_of_tail _ (execTurnOn_eq n ch s) (hturn.trans ?_)⟩
    · refine (if_neg (Bool.eq_false_iff.mp (Tail.tooShort_false (hpw _) hlong))).trans ((Tail.moduMap_of_modu (hm _) _).trans ?_)
      simp only [Modu.edges_on _ ch.isLt]
      rfl
    · exact (if_pos (Tail.tooShort_true (hpw _) hd hshort)).trans (Tail.moduMap_of_modu (t := (s.fs.elapse _).inc _) (hm _) _)
  · exact does_of_tail _ (execTurnOn_eq n ch s)
      (by rw [Tail.skipsAnew_of_none hskip, Tail.turnOn_of_not_due (Tail.turnOnDue_of_complement hcompl)])
  · have hanew : (s.fs.skipsAnew n) = (s.fs.wantStep n).skipsAnew n := by
      rw [Tail.skipsAnew_wantStep hend]
      exact if_pos (Bool.and_eq_true_iff.mpr ⟨bne_iff_ne.mpr hskip, decide_eq_true hend⟩)
    rw [execTurnOn_eq, execTurnOn_eq]
    exact congrArg (fun t => Host.Outcome.next { s with fs := t }) (congrArg (Tail.turnOn · n ch) hanew)

end Sys2Proof.Machine
end

section
/-! What protection, stops and the settling of one station touch: parts of the station, its protection registers and its status, and
latches; never another station, nor the configuration in effect (10 R378, R385, 18 R658, R667). -/

namespace Sys2Proof.Machine

/-! ## The frame of one station -/

/-- The registers that they may write beside latches and the status of calibration: the PROT page but its classes and thresholds, and the
status of states and banks. -/
def protWrites (n : Stn) (a : Nat) : Bool :=
  notLatch a && (a / 256 = stnPage n 0xE && !(0x34 ≤ a % 256 && a % 256 < 0x50) || [(STN_STAT.PREV n).addr, (BNKA_STAT.ACT_CUR n).addr].contains a)

/-- The registers that they may write. -/
def protReg (n : Stn) (a : Nat) : Bool := a % 256 = 0x0C || a = (ISNS_STAT.CAL_STATE n).addr || protWrites n a

/-- What they leave of the sensing of a station: all but its calibration. -/
def Isns.bare (i : Isns) : Isns := { i with cal := .none, calT := none, sum := Vector.replicate 3 0, n := 0, restarts := 0 }

/-- What they leave of its set-point source: all but its stop ramp and Render. -/
def SetPt.bare (p : SetPt) : SetPt := { p with stop := .none, enter := false, render := .normal, above := 0 }

/-- What they leave of its sharing: all but what a Follower's stop takes. -/
def Share.bare (x : Share) : Share := { x with share := 0, stopReq := false }

/-- What they leave of its modulation: all but the gates and their commands. -/
def Modu.bare (m : Modu) : Modu :=
  { m with next := none, gate := .off, hwBlock := false, want := 0, cmd := 0, conf := 0, skip := 0, edgeAt := Vector.replicate 13 0
           chopOnAt := none, chopOffAt := 0, innerT := none }

/-- What they leave of a station. -/
def Station.bare (s : Station) : Station :=
  { s with sq := Sq.init, isns := s.isns.bare, banks := Banks.init, setp := s.setp.bare, share := s.share.bare, modu := s.modu.bare
           prot := Prot.init }

/-- The field side without what they may touch. -/
def Tail.bare (t : Tail) (n : Stn) : Tail := { t with regs := [], log := EvtLog.init, stn := t.stn.set n (t.stnGet n).bare }

/-- `r` differs from `t` at most in what protection and stops of station `n` may touch. -/
structure Tail.Only (n : Stn) (t r : Tail) : Prop where
  rest : r.bare n = t.bare n
  reg : ∀ a, protReg n a = false → r.word a = t.word a
  stuck : r.g (ISNS_STAT.STUCK n) = t.g (ISNS_STAT.STUCK n)
  latches : t.KeepsLatches r

section
variable {n : Stn} {o t r q : Tail}

theorem Tail.Only.refl : t.Only n t := ⟨rfl, fun _ _ => rfl, rfl, .refl t⟩

theorem Tail.Only.trans (h : t.Only n r) (h' : r.Only n q) : t.Only n q :=
  ⟨h'.rest.trans h.rest, fun a ha => (h'.reg a ha).trans (h.reg a ha), h'.stuck.trans h.stuck, fun p i hp => h'.latches p i (h.latches p i hp)⟩

theorem Tail.Only.ite (c : Prop) [Decidable c] (h : c → o.Only n t) (h' : ¬ c → o.Only n r) : o.Only n (if c then t else r) := by
  split
  · exact h (by assumption)
  · exact h' (by assumption)

/-! ## What the frame keeps -/

section
variable (h : t.Only n r)
include h

theorem Tail.Only.part {α : Sort _} (f : Tail → α) (hf : ∀ x : Tail, f (x.bare n) = f x) : f r = f t := by rw [← hf r, h.rest, hf t]

theorem Tail.Only.now_eq : r.now = t.now := h.part (·.now) fun _ => rfl
theorem Tail.Only.ft_eq : r.ft = t.ft := h.part (·.ft) fun _ => rfl
theorem Tail.Only.us_eq : r.us = t.us := h.part (·.us) fun _ => rfl
theorem Tail.Only.u_eq : r.u = t.u := h.part (·.u) fun _ => rfl
theorem Tail.Only.link_eq : r.link = t.link := h.part (·.link) fun _ => rfl
theorem Tail.Only.otp_eq : r.otp = t.otp := h.part (·.otp) fun _ => rfl
theorem Tail.Only.aon_eq : r.aon = t.aon := h.part (·.aon) fun _ => rfl
theorem Tail.Only.clk_eq : r.clk = t.clk := h.part (·.clk) fun _ => rfl
theorem Tail.Only.sto_eq : r.sto = t.sto := h.part (·.sto) fun _ => rfl
theorem Tail.Only.shr_eq : r.shr = t.shr := h.part (·.shr) fun _ => rfl
theorem Tail.Only.orb_eq : r.orb = t.orb := h.part (·.orb) fun _ => rfl
theorem Tail.Only.late_eq : r.late = t.late := h.part (·.late) fun _ => rfl
theorem Tail.Only.held_eq : r.held = t.held := h.part (·.held) fun _ => rfl
theorem Tail.Only.ds_eq : r.ds = t.ds := h.part (·.ds) fun _ => rfl
theorem Tail.Only.ssn_eq : r.ssn = t.ssn := h.part (·.ssn) fun _ => rfl
theorem Tail.Only.stns_eq : r.stns = t.stns := h.part (·.stns) fun _ => rfl

theorem Tail.Only.stn_bare : (r.stnGet n).bare = (t.stnGet n).bare := by
  have e := congrArg (fun x : Tail => x.stn[n]) h.rest
  simpa [Tail.bare] using e

theorem Tail.Only.fb_eq : (r.stnGet n).fb = (t.stnGet n).fb :=
  show (r.stnGet n).bare.fb = (t.stnGet n).bare.fb by rw [h.stn_bare]
theorem Tail.Only.loops_eq : (r.stnGet n).loops = (t.stnGet n).loops :=
  show (r.stnGet n).bare.loops = (t.stnGet n).bare.loops by rw [h.stn_bare]
theorem Tail.Only.thm_eq : (r.stnGet n).thm = (t.stnGet n).thm :=
  show (r.stnGet n).bare.thm = (t.stnGet n).bare.thm by rw [h.stn_bare]

theorem Tail.Only.isns_bare : (r.stnGet n).isns.bare = (t.stnGet n).isns.bare := congrArg Station.isns h.stn_bare
theorem Tail.Only.setp_bare : (r.stnGet n).setp.bare = (t.stnGet n).setp.bare := congrArg Station.setp h.stn_bare
theorem Tail.Only.share_bare : (r.stnGet n).share.bare = (t.stnGet n).share.bare := congrArg Station.share h.stn_bare
theorem Tail.Only.modu_bare : (r.stnGet n).modu.bare = (t.stnGet n).modu.bare := congrArg Station.modu h.stn_bare

theorem Tail.Only.stnGet_ne {m : Stn} (hm : m ≠ n) : r.stnGet m = t.stnGet m := by
  have hval : ¬ n.val = m.val := fun e => hm (Fin.ext e.symm)
  have e := congrArg (fun x : Tail => x.stn[m]) h.rest
  simpa [Tail.bare, Tail.stnGet, Vector.getElem_set, hval] using e

theorem Tail.Only.g_eq {f : Fd} (hf : protReg n f.addr = false) : r.g f = t.g f := congrArg (fdGet f) (h.reg _ hf)

theorem Tail.Only.inEff_eq {a : Nat} (ha : protReg n a = false) : r.inEff a = t.inEff a :=
  Tail.inEff_congr t r a (h.reg a ha) h.late_eq fun _ => by rw [h.held_eq]

theorem Tail.Only.cf_eq {f : Fd} (hf : protReg n f.addr = false) : r.cf f = t.cf f := congrArg (fdGet f) (h.inEff_eq hf)
theorem Tail.Only.cfb_eq {f : Fd} (hf : protReg n f.addr = false) : r.cfb f = t.cfb f := congrArg (· != 0) (h.cf_eq hf)

end

/-! ## Registers, latches, the parts of a station -/

theorem protWrites_stn (n : Stn) : protWrites n (STN_STAT.PREV n).addr = true ∧ protWrites n (BNKA_STAT.ACT_CUR n).addr = true
    ∧ protWrites n (ISNS_STAT.STUCK n).addr = false := by
  revert n
  decide

theorem evt_addr_mod (p : Nat) : (PG_EVT.EVT p).addr % 256 = 0x0C := Nat.mul_add_mod_self_right p 256 0x0C

theorem protReg_evt (n : Stn) (p : Nat) : protReg n (PG_EVT.EVT p).addr = true := by
  simp [protReg, evt_addr_mod]

theorem Tail.only_p {f : Fd} (x : Nat) (hf : protWrites n f.addr = true) (ht : o.Only n t) : o.Only n (t.p f x) := by
  obtain ⟨-, -, hstuck⟩ := protWrites_stn n
  refine ht.trans ⟨rfl, fun a ha => t.word_p_ne x fun e => ?_, t.g_p_ne x fun e => ?_,
    (Tail.KeepsLatches.refl t).p x (Bool.and_eq_true_iff.mp hf).1⟩
  · rw [e, protReg, hf, Bool.or_true] at ha
    cases ha
  · rw [e, hf] at hstuck
    cases hstuck

/-- The fields of the status of sensing: CAL_STATE stands beside STUCK, and neither in a latch. -/
theorem calState_apart (n : Stn) : (ISNS_STAT.CAL_STATE n).ok ∧ (ISNS_STAT.STUCK n).ok ∧ (ISNS_STAT.CAL_STATE n).apart (ISNS_STAT.STUCK n)
    ∧ protReg n (ISNS_STAT.CAL_STATE n).addr = true ∧ notLatch (ISNS_STAT.CAL_STATE n).addr = true
    ∧ (ISNS_STAT.STUCK n).addr % 256 ≠ 0x0C := by
  revert n
  decide

theorem Tail.only_calState (x : Nat) (ht : o.Only n t) : o.Only n (t.p (ISNS_STAT.CAL_STATE n) x) := by
  obtain ⟨hok, hok', hapart, hreg, hlatch, -⟩ := calState_apart n
  refine ht.trans ⟨rfl, fun a ha => t.word_p_ne x fun e => ?_, t.g_p_apart x hok hok' (.inr hapart), (Tail.KeepsLatches.refl t).p x hlatch⟩
  rw [e, hreg] at ha
  cases ha

theorem Tail.only_evt (p i : Nat) (ht : o.Only n t) : o.Only n (t.evt p i) := by
  obtain ⟨-, -, -, -, -, hmod⟩ := calState_apart n
  have hstuck : (ISNS_STAT.STUCK n).addr ≠ (PG_EVT.EVT p).addr := fun e => hmod (by rw [e]; exact evt_addr_mod p)
  refine ht.trans ⟨?_, fun a ha => t.word_evt_ne p i fun e => ?_, t.g_evt_ne p i hstuck, (Tail.KeepsLatches.refl t).evt p i⟩
  · unfold Tail.evt Tail.evtV
    split
    · exact rfl
    · exact rfl
  · rw [e, protReg_evt n p] at ha
    cases ha

theorem Tail.only_stnMap {g : Station → Station} (hg : (g (t.stnGet n)).bare = (t.stnGet n).bare) (ht : o.Only n t) :
    o.Only n (t.stnMap n g) := by
  refine ht.trans ⟨?_, fun _ _ => rfl, rfl, (Tail.KeepsLatches.refl t).of_regs rfl rfl⟩
  unfold Tail.bare
  rw [Tail.stnMap_get, hg]
  simp [Tail.stnMap]

theorem Tail.only_sqMap (g : Sq → Sq) (ht : o.Only n t) : o.Only n (t.sqMap n g) := Tail.only_stnMap rfl ht
theorem Tail.only_isnsMap {g : Isns → Isns} (hg : ∀ x, (g x).bare = x.bare) (ht : o.Only n t) : o.Only n (t.isnsMap n g) :=
  Tail.only_stnMap (congrArg (fun x => { (t.stnGet n).bare with isns := x }) (hg _)) ht
theorem Tail.only_banksMap (g : Banks → Banks) (ht : o.Only n t) : o.Only n (t.banksMap n g) := Tail.only_stnMap rfl ht
theorem Tail.only_setpMap {g : SetPt → SetPt} (hg : ∀ x, (g x).bare = x.bare) (ht : o.Only n t) : o.Only n (t.setpMap n g) :=
  Tail.only_stnMap (congrArg (fun x => { (t.stnGet n).bare with setp := x }) (hg _)) ht
theorem Tail.only_shareMap {g : Share → Share} (hg : ∀ x, (g x).bare = x.bare) (ht : o.Only n t) : o.Only n (t.shareMap n g) :=
  Tail.only_stnMap (congrArg (fun x => { (t.stnGet n).bare with share := x }) (hg _)) ht
theorem Tail.only_moduMap {g : Modu → Modu} (hg : ∀ x, (g x).bare = x.bare) (ht : o.Only n t) : o.Only n (t.moduMap n g) :=
  Tail.only_stnMap (congrArg (fun x => { (t.stnGet n).bare with modu := x }) (hg _)) ht
theorem Tail.only_protMap (g : Prot → Prot) (ht : o.Only n t) : o.Only n (t.protMap n g) := Tail.only_stnMap rfl ht

/-! ## States and gates -/

theorem Tail.only_setSt (st : StnSt) (ht : o.Only n t) : o.Only n (t.setSt n st) :=
  .ite _ (fun _ => ht) fun _ => Tail.only_sqMap _ (Tail.only_p _ (protWrites_stn n).1 ht)

theorem Tail.only_swapTo (c s : Option Bool) (src bit : Nat) (ht : o.Only n t) : o.Only n (t.swapTo n c s src bit) := by
  have h := (protWrites_stn n).2.1
  unfold Tail.swapTo
  extract_lets _ _
  exact .ite _ (fun _ => ht) fun _ => Tail.only_evt _ _ (Tail.only_p (f := BNKA_STAT.LAST_SRC n) _ h
    (Tail.only_p (f := BNKA_STAT.SWAPS n) _ h (Tail.only_p (f := BNKA_STAT.ACT_SO n) _ h (Tail.only_p _ h ht))))

theorem Tail.only_swapHost (ht : o.Only n t) : o.Only n (t.swapHost n) := by
  unfold Tail.swapHost
  extract_lets _ _
  exact .ite _ (fun _ => ht) fun _ => Tail.only_swapTo _ _ _ _ (Tail.only_p (f := BNKA_STAT.HPEND n) _ (protWrites_stn n).2.1 ht)

theorem Tail.only_banksIdle (ht : o.Only n t) : o.Only n (t.banksIdle n) := by
  unfold Tail.banksIdle
  exact Tail.only_swapHost (Tail.only_banksMap _ ht)

theorem Tail.only_endBlocks (ht : o.Only n t) : o.Only n (t.endBlocks n) := by
  unfold Tail.endBlocks
  extract_lets _ t1 t2
  have h2 : o.Only n t2 := Tail.only_protMap _ (Tail.only_moduMap (fun _ => rfl) ht)
  exact .ite _ (fun _ => Tail.only_evt _ _ h2) fun _ => h2

theorem Modu.bare_ite (c : Prop) [Decidable c] {m a b : Modu} (ha : a.bare = m.bare) (hb : b.bare = m.bare) :
    (if c then a else b).bare = m.bare := by
  split
  · exact ha
  · exact hb

theorem Tail.only_gateStep (ht : o.Only n t) : o.Only n (t.gateStep n) := by
  unfold Tail.gateStep
  exact Tail.only_moduMap (fun _ => Modu.bare_ite _ rfl rfl) ht

theorem Tail.only_blockGates (ht : o.Only n t) : o.Only n (t.blockGates n) := by
  unfold Tail.blockGates
  exact Tail.only_moduMap (fun _ => Modu.bare_ite _ rfl rfl) ht

theorem Tail.only_gateUpdate (ht : o.Only n t) : o.Only n (t.gateUpdate n) := by
  unfold Tail.gateUpdate
  extract_lets _ _ t1
  have h1 : o.Only n t1 := .ite _ (fun _ => ht) fun _ => Tail.only_moduMap (fun _ => rfl) ht
  exact .ite _ (fun _ => .ite _ (fun _ => h1) fun _ => Tail.only_blockGates h1) fun _ => h1

theorem Tail.only_renderStop (ht : o.Only n t) : o.Only n (t.renderStop n) :=
  .ite _ (fun _ => ht) fun _ => Tail.only_evt _ _ (Tail.only_setpMap (fun _ => rfl) ht)

theorem Tail.only_leaveRunning (st : StnSt) (ht : o.Only n t) : o.Only n (t.leaveRunning n st) := by
  unfold Tail.leaveRunning
  extract_lets t1 t2
  have h1 : o.Only n t1 := Tail.only_renderStop ht
  have h2 : o.Only n t2 := .ite _ (fun _ => h1) fun _ => Tail.only_endBlocks h1
  exact Tail.only_gateUpdate <| Tail.only_moduMap (fun _ => rfl) <| Tail.only_protMap _ <| Tail.only_setpMap (fun _ => rfl) <| Tail.only_banksIdle <|
    Tail.only_sqMap _ <| Tail.only_setSt _ h2

theorem Tail.only_enterFaulted (c : Nat) (ht : o.Only n t) : o.Only n (t.enterFaulted n c) := by
  unfold Tail.enterFaulted
  refine .ite _ (fun _ => ht) fun _ => ?_
  extract_lets t1 t2
  have h2 : o.Only n t2 := Tail.only_evt _ _ <| Tail.only_isnsMap (fun _ => rfl) <| Tail.only_p (f := STN_STAT.CAUSE n) _ (protWrites_stn n).1 <|
    Tail.only_leaveRunning _ ht
  exact .ite _ (fun _ => Tail.only_evt _ _ h2) fun _ => .ite _ (fun _ => Tail.only_evt _ _ h2) fun _ => h2

theorem Tail.only_calBegin (w : CalFor) (ht : o.Only n t) : o.Only n (t.calBegin n w) :=
  Tail.only_calState _ (Tail.only_isnsMap (fun _ => rfl) ht)

theorem Tail.only_calAbandon (ht : o.Only n t) : o.Only n (t.calAbandon n) := by
  unfold Tail.calAbandon
  split
  · exact ht
  · exact Tail.only_isnsMap (fun _ => rfl) ht
  · exact Tail.only_calState _ (Tail.only_isnsMap (fun _ => rfl) ht)

theorem Tail.only_settleStn (ht : o.Only n t) : o.Only n (t.settleStn n) := by
  unfold Tail.settleStn
  extract_lets _ _
  refine .ite _ (fun _ => ht) fun _ => ?_
  split
  · exact .ite _ (fun _ => .ite _ (fun _ => Tail.only_calBegin _ ht) fun _ => ht) fun _ =>
      .ite _ (fun _ => Tail.only_calAbandon ht) fun _ => ht
  · exact .ite _ (fun _ => ht) fun _ => Tail.only_calAbandon (Tail.only_leaveRunning _ ht)
  · exact ht

theorem Tail.only_diagReturn (ht : o.Only n t) : o.Only n (t.diagReturn n) := .ite _ (fun _ => Tail.only_setSt _ ht) fun _ => ht

/-! ## Stops (10 R385) -/

theorem Tail.only_brakeConfirm (ht : o.Only n t) : o.Only n (t.brakeConfirm n) := by
  unfold Tail.brakeConfirm
  refine .ite _ (fun _ => ht) fun _ => ?_
  split
  · exact Tail.only_sqMap _ ht
  · exact Tail.only_sqMap _ ht
  · exact ht

theorem Tail.only_closeBrake (ht : o.Only n t) : o.Only n (t.closeBrake n) :=
  .ite _ (fun _ => Tail.only_brakeConfirm (Tail.only_sqMap _ ht)) fun _ => Tail.only_sqMap _ ht

theorem Tail.only_stopLimits (r : StopRamp) (ht : o.Only n t) : o.Only n (t.stopLimits n r) := by
  unfold Tail.stopLimits
  extract_lets p t1
  have h1 : o.Only n t1 := Tail.only_setpMap (fun _ => rfl) ht
  exact .ite _ (fun _ => ht) fun _ => .ite _ (fun _ => Tail.only_evt _ _ h1) fun _ => h1

theorem Tail.only_stopBegin (r : StopReq) (st : StnSt) (ht : o.Only n t) : o.Only n (t.stopBegin n r st) := by
  unfold Tail.stopBegin
  extract_lets step setting t1 t2 t3 t4 t5
  have h3 : o.Only n t3 := Tail.only_renderStop (Tail.only_sqMap _ (Tail.only_setSt _ ht))
  have h4 : o.Only n t4 := Tail.only_stopLimits _ h3
  have h5 : o.Only n t5 := Tail.only_sqMap _ h4
  exact .ite _ (fun _ => Tail.only_closeBrake (Tail.only_shareMap (fun _ => rfl) h3)) fun _ => .ite _ (fun _ => h4) fun _ =>
    .ite _ (fun _ => Tail.only_protMap _ h5) fun _ => h5

theorem Tail.only_stopJoin (a r : StopReq) (st : StnSt) (ht : o.Only n t) : o.Only n (t.stopJoin n a r st) := by
  unfold Tail.stopJoin
  extract_lets m s t1
  have h1 : o.Only n t1 := Tail.only_stopLimits _ (Tail.only_sqMap _ (Tail.only_setSt _ ht))
  exact .ite _ (fun _ => Tail.only_closeBrake h1) fun _ => .ite _ (fun _ => Tail.only_protMap _ h1) fun _ => h1

theorem Tail.only_takeStop (r : StopReq) (ht : o.Only n t) : o.Only n (t.takeStop n r) := by
  unfold Tail.takeStop
  extract_lets s go
  have hgo (st : StnSt) : o.Only n (go st) := by
    unfold go
    split
    · exact Tail.only_stopJoin _ _ _ ht
    · exact Tail.only_stopBegin _ _ ht
  split
  · exact Tail.only_stopBegin _ _ ht
  · exact Tail.only_stopBegin _ _ ht
  · exact Tail.only_stopBegin _ _ ht
  · exact hgo _
  · exact hgo _
  · exact ht

/-! ## Sources (18 R658 to R667) -/

theorem Tail.only_endAsc (ht : o.Only n t) : o.Only n (t.endAsc n) :=
  .ite _ (fun _ => Tail.only_gateUpdate (Tail.only_moduMap (fun _ => rfl) (Tail.only_endBlocks ht))) fun _ => ht

theorem Tail.only_beginAsc (ht : o.Only n t) : o.Only n (t.beginAsc n) := by
  unfold Tail.beginAsc
  exact Tail.only_protMap _ (Tail.only_gateStep (Tail.only_moduMap (fun _ => rfl) ht))

theorem Tail.only_protFault (hw asc : Bool) (ht : o.Only n t) : o.Only n (t.protFault n hw asc) := by
  unfold Tail.protFault
  extract_lets was t1 t2
  have h1 : o.Only n t1 := .ite _ (fun _ => Tail.only_endAsc ht) fun _ => .ite _ (fun _ => ht) fun _ => Tail.only_beginAsc ht
  have h2 : o.Only n t2 := .ite _ (fun _ => Tail.only_moduMap (fun _ => rfl) h1) fun _ => h1
  exact .ite _ (fun _ => h2) fun _ => Tail.only_enterFaulted _ h2

/-- The registers of the PROT page. -/
theorem protWrites_prot (n : Stn) : protWrites n (PROT_ACT.ACT n).addr = true ∧ protWrites n (PROT_LATCH.LATCH n).addr = true
    ∧ protWrites n (PROT_CNT.TRIPS n).addr = true ∧ protWrites n (PROT_FIRST.VALID n).addr = true ∧ protWrites n (PROT_FT_LO.FT n).addr = true
    ∧ protWrites n (PROT_FT_HI.FT n).addr = true ∧ protWrites n (PG_STAT.WARN (stnPage n 0xE)).addr = true := by
  revert n
  decide

theorem Tail.only_assertSource (src : Nat) (ht : o.Only n t) : o.Only n (t.assertSource n src) := by
  obtain ⟨hact, hlatch, hcnt, hfirst, hlo, hhi, hwarn⟩ := protWrites_prot n
  unfold Tail.assertSource
  extract_lets act t1 c c2 first t2 t3 t4 t5 t6 t7
  have h1 : o.Only n t1 := Tail.only_p _ hact ht
  have h2 : o.Only n t2 := Tail.only_p _ hcnt (Tail.only_p _ hlatch h1)
  have h3 : o.Only n t3 := .ite _ (fun _ => Tail.only_p _ hhi (Tail.only_p _ hlo (Tail.only_p (f := PROT_FIRST.SRC n) _ hfirst
    (Tail.only_p _ hfirst (Tail.only_p (f := PROT_FIRST.CLASS n) _ hfirst h2))))) fun _ => h2
  have h4 : o.Only n t4 := Tail.only_protMap _ h3
  have h5 : o.Only n t5 := .ite _ (fun _ => Tail.only_takeStop _ h4) fun _ => Tail.only_protFault _ _ h4
  have h6 : o.Only n t6 := .ite _ (fun _ => Tail.only_enterFaulted _ h5) fun _ => h5
  have h7 : o.Only n t7 := Tail.only_evt _ _ h6
  exact .ite _ (fun _ => ht) fun _ => .ite _ (fun _ => h1) fun _ => .ite _ (fun _ => Tail.only_evt _ _ (Tail.only_p _ hwarn h1)) fun _ =>
    .ite _ (fun _ => Tail.only_evt _ _ h7) fun _ => h7

theorem Tail.only_dropSource (src : Nat) (ht : o.Only n t) : o.Only n (t.dropSource n src) := by
  unfold Tail.dropSource
  extract_lets act a t1
  exact .ite _ (fun _ => ht) fun _ => Tail.only_p _ (protWrites_prot n).2.2.2.2.2.2 (Tail.only_p _ (protWrites_prot n).1 ht)

theorem Tail.only_setSource (src : Nat) (on : Bool) (ht : o.Only n t) : o.Only n (t.setSource n src on) :=
  .ite _ (fun _ => Tail.only_assertSource _ ht) fun _ => Tail.only_dropSource _ ht

end

end Sys2Proof.Machine
end

section
/-! Settling O28: line loss, the encoder supply, and what the status of the feedback ports shows (11 R448 to R451). -/

namespace Sys2Proof.Machine

/-! ## What the status of the ports touches -/

/-- The status of the feedback ports, but for the source FBL (11 R420, R432, R448 to R450). -/
def Tail.fbShown (t : Tail) (n : Stn) : Tail :=
  let loss := t.fbLossNow n
  let aux := t.auxLoss n
  let t := if loss && !t.b (FBP_STAT.FB_LOSS n) then
      (t.fbMap n (fun f => { f with lossHold := true })).evt (stnPage n 1) 1
    else t
  let t := if aux && !t.b (FBA_STAT.LOSS n) then t.evt (stnPage n 2) 2 else t
  let t := ((t.pb (FBP_STAT.FB_LOSS n) loss).pb (FBA_STAT.LOSS n) aux).p (FBP_STAT.PAIR_LOSS n) (t.primLost n)
  (t.pb (FBP_STAT.POS_VALID n) (t.posValidNow n)).pb (FBP_STAT.SPD_VALID n) (t.spdValidNow n)

theorem Tail.fbStatus_eq (t : Tail) (n : Stn) : t.fbStatus n = (t.fbShown n).setSource n 8 (t.fbLossNow n) := rfl

/-- What the status of the ports leaves of a station: all but the hold of POS_VALID after a loss. -/
def Station.unheld (s : Station) : Station := { s with fb := { s.fb with lossHold := false } }

/-- The field side without what the status of the ports of station `n` touches. -/
def Tail.unshown (t : Tail) (n : Stn) : Tail := { t with regs := [], log := EvtLog.init, stn := t.stn.set n (t.stnGet n).unheld }

/-- A register is neither a latch nor the status of a port of station `n`. -/
abbrev notShown (n : Stn) (a : Nat) : Prop := a % 256 ≠ 0x0C ∧ a ≠ (FBP_STAT.FB_LOSS n).addr ∧ a ≠ (FBA_STAT.LOSS n).addr

/-- The fields of the two status registers that are written elsewhere. -/
def keptStatus (n : Stn) : List Fd :=
  [FBP_STAT.ENC_OC n, FBP_STAT.QERR_CNT n, FBP_STAT.Z_SEEN n, FBP_STAT.LOWSPD n, FBA_STAT.SW n, FBA_STAT.SECTOR n, FBA_STAT.HALL n]

/-- `r` differs from `t` at most in what the status of the ports of station `n` touches. -/
structure Tail.Shows (n : Stn) (t r : Tail) : Prop where
  rest : r.unshown n = t.unshown n
  reg : ∀ a, notShown n a → r.word a = t.word a
  status : ∀ f ∈ keptStatus n, r.g f = t.g f
  latches : t.KeepsLatches r

section
variable {n : Stn} {o t r : Tail}

theorem Tail.Shows.refl : t.Shows n t := ⟨rfl, fun _ _ => rfl, fun _ _ => rfl, .refl t⟩

section
variable (h : t.Shows n r)
include h

theorem Tail.Shows.part {α : Sort _} (f : Tail → α) (hf : ∀ x : Tail, f (x.unshown n) = f x) : f r = f t := by rw [← hf r, h.rest, hf t]

theorem Tail.Shows.stn_unheld : (r.stnGet n).unheld = (t.stnGet n).unheld := by
  have e := congrArg (fun x : Tail => x.stn[n]) h.rest
  simpa [Tail.unshown] using e

theorem Tail.Shows.fb_eq : (r.stnGet n).fb = { (t.stnGet n).fb with lossHold := (r.stnGet n).fb.lossHold } :=
  have e : ({ (r.stnGet n).fb with lossHold := false } : Fb) = { (t.stnGet n).fb with lossHold := false } :=
    congrArg Station.fb h.stn_unheld
  congrArg (fun x : Fb => { x with lossHold := (r.stnGet n).fb.lossHold }) e

theorem Tail.Shows.stnGet_ne {m : Stn} (hm : m ≠ n) : r.stnGet m = t.stnGet m := by
  have hval : ¬ n.val = m.val := fun e => hm (Fin.ext e.symm)
  have e := congrArg (fun x : Tail => x.stn[m]) h.rest
  simpa [Tail.unshown, Tail.stnGet, Vector.getElem_set, hval] using e

theorem Tail.Shows.inEff_eq {a : Nat} (ha : notShown n a) : r.inEff a = t.inEff a :=
  Tail.inEff_congr t r a (h.reg a ha) (h.part (·.late) fun _ => rfl) fun _ => by rw [h.part (·.held) fun _ => rfl]

theorem Tail.Shows.cf_eq {f : Fd} (hf : notShown n f.addr) : r.cf f = t.cf f := congrArg (fdGet f) (h.inEff_eq hf)

end

theorem Tail.Shows.trans (h : o.Shows n t) (h' : t.Shows n r) : o.Shows n r :=
  ⟨h'.rest.trans h.rest, fun a ha => (h'.reg a ha).trans (h.reg a ha), fun f hf => (h'.status f hf).trans (h.status f hf),
    fun p i hp => h'.latches p i (h.latches p i hp)⟩

/-- The fields that the status writes. -/
def shownFields (n : Stn) : List Fd :=
  [FBP_STAT.FB_LOSS n, FBA_STAT.LOSS n, FBP_STAT.PAIR_LOSS n, FBP_STAT.POS_VALID n, FBP_STAT.SPD_VALID n]

theorem shownFields_apart (n : Stn) : ∀ f ∈ shownFields n, (f.addr = (FBP_STAT.FB_LOSS n).addr ∨ f.addr = (FBA_STAT.LOSS n).addr) ∧ f.ok
    ∧ notLatch f.addr = true ∧ ∀ g ∈ keptStatus n, g.ok ∧ (g.addr ≠ f.addr ∨ f.apart g) := by
  revert n
  decide

theorem Tail.shows_p {f : Fd} (x : Nat) (hf : f ∈ shownFields n) (ht : o.Shows n t) : o.Shows n (t.p f x) := by
  obtain ⟨haddr, hok, hlatch, hapart⟩ := shownFields_apart n f hf
  exact ht.trans ⟨rfl, fun a ha => t.word_p_ne x fun e => haddr.elim (fun h => ha.2.1 (e.trans h)) fun h => ha.2.2 (e.trans h),
    fun g hg => t.g_p_apart x hok (hapart g hg).1 (hapart g hg).2,
    (Tail.KeepsLatches.refl t).p x hlatch⟩

theorem keptStatus_not_evt (n : Stn) : ∀ f ∈ keptStatus n, f.addr % 256 ≠ 0x0C := by revert n; decide

theorem Tail.shows_evt (p i : Nat) (ht : o.Shows n t) : o.Shows n (t.evt p i) := by
  refine ht.trans ⟨?_, fun a ha => t.word_evt_ne p i fun e => ha.1 (e ▸ evt_addr_mod p), fun f hf => t.g_evt_ne p i fun e =>
    keptStatus_not_evt n f hf (e ▸ evt_addr_mod p), (Tail.KeepsLatches.refl t).evt p i⟩
  unfold Tail.evt Tail.evtV
  split
  · rfl
  · rfl

theorem Tail.shows_hold (b : Bool) (ht : o.Shows n t) : o.Shows n (t.fbMap n fun f => { f with lossHold := b }) := by
  refine ht.trans ⟨?_, fun _ _ => rfl, fun _ _ => rfl, (Tail.KeepsLatches.refl t).of_regs rfl rfl⟩
  unfold Tail.unshown Tail.fbMap
  rw [Tail.stnMap_get]
  simp [Tail.stnMap, Station.unheld]

theorem Tail.Shows.ite (c : Prop) [Decidable c] (h : o.Shows n t) (h' : o.Shows n r) : o.Shows n (if c then t else r) := by
  split
  · exact h
  · exact h'

/-! ## What the status is made from -/

/-- The registers from which the status of the ports of station `n` is made. -/
theorem lossRegs_notShown (n : Stn) : ∀ f ∈ [PG_CTRL.ENABLE (stnPage n 1), PG_CTRL.ENABLE (stnPage n 2), FBP_CFG.MODE n, FBA_CFG.MODE n,
    FBP_LOSS.MASK n, FBA_LOSS.MASK n, FBP_SPDTO.ERRMAX n], notShown n f.addr := by
  revert n
  decide

/-- The status says the same of what else it is made from. -/
theorem Tail.Shows.lossNow (h : t.Shows n r) :
    r.fbLossNow n = t.fbLossNow n ∧ r.fbpMode n = t.fbpMode n ∧ r.primLost n = t.primLost n ∧ r.auxLoss n = t.auxLoss n := by
  have hcf := fun f hf => h.cf_eq (lossRegs_notShown n f hf)
  simp only [List.mem_cons, List.not_mem_nil, or_false, forall_eq_or_imp, forall_eq] at hcf
  obtain ⟨hp1, hp2, hpm, ham, hpl, hal, herr⟩ := hcf
  have hoc := h.status (FBP_STAT.ENC_OC n) (by simp [keptStatus])
  have hfb := h.fb_eq
  have hout : (r.stnGet n).fb.out = (t.stnGet n).fb.out := by rw [hfb]
  have hqerr : (r.stnGet n).fb.qerrLoss = (t.stnGet n).fb.qerrLoss := by rw [hfb]
  have hrun : (r.stnGet n).fb.ssiRun = (t.stnGet n).fb.ssiRun := by rw [hfb]
  have hhall : (r.stnGet n).fb.hallLoss = (t.stnGet n).fb.hallLoss := by rw [hfb]
  have hmode : r.fbpMode n = t.fbpMode n := by
    unfold Tail.fbpMode Tail.enabled Tail.cfb
    rw [hp1, hpm]
  have hprim : r.primLost n = t.primLost n := by
    unfold Tail.primLost Tail.lostPairs Tail.enabled Tail.cfb
    rw [hp1, hpl, hout]
  have haux : r.auxLoss n = t.auxLoss n := by
    unfold Tail.auxLoss Tail.fbaMode Tail.auxLost Tail.lostPairs Tail.enabled Tail.cfb
    rw [hp2, ham, hal, hout, hhall]
  refine ⟨?_, hmode, hprim, haux⟩
  unfold Tail.fbLossNow Tail.b
  dsimp only
  rw [hmode, hprim, haux, herr, hqerr, hrun, hoc]

end

/-! ## What the status shows -/

section
variable (t : Tail) (n : Stn)

/-- The field side once a new loss is latched. -/
def Tail.lossLatched : Tail :=
  let loss := t.fbLossNow n
  let aux := t.auxLoss n
  let t := if loss && !t.b (FBP_STAT.FB_LOSS n) then
      (t.fbMap n (fun f => { f with lossHold := true })).evt (stnPage n 1) 1
    else t
  if aux && !t.b (FBA_STAT.LOSS n) then t.evt (stnPage n 2) 2 else t

/-- The field side with FB_LOSS, FBA_STAT.LOSS and the lost pairs shown. -/
def Tail.lossShown : Tail :=
  let r := t.lossLatched n
  ((r.pb (FBP_STAT.FB_LOSS n) (t.fbLossNow n)).pb (FBA_STAT.LOSS n) (t.auxLoss n)).p (FBP_STAT.PAIR_LOSS n) (r.primLost n)

theorem Tail.fbShown_eq : t.fbShown n =
    ((t.lossShown n).pb (FBP_STAT.POS_VALID n) ((t.lossShown n).posValidNow n)).pb (FBP_STAT.SPD_VALID n) ((t.lossShown n).spdValidNow n) :=
  rfl

theorem Tail.shows_lossLatched : t.Shows n (t.lossLatched n) := by
  unfold Tail.lossLatched
  extract_lets loss aux t1
  have h1 : t.Shows n t1 := .ite _ (Tail.shows_evt _ _ (Tail.shows_hold _ .refl)) .refl
  exact .ite _ (Tail.shows_evt _ _ h1) h1

theorem Tail.shows_lossShown : t.Shows n (t.lossShown n) :=
  Tail.shows_p _ (by simp [shownFields]) (Tail.shows_p _ (by simp [shownFields]) (Tail.shows_p _ (by simp [shownFields])
    (t.shows_lossLatched n)))

theorem Tail.shows_fbShown : t.Shows n (t.fbShown n) :=
  Tail.shows_p _ (by simp [shownFields]) (Tail.shows_p _ (by simp [shownFields]) (t.shows_lossShown n))

/-- The fields that the status writes, apart from each other. -/
theorem shown_apart (n : Stn) : (FBP_STAT.SPD_VALID n).ok ∧ (FBP_STAT.POS_VALID n).ok ∧ (FBP_STAT.PAIR_LOSS n).ok ∧ (FBA_STAT.LOSS n).ok
    ∧ (FBP_STAT.FB_LOSS n).ok ∧ (FBP_STAT.SPD_VALID n).apart (FBP_STAT.POS_VALID n) ∧ (FBP_STAT.SPD_VALID n).apart (FBP_STAT.PAIR_LOSS n)
    ∧ (FBP_STAT.POS_VALID n).apart (FBP_STAT.PAIR_LOSS n) ∧ (FBP_STAT.SPD_VALID n).apart (FBP_STAT.FB_LOSS n)
    ∧ (FBP_STAT.POS_VALID n).apart (FBP_STAT.FB_LOSS n) ∧ (FBP_STAT.PAIR_LOSS n).apart (FBP_STAT.FB_LOSS n)
    ∧ (FBP_STAT.FB_LOSS n).addr ≠ (FBA_STAT.LOSS n).addr := by
  revert n
  decide

/-- No register of the status is one of protection. -/
theorem protReg_status (n : Stn) : protReg n (FBP_STAT.FB_LOSS n).addr = false ∧ protReg n (FBA_STAT.LOSS n).addr = false := by
  revert n
  decide

theorem Tail.fbStatus_g {f : Fd} (hf : protReg n f.addr = false) : (t.fbStatus n).g f = (t.fbShown n).g f :=
  (Tail.only_setSource 8 (t.fbLossNow n) .refl).g_eq hf

theorem b2n_mod (b : Bool) : b2n b % 2 ^ 1 = b2n b := by cases b <;> rfl

theorem Tail.lossShown_loss : (t.lossShown n).g (FBP_STAT.FB_LOSS n) = b2n (t.fbLossNow n) := by
  obtain ⟨-, -, hpair, -, hloss, -, -, -, -, -, hapart, hne⟩ := shown_apart n
  unfold Tail.lossShown
  rw [Tail.g_p_apart _ _ hpair hloss (.inr hapart), Tail.pb, Tail.g_p_ne _ _ hne, Tail.pb, Tail.g_p _ _ hloss]
  exact b2n_mod _

/-- FB_LOSS shows the loss (11 R449). -/
theorem Tail.fbStatus_loss : (t.fbStatus n).g (FBP_STAT.FB_LOSS n) = b2n (t.fbLossNow n) := by
  obtain ⟨hspd, hpos, -, -, hloss, -, -, -, hspdl, hposl, -, -⟩ := shown_apart n
  rw [t.fbStatus_g n (protReg_status n).1, Tail.fbShown_eq, Tail.pb, Tail.g_p_apart _ _ hspd hloss (.inr hspdl), Tail.pb,
    Tail.g_p_apart _ _ hpos hloss (.inr hposl), t.lossShown_loss n]

/-- PAIR_LOSS shows the lost pairs (11 R448). -/
theorem Tail.fbStatus_pairs : (t.fbStatus n).g (FBP_STAT.PAIR_LOSS n) = t.primLost n % 2 ^ 3 := by
  obtain ⟨hspd, hpos, hpair, -, -, -, hspdp, hposp, -, -, -, -⟩ := shown_apart n
  rw [t.fbStatus_g n (f := FBP_STAT.PAIR_LOSS n) (protReg_status n).1, Tail.fbShown_eq, Tail.pb, Tail.g_p_apart _ _ hspd hpair (.inr hspdp), Tail.pb,
    Tail.g_p_apart _ _ hpos hpair (.inr hposp)]
  exact (Tail.g_p _ _ hpair).trans (congrArg (· % 2 ^ 3) (t.shows_lossLatched n).lossNow.2.2.1)

variable {t n}

/-- POS_VALID and SPD_VALID are 0 while a loss stands (11 R450). -/
theorem Tail.fbStatus_invalid (h : t.fbLossNow n = true) :
    (t.fbStatus n).g (FBP_STAT.POS_VALID n) = 0 ∧ (t.fbStatus n).g (FBP_STAT.SPD_VALID n) = 0 := by
  obtain ⟨hspd, hpos, -, -, -, hapart, -⟩ := shown_apart n
  have hloss : (t.lossShown n).fbLossNow n = true := ((t.shows_lossShown n).lossNow).1.trans h
  have hposv : (t.lossShown n).posValidNow n = false := by simp [Tail.posValidNow, hloss]
  have hspdv : (t.lossShown n).spdValidNow n = false := by simp [Tail.spdValidNow, hloss]
  rw [t.fbStatus_g n (f := FBP_STAT.POS_VALID n) (protReg_status n).1, t.fbStatus_g n (f := FBP_STAT.SPD_VALID n) (protReg_status n).1,
    Tail.fbShown_eq, hposv, hspdv]
  refine ⟨?_, Tail.g_p _ _ hspd⟩
  rw [Tail.pb, Tail.g_p_apart _ _ hspd hpos (.inr hapart)]
  exact Tail.g_p _ _ hpos

/-! ## The commands -/

theorem pairLoss_settles {s : State} {p : Fin 6} {us : Nat} (hfit : s.fs.fitted n.val = true) (hon : s.fs.on 7 = true)
    (hus : max 1 (s.fs.cf (FBP_LOSS.T_LOSS n)) ≤ us) (lost : Bool) :
    Settles (.pairLoss n p ⟨lost, us⟩) s ((s.fs.fbMap n (fun f => { f with
      out := if lost then f.out ||| ((1 : BitVec 6) <<< p.val) else f.out &&& ~~~((1 : BitVec 6) <<< p.val) })).fbStatus n) :=
  settles_of_tail _ rfl (if_neg (by simp [hfit, hon, hus]))

/-- Settles O28. -/
theorem feedbackLoss : Obligations.FeedbackLoss := by
  refine ⟨fun n p us s hfit hon hus => ⟨pairLoss_settles hfit hon hus true, pairLoss_settles hfit hon hus false⟩,
    fun n p lost us s hus => does_of_tail _ rfl (if_pos ?_), fun n s hfit hon hsup hen hoc => settles_of_tail _ rfl (if_pos ?_),
    fun n t h => ⟨?_, Tail.fbStatus_invalid h⟩, fun n t => ?_⟩
  · simp only [Nat.not_le.mpr hus, decide_false, Bool.and_false, Bool.not_false]
  · simp [Tail.encSupply, Tail.cfb, Tail.b, hfit, hon, hsup, hen, hoc]
  · rw [Tail.fbStatus_loss, h]
    rfl
  · have hlt : t.primLost n < 2 ^ 3 := by
      unfold Tail.primLost Tail.lostPairs
      split
      · exact Nat.lt_of_le_of_lt Nat.and_le_left (Nat.mod_lt _ (by decide))
      · decide
    rw [Tail.fbStatus_pairs, Nat.mod_eq_of_lt hlt]
    rfl

end
end Sys2Proof.Machine
end

section
/-! Settling O26: encoder edges, Hall codes and switches (11 R411, R412, R416, R419, R427, R429). -/

namespace Sys2Proof.Machine

/-! ## Samples with no more than an A/B transition of the primary port -/

section
variable {t : Tail} {n : Stn} {l o : EncLevels}

/-- Levels that have held for every filter are taken as they are. -/
theorem Tail.filtered_of_held {held : Nat} (hp : max 1 (t.cf (FBP_CFG.N n)) ≤ held) (ha : max 1 (t.cf (FBA_CFG.N n)) ≤ held)
    (hc : max 1 (t.cf (LCMP_CFG.NCAP n)) ≤ held) : t.filtered n o l held = l := by
  simp [Tail.filtered, hp, ha, hc]

/-- Levels that have held for no filter are not taken. -/
theorem Tail.filtered_of_short {held : Nat} (hp : held < max 1 (t.cf (FBP_CFG.N n))) (ha : held < max 1 (t.cf (FBA_CFG.N n)))
    (hc : held < max 1 (t.cf (LCMP_CFG.NCAP n))) : t.filtered n o l held = o := by
  simp [Tail.filtered, Nat.not_le.mpr hp, Nat.not_le.mpr ha, Nat.not_le.mpr hc]

/-- A sample whose Z edge, auxiliary port, latch, compare and gate timer have nothing to do is its A/B transition. -/
theorem Tail.encSample_of_quiet {r : Tail} (hr : (t.fbMap n fun f => { f with lv := l }).primStep n (t.stnGet n).fb.lv l = r)
    (hz : l.z = (t.stnGet n).fb.lv.z) (hmode : r.cf (FBA_CFG.MODE n) = 1) (hoff : r.enabled (stnPage n 3) = false) :
    t.encSample n l = r := by
  have haux : r.auxStep n (t.stnGet n).fb.lv l = r := by
    refine if_pos ?_
    unfold Tail.fbaMode
    rw [hmode]
    split <;> rfl
  have hpulse : r.pulseStep n (t.stnGet n).fb.lv l = r := if_pos (by rw [hmode]; rfl)
  have hlatch : r.latchStep n (t.stnGet n).fb.lv l = r := if_neg (by simp [hoff])
  have hzstep : r.zStep n (t.stnGet n).fb.lv l = r := by
    refine if_pos ?_
    rw [hz]
    cases (t.stnGet n).fb.lv.z <;> simp
  have hcmp (p0 : Nat) : r.compareCheck n p0 = r := if_pos (by simp [Tail.cmpOn, hoff])
  have hgate : r.gateTimer n (t.stnGet n).fb.lv l = r := if_pos (by simp [hoff])
  unfold Tail.encSample
  dsimp only
  rw [hr, haux, hpulse, hlatch, hzstep, hcmp, ite_self, hgate]

/-- The levels taken before, taken again. -/
theorem Tail.fbMap_lv : t.fbMap n (fun f => { f with lv := (t.stnGet n).fb.lv }) = t :=
  have h : t.stn.set n t.stn[n] = t.stn := by simp
  congrArg (fun v : Vector Station 4 => { t with stn := v }) h

theorem quadStep_same (a b : Bool) : quadStep a b a b = some 0 := by cases a <;> cases b <;> rfl

theorem gtEdge_same (sel : Nat) (l : EncLevels) : gtEdge sel l l = false := by
  unfold gtEdge
  split <;> simp

/-- A sample with the levels taken before changes nothing. -/
theorem Tail.encSample_same : t.encSample n (t.stnGet n).fb.lv = t := by
  generalize ho : (t.stnGet n).fb.lv = o
  have hprim : t.primStep n o o = t := by
    unfold Tail.primStep
    rw [quadStep_same]
    exact ite_self _
  have haux : t.auxStep n o o = t := by
    unfold Tail.auxStep
    rw [quadStep_same]
    exact ite_self _
  have hpulse : t.pulseStep n o o = t := by
    unfold Tail.pulseStep
    split
    · rfl
    · refine List.foldlRecOn (motive := fun r => r = t) _ _ rfl fun r hr m _ => ?_
      rw [quadStep_same]
      simp [hr]
  have hlatch : t.latchStep n o o = t := by
    unfold Tail.latchStep
    simp
  have hz : t.zStep n o o = t := by
    refine if_pos ?_
    cases o.z <;> simp
  have hcmp : t.compareCheck n (t.g (FBP_POS.POS n)) = t := if_pos (by simp)
  have hgate : t.gateTimer n o o = t := by
    unfold Tail.gateTimer
    simp [gtEdge_same]
  unfold Tail.encSample
  dsimp only
  rw [ho, ← ho, Tail.fbMap_lv, ho, hprim, haux, hpulse, hlatch, hz, hcmp, ite_self, hgate]

/-! ## The transition of the primary port -/

/-- The registers that the A/B transition of the primary port leaves. -/
abbrev notPrim (n : Stn) (a : Nat) : Prop := a % 256 ≠ 0x0C ∧ a ≠ (FBP_POS.POS n).addr ∧ a ≠ (FBP_STAT.QERR_CNT n).addr

theorem Tail.inEff_of_word {t r : Tail} {a : Nat} (hw : r.word a = t.word a) (hl : r.late = t.late) (hh : r.held = t.held) :
    r.inEff a = t.inEff a := Tail.inEff_congr t r a hw hl fun _ => by rw [hh]

theorem Tail.evt_late (t : Tail) (p i : Nat) : (t.evt p i).late = t.late := by
  unfold Tail.evt Tail.evtV
  split
  · rfl
  · rfl

theorem Tail.evt_held (t : Tail) (p i : Nat) : (t.evt p i).held = t.held := by
  unfold Tail.evt Tail.evtV
  split
  · rfl
  · rfl

theorem Tail.qerr_inEff {a : Nat} (ha : notPrim n a) : (t.qerr n).inEff a = t.inEff a := by
  obtain ⟨hevt, -, hstat⟩ := ha
  have hw : (((t.inc (FBP_STAT.QERR_CNT n)).evt (stnPage n 1) 0)).word a = t.word a :=
    (Tail.word_evt_ne _ _ _ fun e => hevt (by rw [e, evt_addr_mod])).trans (t.word_p_ne _ hstat)
  exact Tail.inEff_of_word hw (Tail.evt_late _ _ _) (Tail.evt_held _ _ _)

theorem Tail.p_inEff_ne (t : Tail) {f : Fd} (x : Nat) {a : Nat} (ha : a ≠ f.addr) : (t.p f x).inEff a = t.inEff a :=
  Tail.inEff_of_word (t.word_p_ne x ha) rfl rfl

theorem Tail.p_cf_ne (t : Tail) {f g : Fd} (x : Nat) (h : g.addr ≠ f.addr) : (t.p f x).cf g = t.cf g := congrArg (fdGet g) (t.p_inEff_ne x h)

theorem Tail.pDs_inEff_ne {f : Fd} (x : Nat) {a : Nat} (ha : a ≠ f.addr) : (t.pDs f x).inEff a = t.inEff a :=
  Tail.inEff_of_word (Tail.word_p_ne _ _ ha) rfl rfl

/-- An accepted transition counts by its direction (11 R416). -/
theorem Tail.primStep_of_step {d : Int} (hmode : t.fbpMode n = 1) (hq : quadStep o.a o.b l.a l.b = some d) (hd : d ≠ 0) :
    t.primStep n o l =
      let e : Int := if t.cf (FBP_CFG.DIR n) = 0 then d else -d
      (t.pDs (FBP_POS.POS n) (enc 32 (t.g (FBP_POS.POS n) + e))).fbMap n (fun f =>
        { f with prim := f.prim.step e (t.stamp (t.cf (FBP_CFG.N n))) }) := by
  have hdir : (if t.cfb (FBP_CFG.DIR n) then -d else d) = if t.cf (FBP_CFG.DIR n) = 0 then d else -d := by
    by_cases h : t.cf (FBP_CFG.DIR n) = 0
    · simp [Tail.cfb, h]
    · simp [Tail.cfb, h]
  unfold Tail.primStep
  rw [if_neg (by simp [hmode]), hq, ← hdir]
  split
  · next h => cases h
  · next h => exact absurd (Option.some.inj h) hd
  · next h =>
    cases h
    rfl

/-- A change of both is no step (11 R416). -/
theorem Tail.primStep_of_none (hmode : t.fbpMode n = 1) (hq : quadStep o.a o.b l.a l.b = none) : t.primStep n o l = t.qerr n := by
  unfold Tail.primStep
  rw [if_neg (by simp [hmode]), hq]

/-- The configuration that a quiet sample reads. -/
theorem quietRegs_notPrim (n : Stn) :
    notPrim n (FBA_CFG.MODE n).addr ∧ notPrim n (PG_CTRL.ENABLE (stnPage n 3)).addr := by
  revert n
  decide

end

section
variable {s : State} {n : Stn} {lv : EncLevels} {held : Nat} (hfit : s.fs.fitted n.val = true) (hon : s.fs.on 7 = true)
include hfit hon

theorem encoderEdge_settles {r : Tail} (h : s.fs.encSample n (s.fs.filtered n (s.fs.stnGet n).fb.lv lv held) = r) :
    Settles (.encoderEdge n ⟨lv, held⟩) s (r.fbStatus n) :=
  settles_of_tail _ rfl ((if_pos (by simp [hfit, hon])).trans (congrArg (fun x : Tail => (x.fbStatus n).finish) h))

/-- Levels held for every filter, without a Z edge. -/
theorem encoderEdge_prim {r : Tail} (hmode : s.fs.cf (FBA_CFG.MODE n) = 1) (hoff : s.fs.enabled (stnPage n 3) = false)
    (hz : lv.z = (s.fs.stnGet n).fb.lv.z) (hp : max 1 (s.fs.cf (FBP_CFG.N n)) ≤ held) (ha : max 1 (s.fs.cf (FBA_CFG.N n)) ≤ held)
    (hc : max 1 (s.fs.cf (LCMP_CFG.NCAP n)) ≤ held)
    (hr : (s.fs.fbMap n fun f => { f with lv := lv }).primStep n (s.fs.stnGet n).fb.lv lv = r)
    (hkeep : ∀ a, notPrim n a → r.inEff a = s.fs.inEff a) : Settles (.encoderEdge n ⟨lv, held⟩) s (r.fbStatus n) := by
  obtain ⟨hma, hea⟩ := quietRegs_notPrim n
  refine encoderEdge_settles hfit hon ?_
  rw [Tail.filtered_of_held hp ha hc]
  exact Tail.encSample_of_quiet hr hz ((congrArg (fdGet _) (hkeep _ hma)).trans hmode)
    ((congrArg (fun w => fdGet (PG_CTRL.ENABLE (stnPage n 3)) w != 0) (hkeep _ hea)).trans hoff)

end
/-! ## Hall codes (11 R427) and switches (11 R429) -/

theorem Tail.fbMap_g (t : Tail) (n : Stn) (g : Fb → Fb) (f : Fd) : (t.fbMap n g).g f = t.g f := rfl
theorem Tail.fbMap_cf (t : Tail) (n : Stn) (g : Fb → Fb) (f : Fd) : (t.fbMap n g).cf f = t.cf f := rfl

theorem Tail.fbMap_congr {t : Tail} {n : Stn} {f g : Fb → Fb} (h : f (t.stnGet n).fb = g (t.stnGet n).fb) :
    t.fbMap n f = t.fbMap n g :=
  congrArg (fun x => t.stnMap n fun s => { s with fb := x }) h

theorem hallRegs_ne (n : Stn) : (FBA_POS.POS n).addr ≠ (FBA_STAT.HALL n).addr ∧ (FBA_CFG.N n).addr ≠ (FBA_STAT.HALL n).addr
    ∧ (FBA_CFG.DIR n).addr ≠ (FBA_STAT.HALL n).addr := by
  revert n
  decide

section
variable {s : State} {n : Stn} {code : BitVec 3} {held : Nat} (hfit : s.fs.fitted n.val = true) (hon : s.fs.on 7 = true)
  (hheld : max 1 (s.fs.cf (FBA_CFG.N n)) ≤ held) (hmode : s.fs.fbaMode n = 1)
include hfit hon hheld hmode

theorem hallTaken :
    ¬ (!(s.fs.fitted n && s.fs.on 7 && s.fs.fbaMode n = 1) || decide (held < max 1 (s.fs.cf (FBA_CFG.N n)))) = true := by
  rw [decide_eq_false (Nat.not_lt.mpr hheld)]
  simp [hfit, hon, hmode]

/-- A Hall code that counts one up. -/
theorem hallChange_up (hnew : hallSector code ≠ 0) (hold : s.fs.g (FBA_STAT.SECTOR n) ≠ 0)
    (hup : (hallSector code + 6 - s.fs.g (FBA_STAT.SECTOR n)) % 6 = 1) (hdir : s.fs.cf (FBA_CFG.DIR n) = 0) :
    Settles (.hallChange n ⟨code, held⟩) s (((((((s.fs.p (FBA_STAT.HALL n) code.toNat).fbMap n (fun f =>
      { f with hallAt := none, hallLoss := false })).p (FBA_STAT.SECTOR n) (hallSector code)).pDs (FBA_POS.POS n)
        (enc 32 (s.fs.g (FBA_POS.POS n) + 1))).fbMap n (fun f =>
          { f with aux := f.aux.step 1 (s.fs.stamp (s.fs.cf (FBA_CFG.N n))) }))).fbStatus n) := by
  obtain ⟨hpos, hcfg, hdircfg⟩ := hallRegs_ne n
  have hg (x : Nat) (g : Fb → Fb) (y : Nat) :
      (((s.fs.p (FBA_STAT.HALL n) x).fbMap n g).p (FBA_STAT.SECTOR n) y).g (FBA_POS.POS n) = s.fs.g (FBA_POS.POS n) := by
    rw [Tail.g_p_ne (f := FBA_STAT.SECTOR n) _ y hpos, Tail.fbMap_g, Tail.g_p_ne _ x hpos]
  have hn (x : Nat) (g : Fb → Fb) (y : Nat) :
      (((s.fs.p (FBA_STAT.HALL n) x).fbMap n g).p (FBA_STAT.SECTOR n) y).cf (FBA_CFG.N n) = s.fs.cf (FBA_CFG.N n) := by
    rw [Tail.p_cf_ne (f := FBA_STAT.SECTOR n) _ y hcfg, Tail.fbMap_cf, Tail.p_cf_ne _ x hcfg]
  have hd (x : Nat) (g : Fb → Fb) : ((s.fs.p (FBA_STAT.HALL n) x).fbMap n g).cfb (FBA_CFG.DIR n) = false := by
    rw [Tail.cfb, Tail.fbMap_cf, Tail.p_cf_ne _ x hdircfg, hdir]
    rfl
  refine settles_of_tail _ rfl ((if_neg (hallTaken hfit hon hheld hmode)).trans ?_)
  simp [hnew, hold, hup, hg, hn, hd]
  rfl

/-- An illegal Hall code. -/
theorem hallChange_illegal (hnew : hallSector code = 0) (hat : (s.fs.stnGet n).fb.hallAt = none) :
    Settles (.hallChange n ⟨code, held⟩) s ((((((s.fs.p (FBA_STAT.HALL n) code.toNat).fbMap n (fun f => { f with hallAt := some s.fs.now })).p
      (FBA_STAT.SECTOR n) 0).inc (FBA_STAT.ERR_CNT n)).evt (stnPage n 2) 1).fbStatus n) := by
  have hmap : (s.fs.p (FBA_STAT.HALL n) code.toNat).fbMap n (fun f => { f with
        hallAt := if f.hallAt.isSome then f.hallAt else some s.fs.now })
      = (s.fs.p (FBA_STAT.HALL n) code.toNat).fbMap n (fun f => { f with hallAt := some s.fs.now }) :=
    Tail.fbMap_congr (by simp [show ((s.fs.p (FBA_STAT.HALL n) code.toNat).stnGet n).fb.hallAt = none from hat])
  refine settles_of_tail _ rfl ((if_neg (hallTaken hfit hon hheld hmode)).trans ?_)
  simp [hnew, hmap]

end
section
variable {s : State} {n : Stn} {k : Fin 4} {level : Bool} {held : Nat}

/-- The polarity of a switch. -/
theorem switchPol_eq (n : Stn) (k : Fin 4) :
    (match k with | 0 => FBA_SWCFG.POL0 n | 1 => FBA_SWCFG.POL1 n | 2 => FBA_SWCFG.POL2 n | 3 => FBA_SWCFG.POL3 n)
      = #v[FBA_SWCFG.POL0 n, FBA_SWCFG.POL1 n, FBA_SWCFG.POL2 n, FBA_SWCFG.POL3 n][k] :=
  match k with
  | 0 => rfl
  | 1 => rfl
  | 2 => rfl
  | 3 => rfl

/-- A switch that has changed is shown after its polarity (11 R429). -/
theorem switchChange_settles (hfit : s.fs.fitted n.val = true) (hon : s.fs.on 7 = true) (hen : s.fs.enabled (stnPage n 2) = true)
    (hsw : (s.fs.stnGet n).fb.sw.getLsbD k.val = !level)
    (hheld : max 1 (s.fs.cf (FBA_CFG.NSW n)) ≤ held / 2 ^ s.fs.cf (FBA_CFG.PSW n)) :
    Settles (.switchChange n k ⟨level, held⟩) s (((s.fs.fbMap n (fun f => { f with sw := f.sw ^^^ ((1 : BitVec 4) <<< k.val) })).p
      (FBA_STAT.SW n) (setBit (s.fs.g (FBA_STAT.SW n)) k.val (level != (s.fs.cf (#v[FBA_SWCFG.POL0 n, FBA_SWCFG.POL1 n,
        FBA_SWCFG.POL2 n, FBA_SWCFG.POL3 n][k]) != 0)))).evt (stnPage n 2) (4 + k.val)) := by
  refine settles_of_tail _ rfl ((if_neg ?_).trans ?_)
  · dsimp only
    rw [decide_eq_false (Nat.not_lt.mpr hheld), hsw]
    cases level <;> simp [hfit, hon, hen]
  · rw [← switchPol_eq]
    rfl

end

/-! ## What the status of the ports keeps -/

section
variable (t : Tail) {n : Stn}

theorem Tail.fbStatus_latches : t.KeepsLatches (t.fbStatus n) := fun p i h =>
  (Tail.only_setSource 8 (t.fbLossNow n) .refl).latches p i ((t.shows_fbShown n).latches p i h)

theorem Tail.fbStatus_fb : ∃ b, ((t.fbStatus n).stnGet n).fb = { (t.stnGet n).fb with lossHold := b } :=
  ⟨_, (Tail.only_setSource 8 (t.fbLossNow n) .refl).fb_eq.trans (t.shows_fbShown n).fb_eq⟩

theorem Tail.fbStatus_stnGet_ne {m : Stn} (h : m ≠ n) : (t.fbStatus n).stnGet m = t.stnGet m :=
  ((Tail.only_setSource 8 (t.fbLossNow n) .refl).stnGet_ne h).trans ((t.shows_fbShown n).stnGet_ne h)

theorem Tail.fbStatus_g_of_notShown {f : Fd} (hf : protReg n f.addr = false) (hs : notShown n f.addr) : (t.fbStatus n).g f = t.g f :=
  (t.fbStatus_g n hf).trans (congrArg (fdGet f) ((t.shows_fbShown n).reg _ hs))

theorem qerrRegs (n : Stn) : (FBP_STAT.QERR_CNT n).ok ∧ protReg n (FBP_POS.POS n).addr = false ∧ notShown n (FBP_POS.POS n).addr
    ∧ protReg n (FBP_STAT.QERR_CNT n).addr = false ∧ (FBP_POS.POS n).addr ≠ (FBP_STAT.QERR_CNT n).addr
    ∧ (FBP_POS.POS n).addr ≠ (PG_EVT.EVT (stnPage n 1)).addr ∧ (FBP_STAT.QERR_CNT n).addr ≠ (PG_EVT.EVT (stnPage n 1)).addr := by
  revert n
  decide

/-- An illegal transition, once the status of the ports has followed (11 R416, R417). -/
theorem Tail.qerr_fbStatus {lv : EncLevels} :
    let r := (((t.fbMap n fun f => { f with lv := lv }).qerr n).fbStatus n)
    r.g (FBP_POS.POS n) = t.g (FBP_POS.POS n)
      ∧ r.g (FBP_STAT.QERR_CNT n) = satInc (FBP_STAT.QERR_CNT n).width (t.g (FBP_STAT.QERR_CNT n)) ∧ r.evtBit (stnPage n 1) 0 = true
      ∧ (r.stnGet n).fb.lv = lv ∧ (r.stnGet n).fb.illegal = true ∧ (∀ m : Stn, m ≠ n → r.stnGet m = t.stnGet m) := by
  obtain ⟨hok, hprot, hshown, hprotq, hne, hevt, hevtq⟩ := qerrRegs n
  extract_lets r
  let t0 := t.fbMap n fun f => { f with lv := lv }
  let t1 := (t0.inc (FBP_STAT.QERR_CNT n)).evt (stnPage n 1) 0
  have hstn (m : Stn) : t1.stnGet m = t0.stnGet m := Tail.evt_stnGet _ _ _ m
  obtain ⟨b, hb⟩ := (t0.qerr n).fbStatus_fb (n := n)
  have hlv : (t0.stnGet n).fb.lv = lv := by simp [t0, Tail.fbMap]
  have hfb : (r.stnGet n).fb.lv = lv ∧ (r.stnGet n).fb.illegal = true := by
    unfold r
    rw [hb, Tail.qerr, Tail.fbMap, Tail.stnMap_get]
    exact ⟨(congrArg (fun x : Station => x.fb.lv) (hstn n)).trans hlv, rfl⟩
  refine ⟨?_, ?_, ?_, hfb.1, hfb.2, fun m hm => ?_⟩
  · exact (Tail.fbStatus_g_of_notShown _ hprot hshown).trans ((Tail.g_evt_ne _ _ _ hevt).trans (t0.g_p_ne _ hne))
  · refine (Tail.fbStatus_g _ n hprotq).trans ?_
    rw [(Tail.shows_fbShown _ n).status _ (by simp [keptStatus])]
    exact (Tail.g_evt_ne _ _ _ hevtq).trans (t0.g_inc hok)
  · exact Tail.fbStatus_latches _ _ _ (Tail.evt_sets _ _ (by decide))
  · refine (Tail.fbStatus_stnGet_ne _ hm).trans ?_
    exact (Tail.stnMap_get_ne _ _ _ _ (Ne.symm hm)).trans ((hstn m).trans (Tail.stnMap_get_ne _ _ _ _ (Ne.symm hm)))

end

/-- Settles O26. -/
theorem encoderAndHall : Obligations.EncoderAndHall := by
  refine ⟨fun n lv held s hfit hon hp hmode hoff hz hn ha hc => ⟨fun d hq hd => ?_, fun hq => ?_⟩,
    fun n code held s hfit hon hheld hmode hnew hold hup hdir => hallChange_up hfit hon hheld hmode hnew hold hup hdir,
    fun n code held s hfit hon hheld hmode hnew hat => hallChange_illegal hfit hon hheld hmode hnew hat,
    fun n a s hat => settles_of_tail _ rfl ?_,
    fun n k level held s hfit hon hen hsw hheld => switchChange_settles hfit hon hen hsw hheld,
    fun n lv held s hfit hon hn ha hc => encoderEdge_settles hfit hon ?_,
    fun n held s => ⟨fun code hheld => does_of_tail _ rfl (if_pos ?_), fun k level hheld => does_of_tail _ rfl (if_pos ?_)⟩⟩
  · refine encoderEdge_prim hfit hon hmode hoff hz hn ha hc (Tail.primStep_of_step hp hq hd) fun a h => ?_
    exact Tail.pDs_inEff_ne _ h.2.1
  · refine ⟨_, encoderEdge_prim hfit hon hmode hoff hz hn ha hc (Tail.primStep_of_none hp hq) fun a h => Tail.qerr_inEff h, ?_⟩
    exact Tail.qerr_fbStatus _
  · simp only [hat]
    rfl
  · rw [Tail.filtered_of_short hn ha hc, Tail.encSample_same]
  · exact Bool.or_eq_true_iff.mpr (.inr (decide_eq_true hheld))
  · exact Bool.or_eq_true_iff.mpr (.inr (decide_eq_true hheld))

end Sys2Proof.Machine
end

section
/-! Settling O27: the commands of the feedback pages and the SSI frames (11 R418 to R447). -/

namespace Sys2Proof.Machine

section
variable {t : Tail} {n : Stn}

theorem Tail.evt_inEff_ne (p i : Nat) {a : Nat} (ha : a % 256 ≠ 0x0C) : (t.evt p i).inEff a = t.inEff a :=
  Tail.inEff_of_word (t.word_evt_ne p i fun e => ha (e ▸ evt_addr_mod p)) (t.evt_late p i) (t.evt_held p i)

theorem Tail.cmpOn_of_disabled (hoff : t.enabled (stnPage n 3) = false) : t.cmpOn n = false := by simp [Tail.cmpOn, hoff]

/-- A compare whose page is disabled takes no point. -/
theorem Tail.compareCheck_of_disabled (hoff : t.enabled (stnPage n 3) = false) (p0 : Nat) : t.compareCheck n p0 = t :=
  if_pos (by simp [Tail.cmpOn_of_disabled hoff])

theorem lcmpEnable_ne (n : Stn) : (PG_CTRL.ENABLE (stnPage n 3)).addr ≠ (FBP_POS.POS n).addr
    ∧ (PG_CTRL.ENABLE (stnPage n 3)).addr % 256 ≠ 0x0C := by
  revert n
  decide

/-- A new position leaves the LCMP page disabled. -/
theorem Tail.pos_disabled (x : Nat) (g : Fb → Fb) (hoff : t.enabled (stnPage n 3) = false) :
    ((t.pDs (FBP_POS.POS n) x).fbMap n g).enabled (stnPage n 3) = false :=
  (congrArg (fun w => fdGet (PG_CTRL.ENABLE (stnPage n 3)) w != 0) (Tail.pDs_inEff_ne x (lcmpEnable_ne n).1)).trans hoff

/-- A preset while the LCMP page is disabled (11 R418, R420). -/
theorem Tail.preset_of_disabled (hoff : t.enabled (stnPage n 3) = false) :
    t.preset n = ((t.pDs (FBP_POS.POS n) (t.cf (FBP_PRESET.VALUE n))).fbMap n (fun f => { f with lossHold := false })).evt (stnPage n 1) 5 :=
  if_pos (by simp [Tail.cmpOn_of_disabled hoff])

theorem Tail.preset_disabled (hoff : t.enabled (stnPage n 3) = false) : (t.preset n).enabled (stnPage n 3) = false := by
  rw [Tail.preset_of_disabled hoff]
  exact (congrArg (fun w => fdGet (PG_CTRL.ENABLE (stnPage n 3)) w != 0) (Tail.evt_inEff_ne _ _ (lcmpEnable_ne n).2)).trans
    (Tail.pos_disabled _ _ hoff)

theorem Tail.fbpPresetCmd_of_disabled (hen : t.enabled (stnPage n 1) = true) (hoff : t.enabled (stnPage n 3) = false) :
    t.fbpPresetCmd n = (t.preset n).fbStatus n := by
  refine (if_neg (by simp [hen])).trans (congrArg (Tail.fbStatus · n) ?_)
  rw [Tail.compareCheck_of_disabled (Tail.preset_disabled hoff)]
  exact ite_self _

theorem Tail.fbMap_fb (g : Fb → Fb) : ((t.fbMap n g).stnGet n).fb = g (t.stnGet n).fb :=
  congrArg Station.fb (t.stnMap_get n _)

theorem Tail.fbMap_fbMap (g h : Fb → Fb) : (t.fbMap n g).fbMap n h = t.fbMap n fun f => h (g f) := by
  simp [Tail.fbMap, Tail.stnMap]

/-- The level of the compare output while no pulse runs (11 R442). -/
theorem Tail.cmpOut_idle : t.cmpOut n false = t.p (LCMP_STAT.CMP_OUT n) (if t.cf (LCMP_CFG.CMP_INV n) = 0 then 0 else 1) := by
  unfold Tail.cmpOut Tail.pb
  by_cases h : t.cf (LCMP_CFG.CMP_INV n) = 0
  · simp [Tail.cfb, h, b2n]
  · simp [Tail.cfb, h, b2n]

/-! ## SSI frames (11 R421 to R426) -/

/-- A frame that starts while the line is free. -/
theorem Tail.ssiStartNow_free (h : (t.stnGet n).fb.ssiFree ≤ t.now) :
    t.ssiStartNow n = t.fbMap n (fun f =>
      let bits := t.cf (FBP_SSI.LEN n) * t.ssiDiv n * 4
      { f with
        ssiLast := t.now, ssiStart := some (t.now + bits)
        ssiFree := t.now + bits + (t.cf (FBP_SSICLK.MONO n) + 1) * us1, ssiFt := t.ftFb.toNat }) := by
  have hfree : ¬ (t.fbMap n fun f => { f with ssiLast := t.now }).now
      < ((t.fbMap n fun f => { f with ssiLast := t.now }).stnGet n).fb.ssiFree := by
    rw [Tail.fbMap_fb]
    exact Nat.not_lt.mpr h
  exact (if_neg hfree).trans (Tail.fbMap_fbMap _ _)

/-- A frame that would start before the line is free. -/
theorem Tail.ssiStartNow_busy (h : t.now < (t.stnGet n).fb.ssiFree) :
    t.ssiStartNow n =
      ((t.fbMap n fun f => { f with ssiLast := t.now, ssiSkip := true }).inc (FBP_SSICNT.SKIP n)).evt (stnPage n 1) 4 := by
  have hbusy : (t.fbMap n fun f => { f with ssiLast := t.now }).now
      < ((t.fbMap n fun f => { f with ssiLast := t.now }).stnGet n).fb.ssiFree := by
    rw [Tail.fbMap_fb]
    exact h
  refine (if_pos hbusy).trans ?_
  rw [Tail.fbMap_fbMap]

/-- The first good frame gives the position (11 R424, R425). -/
theorem Tail.ssiGoodFrame_first (v : Nat) (h : (t.stnGet n).fb.ssiField = none) :
    t.ssiGoodFrame n v = (t.pDs (FBP_POS.POS n) v).fbMap n (fun f => { f with ssiField := some v, ssiRun := 0, ssiGood := true }) := by
  unfold Tail.ssiGoodFrame
  simp only [h, if_true]

end

/-- Time until the end of an SSI frame passes. -/
def Tail.ssiEnded (t : Tail) (n : Stn) (d : Nat) : Tail := (t.elapse (d - t.now)).fbMap n (fun f => { f with ssiStart := none })

/-- A frame whose end has come is taken (11 R423 to R425), the data lines without a loss. -/
def Tail.ssiTaken (t : Tail) (n : Stn) (bits : List Bool) (pbHigh : Bool) : Tail :=
  let len := t.cf (FBP_SSI.LEN n)
  let l := (bits ++ List.replicate len false).take len
  let bad := !pbHigh || !parityOk (t.cf (FBP_SSI.PAR n)) l || t.primLost n % 4 != 0
  let k := t.cf (FBP_SSI.POS_BITS n)
  let v := (bitsVal l >>> t.cf (FBP_SSI.POS_SHIFT n)) % 2 ^ k
  let v := if t.cfb (FBP_SSI.GRAY n) then grayDecode k v else v
  let p0 := t.g (FBP_POS.POS n)
  if bad
    then ((t.fbMap n (fun f => { f with ssiRun := f.ssiRun + 1, ssiGood := false })).inc (FBP_SSICNT.ERR n)).evt (stnPage n 1) 2
    else (t.ssiGoodFrame n v).compareCheck n p0

section
variable {t : Tail} {n : Stn} {d : Nat} {bits : List Bool}

@[simp] theorem Tail.ssiEnded_cf (f : Fd) : (t.ssiEnded n d).cf f = t.cf f := Tail.elapse_cf t _ f

theorem Tail.ssiEnded_fb : ((t.ssiEnded n d).stnGet n).fb = { (t.stnGet n).fb with ssiStart := none } := by
  rw [Tail.ssiEnded, Tail.fbMap_fb, Tail.elapse_stnGet]

theorem Tail.ssiEnded_primLost : (t.ssiEnded n d).primLost n = t.primLost n := by
  simp [Tail.primLost, Tail.lostPairs, Tail.ssiEnded_fb, Tail.enabled, Tail.cfb]

/-- The first good frame gives the position. -/
theorem Tail.ssiTaken_first (hlen : bits.length = t.cf (FBP_SSI.LEN n)) (hpar : t.cf (FBP_SSI.PAR n) = 0)
    (hgray : t.cf (FBP_SSI.GRAY n) = 0) (hlost : t.primLost n % 4 = 0) (hfield : (t.stnGet n).fb.ssiField = none)
    (hoff : t.enabled (stnPage n 3) = false) :
    let v := (bitsVal bits >>> t.cf (FBP_SSI.POS_SHIFT n)) % 2 ^ t.cf (FBP_SSI.POS_BITS n)
    t.ssiTaken n bits true =
      (t.pDs (FBP_POS.POS n) v).fbMap n (fun f => { f with ssiField := some v, ssiRun := 0, ssiGood := true }) := by
  intro v
  have htake : (bits ++ List.replicate (t.cf (FBP_SSI.LEN n)) false).take (t.cf (FBP_SSI.LEN n)) = bits := by
    rw [← hlen, List.take_left]
  have hcfb : ¬ t.cfb (FBP_SSI.GRAY n) = true := by simp [Tail.cfb, hgray]
  unfold Tail.ssiTaken
  dsimp only
  rw [htake, if_neg hcfb, hpar, hlost, if_neg (by simp [parityOk]), Tail.ssiGoodFrame_first _ hfield,
    Tail.compareCheck_of_disabled (Tail.pos_disabled v _ hoff)]

end

/-- The end of a frame (11 R423). -/
theorem ssiFrameEnd_settles {n : Stn} {d : Nat} {bits : List Bool} {pbHigh : Bool} {s : State}
    (hstart : (s.fs.stnGet n).fb.ssiStart = some d) :
    Settles (.ssiFrameEnd n bits pbHigh) s (((s.fs.ssiEnded n d).ssiTaken n bits pbHigh).fbStatus n) := by
  refine settles_of_tail _ rfl ?_
  simp only [hstart]
  rfl

/-- Settles O27. -/
theorem feedbackCommandsAndSsi : Obligations.FeedbackCommandsAndSsi := by
  refine ⟨fun n s hfit hon hen hoff => settles_of_tail _ rfl ?_, fun n s hfit hon hen => does_of_tail _ rfl ?_,
    fun n s hfit hon hen hcont => does_of_tail _ rfl ?_, fun n s hfit hon hen => does_of_tail _ rfl ?_,
    fun n d s hpulse => does_of_tail _ rfl ?_, fun n s hfit hon7 hon6 hrun hmode => ?_,
    fun n d bits s hstart => ssiFrameEnd_settles hstart, fun n d bits s hstart hlen hpar hgray hlost hfield hoff => ?_⟩
  · refine (if_pos (by simp [hfit, hon])).trans (congrArg Tail.finish ?_)
    rw [Tail.fbpPresetCmd_of_disabled hen hoff, Tail.preset_of_disabled hoff]
  · exact (if_pos (by simp [hfit, hon])).trans (if_pos hen)
  · exact (if_pos (by simp [hfit, hon])).trans (if_pos (by simp [hen, Tail.cfb, hcont]))
  · exact (if_pos (by simp [hfit, hon])).trans (if_pos hen)
  · simp only [hpulse]
    rw [Tail.cmpOut_idle, Tail.fbMap_cf, Tail.elapseTo, Tail.elapse_cf]
  · intro t bits
    have hdue : (s.fs.fitted n && s.fs.on 7 && s.fs.on 6 && s.fs.clk.ftRun && decide (s.fs.fbpMode n = 2)) = true := by
      simp [hfit, hon7, hon6, hrun, hmode]
    have hfree : (t.stnGet n).fb.ssiFree = (s.fs.stnGet n).fb.ssiFree := by rw [Tail.elapse_stnGet]
    refine ⟨fun h => settles_of_tail _ rfl ((if_pos hdue).trans (congrArg Tail.finish ?_)),
      fun h => settles_of_tail _ rfl ((if_pos hdue).trans (congrArg Tail.finish ?_))⟩
    · rw [Tail.ssiStartNow_free (hfree ▸ h)]
      simp only [Tail.ssiDiv, Tail.elapse_cf]
      rfl
    · exact Tail.ssiStartNow_busy (hfree ▸ h)
  · have h := Tail.ssiTaken_first (t := s.fs.ssiEnded n d) (n := n) (bits := bits) (by rw [Tail.ssiEnded_cf, hlen])
      (by rw [Tail.ssiEnded_cf, hpar]) (by rw [Tail.ssiEnded_cf, hgray]) (by rw [Tail.ssiEnded_primLost, hlost])
      (by rw [Tail.ssiEnded_fb, hfield]) (by rw [Tail.enabled, Tail.cfb, Tail.ssiEnded_cf]; exact hoff)
    have hend := ssiFrameEnd_settles (bits := bits) (pbHigh := true) hstart
    rw [h, Tail.ssiEnded_cf, Tail.ssiEnded_cf] at hend
    exact hend

end Sys2Proof.Machine
end

section
/-! Settling O22: the STO channels with their watches, and the emergency stop input (18 R674 to R681). -/

namespace Sys2Proof.Machine

/-- A latch does not look at the safety inputs. -/
theorem Tail.evt_withSto (t : Tail) (p i : Nat) (x : Sto) : { t.evt p i with sto := x } = ({ t with sto := x } : Tail).evt p i := by
  unfold Tail.evt Tail.evtV
  split
  · next h => exact (if_pos h).symm
  · next h => exact (if_neg h).symm

theorem Tail.withSto_g (t : Tail) (x : Sto) (f : Fd) : ({ t with sto := x } : Tail).g f = t.g f := rfl

theorem Tail.elapseTo_sto (t : Tail) (d : Nat) : (t.elapseTo d).sto = t.sto := by rw [Tail.elapseTo, Tail.elapse_eq]

theorem Tail.evt_sto (t : Tail) (p i : Nat) : (t.evt p i).sto = t.sto := by
  unfold Tail.evt Tail.evtV
  exact (apply_ite (fun r : Tail => r.sto) _ _ _).trans (ite_self _)

theorem Tail.evt_now (t : Tail) (p i : Nat) : (t.evt p i).now = t.now := by
  unfold Tail.evt Tail.evtV
  exact (apply_ite (fun r : Tail => r.now) _ _ _).trans (ite_self _)

theorem stoCfg_ne : (STO_CFG.TDISC).addr ≠ (STO_CNT.DEMANDS).addr ∧ (STO_CFG.TDISC).addr % 256 ≠ 0x0C := by decide

/-- The watch on a difference of the channels begins after a demand is counted and latched (18 R678). -/
theorem Tail.discWatch_of_demand {t : Tail} (hne : t.sto.a ≠ t.sto.b) (hnone : t.sto.discT = none) :
    ((t.inc STO_CNT.DEMANDS).evt 0x23 0).discWatch = (({ t with sto := { t.sto with
      discT := some (t.now + clampN 1 100 (t.cf STO_CFG.TDISC) * 4000000) } } : Tail).inc STO_CNT.DEMANDS).evt 0x23 0 := by
  have hsto : ((t.inc STO_CNT.DEMANDS).evt 0x23 0).sto = t.sto := Tail.evt_sto _ _ _
  have hend : ((t.inc STO_CNT.DEMANDS).evt 0x23 0).discEnd = some (t.now + clampN 1 100 (t.cf STO_CFG.TDISC) * 4000000) := by
    have hcf : ((t.inc STO_CNT.DEMANDS).evt 0x23 0).cf STO_CFG.TDISC = t.cf STO_CFG.TDISC :=
      congrArg (fdGet _) ((Tail.evt_inEff_ne _ _ stoCfg_ne.2).trans (t.p_inEff_ne _ stoCfg_ne.1))
    have hnow : ((t.inc STO_CNT.DEMANDS).evt 0x23 0).now = t.now := Tail.evt_now _ _ _
    rw [Tail.discEnd, hcf, hnow, Nat.mul_assoc]
    rfl
  unfold Tail.discWatch
  rw [hsto, if_neg hne, hnone, hend]
  exact Tail.evt_withSto _ _ _ _

section
variable {s : State}

/-- A demand on channel A while both channels are energized (18 R674 to R678). -/
theorem stoDemand_settles {us : Nat} (hpd : s.fs.pd 3 = true) (hus : s.fs.stoFilter ≤ us) (ha : s.fs.sto.a = true)
    (hb : s.fs.sto.b = true) (hdisc : s.fs.sto.discT = none) :
    Settles (.stoDemand false us) s (Tail.setSourceAll (Tail.ascOverride ((({ s.fs with sto := { s.fs.sto with
      a := false, blockSto := true, readT := some (s.fs.now + 4000)
      ran := s.fs.sto.ran ||| s.fs.stns.foldl (fun m n =>
        if (s.fs.stnGet n).sq.st.isRunning then m ||| ((1 : BitVec 4) <<< n.val) else m) 0
      discT := some (s.fs.now + clampN 1 100 (s.fs.cf STO_CFG.TDISC) * 4000000) } } : Tail).inc STO_CNT.DEMANDS).evt 0x23 0)) 9 true) := by
  refine settles_of_tail _ rfl ((if_neg (by simp [ha, hpd])).trans ((if_neg (Nat.not_lt.mpr hus)).trans ?_))
  let t : Tail := { s.fs with sto := { s.fs.sto with
      a := false, blockSto := true, readT := some (s.fs.now + 4000)
      ran := s.fs.sto.ran ||| s.fs.stns.foldl (fun m n =>
        if (s.fs.stnGet n).sq.st.isRunning then m ||| ((1 : BitVec 4) <<< n.val) else m) 0 } }
  have hwatch : ((t.inc STO_CNT.DEMANDS).evt 0x23 0).discWatch = _ :=
    Tail.discWatch_of_demand (by simp [t, hb]) hdisc
  rw [← show t.cf STO_CFG.TDISC = s.fs.cf STO_CFG.TDISC from rfl]
  refine congrArg (fun x : Tail => (Tail.setSourceAll x.ascOverride 9 true).finish) (Eq.trans ?_ hwatch)
  simp [ha, hb, t, Tail.after, us1]

end

/-- Settles O22. -/
theorem safetyInputs : Obligations.SafetyInputs := by
  refine ⟨fun us s hpd hus ha hb hdisc => stoDemand_settles hpd hus ha hb hdisc, fun us s hpd ha hus => does_of_tail _ rfl ?_,
    fun s hpd ha hb hran => settles_of_tail _ rfl ?_, fun s hpd ha hb hran => settles_of_tail _ rfl ?_,
    fun d b s hread ha => settles_of_tail _ rfl ?_, fun d s hdisc hshown => settles_of_tail _ rfl ?_,
    fun s hpd hn hcat => settles_of_tail _ rfl ?_, fun s hpd hn hcat => settles_of_tail _ rfl ?_,
    fun d s hback => settles_of_tail _ rfl ?_, fun s hpd hn => settles_of_tail _ rfl ?_, fun n t h => ?_⟩
  · exact (if_neg (by simp [ha, hpd])).trans (if_pos hus)
  · refine (if_neg (by simp [hpd, hb])).trans ?_
    simp [Tail.discWatch, Tail.stoRelease, ha, hran]
  · replace hran : ¬ s.fs.sto.ran = 0#4 := hran
    refine (if_neg (by simp [hpd, hb])).trans ?_
    simp [Tail.discWatch, Tail.stoRelease, ha, hran]
  · simp only [hread]
    exact (if_pos (by simp [ha])).trans rfl
  · simp only [hdisc]
    refine (if_neg (by rw [Tail.b, Tail.withSto_g, Tail.elapseTo_g, hshown]; decide)).trans ?_
    rw [Tail.elapseTo_sto, Tail.elapseTo]
  · refine (if_neg (by simp [hn, hpd])).trans ?_
    simp [Tail.cfb, hcat]
  · refine (if_neg (by simp [hn, hpd])).trans ?_
    simp [Tail.cfb, hcat, ms1, us1]
  · simp only [hback]
    rw [Tail.elapseTo_sto, Tail.elapseTo]
  · exact (if_neg (by simp [hn, hpd])).trans rfl
  · rcases h with h | h | h <;> simp [Tail.hardBlocked, h]

end Sys2Proof.Machine
end

section
/-! Settling O20: the declaration of Eclipse, and the discrepancy of the lever channels (22 R770 to R783). -/

namespace Sys2Proof.Machine

section
variable (t : Tail)

theorem Tail.withEmg_g (x : Emg) (f : Fd) : ({ t with emg := x } : Tail).g f = t.g f := rfl

theorem Tail.leverWaited_stns (d : Nat) (x : Emg) : ({ t.elapse d with emg := x } : Tail).stns = t.stns := by
  rw [Tail.elapse_eq]
  rfl

theorem Tail.evt_us (p i : Nat) : (t.evt p i).us = t.us := by
  unfold Tail.evt Tail.evtV
  exact (apply_ite (fun r : Tail => r.us) _ _ _).trans (ite_self _)

theorem Tail.evt_emg (p i : Nat) : (t.evt p i).emg = t.emg := by
  unfold Tail.evt Tail.evtV
  exact (apply_ite (fun r : Tail => r.emg) _ _ _).trans (ite_self _)

/-- The declaration itself: latched and counted (22 R776). -/
def Tail.eclipseDeclared : Tail := (({ t with emg := { t.emg with declared := true } } : Tail).evt 0x24 0).inc EMG_CNT.ECLIPSES

theorem Tail.eclipseDeclared_us : t.eclipseDeclared.us = t.us := Tail.evt_us _ _ _
theorem Tail.eclipseDeclared_emg : t.eclipseDeclared.emg = { t.emg with declared := true } := Tail.evt_emg _ _ _

theorem Tail.eclipseDeclared_evtBit : t.eclipseDeclared.evtBit 0x24 0 = true :=
  (Tail.KeepsLatches.refl _).p _ (by decide) _ _ (Tail.evt_sets _ _ (by decide))

theorem Tail.eclipseDeclared_count : t.eclipseDeclared.g EMG_CNT.ECLIPSES = satInc EMG_CNT.ECLIPSES.width (t.g EMG_CNT.ECLIPSES) := by
  have hg : (Tail.evt { t with emg := { t.emg with declared := true } } 0x24 0).g EMG_CNT.ECLIPSES = t.g EMG_CNT.ECLIPSES :=
    Tail.g_evt_ne _ _ _ (by decide)
  exact (Tail.g_inc _ (by decide)).trans (congrArg _ hg)

/-- In BOOT and in FAULT the declaration is all. -/
theorem Tail.declareEclipse_still (h : t.us = .boot ∨ t.us = .fault) : t.declareEclipse = t.eclipseDeclared := by
  refine if_neg ?_
  have hus := t.eclipseDeclared_us
  unfold Tail.eclipseDeclared at hus
  rw [hus]
  rcases h with h | h <;> simp [h]

end

/-- `r` is in ECLIPSE, with the detector, the latches and the count of `t`. -/
structure Tail.Eclipsed (t r : Tail) : Prop where
  us : r.us = .eclipse
  emg : r.emg = t.emg
  latches : t.KeepsLatches r
  count : r.g EMG_CNT.ECLIPSES = t.g EMG_CNT.ECLIPSES

section
variable {o t : Tail}

theorem Tail.eclipsed_setUnit (t : Tail) (h : t.us ≠ .eclipse) : t.Eclipsed (t.setUnit .eclipse) := by
  have hset : t.setUnit .eclipse =
      { (t.p DEV_STATE.PREV t.us.code).p SEQ_STAT.PREV_STATE t.us.code with us := .eclipse } := if_neg h
  have hlatch : t.KeepsLatches ((t.p DEV_STATE.PREV t.us.code).p SEQ_STAT.PREV_STATE t.us.code) :=
    ((Tail.KeepsLatches.refl t).p _ (by decide)).p _ (by decide)
  rw [hset]
  exact ⟨rfl, rfl, hlatch.of_regs rfl rfl,
    ((t.p DEV_STATE.PREV t.us.code).g_p_ne _ (by decide)).trans (t.g_p_ne _ (by decide))⟩

theorem Tail.Eclipsed.grpLinkLoss (g : Fin 2) (ecl : Bool) (h : o.Eclipsed t) : o.Eclipsed (t.grpLinkLoss g ecl) := by
  obtain ⟨hlatch, hne⟩ : notLatch (PCHG_GSTAT.CAUSE g.val).addr = true ∧ EMG_CNT.ECLIPSES.addr ≠ (PCHG_GSTAT.CAUSE g.val).addr := by
    revert g
    decide
  unfold Tail.grpLinkLoss
  dsimp only
  split
  · have hmap : o.KeepsLatches (t.grpMap g fun x => { x with st := .aborted, wait := none, dwell := false }) := h.latches.of_regs rfl rfl
    exact ⟨h.us, h.emg, hmap.p _ hlatch, (Tail.g_p_ne _ _ hne).trans h.count⟩
  · exact h

theorem Tail.Eclipsed.sqMap (n : Stn) (f : Sq → Sq) (h : o.Eclipsed t) : o.Eclipsed (t.sqMap n f) :=
  ⟨h.us, h.emg, h.latches.of_regs rfl rfl, h.count⟩

/-- A unit in RUN goes to ECLIPSE (22 R778, R783). -/
theorem Tail.declareEclipse_run (t : Tail) (h : t.us = .run) : t.eclipseDeclared.Eclipsed t.declareEclipse := by
  have hus : t.eclipseDeclared.us = .run := t.eclipseDeclared_us.trans h
  have hrun : t.declareEclipse =
      (let r := (List.finRange 2).foldl (fun t (g : Fin 2) => t.grpLinkLoss g true) (t.eclipseDeclared.setUnit .eclipse)
       r.stns.foldl (fun t n => if (t.stnGet n).sq.st = .magnetizing then t.sqMap n (fun s => { s with abandon := true }) else t) r) := by
    refine if_pos ?_
    unfold Tail.eclipseDeclared at hus
    rw [hus]
    decide
  rw [hrun]
  refine List.foldlRecOn _ _ (List.foldlRecOn _ _ (Tail.eclipsed_setUnit _ (by simp [hus])) fun r hr g _ => hr.grpLinkLoss g true)
    fun r hr n _ => ?_
  split
  · exact hr.sqMap _ _
  · exact hr

end

/-! ## The commands -/

section
variable {s : State}

theorem eclipse_settles (hpd : s.fs.pd 3 = true) (harm : s.fs.emg.armed = true) (hdecl : s.fs.emg.declared = false) :
    Settles .eclipse s (s.fs.elapseTo (s.fs.emg.lastAt + s.fs.hbPeriod)).declareEclipse :=
  settles_of_tail _ rfl (if_pos (by simp [hpd, harm, hdecl]))

end

/-- Settles O20. -/
theorem lostHost : Obligations.LostHost := by
  refine ⟨fun s hpd harm hdecl hus => ?_, fun s hpd harm hdecl hus => ?_, fun n d s hdisc hlever hshown => ?_,
    fun n d s hdisc hlever hshown => ?_⟩
  · have h := eclipse_settles hpd harm hdecl
    rw [Tail.declareEclipse_still _ (by rwa [Tail.elapseTo, Tail.elapse_us]), Tail.eclipseDeclared, Tail.elapseTo, Tail.elapse_emg] at h
    exact h
  · let t := s.fs.elapseTo (s.fs.emg.lastAt + s.fs.hbPeriod)
    obtain ⟨h1, h2, h3, h4⟩ := t.declareEclipse_run ((Tail.elapse_us _ _).trans hus)
    refine ⟨_, eclipse_settles hpd harm hdecl, h1, ?_, h3 _ _ t.eclipseDeclared_evtBit, ?_⟩
    · rw [h2, Tail.eclipseDeclared_emg, show t.emg = s.fs.emg from Tail.elapse_emg _ _]
    · rw [h4, Tail.eclipseDeclared_count, Tail.elapseTo_g]
  · refine does_of_tail _ rfl ?_
    simp only [hdisc, hlever]
    rw [Tail.elapseTo, Tail.elapse_emg]
    refine (if_neg (by decide)).trans (if_pos ?_)
    rw [Tail.b, Tail.withEmg_g, Tail.elapse_g, hshown]
    decide
  · refine settles_of_tail _ rfl ?_
    simp only [hdisc, hlever]
    rw [Tail.elapseTo, Tail.elapse_emg]
    refine (if_neg (by decide)).trans ((if_neg ?_).trans ?_)
    · rw [Tail.b, Tail.withEmg_g, Tail.elapse_g, hshown]
      decide
    · rw [Tail.leverWaited_stns]

end Sys2Proof.Machine
end

section
/-! A station that protection has taken to FAULTED with its gates off, and what the end of a step leaves of it (18 R658, R667). -/

namespace Sys2Proof.Machine

/-! ## The modulation of a station under other operations -/

section
variable (t : Tail) (n : Stn)

@[simp] theorem Tail.p_stnGet (f : Fd) (x : Nat) (m : Stn) : (t.p f x).stnGet m = t.stnGet m := rfl

theorem Tail.renderStop_modu : ((t.renderStop n).stnGet n).modu = (t.stnGet n).modu := by
  unfold Tail.renderStop
  split
  · rfl
  · rw [Tail.evt_stnGet]
    simp [Tail.setpMap]

theorem Tail.renderStop_sq : ((t.renderStop n).stnGet n).sq = (t.stnGet n).sq := by
  unfold Tail.renderStop
  split
  · rfl
  · rw [Tail.evt_stnGet]
    simp [Tail.setpMap]

theorem Tail.swapTo_stnGet (cur so : Option Bool) (src bit : Nat) (m : Stn) : (t.swapTo n cur so src bit).stnGet m = t.stnGet m := by
  unfold Tail.swapTo
  extract_lets c s
  split
  · rfl
  · exact Tail.evt_stnGet _ _ _ _

theorem Tail.swapHost_stnGet (m : Stn) : (t.swapHost n).stnGet m = t.stnGet m := by
  unfold Tail.swapHost
  split
  · rfl
  · exact Tail.swapTo_stnGet _ _ _ _ _ _ _

theorem Tail.banksIdle_stn : ((t.banksIdle n).stnGet n).modu = (t.stnGet n).modu ∧ ((t.banksIdle n).stnGet n).sq = (t.stnGet n).sq := by
  unfold Tail.banksIdle
  rw [Tail.swapHost_stnGet]
  simp [Tail.banksMap]

theorem Tail.setSt_modu (st : StnSt) : ((t.setSt n st).stnGet n).modu = (t.stnGet n).modu := by
  unfold Tail.setSt
  split
  · rfl
  · rw [Tail.sqMap, Tail.stnMap_get]
    rfl

theorem Tail.setSt_st (st : StnSt) : ((t.setSt n st).stnGet n).sq.st = st := by
  unfold Tail.setSt
  split
  · assumption
  · rw [Tail.sqMap, Tail.stnMap_get]

theorem prev_ok (n : Stn) : (STN_STAT.PREV n).ok := by revert n; decide

theorem stnCode_lt (st : StnSt) : st.code < 2 ^ 8 := by cases st <;> decide

/-- The station status keeps what it was in when it changes state. -/
theorem Tail.setSt_prev {st : StnSt} (h : (t.stnGet n).sq.st ≠ st) : (t.setSt n st).g (STN_STAT.PREV n) = (t.stnGet n).sq.st.code := by
  have hset : t.setSt n st = (t.p (STN_STAT.PREV n) (t.stnGet n).sq.st.code).sqMap n fun s => { s with st := st } := if_neg h
  rw [hset]
  exact (t.g_p _ (prev_ok n)).trans (Nat.mod_eq_of_lt (show _ < 2 ^ 8 from stnCode_lt _))

end

/-! ## A station FAULTED with its gates off -/

/-- Station `n` is FAULTED with its gates off and no more than the inner switches of its NPC legs commanded on; its block of the hardware
path and its status are as given. -/
structure Tail.Down (n : Stn) (hw : Bool) (status : Word) (t : Tail) : Prop where
  st : (t.stnGet n).sq.st = .faulted
  gate : (t.stnGet n).modu.gate = .off
  hwBlock : (t.stnGet n).modu.hwBlock = hw
  cmd : (t.stnGet n).modu.cmd &&& ~~~(npcS2 ||| npcS3) = 0
  status : t.word (STN_STAT.PREV n).addr = status

section
variable {n : Stn} {hw : Bool} {w : Word} {t r : Tail}

theorem Tail.Down.of_same (h : t.Down n hw w) (hs : r.stnGet n = t.stnGet n)
    (hw' : r.word (STN_STAT.PREV n).addr = t.word (STN_STAT.PREV n).addr) : r.Down n hw w :=
  ⟨by rw [hs, h.st], by rw [hs, h.gate], by rw [hs, h.hwBlock], by rw [hs, h.cmd], by rw [hw', h.status]⟩

/-- What another station's protection touches leaves it. -/
theorem Tail.Down.only {m : Stn} (hm : n ≠ m) (h : t.Down n hw w) (ho : t.Only m r) : r.Down n hw w := by
  have hreg : ∀ n m : Stn, n ≠ m → protReg m (STN_STAT.PREV n).addr = false := by decide
  exact h.of_same (ho.stnGet_ne hm) (ho.reg _ (hreg n m hm))

theorem Tail.Down.p (f : Fd) (x : Nat) (hf : (STN_STAT.PREV n).addr ≠ f.addr) (h : t.Down n hw w) : (t.p f x).Down n hw w :=
  h.of_same rfl (t.word_p_ne x hf)

theorem prev_not_evt (n : Stn) : (STN_STAT.PREV n).addr % 256 ≠ 0x0C := by revert n; decide

theorem Tail.Down.evt (p i : Nat) (h : t.Down n hw w) : (t.evt p i).Down n hw w :=
  h.of_same (t.evt_stnGet p i n) (t.word_evt_ne p i fun e => prev_not_evt n ((congrArg (· % 256) e).trans (evt_addr_mod p)))

/-! ## The gates -/

/-- No more than the inner switches of the NPC legs stays commanded on once the gates are blocked (17 R645). -/
theorem cmd_of_kept (a k : BitVec 13) : ((a &&& ~~~(a &&& ~~~(a &&& k))) ||| 0#13) &&& ~~~k = 0#13 := by
  ext i hi
  rw [BitVec.or_zero]
  simp only [BitVec.getElem_and, BitVec.getElem_not, BitVec.getElem_zero]
  generalize a[i] = x, k[i] = y
  revert x y
  decide

theorem cmd_of_none (a k : BitVec 13) : ((a &&& ~~~(a &&& ~~~0#13)) ||| 0#13) &&& ~~~k = 0#13 := by
  ext i hi
  rw [BitVec.or_zero]
  simp only [BitVec.getElem_and, BitVec.getElem_not, BitVec.getElem_zero]
  generalize a[i] = x, k[i] = y
  revert x y
  decide

/-- The modulation `m` with its gates blocked but for `keep` (17 R645). -/
def Modu.blocked (m : Modu) (keep : BitVec 13) (now : Nat) : Modu :=
  if m.innerT.isSome && keep = m.cmd then { m with want := 0 }
  else { m.edges (m.cmd &&& ~~~keep) 0 now with
    want := 0, skip := 0, chopOnAt := none, innerT := if keep = 0 then none else some (now + 200) }

theorem Tail.blockGates_eq (t : Tail) (n : Stn) : t.blockGates n = t.moduMap n fun m =>
    m.blocked (if t.cfb (MOD_CFG.TOPO n) then m.cmd &&& (npcS2 ||| npcS3) else 0) t.now := rfl

theorem Modu.blocked_gate (m : Modu) (keep : BitVec 13) (now : Nat) : (m.blocked keep now).hwBlock = m.hwBlock
    ∧ (m.blocked keep now).gate = m.gate := by
  unfold Modu.blocked
  split
  · exact ⟨rfl, rfl⟩
  · exact ⟨rfl, rfl⟩

theorem Modu.blocked_cmd {m : Modu} {keep k : BitVec 13} (now : Nat) (h : keep = m.cmd &&& k ∨ keep = 0) :
    (m.blocked keep now).cmd &&& ~~~k = 0 := by
  unfold Modu.blocked
  split
  · next hkeep =>
    obtain ⟨-, hkeep⟩ := Bool.and_eq_true_iff.mp hkeep
    replace hkeep : keep = m.cmd := of_decide_eq_true hkeep
    show m.cmd &&& ~~~k = 0
    rw [← hkeep]
    rcases h with h | h
    · rw [h, BitVec.and_assoc, BitVec.and_not_self]
      exact BitVec.and_zero
    · rw [h]
      exact BitVec.zero_and
  · rcases h with rfl | rfl
    · exact cmd_of_kept _ _
    · exact cmd_of_none _ _

/-- The modulation of a station whose gates are blocked. -/
theorem Tail.blockGates_modu (t : Tail) (n : Stn) : ((t.blockGates n).stnGet n).modu.hwBlock = (t.stnGet n).modu.hwBlock
    ∧ ((t.blockGates n).stnGet n).modu.gate = (t.stnGet n).modu.gate
    ∧ ((t.blockGates n).stnGet n).modu.cmd &&& ~~~(npcS2 ||| npcS3) = 0 := by
  rw [Tail.blockGates_eq, Tail.moduMap, Tail.stnMap_get]
  refine ⟨(Modu.blocked_gate _ _ _).1, (Modu.blocked_gate _ _ _).2, Modu.blocked_cmd _ ?_⟩
  split
  · exact .inl rfl
  · exact .inr rfl

theorem Tail.gatesOn_of_faulted (h : (t.stnGet n).sq.st = .faulted) : t.gatesOn n = false := by
  unfold Tail.gatesOn
  rw [h]
  simp [StnSt.isRunning]

/-- The update of the gates of a FAULTED station out of the active short circuit (10 R366). -/
theorem Tail.gateUpdate_modu_of_faulted (hst : (t.stnGet n).sq.st = .faulted) (hasc : (t.stnGet n).modu.gate ≠ .asc) :
    ((t.gateUpdate n).stnGet n).modu.hwBlock = (t.stnGet n).modu.hwBlock ∧ ((t.gateUpdate n).stnGet n).modu.gate = .off
      ∧ ((t.gateUpdate n).stnGet n).modu.cmd &&& ~~~(npcS2 ||| npcS3) = 0 := by
  unfold Tail.gateUpdate
  rw [Tail.gatesOn_of_faulted hst]
  extract_lets m next t1
  have hnext : next = .off := by simp [next, m, hasc]
  have h1 : (t1.stnGet n).modu.hwBlock = (t.stnGet n).modu.hwBlock ∧ (t1.stnGet n).modu.gate = .off
      ∧ (t1.stnGet n).modu.cmd = m.cmd := by
    unfold t1
    split
    · next hsame => exact ⟨rfl, hsame.trans hnext, rfl⟩
    · simp [Tail.moduMap, hnext, m]
  obtain ⟨hhw, hgate, hcmd⟩ := h1
  rw [hnext]
  refine if_pos (c := (decide (Gate.off = Gate.off) || t1.hardBlocked n) = true) (by simp) ▸ ?_
  split
  · next hzero =>
    obtain ⟨hzero, -⟩ := Bool.and_eq_true_iff.mp hzero
    refine ⟨hhw, hgate, ?_⟩
    rw [hcmd, of_decide_eq_true hzero]
    exact BitVec.zero_and
  · obtain ⟨hb, hg, hc⟩ := t1.blockGates_modu n
    exact ⟨hb.trans hhw, hg.trans hgate, hc⟩

theorem Tail.Down.gateUpdate (m : Stn) (h : t.Down n hw w) : (t.gateUpdate m).Down n hw w := by
  by_cases hm : n = m
  · subst hm
    obtain ⟨hhw, hgate, hcmd⟩ := Tail.gateUpdate_modu_of_faulted h.st (by simp [h.gate])
    have hsteady := t.gateUpdate_steady n n
    have hsq : ((t.gateUpdate n).stnGet n).sq = (t.stnGet n).sq := congrArg (·.1) hsteady
    have hword : (t.gateUpdate n).word (STN_STAT.PREV n).addr = t.word (STN_STAT.PREV n).addr := congrArg (·.2.2.1) hsteady
    exact ⟨by rw [hsq, h.st], hgate, hhw.trans h.hwBlock, hcmd, hword.trans h.status⟩
  · exact h.only hm (Tail.only_gateUpdate .refl)

/-! ## The end of a step -/

theorem Tail.Down.diagReturn (m : Stn) (h : t.Down n hw w) : (t.diagReturn m).Down n hw w := by
  by_cases hm : n = m
  · subst hm
    have hno : t.diagReturn n = t := if_neg (by simp [h.st])
    rwa [hno]
  · exact h.only hm (Tail.only_diagReturn .refl)

theorem Tail.Down.settleStn (m : Stn) (h : t.Down n hw w) : (t.settleStn m).Down n hw w := by
  by_cases hm : n = m
  · subst hm
    have hno : t.settleStn n = t := by
      unfold Tail.settleStn
      simp [h.st]
    rwa [hno]
  · exact h.only hm (Tail.only_settleStn .refl)

theorem Tail.Down.enterFaulted (m : Stn) (c : Nat) (h : t.Down n hw w) : (t.enterFaulted m c).Down n hw w := by
  by_cases hm : n = m
  · subst hm
    have hno : t.enterFaulted n c = t := if_pos h.st
    rwa [hno]
  · exact h.only hm (Tail.only_enterFaulted _ .refl)

/-- The registers of the unit's states are not the station's status. -/
theorem prev_ne (n : Stn) : (STN_STAT.PREV n).addr ≠ DEV_STATE.PREV.addr ∧ (STN_STAT.PREV n).addr ≠ SEQ_STAT.PREV_STATE.addr
    ∧ (STN_STAT.PREV n).addr ≠ SEQ_BG.PREEMPT.addr ∧ (STN_STAT.PREV n).addr ≠ DIAG_STAT.STATE.addr
    ∧ (STN_STAT.PREV n).addr ≠ DIAG_RES_LO.RES.addr ∧ (STN_STAT.PREV n).addr ≠ DIAG_RES_HI.RES.addr
    ∧ (STN_STAT.PREV n).addr ≠ DIAG_CNT.ABORTS.addr := by
  revert n
  decide

theorem Tail.Down.diagPut (s r : Nat) (h : t.Down n hw w) : (t.diagPut s r).Down n hw w := by
  obtain ⟨-, -, -, -, hlo, hhi, -⟩ := prev_ne n
  unfold Tail.diagPut
  dsimp only
  split
  · exact h.p _ _ hlo
  · exact h.p _ _ hhi

theorem Tail.Down.diagAbort (h : t.Down n hw w) : t.diagAbort.Down n hw w := by
  obtain ⟨-, -, -, hstate, -, -, haborts⟩ := prev_ne n
  unfold Tail.diagAbort
  split
  · exact h
  · extract_lets m t1 _ d t2
    have h1 : t1.Down n hw w := by
      unfold t1
      split
      · exact h.diagPut _ _
      · exact h
    have h2 : t2.Down n hw w := ((h1.p DIAG_STAT.STATE _ hstate).p DIAG_CNT.ABORTS _ haborts).of_same rfl rfl
    exact (h2.evt _ _).diagReturn m

theorem Tail.Down.diagSettle (h : t.Down n hw w) : t.diagSettle.Down n hw w := by
  unfold Tail.diagSettle
  dsimp only
  split
  · split
    · exact h.diagAbort
    · exact h
  · exact List.foldlRecOn _ _ h fun r hr m _ => hr.diagReturn m

theorem Tail.Down.setUnit (us : UnitSt) (h : t.Down n hw w) : (t.setUnit us).Down n hw w := by
  obtain ⟨hdev, hseq, -⟩ := prev_ne n
  unfold Tail.setUnit
  split
  · exact h
  · exact ((h.p DEV_STATE.PREV _ hdev).p SEQ_STAT.PREV_STATE _ hseq).of_same rfl rfl

theorem Tail.Down.grp (v : Vector Grp 2) (h : t.Down n hw w) : Tail.Down n hw w { t with grp := v } := h.of_same rfl rfl

theorem Tail.Down.enterFault (h : t.Down n hw w) : t.enterFault.Down n hw w := by
  obtain ⟨-, -, hbg, -⟩ := prev_ne n
  unfold Tail.enterFault
  refine List.foldlRecOn _ _ (List.foldlRecOn _ _ (((h.setUnit _).evt _ _).evt _ _) fun r hr m _ => ?_) fun r hr g _ => ?_
  · split
    · exact hr.enterFaulted m 1
    · exact hr
  · split
    · exact Tail.Down.p _ _ hbg (hr.grp _)
    · exact hr

theorem Tail.Down.settleUnit (h : t.Down n hw w) : t.settleUnit.Down n hw w := by
  unfold Tail.settleUnit
  split
  · exact h.enterFault
  · split
    · split
      · exact h.setUnit _
      · exact h
    · split
      · exact h
      · exact h.setUnit _
    · split
      · exact h
      · exact h.setUnit _
    · exact h

theorem Tail.Down.logs (h : t.Down n hw w) (hl : t.Logs r) : r.Down n hw w := by
  have hlog : ∀ n : Stn, logReg (STN_STAT.PREV n).addr = false := by decide
  have hstn : r.stn = t.stn := show r.unlogged.stn = t.unlogged.stn by rw [hl.1]
  exact h.of_same (congrArg (fun v : Vector Station 4 => v[n]) hstn) (hl.2 _ (hlog n)).1

/-- A station FAULTED with its gates off is still so at the end of the step. -/
theorem Tail.Down.finish (h : t.Down n hw w) : t.finish.Down n hw w := by
  have h1 : (t.diagSettle.stns.foldl (fun t n => t.settleStn n) t.diagSettle).Down n hw w :=
    List.foldlRecOn _ _ h.diagSettle fun r hr m _ => hr.settleStn m
  have h2 : t.settle.Down n hw w := by
    unfold Tail.settle
    exact List.foldlRecOn _ _ h1.diagSettle.settleUnit fun r hr m _ => hr.gateUpdate m
  exact h2.logs (Tail.logs_logAll (.rfl _))

/-! ## Entering FAULTED -/

/-- Station `n` with its sequences and its set-point source ended, once it is in state FAULTED. -/
def Tail.dropped (t : Tail) (n : Stn) : Tail :=
  ((((t.sqMap n Sq.rest).banksIdle n).setpMap n fun p => { p with stop := .none }).protMap n fun p => { p with ctoT := none }).moduMap n
    fun m => { m with next := none }

theorem Tail.leaveRunning_faulted_eq : t.leaveRunning n .faulted = (((t.renderStop n).setSt n .faulted).dropped n).gateUpdate n := rfl

theorem Tail.dropped_stn : ((t.dropped n).stnGet n).modu = { (t.stnGet n).modu with next := none }
    ∧ ((t.dropped n).stnGet n).sq = (t.stnGet n).sq.rest := by
  obtain ⟨hmodu, hsq⟩ := (t.sqMap n Sq.rest).banksIdle_stn n
  have hget : (t.sqMap n Sq.rest).stnGet n = { t.stnGet n with sq := (t.stnGet n).sq.rest } := Tail.stnMap_get _ _ _
  rw [hget] at hmodu hsq
  simp only [Tail.dropped, Tail.moduMap, Tail.protMap, Tail.setpMap, Tail.stnMap_get]
  exact ⟨by rw [hmodu], hsq⟩

theorem Tail.stnMap_word (t : Tail) (n : Stn) (g : Station → Station) (a : Nat) : (t.stnMap n g).word a = t.word a := rfl

theorem Tail.dropped_status : (t.dropped n).word (STN_STAT.PREV n).addr = t.word (STN_STAT.PREV n).addr := by
  have hbanks : ((t.sqMap n Sq.rest).banksIdle n).word (STN_STAT.PREV n).addr = (t.sqMap n Sq.rest).word (STN_STAT.PREV n).addr :=
    congrArg (fun x => x.2.2.1) ((t.sqMap n Sq.rest).banksIdle_steady n n)
  simp only [Tail.dropped, Tail.moduMap, Tail.protMap, Tail.setpMap, Tail.stnMap_word, hbanks]
  rfl

/-- Station `n` leaves a state for FAULTED. -/
theorem Tail.leaveRunning_faulted (hst : (t.stnGet n).sq.st ≠ .faulted) (hasc : (t.stnGet n).modu.gate ≠ .asc) :
    ∃ w, (t.leaveRunning n .faulted).Down n (t.stnGet n).modu.hwBlock w ∧ fdGet (STN_STAT.PREV n) w = (t.stnGet n).sq.st.code := by
  have hmodu : (((t.renderStop n).setSt n .faulted).stnGet n).modu = (t.stnGet n).modu :=
    (Tail.setSt_modu _ _ _).trans (t.renderStop_modu n)
  have hprev : ((t.renderStop n).setSt n .faulted).g (STN_STAT.PREV n) = (t.stnGet n).sq.st.code := by
    have hsame := t.renderStop_sq n
    rw [Tail.setSt_prev _ _ (by rwa [hsame]), hsame]
  have hfaulted : (((t.renderStop n).setSt n .faulted).stnGet n).sq.st = .faulted := Tail.setSt_st _ _ _
  rw [Tail.leaveRunning_faulted_eq]
  generalize (t.renderStop n).setSt n .faulted = r at hmodu hprev hfaulted
  obtain ⟨hdmodu, hdsq⟩ := Tail.dropped_stn (t := r) (n := n)
  have hdst : ((r.dropped n).stnGet n).sq.st = .faulted := by
    rw [hdsq]
    exact hfaulted
  obtain ⟨hhw, hgate, hcmd⟩ := Tail.gateUpdate_modu_of_faulted hdst (by rw [hdmodu, hmodu]; exact hasc)
  have hsteady := (r.dropped n).gateUpdate_steady n n
  have hsq : (((r.dropped n).gateUpdate n).stnGet n).sq = ((r.dropped n).stnGet n).sq := congrArg (fun x => x.1) hsteady
  have hword : ((r.dropped n).gateUpdate n).word (STN_STAT.PREV n).addr = (r.dropped n).word (STN_STAT.PREV n).addr :=
    congrArg (fun x => x.2.2.1) hsteady
  exact ⟨_, ⟨by rw [hsq, hdst], hgate, by rw [hhw, hdmodu, hmodu], hcmd, hword.trans Tail.dropped_status⟩, hprev⟩

end

theorem causeRegs (n : Stn) : (STN_STAT.CAUSE n).ok ∧ (STN_STAT.PREV n).apart (STN_STAT.CAUSE n)
    ∧ (STN_STAT.CAUSE n).apart (STN_STAT.PREV n) ∧ (STN_STAT.CAUSE n).addr = (STN_STAT.PREV n).addr := by
  revert n
  decide

/-- Station `n` enters FAULTED by protection: its gates are off, and its status tells where it came from (10 R378, R405, 18 R658). -/
theorem Tail.enterFaulted_down {t : Tail} {n : Stn} (hst : (t.stnGet n).sq.st ≠ .faulted) (hasc : (t.stnGet n).modu.gate ≠ .asc) :
    ∃ w, (t.enterFaulted n 0).Down n (t.stnGet n).modu.hwBlock w ∧ fdGet (STN_STAT.PREV n) w = (t.stnGet n).sq.st.code
      ∧ fdGet (STN_STAT.CAUSE n) w = 0 := by
  obtain ⟨w, hdown, hprev⟩ := Tail.leaveRunning_faulted hst hasc
  obtain ⟨hok, hapart, -, haddr⟩ := causeRegs n
  let t1 := t.leaveRunning n .faulted
  let t2 := t1.p (STN_STAT.CAUSE n) 0
  have hent : t.enterFaulted n 0 = (t2.isnsMap n fun i => { i with cal := .none, calT := none }).evt (stnPage n 0) 0 := if_neg hst
  have hmap : (t2.isnsMap n fun i => { i with cal := .none, calT := none }).Down n (t.stnGet n).modu.hwBlock
      (t2.word (STN_STAT.PREV n).addr) := by
    have hget : ((t2.isnsMap n fun i => { i with cal := .none, calT := none }).stnGet n).modu = (t1.stnGet n).modu
        ∧ ((t2.isnsMap n fun i => { i with cal := .none, calT := none }).stnGet n).sq = (t1.stnGet n).sq := by
      unfold Tail.isnsMap
      rw [Tail.stnMap_get]
      exact ⟨rfl, rfl⟩
    exact ⟨by rw [hget.2, hdown.st], by rw [hget.1, hdown.gate], by rw [hget.1, hdown.hwBlock], by rw [hget.1, hdown.cmd], rfl⟩
  refine ⟨_, hent ▸ hmap.evt _ _, ?_, ?_⟩
  · refine ((t1.g_p_apart (f := STN_STAT.CAUSE n) (g := STN_STAT.PREV n) 0 hok (prev_ok n) (.inr ?_)).trans ?_)
    · exact (causeRegs n).2.2.1
    · exact (congrArg (fdGet _) hdown.status).trans hprev
  · rw [← haddr]
    exact t1.g_p 0 hok

end Sys2Proof.Machine
end

section
/-! Settling O21: protection sources by class, CTO, and the ends of the active short circuit (18 R653 to R667, 19 R699). -/

namespace Sys2Proof.Machine

/-! ## What the assertion of a source reads, once PROT_ACT is written -/

/-- The registers that give the class of a source. -/
theorem classRegs_ne (n : Stn) : (PROT_CLASS.OV n).addr ≠ (PROT_ACT.ACT n).addr ∧ STO_CFG.ECAT.addr ≠ (PROT_ACT.ACT n).addr := by
  revert n
  decide

section
variable {t : Tail} {n : Stn} {src : Nat}

theorem Tail.protClass_act (x : Nat) : (t.p (PROT_ACT.ACT n) x).protClass n src = t.protClass n src := by
  obtain ⟨hcls, hsto⟩ := classRegs_ne n
  have hcf (f : Fd) (hf : f.addr = (PROT_CLASS.OV n).addr) : (t.p (PROT_ACT.ACT n) x).cf f = t.cf f :=
    t.p_cf_ne x (by rw [hf]; exact hcls)
  have hecat : (t.p (PROT_ACT.ACT n) x).cfb STO_CFG.ECAT = t.cfb STO_CFG.ECAT := congrArg (· != 0) (t.p_cf_ne x hsto)
  unfold Tail.protClass
  rw [hcf (PROT_CLASS.OV n) rfl, hcf (PROT_CLASS.UV n) rfl, hcf (PROT_CLASS.OSPD n) rfl, hcf (PROT_CLASS.FBL n) rfl,
    hcf (PROT_CLASS.ORB n) rfl, hcf (PROT_CLASS.SINV n) rfl, hecat]

theorem Tail.armedSrc_act (x : Nat) : (t.p (PROT_ACT.ACT n) x).armedSrc n src = t.armedSrc n src := rfl

variable (hact : (t.g (PROT_ACT.ACT n)).testBit src = false) (hnever : t.sourceNever n src = false)
include hact hnever

/-- A source that is not armed only shows (18 R653). -/
theorem Tail.assertSource_unarmed (harm : t.armedSrc n src = false) :
    t.assertSource n src = t.p (PROT_ACT.ACT n) (setBit (t.g (PROT_ACT.ACT n)) src true) :=
  (if_neg (by simp [hact, hnever])).trans (if_pos (by rw [Tail.armedSrc_act, harm]; rfl))

/-- A source of class D only warns (18 R663). -/
theorem Tail.assertSource_warns (harm : t.armedSrc n src = true) (hcls : t.protClass n src = 3) :
    t.assertSource n src = ((t.p (PROT_ACT.ACT n) (setBit (t.g (PROT_ACT.ACT n)) src true)).p (PG_STAT.WARN (stnPage n 0xE)) 1).evt
      (stnPage n 0xE) 3 :=
  (if_neg (by simp [hact, hnever])).trans ((if_neg (by rw [Tail.armedSrc_act, harm]; decide)).trans
    (if_pos (by rw [Tail.protClass_act, hcls])))

end

/-! ## A source of class A on a running station -/

section
variable {t : Tail} {n : Stn} {src : Nat}

/-- A block that ends takes the active short circuit with it (18 R660). -/
theorem Tail.endBlocks_gate : ((t.endBlocks n).stnGet n).modu.gate ≠ .asc := by
  unfold Tail.endBlocks
  extract_lets asc t1 t2
  have h2 : (t2.stnGet n).modu.gate ≠ .asc := by
    simp only [t2, t1, Tail.protMap, Tail.moduMap, Tail.stnMap_get]
    split
    · decide
    · next h => exact h
  split
  · rwa [Tail.evt_stnGet]
  · exact h2

/-- Outside the active short circuit its update never leads there. -/
theorem Tail.gateUpdate_gate (h : (t.stnGet n).modu.gate ≠ .asc) : ((t.gateUpdate n).stnGet n).modu.gate ≠ .asc := by
  have hgate : ((t.gateUpdate n).stnGet n).modu.gate = t.gateNext n := by
    rw [(Tail.gates_stn (t.gateUpdate_gates n) n).2, Tail.moduMap, Tail.stnMap_get]
  rw [hgate]
  unfold Tail.gateNext
  split
  · decide
  · simp [h]

/-- The active short circuit ends in the OFF form, and leaves the sequence (18 R660). -/
theorem Tail.endAsc_stn : ((t.endAsc n).stnGet n).sq = (t.stnGet n).sq ∧ ((t.endAsc n).stnGet n).modu.gate ≠ .asc := by
  unfold Tail.endAsc
  dsimp only
  split
  · have hsteady (hw : Bool) : (((t.endBlocks n).moduMap n fun m => { m with hwBlock := hw }).gateUpdate n).steady n = t.steady n := by
      simp
    refine ⟨congrArg (fun x => x.1) (hsteady _), Tail.gateUpdate_gate ?_⟩
    rw [Tail.moduMap, Tail.stnMap_get]
    exact Tail.endBlocks_gate
  · next h => exact ⟨rfl, h⟩

/-- A running station that protection blocks is FAULTED with its gates off (18 R658). -/
theorem Tail.protFault_down (hw : Bool) (hst : (t.stnGet n).sq.st = .running) :
    ∃ b w, (t.protFault n hw false).Down n b w ∧ (hw = true → b = true) ∧ fdGet (STN_STAT.PREV n) w = 4
      ∧ fdGet (STN_STAT.CAUSE n) w = 0 := by
  obtain ⟨hsq, hasc⟩ := t.endAsc_stn (n := n)
  have hprot : t.protFault n hw false = (if hw then (t.endAsc n).moduMap n (fun m => { m with hwBlock := true }) else t.endAsc n).enterFaulted n 0 := by
    unfold Tail.protFault
    simp [hst]
  have hset : (((t.endAsc n).moduMap n fun m => { m with hwBlock := true }).stnGet n).sq.st = .running
      ∧ (((t.endAsc n).moduMap n fun m => { m with hwBlock := true }).stnGet n).modu.gate ≠ .asc
      ∧ (((t.endAsc n).moduMap n fun m => { m with hwBlock := true }).stnGet n).modu.hwBlock = true := by
    simp only [Tail.moduMap, Tail.stnMap_get]
    exact ⟨by rw [hsq, hst], hasc, trivial⟩
  rw [hprot]
  cases hw with
  | true =>
    obtain ⟨hst', hasc', hhw⟩ := hset
    obtain ⟨w, hdown, hprev, hcause⟩ := Tail.enterFaulted_down (by rw [hst']; decide) hasc'
    exact ⟨_, w, hdown, fun _ => hhw, by rw [hprev, hst']; rfl, hcause⟩
  | false =>
    have hst' : ((t.endAsc n).stnGet n).sq.st = .running := by rw [hsq, hst]
    obtain ⟨w, hdown, hprev, hcause⟩ := Tail.enterFaulted_down (by rw [hst']; decide) hasc
    exact ⟨_, w, hdown, fun h => absurd h (by decide), by rw [hprev, hst']; rfl, hcause⟩

/-- The record of a tripped source (18 R667): latched, counted, and the first with its class and time. -/
def Tail.tripped (t : Tail) (n : Stn) (src c : Nat) : Tail :=
  let first := t.isFirst n src
  let t := (t.p (PROT_LATCH.LATCH n) (setBit (t.g (PROT_LATCH.LATCH n)) src true)).inc (PROT_CNT.TRIPS n)
  let t := if first then
      ((((t.p (PROT_FIRST.CLASS n) c).p (PROT_FIRST.VALID n) 1).p (PROT_FIRST.SRC n) src).p (PROT_FT_LO.FT n) t.ft.toNat).p
        (PROT_FT_HI.FT n) (t.ft.toNat / 2 ^ 32)
    else t
  t.protMap n (fun p => { p with cls := (src, c) :: p.cls.filter (fun e => e.1 != src) })

/-- The reaction of a tripped source of class `c` (18 R658 to R662). -/
def Tail.react (t : Tail) (n : Stn) (src c : Nat) : Tail :=
  let t := if c = 2 then t.takeStop n ⟨true, false, true, false⟩ else t.protFault n (src < 8) (c = 1)
  let t := if (t.stnGet n).sq.st = .diag then t.enterFaulted n 0 else t
  let t := t.evt (stnPage n 0xE) 0
  if src = 14 then t.evt (stnPage n 0xE) 2 else t

/-- The assertion of a source that trips. -/
theorem Tail.assertSource_eq (t : Tail) (n : Stn) (src : Nat) : t.assertSource n src =
    if (t.g (PROT_ACT.ACT n)).testBit src || t.sourceNever n src then t
    else
      let t := t.p (PROT_ACT.ACT n) (setBit (t.g (PROT_ACT.ACT n)) src true)
      if !t.armedSrc n src then t
      else
        let c := t.protClass n src
        if c = 3 then (t.pb (PG_STAT.WARN (stnPage n 0xE)) true).evt (stnPage n 0xE) 3
        else
          let c := if c = 1 && !t.ascMay n then 0 else if c = 2 && (t.stnGet n).sq.st = .magnetizing then 0 else c
          (t.tripped n src c).react n src c := rfl

theorem Tail.tripped_st (c : Nat) : ((t.tripped n src c).stnGet n).sq = (t.stnGet n).sq := by
  unfold Tail.tripped
  extract_lets first t1 t2
  have h2 : (t2.stnGet n).sq = (t.stnGet n).sq := by
    unfold t2
    split
    · simp [t1, Tail.inc_eq]
    · simp [t1, Tail.inc_eq]
  rw [Tail.protMap, Tail.stnMap_get]
  exact h2

/-- A source of class A trips a running station. -/
theorem Tail.assertSource_trips (hact : (t.g (PROT_ACT.ACT n)).testBit src = false) (hnever : t.sourceNever n src = false)
    (hst : (t.stnGet n).sq.st = .running) (harm : t.armedSrc n src = true) (hcls : t.protClass n src = 0) (hsrc : src ≠ 14) :
    t.assertSource n src = (((t.p (PROT_ACT.ACT n) (setBit (t.g (PROT_ACT.ACT n)) src true)).tripped n src 0).protFault n (src < 8)
      false).evt (stnPage n 0xE) 0 := by
  have hst' (r : Tail) (hr : (r.stnGet n).sq.st = .running) : r.react n src 0 = (r.protFault n (src < 8) false).evt (stnPage n 0xE) 0 := by
    obtain ⟨b, w, hdown, -⟩ := Tail.protFault_down (decide (src < 8)) hr
    have hdiag : ¬ ((r.protFault n (decide (src < 8)) false).stnGet n).sq.st = .diag := by rw [hdown.st]; decide
    refine (if_neg hsrc).trans (congrArg (fun x : Tail => x.evt (stnPage n 0xE) 0) (if_neg hdiag))
  rw [Tail.assertSource_eq, if_neg (by simp [hact, hnever])]
  dsimp only
  rw [Tail.armedSrc_act, harm, Tail.protClass_act, hcls]
  refine (if_neg (by decide)).trans ((if_neg (by decide)).trans (hst' _ ?_))
  rw [Tail.tripped_st]
  exact hst

/-! ## What is recorded of a trip, and stays -/

theorem Tail.frames_protFault {o : Tail} (hw : Bool) (h : o.Frames t) : o.Frames (t.protFault n hw false) := by
  have hasc : o.Frames (t.endAsc n) := Tail.frames_endAsc n h
  unfold Tail.protFault
  simp only [Bool.not_false, if_true]
  split
  · split
    · exact Tail.frames_moduMap n _ hasc
    · exact hasc
  · split
    · exact Tail.frames_enterFaulted n 0 (Tail.frames_moduMap n _ hasc)
    · exact Tail.frames_enterFaulted n 0 hasc

/-- The registers that record a trip. -/
theorem tripRegs (n : Stn) : (PROT_ACT.ACT n).ok ∧ (PROT_LATCH.LATCH n).ok ∧ (PROT_CNT.TRIPS n).ok ∧ (PROT_FIRST.CLASS n).ok
    ∧ (PROT_FIRST.VALID n).ok ∧ (PROT_FIRST.SRC n).ok ∧ (PROT_FIRST.SRC n).apart (PROT_FIRST.VALID n)
    ∧ (PROT_FIRST.SRC n).apart (PROT_FIRST.CLASS n) ∧ (PROT_FIRST.VALID n).apart (PROT_FIRST.CLASS n)
    ∧ [(PROT_ACT.ACT n).addr, (PROT_LATCH.LATCH n).addr, (PROT_CNT.TRIPS n).addr, (PROT_FIRST.SRC n).addr, (PROT_FT_LO.FT n).addr,
      (PROT_FT_HI.FT n).addr].Nodup := by
  revert n
  decide

/-- What the record of a first trip of class A shows. -/
structure Tail.TripShown (n : Stn) (src act trips : Nat) (r : Tail) : Prop where
  act : r.g (PROT_ACT.ACT n) = act
  latch : r.g (PROT_LATCH.LATCH n) = 2 ^ src
  valid : r.g (PROT_FIRST.VALID n) = 1
  source : r.g (PROT_FIRST.SRC n) = src
  cls : r.g (PROT_FIRST.CLASS n) = 0
  trips : r.g (PROT_CNT.TRIPS n) = satInc (PROT_CNT.TRIPS n).width trips

theorem setBit_zero_true (k : Nat) : setBit 0 k true = 2 ^ k := by simp [setBit, Nat.one_shiftLeft]

/-- A trip latched and counted. -/
def Tail.latchTrip (t : Tail) (n : Stn) (src : Nat) : Tail :=
  (t.p (PROT_LATCH.LATCH n) (setBit (t.g (PROT_LATCH.LATCH n)) src true)).inc (PROT_CNT.TRIPS n)

/-- The record of the first source, with its class and the time. -/
def Tail.recordFirst (t : Tail) (n : Stn) (src c : Nat) : Tail :=
  ((((t.p (PROT_FIRST.CLASS n) c).p (PROT_FIRST.VALID n) 1).p (PROT_FIRST.SRC n) src).p (PROT_FT_LO.FT n) t.ft.toNat).p (PROT_FT_HI.FT n)
    (t.ft.toNat / 2 ^ 32)

theorem Tail.tripped_first (c : Nat) (h : t.isFirst n src = true) : t.tripped n src c =
    ((t.latchTrip n src).recordFirst n src c).protMap n (fun p => { p with cls := (src, c) :: p.cls.filter (fun e => e.1 != src) }) := by
  unfold Tail.tripped
  rw [h]
  rfl

theorem Tail.protMap_g (f : Prot → Prot) (x : Fd) : (t.protMap n f).g x = t.g x := rfl

/-- The registers of a trip are written one by one. -/
theorem tripRegs_ne (n : Stn) : ∀ f ∈ [PROT_ACT.ACT n, PROT_LATCH.LATCH n, PROT_CNT.TRIPS n], f.addr ≠ (PROT_FIRST.SRC n).addr
    ∧ f.addr ≠ (PROT_FT_LO.FT n).addr ∧ f.addr ≠ (PROT_FT_HI.FT n).addr := by
  revert n
  decide

theorem Tail.recordFirst_g_ne (c : Nat) {f : Fd} (hf : f ∈ [PROT_ACT.ACT n, PROT_LATCH.LATCH n, PROT_CNT.TRIPS n]) :
    (t.recordFirst n src c).g f = t.g f := by
  obtain ⟨hfirst, hlo, hhi⟩ := tripRegs_ne n f hf
  unfold Tail.recordFirst
  rw [Tail.g_p_ne (f := PROT_FT_HI.FT n) _ _ hhi, Tail.g_p_ne (f := PROT_FT_LO.FT n) _ _ hlo, Tail.g_p_ne (f := PROT_FIRST.SRC n) _ _ hfirst,
    Tail.g_p_ne (f := PROT_FIRST.VALID n) _ _ hfirst, Tail.g_p_ne (f := PROT_FIRST.CLASS n) _ _ hfirst]

theorem Tail.recordFirst_g (hsrc : src < 15) : (t.recordFirst n src 0).g (PROT_FIRST.VALID n) = 1
    ∧ (t.recordFirst n src 0).g (PROT_FIRST.SRC n) = src ∧ (t.recordFirst n src 0).g (PROT_FIRST.CLASS n) = 0 := by
  have hlt : src < 2 ^ 5 := by omega
  obtain ⟨-, -, -, hcls, hval, hsrcok, hsv, hsc, hvc, hnodup⟩ := tripRegs n
  simp only [List.nodup_cons, List.mem_cons, List.not_mem_nil, not_or, or_false] at hnodup
  obtain ⟨-, -, -, ⟨hlo, hhi⟩, -⟩ := hnodup
  have hft (f : Fd) (hf : f.addr = (PROT_FIRST.SRC n).addr) : (t.recordFirst n src 0).g f =
      (((t.p (PROT_FIRST.CLASS n) 0).p (PROT_FIRST.VALID n) 1).p (PROT_FIRST.SRC n) src).g f := by
    unfold Tail.recordFirst
    rw [Tail.g_p_ne (f := PROT_FT_HI.FT n) _ _ (fun e => hhi (hf.symm.trans e)),
      Tail.g_p_ne (f := PROT_FT_LO.FT n) _ _ (fun e => hlo (hf.symm.trans e))]
  refine ⟨?_, ?_, ?_⟩
  · rw [hft (PROT_FIRST.VALID n) rfl, Tail.g_p_apart _ _ hsrcok hval (.inr hsv), Tail.g_p _ _ hval]
    rfl
  · rw [hft _ rfl, Tail.g_p _ _ hsrcok]
    exact Nat.mod_eq_of_lt hlt
  · rw [hft (PROT_FIRST.CLASS n) rfl, Tail.g_p_apart _ _ hsrcok hcls (.inr hsc), Tail.g_p_apart _ _ hval hcls (.inr hvc), Tail.g_p _ _ hcls]
    rfl

theorem Tail.latchTrip_g (hlatch : t.g (PROT_LATCH.LATCH n) = 0) (hsrc : src < 15) :
    (t.latchTrip n src).g (PROT_ACT.ACT n) = t.g (PROT_ACT.ACT n) ∧ (t.latchTrip n src).g (PROT_LATCH.LATCH n) = 2 ^ src
      ∧ (t.latchTrip n src).g (PROT_CNT.TRIPS n) = satInc (PROT_CNT.TRIPS n).width (t.g (PROT_CNT.TRIPS n)) := by
  obtain ⟨-, hlat, hcnt, -, -, -, -, -, -, hnodup⟩ := tripRegs n
  simp only [List.nodup_cons, List.mem_cons, List.not_mem_nil, not_or, or_false] at hnodup
  obtain ⟨⟨hal, hac, -⟩, ⟨hlc, -⟩, -⟩ := hnodup
  unfold Tail.latchTrip
  refine ⟨?_, ?_, ?_⟩
  · rw [Tail.inc_eq, Tail.g_p_ne (f := PROT_CNT.TRIPS n) _ _ hac, Tail.g_p_ne _ _ hal]
  · rw [Tail.inc_eq, Tail.g_p_ne (f := PROT_CNT.TRIPS n) _ _ hlc, Tail.g_p _ _ hlat, hlatch, setBit_zero_true]
    exact Nat.mod_eq_of_lt (Nat.pow_lt_pow_right (by decide) hsrc)
  · rw [Tail.g_inc _ hcnt, Tail.g_p_ne _ _ (Ne.symm hlc)]

/-- The first trip, of class A (18 R667). -/
theorem Tail.tripped_shown (hlatch : t.g (PROT_LATCH.LATCH n) = 0) (hsrc : src < 15) :
    (t.tripped n src 0).TripShown n src (t.g (PROT_ACT.ACT n)) (t.g (PROT_CNT.TRIPS n)) := by
  obtain ⟨hact, hlat, htrips⟩ := Tail.latchTrip_g hlatch hsrc
  obtain ⟨hval, hsource, hcls⟩ := Tail.recordFirst_g (t := t.latchTrip n src) (n := n) hsrc
  rw [Tail.tripped_first 0 (by simp [Tail.isFirst, hlatch])]
  constructor
  · rw [Tail.protMap_g, Tail.recordFirst_g_ne 0 (by simp), hact]
  · rw [Tail.protMap_g, Tail.recordFirst_g_ne 0 (by simp), hlat]
  · rw [Tail.protMap_g, hval]
  · rw [Tail.protMap_g, hsource]
  · rw [Tail.protMap_g, hcls]
  · rw [Tail.protMap_g, Tail.recordFirst_g_ne 0 (by simp), htrips]

/-- What protection records is neither logged nor settled. -/
theorem tripRegs_stay (n : Stn) : ∀ f ∈ [PROT_ACT.ACT n, PROT_LATCH.LATCH n, PROT_FIRST.VALID n, PROT_FIRST.SRC n, PROT_FIRST.CLASS n,
    PROT_CNT.TRIPS n], logReg f.addr = false ∧ settleRegs.contains f.addr = false := by
  revert n
  decide

theorem Tail.TripShown.frames {r : Tail} {act trips : Nat} (h : t.TripShown n src act trips) (hf : t.Frames r) :
    r.TripShown n src act trips := by
  have hg := fun (f : Fd) hfd => congrArg (fdGet f) (hf.2 f.addr (tripRegs_stay n f hfd).1 (tripRegs_stay n f hfd).2).1
  simp only [List.mem_cons, List.not_mem_nil, or_false, forall_eq_or_imp, forall_eq] at hg
  obtain ⟨h1, h2, h3, h4, h5, h6⟩ := hg
  exact ⟨h1.trans h.act, h2.trans h.latch, h3.trans h.valid, h4.trans h.source, h5.trans h.cls, h6.trans h.trips⟩

/-- A first trip of class A on a running station, by any source but CTO (18 R658, R667). -/
theorem Tail.assertSource_shown (hact : (t.g (PROT_ACT.ACT n)).testBit src = false) (hlatch : t.g (PROT_LATCH.LATCH n) = 0)
    (hnever : t.sourceNever n src = false) (hst : (t.stnGet n).sq.st = .running) (harm : t.armedSrc n src = true)
    (hcls : t.protClass n src = 0) (hsrc : src < 14) :
    (∃ b w, (t.assertSource n src).Down n b w ∧ (src < 8 → b = true) ∧ fdGet (STN_STAT.PREV n) w = 4 ∧ fdGet (STN_STAT.CAUSE n) w = 0)
      ∧ (t.assertSource n src).TripShown n src ((setBit (t.g (PROT_ACT.ACT n)) src true) % 2 ^ 15) (t.g (PROT_CNT.TRIPS n)) := by
  obtain ⟨hactok, hlat, -, -, -, -, -, -, -, hnodup⟩ := tripRegs n
  simp only [List.nodup_cons, List.mem_cons, List.not_mem_nil, not_or, or_false] at hnodup
  obtain ⟨⟨hal, hac, -⟩, -⟩ := hnodup
  let t1 := t.p (PROT_ACT.ACT n) (setBit (t.g (PROT_ACT.ACT n)) src true)
  have hst1 : ((t1.tripped n src 0).stnGet n).sq.st = .running := by
    rw [Tail.tripped_st]
    exact hst
  have hshown : (t1.tripped n src 0).TripShown n src (t1.g (PROT_ACT.ACT n)) (t1.g (PROT_CNT.TRIPS n)) :=
    Tail.tripped_shown ((t.g_p_ne _ (Ne.symm hal)).trans hlatch) (by omega)
  rw [show t1.g (PROT_ACT.ACT n) = _ from t.g_p _ hactok, show t1.g (PROT_CNT.TRIPS n) = _ from t.g_p_ne _ (Ne.symm hac)] at hshown
  rw [Tail.assertSource_trips hact hnever hst harm hcls (Nat.ne_of_lt hsrc)]
  obtain ⟨b, w, hdown, hb, hprev, hcause⟩ := Tail.protFault_down (decide (src < 8)) hst1
  exact ⟨⟨b, w, hdown.evt _ _, fun h => hb (decide_eq_true h), hprev, hcause⟩,
    hshown.frames (Tail.frames_evt _ _ (Tail.frames_protFault _ (.rfl _)))⟩

end

/-! ## The ends of the active short circuit (18 R660) -/

section
variable {t : Tail} {n : Stn}

theorem Tail.endBlocks_prot : ((t.endBlocks n).stnGet n).prot.ascT = none := by
  unfold Tail.endBlocks
  extract_lets asc t1 t2
  have h2 : (t2.stnGet n).prot.ascT = none := by
    simp only [t2, Tail.protMap, Tail.stnMap_get]
  split
  · rwa [Tail.evt_stnGet]
  · exact h2

theorem Tail.gateUpdate_prot : ((t.gateUpdate n).stnGet n).prot = (t.stnGet n).prot := by
  unfold Tail.gateUpdate
  extract_lets m next t1
  have h1 : (t1.stnGet n).prot = (t.stnGet n).prot := by
    unfold t1
    split
    · rfl
    · simp [Tail.moduMap]
  have h2 : ((t1.blockGates n).stnGet n).prot = (t.stnGet n).prot := by
    rw [← h1, Tail.blockGates_eq, Tail.moduMap, Tail.stnMap_get]
  split
  · split
    · exact h1
    · exact h2
  · exact h1

/-- A FAULTED station out of the active short circuit has its gates off and its time ended, and the latch is set. -/
theorem Tail.endAsc_off (hst : (t.stnGet n).sq.st = .faulted) (hasc : (t.stnGet n).modu.gate = .asc) :
    ((t.endAsc n).stnGet n).modu.gate = .off ∧ ((t.endAsc n).stnGet n).prot.ascT = none
      ∧ (t.endAsc n).evtBit (stnPage n 0xE) 1 = true := by
  let r := (t.endBlocks n).moduMap n fun m => { m with hwBlock := (t.stnGet n).modu.hwBlock }
  have hend : t.endAsc n = r.gateUpdate n := if_pos hasc
  have hsq : (r.stnGet n).sq.st = .faulted := by
    have h : r.steady n = t.steady n := by simp [r]
    exact (congrArg (fun x : Sq => x.st) (congrArg (fun x => x.1) h)).trans hst
  have hgate : (r.stnGet n).modu.gate ≠ .asc := by
    simp only [r, Tail.moduMap, Tail.stnMap_get]
    exact Tail.endBlocks_gate
  rw [hend]
  refine ⟨(Tail.gateUpdate_modu_of_faulted hsq hgate).2.1, ?_, ?_⟩
  · rw [Tail.gateUpdate_prot]
    simp only [r, Tail.moduMap, Tail.stnMap_get]
    exact Tail.endBlocks_prot
  · have hblocks : (t.endBlocks n).evtBit (stnPage n 0xE) 1 = true := by
      unfold Tail.endBlocks
      rw [hasc]
      exact Tail.evt_sets _ _ (by decide)
    exact (Tail.only_gateUpdate .refl : r.Only n (r.gateUpdate n)).latches _ _ hblocks

end

/-! ## The commands -/

section
variable {n : Stn} {src : Fin 15} {s : State} (hfit : s.fs.fitted n.val = true) (hon : s.fs.on 3 = true)
include hfit hon

theorem protSourceAssert_settles {r : Tail} (hsub : s.fs.sourceSub n src.val = false) (h : s.fs.assertSource n src.val = r) :
    Settles (.protSourceAssert n src) s r :=
  settles_of_tail _ rfl ((if_pos (by simp [hfit, hon, hsub])).trans (congrArg Tail.finish h))

/-- A source of class A on a running station. -/
theorem protSourceAssert_trips (hsub : s.fs.sourceSub n src.val = false) (hst : (s.fs.stnGet n).sq.st = .running)
    (hact : s.fs.g (PROT_ACT.ACT n) = 0) (hlatch : s.fs.g (PROT_LATCH.LATCH n) = 0) (hcls : s.fs.protClass n src.val = 0)
    (hsrc : src.val ≠ 14) (hnever : s.fs.sourceNever n src.val = false) :
    ∃ r : Tail, Does (.protSourceAssert n src) s r ∧ r.now = s.fs.now ∧ (r.stnGet n).sq.st = .faulted ∧ (r.stnGet n).modu.gate = .off
      ∧ r.g (STN_STAT.CAUSE n) = 0
      ∧ r.g (STN_STAT.PREV n) = 4 ∧ r.g (PROT_LATCH.LATCH n) = 2 ^ src.val ∧ r.g (PROT_ACT.ACT n) = 2 ^ src.val
      ∧ r.g (PROT_FIRST.VALID n) = 1 ∧ r.g (PROT_FIRST.SRC n) = src.val ∧ r.g (PROT_FIRST.CLASS n) = 0
      ∧ r.g (PROT_CNT.TRIPS n) = satInc (PROT_CNT.TRIPS n).width (s.fs.g (PROT_CNT.TRIPS n)) := by
  have hlt : src.val < 14 := by omega
  have harm : s.fs.armedSrc n src.val = true := by
    unfold Tail.armedSrc
    rw [hst]
    simp [hsrc, StnSt.isRunning]
  obtain ⟨⟨b, w, hdown, -, hprev, hcause⟩, hshown⟩ :=
    Tail.assertSource_shown (by rw [hact]; exact Nat.zero_testBit _) hlatch hnever hst harm hcls hlt
  have hframes := Tail.frames_finish (s.fs.assertSource n src.val)
  have hend := hdown.finish
  have hrec := hshown.frames hframes
  have hact' : (s.fs.assertSource n src.val).finish.g (PROT_ACT.ACT n) = 2 ^ src.val := by
    rw [hrec.act, hact, setBit_zero_true]
    exact Nat.mod_eq_of_lt (Nat.pow_lt_pow_right (by decide) (by omega))
  have hcause' : (s.fs.assertSource n src.val).finish.g (STN_STAT.CAUSE n) = 0 := by
    rw [← hcause, ← hend.status]
    exact congrArg (fun a => fdGet _ (Tail.word _ a)) (causeRegs n).2.2.2
  refine ⟨_, protSourceAssert_settles hfit hon hsub rfl, hframes.keepsClocks.now.trans (Tail.only_assertSource _ .refl : s.fs.Only n _).now_eq,
    hend.st, hend.gate, hcause', ?_, hrec.latch, hact', hrec.valid, hrec.source, hrec.cls, hrec.trips⟩
  exact (congrArg (fdGet (STN_STAT.PREV n)) hend.status).trans hprev

end

/-- Settles O21. -/
theorem protection : Obligations.Protection := by
  refine ⟨fun n src s hfit hon hsub hact hnever harm => protSourceAssert_settles hfit hon hsub (Tail.assertSource_unarmed hact hnever harm),
    fun n src s hfit hon hsub hact hnever harm hcls =>
      protSourceAssert_settles hfit hon hsub (Tail.assertSource_warns hact hnever harm hcls),
    fun n src s hfit hon hsub hst hact hlatch hcls hsrc hnever _ =>
      protSourceAssert_trips hfit hon hsub hst hact hlatch hcls hsrc hnever,
    fun n d s hcto hstep => settles_of_tail _ rfl ?_,
    fun n s hst hasc => ⟨fun a ha => settles_of_tail _ rfl ?_, fun d hd => settles_of_tail _ rfl ?_, fun h => settles_of_tail _ rfl ?_,
      Tail.endAsc_off hst hasc⟩,
    fun n src s hfit hon => ⟨fun hsub => does_of_tail _ rfl (if_neg (by simp [hsub])), fun hsub hnever =>
      protSourceAssert_settles hfit hon hsub (if_pos (by simp [hnever]))⟩⟩
  · have hramp : (((s.fs.elapseTo d).protMap n fun p => { p with ctoT := none }).stnGet n).sq.step = .ramp := by
      rw [Tail.protMap, Tail.stnMap_get, Tail.elapseTo, Tail.elapse_stnGet, hstep]
    simp only [hcto]
    exact if_pos hramp
  · simp only [hasc, ha]
    rfl
  · simp only [hasc, hd]
    rfl
  · simp only [hasc]
    exact (if_neg (by decide)).trans (if_pos (by simpa using h))

end Sys2Proof.Machine
end

section
/-! Settling O25: confirmations of the gate channels and their faults (17 R625, R626, R643). -/

namespace Sys2Proof.Machine

/-- The outputs of the first two phases are used in every topology (17 R623). -/
theorem Tail.usedCh_phase (t : Tail) (n : Nat) (ch : Fin 6) : (t.usedCh n).getLsbD ch.val = true := by
  have h (b : Bool) : (if b then 0x0FFF#13 else 0x003F#13).getLsbD ch.val = true := by
    revert b ch
    decide
  unfold Tail.usedCh
  rw [BitVec.getLsbD_or, h, Bool.true_or]

theorem testBit_setBit_false (x k m : Nat) : (setBit x k false % 2 ^ m).testBit k = false := by
  have hbit : (setBit x k false).testBit k = false := by
    unfold setBit
    rw [if_neg (by decide)]
    split
    · next h =>
      have hodd : x / 2 ^ k % 2 = 1 := by simpa [Nat.testBit_eq_decide_div_mod_eq] using h
      have hdiv : (x - 2 ^ k) / 2 ^ k = x / 2 ^ k - 1 := by simpa using Nat.sub_mul_div x (2 ^ k) 1
      rw [Nat.one_shiftLeft, Nat.testBit_eq_decide_div_mod_eq, hdiv]
      exact decide_eq_false (by omega)
    · next h => exact Bool.eq_false_iff.mpr h
  rw [Nat.testBit_mod_two_pow, hbit, Bool.and_false]

/-- The sources of the gate channels have class A (18 R661). -/
theorem Tail.protClass_hardware (t : Tail) {n : Stn} {src : Nat} (h : src < 3) : t.protClass n src = 0 := by
  obtain rfl | rfl | rfl : src = 0 ∨ src = 1 ∨ src = 2 := by omega
  · rfl
  · rfl
  · rfl

section
variable {t : Tail} {n : Stn}

theorem Tail.setFb_modu (ch : Nat) (level : Bool) : ∃ fb low, ((t.setFb n ch level).stnGet n) =
    { t.stnGet n with modu := { (t.stnGet n).modu with fb := fb, lowAt := low } } :=
  ⟨_, _, Tail.stnMap_get _ _ _⟩

/-- The registers that a fault of the gate channels writes first. -/
theorem gateFaultRegs (n : Stn) : (MOD_STAT.CAUSE n).ok ∧ (MOD_STAT.HS_CH n).ok ∧ (MOD_STAT.HS_CH n).apart (MOD_STAT.CAUSE n)
    ∧ (PROT_ACT.ACT n).ok
    ∧ (MOD_STAT.CAUSE n).addr % 256 ≠ 0x0C ∧ (PROT_LATCH.LATCH n).addr % 256 ≠ 0x0C ∧ (MOD_STAT.CAUSE n).addr ≠ (PROT_ACT.ACT n).addr
    ∧ (PROT_LATCH.LATCH n).addr ≠ (PROT_ACT.ACT n).addr ∧ (PROT_LATCH.LATCH n).addr ≠ (MOD_STAT.CAUSE n).addr
    ∧ protReg n (MOD_STAT.CAUSE n).addr = false ∧ logReg (MOD_STAT.CAUSE n).addr = false
    ∧ settleRegs.contains (MOD_STAT.CAUSE n).addr = false := by
  revert n
  decide

/-- The hardware path of a fault, up to its protection source (17 R626, R643): cause and channel, the block, the latch. -/
def Tail.hardwareFault (t : Tail) (n : Stn) (ch cause evt : Nat) : Tail :=
  (((t.p (MOD_STAT.CAUSE n) cause).p (MOD_STAT.HS_CH n) ch).moduMap n (fun m => { m with hwBlock := true })).evt (stnPage n 0xD) evt

/-- The source has yet to assert. -/
def Tail.faultBlocked (t : Tail) (n : Stn) (ch cause evt src : Nat) : Tail :=
  let t := t.hardwareFault n ch cause evt
  t.p (PROT_ACT.ACT n) (setBit (t.g (PROT_ACT.ACT n)) src false)

theorem Tail.moduMap_g (f : Modu → Modu) (x : Fd) : (t.moduMap n f).g x = t.g x := rfl

theorem Tail.hardwareFault_g (ch cause evt : Nat) {f : Fd} (he : f.addr % 256 ≠ 0x0C) :
    (t.hardwareFault n ch cause evt).g f = ((t.p (MOD_STAT.CAUSE n) cause).p (MOD_STAT.HS_CH n) ch).g f := by
  unfold Tail.hardwareFault
  rw [Tail.g_evt_ne _ _ _ fun e => he ((congrArg (· % 256) e).trans (evt_addr_mod _)), Tail.moduMap_g]

theorem Tail.gateFault_first (ch cause evt src : Nat) (h : t.g (PROT_LATCH.LATCH n) = 0) :
    t.gateFault n ch cause evt src = ((t.faultBlocked n ch cause evt src).assertSource n src).gateUpdate n := by
  unfold Tail.gateFault
  rw [h]
  rfl

theorem Tail.faultBlocked_g {ch cause : Nat} (evt src : Nat) (hch : ch < 6) (hcause : cause < 5) :
    (t.faultBlocked n ch cause evt src).g (MOD_STAT.CAUSE n) = cause ∧ (t.faultBlocked n ch cause evt src).g (MOD_STAT.HS_CH n) = ch
      ∧ (t.faultBlocked n ch cause evt src).g (PROT_LATCH.LATCH n) = t.g (PROT_LATCH.LATCH n)
      ∧ ((t.faultBlocked n ch cause evt src).g (PROT_ACT.ACT n)).testBit src = false := by
  obtain ⟨hcok, hhok, hapart, haok, hcevt, hlevt, hca, hla, hlc, -⟩ := gateFaultRegs n
  have hch' : ch < 2 ^ 5 := by omega
  have hcause' : cause < 2 ^ 3 := by omega
  have hout (f : Fd) (he : f.addr % 256 ≠ 0x0C) (hf : f.addr ≠ (PROT_ACT.ACT n).addr) : (t.faultBlocked n ch cause evt src).g f =
      ((t.p (MOD_STAT.CAUSE n) cause).p (MOD_STAT.HS_CH n) ch).g f :=
    (Tail.g_p_ne _ _ hf).trans (Tail.hardwareFault_g _ _ _ he)
  refine ⟨?_, ?_, ?_, ?_⟩
  · rw [hout (MOD_STAT.CAUSE n) hcevt hca, Tail.g_p_apart _ _ hhok hcok (.inr hapart), Tail.g_p _ _ hcok]
    exact Nat.mod_eq_of_lt hcause'
  · rw [hout (MOD_STAT.HS_CH n) hcevt hca, Tail.g_p _ _ hhok]
    exact Nat.mod_eq_of_lt hch'
  · rw [hout _ hlevt hla, Tail.g_p_ne (f := MOD_STAT.HS_CH n) _ _ hlc, Tail.g_p_ne _ _ hlc]
  · unfold Tail.faultBlocked
    rw [Tail.g_p _ _ haok]
    exact testBit_setBit_false _ _ _

/-- A fault of a gate channel, its source one of the hardware path, on a running station without a trip (17 R626, R643, 18 R658). -/
theorem Tail.gateFault_shown {ch cause evt src : Nat} (hch : ch < 6) (hcause : cause < 5) (hsrc : src < 3)
    (hlatch : t.g (PROT_LATCH.LATCH n) = 0) (hst : (t.stnGet n).sq.st = .running) :
    let r := (t.gateFault n ch cause evt src).finish
    r.g (MOD_STAT.CAUSE n) = cause ∧ r.g (MOD_STAT.HS_CH n) = ch ∧ (r.stnGet n).sq.st = .faulted ∧ (r.stnGet n).modu.gate = .off
      ∧ (r.stnGet n).modu.hwBlock = true ∧ r.g (PROT_LATCH.LATCH n) = 2 ^ src
      ∧ (r.stnGet n).modu.cmd &&& ~~~(npcS2 ||| npcS3) = 0 := by
  intro r
  obtain ⟨-, -, -, -, -, -, -, -, -, hprot, hlog, hsettle⟩ := gateFaultRegs n
  obtain ⟨hc, hh, hl, ha⟩ := Tail.faultBlocked_g (t := t) (n := n) evt src hch hcause
  let q := t.faultBlocked n ch cause evt src
  have hstq : (q.stnGet n).sq.st = .running := by
    simp [q, Tail.faultBlocked, Tail.hardwareFault, Tail.moduMap, hst]
  have harm : q.armedSrc n src = true := by
    have h4 : src ≠ 4 := by omega
    have h6 : src ≠ 6 := by omega
    have h14 : src ≠ 14 := by omega
    simp [Tail.armedSrc, hstq, h4, h6, h14, StnSt.isRunning]
  have hnever : q.sourceNever n src = false := by
    have h7 : src ≠ 7 := by omega
    have h11 : src ≠ 11 := by omega
    simp [Tail.sourceNever, h7, h11]
  have hcls : q.protClass n src = 0 := q.protClass_hardware hsrc
  obtain ⟨⟨b, w, hdown, hb, -⟩, hshown⟩ := Tail.assertSource_shown ha (hl.trans hlatch) hnever hstq harm hcls (by omega)
  have hr : r = ((q.assertSource n src).gateUpdate n).finish := congrArg Tail.finish (Tail.gateFault_first ch cause evt src hlatch)
  have honly : q.Only n ((q.assertSource n src).gateUpdate n) := Tail.only_gateUpdate (Tail.only_assertSource _ .refl)
  have hend : r.Down n b w := hr ▸ (hdown.gateUpdate n).finish
  have hrec := (hshown.frames (Tail.frames_gateUpdate n (.rfl _))).frames (Tail.frames_finish _)
  have hg (f : Fd) (hf : f.addr = (MOD_STAT.CAUSE n).addr) : r.g f = q.g f := by
    rw [hr, Tail.finish_g _ (by rw [hf, hlog]) (by rw [hf, hsettle]), honly.g_eq (by rw [hf, hprot])]
  refine ⟨(hg _ rfl).trans hc, (hg (MOD_STAT.HS_CH n) rfl).trans hh, hend.st, hend.gate, hend.hwBlock.trans (hb (by omega)), ?_, hend.cmd⟩
  rw [hr]
  exact hrec.latch

end

/-! ## The commands -/

section
variable {n : Stn} {ch : Fin 6} {s : State} (hfit : s.fs.fitted n.val = true) (hon : s.fs.on 6 = true)
include hfit hon

/-- An awaited off confirmation that took longer than those before (17 R625, R644). -/
theorem gateConfirmation_settles (hconf : (s.fs.stnGet n).modu.conf.getLsbD ch.val = false)
    (hcmd : (s.fs.stnGet n).modu.cmd.getLsbD ch.val = false)
    (hlong : s.fs.g (MOD_CONF.TICKS n) < s.fs.now - (s.fs.stnGet n).modu.edgeAt.toList.getD ch.val 0) :
    Settles (.gateConfirmation n ch.val false) s (((((s.fs.setFb n ch.val false).p (MOD_CONF.TICKS n)
      (min 0xFFFF (s.fs.now - (s.fs.stnGet n).modu.edgeAt.toList.getD ch.val 0))).p (MOD_CONF.CH n) ch.val).moduMap n (fun m =>
        { m with conf := m.conf ||| ((1 : BitVec 13) <<< ch.val) })).gateStep n) := by
  have hch : ch.val < 13 := by omega
  have htime : (s.fs.setFb n ch.val false).confTime n ch.val (s.fs.now - (s.fs.stnGet n).modu.edgeAt.toList.getD ch.val 0) =
      ((s.fs.setFb n ch.val false).p (MOD_CONF.TICKS n) (min 0xFFFF (s.fs.now - (s.fs.stnGet n).modu.edgeAt.toList.getD ch.val 0))).p
        (MOD_CONF.CH n) ch.val := if_pos hlong
  refine settles_of_tail _ rfl ((if_neg (by simp [hfit, hon, hch])).trans ((if_neg (by rw [Tail.usedCh_phase]; decide)).trans
    ((if_neg (by rw [hconf, Bool.and_false, Bool.false_and]; decide)).trans ((if_pos (by rw [hconf, hcmd]; rfl)).trans ?_))))
  exact congrArg (fun x : Tail => ((x.moduMap n fun m => { m with conf := m.conf ||| ((1 : BitVec 13) <<< ch.val) }).gateStep n).finish) htime

variable (hgate : (s.fs.stnGet n).modu.gate = .enabled) (hhard : s.fs.hardBlocked n = false)
include hgate hhard

theorem hsFault_tail (hconf : (s.fs.stnGet n).modu.conf.getLsbD ch.val = false) :
    Does (.hsFault n ch.val) s (((s.fs.elapseTo ((s.fs.stnGet n).modu.edgeAt.toList.getD ch.val 0 + s.fs.thsMax n)).gateFault n ch.val
      (if (s.fs.stnGet n).modu.cmd.getLsbD ch.val then 2 else 1) 0 2).finish) := by
  have hch : ch.val < 13 := by omega
  have hlive : s.fs.channelLive n = true := by simp [Tail.channelLive, hgate, hhard]
  exact does_of_tail _ rfl (if_neg (by rw [hfit, hon, decide_eq_true hch, Tail.usedCh_phase, hlive, hconf]; decide))

theorem departure_tail {gaps : List Nat} (hconf : (s.fs.stnGet n).modu.conf.getLsbD ch.val = true) :
    Does (.departure n ch.val gaps) s (s.fs.departure n ch.val gaps).finish := by
  have hch : ch.val < 13 := by omega
  have hlive : s.fs.channelLive n = true := by simp [Tail.channelLive, hgate, hhard]
  exact does_of_tail _ rfl (if_pos (by rw [hfit, hon, decide_eq_true hch, Tail.usedCh_phase, hlive, hconf]; decide))

end

/-- Settles O25. -/
theorem gateConfirmations : Obligations.GateConfirmations := by
  refine ⟨fun n ch s hfit hon hconf hcmd hlong => gateConfirmation_settles hfit hon hconf hcmd hlong,
    fun n ch s hfit hon hgate hhard hconf hst hlatch _ => ⟨_, hsFault_tail hfit hon hgate hhard hconf, ?_⟩,
    fun n ch gaps s hfit hon hgate hhard hconf hst hlatch _ => ⟨_, departure_tail hfit hon hgate hhard hconf, ?_⟩⟩
  · have hcause : (if (s.fs.stnGet n).modu.cmd.getLsbD ch.val then 2 else 1) < 5 := by split <;> decide
    refine Tail.gateFault_shown (src := 2) ch.isLt hcause (by decide) ?_ ?_
    · rw [Tail.elapseTo, Tail.elapse_g, hlatch]
    · rw [Tail.elapseTo, Tail.elapse_stnGet, hst]
  · let t := s.fs.setFb n ch.val (!(s.fs.stnGet n).modu.cmd.getLsbD ch.val)
    have hstt : (t.stnGet n).sq.st = .running := by
      obtain ⟨fb, low, h⟩ := Tail.setFb_modu (t := s.fs) (n := n) ch.val (!(s.fs.stnGet n).modu.cmd.getLsbD ch.val)
      rw [h]
      exact hst
    have hshown {cause evt src : Nat} (hcause : cause < 5) (hsrc : src < 3) :=
      Tail.gateFault_shown (evt := evt) ch.isLt hcause hsrc (show t.g (PROT_LATCH.LATCH n) = 0 from hlatch) hstt
    unfold Tail.departure
    dsimp only
    cases driverEdges gaps with
    | true =>
      obtain ⟨hc, hh, hs, hg, hb, hl, -⟩ := hshown (cause := 4) (evt := 1) (src := 0) (by decide) (by decide)
      exact ⟨hc, hh, hs, hg, hb, hl⟩
    | false =>
      obtain ⟨hc, hh, hs, hg, hb, hl, -⟩ := hshown (cause := 3) (evt := 2) (src := 1) (by decide) (by decide)
      exact ⟨hc, hh, hs, hg, hb, hl⟩

end Sys2Proof.Machine
end

section
/-! Settling O23: PWM bits, gate command updates, the inner switches and the chopper's time limit (14 R524 to R526, 17 R632 to R649). -/

namespace Sys2Proof.Machine

/-! ## What the end of a step leaves of one station -/

/-- `P` stays true of station `n` through each change of its own that the end of a step may consist of. -/
structure Tail.StnStays (n : Stn) (P : Station → Prop) : Prop where
  diagReturn : ∀ t : Tail, P (t.stnGet n) → P ((t.diagReturn n).stnGet n)
  settleStn : ∀ t : Tail, P (t.stnGet n) → P ((t.settleStn n).stnGet n)
  enterFaulted : ∀ (t : Tail) (c : Nat), P (t.stnGet n) → P ((t.enterFaulted n c).stnGet n)
  gateUpdate : ∀ t : Tail, P (t.stnGet n) → P ((t.gateUpdate n).stnGet n)

section
variable {n : Stn} {P : Station → Prop} {t : Tail}

/-- A change of one station leaves the others. -/
theorem stays_of_only {f : Tail → Stn → Tail} (honly : ∀ (t : Tail) (m : Stn), t.Only m (f t m))
    (hown : ∀ t : Tail, P (t.stnGet n) → P ((f t n).stnGet n)) (m : Stn) (h : P (t.stnGet n)) : P ((f t m).stnGet n) := by
  by_cases hm : n = m
  · exact hm ▸ hown t h
  · rw [(honly t m).stnGet_ne hm]
    exact h

variable (hP : Tail.StnStays n P)
include hP

theorem Tail.StnStays.diagReturns (m : Stn) (h : P (t.stnGet n)) : P ((t.diagReturn m).stnGet n) :=
  stays_of_only (fun _ _ => Tail.only_diagReturn .refl) hP.diagReturn m h

theorem Tail.StnStays.diagSettle (h : P (t.stnGet n)) : P (t.diagSettle.stnGet n) := by
  have habort : P (t.diagAbort.stnGet n) := by
    unfold Tail.diagAbort
    split
    · exact h
    · extract_lets m t1 _ d t2
      have h1 : t1.stnGet n = t.stnGet n := by
        unfold t1 Tail.diagPut
        dsimp only
        split
        · split
          · rfl
          · rfl
        · rfl
      have h2 : (t2.evt 0x25 2).stnGet n = t.stnGet n := (Tail.evt_stnGet _ _ _ _).trans h1
      exact hP.diagReturns m (h2 ▸ h)
  unfold Tail.diagSettle
  dsimp only
  split
  · split
    · exact habort
    · exact h
  · exact List.foldlRecOn (motive := fun r : Tail => P (r.stnGet n)) _ _ h fun r hr m _ => hP.diagReturns m hr

omit hP in
theorem Tail.setUnit_stnGet (us : UnitSt) : (t.setUnit us).stnGet n = t.stnGet n := by
  unfold Tail.setUnit
  split
  · rfl
  · rfl

theorem Tail.StnStays.enterFault (h : P (t.stnGet n)) : P (t.enterFault.stnGet n) := by
  have hset : (((t.setUnit .fault).evt 0x00 1).evt 0x20 0).stnGet n = t.stnGet n := by
    rw [Tail.evt_stnGet, Tail.evt_stnGet, Tail.setUnit_stnGet]
  unfold Tail.enterFault
  refine List.foldlRecOn (motive := fun r : Tail => P (r.stnGet n)) _ _ (List.foldlRecOn (motive := fun r : Tail => P (r.stnGet n)) _ _
    (hset ▸ h) fun r hr m _ => ?_) fun r hr g _ => ?_
  · split
    · exact stays_of_only (f := fun t m => t.enterFaulted m 1) (fun _ _ => Tail.only_enterFaulted _ .refl)
        (fun t ht => hP.enterFaulted t 1 ht) m hr
    · exact hr
  · split
    · exact hr
    · exact hr

theorem Tail.StnStays.settleUnit (h : P (t.stnGet n)) : P (t.settleUnit.stnGet n) := by
  have hset (us : UnitSt) : P ((t.setUnit us).stnGet n) := by rwa [Tail.setUnit_stnGet]
  unfold Tail.settleUnit
  split
  · exact hP.enterFault h
  · split
    · split
      · exact hset _
      · exact h
    · split
      · exact h
      · exact hset _
    · split
      · exact h
      · exact hset _
    · exact h

/-- What stays true of a station through its own changes holds of it at the end of the step. -/
theorem Tail.StnStays.finish (h : P (t.stnGet n)) : P (t.finish.stnGet n) := by
  have h1 : P ((t.diagSettle.stns.foldl (fun t n => t.settleStn n) t.diagSettle).stnGet n) :=
    List.foldlRecOn (motive := fun r : Tail => P (r.stnGet n)) _ _ (hP.diagSettle h) fun r hr m _ =>
      stays_of_only (fun _ _ => Tail.only_settleStn .refl) hP.settleStn m hr
  have h2 : P (t.settle.stnGet n) := by
    unfold Tail.settle
    exact List.foldlRecOn (motive := fun r : Tail => P (r.stnGet n)) _ _ (hP.settleUnit (hP.diagSettle h1)) fun r hr m _ =>
      stays_of_only (fun _ _ => Tail.only_gateUpdate .refl) hP.gateUpdate m hr
  have hstn : t.finish.stn = t.settle.stn :=
    show t.settle.logAll.unlogged.stn = t.settle.unlogged.stn by rw [(Tail.logs_logAll (.rfl t.settle)).1]
  have hget : t.finish.stnGet n = t.settle.stnGet n := congrArg (fun v : Vector Station 4 => v[n]) hstn
  rwa [hget]

end

/-! ## Compare values in effect -/

/-- The compare values are `c`, and none waits for its time. -/
def Station.Applied (c : CmpSet) (s : Station) : Prop := s.modu.cmp = c ∧ s.modu.next = none ∧ s.modu.applyAt = none

section
variable {n : Stn} {t r : Tail} {c : CmpSet}

/-- Within the frame of one station only what waits for its time may change. -/
theorem Tail.Only.applied (h : t.Only n r) (hnext : (r.stnGet n).modu.next = none) (ht : (t.stnGet n).Applied c) :
    (r.stnGet n).Applied c := by
  obtain ⟨hcmp, -, happly⟩ := ht
  have hbare := h.modu_bare
  have hc : (r.stnGet n).modu.bare.cmp = (t.stnGet n).modu.bare.cmp := by rw [hbare]
  have ha : (r.stnGet n).modu.bare.applyAt = (t.stnGet n).modu.bare.applyAt := by rw [hbare]
  exact ⟨hc.trans hcmp, hnext, ha.trans happly⟩

theorem Modu.blocked_next (m : Modu) (keep : BitVec 13) (now : Nat) : (m.blocked keep now).next = m.next := by
  unfold Modu.blocked
  split
  · rfl
  · rfl

theorem Tail.gateUpdate_next : ((t.gateUpdate n).stnGet n).modu.next = (t.stnGet n).modu.next := by
  unfold Tail.gateUpdate
  extract_lets m next t1
  have h1 : (t1.stnGet n).modu.next = (t.stnGet n).modu.next := by
    unfold t1
    split
    · rfl
    · simp [Tail.moduMap]
  have h2 : ((t1.blockGates n).stnGet n).modu.next = (t.stnGet n).modu.next := by
    rw [← h1, Tail.blockGates_eq, Tail.moduMap, Tail.stnMap_get]
    exact Modu.blocked_next _ _ _
  split
  · split
    · exact h1
    · exact h2
  · exact h1

theorem Tail.leaveRunning_next (st : StnSt) : ((t.leaveRunning n st).stnGet n).modu.next = none := by
  unfold Tail.leaveRunning
  extract_lets t1 t2
  rw [Tail.gateUpdate_next, Tail.moduMap, Tail.stnMap_get]

theorem Tail.calBegin_modu (w : CalFor) : ((t.calBegin n w).stnGet n).modu = (t.stnGet n).modu := by
  rw [Tail.calBegin, Tail.p_stnGet, Tail.isnsMap, Tail.stnMap_get]

theorem Tail.calAbandon_modu : ((t.calAbandon n).stnGet n).modu = (t.stnGet n).modu := by
  have hmap : ((t.isnsMap n fun i => { i with cal := .none, calT := none }).stnGet n).modu = (t.stnGet n).modu := by
    rw [Tail.isnsMap, Tail.stnMap_get]
  unfold Tail.calAbandon
  split
  · rfl
  · exact hmap
  · exact hmap

/-- Compare values in effect stay in effect to the end of the step. -/
theorem applied_stays (n : Stn) (c : CmpSet) : Tail.StnStays n (Station.Applied c) where
  diagReturn t h := by
    refine (Tail.only_diagReturn .refl).applied ?_ h
    unfold Tail.diagReturn
    split
    · rw [Tail.setSt_modu]
      exact h.2.1
    · exact h.2.1
  settleStn t h := by
    refine (Tail.only_settleStn .refl).applied ?_ h
    have hnext := h.2.1
    unfold Tail.settleStn
    dsimp only
    split
    · exact hnext
    · split
      · split
        · split
          · rwa [Tail.calBegin_modu]
          · exact hnext
        · split
          · rwa [Tail.calAbandon_modu]
          · exact hnext
      · split
        · exact hnext
        · rw [Tail.enterDisabled, Tail.calAbandon_modu]
          exact Tail.leaveRunning_next _
      · exact hnext
  enterFaulted t e h := by
    refine (Tail.only_enterFaulted _ .refl).applied ?_ h
    have hcause : ((((t.leaveRunning n .faulted).p (STN_STAT.CAUSE n) e).isnsMap n fun i =>
        { i with cal := .none, calT := none }).stnGet n).modu.next = none := by
      rw [Tail.isnsMap, Tail.stnMap_get]
      exact Tail.leaveRunning_next _
    unfold Tail.enterFaulted
    split
    · exact h.2.1
    · dsimp only
      split
      · rwa [Tail.evt_stnGet, Tail.evt_stnGet]
      · split
        · rwa [Tail.evt_stnGet, Tail.evt_stnGet]
        · rwa [Tail.evt_stnGet]
  gateUpdate t h := (Tail.only_gateUpdate .refl).applied (Tail.gateUpdate_next.trans h.2.1) h

/-! ## An output in time (14 R524, R526, 17 R632) -/

/-- The commands follow without a change of what is in effect. -/
theorem Tail.wantStep_applied (h : (t.stnGet n).Applied c) : ((t.wantStep n).stnGet n).Applied c := by
  have hstep (r : Tail) (hr : (r.stnGet n).Applied c) : ((r.gateStep n).stnGet n).Applied c := by
    refine (Tail.only_gateStep .refl).applied ?_ hr
    unfold Tail.gateStep Tail.moduMap
    rw [Tail.stnMap_get]
    exact (apply_ite (fun m : Modu => m.next) _ _ _).trans ((ite_self _).trans hr.2.1)
  unfold Tail.wantStep
  dsimp only
  split
  · exact h
  · refine hstep _ ?_
    rw [Tail.moduMap, Tail.stnMap_get]
    exact h

theorem Tail.wantStep_g (f : Fd) : (t.wantStep n).g f = t.g f := by
  unfold Tail.wantStep
  split
  · rfl
  · rfl

theorem Tail.wantStep_now : (t.wantStep n).now = t.now := by
  unfold Tail.wantStep
  split
  · rfl
  · rfl

theorem applyRegs (n : Stn) : (STRC_APPLY.LAST n).ok ∧ (STRC_APPLY.MAX n).ok ∧ (STRC_APPLY.MAX n).apart (STRC_APPLY.LAST n)
    ∧ (STN_DL.DL_COUNT n).addr ≠ (STRC_APPLY.LAST n).addr ∧ logReg (STRC_APPLY.LAST n).addr = false
    ∧ settleRegs.contains (STRC_APPLY.LAST n).addr = false ∧ logReg (STN_DL.DL_COUNT n).addr = false
    ∧ settleRegs.contains (STN_DL.DL_COUNT n).addr = false := by
  revert n
  decide

/-- The distance of the application from the sample instant, and its greatest (14 R526). -/
def Tail.applyTimed (t : Tail) (n : Stn) (d : Nat) : Tail :=
  (t.p (STRC_APPLY.LAST n) d).p (STRC_APPLY.MAX n) (max d (t.g (STRC_APPLY.MAX n)))

/-- The PWM bits that stay on in the regions `po` (17 R632, R635). -/
def pwmMask (npc : Bool) (po : BitVec 3) : BitVec 13 :=
  let s1 : BitVec 13 := BitVec.ofNat 13 (b2n (po.getLsbD 0) + 16 * b2n (po.getLsbD 1) + 256 * b2n (po.getLsbD 2))
  if npc then s1 ||| ((s1 ^^^ npcS1) <<< 3) ||| 0x1000 else 0x1015

theorem Tail.applyCmp_eq (t : Tail) (n : Stn) (c : CmpSet) : t.applyCmp n c =
    ((t.applyTimed n (min 0xFFFE (t.now - (t.stnGet n).modu.sampleAt))).moduMap n fun m =>
      { m with cmp := c, next := none, applyAt := none, pwm := m.pwm &&& pwmMask (t.cfb (MOD_CFG.TOPO n)) c.po }).wantStep n := rfl

theorem Tail.applyTimed_g {d : Nat} (hd : d < 2 ^ 16) : (t.applyTimed n d).g (STRC_APPLY.LAST n) = d
    ∧ (t.applyTimed n d).g (STN_DL.DL_COUNT n) = t.g (STN_DL.DL_COUNT n) := by
  obtain ⟨hlast, hmax, hapart, hne, -⟩ := applyRegs n
  unfold Tail.applyTimed
  refine ⟨?_, ?_⟩
  · rw [Tail.g_p_apart _ _ hmax hlast (.inr hapart), Tail.g_p _ _ hlast]
    exact Nat.mod_eq_of_lt hd
  · rw [Tail.g_p_ne (f := STRC_APPLY.MAX n) _ _ hne, Tail.g_p_ne _ _ hne]

theorem Tail.applyCmp_applied (c : CmpSet) : ((t.applyCmp n c).stnGet n).Applied c := by
  rw [Tail.applyCmp_eq]
  refine Tail.wantStep_applied ?_
  rw [Tail.moduMap, Tail.stnMap_get]
  exact ⟨rfl, rfl, rfl⟩

theorem Tail.applyCmp_g (c : CmpSet) (f : Fd) :
    (t.applyCmp n c).g f = (t.applyTimed n (min 0xFFFE (t.now - (t.stnGet n).modu.sampleAt))).g f := by
  rw [Tail.applyCmp_eq, Tail.wantStep_g, Tail.moduMap_g]

theorem Tail.applyCmp_now (c : CmpSet) : (t.applyCmp n c).now = t.now := by
  rw [Tail.applyCmp_eq, Tail.wantStep_now, Tail.moduMap, Tail.stnMap_now, Tail.applyTimed, Tail.p_now, Tail.p_now]

end

/-! ## The commands -/

/-- What turns off is off (17 R645). -/
theorem Modu.edges_all_off (m : Modu) (now : Nat) : (m.edges m.cmd 0 now).cmd = 0 := by
  show (m.cmd &&& ~~~m.cmd) ||| 0#13 = 0#13
  rw [BitVec.and_not_self, BitVec.or_zero]
  rfl

section
variable {n : Stn} {s : State}

/-- An output that is in time takes effect. -/
theorem gateCommandUpdate_inTime {c : CmpSet} {d : Nat} (hnext : (s.fs.stnGet n).modu.next = some c)
    (happly : (s.fs.stnGet n).modu.applyAt = some d) :
    ∃ r : Tail, Does (.gateCommandUpdate n false) s r ∧ (r.stnGet n).modu.cmp = c ∧ (r.stnGet n).modu.next = none
      ∧ (r.stnGet n).modu.applyAt = none
      ∧ r.now = s.fs.now + (d - s.fs.now)
      ∧ r.g (STRC_APPLY.LAST n) = min 0xFFFE (s.fs.now + (d - s.fs.now) - (s.fs.stnGet n).modu.sampleAt)
      ∧ r.g (STN_DL.DL_COUNT n) = s.fs.g (STN_DL.DL_COUNT n) := by
  obtain ⟨-, -, -, -, hllog, hlset, hclog, hcset⟩ := applyRegs n
  have hdoes : Does (.gateCommandUpdate n false) s ((s.fs.elapseTo d).applyCmp n c).finish := by
    refine does_of_tail _ rfl ?_
    simp only [hnext, happly]
    rfl
  have hnow : (s.fs.elapseTo d).now = s.fs.now + (d - s.fs.now) := s.fs.elapse_now _
  have hat : ((s.fs.elapseTo d).stnGet n).modu.sampleAt = (s.fs.stnGet n).modu.sampleAt := by rw [Tail.elapseTo, Tail.elapse_stnGet]
  obtain ⟨hcmp, hnext', happly'⟩ := (applied_stays n c).finish ((s.fs.elapseTo d).applyCmp_applied (n := n) c)
  obtain ⟨hlast, hcount⟩ := Tail.applyTimed_g (t := s.fs.elapseTo d) (n := n)
    (d := min 0xFFFE (s.fs.now + (d - s.fs.now) - (s.fs.stnGet n).modu.sampleAt)) (Nat.lt_of_le_of_lt (Nat.min_le_left _ _) (by decide))
  refine ⟨_, hdoes, hcmp, hnext', happly', ?_, ?_, ?_⟩
  · rw [(Tail.frames_finish _).keepsClocks.now, Tail.applyCmp_now, hnow]
  · rw [Tail.finish_g _ hllog hlset, Tail.applyCmp_g, hnow, hat, hlast]
  · rw [Tail.finish_g _ hclog hcset, Tail.applyCmp_g, hnow, hat, hcount, Tail.elapseTo_g]

end

/-- Settles O23. -/
theorem modulationAndChopper : Obligations.ModulationAndChopper := by
  refine ⟨fun n s hfit hon hgate hhard htopo hpwm hcmp => does_of_tail _ rfl ?_,
    fun n c d s hnext happly => gateCommandUpdate_inTime hnext happly, fun n c s hnext happly => settles_of_tail _ rfl ?_,
    fun n d s hinner => ⟨does_of_tail _ rfl ?_, fun m => m.edges_all_off _⟩,
    fun n a s hfit hon hchop hmax hoff => settles_of_tail _ rfl ?_, fun n a s hchop hcmd hoff => does_of_tail _ rfl ?_⟩
  · have hlive : s.fs.gatesLive n = true := by simp [Tail.gatesLive, hgate, hhard]
    have hphase : s.fs.pwmPhase n 0 = some 0 := by simp [Tail.pwmPhase, Tail.cfb, htopo]
    refine (if_neg (by simp [hfit, hon, hlive])).trans ((if_neg (by decide)).trans ?_)
    simp only [hphase]
    exact (if_pos (by rw [hpwm]; simp [hcmp])).trans rfl
  · simp only [hnext, happly]
    rfl
  · simp only [hinner, Tail.elapseTo, Tail.elapse_now]
  · have htm : ¬ s.fs.cf (MOD_CHOPF.TMAX n) * ms1 = 0 := by
      have : ms1 ≠ 0 := by decide
      exact Nat.mul_ne_zero hmax this
    have hno : (!(s.fs.stnGet n).modu.cmd.getLsbD 12
        && decide ((s.fs.stnGet n).modu.chopOffAt + ms1 ≤ max s.fs.now (a + s.fs.cf (MOD_CHOPF.TMAX n) * ms1))) = false := by
      rcases hoff with hoff | hoff
      · rw [hoff]
        rfl
      · exact Bool.and_eq_false_iff.mpr (.inr (decide_eq_false (Nat.not_le.mpr hoff)))
    simp only [hchop]
    refine (if_neg ?_).trans ?_
    · rw [hno, decide_eq_false htm, hfit, hon]
      decide
    · rw [Tail.elapseTo, Tail.elapse_now]
      rfl
  · have hyes : (!(s.fs.stnGet n).modu.cmd.getLsbD 12
        && decide ((s.fs.stnGet n).modu.chopOffAt + ms1 ≤ max s.fs.now (a + s.fs.cf (MOD_CHOPF.TMAX n) * ms1))) = true := by
      rw [hcmd]
      exact decide_eq_true hoff
    simp only [hchop]
    exact if_pos (by rw [hyes, Bool.or_true, Bool.true_or])

end Sys2Proof.Machine
end

section
/-! Settling O31: bank swaps, COPY and the trigger engine (14 R533 to R552). -/

namespace Sys2Proof.Machine

/-! ## COPY (14 R542) -/

/-- Registers that no pair of a list writes keep their words while the list is copied. -/
theorem Tail.copyWords_ne (l : List (Nat × Nat)) (a : Nat) (h : ∀ e ∈ l, a ≠ e.2) (t : Tail) :
    (l.foldl (fun t e => t.setWord e.2 (t.word e.1)) t).word a = t.word a := by
  induction l generalizing t with
  | nil => rfl
  | cons e l ih =>
    rw [List.foldl_cons, ih (fun x hx => h x (.tail _ hx)), Tail.setWord_word_ne _ _ _ _ (h e (.head _))]

/-- A copy between registers apart takes every word as it stood. -/
theorem Tail.copyWords (l : List (Nat × Nat)) (hnodup : (l.map Prod.snd).Nodup) (hapart : ∀ e ∈ l, ∀ e' ∈ l, e.1 ≠ e'.2) (t : Tail) :
    ∀ e ∈ l, (l.foldl (fun t e => t.setWord e.2 (t.word e.1)) t).word e.2 = t.word e.1 := by
  induction l generalizing t with
  | nil => exact fun _ h => absurd h List.not_mem_nil
  | cons x l ih =>
    intro e he
    obtain ⟨hx, hl⟩ := List.nodup_cons.mp hnodup
    rw [List.foldl_cons]
    rcases List.mem_cons.mp he with rfl | he
    · rw [Tail.copyWords_ne l _ (fun y hy hxy => hx (List.mem_map.mpr ⟨y, hy, hxy.symm⟩))]
      exact smGet_smSet_self _ _ _ _
    · rw [ih hl (fun y hy z hz => hapart y (.tail _ hy) z (.tail _ hz)) _ e he,
        Tail.setWord_word_ne _ _ _ _ (hapart e (.tail _ he) x (.head _))]

/-- The copies of bank A stand apart from each other and from what they copy. -/
theorem bankPairs_apart (n : Stn) : ((bankPairs n).map Prod.snd).Nodup ∧ ∀ e ∈ bankPairs n, ∀ e' ∈ bankPairs n, e.1 ≠ e'.2 := by
  revert n
  decide

/-! ## A host request outside the running states (14 R534, R535) -/

/-- The fields of BNKA_STAT that a request and a swap write, but for one. -/
def bankFields (n : Stn) : List Fd :=
  [BNKA_STAT.ACT_CUR n, BNKA_STAT.ACT_SO n, BNKA_STAT.HPEND n, BNKA_STAT.HP_BANK n, BNKA_STAT.HP_SCOPE n, BNKA_STAT.SWAPS n,
    BNKA_STAT.LAST_SRC n]

/-- They stand apart in one register. -/
theorem bankFields_apart (n : Stn) : (∀ f ∈ bankFields n, f.ok ∧ f.addr ≠ (PG_EVT.EVT (stnPage n 9)).addr)
    ∧ ∀ f ∈ bankFields n, ∀ g ∈ bankFields n, f ≠ g → f.apart g := by
  revert n
  decide

theorem bankFields_ne (n : Stn) : (bankFields n).Nodup := by revert n; decide

theorem b2n_mod_two (b : Bool) : b2n b % 2 ^ 1 = b2n b := by cases b <;> rfl

section
variable {t : Tail} {n : Stn}

/-- A field of BNKA_STAT after another was written. -/
theorem Tail.bank_p_ne {f g : Fd} (x : Nat) (hf : f ∈ bankFields n) (hg : g ∈ bankFields n) (h : f ≠ g) : (t.p f x).g g = t.g g :=
  t.g_p_apart x ((bankFields_apart n).1 f hf).1 ((bankFields_apart n).1 g hg).1 (.inr ((bankFields_apart n).2 f hf g hg h))

/-- A one-bit field is the number of its bit. -/
theorem Tail.g_of_bit {f : Fd} (hf : f.ok) (hw : f.width = 1) : t.g f = b2n (t.b f) := by
  have hlt : t.g f < 2 ^ 1 := hw ▸ fdGet_lt hf _
  unfold Tail.b
  rcases (show t.g f = 0 ∨ t.g f = 1 by omega) with h | h <;> rw [h] <;> rfl

/-- A swap takes the banks named, and leaves the request (14 R532, R533). -/
theorem Tail.swapTo_g (cur so : Option Bool) (src bit : Nat) :
    (t.swapTo n cur so src bit).g (BNKA_STAT.ACT_CUR n) = b2n (cur.getD (t.b (BNKA_STAT.ACT_CUR n)))
      ∧ (t.swapTo n cur so src bit).g (BNKA_STAT.ACT_SO n) = b2n (so.getD (t.b (BNKA_STAT.ACT_SO n)))
      ∧ (t.swapTo n cur so src bit).g (BNKA_STAT.HPEND n) = t.g (BNKA_STAT.HPEND n) := by
  obtain ⟨hcur, hso, hpend, hswaps, hlast⟩ : BNKA_STAT.ACT_CUR n ∈ bankFields n ∧ BNKA_STAT.ACT_SO n ∈ bankFields n
      ∧ BNKA_STAT.HPEND n ∈ bankFields n ∧ BNKA_STAT.SWAPS n ∈ bankFields n ∧ BNKA_STAT.LAST_SRC n ∈ bankFields n := by
    simp [bankFields]
  have hne := bankFields_ne n
  simp only [bankFields, List.nodup_cons, List.mem_cons, List.not_mem_nil, not_or, or_false] at hne
  obtain ⟨⟨hcs, hcp, -, -, hcw, hcl⟩, ⟨hsp, -, -, hsw, hsl⟩, ⟨-, -, hpw, hpl⟩, -⟩ := hne
  have hok := fun f hf => ((bankFields_apart n).1 f hf).1
  unfold Tail.swapTo
  extract_lets c s
  split
  · next hsame =>
    obtain ⟨hc, hs⟩ := Bool.and_eq_true_iff.mp hsame
    refine ⟨?_, ?_, rfl⟩
    · exact (Tail.g_of_bit (hok _ hcur) rfl).trans (congrArg b2n (of_decide_eq_true hc).symm)
    · exact (Tail.g_of_bit (hok _ hso) rfl).trans (congrArg b2n (of_decide_eq_true hs).symm)
  · have hevt (r : Tail) (f : Fd) (hf : f ∈ bankFields n) : (r.evt (stnPage n 9) bit).g f = r.g f :=
      Tail.g_evt_ne _ _ _ ((bankFields_apart n).1 f hf).2
    refine ⟨?_, ?_, ?_⟩
    · rw [hevt _ _ hcur, Tail.bank_p_ne _ hlast hcur (Ne.symm hcl), Tail.inc_eq, Tail.bank_p_ne _ hswaps hcur (Ne.symm hcw), Tail.pb,
        Tail.bank_p_ne _ hso hcur (Ne.symm hcs), Tail.pb, Tail.g_p _ _ (hok _ hcur)]
      exact b2n_mod_two _
    · rw [hevt _ _ hso, Tail.bank_p_ne _ hlast hso (Ne.symm hsl), Tail.inc_eq, Tail.bank_p_ne _ hswaps hso (Ne.symm hsw), Tail.pb,
        Tail.g_p _ _ (hok _ hso)]
      exact b2n_mod_two _
    · rw [hevt _ _ hpend, Tail.bank_p_ne _ hlast hpend (Ne.symm hpl), Tail.inc_eq, Tail.bank_p_ne _ hswaps hpend (Ne.symm hpw), Tail.pb,
        Tail.bank_p_ne _ hso hpend hsp, Tail.pb, Tail.bank_p_ne _ hcur hpend hcp]

/-- The host's request takes effect for the groups of its scope (14 R533, R534). -/
theorem Tail.swapHost_g (hpend : t.g (BNKA_STAT.HPEND n) = 1) :
    (t.swapHost n).g (BNKA_STAT.HPEND n) = 0
      ∧ (t.swapHost n).g (BNKA_STAT.ACT_CUR n)
        = (if t.g (BNKA_STAT.HP_SCOPE n) = 1 then t.g (BNKA_STAT.ACT_CUR n) else t.g (BNKA_STAT.HP_BANK n))
      ∧ (t.swapHost n).g (BNKA_STAT.ACT_SO n)
        = (if t.g (BNKA_STAT.HP_SCOPE n) = 0 then t.g (BNKA_STAT.ACT_SO n) else t.g (BNKA_STAT.HP_BANK n)) := by
  obtain ⟨hcur, hso, hpendm, hbank⟩ : BNKA_STAT.ACT_CUR n ∈ bankFields n ∧ BNKA_STAT.ACT_SO n ∈ bankFields n
      ∧ BNKA_STAT.HPEND n ∈ bankFields n ∧ BNKA_STAT.HP_BANK n ∈ bankFields n := by
    simp [bankFields]
  have hne := bankFields_ne n
  simp only [bankFields, List.nodup_cons, List.mem_cons, List.not_mem_nil, not_or, or_false] at hne
  obtain ⟨⟨-, hcp, -⟩, ⟨hsp, -⟩, -⟩ := hne
  have hok := fun f hf => ((bankFields_apart n).1 f hf).1
  let r := t.p (BNKA_STAT.HPEND n) 0
  let b := t.b (BNKA_STAT.HP_BANK n)
  let sc := t.g (BNKA_STAT.HP_SCOPE n)
  have heq : t.swapHost n = r.swapTo n (if scopeCur sc then some b else none) (if scopeSo sc then some b else none) 1 1 := by
    refine if_neg ?_
    rw [Tail.b, hpend]
    decide
  have hg {f : Fd} (hf : f ∈ bankFields n) (h : BNKA_STAT.HPEND n ≠ f) : r.g f = t.g f := Tail.bank_p_ne _ hpendm hf h
  have hb {f : Fd} (hf : f ∈ bankFields n) (h : BNKA_STAT.HPEND n ≠ f) : r.b f = t.b f := congrArg (· != 0) (hg hf h)
  obtain ⟨h1, h2, h3⟩ := Tail.swapTo_g (t := r) (n := n) (if scopeCur sc then some b else none) (if scopeSo sc then some b else none) 1 1
  rw [heq]
  refine ⟨h3.trans (t.g_p _ (hok _ hpendm)), h1.trans ?_, h2.trans ?_⟩
  · rw [hb hcur (Ne.symm hcp), Tail.g_of_bit (hok _ hcur) rfl, Tail.g_of_bit (hok _ hbank) rfl]
    by_cases h : sc = 1
    · rw [if_pos h, h]
      rfl
    · rw [if_neg h, show scopeCur sc = true by simp [scopeCur, h]]
      rfl
  · rw [hb hso (Ne.symm hsp), Tail.g_of_bit (hok _ hso) rfl, Tail.g_of_bit (hok _ hbank) rfl]
    by_cases h : sc = 0
    · rw [if_pos h, h]
      rfl
    · rw [if_neg h, show scopeSo sc = true by simp [scopeSo, h]]
      rfl

/-- A request of the host is held with its bank and scope (14 R534). -/
def Tail.bankAsked (t : Tail) (n : Stn) (w : Word) : Tail :=
  (((t.p (BNKA_STAT.HPEND n) 1).p (BNKA_STAT.HP_BANK n) (fdGet (BNKA_SWAP.BANK n) w)).p (BNKA_STAT.HP_SCOPE n)
    (fdGet (BNKA_SWAP.SCOPE n) w)).banksMap n fun b => { b with reqAt := t.ftCe }

theorem Tail.bnkaSwap_eq {w : Word} (h : fdGet (BNKA_SWAP.REQ n) w = 1) :
    t.bnkaSwap n w = if (t.stnGet n).sq.st.isRunning then t.bankAsked n w else (t.bankAsked n w).swapHost n := by
  have hst : ((t.bankAsked n w).stnGet n).sq.st = (t.stnGet n).sq.st := by
    unfold Tail.bankAsked
    rw [Tail.banksMap, Tail.stnMap_get]
    rfl
  rw [← hst]
  exact if_neg (by rw [h]; decide)

theorem swapRegs (n : Stn) : (BNKA_SWAP.BANK n).ok ∧ (BNKA_SWAP.SCOPE n).ok
    ∧ (BNKA_SWAP.BANK n).width = (BNKA_STAT.HP_BANK n).width ∧ (BNKA_SWAP.SCOPE n).width = (BNKA_STAT.HP_SCOPE n).width := by
  revert n
  decide

theorem Tail.banksMap_g (f : Banks → Banks) (x : Fd) : (t.banksMap n f).g x = t.g x := rfl

theorem Tail.bankAsked_g (w : Word) : (t.bankAsked n w).g (BNKA_STAT.HPEND n) = 1
    ∧ (t.bankAsked n w).g (BNKA_STAT.HP_BANK n) = fdGet (BNKA_SWAP.BANK n) w
    ∧ (t.bankAsked n w).g (BNKA_STAT.HP_SCOPE n) = fdGet (BNKA_SWAP.SCOPE n) w
    ∧ (t.bankAsked n w).g (BNKA_STAT.ACT_CUR n) = t.g (BNKA_STAT.ACT_CUR n)
    ∧ (t.bankAsked n w).g (BNKA_STAT.ACT_SO n) = t.g (BNKA_STAT.ACT_SO n) := by
  obtain ⟨hcur, hso, hpend, hbank, hscope⟩ : BNKA_STAT.ACT_CUR n ∈ bankFields n ∧ BNKA_STAT.ACT_SO n ∈ bankFields n
      ∧ BNKA_STAT.HPEND n ∈ bankFields n ∧ BNKA_STAT.HP_BANK n ∈ bankFields n ∧ BNKA_STAT.HP_SCOPE n ∈ bankFields n := by
    simp [bankFields]
  have hne := bankFields_ne n
  simp only [bankFields, List.nodup_cons, List.mem_cons, List.not_mem_nil, not_or, or_false] at hne
  obtain ⟨⟨-, hcp, hcb, hcs, -⟩, ⟨hsp, hsb, hss, -⟩, ⟨hpb, hps, -⟩, ⟨hbs, -⟩, -⟩ := hne
  have hok := fun f hf => ((bankFields_apart n).1 f hf).1
  obtain ⟨hbok, hsok, hbw, hsw⟩ := swapRegs n
  have hbank' := fdGet_lt hbok w
  have hscope' := fdGet_lt hsok w
  rw [hbw] at hbank'
  rw [hsw] at hscope'
  have hg (f : Fd) : (t.bankAsked n w).g f = (((t.p (BNKA_STAT.HPEND n) 1).p (BNKA_STAT.HP_BANK n)
      (fdGet (BNKA_SWAP.BANK n) w)).p (BNKA_STAT.HP_SCOPE n) (fdGet (BNKA_SWAP.SCOPE n) w)).g f := by
    rw [Tail.bankAsked, Tail.banksMap_g]
  rw [hg, hg, hg, hg, hg]
  refine ⟨?_, ?_, ?_, ?_, ?_⟩
  · rw [Tail.bank_p_ne _ hscope hpend (Ne.symm hps), Tail.bank_p_ne _ hbank hpend (Ne.symm hpb), Tail.g_p _ _ (hok _ hpend)]
    rfl
  · rw [Tail.bank_p_ne _ hscope hbank (Ne.symm hbs), Tail.g_p _ _ (hok _ hbank)]
    exact Nat.mod_eq_of_lt hbank'
  · rw [Tail.g_p _ _ (hok _ hscope)]
    exact Nat.mod_eq_of_lt hscope'
  · rw [Tail.bank_p_ne _ hscope hcur (Ne.symm hcs), Tail.bank_p_ne _ hbank hcur (Ne.symm hcb), Tail.bank_p_ne _ hpend hcur (Ne.symm hcp)]
  · rw [Tail.bank_p_ne _ hscope hso (Ne.symm hss), Tail.bank_p_ne _ hbank hso (Ne.symm hsb), Tail.bank_p_ne _ hpend hso (Ne.symm hsp)]

end

/-! ## The trigger engine (14 R551, R552) -/

section
variable {t : Tail}

/-- The registers of a trigger. -/
theorem trigRegs : TRC_STAT.STATE.ok ∧ TRC_STAT.CAUSE.ok ∧ TRC_STAT.TSTN.ok ∧ TRC_TFT_LO.FT.ok ∧ TRC_TFT_HI.FT.ok ∧ TRC_TSSEQ.SSEQ.ok
    ∧ TRC_STAT.CAUSE.apart TRC_STAT.STATE ∧ TRC_STAT.TSTN.apart TRC_STAT.STATE ∧ TRC_STAT.TSTN.apart TRC_STAT.CAUSE := by
  decide

/-- The registers that a trigger writes. -/
def Tail.trigWritten (t : Tail) (cause stn : Nat) (ssn : Word) : Tail :=
  (((((t.p TRC_STAT.STATE 2).p TRC_STAT.CAUSE cause).p TRC_STAT.TSTN stn).p TRC_TFT_LO.FT t.ftCe.toNat).p TRC_TFT_HI.FT
    (t.ftCe.toNat / 2 ^ 32)).p TRC_TSSEQ.SSEQ ssn.toNat

theorem Tail.trigger_eq (cause stn node value : Nat) (ssn : Word) : t.trigger cause stn node value ssn =
    ({ t.trigWritten cause stn ssn with
      trc := { t.trc with cause := cause, tstn := stn, node := node, value := value, marks := BitVec.allOnes 32 } } : Tail).evt 0x38 0 := rfl

theorem Tail.withTrc_g (x : Trc) (f : Fd) : ({ t with trc := x } : Tail).g f = t.g f := rfl

/-- What a trigger shows (14 R552). -/
theorem Tail.trigger_g (node value : Nat) (ssn : Word) : let r := t.trigger 1 0 node value ssn
    r.g TRC_STAT.STATE = 2 ∧ r.g TRC_STAT.CAUSE = 1 ∧ r.g TRC_TFT_LO.FT = t.ftCe.toNat % 2 ^ 32
      ∧ r.g TRC_TFT_HI.FT = t.ftCe.toNat / 2 ^ 32 ∧ r.g TRC_TSSEQ.SSEQ = ssn.toNat ∧ r.evtBit 0x38 0 = true := by
  intro r
  obtain ⟨hst, hca, hts, hlo, hhi, hss, hcs, htst, htc⟩ := trigRegs
  have hg (f : Fd) (hf : f.addr ≠ (PG_EVT.EVT 0x38).addr) : r.g f = (t.trigWritten 1 0 ssn).g f := by
    show (t.trigger 1 0 node value ssn).g f = _
    rw [Tail.trigger_eq, Tail.g_evt_ne _ _ _ hf, Tail.withTrc_g]
  have hhigh : t.ftCe.toNat / 2 ^ 32 < 2 ^ 32 := by
    have := t.ftCe.isLt
    omega
  refine ⟨?_, ?_, ?_, ?_, ?_, Tail.evt_sets _ _ (by decide)⟩
  · rw [hg _ (by decide), Tail.trigWritten, Tail.g_p_ne _ _ (by decide), Tail.g_p_ne _ _ (by decide), Tail.g_p_ne _ _ (by decide),
      Tail.g_p_apart _ _ hts hst (.inr htst), Tail.g_p_apart _ _ hca hst (.inr hcs), Tail.g_p _ _ hst]
    rfl
  · rw [hg _ (by decide), Tail.trigWritten, Tail.g_p_ne _ _ (by decide), Tail.g_p_ne _ _ (by decide), Tail.g_p_ne _ _ (by decide),
      Tail.g_p_apart _ _ hts hca (.inr htc), Tail.g_p _ _ hca]
    rfl
  · rw [hg _ (by decide), Tail.trigWritten, Tail.g_p_ne _ _ (by decide), Tail.g_p_ne _ _ (by decide), Tail.g_p _ _ hlo]
    rfl
  · rw [hg _ (by decide), Tail.trigWritten, Tail.g_p_ne _ _ (by decide), Tail.g_p _ _ hhi]
    exact Nat.mod_eq_of_lt hhigh
  · rw [hg _ (by decide), Tail.trigWritten, Tail.g_p _ _ hss]
    exact Nat.mod_eq_of_lt ssn.isLt

end

/-! ## The commands -/

section
variable {s : State} {n : Stn}

theorem bnkaSwap_settles {word : Word} {r : Tail} (hfit : s.fs.fitted n.val = true) (hon : s.fs.on 5 = true)
    (h : s.fs.bnkaSwap n word = r) : Settles (.bnkaSwap n word) s r :=
  settles_of_tail _ rfl ((if_pos (by simp [hfit, hon])).trans (congrArg Tail.finish h))

/-- COPY with both groups on bank A (14 R542). -/
theorem copy_does (hfit : s.fs.fitted n.val = true) (hon : s.fs.on 3 = true) (hcur : s.fs.g (BNKA_STAT.ACT_CUR n) = 0)
    (hso : s.fs.g (BNKA_STAT.ACT_SO n) = 0) : Does (.copy n) s (s.fs.commit fun t => t.bankCopy n) :=
  does_of_tail _ rfl (if_pos (by simp [hfit, hon, Tail.copyMay, Tail.b, hcur, hso]))

/-- Whose store sequence number is one higher, and nothing else. -/
theorem copy_ssn (t : Tail) (n : Stn) : (t.bankCopy n).ssn = t.ssn :=
  List.foldlRecOn (motive := fun r : Tail => r.ssn = t.ssn) _ _ rfl fun _ hr _ _ => hr

end

/-- Settles O31. -/
theorem banksAndTrigger : Obligations.BanksAndTrigger := by
  refine ⟨fun n word s hfit hon hreq => ⟨fun hrun => ?_, fun hrun => bnkaSwap_settles hfit hon ?_⟩,
    fun n d r e s hret ht => does_of_tail _ rfl ?_, fun n s hfit hon hcur hso => ?_, fun n s hbank => does_of_tail _ rfl (if_neg ?_),
    fun s hon hen hst => settles_of_tail _ rfl ((if_pos hon).trans (congrArg Tail.finish ?_)), fun s hon hen hst => ?_,
    fun s hon => settles_of_tail _ rfl (if_pos hon), fun s hst => settles_of_tail _ rfl (if_neg (by rw [hst]; decide))⟩
  · obtain ⟨hpend, hbank, hscope, hcur, hso⟩ := Tail.bankAsked_g (t := s.fs) (n := n) word
    obtain ⟨h1, h2, h3⟩ := Tail.swapHost_g hpend
    rw [hscope, hbank] at h2 h3
    refine ⟨_, bnkaSwap_settles hfit hon ((Tail.bnkaSwap_eq hreq).trans (if_neg (by rw [hrun]; decide))), h1, ?_, ?_⟩
    · rw [h2, hcur]
    · rw [h3, hso]
  · exact (Tail.bnkaSwap_eq hreq).trans (if_pos hrun)
  · simp only [hret, ht]
    rfl
  · obtain ⟨hnodup, hapart⟩ := bankPairs_apart n
    refine ⟨_, copy_does hfit hon hcur hso, ?_, fun e he => ?_, fun a ha => ?_⟩
    · rw [Tail.commit_ssn, copy_ssn]
    · rw [Tail.commit_word]
      exact Tail.copyWords _ hnodup hapart _ e he
    · rw [Tail.commit_word]
      exact Tail.copyWords_ne _ _ ha _
  · rcases hbank with h | h <;> simp [Tail.copyMay, Tail.b, h]
  · have harm : ({ s.fs with ssn := s.fs.ssn + 1 } : Tail).trcArm = { ({ s.fs with ssn := s.fs.ssn + 1 } : Tail).p TRC_STAT.STATE 1 with
        trc := { s.fs.trc with armAt := s.fs.ft.toNat, prev := none } } := by
      refine if_pos ?_
      have h : (s.fs.enabled 0x38 && (s.fs.g TRC_STAT.STATE = 0 || s.fs.g TRC_STAT.STATE = 3)) = true := by simpa [hen] using hst
      exact h
    exact congrArg Tail.seal harm
  · have hforce : ({ s.fs with ssn := s.fs.ssn + 1 } : Tail).trcForce =
        ({ s.fs with ssn := s.fs.ssn + 1 } : Tail).trigger 1 0 0 0 (s.fs.ssn + 1) := by
      refine if_pos ?_
      have h : (s.fs.enabled 0x38 && s.fs.g TRC_STAT.STATE = 1) = true := by simp [hen, hst]
      exact h
    refine ⟨_, settles_of_tail _ rfl ((if_pos hon).trans (congrArg (fun x : Tail => x.seal.finish) hforce)), ?_⟩
    exact Tail.trigger_g (t := { s.fs with ssn := s.fs.ssn + 1 }) 0 0 (s.fs.ssn + 1)

end Sys2Proof.Machine
end

section
/-! Settling O29: the fast analogue inputs, stuck inputs, offset calibration and tracking (12 R468 to R484). -/

namespace Sys2Proof.Machine

/-! ## The fast analogue inputs (12 R468 to R472) -/

/-- Codes within the range of their width stay. -/
theorem satS_of_lt {code : Int} (hlo : -32768 < code) (hhi : code < 32767) : satS 16 code = code := by
  unfold satS
  have h : ((2 ^ (16 - 1) : Nat) : Int) = 32768 := by decide
  omega

/-- The configuration of an input is not what its outputs write. -/
theorem ainRegs_ne (k : Fin 8) : ∀ f ∈ [AIN_CFG.GAIN k.val, AIN_CFG.AVG k.val], f.addr ≠ (AIN_VAL.VALUE k.val).addr
    ∧ f.addr ≠ AIN_STAT.VALID.addr := by
  revert k
  decide

theorem Tail.ainOutput_cf (t : Tail) {k : Fin 8} (v : Int) {f : Fd} (hf : f ∈ [AIN_CFG.GAIN k.val, AIN_CFG.AVG k.val]) :
    (t.ainOutput k.val v true).cf f = t.cf f := by
  obtain ⟨hval, hstat⟩ := ainRegs_ne k f hf
  exact (Tail.p_cf_ne _ _ hstat).trans (Tail.p_cf_ne _ _ hval)

/-- Input `k` in state `a` converts to the code `c` (12 R468 to R472). -/
def Tail.ainStep (t : Tail) (k : Fin 8) (a : Ain) (c : Int) : Tail :=
  let a := { a with sum := a.sum + c * 2 ^ (16 - a.gain), n := a.n + 1, bad := a.bad || a.badConv != 0, badConv := a.badConv - 1 }
  let t := if c = -32768 || c = 32767
    then (t.p AIN_STAT.OVR (setBit (t.g AIN_STAT.OVR) k.val true)).evt 0x33 k.val else t
  let done := 2 ^ a.avg ≤ a.n
  let t := if done then t.ainOutput k.val (satS 32 (roundDiv a.sum (2 ^ a.avg))) (!a.bad && a.badOut = 0) else t
  let a := if done then { a with sum := 0, n := 0, bad := false, badOut := a.badOut - 1 } else a
  let a := if a.gain = t.cf (AIN_CFG.GAIN k.val) then a else { a with gain := t.cf (AIN_CFG.GAIN k.val), badConv := 2 }
  let a := if a.avg = t.ainAvg k.val then a
    else { a with avg := t.ainAvg k.val, sum := 0, n := 0, bad := false, badOut := 2 ^ t.ainAvg k.val }
  { t with ain := t.ain.set k a }

theorem ainConversion_settles {s : State} {k : Fin 8} {code : Int} (hon : s.fs.ainOn k.val = true) (hrun : s.fs.ain[k].on = true)
    (hlo : -32768 < code) (hhi : code < 32767) : Settles (.ainConversion k code) s (s.fs.ainStep k s.fs.ain[k] code) := by
  refine settles_of_tail _ rfl ((if_neg (by simp [hon])).trans ?_)
  rw [satS_of_lt hlo hhi]
  exact congrArg (fun a => (s.fs.ainStep k a code).finish) (if_pos hrun)

section
variable {t : Tail} {k : Fin 8} {a : Ain} {code : Int} (hlo : -32768 < code) (hhi : code < 32767)
  (hgain : a.gain = t.cf (AIN_CFG.GAIN k.val)) (havg : a.avg = t.ainAvg k.val) (hconv : a.badConv = 0)
include hlo hhi hgain havg hconv

/-- A conversion inside its average. -/
theorem Tail.ainStep_adds (h : a.n + 1 < 2 ^ a.avg) : t.ainStep k a code =
    { t with ain := t.ain.set k { a with sum := a.sum + code * 2 ^ (16 - a.gain), n := a.n + 1 } } := by
  have hcode : ¬ (code = -32768 ∨ code = 32767) := by omega
  have hdone : ¬ 2 ^ a.avg ≤ a.n + 1 := Nat.not_le.mpr h
  simp [Tail.ainStep, hcode, hdone, hconv, ← hgain, ← havg]

/-- The last conversion of an average. -/
theorem Tail.ainStep_done (h : 2 ^ a.avg ≤ a.n + 1) (hbad : a.bad = false) (hout : a.badOut = 0) : t.ainStep k a code =
    { t.ainOutput k.val (satS 32 (roundDiv (a.sum + code * 2 ^ (16 - a.gain)) (2 ^ a.avg))) true with
      ain := t.ain.set k { a with sum := 0, n := 0 } } := by
  have hcode : ¬ (code = -32768 ∨ code = 32767) := by omega
  have hcf (v : Int) : (t.ainOutput k.val v true).cf (AIN_CFG.GAIN k.val) = a.gain := (t.ainOutput_cf v (.head _)).trans hgain.symm
  have hcfa (v : Int) : (t.ainOutput k.val v true).ainAvg k.val = a.avg :=
    (congrArg (min 6) (t.ainOutput_cf v (f := AIN_CFG.AVG k.val) (.tail _ (.head _)))).trans havg.symm
  simp [Tail.ainStep, hcode, h, hconv, hbad, hout, hcf, hcfa]
  rfl

end

/-! ## Calibration (12 R479 to R482) -/

section
variable {t : Tail} {n : Stn}

theorem Tail.isnsMap_isnsMap (f g : Isns → Isns) : (t.isnsMap n f).isnsMap n g = t.isnsMap n fun i => g (f i) := by
  simp [Tail.isnsMap, Tail.stnMap]

theorem Tail.isnsMap_isns (f : Isns → Isns) : ((t.isnsMap n f).stnGet n).isns = f (t.stnGet n).isns :=
  congrArg Station.isns (t.stnMap_get n _)

theorem Tail.calCmd_eq : t.calCmd n = (t.isnsMap n (fun i => { i with
    calFail := false, cal := .command, calT := none, sum := Vector.replicate 3 0, n := 0, restarts := 0 })).p (ISNS_STAT.CAL_STATE n) 1 := by
  unfold Tail.calCmd Tail.calBegin
  rw [Tail.isnsMap_isnsMap]

/-- A calibration on command with a mean beyond CALLIM fails (12 R480). -/
theorem Tail.calDone_fails (hcal : (t.stnGet n).isns.cal = .command) {k : Fin 3} (hk : k ∈ isnsPhases (t.stnGet n).isns.cfg)
    (hlim : t.cf (ISNS_CALCFG.CALLIM n) * 16 < (roundDiv (t.stnGet n).isns.sum[k] 256).natAbs) :
    t.calDone n = (((t.isnsMap n (fun i => { i with cal := .none, calT := none })).p (ISNS_STAT.CAL_STATE n) 3).evt
      (stnPage n 4) 1).isnsMap n (fun i => { i with calFail := true }) := by
  have hany : (isnsPhases (t.stnGet n).isns.cfg).any (fun k => decide ((t.cf (ISNS_CALCFG.CALLIM n) * 16 : Int)
      < ((roundDiv (t.stnGet n).isns.sum[k] 256).natAbs : Int))) = true :=
    List.any_eq_true.mpr ⟨k, hk, decide_eq_true (by exact_mod_cast hlim)⟩
  refine (if_pos hany).trans (if_neg ?_)
  rw [hcal]
  decide

theorem Tail.pCfg_g (f g : Fd) (x : Int) : (t.pCfg f x).g g = (t.p f (enc f.width x)).g g := rfl

theorem enc_mod (w : Nat) (x : Int) : enc w x % 2 ^ w = enc w x := by
  have hpos : (0 : Int) < ((2 ^ w : Nat) : Int) := by exact_mod_cast Nat.two_pow_pos w
  have hlt := Int.emod_lt_of_pos x hpos
  have hnn := Int.emod_nonneg x (Int.ne_of_gt hpos)
  exact Nat.mod_eq_of_lt (by unfold enc; omega)

/-- The registers of the offsets and of the calibration. -/
theorem calRegs (n : Stn) : (∀ k : Fin 3, (ISNS_OFS.OFS n k.val).ok ∧ (ISNS_OFS.OFS n k.val).addr % 256 ≠ 0x0C
      ∧ (ISNS_OFS.OFS n k.val).addr ≠ (ISNS_STAT.CAL_STATE n).addr ∧ (ISNS_OFS.OFS n k.val).addr ≠ (PG_STAT.WARN (stnPage n 4)).addr
      ∧ ∀ j : Fin 3, k ≠ j → (ISNS_OFS.OFS n k.val).addr ≠ (ISNS_OFS.OFS n j.val).addr)
    ∧ (ISNS_STAT.CAL_STATE n).ok ∧ (ISNS_STAT.TRK_LIMIT n).ok ∧ (ISNS_STAT.TRK_LIMIT n).apart (ISNS_STAT.CAL_STATE n)
    ∧ (ISNS_STAT.CAL_STATE n).addr ≠ (PG_STAT.WARN (stnPage n 4)).addr := by
  revert n
  decide

/-- The offsets of the phases `l` written. -/
def Tail.ofsWritten (t : Tail) (n : Stn) (l : List (Fin 3)) (ofs : Fin 3 → Int) : Tail :=
  l.foldl (fun t k => t.pCfg (ISNS_OFS.OFS n k.val) (ofs k)) t

theorem Tail.ofsWritten_g (l : List (Fin 3)) (ofs : Fin 3 → Int) (k : Fin 3) (t : Tail) : (t.ofsWritten n l ofs).g (ISNS_OFS.OFS n k.val) =
    if k ∈ l then enc (ISNS_OFS.OFS n k.val).width (ofs k) else t.g (ISNS_OFS.OFS n k.val) := by
  obtain ⟨hok, -, -, -, hne⟩ := (calRegs n).1 k
  induction l generalizing t with
  | nil => rfl
  | cons j l ih =>
    have hstep : (t.ofsWritten n (j :: l) ofs).g (ISNS_OFS.OFS n k.val) =
      ((t.pCfg (ISNS_OFS.OFS n j.val) (ofs j)).ofsWritten n l ofs).g (ISNS_OFS.OFS n k.val) := rfl
    rw [hstep, ih]
    by_cases hl : k ∈ l
    · simp [hl]
    · by_cases hj : k = j
      · subst hj
        rw [if_neg hl, if_pos (.head _), Tail.pCfg_g, Tail.g_p _ _ hok, enc_mod]
      · rw [if_neg hl, if_neg (by simp [hl, hj]), Tail.pCfg_g, Tail.g_p_ne _ _ (hne j hj)]

theorem Tail.ofsWritten_kept (l : List (Fin 3)) (ofs : Fin 3 → Int) : (t.ofsWritten n l ofs).ssn = t.ssn
    ∧ (t.ofsWritten n l ofs).stn = t.stn :=
  List.foldlRecOn (motive := fun r : Tail => r.ssn = t.ssn ∧ r.stn = t.stn) _ _ ⟨rfl, rfl⟩ fun _ hr _ _ => hr

/-- The commit of the new offsets (12 R480). -/
def Tail.ofsCommitted (t : Tail) (n : Stn) (l : List (Fin 3)) (ofs : Fin 3 → Int) : Tail :=
  t.commit fun t => (t.ofsWritten n l ofs).evt (stnPage n 4) 0

theorem Tail.ofsCommitted_g (l : List (Fin 3)) (ofs : Fin 3 → Int) (k : Fin 3) : (t.ofsCommitted n l ofs).g (ISNS_OFS.OFS n k.val) =
    if k ∈ l then enc (ISNS_OFS.OFS n k.val).width (ofs k) else t.g (ISNS_OFS.OFS n k.val) := by
  obtain ⟨-, hevt, -⟩ := (calRegs n).1 k
  rw [Tail.ofsCommitted, Tail.commit_g, Tail.g_evt_ne _ _ _ fun e => hevt ((congrArg (· % 256) e).trans (evt_addr_mod _)), Tail.ofsWritten_g]
  rfl

theorem Tail.ofsCommitted_kept (l : List (Fin 3)) (ofs : Fin 3 → Int) : (t.ofsCommitted n l ofs).ssn = t.ssn + 1
    ∧ (t.ofsCommitted n l ofs).stnGet n = t.stnGet n := by
  obtain ⟨hssn, hstn⟩ := Tail.ofsWritten_kept (t := { t with ssn := t.ssn + 1 }) (n := n) l ofs
  refine ⟨?_, ?_⟩
  · rw [Tail.ofsCommitted, Tail.commit_ssn, Tail.evt_eq, Tail.evtV_ssn, hssn]
  · have hseal : (t.ofsCommitted n l ofs).stnGet n = ((({ t with ssn := t.ssn + 1 } : Tail).ofsWritten n l ofs).evt (stnPage n 4) 0).stnGet n :=
      rfl
    rw [hseal, Tail.evt_stnGet]
    exact congrArg (fun v : Vector Station 4 => v[n]) hstn

/-- The new offset of phase `k` (12 R479). -/
def Tail.calMean (t : Tail) (n : Stn) (k : Fin 3) : Int := roundDiv (t.stnGet n).isns.sum[k] 256

/-- A calibration with its offsets in effect ends (12 R479, R480, R484). -/
def Isns.calibrated (i : Isns) (ph : List (Fin 3)) (ofs : Fin 3 → Int) : Isns :=
  { i with
    cal := .none, calT := none, calFail := false, trkStop := 0
    calOfs := Vector.ofFn (fun k => if ph.contains k then ofs k else i.calOfs[k]) }

/-- The registers and the sensing of a station whose calibration passed. -/
def Tail.calPassed (t : Tail) (n : Stn) : Tail :=
  let ph := isnsPhases (t.stnGet n).isns.cfg
  let t := (t.ofsCommitted n ph (t.calMean n)).isnsMap n fun i => i.calibrated ph (t.calMean n)
  ((t.p (ISNS_STAT.CAL_STATE n) 2).p (ISNS_STAT.TRK_LIMIT n) 0).pb (PG_STAT.WARN (stnPage n 4)) false

theorem Tail.calDone_eq : t.calDone n =
    if (isnsPhases (t.stnGet n).isns.cfg).any (fun k => decide ((t.cf (ISNS_CALCFG.CALLIM n) * 16 : Int) < ((t.calMean n k).natAbs : Int)))
      then t.calFailed n
    else
      let t := t.calPassed n
      if (t.stnGet n).sq.st = .disabled && t.b (PG_CTRL.ENABLE (stnPage n 0)) && t.block7 n = 0 then (t.setSt n .ready).rearm n else t := rfl

theorem Tail.calPassed_stn : (t.calPassed n).stnGet n = { t.stnGet n with
    isns := (t.stnGet n).isns.calibrated (isnsPhases (t.stnGet n).isns.cfg) (t.calMean n) } := by
  unfold Tail.calPassed
  dsimp only
  rw [Tail.pb, Tail.p_stnGet, Tail.p_stnGet, Tail.p_stnGet, Tail.isnsMap, Tail.stnMap_get, Tail.ofsCommitted_kept _ _ |>.2]

theorem Tail.isnsMap_g (f : Isns → Isns) (x : Fd) : (t.isnsMap n f).g x = t.g x := rfl

theorem Tail.calPassed_g : (t.calPassed n).g (ISNS_STAT.CAL_STATE n) = 2 ∧ (t.calPassed n).g (ISNS_STAT.TRK_LIMIT n) = 0
    ∧ ∀ k : Fin 3, (t.calPassed n).g (ISNS_OFS.OFS n k.val) = if k ∈ isnsPhases (t.stnGet n).isns.cfg
        then enc (ISNS_OFS.OFS n k.val).width (t.calMean n k) else t.g (ISNS_OFS.OFS n k.val) := by
  obtain ⟨hofs, hcal, htrk, hapart, hwarn⟩ := calRegs n
  unfold Tail.calPassed
  dsimp only
  refine ⟨?_, ?_, fun k => ?_⟩
  · rw [Tail.pb, Tail.g_p_ne (f := PG_STAT.WARN (stnPage n 4)) _ _ hwarn, Tail.g_p_apart _ _ htrk hcal (.inr hapart), Tail.g_p _ _ hcal]
    rfl
  · rw [Tail.pb, Tail.g_p_ne (f := PG_STAT.WARN (stnPage n 4)) (g := ISNS_STAT.TRK_LIMIT n) _ _ hwarn, Tail.g_p _ _ htrk]
    rfl
  · obtain ⟨-, -, hstat, hpg, -⟩ := hofs k
    rw [Tail.pb, Tail.g_p_ne (f := PG_STAT.WARN (stnPage n 4)) _ _ hpg, Tail.g_p_ne (f := ISNS_STAT.TRK_LIMIT n) _ _ hstat,
      Tail.g_p_ne (f := ISNS_STAT.CAL_STATE n) _ _ hstat, Tail.isnsMap_g, Tail.ofsCommitted_g]

theorem Tail.calPassed_ssn : (t.calPassed n).ssn = t.ssn + 1 := by
  unfold Tail.calPassed
  dsimp only
  rw [Tail.pb, Tail.p_ssn, Tail.p_ssn, Tail.p_ssn, Tail.isnsMap, Tail.stnMap_ssn]
  exact (Tail.ofsCommitted_kept _ _).1

/-- A calibration that ends well in READY (12 R479, R480). -/
theorem Tail.calDone_ready (hst : (t.stnGet n).sq.st = .ready) (hlim : ∀ k ∈ isnsPhases (t.stnGet n).isns.cfg,
      (t.calMean n k).natAbs ≤ t.cf (ISNS_CALCFG.CALLIM n) * 16) : t.calDone n = t.calPassed n := by
  have hany : ¬ (isnsPhases (t.stnGet n).isns.cfg).any (fun k => decide ((t.cf (ISNS_CALCFG.CALLIM n) * 16 : Int)
      < ((t.calMean n k).natAbs : Int))) = true := by
    rintro h
    obtain ⟨k, hk, hlt⟩ := List.any_eq_true.mp h
    have hle := hlim k hk
    have hlt' : (t.cf (ISNS_CALCFG.CALLIM n) * 16 : Int) < ((t.calMean n k).natAbs : Int) := of_decide_eq_true hlt
    omega
  have hst' : ((t.calPassed n).stnGet n).sq.st = .ready := by rw [Tail.calPassed_stn, ← hst]
  rw [Tail.calDone_eq, if_neg hany]
  refine if_neg ?_
  rw [hst']
  simp

/-! ## Tracking (12 R483, R484) -/

/-- A tracking sample within the limit moves the offset. -/
theorem Tail.trkUpdate_moves {k : Fin 3} {d : Int} (hstop : (t.stnGet n).isns.trkStop.getLsbD k.val = false) :
    let o := t.cfi (ISNS_OFS.OFS n k.val)
    let o2 := o + roundDiv (d - o) (2 ^ clampN 4 12 (t.cf (ISNS_CALCFG.TRK_SHIFT n)))
    (o2 - (t.stnGet n).isns.calOfs[k]).natAbs ≤ t.cf (ISNS_TRKLIM.TRKLIM n) * 16 → t.trkUpdate n k d = t.pCfg (ISNS_OFS.OFS n k.val) o2 :=
  fun hlim => (if_neg (by rw [hstop]; decide)).trans (if_neg (Nat.not_lt.mpr hlim))

/-- The tracking updates of a sample `raw` (12 R483). -/
def Tail.trkSample (t : Tail) (n : Stn) (raw : SampleIn) (cfg : Word) : Tail :=
  (isnsPhases cfg).foldl (fun t k =>
    let c : Fin 4 := ⟨k.val, by omega⟩
    if toggles (sdBits cfg (sampleChan raw c)) then t.trkUpdate n k (isnsD cfg (isnsRaw cfg (sampleChan raw c))) else t) t

theorem isnsPhases_first {cfg : Word} (h : fdGet (ISNS_CFG.CH_EN 0) cfg = 1) : isnsPhases cfg = [0] := by
  unfold isnsPhases
  rw [h]
  decide

end

section
variable {t : Tail} {n : Stn} {raw : SampleIn} {cfg : Word}

theorem Tail.trkSample_first (hch : fdGet (ISNS_CFG.CH_EN 0) cfg = 1) (htog : toggles (sdBits cfg raw.a) = true) :
    t.trkSample n raw cfg = t.trkUpdate n 0 (isnsD cfg (isnsRaw cfg raw.a)) := by
  unfold Tail.trkSample
  rw [isnsPhases_first hch]
  exact if_pos htog

end

/-! ## The commands -/

section
variable {n : Stn} {s : State}

theorem calibrationDone_settles {r : Tail} (hcal : (s.fs.stnGet n).isns.cal = .command) (hn : (s.fs.stnGet n).isns.n = 256)
    (h : s.fs.calDone n = r) : Settles (.calibrationDone n) s r :=
  settles_of_tail _ rfl ((if_neg (by rw [hcal, hn]; simp)).trans (congrArg Tail.finish h))

end

/-- Settles O29. -/
theorem sensing : Obligations.Sensing := by
  refine ⟨fun k code s hon hrun hlo hhi hgain havg hconv => ⟨fun h => ?_, fun h hbad hout => ?_⟩,
    fun n ch s hfit hon hen hstuck => settles_of_tail _ rfl ?_,
    fun n s hfit hon => ⟨fun hst => settles_of_tail _ rfl ?_, fun hd hr => does_of_tail _ rfl (if_neg ?_)⟩,
    fun n s hcal hn hst hlim => ?_, fun n k s hcal hn hk hlim => calibrationDone_settles hcal hn (Tail.calDone_fails hcal hk hlim),
    fun n d s hcal ht => does_of_tail _ rfl ?_, fun n raw s hfit hon htrk hgates hch htog hstop hlim => settles_of_tail _ rfl ?_⟩
  · rw [← Tail.ainStep_adds hlo hhi hgain havg hconv h]
    exact ainConversion_settles hon hrun hlo hhi
  · have hset := ainConversion_settles hon hrun hlo hhi
    rw [Tail.ainStep_done hlo hhi hgain havg hconv h hbad hout] at hset
    exact hset
  · exact (if_pos (by simp [hfit, hon, hen])).trans (congrArg Tail.finish (if_neg (by rw [hstuck]; decide)))
  · have hmay : s.fs.calMay n = true := by
      rcases hst with h | h <;> simp [Tail.calMay, h]
    exact (if_pos (by simp [hfit, hon, hmay])).trans (congrArg Tail.finish Tail.calCmd_eq)
  · simp [Tail.calMay, hd, hr]
  · obtain ⟨hstate, htrk, hofs⟩ := Tail.calPassed_g (t := s.fs) (n := n)
    refine ⟨_, calibrationDone_settles hcal hn (Tail.calDone_ready hst hlim), Tail.calPassed_ssn, ?_, ?_, hstate, htrk, hofs⟩
    · rw [Tail.calPassed_stn]
      rfl
    · rw [Tail.calPassed_stn]
      rfl
  · simp only [hcal, ht]
    rfl
  · have hsample := (Tail.trkSample_first (n := n) hch htog).trans (Tail.trkUpdate_moves hstop hlim)
    have hgo : ¬ (!(s.fs.fitted n.val && s.fs.on 7 && s.fs.trkOn n && s.fs.gatesOn n)) = true := by simp [hfit, hon, htrk, hgates]
    exact (if_neg hgo).trans (congrArg (fun t : Tail =>
      ((t.p (ISNS_STAT.TRK_ACT n) 1).isnsMap n (fun i => { i with trkTaken := true })).finish) hsample)

end Sys2Proof.Machine
end

section
/-! Settling O34: housekeeping slots, on-demand requests and RESUME (20 R707 to R724). -/

namespace Sys2Proof.Machine

/-! ## What a result leaves of the round -/

/-- A register of the HK page, but for its latches. -/
def hkReg (a : Nat) : Prop := a / 256 = 0x30 ∧ a % 256 ≠ 0x0C

/-- `r` has the round, the commit number and the HK page of `o`. -/
structure Tail.RoundStays (o r : Tail) : Prop where
  hk : r.hk = o.hk
  ssn : r.ssn = o.ssn
  word : ∀ a, hkReg a → r.word a = o.word a

section
variable {o t r : Tail}

theorem Tail.RoundStays.refl (o : Tail) : o.RoundStays o := ⟨rfl, rfl, fun _ _ => rfl⟩

theorem Tail.RoundStays.trans (h : o.RoundStays t) (h' : t.RoundStays r) : o.RoundStays r :=
  ⟨h'.hk.trans h.hk, h'.ssn.trans h.ssn, fun a ha => (h'.word a ha).trans (h.word a ha)⟩

theorem Tail.RoundStays.g_eq (h : o.RoundStays r) {f : Fd} (hf : hkReg f.addr) : r.g f = o.g f := congrArg (fdGet f) (h.word _ hf)

/-- A register of another page is written. -/
theorem Tail.RoundStays.p {f : Fd} (x : Nat) (hf : f.addr / 256 ≠ 0x30) (h : o.RoundStays t) : o.RoundStays (t.p f x) :=
  h.trans ⟨rfl, rfl, fun _ ha => t.word_p_ne _ fun e => hf (e ▸ ha.1)⟩

theorem Tail.RoundStays.evt (p i : Nat) (h : o.RoundStays t) : o.RoundStays (t.evt p i) :=
  h.trans ⟨t.evtV_hk p i none, t.evtV_ssn p i none, fun _ ha => Tail.word_evt_ne _ _ _ fun e => ha.2 ((congrArg (· % 256) e).trans (evt_addr_mod _))⟩

theorem Tail.RoundStays.stnMap (n : Stn) (g : Station → Station) (h : o.RoundStays t) : o.RoundStays (t.stnMap n g) :=
  h.trans ⟨rfl, rfl, fun _ _ => rfl⟩

theorem hkReg_not_prot (n : Stn) {a : Nat} (ha : hkReg a) : protReg n a = false := by
  obtain ⟨hpage, hlatch⟩ := ha
  have hstn : stnPage n 0xE ≠ 0x30 ∧ (STN_STAT.PREV n).addr / 256 ≠ 0x30 ∧ (ISNS_STAT.CAL_STATE n).addr / 256 ≠ 0x30
      ∧ (BNKA_STAT.ACT_CUR n).addr / 256 ≠ 0x30 := by revert n; decide
  obtain ⟨hprot, hprev, hcal, hact⟩ := hstn
  have hne {b : Nat} (hb : b / 256 ≠ 0x30) : a ≠ b := fun e => hb (e ▸ hpage)
  simp [protReg, protWrites, hlatch, hpage, hprot.symm, hne hprev, hne hcal, hne hact]

theorem Tail.RoundStays.only {n : Stn} (ho : t.Only n r) (h : o.RoundStays t) : o.RoundStays r :=
  h.trans ⟨ho.part (·.hk) fun _ => rfl, ho.ssn_eq, fun _ ha => ho.reg _ (hkReg_not_prot n ha)⟩

theorem Tail.RoundStays.foldl {α : Type} {f : Tail → α → Tail} (l : List α) (h : o.RoundStays t)
    (hf : ∀ t x, o.RoundStays t → o.RoundStays (f t x)) : o.RoundStays (l.foldl f t) :=
  List.foldlRecOn l f h fun _ ht x _ => hf _ x ht

/-! ## The thermal groups -/

theorem Tail.RoundStays.thmUnit (h : o.RoundStays t) : o.RoundStays t.thmUnit := by
  have hpage (g : Fin 5) : (THM_GVAL.MIN g.val).addr / 256 ≠ 0x30 ∧ (THM_GVAL.MAX g.val).addr / 256 ≠ 0x30 := by revert g; decide
  have hmax : THM_TMAX.MAX.addr / 256 ≠ 0x30 := by decide
  unfold Tail.thmUnit
  extract_lets q all
  have hq : o.RoundStays q := .foldl _ h fun t g ht => (ht.p _ (hpage g).1).p _ (hpage g).2
  split
  · exact (hq.p _ hmax).p _ hmax
  · exact (hq.p _ hmax).p _ hmax

theorem Tail.RoundStays.thmStn (n : Stn) (h : o.RoundStays t) : o.RoundStays (t.thmStn n) := by
  unfold Tail.thmStn
  extract_lets old new q rose q2
  have hq2 : o.RoundStays q2 := .foldl _ (h.stnMap n _) fun t e ht => by
    split
    · exact ht.evt _ _
    · exact ht
  exact hq2.only (Tail.only_setSource _ _ .refl)

theorem thdPage (n : Stn) : (THD_REQ.REQ n).addr / 256 ≠ 0x30 ∧ (THD_REQ.PCT n).addr / 256 ≠ 0x30 ∧ (THD_REQ.ACTIVE n).addr / 256 ≠ 0x30
    ∧ (THD_REQ.GRACE_OVER n).addr / 256 ≠ 0x30 ∧ (THD_REQ.ENFORCED n).addr / 256 ≠ 0x30 := by revert n; decide

theorem Tail.RoundStays.thd (x : Thd) (h : o.RoundStays t) : o.RoundStays { t with thd := x } := h.trans ⟨rfl, rfl, fun _ _ => rfl⟩

theorem Tail.RoundStays.thmDerate (n : Stn) (h : o.RoundStays t) : o.RoundStays (t.thmDerate n) := by
  obtain ⟨hreq, hpct, hactive, hover, henf⟩ := thdPage n
  unfold Tail.thmDerate
  extract_lets thm q t1 on was graceMap g t2
  have h1 : o.RoundStays t1 := (h.p _ hreq).p _ hpct
  have h2 : o.RoundStays t2 := (h1.p _ hactive).evt _ _
  split
  · split
    · exact (h2.p _ hover).thd _
    · exact h2.thd _
  · split
    · exact (((h1.p _ hactive).p _ hover).p _ henf).thd _ |>.evt _ _
    · exact h1

theorem Tail.RoundStays.thmEval (h : o.RoundStays t) : o.RoundStays t.thmEval := by
  have hfd (g : Fin 5) : (thmFd g).addr / 256 ≠ 0x30 := by revert g; decide
  unfold Tail.thmEval
  extract_lets q q2 q3
  have hq : o.RoundStays q := .foldl _ h.thmUnit fun t n ht => (ht.thmStn n).thmDerate n
  have hq2 : o.RoundStays q2 := .foldl _ hq fun t g ht => ht.p _ (hfd g)
  exact (hq2.p _ (by decide)).p _ (by decide)

theorem hkReg_not_log {a : Nat} (ha : hkReg a) : logReg a = false := by
  obtain ⟨hpage, hlatch⟩ := ha
  have hstrd : strdCfgAt a = none := if_neg (by simp [hpage])
  have hne {b : Nat} (hb : b / 256 ≠ 0x30) : a ≠ b := fun e => hb (e ▸ hpage)
  have hlist : ∀ b ∈ [TRC_STAT.STATE.addr, TRC_TFT_LO.FT.addr, TRC_TFT_HI.FT.addr, TRC_TSSEQ.SSEQ.addr, CSA_CORR.COUNT.addr,
      CSA_UNCORR.DETECT.addr, CSA_ELOG.ADDR.addr], b / 256 ≠ 0x30 := by decide
  unfold logReg
  rw [hstrd, List.contains_eq_mem, decide_eq_false fun hb => hlist a hb hpage, decide_eq_false hlatch]
  rfl

theorem Tail.RoundStays.record (w : Producer) {k : Nat} (hk : k < 256) (kind : Nat) (v : Bool) (d : List Byte) (h : o.RoundStays t) :
    o.RoundStays (t.record w k kind v d) := by
  have hlog := Tail.logs_record w hk kind v d (.rfl t)
  exact h.trans ⟨congrArg (·.hk) hlog.1, t.record_ssn w hk kind v d, fun a ha => (hlog.2 a (hkReg_not_log ha)).1⟩

end

/-! ## Commits of a block (06 R219) -/

section
variable {t : Tail} {k : Nat} {f : Tail → Tail}

theorem Tail.commitOn_word (a : Nat) : (t.commitOn k f).word a = (f { t with ssn := t.ssn + 1 }).word a := by
  unfold Tail.commitOn Tail.commitAny
  extract_lets q
  split <;> rfl

theorem Tail.commitOn_hk : (t.commitOn k f).hk = (f { t with ssn := t.ssn + 1 }).hk := by
  unfold Tail.commitOn Tail.commitAny
  extract_lets q
  split <;> rfl

theorem Tail.commitOn_congr {g : Tail → Tail} (h : f { t with ssn := t.ssn + 1 } = g { t with ssn := t.ssn + 1 }) :
    t.commitOn k f = t.commitOn k g := by
  unfold Tail.commitOn Tail.commitAny
  rw [h]

/-- A commit is numbered where its record is written. -/
theorem Tail.commitOn_ssn (hf : (f { t with ssn := t.ssn + 1 }).ssn = t.ssn + 1) :
    (t.commitOn k f).ssn = if ((t.commitOn k f).sst k).seq = (t.sst k).seq then t.ssn else t.ssn + 1 := by
  let q := f { t with ssn := t.ssn + 1 }
  have hall : ([k].all fun k => decide ((q.sst k).seq = (t.sst k).seq)) = decide ((q.sst k).seq = (t.sst k).seq) := by simp
  by_cases h : (q.sst k).seq = (t.sst k).seq
  · have heq : t.commitOn k f = { q with ssn := t.ssn } := if_pos (hall.trans (decide_eq_true h))
    rw [heq]
    exact (if_pos h).symm
  · have heq : t.commitOn k f = q.seal := if_neg (by rw [hall]; simpa using h)
    rw [heq]
    exact hf.trans (if_neg h).symm

end

/-! ## A slot of an internal temperature (20 R703, R704, R709) -/

/-- The field of the newest value of channel `c`. -/
def hkValFd (c : Nat) : Fd := if c % 2 = 1 then HK_VAL.VAL_ODD (c / 2) else HK_VAL.VAL_EVEN (c / 2)

theorem hkConvert_int (c : Fin 6) (entry : Word) {raw : Int} (hlo : -400 ≤ raw) (hhi : raw ≤ 1500) :
    hkConvert c.val entry raw = ⟨raw, true, 0⟩ := by
  have htype : hkType c.val = .int := if_pos c.isLt
  have hin : hkRanged c.val raw raw = raw := by
    refine if_pos ?_
    rw [htype]
    simp [hkRange, hlo, hhi]
  unfold hkConvert
  rw [htype]
  simp only [hin]

section
variable {t : Tail} {c : Fin 6} {raw : Int}

theorem intRegs (c : Fin 6) : (hkValFd c.val).ok ∧ (hkValFd c.val).width = 16 ∧ hkReg (hkValFd c.val).addr
    ∧ (hkValFd c.val).addr ≠ HK_INV_LO.INV.addr ∧ (hkValFd c.val).addr ≠ HK_STAT.CH.addr := by
  unfold hkReg
  revert c
  decide

theorem Tail.hkStore_int (r : HkRes) : t.hkStore c.val r
    = (((t.dsNote (hkValFd c.val).addr).pi (hkValFd c.val) r.value).p HK_INV_LO.INV
        (setBit (((t.dsNote (hkValFd c.val).addr).pi (hkValFd c.val) r.value).g HK_INV_LO.INV) c.val (!r.valid))) := by
  have h32 : c.val < 32 := by omega
  have hmod : c.val % 32 = c.val := Nat.mod_eq_of_lt h32
  have hno : ¬ (decide (50 ≤ c.val) && decide (c.val < 54)) = true ∧ ¬ (decide (54 ≤ c.val) && decide (c.val < 58)) = true := by
    simp
    omega
  unfold Tail.hkStore
  extract_lets put q f q2
  rw [if_neg hno.1, if_neg hno.2]
  simp only [q2, f, hmod, if_pos h32]
  rfl

theorem Tail.hkRound_int (hch : t.hk.ch = c.val) : t.hkRound c.val ⟨raw, true, 0⟩ = t.hkStore c.val ⟨raw, true, 0⟩ := by
  have hno : ¬ (decide (54 ≤ t.hk.ch) && decide (t.hk.ch < 58)) = true := by
    rw [hch]
    simp
    omega
  unfold Tail.hkRound
  extract_lets ch bad q q2
  rw [if_neg hno]
  simp [q2, q, bad, ch, hch]

theorem Tail.hkResult_int {conv : List (BitVec 16)} (hch : t.hk.ch = c.val) (hod : t.hk.od = false)
    (hlo : -400 ≤ raw) (hhi : raw ≤ 1500) :
    ∃ flags, t.hkResult raw conv = t.commitOn 144 (fun t' => (t'.hkStore c.val ⟨raw, true, 0⟩).thmEval.record .sqc 144 7 true
      (hkData c.val flags t.hk.slot raw (hkMean conv))) := by
  have hsrc : hkSource t.hk.ch t.hk.entry = c.val := by
    rw [hch]
    exact if_neg (by omega)
  have hrail : ∀ c : Fin 6, railNominal c.val = 0 := by decide
  have hthm : (decide (c.val < 6) || (decide (22 ≤ c.val) && decide (c.val < 46))) = true := by simp
  unfold Tail.hkResult
  extract_lets h src r out flags
  have hr : r = ⟨raw, true, 0⟩ := by rw [← hkConvert_int c h.srcEntry hlo hhi, ← hsrc]
  have hod' : ¬ h.od = true := by rw [hod]; decide
  rw [show (if h.od = true then 145 else 144) = 144 from if_neg hod']
  refine ⟨flags, Tail.commitOn_congr ?_⟩
  have hrail' (q : Tail) : q.hkRail c.val out = q := if_pos (hrail c)
  have hround : (({ t with ssn := t.ssn + 1 } : Tail)).hkRound c.val ⟨raw, true, 0⟩ = _ := Tail.hkRound_int hch
  simp only [if_neg hod', hr, show src = c.val from hsrc, hround, hrail']
  rw [if_pos hthm]

theorem Tail.hkAdvance_next (hq : t.hk.queue = []) (hnext : t.hk.next ≠ 0) :
    t.hkAdvance = ({ t with hk := { t.hk with next := (t.hk.next + 1) % 64 } } : Tail).hkStart t.hk.next false (t.hk.slot + 1) := by
  have hround : t.hkAdvance = t.hkRoundSlot := by
    unfold Tail.hkAdvance
    extract_lets h
    split
    · next hcons => exact absurd (hq.symm.trans hcons) (List.cons_ne_nil _ _).symm
    · rfl
  rw [hround]
  unfold Tail.hkRoundSlot
  simp only [if_neg hnext]

end

/-! ## The commands -/

/-- The slot in progress has ended at its time (20 R707). -/
def Tail.slotOver (t : Tail) : Tail :=
  ((t.elapseTo (t.hk.since + (t.hk.slot + 1) * 125000)).p HK_STAT.CH t.hk.ch).pb HK_STAT.OD_SLOT t.hk.od

section
variable {s : State} {raw : Int} {conv : List (BitVec 16)}

/-- A slot ends while housekeeping runs. -/
theorem hkSlotEnd_settles (h7 : s.fs.pd 7 = true) (hruns : s.fs.runs 5 = true) (h3 : s.fs.on 3 = true) (hus : s.fs.us = .readySafe) {r : Tail}
    (hr : (if (s.fs.hk.od || s.fs.hk.entry.getLsbD 0) = true then s.fs.slotOver.hkResult raw conv else s.fs.slotOver).hkAdvance = r) :
    Settles (.hkSlotEnd ⟨raw, conv⟩) s r :=
  settles_of_tail _ rfl ((if_neg (by simp [h7, hruns, h3, hus])).trans (congrArg Tail.finish hr))

end

section
variable {t : Tail}

theorem Tail.slotOver_eq (hod : t.hk.od = false) : t.slotOver
    = ((t.elapse (t.hk.since + (t.hk.slot + 1) * 125000 - t.now)).p HK_STAT.CH t.hk.ch).p HK_STAT.OD_SLOT 0 := by
  unfold Tail.slotOver
  rw [hod, elapseTo_eq]
  rfl

theorem Tail.slotOver_hk : t.slotOver.hk = t.hk := by
  unfold Tail.slotOver
  rw [Tail.pb, Tail.p_hk, Tail.p_hk, elapseTo_eq, elapse_hk]

theorem Tail.slotOver_ch (hch : t.hk.ch < 2 ^ 6) : t.slotOver.g HK_STAT.CH = t.hk.ch := by
  unfold Tail.slotOver
  rw [Tail.pb, Tail.g_p_apart _ _ (by decide) (by decide) (by decide), Tail.g_p _ _ (by decide)]
  exact Nat.mod_eq_of_lt hch

theorem Tail.slotOver_ssn : t.slotOver.ssn = t.ssn := by
  unfold Tail.slotOver
  rw [Tail.pb, Tail.p_ssn, Tail.p_ssn, elapseTo_eq, elapse_ssn]

theorem Tail.slotOver_sst (k : Nat) : t.slotOver.sst k = t.sst k := by
  unfold Tail.slotOver Tail.sst
  rw [Tail.pb, Tail.p_store, Tail.p_store, elapseTo_eq, elapse_store]

end

section
variable {t : Tail} {c : Fin 6} {raw : Int}

/-- A valid result is stored, and the round stays (20 R709). -/
theorem Tail.hkStore_shows : (t.hkStore c.val ⟨raw, true, 0⟩).hk = t.hk ∧ (t.hkStore c.val ⟨raw, true, 0⟩).ssn = t.ssn
    ∧ (t.hkStore c.val ⟨raw, true, 0⟩).g HK_STAT.CH = t.g HK_STAT.CH
    ∧ (t.hkStore c.val ⟨raw, true, 0⟩).g (hkValFd c.val) = enc 16 raw
    ∧ ((t.hkStore c.val ⟨raw, true, 0⟩).g HK_INV_LO.INV).testBit c.val = false := by
  obtain ⟨hok, hwidth, hreg, hinv, hstat⟩ := intRegs c
  rw [Tail.hkStore_int]
  refine ⟨rfl, rfl, ?_, ?_, ?_⟩
  · rw [Tail.g_p_ne _ _ (by decide), Tail.pi, Tail.g_p_ne _ _ (Ne.symm hstat)]
    rfl
  · rw [Tail.g_p_ne _ _ hinv, Tail.pi, Tail.g_p _ _ hok, hwidth]
    exact enc_mod _ _
  · rw [Tail.g_p _ _ (by decide)]
    exact testBit_setBit_false _ _ _

/-- The slot of an internal temperature within its range stores it as valid (20 R704, R709). -/
theorem Tail.hkResult_shows {conv : List (BitVec 16)} (hch : t.hk.ch = c.val) (hod : t.hk.od = false) (hlo : -400 ≤ raw) (hhi : raw ≤ 1500) :
    (t.hkResult raw conv).hk = t.hk
      ∧ (t.hkResult raw conv).ssn = (if ((t.hkResult raw conv).sst 144).seq = (t.sst 144).seq then t.ssn else t.ssn + 1)
      ∧ (t.hkResult raw conv).g HK_STAT.CH = t.g HK_STAT.CH
      ∧ (t.hkResult raw conv).g (hkValFd c.val) = enc 16 raw
      ∧ ((t.hkResult raw conv).g HK_INV_LO.INV).testBit c.val = false := by
  obtain ⟨flags, heq⟩ := Tail.hkResult_int (conv := conv) hch hod hlo hhi
  obtain ⟨-, -, hreg, -, -⟩ := intRegs c
  obtain ⟨hhk, hssn, hstat, hval, hinv⟩ := Tail.hkStore_shows (t := { t with ssn := t.ssn + 1 }) (c := c) (raw := raw)
  have hstays := ((Tail.RoundStays.refl (({ t with ssn := t.ssn + 1 } : Tail).hkStore c.val ⟨raw, true, 0⟩)).thmEval).record .sqc
    (k := 144) (by decide) 7 true (hkData c.val flags t.hk.slot raw (hkMean conv))
  rw [heq]
  refine ⟨Tail.commitOn_hk.trans (hstays.hk.trans hhk), Tail.commitOn_ssn (hstays.ssn.trans hssn), ?_, ?_, ?_⟩
  · exact (congrArg (fdGet HK_STAT.CH) (Tail.commitOn_word _)).trans ((hstays.g_eq ⟨rfl, by decide⟩).trans hstat)
  · exact (congrArg (fdGet (hkValFd c.val)) (Tail.commitOn_word _)).trans ((hstays.g_eq hreg).trans hval)
  · exact (congrArg (fun w => (fdGet HK_INV_LO.INV w).testBit c.val) (Tail.commitOn_word _)).trans
      ((congrArg (Nat.testBit · c.val) (hstays.g_eq ⟨rfl, by decide⟩)).trans hinv)

/-- The round goes on. -/
theorem Tail.hkAdvance_shows (hq : t.hk.queue = []) (hnext : t.hk.next ≠ 0) : t.hkAdvance.hk.ch = t.hk.next ∧ t.hkAdvance.ssn = t.ssn
    ∧ t.hkAdvance.sst 144 = t.sst 144 ∧ ∀ f, t.hkAdvance.g f = t.g f := by
  rw [Tail.hkAdvance_next hq hnext]
  exact ⟨rfl, rfl, rfl, fun _ => rfl⟩

end

/-! ## Requests and RESUME (20 R713, R724) -/

section
variable {t : Tail} {c : Nat}

theorem Tail.odCheck_room (hc : c < 22) (hlen : t.hk.queue.length < 8) : refusal (t.odCheck true c) = none := by
  have h22 : ¬ 22 ≤ c := by omega
  have h8 : ¬ 8 ≤ t.hk.queue.length := by omega
  simp [Tail.odCheck, refusal, h22, h8]

theorem Tail.odCheck_full (hc : c < 22) (hlen : 8 ≤ t.hk.queue.length) : refusal (t.odCheck true c) = some busySt := by
  have h22 : ¬ 22 ≤ c := by omega
  simp only [Tail.odCheck, refusal, h22, hlen, decide_true, decide_false, Bool.and_true, Bool.true_and, Bool.false_and]
  decide

theorem Tail.resume_one (k : Fin 4) : t.resume (2 ^ k.val) = t.p (AOUT_STAT.FAILED k.val) 0 := by
  match k with
  | 0 => rfl
  | 1 => rfl
  | 2 => rfl
  | 3 => rfl

end

/-- Settles O34. -/
theorem housekeeping : Obligations.Housekeeping := by
  refine ⟨fun raw conv s h7 hruns h3 hus hod hentry hq hnext => hkSlotEnd_settles h7 hruns h3 hus ?_,
    fun c raw conv s h7 hruns h3 hus hch hod hentry hq hnext hlo hhi => ?_,
    fun word s h3 hreq hc => ⟨fun hlen => ?_, fun hlen => ?_⟩, fun k s h3 => ?_⟩
  · rw [if_neg (by rw [hod, hentry]; decide), Tail.hkAdvance_next (by rw [Tail.slotOver_hk, hq]) (by rwa [Tail.slotOver_hk]),
      Tail.slotOver_hk, Tail.slotOver_eq hod]
  · have hover := s.fs.slotOver_hk
    obtain ⟨hhk, hssn, hstat, hval, hinv⟩ := Tail.hkResult_shows (t := s.fs.slotOver) (c := c) (conv := conv)
      ((congrArg Hk.ch hover).trans hch) ((congrArg Hk.od hover).trans hod) hlo hhi
    have hres := hhk.trans hover
    obtain ⟨hch', hssn', hsst', hg'⟩ := Tail.hkAdvance_shows ((congrArg Hk.queue hres).trans hq)
      (show (s.fs.slotOver.hkResult raw conv).hk.next ≠ 0 by rw [hres]; exact hnext)
    refine ⟨_, hkSlotEnd_settles h7 hruns h3 hus (congrArg Tail.hkAdvance (if_pos (by rw [hentry, hod]; decide))), ?_,
      hch'.trans (congrArg Hk.next hres), (hg' _).trans (hstat.trans ((Tail.slotOver_ch ?_).trans hch)), ?_, ?_⟩
    · rw [hssn', hsst', hssn, Tail.slotOver_ssn, Tail.slotOver_sst]
    · omega
    · exact (hg' _).trans hval
    · rw [hg']
      exact hinv
  · refine does_of_tail _ rfl ?_
    simp only [h3, hreq, decide_true, Tail.odCheck_room hc hlen]
    rfl
  · refine settles_of_tail _ rfl ?_
    simp only [h3, hreq, decide_true, Tail.odCheck_full hc hlen]
    refine congrArg Tail.finish (if_pos ?_)
    simpa using hlen
  · exact does_of_tail _ rfl ((if_pos h3).trans (Tail.resume_one k))

end Sys2Proof.Machine
end

section
/-! Settling O35: grace time, dwells, and the hardware thermal shutdown (21 R744 to R756). -/

namespace Sys2Proof.Machine

/-! ## What the logging of events leaves -/

section
variable {t r : Tail} (h : t.Logs r)
include h

theorem Tail.Logs.us_eq : r.us = t.us := show r.unlogged.us = t.unlogged.us by rw [h.1]
theorem Tail.Logs.stn_eq : r.stn = t.stn := show r.unlogged.stn = t.unlogged.stn by rw [h.1]
theorem Tail.Logs.link_eq : r.link = t.link := show r.unlogged.link = t.unlogged.link by rw [h.1]

end

/-! ## A station disabled by the shutdown stays so -/

/-- Station `n` is DISABLED in a unit in thermal shutdown. -/
structure Tail.Shut (n : Stn) (t : Tail) : Prop where
  us : t.us = .thermalShutdown
  st : (t.stnGet n).sq.st = .disabled

section
variable {t r : Tail} {n : Stn}

theorem Tail.Shut.of_steady (h : t.Shut n) (hus : r.us = t.us) (hs : r.steady n = t.steady n) : r.Shut n :=
  ⟨hus.trans h.us, (congrArg (fun x : Sq × _ => x.1.st) hs).trans h.st⟩

/-- A change of one station, which leaves a DISABLED station as it is. -/
theorem Tail.Shut.change {f : Tail → Stn → Tail} {m : Stn} (h : t.Shut n) (honly : t.Only m (f t m))
    (hown : m = n → (f t m).steady n = t.steady n) : (f t m).Shut n := by
  by_cases hm : m = n
  · exact h.of_steady honly.us_eq (hown hm)
  · exact ⟨honly.us_eq.trans h.us, by rw [honly.stnGet_ne (Ne.symm hm)]; exact h.st⟩

theorem Tail.Shut.diagReturn (m : Stn) (h : t.Shut n) : (t.diagReturn m).Shut n :=
  h.change (Tail.only_diagReturn .refl) fun hm =>
    congrArg (fun r : Tail => r.steady n) (if_neg (by rw [hm, h.st]; decide) : t.diagReturn m = t)

theorem Tail.Shut.settleStn (m : Stn) (h : t.Shut n) : (t.settleStn m).Shut n := by
  refine h.change (Tail.only_settleStn .refl) ?_
  rintro rfl
  unfold Tail.settleStn
  simp only [h.st]
  split
  · rfl
  · split
    · split
      · exact t.calBegin_steady m m _
      · rfl
    · split
      · exact t.calAbandon_steady m m
      · rfl

theorem Tail.Shut.gateUpdate (m : Stn) (h : t.Shut n) : (t.gateUpdate m).Shut n :=
  h.change (Tail.only_gateUpdate .refl) fun _ => t.gateUpdate_steady n m

theorem Tail.Shut.enterDisabled (m : Stn) (h : t.Shut n) (hm : m ≠ n) : (t.enterDisabled m).Shut n := by
  refine h.change (f := fun t m => t.enterDisabled m) (Tail.only_calAbandon (Tail.only_leaveRunning _ .refl)) fun e => absurd e hm

theorem Tail.Shut.diagAbort (h : t.Shut n) : t.diagAbort.Shut n := by
  unfold Tail.diagAbort
  split
  · exact h
  · extract_lets m t1 _ d t2
    have h1 : t1.us = t.us ∧ t1.stnGet n = t.stnGet n := by
      unfold t1 Tail.diagPut
      dsimp only
      split
      · split
        · exact ⟨rfl, rfl⟩
        · exact ⟨rfl, rfl⟩
      · exact ⟨rfl, rfl⟩
    have h2 : (t2.evt 0x25 2).Shut n := by
      refine ⟨(t2.evtV_us 0x25 2 none).trans (h1.1.trans h.us), ?_⟩
      rw [Tail.evt_stnGet]
      exact (congrArg (·.sq.st) h1.2).trans h.st
    exact h2.diagReturn m

theorem Tail.Shut.diagSettle (h : t.Shut n) : t.diagSettle.Shut n := by
  unfold Tail.diagSettle
  dsimp only
  split
  · split
    · exact h.diagAbort
    · exact h
  · exact List.foldlRecOn _ _ h fun _ hr m _ => hr.diagReturn m

theorem Tail.Shut.settleUnit (h : t.Shut n) : t.settleUnit.Shut n := by
  unfold Tail.settleUnit
  rw [if_neg (by simp [h.us])]
  simp only [h.us]
  exact h

theorem Tail.Shut.settle (h : t.Shut n) : t.settle.Shut n := by
  have h1 : (t.diagSettle.stns.foldl (fun t n => t.settleStn n) t.diagSettle).Shut n :=
    List.foldlRecOn _ _ h.diagSettle fun _ hr m _ => hr.settleStn m
  exact List.foldlRecOn (motive := Tail.Shut n) _ _ h1.diagSettle.settleUnit fun _ hr m _ => hr.gateUpdate m

theorem Tail.Shut.logAll (h : t.Shut n) : t.logAll.Shut n := by
  have hlog := Tail.logs_logAll (.rfl t)
  exact ⟨(Tail.Logs.us_eq hlog).trans h.us, (congrArg (fun v : Vector Station 4 => v[n].sq.st) (Tail.Logs.stn_eq hlog)).trans h.st⟩

/-! ## Every station is disabled (21 R755) -/

theorem Tail.leaveRunning_st (st : StnSt) : ((t.leaveRunning n st).stnGet n).sq.st = st := by
  have hbase (q : Tail) : (((q.setSt n st).sqMap n Sq.rest).stnGet n).sq.st = st := by
    rw [sqMap_eq, stnMap_get]
    exact q.setSt_st n st
  have hsteady (q : Tail) : ((((((q.setSt n st).sqMap n Sq.rest).banksIdle n).setpMap n (fun p => { p with stop := .none })).protMap n
      (fun p => { p with ctoT := none })).moduMap n (fun m => { m with next := none }) |>.gateUpdate n).steady n
      = ((q.setSt n st).sqMap n Sq.rest).steady n := by
    simp only [gateUpdate_steady, moduMap_steady, protMap_steady, setpMap_steady, banksIdle_steady]
  exact (congrArg (fun x : Sq × _ => x.1.st) (hsteady _)).trans (hbase _)

theorem Tail.enterDisabled_shut (hus : t.us = .thermalShutdown) : (t.enterDisabled n).Shut n := by
  have honly : t.Only n (t.enterDisabled n) := Tail.only_calAbandon (Tail.only_leaveRunning _ .refl)
  exact ⟨honly.us_eq.trans hus, (congrArg (fun x : Sq × _ => x.1.st) (Tail.calAbandon_steady _ n n)).trans (t.leaveRunning_st .disabled)⟩

/-- A station that runs, or is ready, or faulted, is disabled. -/
def Tail.disable (t : Tail) (n : Stn) : Tail := if (t.stnGet n).sq.st = .disabled then t else t.enterDisabled n

theorem Tail.disable_shut (hus : t.us = .thermalShutdown) : (t.disable n).Shut n := by
  unfold Tail.disable
  split
  · next h => exact ⟨hus, h⟩
  · exact Tail.enterDisabled_shut hus

theorem Tail.disable_us (m : Stn) : (t.disable m).us = t.us := by
  unfold Tail.disable
  split
  · rfl
  · exact (Tail.only_calAbandon (Tail.only_leaveRunning _ .refl)).us_eq

theorem Tail.Shut.disable (m : Stn) (h : t.Shut n) : (t.disable m).Shut n := by
  by_cases hm : m = n
  · exact hm ▸ Tail.disable_shut h.us
  · unfold Tail.disable
    split
    · exact h
    · exact h.enterDisabled m hm

/-- The stations are disabled one after the other. -/
theorem Tail.disable_all (l : List Stn) (hn : n ∈ l) : ∀ {t : Tail}, t.us = .thermalShutdown → (l.foldl Tail.disable t).Shut n := by
  induction l with
  | nil => exact absurd hn List.not_mem_nil
  | cons m l ih =>
    intro t hus
    rcases List.mem_cons.mp hn with rfl | hn
    · exact List.foldlRecOn l _ (Tail.disable_shut hus) fun _ hr m _ => hr.disable m
    · exact ih hn ((t.disable_us m).trans hus)

/-! ## The trip (21 R752 to R755, R758) -/

theorem Tail.recordKeeps_logs (o : Tail) : Tail.RecordKeeps o.Logs where
  store _ s h := Tail.logs_store s h
  latch _ p i v h := Tail.logs_evtV p i v h
  count _ f x hf h := Tail.logs_p f x ((by decide : ∀ f ∈ readFields, logReg f.addr = true) f hf) h
  desc _ _ hk h := Tail.logs_descLost hk h

/-- A confirmed trip of sensor `c`, before anything ends for it. -/
def Tail.hwTripped (t : Tail) (c : Nat) : Tail :=
  { (((t.p THM_HWSTAT.VALID 1).p THM_HWSTAT.SENSOR c).inc THM_HWSTAT.COUNT).aonMap (fun a => { a with gateBlock := true, shutAt := some t.now })
    with link := { t.link with ready := false } }

/-- What the trip ends. -/
def Tail.tripEnds (t : Tail) : Tail :=
  (t.setUnit .thermalShutdown).ascOverride.stns.foldl Tail.disable (t.setUnit .thermalShutdown).ascOverride

/-- The trip at its end. -/
def Tail.tripOver (t : Tail) (c : Nat) : Tail := (t.hwTripped c).tripEnds.settle.logAll

theorem Tail.hwShutdown_eq (c : Nat) : t.hwShutdown c = ((t.tripOver c).flushLog 3 none).aonMap fun a =>
    { a with retention := if t.aon.ps = .deep then a.retention else some ((t.tripOver c).flushLog 3 none).regs } := by
  rfl

theorem Tail.frames_tripEnds : t.Frames t.tripEnds := by
  refine List.foldlRecOn _ _ ((Tail.frames_setUnit _ (.rfl t)).trans (Tail.frames_ascOverride _)) fun r hr n _ => ?_
  unfold Tail.disable
  split
  · exact hr
  · exact Tail.frames_enterDisabled n hr

theorem Tail.frames_tripOver (c : Nat) : (t.hwTripped c).Frames (t.tripOver c) :=
  Tail.frames_logAll (Tail.frames_settle Tail.frames_tripEnds)

theorem Tail.Frames.link_eq (h : t.Frames r) : r.link = t.link := show r.kept.link = t.kept.link by rw [h.1]

theorem Tail.ascOverride_us : t.ascOverride.us = t.us := by
  refine List.foldlRecOn (motive := fun r : Tail => r.us = t.us) _ _ rfl fun r hr n _ => ?_
  split
  · exact (Tail.only_endAsc .refl).us_eq.trans hr
  · exact hr

theorem Tail.setUnit_us (us : UnitSt) : (t.setUnit us).us = us := by
  unfold Tail.setUnit
  split
  · assumption
  · rfl

theorem Tail.tripOver_shut (c : Nat) (hn : t.fitted n.val = true) : (t.tripOver c).Shut n := by
  have hu : (((t.hwTripped c).setUnit .thermalShutdown).ascOverride).u = t.u :=
    ((Tail.frames_setUnit _ (.rfl _)).trans (Tail.frames_ascOverride _)).u_eq
  have hmem : n ∈ (((t.hwTripped c).setUnit .thermalShutdown).ascOverride).stns := by
    refine List.mem_filter.mpr ⟨List.mem_finRange n, ?_⟩
    unfold Tail.fitted
    rw [hu]
    exact hn
  exact (Tail.disable_all _ hmem (Tail.ascOverride_us.trans (Tail.setUnit_us _))).settle.logAll

theorem Tail.tripOver_us (c : Nat) : (t.tripOver c).us = .thermalShutdown :=
  (Tail.tripOver_shut (n := 0) c (by simp [Tail.fitted])).us

theorem hwRegs : THM_HWSTAT.VALID.ok ∧ THM_HWSTAT.SENSOR.ok ∧ THM_HWSTAT.COUNT.ok ∧ THM_HWSTAT.VALID.apart THM_HWSTAT.SENSOR
    ∧ THM_HWSTAT.VALID.apart THM_HWSTAT.COUNT ∧ THM_HWSTAT.SENSOR.apart THM_HWSTAT.COUNT
    ∧ logReg THM_HWSTAT.VALID.addr = false ∧ settleRegs.contains THM_HWSTAT.VALID.addr = false := by decide

theorem Tail.hwTripped_g (c : Nat) : (t.hwTripped c).g THM_HWSTAT.VALID = 1 ∧ (t.hwTripped c).g THM_HWSTAT.SENSOR = c % 2 ^ 6
    ∧ (t.hwTripped c).g THM_HWSTAT.COUNT = satInc THM_HWSTAT.COUNT.width (t.g THM_HWSTAT.COUNT) := by
  obtain ⟨hvalid, hsensor, hcount, hvs, hvc, hsc, -⟩ := hwRegs
  have hg (f : Fd) : (t.hwTripped c).g f = (((t.p THM_HWSTAT.VALID 1).p THM_HWSTAT.SENSOR c).inc THM_HWSTAT.COUNT).g f := rfl
  refine ⟨?_, ?_, ?_⟩
  · rw [hg, Tail.inc_eq, Tail.g_p_apart _ _ hcount hvalid (.inr hvc.symm), Tail.g_p_apart _ _ hsensor hvalid (.inr hvs.symm),
      Tail.g_p _ _ hvalid]
    rfl
  · rw [hg, Tail.inc_eq, Tail.g_p_apart _ _ hcount hsensor (.inr hsc.symm), Tail.g_p _ _ hsensor]
    rfl
  · rw [hg, Tail.g_inc _ hcount, Tail.g_p_apart _ _ hsensor hcount (.inr hsc), Tail.g_p_apart _ _ hvalid hcount (.inr hvc)]

theorem Tail.flushLog_shows (cause : Nat) (cut : Option Nat) : (t.flushLog cause cut).us = t.us ∧ (t.flushLog cause cut).stn = t.stn
    ∧ (t.flushLog cause cut).link = t.link ∧ ∀ a, logReg a = false → (t.flushLog cause cut).word a = t.word a := by
  unfold Tail.flushLog
  split
  · exact ⟨rfl, rfl, rfl, fun _ _ => rfl⟩
  · have hlogs := (Tail.recordKeeps_logs t).eventRecs (t.sst 160).recs (.rfl t)
    have hus := Tail.Logs.us_eq hlogs
    have hstn := Tail.Logs.stn_eq hlogs
    have hlink := Tail.Logs.link_eq hlogs
    exact ⟨hus, hstn, hlink, fun a ha => (hlogs.2 a ha).1⟩

theorem Tail.hwShutdown_parts (c : Nat) : (t.hwShutdown c).us = ((t.tripOver c).flushLog 3 none).us
    ∧ (t.hwShutdown c).aon.gateBlock = ((t.tripOver c).flushLog 3 none).aon.gateBlock
    ∧ (t.hwShutdown c).aon.shutAt = ((t.tripOver c).flushLog 3 none).aon.shutAt
    ∧ (t.hwShutdown c).link = ((t.tripOver c).flushLog 3 none).link ∧ (t.hwShutdown c).stn = ((t.tripOver c).flushLog 3 none).stn
    ∧ ∀ a, (t.hwShutdown c).word a = ((t.tripOver c).flushLog 3 none).word a := by
  rw [Tail.hwShutdown_eq]
  exact ⟨rfl, rfl, rfl, rfl, rfl, fun _ => rfl⟩

/-- The flush of the log and the retention image leave what the trip has set. -/
theorem Tail.hwShutdown_shows (c : Nat) : (t.hwShutdown c).us = .thermalShutdown ∧ (t.hwShutdown c).aon.gateBlock = true
    ∧ (t.hwShutdown c).aon.shutAt = some t.now ∧ (t.hwShutdown c).link.ready = false
    ∧ (t.hwShutdown c).stn = (t.tripOver c).stn
    ∧ ∀ f, f.addr = THM_HWSTAT.VALID.addr → (t.hwShutdown c).g f = (t.hwTripped c).g f := by
  obtain ⟨-, -, -, -, -, -, hlog, hsettle⟩ := hwRegs
  obtain ⟨hus, hgate, hshut, hlink, hstn, hword⟩ := t.hwShutdown_parts c
  obtain ⟨fus, fstn, flink, fword⟩ := (t.tripOver c).flushLog_shows 3 none
  have hover := t.frames_tripOver c
  have haon := (Tail.flushLog_keeps (t.tripOver c) 3 none).aon
  have hkept : (t.tripOver c).aon = (t.hwTripped c).aon := hover.keepsClocks.aon
  refine ⟨hus.trans (fus.trans (t.tripOver_us c)), ?_, ?_, ?_, hstn.trans fstn, fun f hf => ?_⟩
  · rw [hgate, haon]
    exact congrArg Aon.gateBlock hkept
  · rw [hshut, haon]
    exact congrArg Aon.shutAt hkept
  · rw [hlink, flink, hover.link_eq]
    rfl
  · refine congrArg (fdGet f) ?_
    rw [hf]
    exact (hword _).trans ((fword _ hlog).trans (hover.2 _ hlog hsettle).1)

/-! ## The domains go off (21 R755) -/

theorem Tail.asleep_shows (us : UnitSt) : (t.asleep us).us = us ∧ (t.asleep us).now = t.now ∧ (t.asleep us).aon = t.aon := by
  have hpon (l : SMap Word) (q : Tail) : (l.foldl (fun r e => (regFields e.1).foldl (fun r f =>
      if f.keptTrst then r.p f (fdGet f e.2) else r) r) q).now = q.now ∧ (l.foldl (fun r e => (regFields e.1).foldl (fun r f =>
      if f.keptTrst then r.p f (fdGet f e.2) else r) r) q).aon = q.aon := by
    refine List.foldlRecOn (motive := fun r : Tail => r.now = q.now ∧ r.aon = q.aon) _ _ ⟨rfl, rfl⟩ fun r hr e _ => ?_
    refine List.foldlRecOn (motive := fun r : Tail => r.now = q.now ∧ r.aon = q.aon) _ _ hr fun r hr f _ => ?_
    split
    · exact hr
    · exact hr
  exact ⟨rfl, (hpon _ _).1, (hpon _ _).2⟩

theorem Tail.cutLoad_shows : t.cutLoad.now = t.now ∧ t.cutLoad.aon = t.aon := by
  unfold Tail.cutLoad
  split
  · exact ⟨rfl, rfl⟩
  · exact ⟨rfl, rfl⟩

end

/-- Settles O35. -/
theorem thermalShutdown : Obligations.ThermalShutdown := by
  refine ⟨fun n d s hgrace => does_of_tail _ rfl ?_, fun e d s hd => settles_of_tail _ rfl ?_, fun c s h1 hus hc => ?_,
    fun z s hus hps hz => ?_, fun z s hus hps hz => ?_⟩
  · simp only [hgrace]
    rw [Tail.elapseTo_eq, Tail.elapse_thd]
  · simp only [hd]
    rw [Tail.elapseTo_eq]
  · obtain ⟨hus', hgate, hshut, hlink, hstn, hg⟩ := s.fs.hwShutdown_shows c
    obtain ⟨hvalid, hsensor, hcount⟩ := s.fs.hwTripped_g c
    refine ⟨_, does_of_tail _ rfl (if_pos (by simp [h1, hus, Tail.hwSensor, hc])), hus', hgate, hlink, hshut, ?_,
      (hg THM_HWSTAT.VALID rfl).trans hvalid, (hg THM_HWSTAT.COUNT rfl).trans hcount, fun n hn => ?_, fun k => ?_⟩
    · rw [hg THM_HWSTAT.SENSOR rfl, hsensor]
      omega
    · exact (congrArg (fun v : Vector Station 4 => v[n].sq.st) hstn).trans (s.fs.tripOver_shut c hn).st
    · simp [Tail.doOn, hus']
  · let t := s.fs.elapseTo (z + 3 * ms1)
    obtain ⟨hnow, haon⟩ := t.cutLoad_shows
    obtain ⟨aus, anow, aaon⟩ := t.cutLoad.asleep_shows .thermalShutdown
    have hno : ¬ s.fs.aon.ps = .thermal := by rw [hps]; decide
    have hexec : exec .thermalDomainsOff s = .next { s with h2f := [], fs := (t.cutLoad.asleep .thermalShutdown).aonMap (fun a =>
        { a with dom := 0x02, ps := .thermal, accepted := none, switching := none, wakePend := false, held := none, retained := false
                 cold := false }) } := by
      show execThermalDomainsOff s = _
      unfold execThermalDomainsOff
      simp only [hus, hz]
      exact if_neg hno
    refine ⟨_, hexec, rfl, rfl, rfl, rfl, rfl, anow.trans (hnow.trans (Tail.elapse_now _ _)), rfl, rfl, aus, ?_⟩
    exact (congrArg Aon.shutAt ((aaon.trans haon).trans (Tail.elapse_aon _ _))).trans hz
  · refine ⟨_, rfl, rfl, rfl, rfl, ?_⟩
    simp only [hus, hps, hz]
    rw [Tail.elapseTo_eq]
    rfl

end Sys2Proof.Machine
end

section
/-! Settling O36: the timers of sessions, and the keys (23 R793 to R801). -/

namespace Sys2Proof.Machine

/-! ## What a record leaves of sessions, keys and firmware -/

/-- `r` has the session, the keys, the firmware and the time of `t`, and every latch that is set in `t`. -/
structure Tail.SecStays (t r : Tail) : Prop where
  sess : r.sess = t.sess
  sec : r.sec = t.sec
  otp : r.otp = t.otp
  fw : r.fw = t.fw
  now : r.now = t.now
  latches : t.KeepsLatches r

section
variable {o t r : Tail}

theorem Tail.SecStays.refl (t : Tail) : t.SecStays t := ⟨rfl, rfl, rfl, rfl, rfl, .refl t⟩

theorem Tail.SecStays.trans (h : o.SecStays t) (h' : t.SecStays r) : o.SecStays r :=
  ⟨h'.sess.trans h.sess, h'.sec.trans h.sec, h'.otp.trans h.otp, h'.fw.trans h.fw, h'.now.trans h.now,
    fun p i hp => h'.latches p i (h.latches p i hp)⟩

theorem Tail.recordKeeps_secStays (o : Tail) : Tail.RecordKeeps o.SecStays where
  store t s h := ⟨h.sess, h.sec, h.otp, h.fw, h.now, (Tail.recordKeeps_latches o).store t s h.latches⟩
  latch t p i v h := ⟨(t.evtV_sess p i v).trans h.sess, (t.evtV_sec p i v).trans h.sec, (t.evtV_otp p i v).trans h.otp,
    (t.evtV_fw p i v).trans h.fw, (t.evtV_now p i v).trans h.now, (Tail.recordKeeps_latches o).latch t p i v h.latches⟩
  count t f x hf h := ⟨h.sess, h.sec, h.otp, h.fw, h.now, (Tail.recordKeeps_latches o).count t f x hf h.latches⟩
  desc t k hk h := ⟨h.sess, h.sec, h.otp, h.fw, h.now, (Tail.recordKeeps_latches o).desc t k hk h.latches⟩

theorem Tail.evt_secStays (p i : Nat) : t.SecStays (t.evt p i) := (Tail.recordKeeps_secStays t).latch t p i none (.refl t)

theorem Tail.audit_secStays (event level : Nat) (fr : FrameRef) (sid : Word) (a : Nat) (v : Word) :
    t.SecStays (t.audit event level fr sid a v) := (Tail.recordKeeps_secStays t).record .sqc (by decide) _ _ _ (.refl t)

theorem Tail.auditSec_secStays (event level : Nat) (fr : FrameRef) (sid : Word) (a : Nat) : t.SecStays (t.auditSec event level fr sid a) :=
  Tail.audit_secStays ..

variable {f : Tail → Tail}

theorem Tail.commit_secStays : (f { t with ssn := t.ssn + 1 }).SecStays (t.commit f) :=
  ⟨rfl, rfl, rfl, rfl, rfl, (Tail.KeepsLatches.refl _).of_regs rfl rfl⟩

theorem Tail.commitOn_secStays (k : Nat) : (f { t with ssn := t.ssn + 1 }).SecStays (t.commitOn k f) := by
  unfold Tail.commitOn Tail.commitAny
  extract_lets q
  split
  · exact ⟨rfl, rfl, rfl, rfl, rfl, (Tail.KeepsLatches.refl _).of_regs rfl rfl⟩
  · exact ⟨rfl, rfl, rfl, rfl, rfl, (Tail.KeepsLatches.refl _).of_regs rfl rfl⟩

end

/-! ## The end of a session (23 R801) -/

section
variable {t : Tail}

theorem Tail.sessEnd_shows (fr : FrameRef) (reason : Nat) (h : t.sess ≠ 0) : (t.sessEnd fr reason).sess = 0
    ∧ (t.sessEnd fr reason).sec.sid = 0 ∧ (t.sessEnd fr reason).now = t.now ∧ (t.sessEnd fr reason).ssn = t.ssn
    ∧ (t.sessEnd fr reason).evtBit 0x0A 1 = true := by
  have heq : t.sessEnd fr reason = (({ t with sess := 0, sec := { t.sec with sid := 0, mac := [] } } : Tail).evt 0x0A 1).auditSec 4 t.sess fr
      t.sec.sid reason := if_neg h
  generalize hq : ({ t with sess := 0, sec := { t.sec with sid := 0, mac := [] } } : Tail) = q at heq
  have hstays : (q.evt 0x0A 1).SecStays (t.sessEnd fr reason) := heq ▸ Tail.auditSec_secStays ..
  have hall := (Tail.evt_secStays (t := q) 0x0A 1).trans hstays
  refine ⟨hall.sess.trans (hq ▸ rfl), (congrArg Sec.sid hall.sec).trans (hq ▸ rfl), hall.now.trans (hq ▸ rfl), ?_,
    hstays.latches _ _ (q.evt_sets 0x0A (by decide))⟩
  rw [heq, Tail.auditSec_ssn]
  exact (q.evtV_ssn 0x0A 1 none).trans (hq ▸ rfl)

end

/-! ## The keys (23 R793, R795) -/

/-- A write of SEC_CMD alone. -/
def secWr (x : Word) : Wr := Wr.one SEC_CMD.PROG.addr x

/-- What the writes 1 and 2 say. -/
theorem secWr_says : ∀ x ∈ ([1, 2] : List Word), (∀ k : Fin 8, (secWr x).find (SEC_KEYW.KEY k.val).addr = none) ∧ (secWr x).srst = false
    ∧ (secWr x).find SEC_KCHK.KCHK.addr = none ∧ (secWr x).mb = false
    ∧ ((List.range 8).any (fun k => (secWr x).has (SEC_KEYW.KEY k)) || (secWr x).has SEC_KCHK.KCHK) = false
    ∧ (secWr x).cmd SEC_CMD.PROG = (if x = 1 then 1 else 0) ∧ (secWr x).cmd SEC_CMD.PROGCS = (if x = 1 then 0 else 1) := by
  intro x hx
  rcases List.mem_pair.mp hx with rfl | rfl
  · exact ⟨by decide, by decide, by decide, by decide, by decide, by decide, by decide⟩
  · exact ⟨by decide, by decide, by decide, by decide, by decide, by decide, by decide⟩

section
variable {t : Tail} {x : Word} {fr : FrameRef}

theorem Tail.keyWords_secWr (hx : x ∈ ([1, 2] : List Word)) : t.keyWords (secWr x) = t.sec.keyw := by
  obtain ⟨hkey, hsrst, -⟩ := secWr_says x hx
  refine Vector.ext fun k hk => ?_
  unfold Tail.keyWords
  rw [Vector.getElem_ofFn, hkey ⟨k, hk⟩, hsrst]
  rfl

theorem Tail.keyCheck_secWr (hx : x ∈ ([1, 2] : List Word)) : t.keyCheck (secWr x) = t.sec.kchk :=
  if_neg (by rw [(secWr_says x hx).2.1]; decide)

theorem Tail.secApply_secWr (hx : x ∈ ([1, 2] : List Word)) :
    t.secApply (secWr x) fr = if x = 1 then t.progKey fr else t.progCs fr := by
  obtain ⟨-, -, hkchk, hmb, -, hprog, hcs⟩ := secWr_says x hx
  unfold Tail.secApply
  rw [Tail.keyWords_secWr hx, Tail.keyCheck_secWr hx, hkchk, hmb, hprog, hcs]
  by_cases h1 : x = 1
  · rw [if_pos h1, if_pos h1, if_pos h1]
    rfl
  · rw [if_neg h1, if_neg h1, if_neg h1]
    rfl

/-- PROG is taken where the key is blank and its check right; PROGCS where there is no hash and the page is unlocked (23 R793, R795). -/
theorem Tail.secCheck_prog (hblank : t.otp.keyState = 0) (hchk : crc32c (keyBytes t.sec.keyw) = t.sec.kchk) :
    refusal (t.secCheck (secWr 1)) = none := by
  obtain ⟨-, -, -, hmb, hkeys, hprog, hcs⟩ := secWr_says 1 (by decide)
  unfold Tail.secCheck
  rw [Tail.keyWords_secWr (by decide), Tail.keyCheck_secWr (by decide), hmb, hkeys, hprog, hcs, hchk, hblank]
  simp [refusal]

theorem Tail.secCheck_programmed (h : t.otp.keyState ≠ 0) : (refusal (t.secCheck (secWr 1))).isSome = true := by
  obtain ⟨-, -, -, hmb, hkeys, hprog, hcs⟩ := secWr_says 1 (by decide)
  unfold Tail.secCheck
  rw [hmb, hkeys, hprog, hcs]
  simp [refusal, h, badAddr]

theorem Tail.secCheck_progcs (hnone : t.otp.cosign = false) (hlock : t.locked 0x0A = false) : refusal (t.secCheck (secWr 2)) = none := by
  obtain ⟨-, -, -, hmb, hkeys, hprog, hcs⟩ := secWr_says 2 (by decide)
  unfold Tail.secCheck
  rw [hmb, hkeys, hprog, hcs, hnone, hlock]
  simp [refusal]

theorem Tail.secCheck_cosigned (h : t.otp.cosign = true) : (refusal (t.secCheck (secWr 2))).isSome = true := by
  obtain ⟨-, -, -, hmb, hkeys, hprog, hcs⟩ := secWr_says 2 (by decide)
  unfold Tail.secCheck
  rw [hmb, hkeys, hprog, hcs, h]
  simp [refusal, badAddr]

/-- A key or a hash is burnt: the words held are zeroed, with the latch. -/
theorem Tail.keyBurnt (level : Nat) (sid : Word) :
    let r := (t.keyZero.evt 0x0A 4).auditSec 5 level fr sid 0
    r.otp = t.otp ∧ r.sec = t.keyZero.sec ∧ r.evtBit 0x0A 4 = true := by
  intro r
  have hstays : (t.keyZero.evt 0x0A 4).SecStays r := Tail.auditSec_secStays ..
  have hall := (Tail.evt_secStays (t := t.keyZero) 0x0A 4).trans hstays
  exact ⟨hall.otp, hall.sec, hstays.latches _ _ (Tail.evt_sets _ 0x0A (by decide))⟩

theorem Tail.progKey_shows : (t.progKey fr).otp.key = keyBytes t.sec.keyw
    ∧ (t.progKey fr).otp.keyState = (if Config.otpMatches t.fresh then 1 else 2)
    ∧ (t.progKey fr).sec.keyw = Vector.replicate 8 0 ∧ (t.progKey fr).sec.kchk = 0 ∧ (t.progKey fr).evtBit 0x0A 4 = true := by
  let q : Tail := { t.draw with otp := { t.otp with keyState := if Config.otpMatches t.fresh then 1 else 2, key := keyBytes t.sec.keyw } }
  obtain ⟨hotp, hsec, hevt⟩ := q.keyBurnt (fr := fr) 0 q.sec.sid
  exact ⟨congrArg Otp.key hotp, congrArg Otp.keyState hotp, congrArg Sec.keyw hsec, congrArg Sec.kchk hsec, hevt⟩

theorem Tail.progCs_shows : (t.progCs fr).otp.cosign = true ∧ (t.progCs fr).otp.csHash = keyBytes t.sec.keyw
    ∧ (t.progCs fr).otp.keyState = t.otp.keyState ∧ (t.progCs fr).sec.keyw = Vector.replicate 8 0
    ∧ (t.progCs fr).evtBit 0x0A 4 = true := by
  let q : Tail := { t with otp := { t.otp with cosign := true, csHash := keyBytes t.sec.keyw } }
  obtain ⟨hotp, hsec, hevt⟩ := q.keyBurnt (fr := fr) q.sess q.sec.sid
  exact ⟨congrArg Otp.cosign hotp, congrArg Otp.csHash hotp, (congrArg Otp.keyState hotp : _ = q.otp.keyState), congrArg Sec.keyw hsec, hevt⟩

end

/-! ## The commands -/

section
variable {s : State} {t : Tail} {x : Word}

theorem Tail.secRow_commits (h3 : t.on 3 = true) (h : refusal (t.secCheck (secWr x)) = none) :
    t.secRow x = (t.commit fun t => t.secApply (secWr x) noFrame).finish := if_neg (by
  show ¬ (!t.on 3 || (refusal (t.secCheck (secWr x))).isSome) = true
  rw [h3, h]
  decide)

theorem Tail.secRow_refused (h : (refusal (t.secCheck (secWr x))).isSome = true) : t.secRow x = t := if_pos (by
  show (!t.on 3 || (refusal (t.secCheck (secWr x))).isSome) = true
  rw [h, Bool.or_true])

end

/-- Settles O36. -/
theorem sessionTimersAndKeys : Obligations.SessionTimersAndKeys := by
  refine ⟨fun c s hpend => does_of_tail _ rfl ?_, fun d s hlock => does_of_tail _ rfl ?_, fun s hsess h3 => ?_,
    fun s h3 hblank hchk => ?_, fun s hkey => does_of_tail _ rfl (Tail.secRow_refused (Tail.secCheck_programmed hkey)),
    fun s h3 hnone hlock => ?_, fun s hcs => does_of_tail _ rfl (Tail.secRow_refused (Tail.secCheck_cosigned hcs))⟩
  · simp only [hpend]
    rw [Tail.elapseTo_eq, Tail.elapse_sec]
  · simp only [hlock]
    rw [Tail.elapseTo_eq, Tail.aonMap, Tail.elapse_aon]
  · let q := s.fs.elapseTo (min s.fs.idleEnd s.fs.lifeEnd)
    let reason := if s.fs.lifeEnd < s.fs.idleEnd then 3 else 2
    have hq : ({ q with ssn := q.ssn + 1 } : Tail).sess ≠ 0 := by
      rw [show ({ q with ssn := q.ssn + 1 } : Tail).sess = s.fs.sess from Tail.elapse_sess _ _]
      exact hsess
    obtain ⟨hsess', hsid, hnow, hssn, hevt⟩ := Tail.sessEnd_shows noFrame reason hq
    have hcommit := Tail.commitOn_secStays (t := q) (f := fun t => t.sessEnd noFrame reason) 161
    have hnum := Tail.commitOn_ssn (t := q) (k := 161) (f := fun t => t.sessEnd noFrame reason) hssn
    refine ⟨_, settles_of_tail _ rfl (if_neg ?_), hcommit.sess.trans hsess', (congrArg Sec.sid hcommit.sec).trans hsid, ?_,
      hcommit.latches _ _ hevt, (hcommit.now.trans hnow).trans (Tail.elapse_now _ _)⟩
    · simp [hsess, h3]
    · have hsst : q.sst 161 = s.fs.sst 161 := congrArg (fun x : Store => smGet (fun _ => StreamSt.fresh) x.streams 161) (Tail.elapse_store _ _)
      rw [hnum, hsst, show q.ssn = s.fs.ssn from Tail.elapse_ssn _ _]
  · obtain ⟨hkey, hstate, hkeyw, hkchk, hevt⟩ := Tail.progKey_shows (t := { s.fs with ssn := s.fs.ssn + 1 }) (fr := noFrame)
    have hcommit := Tail.commit_secStays (t := s.fs) (f := fun t => t.secApply (secWr 1) noFrame)
    have hssn := (Tail.commit_ssn s.fs fun t => t.secApply (secWr 1) noFrame).trans (Tail.secApply_ssn _ _ _)
    rw [Tail.secApply_secWr (by decide), if_pos rfl] at hcommit
    exact ⟨_, settles_of_tail _ rfl (Tail.secRow_commits h3 (Tail.secCheck_prog hblank hchk)), hssn,
      (congrArg Otp.key hcommit.otp).trans hkey, (congrArg Otp.keyState hcommit.otp).trans hstate,
      (congrArg Sec.keyw hcommit.sec).trans hkeyw, (congrArg Sec.kchk hcommit.sec).trans hkchk, hcommit.latches _ _ hevt⟩
  · obtain ⟨hcs, hhash, hstate, hkeyw, hevt⟩ := Tail.progCs_shows (t := { s.fs with ssn := s.fs.ssn + 1 }) (fr := noFrame)
    have hcommit := Tail.commit_secStays (t := s.fs) (f := fun t => t.secApply (secWr 2) noFrame)
    have hssn := (Tail.commit_ssn s.fs fun t => t.secApply (secWr 2) noFrame).trans (Tail.secApply_ssn _ _ _)
    rw [Tail.secApply_secWr (by decide), if_neg (by decide)] at hcommit
    exact ⟨_, settles_of_tail _ rfl (Tail.secRow_commits h3 (Tail.secCheck_progcs hnone hlock)), hssn,
      (congrArg Otp.cosign hcommit.otp).trans hcs, (congrArg Otp.csHash hcommit.otp).trans hhash,
      (congrArg Otp.keyState hcommit.otp).trans hstate, (congrArg Sec.keyw hcommit.sec).trans hkeyw, hcommit.latches _ _ hevt⟩

end Sys2Proof.Machine
end

section
/-! Settling O37: a firmware load (23 R809 to R815). -/

namespace Sys2Proof.Machine

/-! ## Writes of FW_CMD -/

/-- A write of FW_CMD alone. -/
def fwWr (x : Word) : Wr := Wr.one FW_CMD.BEGIN.addr x

theorem fwWr_begin : (fwWr 1).cmd FW_CMD.BEGIN = 1 ∧ (fwWr 1).cmd FW_CMD.COMMIT = 0 ∧ (fwWr 1).cmd FW_CMD.CONFIRM = 0
    ∧ (fwWr 1).cmd FW_CMD.CANCEL = 0 := by decide

theorem fwWr_commit : (fwWr 2).cmd FW_CMD.BEGIN = 0 ∧ (fwWr 2).cmd FW_CMD.COMMIT = 1 ∧ (fwWr 2).cmd FW_CMD.CONFIRM = 0
    ∧ (fwWr 2).cmd FW_CMD.CANCEL = 0 := by decide

theorem fwWr_confirm : (fwWr 4).cmd FW_CMD.BEGIN = 0 ∧ (fwWr 4).cmd FW_CMD.COMMIT = 0 ∧ (fwWr 4).cmd FW_CMD.CONFIRM = 1
    ∧ (fwWr 4).cmd FW_CMD.CANCEL = 0 := by decide

theorem fwWr_cancel : (fwWr 8).cmd FW_CMD.BEGIN = 0 ∧ (fwWr 8).cmd FW_CMD.COMMIT = 0 ∧ (fwWr 8).cmd FW_CMD.CONFIRM = 0
    ∧ (fwWr 8).cmd FW_CMD.CANCEL = 1 := by decide

section
variable {t : Tail} {fr : FrameRef}

theorem Tail.fwApply_begin : t.fwApply (fwWr 1) fr = t.fwBegin fr := by
  obtain ⟨hbegin, hcommit, hconfirm, hcancel⟩ := fwWr_begin
  unfold Tail.fwApply
  rw [hbegin, hcommit, hconfirm, hcancel]
  rfl

theorem Tail.fwApply_commit : t.fwApply (fwWr 2) fr = t.fwCommit := by
  obtain ⟨hbegin, hcommit, hconfirm, hcancel⟩ := fwWr_commit
  unfold Tail.fwApply
  rw [hbegin, hcommit, hconfirm, hcancel]
  rfl

theorem Tail.fwApply_confirm : t.fwApply (fwWr 4) fr = t.fwConfirm fr := by
  obtain ⟨hbegin, hcommit, hconfirm, hcancel⟩ := fwWr_confirm
  unfold Tail.fwApply
  rw [hbegin, hcommit, hconfirm, hcancel]
  rfl

theorem Tail.fwApply_cancel : t.fwApply (fwWr 8) fr = t.fwCancel fr := by
  obtain ⟨hbegin, hcommit, hconfirm, hcancel⟩ := fwWr_cancel
  unfold Tail.fwApply
  rw [hbegin, hcommit, hconfirm, hcancel]
  rfl

/-! ## What they are taken for (23 R791, R809, R811, R815) -/

/-- A write of FW_CMD to an unlocked page is taken where each of its commands is. -/
theorem Tail.fwCheck_none {w : Wr} (hlock : t.locked 0x0B = false)
    (hbegin : w.cmd FW_CMD.BEGIN = 1 → t.fw.load = .idle ∧ t.fw.slots[t.fw.booted].st ≠ .trial)
    (hcommit : w.cmd FW_CMD.COMMIT = 1 → t.fw.load = .loading)
    (hconfirm : w.cmd FW_CMD.CONFIRM = 1 → t.fw.slots[t.fw.booted].st = .trial ∧ t.us = .readySafe) : refusal (t.fwCheck w) = none := by
  have hall : ∀ e ∈ t.fwCheck w, e.1 = false := by
    simp only [Tail.fwCheck, List.mem_cons, List.not_mem_nil, or_false]
    rintro e (rfl | rfl | rfl | rfl)
    · simp [hlock]
    · by_cases h : w.cmd FW_CMD.BEGIN = 1
      · simpa [(hbegin h).1] using fun _ => (hbegin h).2
      · simp [h]
    · by_cases h : w.cmd FW_CMD.COMMIT = 1
      · simp [hcommit h]
      · simp [h]
    · by_cases h : w.cmd FW_CMD.CONFIRM = 1
      · simpa [(hconfirm h).2] using fun _ => (hconfirm h).1
      · simp [h]
  exact refusal_of_none hall

theorem Tail.fwCheck_begin (hlock : t.locked 0x0B = false) (hload : t.fw.load = .idle) (htrial : t.fw.slots[t.fw.booted].st ≠ .trial) :
    refusal (t.fwCheck (fwWr 1)) = none := by
  obtain ⟨-, hcommit, hconfirm, -⟩ := fwWr_begin
  exact Tail.fwCheck_none hlock (fun _ => ⟨hload, htrial⟩) (fun h => absurd (hcommit.symm.trans h) (by decide)) (fun h => absurd (hconfirm.symm.trans h) (by decide))

theorem Tail.fwCheck_commit (hlock : t.locked 0x0B = false) (hload : t.fw.load = .loading) : refusal (t.fwCheck (fwWr 2)) = none := by
  obtain ⟨hbegin, -, hconfirm, -⟩ := fwWr_commit
  exact Tail.fwCheck_none hlock (fun h => absurd (hbegin.symm.trans h) (by decide)) (fun _ => hload) (fun h => absurd (hconfirm.symm.trans h) (by decide))

theorem Tail.fwCheck_confirm (hlock : t.locked 0x0B = false) (htrial : t.fw.slots[t.fw.booted].st = .trial) (hus : t.us = .readySafe) :
    refusal (t.fwCheck (fwWr 4)) = none := by
  obtain ⟨hbegin, hcommit, -⟩ := fwWr_confirm
  exact Tail.fwCheck_none hlock (fun h => absurd (hbegin.symm.trans h) (by decide)) (fun h => absurd (hcommit.symm.trans h) (by decide)) fun _ => ⟨htrial, hus⟩

theorem Tail.fwCheck_cancel (hlock : t.locked 0x0B = false) : refusal (t.fwCheck (fwWr 8)) = none := by
  obtain ⟨hbegin, hcommit, hconfirm, -⟩ := fwWr_cancel
  exact Tail.fwCheck_none hlock (fun h => absurd (hbegin.symm.trans h) (by decide)) (fun h => absurd (hcommit.symm.trans h) (by decide)) (fun h => absurd (hconfirm.symm.trans h) (by decide))

theorem Tail.fwRow_commits {x : Word} (h3 : t.on 3 = true) (h : refusal (t.fwCheck (fwWr x)) = none) :
    t.fwRow x = (t.commit fun t => t.fwApply (fwWr x) noFrame).finish := if_neg (by
  show ¬ (!t.on 3 || (refusal (t.fwCheck (fwWr x))).isSome) = true
  rw [h3, h]
  decide)

/-! ## Slots -/

theorem otherSlot_ne (i : Fin 2) : otherSlot i ≠ i := by revert i; decide

@[simp] theorem Tail.slotMap_same (i : Fin 2) (f : Slot → Slot) : (t.slotMap i f).fw.slots[i] = f t.fw.slots[i] := Vector.getElem_set_self i.2

@[simp] theorem Tail.slotMap_other {i j : Fin 2} (f : Slot → Slot) (h : i ≠ j) : (t.slotMap i f).fw.slots[j] = t.fw.slots[j] :=
  Vector.getElem_set_ne i.2 j.2 (fun e => h (Fin.ext e))

theorem Tail.auditFw_secStays (step : Nat) (i : Fin 2) : t.SecStays (t.auditFw step i fr) := Tail.audit_secStays ..

theorem Tail.streamClear_fw (k : Nat) : (t.streamClear k).fw = t.fw :=
  ((Tail.recordKeeps_secStays t).sysWrites (descX k) 2 (.refl t)).fw

/-! ## What they do -/

/-- A load that begins in slot `i`. -/
def Fw.begun (f : Fw) (i : Fin 2) : Fw := { f with load := .erasing, ofs := 0, commitWait := false, poisoned := false, target := i }

theorem Tail.fwBegin_fw (hrec : t.fw.recovery = false) :
    (t.fwBegin fr).fw = (t.slotMap (otherSlot t.fw.booted) fun _ => Slot.empty).fw.begun (otherSlot t.fw.booted) := by
  have hclear := Tail.streamClear_fw (t := t.slotMap (otherSlot t.fw.booted) fun _ => Slot.empty) 168
  unfold Tail.fwBegin
  rw [hrec]
  exact (Tail.auditFw_secStays 1 _).fw.trans (congrArg (Fw.begun · (otherSlot t.fw.booted)) hclear)

theorem Tail.fwBegin_shows (hrec : t.fw.recovery = false) : (t.fwBegin fr).fw.load = .erasing
    ∧ (t.fwBegin fr).fw.target = otherSlot t.fw.booted ∧ (t.fwBegin fr).fw.slots[otherSlot t.fw.booted] = Slot.empty
    ∧ (t.fwBegin fr).fw.slots[t.fw.booted] = t.fw.slots[t.fw.booted] ∧ (t.fwBegin fr).fw.ofs = 0 ∧ (t.fwBegin fr).fw.poisoned = false := by
  rw [Tail.fwBegin_fw hrec]
  have hother : (t.slotMap (otherSlot t.fw.booted) fun _ => Slot.empty).fw.slots[t.fw.booted] = _ := Tail.slotMap_other _ (otherSlot_ne _)
  have hsame : (t.slotMap (otherSlot t.fw.booted) fun _ => Slot.empty).fw.slots[otherSlot t.fw.booted] = _ := Tail.slotMap_same _ _
  exact ⟨rfl, rfl, hsame, hother, rfl, rfl⟩

theorem Tail.fwCommit_shows : (t.imageRec = none → (t.sst 168).held = [] → t.fwCommit.fw = { t.fw with load := .verifying, commitWait := false })
    ∧ (t.imageRec ≠ none → t.fwCommit.fw = { t.fw with commitWait := true }) := by
  unfold Tail.fwCommit
  refine ⟨fun hrec hheld => ?_, fun hrec => ?_⟩
  · rw [if_pos (by simp [hrec, hheld])]
    rfl
  · rw [if_neg (by simp [hrec])]
    rfl

/-- CANCEL of a load (23 R812). -/
theorem Tail.fwCancel_shows : (t.fwCancel fr).fw.load = .idle ∧ (t.fwCancel fr).fw.next = t.fw.booted
    ∧ (t.fwCancel fr).fw.slots[t.fw.target].st = (if t.fw.load ≠ .idle ∧ (t.fw.slots[t.fw.target].st = .empty
        ∨ t.fw.slots[t.fw.target].st = .verified) then .invalid else t.fw.slots[t.fw.target].st)
    ∧ (t.fwCancel fr).fw.slots[otherSlot t.fw.target] = t.fw.slots[otherSlot t.fw.target] := by
  unfold Tail.fwCancel
  extract_lets i q
  have hfw : ((q.fwMap (fun f => { f with load := .idle, commitWait := false, next := f.booted })).auditFw 3 i fr).fw
      = { q.fw with load := .idle, commitWait := false, next := q.fw.booted } := (Tail.auditFw_secStays 3 i).fw
  have hbooted : q.fw.booted = t.fw.booted := by
    unfold q
    split <;> rfl
  have hother : q.fw.slots[otherSlot i] = t.fw.slots[otherSlot i] := by
    unfold q
    split
    · rfl
    · exact Tail.slotMap_other _ (otherSlot_ne i).symm
  have hslot : q.fw.slots[i].st = (if t.fw.load ≠ .idle ∧ (t.fw.slots[i].st = .empty ∨ t.fw.slots[i].st = .verified)
      then .invalid else t.fw.slots[i].st) := by
    by_cases hidle : t.fw.load = .idle
    · have hq : q = t := if_pos hidle
      rw [hq, if_neg fun h => h.1 hidle]
    · have hq : q = t.slotMap i fun s => if s.st = .empty || s.st = .verified then { s with st := .invalid } else s := if_neg hidle
      rw [hq, Tail.slotMap_same]
      by_cases h : t.fw.slots[i].st = .empty ∨ t.fw.slots[i].st = .verified
      · rw [if_pos (by simpa using h), if_pos ⟨hidle, h⟩]
      · rw [if_neg (by simpa using h), if_neg fun h' => h h'.2]
  exact ⟨congrArg Fw.load hfw, (congrArg Fw.next hfw).trans hbooted, (congrArg (fun f : Fw => f.slots[i].st) hfw).trans hslot,
    (congrArg (fun f : Fw => f.slots[otherSlot i]) hfw).trans hother⟩

/-- CONFIRM of a trial (23 R815). -/
theorem Tail.fwConfirm_shows : (t.fwConfirm fr).fw.slots[t.fw.booted].st = .confirmed
    ∧ (t.fwConfirm fr).otp.arc = max t.otp.arc t.fw.slots[t.fw.booted].arc ∧ (t.fwConfirm fr).evtBit 0x0B 4 = true := by
  unfold Tail.fwConfirm
  extract_lets b arc q1 _ q2 q3
  have haudit : (q3.evt 0x0B 4).SecStays ((q3.evt 0x0B 4).auditFw 4 b fr) := Tail.auditFw_secStays 4 b
  have hall := (Tail.evt_secStays (t := q3) 0x0B 4).trans haudit
  have hslot : q3.fw.slots[b].st = .confirmed := by
    have hother : q3.fw.slots[b] = q2.fw.slots[b] := Tail.slotMap_other _ (otherSlot_ne b)
    have hsame : q2.fw.slots[b] = _ := Tail.slotMap_same (t := t) b fun s => { s with st := .confirmed }
    rw [hother, hsame]
  exact ⟨(congrArg (fun f : Fw => f.slots[b].st) hall.fw).trans hslot, congrArg Otp.arc hall.otp,
    haudit.latches _ _ (q3.evt_sets 0x0B (by decide))⟩

/-! ## Records and the verification (23 R807, R810, R811) -/

theorem Tail.takeImage_fw (r : RecIx) : (t.takeImage r).2.2.fw = t.fw := by
  have hP := Tail.recordKeeps_secStays t
  have hread : t.SecStays (t.readRec 168 r).2 := hP.readRec 168 r (.refl t)
  unfold Tail.takeImage
  generalize t.readRec 168 r = x at hread
  obtain ⟨x, q⟩ := x
  dsimp only at hread ⊢
  split
  · exact (hP.wmUpdate 168 (hP.sstMap _ _ hread)).fw
  · exact (hP.wmUpdate 168 (hP.sstMap _ _ hread)).fw

/-- A record at the offset reached is appended (23 R810). -/
theorem Tail.program_appends {f : Fw} {d : List Byte} (hfw : t.fw = f) (hofs : leNat (d.take 4) = f.ofs)
    (hlen : f.ofs + (d.drop 4).length ≤ imageMax) :
    (t.program d false).fw.slots[f.target].img = f.slots[f.target].img ++ d.drop 4
      ∧ (t.program d false).fw.ofs = f.ofs + (d.drop 4).length ∧ (t.program d false).fw.load = f.load
      ∧ (t.program d false).fw.commitWait = f.commitWait := by
  subst hfw
  have heq : t.program d false = (t.slotMap t.fw.target (fun s => { s with img := s.img ++ d.drop 4 })).fwMap fun f =>
      { f with ofs := f.ofs + (d.drop 4).length, poisoned := f.poisoned || false } := by
    unfold Tail.program
    dsimp only
    rw [hofs, if_neg (Nat.lt_irrefl _), if_neg (Nat.lt_irrefl _), if_neg (Nat.not_lt.mpr hlen)]
  have hslot : (t.slotMap t.fw.target (fun s => { s with img := s.img ++ d.drop 4 })).fw.slots[t.fw.target] = _ := Tail.slotMap_same _ _
  rw [heq]
  exact ⟨congrArg Slot.img hslot, rfl, rfl, rfl⟩

/-- A load that fails with cause `c`. -/
theorem Tail.loadFail_shows {i : Fin 2} (hi : t.fw.target = i) (c : Nat) : (t.loadFail c).fw.load = .failed ∧ (t.loadFail c).fw.cause = c
    ∧ (t.loadFail c).fw.slots[i].st = .invalid ∧ (t.loadFail c).fw.next = t.fw.next ∧ (t.loadFail c).evtBit 0x0B 1 = true := by
  subst hi
  let q := (t.slotMap t.fw.target (fun s => { s with st := .invalid })).fwMap fun f =>
    { f with load := .failed, cause := c, commitWait := false }
  have hstays : q.SecStays (t.loadFail c) := Tail.evt_secStays 0x0B 1
  have hslot : q.fw.slots[t.fw.target] = _ := Tail.slotMap_same (t := t) t.fw.target fun s => { s with st := .invalid }
  exact ⟨congrArg Fw.load hstays.fw, congrArg Fw.cause hstays.fw,
    (congrArg (fun f : Fw => f.slots[t.fw.target].st) hstays.fw).trans (congrArg Slot.st hslot), (congrArg Fw.next hstays.fw : _ = q.fw.next),
    q.evt_sets 0x0B (by decide)⟩

/-- The firmware once the image `img` in slot `i` has passed: the slot is the next one. -/
def Tail.imageTaken (t : Tail) (i : Fin 2) (img : List Byte) : Tail :=
  (t.slotMap i (fun s =>
    { s with st := .verified, version := BitVec.ofNat 32 (leNat ((img.drop 8).take 4)), arc := (img.getD 12 0).toNat })).fwMap (fun f =>
      { f with load := .verified, next := i })

/-- With its latch; a recovery boots it. -/
def Tail.imageGood (t : Tail) (i : Fin 2) (img : List Byte) : Tail :=
  let q := (t.imageTaken i img).evt 0x0B 0
  if q.fw.recovery then { q with resetDue := some .fwAct } else q

theorem Tail.imageGood_shows (i : Fin 2) (img : List Byte) : (t.imageGood i img).fw.load = .verified ∧ (t.imageGood i img).fw.next = i
    ∧ (t.imageGood i img).fw.slots[i].st = .verified ∧ (t.imageGood i img).evtBit 0x0B 0 = true := by
  have hboots : (t.imageGood i img).fw = ((t.imageTaken i img).evt 0x0B 0).fw
      ∧ (t.imageGood i img).evtBit 0x0B 0 = ((t.imageTaken i img).evt 0x0B 0).evtBit 0x0B 0 := by
    unfold Tail.imageGood
    extract_lets q
    split
    · exact ⟨rfl, rfl⟩
    · exact ⟨rfl, rfl⟩
  have hfw := hboots.1.trans (Tail.evt_secStays (t := t.imageTaken i img) 0x0B 0).fw
  have hslot : (t.imageTaken i img).fw.slots[i] = _ := Tail.slotMap_same (t := t) i fun s =>
    { s with st := .verified, version := BitVec.ofNat 32 (leNat ((img.drop 8).take 4)), arc := (img.getD 12 0).toNat }
  exact ⟨congrArg Fw.load hfw, congrArg Fw.next hfw, (congrArg (fun f : Fw => f.slots[i].st) hfw).trans (congrArg Slot.st hslot),
    hboots.2.trans (Tail.evt_sets _ 0x0B (by decide))⟩

/-- The end of a verification of slot `i` with result `c`, under its commit. -/
def Tail.verified (t : Tail) (i : Fin 2) (img : List Byte) (c : Nat) : Tail :=
  (if c != 0 then t.loadFail c else t.imageGood i img).auditFw 2 i noFrame

theorem Tail.verified_ssn (i : Fin 2) (img : List Byte) (c : Nat) : (t.verified i img c).ssn = t.ssn := by
  have hfail : (t.loadFail c).ssn = t.ssn := Tail.evtV_ssn _ 0x0B 1 none
  have hgood : (t.imageGood i img).ssn = t.ssn := by
    have hevt : ((t.imageTaken i img).evt 0x0B 0).ssn = t.ssn := Tail.evtV_ssn _ 0x0B 0 none
    unfold Tail.imageGood
    extract_lets q
    split
    · exact hevt
    · exact hevt
  unfold Tail.verified
  rw [Tail.auditFw_ssn]
  split
  · exact hfail
  · exact hgood

/-- The verification of slot `i` ends with result `c`: the slot is the next one, or the load has failed (23 R807, R811). -/
theorem Tail.verified_shows {i : Fin 2} (hi : t.fw.target = i) (img : List Byte) (c : Nat) :
    let r := t.commitOn 161 fun t => t.verified i img c
    r.ssn = (if (r.sst 161).seq = (t.sst 161).seq then t.ssn else t.ssn + 1)
      ∧ (c = 0 → r.fw.load = .verified ∧ r.fw.next = i ∧ r.fw.slots[i].st = .verified ∧ r.evtBit 0x0B 0 = true)
      ∧ (c ≠ 0 → r.fw.load = .failed ∧ r.fw.cause = c ∧ r.fw.slots[i].st = .invalid ∧ r.fw.next = t.fw.next ∧ r.evtBit 0x0B 1 = true) := by
  intro r
  let q : Tail := { t with ssn := t.ssn + 1 }
  have hcommit : (q.verified i img c).SecStays r := Tail.commitOn_secStays (t := t) (f := fun t => t.verified i img c) 161
  refine ⟨Tail.commitOn_ssn (q.verified_ssn i img c), fun hc => ?_, fun hc => ?_⟩
  · obtain ⟨hload, hnext, hst, hevt⟩ := q.imageGood_shows i img
    have haudit : (q.imageGood i img).SecStays (q.verified i img c) := by
      unfold Tail.verified
      rw [hc]
      exact Tail.auditFw_secStays 2 i
    have hall := haudit.trans hcommit
    exact ⟨(congrArg Fw.load hall.fw).trans hload, (congrArg Fw.next hall.fw).trans hnext,
      (congrArg (fun f : Fw => f.slots[i].st) hall.fw).trans hst, hall.latches _ _ hevt⟩
  · obtain ⟨hload, hcause, hst, hnext, hevt⟩ := q.loadFail_shows hi c
    have haudit : (q.loadFail c).SecStays (q.verified i img c) := by
      unfold Tail.verified
      rw [if_pos (by simpa using hc)]
      exact Tail.auditFw_secStays 2 i
    have hall := haudit.trans hcommit
    exact ⟨(congrArg Fw.load hall.fw).trans hload, (congrArg Fw.cause hall.fw).trans hcause,
      (congrArg (fun f : Fw => f.slots[i].st) hall.fw).trans hst, (congrArg Fw.next hall.fw).trans hnext, hall.latches _ _ hevt⟩

end

/-- Settles O37. -/
theorem firmwareLoad : Obligations.FirmwareLoad := by
  refine ⟨fun s h3 hlock hload htrial hrec => ?_, fun s hload h3 => does_of_tail _ rfl (if_pos (by simp [hload, h3])),
    fun r d t1 s hload h3 h4 hrec htake hd hofs hlen hwait => ?_, fun s h3 hlock hload => ?_,
    fun s h3 hload => ⟨_, settles_of_tail _ rfl (if_neg (by simp [h3, hload])), Tail.verified_shows rfl _ _⟩, fun s h3 hlock => ?_, fun s h3 hlock htrial hus => ?_⟩
  · obtain ⟨hload', htarget, hempty, hslot, hofs, hpoison⟩ :=
      Tail.fwBegin_shows (t := { s.fs with ssn := s.fs.ssn + 1 }) (fr := noFrame) hrec
    have hcommit := Tail.commit_secStays (t := s.fs) (f := fun t => t.fwApply (fwWr 1) noFrame)
    rw [Tail.fwApply_begin] at hcommit
    refine ⟨_, settles_of_tail _ rfl (Tail.fwRow_commits h3 (Tail.fwCheck_begin hlock hload htrial)),
      (Tail.commit_ssn _ _).trans (Tail.fwApply_ssn _ _ _), ?_⟩
    rw [hcommit.fw]
    exact ⟨hload', htarget, hempty, hslot, hofs, hpoison⟩
  · have hfw : t1.fw = s.fs.fw := (congrArg (fun x : List Byte × Bool × Tail => x.2.2.fw) htake).symm.trans (s.fs.takeImage_fw r)
    obtain ⟨himg, hofs', hload', hwait'⟩ := Tail.program_appends hfw hofs hlen
    refine ⟨t1.program d false, settles_of_tail _ rfl ?_, himg, hofs', hload'.trans hload⟩
    refine (if_neg (by simp [hload, h3, h4])).trans ?_
    simp only [hrec, htake]
    rw [if_neg hd, if_neg (by simp [hwait', hwait])]
  · obtain ⟨hnone, hsome⟩ := Tail.fwCommit_shows (t := { s.fs with ssn := s.fs.ssn + 1 })
    have hcommit := Tail.commit_secStays (t := s.fs) (f := fun t => t.fwApply (fwWr 2) noFrame)
    rw [Tail.fwApply_commit] at hcommit
    refine ⟨_, settles_of_tail _ rfl (Tail.fwRow_commits h3 (Tail.fwCheck_commit hlock hload)),
      (Tail.commit_ssn _ _).trans (Tail.fwApply_ssn _ _ _), ?_⟩
    rw [hcommit.fw]
    exact ⟨hnone, hsome⟩
  · obtain ⟨hload, hnext, hst, hother⟩ := Tail.fwCancel_shows (t := { s.fs with ssn := s.fs.ssn + 1 }) (fr := noFrame)
    have hcommit := Tail.commit_secStays (t := s.fs) (f := fun t => t.fwApply (fwWr 8) noFrame)
    rw [Tail.fwApply_cancel] at hcommit
    refine ⟨_, settles_of_tail _ rfl (Tail.fwRow_commits h3 (Tail.fwCheck_cancel hlock)),
      (Tail.commit_ssn _ _).trans (Tail.fwApply_ssn _ _ _), ?_⟩
    rw [hcommit.fw]
    exact ⟨hload, hnext, hst, hother⟩
  · obtain ⟨hst, harc, hevt⟩ := Tail.fwConfirm_shows (t := { s.fs with ssn := s.fs.ssn + 1 }) (fr := noFrame)
    have hcommit := Tail.commit_secStays (t := s.fs) (f := fun t => t.fwApply (fwWr 4) noFrame)
    rw [Tail.fwApply_confirm] at hcommit
    refine ⟨_, settles_of_tail _ rfl (Tail.fwRow_commits h3 (Tail.fwCheck_confirm hlock htrial hus)),
      (Tail.commit_ssn _ _).trans (Tail.fwApply_ssn _ _ _), ?_, (congrArg Otp.arc hcommit.otp).trans harc, hcommit.latches _ _ hevt⟩
    rw [hcommit.fw]
    exact hst

end Sys2Proof.Machine
end

section
/-! Settling O33: off-state diagnostics (19 R687 to R699). -/

namespace Sys2Proof.Machine

/-! ## Nibbles -/

theorem nibble_mod (y : Nat) {j n : Nat} (h : j < n) : y % 16 ^ n / 16 ^ j % 16 = y / 16 ^ j % 16 := by
  obtain ⟨d, rfl⟩ := Nat.exists_eq_add_of_lt h
  rw [show j + d + 1 = j + (d + 1) from rfl, pow_add, Nat.mod_mul_right_div_self, pow_succ]
  exact Nat.mod_mod_of_dvd _ (Dvd.intro_left _ rfl)

/-- `x` with nibble `k` set to `r`. -/
def putNibble (x k r : Nat) : Nat := x - x / 16 ^ k % 16 * 16 ^ k + r * 16 ^ k

theorem putNibble_eq (x k r : Nat) : putNibble x k r = 16 ^ k * (16 * (x / 16 ^ k / 16) + r) + x % 16 ^ k := by
  unfold putNibble
  have hx := Nat.div_add_mod x (16 ^ k)
  have hq := Nat.div_add_mod (x / 16 ^ k) 16
  generalize x / 16 ^ k / 16 = a at hq ⊢
  generalize x / 16 ^ k % 16 = d at hq ⊢
  generalize x % 16 ^ k = lo at hx ⊢
  rw [← hq] at hx
  rw [← hx, mul_add, mul_add, Nat.mul_comm d, Nat.mul_comm r]
  omega

theorem putNibble_same (x k : Nat) {r : Nat} (hr : r < 16) : putNibble x k r / 16 ^ k % 16 = r := by
  have hpos : 0 < 16 ^ k := by positivity
  rw [putNibble_eq, Nat.mul_add_div hpos, Nat.div_eq_of_lt (Nat.mod_lt _ hpos)]
  omega

theorem putNibble_ne (x : Nat) {j k r : Nat} (hr : r < 16) (h : j ≠ k) : putNibble x k r / 16 ^ j % 16 = x / 16 ^ j % 16 := by
  have hpos : 0 < 16 ^ k := by positivity
  rcases Nat.lt_or_gt_of_ne h with h | h
  · rw [← nibble_mod _ h, ← nibble_mod x h, putNibble_eq, Nat.mul_add_mod, Nat.mod_mod]
  · obtain ⟨d, rfl⟩ := Nat.exists_eq_add_of_lt h
    have hup (y : Nat) : y / 16 ^ (k + d + 1) = y / 16 ^ k / 16 / 16 ^ d := by
      rw [Nat.div_div_eq_div_mul, Nat.div_div_eq_div_mul, show k + d + 1 = k + 1 + d by omega, pow_add, pow_succ,
        Nat.mul_assoc]
    rw [hup, hup, putNibble_eq, Nat.mul_add_div hpos, Nat.div_eq_of_lt (Nat.mod_lt _ hpos)]
    congr 2
    omega

/-! ## Results of steps (19 R701) -/

section
variable {t r : Tail}

/-- A register of a step's result keeps its word. -/
def Tail.ResStay (t r : Tail) : Prop := r.word DIAG_RES_LO.RES.addr = t.word DIAG_RES_LO.RES.addr
  ∧ r.word DIAG_RES_HI.RES.addr = t.word DIAG_RES_HI.RES.addr

theorem Tail.ResStay.res (h : t.ResStay r) (k : Nat) : r.diagRes k = t.diagRes k := by
  have hlo : r.g DIAG_RES_LO.RES = t.g DIAG_RES_LO.RES := congrArg (fdGet DIAG_RES_LO.RES) h.1
  have hhi : r.g DIAG_RES_HI.RES = t.g DIAG_RES_HI.RES := congrArg (fdGet DIAG_RES_HI.RES) h.2
  unfold Tail.diagRes
  rw [hlo, hhi]

theorem Tail.resStay_p (f : Fd) (x : Nat) (hf : f.addr ≠ DIAG_RES_LO.RES.addr ∧ f.addr ≠ DIAG_RES_HI.RES.addr) : t.ResStay (t.p f x) :=
  ⟨t.word_p_ne x hf.1.symm, t.word_p_ne x hf.2.symm⟩

theorem Tail.resStay_evt (p i : Nat) : t.ResStay (t.evt p i) := by
  have hne {a : Nat} (ha : a % 256 ≠ 0x0C) : a ≠ (PG_EVT.EVT p).addr := fun e => ha ((congrArg (· % 256) e).trans (evt_addr_mod _))
  exact ⟨t.word_evt_ne p i (hne (by decide)), t.word_evt_ne p i (hne (by decide))⟩

theorem Tail.resStay_diag (d : Diag) : t.ResStay { t with diag := d } := ⟨rfl, rfl⟩

theorem Tail.ResStay.trans {o : Tail} (h : o.ResStay t) (h' : t.ResStay r) : o.ResStay r := ⟨h'.1.trans h.1, h'.2.trans h.2⟩

theorem resRegs_prot (n : Stn) : protReg n DIAG_RES_LO.RES.addr = false ∧ protReg n DIAG_RES_HI.RES.addr = false := by revert n; decide

theorem Tail.resStay_diagReturn (n : Stn) : t.ResStay (t.diagReturn n) := by
  have honly : t.Only n (t.diagReturn n) := Tail.only_diagReturn .refl
  exact ⟨honly.reg _ (resRegs_prot n).1, honly.reg _ (resRegs_prot n).2⟩

theorem nibble_of_reg (y : Nat) {j : Nat} (h : j < 8) : y % 2 ^ 32 / 16 ^ j % 16 = y / 16 ^ j % 16 := nibble_mod y h

theorem Tail.diagPut_res {s x k : Nat} (hs : s < 16) (hk : k < 16) (hx : x < 16) :
    (t.diagPut s x).diagRes k = if k = s then x else t.diagRes k := by
  have hput (y : Nat) {j i : Nat} (hj : j < 8) : putNibble y i x % 2 ^ 32 / 16 ^ j % 16 = if j = i then x else y / 16 ^ j % 16 := by
    rw [nibble_of_reg _ hj]
    split
    · next h => rw [h, putNibble_same _ _ hx]
    · next h => rw [putNibble_ne _ hx h]
  unfold Tail.diagPut Tail.diagRes
  dsimp only
  by_cases h8 : s < 8
  · have hg : (t.p DIAG_RES_LO.RES (putNibble (t.g DIAG_RES_LO.RES) s x)).g DIAG_RES_LO.RES = _ := t.g_p _ (by decide)
    have hg' : (t.p DIAG_RES_LO.RES (putNibble (t.g DIAG_RES_LO.RES) s x)).g DIAG_RES_HI.RES = _ := t.g_p_ne _ (by decide)
    rw [if_pos h8]
    by_cases hk8 : k < 8
    · rw [if_pos hk8, if_pos hk8]
      exact (congrArg (· / 16 ^ k % 16) hg).trans (hput _ hk8)
    · rw [if_neg hk8, if_neg hk8, if_neg (by omega)]
      exact congrArg (· / 16 ^ (k - 8) % 16) hg'
  · have hg : (t.p DIAG_RES_HI.RES (putNibble (t.g DIAG_RES_HI.RES) (s - 8) x)).g DIAG_RES_HI.RES = _ := t.g_p _ (by decide)
    have hg' : (t.p DIAG_RES_HI.RES (putNibble (t.g DIAG_RES_HI.RES) (s - 8) x)).g DIAG_RES_LO.RES = _ := t.g_p_ne _ (by decide)
    rw [if_neg h8]
    by_cases hk8 : k < 8
    · rw [if_pos hk8, if_pos hk8, if_neg (by omega)]
      exact congrArg (· / 16 ^ k % 16) hg'
    · rw [if_neg hk8, if_neg hk8]
      have hsame : (k - 8 = s - 8) = (k = s) := by
        refine propext ⟨fun h => ?_, fun h => by rw [h]⟩
        omega
      refine (congrArg (· / 16 ^ (k - 8) % 16) hg).trans ((hput _ (by omega)).trans ?_)
      simp only [hsame]

/-! ## The steps that follow (19 R690, R693, R698) -/

/-- The sequence is done, before its latches. -/
def Tail.diagOver (t : Tail) : Tail := { t.p DIAG_STAT.STATE 3 with diag := { t.diag with psInj := [] } }

/-- A step of the sequence has failed (19 R693). -/
def Tail.diagBad (t : Tail) : Bool := (List.range 16).any (fun s => 2 ≤ t.diagRes s && t.diagRes s ≤ 10)

theorem Tail.diagDone_eq (n : Stn) : t.diagDone n = Tail.diagReturn (if t.diagBad then ((t.diagOver.evt 0x25 0).p DIAG_STAT.FAIL 1).evt 0x25 1
    else t.diagOver.evt 0x25 0) n := rfl

theorem Tail.resStay_over : t.ResStay t.diagOver :=
  (Tail.resStay_p DIAG_STAT.STATE 3 (by decide)).trans (Tail.resStay_diag (t := t.p DIAG_STAT.STATE 3) { t.diag with psInj := [] })

theorem Tail.resStay_fail (bad : Bool) : t.ResStay (if bad then (t.p DIAG_STAT.FAIL 1).evt 0x25 1 else t) := by
  split
  · exact (Tail.resStay_p DIAG_STAT.FAIL 1 (by decide)).trans (Tail.resStay_evt 0x25 1)
  · exact ⟨rfl, rfl⟩

theorem Tail.diagDone_res (n : Stn) (k : Nat) : (t.diagDone n).diagRes k = t.diagRes k := by
  have hover : t.ResStay (t.diagOver.evt 0x25 0) := Tail.resStay_over.trans (Tail.resStay_evt 0x25 0)
  rw [Tail.diagDone_eq]
  exact ((hover.trans (Tail.resStay_fail _)).trans (Tail.resStay_diagReturn n)).res k

theorem Tail.diagSkip_lt {n : Stn} {s x : Nat} (h : t.diagSkip n s = some x) : x < 16 := by
  unfold Tail.diagSkip at h
  dsimp only at h
  split_ifs at h <;> (injection h with h; omega)

/-- The steps from `s` on leave the results of those before. -/
theorem Tail.diagNext_res (n : Stn) (d : Nat) {k : Nat} (fuel : Nat) :
    ∀ {t : Tail} {s : Nat}, k < s → s + fuel ≤ 16 → (t.diagNext n d fuel s).diagRes k = t.diagRes k := by
  induction fuel with
  | zero => exact fun _ _ => Tail.diagDone_res n k
  | succ fuel ih =>
    intro t s hk hs
    have hstep : (t.p DIAG_STAT.STEP s).diagRes k = t.diagRes k := (Tail.resStay_p _ s (by decide)).res k
    unfold Tail.diagNext
    dsimp only
    split
    · exact ih (by omega) (by omega)
    · split
      · next x hx =>
        rw [ih (by omega) (by omega), Tail.diagPut_res (by omega) (by omega) (Tail.diagSkip_lt hx), if_neg (by omega), hstep]
      · exact hstep

/-! ## A step ends (19 R694, R697) -/

theorem Tail.vlink_congr {n : Stn} (hstn : r.stnGet n = t.stnGet n) (hg : r.g (STN_UBASE.VALUE n) = t.g (STN_UBASE.VALUE n)) :
    r.vlink n = t.vlink n := by
  unfold Tail.vlink
  rw [hstn, hg]

theorem Tail.diagDisturbed_congr {n : Stn} (hdiag : r.diag = t.diag) (hstn : r.stnGet n = t.stnGet n)
    (hg : r.g (STN_UBASE.VALUE n) = t.g (STN_UBASE.VALUE n)) : r.diagDisturbed n = t.diagDisturbed n := by
  unfold Tail.diagDisturbed
  rw [hdiag, hg, Tail.vlink_congr hstn hg]

theorem Tail.diagDisturbed_p {n : Stn} {f : Fd} (x : Nat) (hf : (STN_UBASE.VALUE n).addr ≠ f.addr) :
    (t.p f x).diagDisturbed n = t.diagDisturbed n := Tail.diagDisturbed_congr rfl rfl (Tail.g_p_ne _ _ hf)

theorem shortRegs (n : Stn) {k : Nat} (hk : k < 3) :
    ((STN_UBASE.VALUE n).addr ≠ (DIAG_SHORT.V0 k).addr ∧ (STN_UBASE.VALUE n).addr ≠ (DIAG_SHORT.DV k).addr)
      ∧ DIAG_THR.DVMIN.addr ≠ (DIAG_SHORT.V0 k).addr ∧ DIAG_THR.DVMIN.addr ≠ (DIAG_SHORT.DV k).addr := by
  revert n k
  decide

/-- The readings of a short step, stored (19 R694). -/
def Tail.shortRead (t : Tail) (k : Nat) (x dv : Int) : Tail :=
  (t.pi (DIAG_SHORT.V0 k) (satS 16 (roundDiv x 1000000))).pi (DIAG_SHORT.DV k) (satS 16 (roundDiv dv 1000000))

theorem Tail.diagStep_short {n : Stn} {k : Nat} (hk : k < 3) (m : DiagMeas) :
    let x := m.v.getD 0 0 * (max 1 (t.g DIAG_PSCFG.RATIO) : Int)
    let dv := m.v.getD 1 0 * (max 1 (t.g DIAG_PSCFG.RATIO) : Int) - x
    t.diagStep n k m = (t.shortRead k x dv).diagPut k
      (if (t.shortRead k x dv).diagDisturbed n then 10 else (t.shortRead k x dv).shortResult n x dv) := if_pos hk

/-- A short step whose voltage rises by DVMIN passes (19 R694). -/
theorem Tail.diagStep_passes {n : Stn} {k : Nat} (hk : k < 3) {m : DiagMeas} (hdist : t.diagDisturbed n = false)
    (hdv : (t.g DIAG_THR.DVMIN : Int) * 1000000 ≤ (m.v.getD 1 0 - m.v.getD 0 0) * (max 1 (t.g DIAG_PSCFG.RATIO) : Nat)) :
    (t.diagStep n k m).diagRes k = 1 := by
  obtain ⟨⟨hbase, hbase'⟩, hthr, hthr'⟩ := shortRegs n hk
  have hdist' (x dv : Int) : (t.shortRead k x dv).diagDisturbed n = false := by
    rw [Tail.shortRead, Tail.pi, Tail.diagDisturbed_p _ hbase', Tail.pi, Tail.diagDisturbed_p _ hbase, hdist]
  have hread (x dv : Int) : (t.shortRead k x dv).g DIAG_THR.DVMIN = t.g DIAG_THR.DVMIN := by
    rw [Tail.shortRead, Tail.pi, Tail.g_p_ne _ _ hthr', Tail.pi, Tail.g_p_ne _ _ hthr]
  rw [Tail.diagStep_short hk, hdist', if_neg (by decide)]
  have hresult (x dv : Int) (h : (t.g DIAG_THR.DVMIN : Int) * 1000000 ≤ dv) : (t.shortRead k x dv).shortResult n x dv = 1 :=
    if_pos (by simp only [hread]; exact h)
  rw [hresult _ _ ?_, Tail.diagPut_res (by omega) (by omega) (by decide), if_pos rfl]
  rw [← sub_mul]
  exact_mod_cast hdv

/-- A comparator that does not trip (19 R697). -/
theorem Tail.diagStep_silent {n : Stn} {k : Nat} (hk : 6 ≤ k) (hk' : k < 16) {m : DiagMeas} (hm : m.v = []) :
    (t.diagStep n k m).diagRes k = 7 := by
  have heq : t.diagStep n k m = t.diagPut k 7 := by
    unfold Tail.diagStep
    dsimp only
    rw [if_neg (by omega), if_neg (by omega), hm]
    rfl
  rw [heq, Tail.diagPut_res hk' hk' (by decide), if_pos rfl]

theorem Tail.diagStep_g (t : Tail) : t.g DIAG_STAT.STEP < 16 := fdGet_lt (by decide) _

end

section
variable {s : State} {m : DiagMeas}

/-- The step in progress has ended, and its substitution with it (19 R699, R700). -/
def Tail.diagStepOver (t : Tail) : Tail :=
  (t.elapseTo (t.diag.stepAt + diagSpan (t.g DIAG_STAT.STEP))).diagReal t.diagStn (t.g DIAG_STAT.STEP)

theorem diagStepEnd_goes_on (h2 : s.fs.g DIAG_STAT.STATE = 2) (hst : (s.fs.diagStepOver.stnGet s.fs.diagStn).sq.st = .diag) :
    Settles (.diagStepEnd m) s ((s.fs.diagStepOver.diagStep s.fs.diagStn (s.fs.g DIAG_STAT.STEP) m).diagNext s.fs.diagStn 0
      (15 - s.fs.g DIAG_STAT.STEP) (s.fs.g DIAG_STAT.STEP + 1)) :=
  settles_of_tail _ rfl ((if_neg (by simp [h2])).trans (congrArg Tail.finish (if_pos hst)))

theorem diagStepEnd_ends (h2 : s.fs.g DIAG_STAT.STATE = 2) (hst : (s.fs.diagStepOver.stnGet s.fs.diagStn).sq.st ≠ .diag) :
    Settles (.diagStepEnd m) s s.fs.diagStepOver :=
  settles_of_tail _ rfl ((if_neg (by simp [h2])).trans (congrArg Tail.finish (if_neg hst)))

/-- The result of a step stands when the sequence has gone on. -/
theorem diagStepEnd_result (h2 : s.fs.g DIAG_STAT.STATE = 2) (hst : (s.fs.diagStepOver.stnGet s.fs.diagStn).sq.st = .diag) {x : Nat}
    (hx : (s.fs.diagStepOver.diagStep s.fs.diagStn (s.fs.g DIAG_STAT.STEP) m).diagRes (s.fs.g DIAG_STAT.STEP) = x) :
    ∃ t : Tail, Settles (.diagStepEnd m) s t ∧ t.diagRes (s.fs.g DIAG_STAT.STEP) = x := by
  have hk := s.fs.diagStep_g
  exact ⟨_, diagStepEnd_goes_on h2 hst, (Tail.diagNext_res _ 0 _ (Nat.lt_succ_self _) (by omega)).trans hx⟩

/-- A phase step ends at its time. -/
theorem Tail.diagStepOver_phase {t : Tail} (h : t.g DIAG_STAT.STEP < 6) : t.diagStepOver = t.elapse (t.diag.stepAt + diagSpan (t.g DIAG_STAT.STEP) - t.now) := by
  unfold Tail.diagStepOver Tail.diagReal
  rw [if_pos h, Tail.elapseTo_eq]

/-- A comparator step ends after 100 µs. -/
theorem Tail.diagStepOver_comparator {t : Tail} (h : 6 ≤ t.g DIAG_STAT.STEP) : t.diagStepOver
    = (t.elapse (t.diag.stepAt + 40000 - t.now)).diagReal t.diagStn (t.g DIAG_STAT.STEP) := by
  have hspan : diagSpan (t.g DIAG_STAT.STEP) = 40000 := by
    unfold diagSpan
    rw [if_neg (by omega), if_neg (by omega)]
    rfl
  unfold Tail.diagStepOver
  rw [hspan, Tail.elapseTo_eq]

end

section
variable {t : Tail}

/-- A sequence that runs refuses another (19 R689). -/
theorem Tail.diagCheck_busy (h : t.diagOn = true) (k : Nat) (enabled : Bool) : (refusal (t.diagCheck true k enabled)).isSome = true := by
  unfold refusal
  rw [List.find?_isSome]
  refine ⟨busySt, by decide, List.any_eq_true.mpr ⟨_, .tail _ (.head _), ?_⟩⟩
  simp [h]

theorem Tail.diagPut_kept (s x : Nat) : (t.diagPut s x).diag = t.diag ∧ (t.diagPut s x).stn = t.stn := by
  unfold Tail.diagPut
  dsimp only
  split
  · exact ⟨rfl, rfl⟩
  · exact ⟨rfl, rfl⟩

/-- The step in progress is marked and the sequence counted as ended early. -/
def Tail.diagStopped (t : Tail) : Tail :=
  { ((t.diagPut (t.g DIAG_STAT.STEP) 11).p DIAG_STAT.STATE 4).inc DIAG_CNT.ABORTS with
    diag := { t.diag with dwellT := none, disturbed := false, psInj := [] } }

theorem Tail.diagStopped_stn (n : Stn) : (t.diagStopped.evt 0x25 2).stnGet n = t.stnGet n := by
  rw [Tail.evt_stnGet]
  exact congrArg (fun v : Vector Station 4 => v[n]) (Tail.diagPut_kept _ _).2

theorem Tail.diagAbort_running (h2 : t.g DIAG_STAT.STATE = 2) : t.diagAbort = (t.diagStopped.evt 0x25 2).diagReturn t.diagStn := by
  have hdiag : (t.diagPut (t.g DIAG_STAT.STEP) 11).diag = t.diag := (Tail.diagPut_kept _ _).1
  unfold Tail.diagAbort Tail.diagStopped
  rw [if_neg (by simp [Tail.diagOn, h2]), if_pos h2]
  dsimp only
  rw [hdiag]

/-- ABORT of a running sequence (19 R692, R699). -/
theorem Tail.diagEnd_running (h2 : t.g DIAG_STAT.STATE = 2) (hst : (t.stnGet t.diagStn).sq.st = .diag) :
    t.diagEnd = ((t.diagStopped.evt 0x25 2).setSt t.diagStn (t.stnGet t.diagStn).sq.diagFrom).diagReal t.diagStn (t.g DIAG_STAT.STEP) := by
  have hreturn : (t.diagStopped.evt 0x25 2).diagReturn t.diagStn
      = (t.diagStopped.evt 0x25 2).setSt t.diagStn (t.stnGet t.diagStn).sq.diagFrom := by
    unfold Tail.diagReturn
    rw [Tail.diagStopped_stn, if_pos hst]
  unfold Tail.diagEnd
  rw [if_pos h2, Tail.diagAbort_running h2, hreturn]

end

/-! ## RUN (19 R689, R690) -/

/-- The fields of the DIAG page that a RUN reads and writes. -/
def diagFds : List Fd :=
  [DIAG_RES_LO.RES, DIAG_RES_HI.RES, DIAG_STAT.OPENPH, DIAG_STAT.FAIL, DIAG_STAT.STN, DIAG_STAT.STEP, DIAG_STAT.STATE, DIAG_CNT.RUNS,
    DIAG_CFG.MASK]

theorem diagFds_apart : ∀ f ∈ diagFds, ∀ g ∈ diagFds, f ≠ g → f.ok ∧ g.ok ∧ (g.addr ≠ f.addr ∨ f.apart g) := by decide

section
variable {t : Tail} {n : Stn}

theorem Tail.diag_p_ne {f g : Fd} (x : Nat) (hf : f ∈ diagFds) (hg : g ∈ diagFds) (h : f ≠ g) : (t.p f x).g g = t.g g := by
  obtain ⟨hf, hg, hapart⟩ := diagFds_apart f hf g hg h
  exact t.g_p_apart x hf hg hapart

theorem Tail.dwellStns_congr {r : Tail} (ns : List Stn) (hthm : ∀ m, (r.stnGet m).thm = (t.stnGet m).thm)
    (hbase : r.word THD_DWELL.DWELL_BASE.addr = t.word THD_DWELL.DWELL_BASE.addr)
    (hwarn : ∀ g : Fin 5, r.word (THM_GHI.HIGH_WARN g.val).addr = t.word (THM_GHI.HIGH_WARN g.val).addr) :
    r.dwellStns ns = t.dwellStns ns := by
  have hexcess (a b : Station) (h : a.thm = b.thm) (g : Fin 5) : thmExcess r a g = thmExcess t b g := by
    unfold thmExcess Tail.gi Tail.g
    rw [h, hwarn]
  have hfor (d : Nat) : r.dwellFor d = t.dwellFor d := by
    unfold Tail.dwellFor Tail.g
    rw [hbase, show THD_DWELL.DWELL_K.addr = THD_DWELL.DWELL_BASE.addr from rfl, hbase]
  have hhigh : r.highWarn = t.highWarn := funext fun m => by rw [Tail.highWarn, hthm, Tail.highWarn]
  have hint : r.highWarnInt = t.highWarnInt := congrArg (fun v : Vector ThmSt 5 => v[0].highWarn) (hthm 0)
  have hb : r.b THD_DWELL.DWELL_BASE = t.b THD_DWELL.DWELL_BASE := congrArg (fun w => fdGet THD_DWELL.DWELL_BASE w != 0) hbase
  unfold Tail.dwellStns
  rw [hint, hhigh, hb]
  have hstns : (fun m => (List.finRange 5).map (thmExcess r (r.stnGet m))) = fun m => (List.finRange 5).map (thmExcess t (t.stnGet m)) :=
    funext fun m => congrArg (List.map · (List.finRange 5)) (funext (hexcess _ _ (hthm m)))
  have hzero : thmExcess r r.stn[0] 0 = thmExcess t t.stn[0] 0 := hexcess _ _ (hthm 0) 0
  simp only [hstns, hfor]
  rw [hzero]

/-- Station `n` goes to DIAG, to return to the state it is in. -/
def Tail.diagEnter (t : Tail) (n : Stn) : Tail := (t.sqMap n (fun s => { s with diagFrom := s.st })).setSt n .diag

theorem Tail.diagEnter_stn : ((t.diagEnter n).stnGet n).sq.st = .diag ∧ ((t.diagEnter n).stnGet n).sq.diagFrom = (t.stnGet n).sq.st := by
  refine ⟨Tail.setSt_st _ _ _, ?_⟩
  have hfrom (q : Tail) : ((q.setSt n .diag).stnGet n).sq.diagFrom = (q.stnGet n).sq.diagFrom := by
    unfold Tail.setSt
    split
    · rfl
    · rw [sqMap_eq, stnMap_get]
      rfl
  unfold Tail.diagEnter
  rw [hfrom, sqMap_eq, stnMap_get]

theorem Tail.only_diagEnter : t.Only n (t.diagEnter n) := Tail.only_setSt _ (Tail.only_sqMap _ .refl)

/-- The DIAG page of a sequence that begins. -/
def Tail.diagClear (t : Tail) (n : Stn) : Tail :=
  ((((((t.p DIAG_RES_LO.RES 0).p DIAG_RES_HI.RES 0).p DIAG_STAT.OPENPH 7).p DIAG_STAT.FAIL 0).p DIAG_STAT.STN n).inc DIAG_CNT.RUNS).p
    DIAG_STAT.STATE 1

/-- Its fields. -/
theorem Tail.diagClear_g : (t.diagClear n).g DIAG_RES_LO.RES = 0 ∧ (t.diagClear n).g DIAG_RES_HI.RES = 0
    ∧ (t.diagClear n).g DIAG_STAT.OPENPH = 7 ∧ (t.diagClear n).g DIAG_STAT.FAIL = 0 ∧ (t.diagClear n).g DIAG_STAT.STN = n.val
    ∧ (t.diagClear n).g DIAG_CNT.RUNS = satInc DIAG_CNT.RUNS.width (t.g DIAG_CNT.RUNS) ∧ (t.diagClear n).g DIAG_STAT.STATE = 1
    ∧ (t.diagClear n).g DIAG_CFG.MASK = t.g DIAG_CFG.MASK := by
  unfold Tail.diagClear
  rw [inc_eq]
  refine ⟨?_, ?_, ?_, ?_, ?_, ?_, ?_, ?_⟩
  · iterate 6 rw [Tail.diag_p_ne _ (by decide) (by decide) (by decide)]
    exact t.g_p 0 (by decide)
  · iterate 5 rw [Tail.diag_p_ne _ (by decide) (by decide) (by decide)]
    exact Tail.g_p _ 0 (by decide)
  · iterate 4 rw [Tail.diag_p_ne _ (by decide) (by decide) (by decide)]
    exact Tail.g_p _ 7 (by decide)
  · iterate 3 rw [Tail.diag_p_ne _ (by decide) (by decide) (by decide)]
    exact Tail.g_p _ 0 (by decide)
  · iterate 2 rw [Tail.diag_p_ne _ (by decide) (by decide) (by decide)]
    exact (Tail.g_p _ _ (by decide)).trans (Nat.mod_eq_of_lt n.isLt)
  · rw [Tail.diag_p_ne _ (by decide) (by decide) (by decide), ← inc_eq, Tail.g_inc _ (by decide)]
    iterate 5 rw [Tail.diag_p_ne _ (by decide) (by decide) (by decide)]
  · exact Tail.g_p _ 1 (by decide)
  · iterate 7 rw [Tail.diag_p_ne _ (by decide) (by decide) (by decide)]

theorem Tail.diagClear_stnGet (m : Stn) : (t.diagClear n).stnGet m = t.stnGet m := by
  unfold Tail.diagClear
  rw [inc_eq]
  iterate 7 rw [Tail.p_stnGet]

theorem Tail.diagClear_now : (t.diagClear n).now = t.now := by
  unfold Tail.diagClear
  rw [inc_eq]
  iterate 7 rw [Tail.p_now]

theorem Tail.diagClear_word {a : Nat} (ha : a / 256 ≠ 0x25) : (t.diagClear n).word a = t.word a := by
  have hne {f : Fd} (hf : f.addr / 256 = 0x25) : a ≠ f.addr := fun e => ha (e ▸ hf)
  unfold Tail.diagClear
  rw [inc_eq]
  iterate 7 rw [Tail.word_p_ne _ _ (hne (by decide))]

/-- A sequence on station `n` that has just begun (19 R690). -/
def Tail.diagBegun (t : Tail) (n : Stn) : Tail := (t.diagEnter n).diagClear n

theorem Tail.diagBegun_dwell (ns : List Stn) : (t.diagBegun n).dwellStns ns = t.dwellStns ns := by
  have honly : t.Only n (t.diagEnter n) := Tail.only_diagEnter
  have hword {a : Nat} (h : a / 256 ≠ 0x25) (hp : protReg n a = false) : (t.diagBegun n).word a = t.word a :=
    (Tail.diagClear_word h).trans (honly.reg _ hp)
  have hthd : ∀ n : Stn, protReg n THD_DWELL.DWELL_BASE.addr = false := by decide
  have hthm : ∀ (n : Stn) (g : Fin 5), protReg n (THM_GHI.HIGH_WARN g.val).addr = false ∧ (THM_GHI.HIGH_WARN g.val).addr / 256 ≠ 0x25 := by
    decide
  refine Tail.dwellStns_congr ns (fun m => ?_) (hword (by decide) (hthd n)) fun g => hword (hthm n g).2 (hthm n g).1
  rw [Tail.diagBegun, Tail.diagClear_stnGet]
  by_cases hm : m = n
  · rw [hm]
    exact honly.thm_eq
  · exact congrArg Station.thm (honly.stnGet_ne hm)

theorem Tail.diagRun_eq : t.diagRun n = match (t.diagBegun n).dwellStns [n] with
    | some ms => { (t.diagBegun n).dwellBegin ms with diag := { (t.diagBegun n).diag with dwellT := (t.diagBegun n).after (ms * ms1) } }
    | none => (t.diagBegun n).diagBegin n (50 * us1) := by
  unfold Tail.diagRun
  dsimp only
  rfl

/-! ### A dwell first -/

theorem Tail.dwellBegin_kept {ms : Nat} : (∀ f ∈ diagFds, (t.dwellBegin ms).g f = t.g f) ∧ ∀ m, (t.dwellBegin ms).stnGet m = t.stnGet m := by
  have hne : ∀ f ∈ diagFds, f.addr ≠ THD_DWSTAT.LAST.addr ∧ f.addr ≠ THD_CNT.DWELLS.addr ∧ f.addr ≠ (PG_EVT.EVT 0x35).addr := by decide
  unfold Tail.dwellBegin
  rw [inc_eq]
  refine ⟨fun f hf => ?_, fun m => ?_⟩
  · obtain ⟨hlast, hcnt, hevt⟩ := hne f hf
    rw [Tail.g_evt_ne _ _ _ hevt, Tail.g_p_ne _ _ hcnt, Tail.g_p_ne _ _ hlast]
  · rw [Tail.evt_stnGet, Tail.p_stnGet, Tail.p_stnGet]

/-! ### The steps -/

/-- The fields that no step touches. -/
def diagHeld : List Fd := [DIAG_STAT.OPENPH, DIAG_STAT.STN, DIAG_CNT.RUNS, DIAG_CFG.MASK]

theorem diagHeld_mem : ∀ f ∈ diagHeld, f ∈ diagFds ∧ f.addr ≠ (PG_EVT.EVT 0x25).addr ∧ (∀ n : Stn, protReg n f.addr = false)
    ∧ ∀ g ∈ [DIAG_RES_LO.RES, DIAG_RES_HI.RES, DIAG_STAT.FAIL, DIAG_STAT.STEP, DIAG_STAT.STATE], g ∈ diagFds ∧ g ≠ f := by
  decide

theorem Tail.held_p {f g : Fd} (x : Nat) (hf : f ∈ diagHeld)
    (hg : g ∈ [DIAG_RES_LO.RES, DIAG_RES_HI.RES, DIAG_STAT.FAIL, DIAG_STAT.STEP, DIAG_STAT.STATE]) : (t.p g x).g f = t.g f := by
  obtain ⟨hmem, -, -, hne⟩ := diagHeld_mem f hf
  exact Tail.diag_p_ne x (hne g hg).1 hmem (hne g hg).2

theorem Tail.held_evt {f : Fd} (hf : f ∈ diagHeld) (i : Nat) : (t.evt 0x25 i).g f = t.g f := t.g_evt_ne _ _ (diagHeld_mem f hf).2.1

theorem Tail.diagOver_g (f : Fd) : t.diagOver.g f = (t.p DIAG_STAT.STATE 3).g f := rfl

theorem Tail.diag_g (d : Diag) (f : Fd) : ({ t with diag := d } : Tail).g f = t.g f := rfl

theorem Tail.diagDone_held {f : Fd} (hf : f ∈ diagHeld) : (t.diagDone n).g f = t.g f := by
  have hreturn (q : Tail) : (q.diagReturn n).g f = q.g f :=
    (Tail.only_diagReturn (t := q) .refl).g_eq ((diagHeld_mem f hf).2.2.1 n)
  have hfail (q : Tail) (bad : Bool) : (if bad then (q.p DIAG_STAT.FAIL 1).evt 0x25 1 else q).g f = q.g f := by
    split
    · rw [Tail.held_evt hf, Tail.held_p _ hf (by decide)]
    · rfl
  rw [Tail.diagDone_eq, hreturn, hfail, Tail.held_evt hf, Tail.diagOver_g, Tail.held_p _ hf (by decide)]

theorem Tail.diagPut_held {f : Fd} (hf : f ∈ diagHeld) (k x : Nat) : (t.diagPut k x).g f = t.g f := by
  unfold Tail.diagPut
  dsimp only
  split
  · exact Tail.held_p _ hf (by decide)
  · exact Tail.held_p _ hf (by decide)

theorem Tail.diagNext_held {f : Fd} (hf : f ∈ diagHeld) (d fuel : Nat) : ∀ {t : Tail} {k : Nat}, (t.diagNext n d fuel k).g f = t.g f := by
  induction fuel with
  | zero => exact Tail.diagDone_held hf
  | succ fuel ih =>
    intro t k
    unfold Tail.diagNext
    dsimp only
    split
    · exact ih
    · split
      · rw [ih, Tail.diagPut_held hf, Tail.held_p _ hf (by decide)]
      · rw [Tail.diag_g, Tail.held_p _ hf (by decide)]

/-- An empty mask is done at once. -/
theorem Tail.diagNext_empty (hmask : t.g DIAG_CFG.MASK = 0) (d fuel : Nat) : ∀ k, t.diagNext n d fuel k = t.diagDone n := by
  induction fuel with
  | zero => exact fun _ => rfl
  | succ fuel ih =>
    intro k
    unfold Tail.diagNext
    rw [if_pos (by simp [hmask])]
    exact ih (k + 1)

/-- RUNNING begins with its first step (19 R690). -/
def Tail.diagSteps (t : Tail) : Tail := { t.p DIAG_STAT.STATE 2 with diag := { t.diag with dwellT := none } }

theorem Tail.diagSteps_g (f : Fd) : t.diagSteps.g f = (t.p DIAG_STAT.STATE 2).g f := rfl

theorem Tail.diagSteps_stnGet (m : Stn) : t.diagSteps.stnGet m = t.stnGet m := rfl

theorem Tail.diagSteps_now : t.diagSteps.now = t.now := rfl

theorem Tail.diagBegin_eq (d : Nat) : t.diagBegin n d = t.diagSteps.diagNext n d 16 0 := rfl

/-- Step 0 in progress. -/
def Tail.diagFirst (t : Tail) (n : Stn) (d : Nat) : Tail :=
  { t.p DIAG_STAT.STEP 0 with diag := { t.diag with
      disturbed := false, vlink := (t.p DIAG_STAT.STEP 0).vlink n, stepAt := t.now + d, psInj := (t.p DIAG_STAT.STEP 0).psInject 0 (t.now + d) } }

theorem Tail.diagFirst_g (d : Nat) (f : Fd) : (t.diagFirst n d).g f = (t.p DIAG_STAT.STEP 0).g f := rfl

theorem Tail.diagFirst_stnGet (d : Nat) (m : Stn) : (t.diagFirst n d).stnGet m = t.stnGet m := rfl

theorem Tail.diagFirst_shows (d : Nat) : (t.diagFirst n d).diag.stepAt = t.now + d
    ∧ (t.diagFirst n d).diag.psInj = (t.diagFirst n d).psInject 0 (t.now + d) := ⟨rfl, rfl⟩

theorem Tail.diagNext_first (hmask : (t.g DIAG_CFG.MASK).testBit 0 = true) (d fuel : Nat) : t.diagNext n d (fuel + 1) 0 = t.diagFirst n d := by
  have hskip (q : Tail) : q.diagSkip n 0 = none := rfl
  unfold Tail.diagNext
  rw [if_neg (by simp [hmask])]
  dsimp only
  rw [hskip]
  rfl

/-! ### A sequence that is done -/

theorem Tail.diagDone_state : (t.diagDone n).g DIAG_STAT.STATE = 3 := by
  have hreturn (q : Tail) : (q.diagReturn n).g DIAG_STAT.STATE = q.g DIAG_STAT.STATE :=
    (Tail.only_diagReturn (t := q) .refl).g_eq (by revert n; decide)
  have hevt (q : Tail) (i : Nat) : (q.evt 0x25 i).g DIAG_STAT.STATE = q.g DIAG_STAT.STATE := q.g_evt_ne _ _ (by decide)
  have hfail (q : Tail) (bad : Bool) : (if bad then (q.p DIAG_STAT.FAIL 1).evt 0x25 1 else q).g DIAG_STAT.STATE = q.g DIAG_STAT.STATE := by
    split
    · rw [hevt, Tail.diag_p_ne _ (by decide) (by decide) (by decide)]
    · rfl
  rw [Tail.diagDone_eq, hreturn, hfail, hevt, Tail.diagOver_g, Tail.g_p _ _ (by decide)]
  rfl

theorem Tail.diagDone_st (hst : (t.stnGet n).sq.st = .diag) : ((t.diagDone n).stnGet n).sq.st = (t.stnGet n).sq.diagFrom := by
  have hover : t.diagOver.stnGet n = t.stnGet n := rfl
  have hfail (q : Tail) (bad : Bool) : (if bad then (q.p DIAG_STAT.FAIL 1).evt 0x25 1 else q).stnGet n = q.stnGet n := by
    split
    · rw [Tail.evt_stnGet, Tail.p_stnGet]
    · rfl
  have hreturn (q : Tail) (hq : q.stnGet n = t.stnGet n) : ((q.diagReturn n).stnGet n).sq.st = (t.stnGet n).sq.diagFrom := by
    unfold Tail.diagReturn
    rw [hq, if_pos hst, Tail.setSt_st]
  rw [Tail.diagDone_eq, hreturn _ (by rw [hfail, Tail.evt_stnGet, hover])]

/-! ### The outcomes of a RUN -/

theorem Tail.diagBegun_stn : ((t.diagBegun n).stnGet n).sq.st = .diag ∧ ((t.diagBegun n).stnGet n).sq.diagFrom = (t.stnGet n).sq.st := by
  rw [Tail.diagBegun, Tail.diagClear_stnGet]
  exact Tail.diagEnter_stn

theorem Tail.diagBegun_now : (t.diagBegun n).now = t.now := by
  rw [Tail.diagBegun, Tail.diagClear_now]
  exact Tail.only_diagEnter.now_eq

theorem Tail.diagBegun_g : (t.diagBegun n).g DIAG_RES_LO.RES = 0 ∧ (t.diagBegun n).g DIAG_RES_HI.RES = 0
    ∧ (t.diagBegun n).g DIAG_STAT.OPENPH = 7 ∧ (t.diagBegun n).g DIAG_STAT.FAIL = 0 ∧ (t.diagBegun n).g DIAG_STAT.STN = n.val
    ∧ (t.diagBegun n).g DIAG_CNT.RUNS = satInc DIAG_CNT.RUNS.width (t.g DIAG_CNT.RUNS) ∧ (t.diagBegun n).g DIAG_STAT.STATE = 1
    ∧ (t.diagBegun n).g DIAG_CFG.MASK = t.g DIAG_CFG.MASK := by
  have hg {f : Fd} (hf : f ∈ diagHeld) : (t.diagEnter n).g f = t.g f := Tail.only_diagEnter.g_eq ((diagHeld_mem f hf).2.2.1 n)
  rw [← hg (f := DIAG_CNT.RUNS) (by decide), ← hg (f := DIAG_CFG.MASK) (by decide)]
  exact Tail.diagClear_g

/-- A RUN where a sensor warns (19 R690, 21 R748). -/
theorem Tail.diagRun_dwells {ms : Nat} (h : t.dwellStns [n] = some ms) : (∀ f ∈ diagFds, (t.diagRun n).g f = (t.diagBegun n).g f)
    ∧ (t.diagRun n).stnGet n = (t.diagBegun n).stnGet n ∧ (t.diagRun n).diag.dwellT = some (t.now + ms * ms1) := by
  obtain ⟨hg, hstn⟩ := Tail.dwellBegin_kept (t := t.diagBegun n) (ms := ms)
  rw [Tail.diagRun_eq, Tail.diagBegun_dwell, h]
  refine ⟨fun f hf => ?_, hstn n, ?_⟩
  · exact (Tail.diag_g _ f).trans (hg f hf)
  · exact congrArg (fun x => some (x + ms * ms1)) Tail.diagBegun_now

theorem Tail.diagRun_steps (h : t.dwellStns [n] = none) : t.diagRun n = (t.diagBegun n).diagSteps.diagNext n (50 * us1) 16 0 := by
  rw [Tail.diagRun_eq, Tail.diagBegun_dwell, h, ← Tail.diagBegin_eq]

end

section
variable {t : Tail} {n : Stn}

theorem Tail.diagRun_held (f : Fd) (hf : f ∈ diagHeld) : (t.diagRun n).g f = (t.diagBegun n).g f := by
  cases hd : t.dwellStns [n] with
  | some ms => exact (Tail.diagRun_dwells hd).1 f (diagHeld_mem f hf).1
  | none => rw [Tail.diagRun_steps hd, Tail.diagNext_held hf, Tail.diagSteps_g, Tail.held_p _ hf (by decide)]

/-- The first step of a RUN (19 R690, R694). -/
theorem Tail.diagRun_first (h : t.dwellStns [n] = none) (hmask : (t.g DIAG_CFG.MASK).testBit 0 = true) :
    t.diagRun n = (t.diagBegun n).diagSteps.diagFirst n (50 * us1) := by
  obtain ⟨-, -, -, -, -, -, -, hm⟩ := Tail.diagBegun_g (t := t) (n := n)
  rw [Tail.diagRun_steps h, Tail.diagNext_first]
  rw [Tail.diagSteps_g, Tail.diag_p_ne _ (by decide) (by decide) (by decide), hm]
  exact hmask

/-- A field that beginning with the first step leaves. -/
theorem Tail.diagFirst_kept {f : Fd} (hf : f ∈ diagFds) (hstate : DIAG_STAT.STATE ≠ f) (hstep : DIAG_STAT.STEP ≠ f) (d : Nat) :
    (t.diagSteps.diagFirst n d).g f = t.g f := by
  rw [Tail.diagFirst_g, Tail.diag_p_ne _ (by decide) hf hstep, Tail.diagSteps_g, Tail.diag_p_ne _ (by decide) hf hstate]

theorem Tail.diagFirst_state (d : Nat) : (t.diagSteps.diagFirst n d).g DIAG_STAT.STATE = 2 ∧ (t.diagSteps.diagFirst n d).g DIAG_STAT.STEP = 0 := by
  rw [Tail.diagFirst_g, Tail.diagFirst_g, Tail.diag_p_ne _ (by decide) (by decide) (by decide), Tail.diagSteps_g, Tail.g_p _ _ (by decide),
    Tail.g_p _ _ (by decide)]
  exact ⟨rfl, rfl⟩

theorem Tail.diagRun_empty (h : t.dwellStns [n] = none) (hmask : t.g DIAG_CFG.MASK = 0) :
    t.diagRun n = (t.diagBegun n).diagSteps.diagDone n := by
  obtain ⟨-, -, -, -, -, -, -, hm⟩ := Tail.diagBegun_g (t := t) (n := n)
  rw [Tail.diagRun_steps h, Tail.diagNext_empty]
  rw [Tail.diagSteps_g, Tail.diag_p_ne _ (by decide) (by decide) (by decide), hm]
  exact hmask

/-- In DIAG, where a dwell or the first step begins. -/
theorem Tail.diagRun_in (h : (t.dwellStns [n]).isSome = true ∨ (t.g DIAG_CFG.MASK).testBit 0 = true) :
    (t.diagRun n).stnGet n = (t.diagBegun n).stnGet n ∧ (t.diagRun n).g DIAG_STAT.FAIL = (t.diagBegun n).g DIAG_STAT.FAIL := by
  cases hd : t.dwellStns [n] with
  | some ms => exact ⟨(Tail.diagRun_dwells hd).2.1, (Tail.diagRun_dwells hd).1 _ (by decide)⟩
  | none =>
    have hmask : (t.g DIAG_CFG.MASK).testBit 0 = true := h.resolve_left (by simp [hd])
    rw [Tail.diagRun_first hd hmask, Tail.diagFirst_stnGet, Tail.diagSteps_stnGet,
      Tail.diagFirst_kept (by decide) (by decide) (by decide)]
    exact ⟨rfl, rfl⟩

end

/-- A RUN is accepted (19 R689). -/
theorem diagRun_settles {word : Word} {n : Stn} {s : State} (h3 : s.fs.on 3 = true) (hrun : fdGet DIAG_CMD.RUN word = 1)
    (hstn : fdGet DIAG_CMD.STN word = n.val) (hfit : s.fs.fitted n.val = true) (hen : s.fs.enabled 0x25 = true)
    (hoff : s.fs.diagOn = false) (hst : (s.fs.stnGet n).sq.st = .ready) (hcal : s.fs.g (ISNS_STAT.CAL_STATE n) ≠ 1)
    (hinrun : s.fs.inRun = true) (hfb : (s.fs.stnGet n).modu.fb &&& s.fs.usedCh n = 0) : Settles (.diagRun word) s (s.fs.diagRun n) := by
  have hn : (Fin.ofNat 4 n.val : Stn) = n := Fin.ext (Nat.mod_eq_of_lt n.isLt)
  have hcheck : refusal (s.fs.diagCheck true n.val (s.fs.enabled 0x25)) = none := by
    refine refusal_of_none ?_
    simp only [Tail.diagCheck, hn, List.mem_cons, List.not_mem_nil, or_false]
    rintro e (rfl | rfl)
    · simp [hfit]
    · simp [hen, hoff, hst, hcal, hinrun, hfb]
  refine settles_of_tail _ rfl ?_
  simp only [hrun, hstn, hn, decide_true, hcheck, h3]
  rfl

/-- Settles O33. -/
theorem diagnostics : Obligations.Diagnostics := by
  refine ⟨fun word n s h3 hrun hstn hfit hen hoff hst hcal hinrun hfb => ?_, fun word s hno => does_of_tail _ rfl (if_pos ?_),
    fun s h3 h2 hst => ?_, fun m s h2 hk hst hdist hdv => ?_, fun m s h2 hk => ?_⟩
  · obtain ⟨hlo, hhi, hopen, hfail, hstn', hruns, hstate, -⟩ := Tail.diagBegun_g (t := s.fs) (n := n)
    obtain ⟨hin, hfrom⟩ := Tail.diagBegun_stn (t := s.fs) (n := n)
    have hheld := Tail.diagRun_held (t := s.fs) (n := n)
    refine ⟨_, diagRun_settles h3 hrun hstn hfit hen hoff hst hcal hinrun hfb, (hheld _ (by decide)).trans hstn',
      (hheld _ (by decide)).trans hruns, fun h => ?_, fun ms hd => ?_, fun hd hmask => ?_, fun hd hmask => ?_⟩
    · obtain ⟨hget, hfail'⟩ := Tail.diagRun_in h
      rw [hget, hfail']
      exact ⟨hin, hfrom.trans hst, hfail, (hheld _ (by decide)).trans hopen⟩
    · obtain ⟨hg, -, hdwell⟩ := Tail.diagRun_dwells hd
      exact ⟨(hg _ (by decide)).trans hstate, hdwell⟩
    · rw [Tail.diagRun_first hd hmask]
      obtain ⟨hstate', hstep⟩ := Tail.diagFirst_state (t := s.fs.diagBegun n) (n := n) (50 * us1)
      obtain ⟨hat, hinj⟩ := Tail.diagFirst_shows (t := (s.fs.diagBegun n).diagSteps) (n := n) (50 * us1)
      rw [Tail.diagSteps_now, Tail.diagBegun_now, show 50 * us1 = 20000 from rfl] at hat hinj
      exact ⟨hstate', hstep, (Tail.diagFirst_kept (by decide) (by decide) (by decide) _).trans hlo,
        (Tail.diagFirst_kept (by decide) (by decide) (by decide) _).trans hhi, hat, hinj⟩
    · rw [Tail.diagRun_empty hd hmask]
      refine ⟨Tail.diagDone_state, (Tail.diagDone_st ?_).trans ?_⟩
      · rw [Tail.diagSteps_stnGet]
        exact hin
      · rw [Tail.diagSteps_stnGet]
        exact hfrom.trans hst
  · rcases hno with h | h
    · simp [h]
    · by_cases hrun : fdGet DIAG_CMD.RUN word = 1
      · simp only [hrun, decide_true, Tail.diagCheck_busy h, Bool.or_true]
      · simp [hrun]
  · exact settles_of_tail _ rfl ((if_pos h3).trans (congrArg Tail.finish (Tail.diagEnd_running h2 hst)))
  · have hover := s.fs.diagStepOver_phase (by omega)
    have hdist' : s.fs.diagStepOver.diagDisturbed s.fs.diagStn = false := by
      rw [hover, Tail.diagDisturbed_congr (Tail.elapse_diag _ _) (Tail.elapse_stnGet _ _ _) (Tail.elapse_g _ _ _)]
      exact hdist
    refine diagStepEnd_result h2 (by rw [hover, Tail.elapse_stnGet]; exact hst) (Tail.diagStep_passes hk hdist' ?_)
    rw [hover, Tail.elapse_g, Tail.elapse_g]
    exact hdv
  · have hover := s.fs.diagStepOver_comparator hk
    intro r
    refine ⟨fun hst => ?_, fun hst hm => ?_⟩
    · have h := diagStepEnd_ends (m := m) h2 (by rw [hover]; exact hst)
      rwa [hover] at h
    · exact diagStepEnd_result h2 (by rw [hover]; exact hst) (Tail.diagStep_silent hk s.fs.diagStep_g hm)

end Sys2Proof.Machine
end

section
/-! Settling O41: session frames (23 R796 to R801). -/

namespace Sys2Proof.Machine

/-! ## What the audit of a session leaves -/

section
variable {t : Tail}

theorem Tail.keepsSsn_auditSec (event level : Nat) (fr : FrameRef) (sid : Word) (a : Nat) : t.KeepsSsn (t.auditSec event level fr sid a) :=
  (Tail.recordKeeps_ssn t).record .sqc (by decide) 9 true _ (.refl t)

theorem Tail.auditSec_aon (event level : Nat) (fr : FrameRef) (sid : Word) (a : Nat) : (t.auditSec event level fr sid a).aon = t.aon :=
  (Tail.recordKeeps_aon t).record .sqc (by decide) 9 true _ rfl

theorem Tail.auditSec_g (event level : Nat) (fr : FrameRef) (sid : Word) (a : Nat) {f : Fd} (hf : logReg f.addr = false) :
    (t.auditSec event level fr sid a).g f = t.g f :=
  congrArg (fdGet f) ((Tail.logs_record .sqc (k := 161) (by decide) 9 true _ (.rfl t)).2 f.addr hf).1

/-! ## SESSION_OPEN (23 R798) -/

theorem Tail.openCheck_accepted {l : Nat} (hl : l = 1 ∨ l = 2) (hkey : t.otp.keyState = 1) (hsess : t.sess = 0) (hlock : t.aon.lockT = none) :
    refusal (t.openCheck l) = none := by
  refine refusal_of_none ?_
  simp only [Tail.openCheck, List.mem_cons, List.not_mem_nil, or_false]
  rintro e (rfl | rfl | rfl)
  · rcases hl with rfl | rfl <;> rfl
  · simp [hkey]
  · simp [hsess, hlock]

/-! ## SESSION_AUTH (23 R799, R800) -/

/-- The session that the challenge `c` opens, before its latch and record. -/
def Tail.authOpened (t : Tail) (c : Chal) (sid : Word) (mac : List Byte) : Tail :=
  { t with sess := c.level, sec := { t.sec with pend := none, sid := sid, mac := mac, openedAt := t.now, actAt := t.now } }

def Tail.authLatched (t : Tail) : Tail := ((t.p SEC_STAT.FAILS 0).inc SEC_CNT.OPENS).evt 0x0A 0

theorem Tail.sessAuth_good {c : Chal} {sid : Word} {mac : List Byte} (fr : FrameRef) (hsess : t.sess = 0) (hpend : t.sec.pend = some c)
    (hsid : c.sid = sid) (hmac : t.sessMac c = mac) :
    t.sessAuth fr sid mac = (okSt, (t.authOpened c sid mac).authLatched.authData,
      (t.authOpened c sid mac).authLatched.auditSec 2 c.level fr sid 0) := by
  have hgood : t.authGood sid mac = some c := by
    unfold Tail.authGood
    rw [hpend]
    exact if_pos (by simp [hsess, hsid, hmac])
  unfold Tail.sessAuth
  rw [if_neg (by simp [hsess]), hgood]
  rfl

theorem Tail.authLatched_kept : t.authLatched.sess = t.sess ∧ t.authLatched.sec = t.sec ∧ t.authLatched.secIdle = t.secIdle
    ∧ t.authLatched.g SEC_STAT.FAILS = 0 ∧ t.authLatched.evtBit 0x0A 0 = true ∧ t.KeepsSsn t.authLatched := by
  let q := (t.p SEC_STAT.FAILS 0).inc SEC_CNT.OPENS
  have hstays : q.SecStays t.authLatched := Tail.evt_secStays 0x0A 0
  have hg {f : Fd} (hf : f.addr ≠ (PG_EVT.EVT 0x0A).addr ∧ f.addr ≠ SEC_CNT.OPENS.addr) : t.authLatched.g f = (t.p SEC_STAT.FAILS 0).g f :=
    (Tail.g_evt_ne _ _ _ hf.1).trans (by rw [inc_eq, Tail.g_p_ne _ _ hf.2])
  refine ⟨hstays.sess, hstays.sec, ?_, ?_, q.evt_sets 0x0A (by decide), (((Tail.KeepsSsn.refl t).p SEC_STAT.FAILS 0).p SEC_CNT.OPENS _).evt 0x0A 0⟩
  · unfold Tail.secIdle
    rw [hg (by decide), Tail.g_p_ne _ _ (by decide)]
  · rw [hg (by decide), Tail.g_p _ _ (by decide)]
    rfl

/-- A wrong answer ends the challenge and is counted, before a lockout. -/
def Tail.authFailed (t : Tail) : Tail :=
  ((({ t with sec := { t.sec with pend := none } } : Tail).inc SEC_STAT.FAILS).inc SEC_CNT.FAILS_TOT).evt 0x0A 2

/-- The fifth failure locks sessions out (23 R800). -/
def Tail.authLock (t : Tail) : Tail :=
  if 5 ≤ t.g SEC_STAT.FAILS then ({ t with aon := { t.aon with lockT := t.after (60 * s1) } } : Tail).evt 0x0A 3 else t

theorem Tail.sessAuth_bad {c : Chal} {sid : Word} {mac : List Byte} (fr : FrameRef) (hsess : t.sess = 0) (hpend : t.sec.pend = some c)
    (hmac : t.sessMac c ≠ mac) : t.sessAuth fr sid mac = (lockedSt, [], t.authFailed.authLock.auditSec 3 0 fr sid 0) := by
  have hbad : t.authGood sid mac = none := by
    unfold Tail.authGood
    rw [hpend]
    exact if_neg (by simp [hmac])
  unfold Tail.sessAuth
  rw [if_neg (by simp [hsess]), hbad]
  rfl

theorem Tail.authFailed_kept : t.authFailed.sess = t.sess ∧ t.authFailed.sec.pend = none ∧ t.authFailed.now = t.now
    ∧ t.authFailed.g SEC_STAT.FAILS = satInc SEC_STAT.FAILS.width (t.g SEC_STAT.FAILS) ∧ t.authFailed.evtBit 0x0A 2 = true
    ∧ t.KeepsSsn t.authFailed := by
  let o : Tail := { t with sec := { t.sec with pend := none } }
  let q := (o.inc SEC_STAT.FAILS).inc SEC_CNT.FAILS_TOT
  have hstays : q.SecStays t.authFailed := Tail.evt_secStays 0x0A 2
  have ho : t.KeepsSsn o := ⟨rfl, rfl⟩
  refine ⟨hstays.sess, congrArg Sec.pend hstays.sec, hstays.now, ?_, q.evt_sets 0x0A (by decide),
    ((ho.p SEC_STAT.FAILS _).p SEC_CNT.FAILS_TOT _).evt 0x0A 2⟩
  have hcount : q.g SEC_STAT.FAILS = (o.inc SEC_STAT.FAILS).g SEC_STAT.FAILS := (o.inc SEC_STAT.FAILS).g_p_ne _ (by decide)
  exact (Tail.g_evt_ne _ _ _ (by decide)).trans (hcount.trans (o.g_inc (by decide)))

theorem Tail.authLock_kept : t.authLock.sess = t.sess ∧ t.authLock.sec = t.sec ∧ t.authLock.g SEC_STAT.FAILS = t.g SEC_STAT.FAILS
    ∧ t.KeepsLatches t.authLock ∧ t.KeepsSsn t.authLock
    ∧ (5 ≤ t.g SEC_STAT.FAILS → t.authLock.aon.lockT = some (t.now + 24000000000)) := by
  unfold Tail.authLock
  split
  · let q : Tail := { t with aon := { t.aon with lockT := t.after (60 * s1) } }
    have hstays : q.SecStays (q.evt 0x0A 3) := Tail.evt_secStays 0x0A 3
    have hq : t.KeepsSsn q := ⟨rfl, rfl⟩
    have hlatch : t.KeepsLatches q := fun _ _ h => h
    refine ⟨hstays.sess, hstays.sec, q.g_evt_ne _ _ (by decide), hlatch.evt 0x0A 3, hq.evt 0x0A 3, fun _ => ?_⟩
    exact congrArg Aon.lockT (q.evtV_aon 0x0A 3 none)
  · next h => exact ⟨rfl, rfl, rfl, .refl t, .refl t, fun h5 => absurd h5 h⟩

/-! ## SESSION_CLOSE (23 R801) -/

theorem Tail.keepsSsn_sessEnd (fr : FrameRef) (reason : Nat) : t.KeepsSsn (t.sessEnd fr reason) := by
  unfold Tail.sessEnd
  split
  · exact .refl t
  · extract_lets l sid _ q
    have hq : t.KeepsSsn q := ⟨rfl, rfl⟩
    exact (hq.evt 0x0A 1).trans (Tail.keepsSsn_auditSec 4 l fr sid reason)

end

/-! ## The frames -/

section
variable {s : State} {f : Frame}

theorem sessionOpen_answered (h : s.Serves .sessionOpen f) :
    let t := s.begun .sessionOpen f
    let l := (f.payload.getD 0 0).toNat
    l = 1 ∨ l = 2 → t.otp.keyState = 1 → t.sess = 0 → t.aon.lockT = none →
    exec (.sessionOpen f) s = .next (s.answered .sessionOpen f okSt (t.sessOpen l).1 (t.sessOpen l).2) := by
  intro t l hl hkey hsess hlock
  have hrun : t.runOp .sessionOpen f = ⟨okSt, (t.sessOpen l).1, (t.sessOpen l).2⟩ := by
    show t.openOp f = _
    unfold Tail.openOp
    dsimp only
    rw [Tail.openCheck_accepted hl hkey hsess hlock]
  exact congrArg _ (h.hostOp_answered hrun okSt_lt ⟨rfl, rfl⟩)

/-- The SID that a session frame names. -/
def frameSid (f : Frame) : Word := BitVec.ofNat 32 (leNat (f.payload.take 4))

/-- A served SESSION_AUTH ends with what the answer to the challenge brings. -/
theorem sessionAuth_answered (h : s.Serves .sessionAuth f) {st : Nat} {d : List Byte} {r : Tail}
    (hauth : (s.begun .sessionAuth f).sessAuth (frameRef .sessionAuth f) (frameSid f) (f.payload.drop 4) = (st, d, r)) (hst : st < 256)
    (hkeep : (s.begun .sessionAuth f).KeepsSsn r) : exec (.sessionAuth f) s = .next (s.answered .sessionAuth f st d r) := by
  have hrun : (s.begun .sessionAuth f).runOp .sessionAuth f = ⟨st, d, r⟩ := by
    show (s.begun .sessionAuth f).authOp .sessionAuth f = _
    unfold Tail.authOp
    rw [show BitVec.ofNat 32 (leNat (f.payload.take 4)) = frameSid f from rfl, hauth]
  exact congrArg _ (h.hostOp_answered hrun hst hkeep)

theorem sessionAuth_opens (h : s.Serves .sessionAuth f) {c : Chal} {t : Tail} (ht : s.begun .sessionAuth f = t) (hsess : t.sess = 0)
    (hpend : t.sec.pend = some c) (hsid : c.sid = frameSid f) (hmac : t.sessMac c = f.payload.drop 4) :
    ∃ r : Tail, exec (.sessionAuth f) s = .next (s.answered .sessionAuth f okSt ([BitVec.ofNat 8 c.level, 0] ++ leBytes 2 t.secIdle) r)
      ∧ r.sess = c.level ∧ r.sec.sid = c.sid ∧ r.sec.pend = none ∧ r.sec.openedAt = t.now ∧ r.g SEC_STAT.FAILS = 0
        ∧ r.evtBit 0x0A 0 = true := by
  subst ht
  let t := s.begun .sessionAuth f
  let q := t.authOpened c (frameSid f) (f.payload.drop 4)
  have hgood := Tail.sessAuth_good (frameRef .sessionAuth f) hsess hpend hsid hmac
  obtain ⟨qsess, qsec, qidle, qfails, qevt, qkeep⟩ := q.authLatched_kept
  have hstays : q.authLatched.SecStays (q.authLatched.auditSec 2 c.level (frameRef .sessionAuth f) (frameSid f) 0) := Tail.auditSec_secStays ..
  have hdata : q.authLatched.authData = [BitVec.ofNat 8 c.level, 0] ++ leBytes 2 t.secIdle := by
    unfold Tail.authData
    rw [qsess, qidle]
    rfl
  have hq : t.KeepsSsn q := ⟨rfl, rfl⟩
  have hexec := sessionAuth_answered h hgood okSt_lt ((hq.trans qkeep).trans (Tail.keepsSsn_auditSec ..))
  have hsec := hstays.sec.trans qsec
  refine ⟨_, hdata ▸ hexec, hstays.sess.trans qsess, (congrArg Sec.sid hsec).trans hsid.symm, congrArg Sec.pend hsec,
    congrArg Sec.openedAt hsec, (Tail.auditSec_g _ _ _ _ _ (by decide)).trans qfails, hstays.latches _ _ qevt⟩

theorem sessionAuth_fails (h : s.Serves .sessionAuth f) {c : Chal} {t : Tail} (ht : s.begun .sessionAuth f = t) (hsess : t.sess = 0)
    (hpend : t.sec.pend = some c) (hmac : t.sessMac c ≠ f.payload.drop 4) :
    ∃ r : Tail, exec (.sessionAuth f) s = .next (s.answered .sessionAuth f lockedSt [] r) ∧ r.sess = 0 ∧ r.sec.pend = none
      ∧ r.g SEC_STAT.FAILS = satInc SEC_STAT.FAILS.width (t.g SEC_STAT.FAILS) ∧ r.evtBit 0x0A 2 = true
      ∧ (4 ≤ t.g SEC_STAT.FAILS → r.aon.lockT = some (t.now + 24000000000)) := by
  subst ht
  let t := s.begun .sessionAuth f
  have hbad := Tail.sessAuth_bad (sid := frameSid f) (frameRef .sessionAuth f) hsess hpend hmac
  obtain ⟨qsess, qpend, qnow, qfails, qevt, qkeep⟩ := t.authFailed_kept
  obtain ⟨rsess, rsec, rfails, rlatch, rkeep, rlock⟩ := t.authFailed.authLock_kept
  have hstays : t.authFailed.authLock.SecStays (t.authFailed.authLock.auditSec 3 0 (frameRef .sessionAuth f) (frameSid f) 0) :=
    Tail.auditSec_secStays ..
  have hexec := sessionAuth_answered h hbad (by decide) ((qkeep.trans rkeep).trans (Tail.keepsSsn_auditSec ..))
  refine ⟨_, hexec, hstays.sess.trans (rsess.trans (qsess.trans hsess)), (congrArg Sec.pend (hstays.sec.trans rsec)).trans qpend,
    (Tail.auditSec_g _ _ _ _ _ (by decide)).trans (rfails.trans qfails), hstays.latches _ _ (rlatch _ _ qevt), fun h4 => ?_⟩
  have h5 : 5 ≤ t.authFailed.g SEC_STAT.FAILS := by
    rw [qfails]
    exact le_min (by decide) (Nat.succ_le_succ h4)
  exact (congrArg Aon.lockT (Tail.auditSec_aon ..)).trans ((rlock h5).trans (by rw [qnow]))

theorem sessionClose_answered (h : s.Serves .sessionClose f) {st : Nat} {r : Tail}
    (hclose : (s.begun .sessionClose f).sessClose (frameRef .sessionClose f) (frameSid f) = (st, r)) (hst : st < 256)
    (hkeep : (s.begun .sessionClose f).KeepsSsn r) : exec (.sessionClose f) s = .next (s.answered .sessionClose f st [] r) := by
  have hrun : (s.begun .sessionClose f).runOp .sessionClose f = ⟨st, [], r⟩ := by
    show (s.begun .sessionClose f).closeOp .sessionClose f = _
    unfold Tail.closeOp
    rw [show BitVec.ofNat 32 (leNat (f.payload.take 4)) = frameSid f from rfl, hclose]
  exact congrArg _ (h.hostOp_answered hrun hst hkeep)

end

/-- Settles O41. -/
theorem sessionFrames : Obligations.SessionFrames := by
  refine ⟨fun f s h => sessionOpen_answered h, fun f c s h hsess hpend hsid => ⟨fun hmac _ => sessionAuth_opens h rfl hsess hpend hsid hmac,
    fun hmac => sessionAuth_fails h rfl hsess hpend hmac⟩, fun f s h hsess => ⟨fun hsid => ?_, fun hsid => ?_⟩⟩
  · obtain ⟨hsess', hsid', -, -, hevt⟩ := Tail.sessEnd_shows (frameRef .sessionClose f) 1 hsess
    exact ⟨_, sessionClose_answered h ((if_neg hsess).trans (if_pos hsid)) okSt_lt (Tail.keepsSsn_sessEnd _ _), hsess', hsid', hevt⟩
  · exact sessionClose_answered h ((if_neg hsess).trans (if_neg hsid)) (by decide) (.refl _)

end Sys2Proof.Machine
end

section
/-! Settling O42: FAULT_CLEAR of a station and of the unit, with their tokens (18 R669 to R673, 08 R309). -/

namespace Sys2Proof.Machine

/-! ## A clear takes no commit number -/

section
variable {t : Tail}

theorem protRegs_written (n : Stn) : protWrites n (PROT_LATCH.LATCH n).addr = true ∧ protWrites n (PROT_CNT.CLEARS n).addr = true := by
  revert n
  decide

theorem Tail.only_faultClear (n : Stn) (mask : Nat) : t.Only n (t.faultClear n mask) := by
  obtain ⟨hlatch, hcnt⟩ := protRegs_written n
  unfold Tail.faultClear
  extract_lets l l2 q
  have hq : t.Only n q := .ite _ (fun _ => .refl) fun _ =>
    Tail.only_evt _ _ (Tail.only_p _ hcnt (Tail.only_protMap _ (Tail.only_p _ hlatch .refl)))
  exact .ite _ (fun _ => Tail.only_sqMap _ hq) fun _ => hq

theorem Tail.Only.keepsSsn {n : Stn} {r : Tail} (h : t.Only n r) : t.KeepsSsn r := ⟨h.u_eq, h.ssn_eq⟩

theorem Tail.keepsSsn_faultClearAll (mask : Nat) : t.KeepsSsn (t.faultClearAll mask) := by
  unfold Tail.faultClearAll
  extract_lets q r
  have hq : t.KeepsSsn q := by
    unfold q
    split
    · exact (Tail.KeepsSsn.refl t).p _ _
    · exact .refl t
  have hr : t.KeepsSsn r := List.foldlRecOn (motive := t.KeepsSsn) _ _ hq fun x hx n _ => hx.trans (Tail.only_faultClear n mask).keepsSsn
  split
  · exact hr.trans (r.keepsSsn_setUnit _)
  · exact hr

theorem Tail.keepsSsn_auditWrite (page : Nat) (fr : FrameRef) (a : Nat) : t.KeepsSsn (t.auditWrite page fr a) := by
  unfold Tail.auditWrite
  split
  · exact .refl t
  · exact (Tail.recordKeeps_ssn t).record .sqc (by decide) 9 true _ (.refl t)

/-! ## The CMD operation (08 R309) -/

/-- The token of a CMD frame. -/
def cmdToken (f : Frame) : Word := BitVec.ofNat 32 (leNat (f.payload.take 4))

/-- The pages of protection in a frame's header. -/
theorem protPage (n : Stn) : (BitVec.ofNat 8 (stnPage n 0xE)).toNat = stnPage n 0xE
    ∧ (isStnPage (stnPage n 0xE) && decide (stnPage n 0xE % 16 = 0xE)) = true ∧ pageStn (stnPage n 0xE) = n := by
  revert n
  decide

/-- The mask of a CMD frame: all ones where the payload has none. -/
def cmdMask (f : Frame) : Nat := if f.payload.length < 8 then 0xFFFFFFFF else leNat ((f.payload.drop 4).take 4)

/-- A CMD frame's stream is the protection page of a station. -/
def cmdProt (f : Frame) : Bool := isStnPage f.stream.toNat && decide (f.stream.toNat % 16 = 0xE)

/-- The state that the clear of a CMD frame leaves. -/
def Tail.cmdCleared (t : Tail) (f : Frame) : Tail :=
  if cmdProt f then t.faultClear (pageStn f.stream.toNat) (cmdMask f) else t.faultClearAll (cmdMask f)

/-- The RESULT of a CMD frame over the state that its clear left. -/
def Tail.cmdResult (t : Tail) (f : Frame) : Nat := if cmdProt f then t.clearResult (pageStn f.stream.toNat) else t.clearAllResult

/-- The answered CMD frame: its token is kept and its clear audited. -/
def Tail.cmdKept (t : Tail) (op : HspOp) (f : Frame) : Tail :=
  let toks := pushTok t.toks f.stream.toNat (cmdToken f) (BitVec.ofNat 32 (t.cmdResult f))
  ({ t with toks := toks } : Tail).auditWrite f.stream.toNat (frameRef op f) f.addr.toNat

section
variable {f : Frame} (htok : cmdToken f ≠ 0) (haddr : f.addr = 1) (hpage : cmdProt f = true ∨ f.stream.toNat = 0x23)
  (hrec : t.fw.recovery = false) (hsess : t.sess = 0)
include htok haddr hpage hrec hsess

/-- A CMD of code 1 with a token on a page that takes it is not refused. -/
theorem cmd_accepted :
    refusal [(cmdToken f = 0 || f.addr != 1 || !(cmdProt f || f.stream.toNat = 0x23), badOp),
      (t.recoveryPage f.stream.toNat || (t.sess != 0 && !t.fits 161 24), busySt)] = none := by
  refine refusal_of_none ?_
  simp only [List.mem_cons, List.not_mem_nil, or_false]
  rintro e (rfl | rfl)
  · have hzero : decide (cmdToken f = 0) = false := decide_eq_false htok
    have htakes : (cmdProt f || decide (f.stream.toNat = 0x23)) = true := by rcases hpage with h | h <;> simp [h]
    show (decide (cmdToken f = 0) || f.addr != 1 || !(cmdProt f || decide (f.stream.toNat = 0x23))) = false
    rw [hzero, haddr, htakes]
    rfl
  · simp [Tail.recoveryPage, hrec, hsess]

theorem Tail.cmdOp_new (op : HspOp) (hnew : t.toks.find? (fun e => e.1 = f.stream.toNat && e.2.1 = cmdToken f) = none) :
    t.cmdOp op f = ⟨okSt, leBytes 4 (cmdToken f).toNat ++ leBytes 4 ((t.cmdCleared f).cmdResult f), (t.cmdCleared f).cmdKept op f⟩ := by
  have hacc := cmd_accepted htok haddr hpage hrec hsess
  unfold cmdToken cmdProt at hacc
  unfold cmdToken at hnew
  unfold Tail.cmdOp
  dsimp only
  rw [hacc]
  dsimp only
  rw [hnew]
  rfl

theorem Tail.cmdOp_dup (op : HspOp) {e : Nat × Word × Word}
    (hdup : t.toks.find? (fun e => e.1 = f.stream.toNat && e.2.1 = cmdToken f) = some e) :
    t.cmdOp op f = ⟨dupSt, leBytes 4 (cmdToken f).toNat ++ leBytes 4 e.2.2.toNat, t⟩ := by
  have hacc := cmd_accepted htok haddr hpage hrec hsess
  unfold cmdToken cmdProt at hacc
  unfold cmdToken at hdup
  unfold Tail.cmdOp
  dsimp only
  rw [hacc]
  dsimp only
  rw [hdup]
  rfl

end

theorem Tail.keepsSsn_cmdKept (op : HspOp) (f : Frame) : t.KeepsSsn (t.cmdKept op f) :=
  Tail.KeepsSsn.trans (t := { t with toks := pushTok t.toks f.stream.toNat (cmdToken f) (BitVec.ofNat 32 (t.cmdResult f)) }) ⟨rfl, rfl⟩
    (Tail.keepsSsn_auditWrite ..)

theorem Tail.keepsSsn_cmdCleared (f : Frame) : t.KeepsSsn (t.cmdCleared f) := by
  unfold Tail.cmdCleared
  split
  · exact (Tail.only_faultClear ..).keepsSsn
  · exact Tail.keepsSsn_faultClearAll _

end

/-! ## Served CMD frames -/

theorem dupSt_lt : dupSt < 256 := by decide

section
variable {s : State} {f : Frame} (h : s.Serves .cmd f) (htok : cmdToken f ≠ 0) (haddr : f.addr = 1)
  (hpage : cmdProt f = true ∨ f.stream.toNat = 0x23) (hrec : s.fs.fw.recovery = false) (hsess : (s.begun .cmd f).sess = 0)
include h htok haddr hpage hrec hsess

/-- A served CMD frame with a new token clears and keeps the token with its RESULT. -/
theorem cmd_new (hnew : (s.begun .cmd f).toks.find? (fun e => e.1 = f.stream.toNat && e.2.1 = cmdToken f) = none) :
    let r := (s.begun .cmd f).cmdCleared f
    s.hostOp .cmd f = s.answered .cmd f okSt (leBytes 4 (cmdToken f).toNat ++ leBytes 4 (r.cmdResult f)) (r.cmdKept .cmd f) :=
  h.hostOp_answered (a := ⟨okSt, _, _⟩) (Tail.cmdOp_new htok haddr hpage ((s.begun_fw .cmd f).symm ▸ hrec) hsess .cmd hnew) okSt_lt
    ((Tail.keepsSsn_cmdCleared f).trans (Tail.keepsSsn_cmdKept .cmd f))

/-- A served CMD frame with a token of its page is answered with the RESULT kept. -/
theorem cmd_dup {e : Nat × Word × Word}
    (hdup : (s.begun .cmd f).toks.find? (fun e => e.1 = f.stream.toNat && e.2.1 = cmdToken f) = some e) :
    s.hostOp .cmd f = s.answered .cmd f dupSt (leBytes 4 (cmdToken f).toNat ++ leBytes 4 e.2.2.toNat) (s.begun .cmd f) :=
  h.hostOp_answered (a := ⟨dupSt, _, _⟩) (Tail.cmdOp_dup htok haddr hpage ((s.begun_fw .cmd f).symm ▸ hrec) hsess .cmd hdup) dupSt_lt (.refl _)

end

/-- The mask of a CMD frame of 8 bytes. -/
theorem cmdMask_of_length {f : Frame} (h : f.payload.length = 8) : cmdMask f = leNat ((f.payload.drop 4).take 4) := if_neg (by omega)

section
variable {f : Frame} {n : Stn} (t : Tail) (hf : f.stream = BitVec.ofNat 8 (stnPage n 0xE))
include hf

theorem cmdProt_station : cmdProt f = true := by
  obtain ⟨hstream, hprot, -⟩ := protPage n
  unfold cmdProt
  rw [hf, hstream, hprot]

theorem Tail.cmdResult_station : t.cmdResult f = t.clearResult n := by
  obtain ⟨hstream, -, hstn⟩ := protPage n
  rw [Tail.cmdResult, if_pos (cmdProt_station hf), hf, hstream, hstn]

theorem Tail.cmdCleared_station (hlen : f.payload.length = 8) : t.cmdCleared f = t.faultClear n (leNat ((f.payload.drop 4).take 4)) := by
  obtain ⟨hstream, -, hstn⟩ := protPage n
  rw [Tail.cmdCleared, if_pos (cmdProt_station hf), hf, hstream, hstn, cmdMask_of_length hlen]

end

section
variable {s : State} {f : Frame} {n : Stn} (hf : f.stream = BitVec.ofNat 8 (stnPage n 0xE)) (haddr : f.addr = 1) (h : s.Serves .cmd f)
  (hrec : s.fs.fw.recovery = false) (htok : cmdToken f ≠ 0) (hsess : (s.begun .cmd f).sess = 0)
include hf haddr h hrec htok hsess

/-- FAULT_CLEAR of a station with a new token (18 R669, R673). -/
theorem faultClear_new (hlen : f.payload.length = 8)
    (hnew : (s.begun .cmd f).toks.find? (fun e => e.1 = stnPage n 0xE && e.2.1 = cmdToken f) = none) :
    let r := (s.begun .cmd f).faultClear n (leNat ((f.payload.drop 4).take 4))
    s.hostOp .cmd f = s.answered .cmd f okSt (leBytes 4 (cmdToken f).toNat ++ leBytes 4 (r.clearResult n))
      (({ r with toks := pushTok r.toks (stnPage n 0xE) (cmdToken f) (BitVec.ofNat 32 (r.clearResult n)) } : Tail).auditWrite (stnPage n 0xE)
        (frameRef .cmd f) 1) := by
  obtain ⟨hstream, -, -⟩ := protPage n
  have hkey : f.stream.toNat = stnPage n 0xE := by rw [hf, hstream]
  have hcmd := cmd_new h htok haddr (.inl (cmdProt_station hf)) hrec hsess (by rwa [hkey])
  dsimp only at hcmd
  rw [Tail.cmdCleared_station _ hf hlen, Tail.cmdKept, Tail.cmdResult_station _ hf, hkey, haddr] at hcmd
  exact hcmd

/-- FAULT_CLEAR of a station with a token of its page (08 R309). -/
theorem faultClear_dup {e : Nat × Word × Word}
    (hdup : (s.begun .cmd f).toks.find? (fun e => e.1 = stnPage n 0xE && e.2.1 = cmdToken f) = some e) :
    s.hostOp .cmd f = s.answered .cmd f dupSt (leBytes 4 (cmdToken f).toNat ++ leBytes 4 e.2.2.toNat) (s.begun .cmd f) := by
  obtain ⟨hstream, -, -⟩ := protPage n
  have hkey : f.stream.toNat = stnPage n 0xE := by rw [hf, hstream]
  exact cmd_dup h htok haddr (.inl (cmdProt_station hf)) hrec hsess (by rwa [hkey])

end

/-- FAULT_CLEAR of the unit with a new token (18 R671). -/
theorem faultClearAll_new {s : State} {f : Frame} (hf : f.stream = 0x23) (haddr : f.addr = 1) (h : s.Serves .cmd f)
    (hrec : s.fs.fw.recovery = false) (htok : cmdToken f ≠ 0) (hlen : f.payload.length = 4) (hsess : (s.begun .cmd f).sess = 0)
    (hnew : (s.begun .cmd f).toks.find? (fun e => e.1 = 0x23 && e.2.1 = cmdToken f) = none) :
    let r := (s.begun .cmd f).faultClearAll 0xFFFFFFFF
    s.hostOp .cmd f = s.answered .cmd f okSt (leBytes 4 (cmdToken f).toNat ++ leBytes 4 r.clearAllResult)
      (({ r with toks := pushTok r.toks 0x23 (cmdToken f) (BitVec.ofNat 32 r.clearAllResult) } : Tail).auditWrite 0x23 (frameRef .cmd f) 1) := by
  have hkey : f.stream.toNat = 0x23 := by rw [hf]; rfl
  have hprot : cmdProt f = false := by rw [cmdProt, hkey]; rfl
  have hmask : cmdMask f = 0xFFFFFFFF := if_pos (by omega)
  have hnot : ¬ cmdProt f = true := by simp [hprot]
  have hcmd := cmd_new h htok haddr (.inr hkey) hrec hsess (by rwa [hkey])
  dsimp only at hcmd
  rw [Tail.cmdCleared, if_neg hnot, hmask, Tail.cmdKept, Tail.cmdResult, if_neg hnot, hkey, haddr] at hcmd
  exact hcmd

/-- Settles O42: a CMD frame with a new token clears and keeps it, one with a token of its page is answered from what was kept. -/
theorem faultClearFrames : Obligations.FaultClearFrames :=
  ⟨fun n _ _ h hrec htok hlen hsess =>
      ⟨fun hnew => congrArg _ (faultClear_new (n := n) rfl rfl h hrec htok hsess hlen hnew),
        fun _ hdup => congrArg _ (faultClear_dup (n := n) rfl rfl h hrec htok hsess hdup)⟩,
    fun _ _ h hrec htok hlen hsess hnew => congrArg _ (faultClearAll_new rfl rfl h hrec htok hlen hsess hnew)⟩

end Sys2Proof.Machine
end

section
/-! Settling O32: followers, links, frames, successions and forwarding of Orbit (15 R575, 16 R600 to R614). -/

namespace Sys2Proof.Machine

/-! ## What decides who shares (16 R586 to R589) -/

/-- The registers from which the members of the groups and their roles are read. -/
def shrConfig : List Nat :=
  (PG_CTRL.ENABLE 0x37).addr :: ORB_CFG.UNIT.addr :: ORB_PACE.PACE.addr :: (List.range 4).flatMap fun i =>
    [(SHR_STN.ROLE i).addr, (SHR_STN.GRP i).addr, (SHR_GCFG.EN i).addr, (SHR_GCFG.RING i).addr, (SHR_GCFG.GID i).addr]

theorem stnConfig_mem (n : Stn) : (SHR_STN.ROLE n).addr ∈ shrConfig ∧ (SHR_STN.GRP n).addr ∈ shrConfig := by
  revert n
  decide

theorem grpConfig_mem (g : Fin 4) : (SHR_GCFG.EN g).addr ∈ shrConfig := by
  revert g
  decide

/-- `r` has the sharing, the ring and the clocks that run of `t`. -/
structure Tail.SharesAs (t r : Tail) : Prop where
  u : r.u = t.u
  stn : r.stn = t.stn
  orb : r.orb = t.orb
  clk : r.clk = t.clk
  config : ∀ a ∈ shrConfig, r.inEff a = t.inEff a

section
variable {o t r : Tail}

theorem Tail.SharesAs.refl : t.SharesAs t := ⟨rfl, rfl, rfl, rfl, fun _ _ => rfl⟩

theorem Tail.sharesAs_words (ht : o.SharesAs t) (hu : r.u = t.u) (hstn : r.stn = t.stn) (horb : r.orb = t.orb)
    (hclk : r.clk = t.clk) (hlate : r.late = t.late) (hheld : r.held = t.held) (hword : ∀ a ∈ shrConfig, r.word a = t.word a) :
    o.SharesAs r :=
  ⟨hu.trans ht.u, hstn.trans ht.stn, horb.trans ht.orb, hclk.trans ht.clk, fun a ha =>
    (Tail.inEff_congr t r a (hword a ha) hlate fun _ => by rw [hheld]).trans (ht.config a ha)⟩

theorem Tail.sharesAs_elapse (d : Nat) (ht : o.SharesAs t) : o.SharesAs (t.elapse d) :=
  Tail.sharesAs_words ht (t.elapse_u d) (t.elapse_stn d) (t.elapse_orb d) (t.elapse_clk d) (t.elapse_late d) (t.elapse_held d)
    fun a _ => t.elapse_word d a

theorem Tail.sharesAs_p {f : Fd} (x : Nat) (hf : ∀ a ∈ shrConfig, a ≠ f.addr) (ht : o.SharesAs t) : o.SharesAs (t.p f x) :=
  Tail.sharesAs_words ht rfl rfl rfl rfl rfl rfl fun a ha => t.word_p_ne x (hf a ha)

theorem shrConfig_not_evt : ∀ a ∈ shrConfig, a % 256 ≠ 0x0C := by decide

theorem Tail.sharesAs_evt (p i : Nat) (ht : o.SharesAs t) : o.SharesAs (t.evt p i) :=
  Tail.sharesAs_words ht (Tail.evtV_u ..) (Tail.evtV_stn ..) (Tail.evtV_orb ..) (Tail.evtV_clk ..) (Tail.evtV_late ..)
    (Tail.evtV_held ..) fun a ha => t.word_evt_ne p i fun e => shrConfig_not_evt a ha (e ▸ evt_addr_mod p)

theorem shrConfig_not_logged : ∀ a ∈ shrConfig, logReg a = false := by decide +kernel

theorem Tail.Logs.sharesAs (h : t.Logs r) : t.SharesAs r :=
  ⟨show r.unlogged.u = t.unlogged.u by rw [h.1], Tail.Logs.stn_eq h,
    show r.unlogged.orb = t.unlogged.orb by rw [h.1], show r.unlogged.clk = t.unlogged.clk by rw [h.1], fun a ha =>
    (h.2 a (shrConfig_not_logged a ha)).2⟩

theorem Tail.SharesAs.trans (h : o.SharesAs t) (h' : t.SharesAs r) : o.SharesAs r :=
  ⟨h'.u.trans h.u, h'.stn.trans h.stn, h'.orb.trans h.orb, h'.clk.trans h.clk, fun a ha =>
    (h'.config a ha).trans (h.config a ha)⟩

section
variable (h : t.SharesAs r)
include h

theorem Tail.SharesAs.stnGet_eq (n : Stn) : r.stnGet n = t.stnGet n := congrArg (fun v : Vector Station 4 => v[n]) h.stn

theorem Tail.SharesAs.stns_eq : r.stns = t.stns := by simp only [Tail.stns, Tail.fitted, h.u]

theorem Tail.SharesAs.cf_eq {f : Fd} (hf : f.addr ∈ shrConfig) : r.cf f = t.cf f := congrArg (fdGet f) (h.config _ hf)

theorem Tail.SharesAs.cfb_eq {f : Fd} (hf : f.addr ∈ shrConfig) : r.cfb f = t.cfb f := congrArg (· != 0) (h.cf_eq hf)

theorem Tail.SharesAs.shrGroup_eq (n : Stn) : r.shrGroup n = t.shrGroup n := by
  have henabled : r.enabled 0x37 = t.enabled 0x37 := h.cfb_eq (by decide)
  have hfitted : r.fitted n = t.fitted n := by simp only [Tail.fitted, h.u]
  simp only [Tail.shrGroup, henabled, hfitted, h.cf_eq (stnConfig_mem n).1, h.cf_eq (stnConfig_mem n).2,
    h.cfb_eq (grpConfig_mem (Fin.ofNat 4 (t.cf (SHR_STN.GRP n))))]

theorem Tail.SharesAs.followers_eq (g : Fin 4) : r.followers g = t.followers g := by
  simp only [Tail.followers, Tail.members, Tail.isFollower, h.stns_eq, h.shrGroup_eq, h.stnGet_eq]

theorem Tail.SharesAs.groupOfGid_eq (gid : Nat) : r.groupOfGid gid = t.groupOfGid gid := by
  have hring : ∀ g : Fin 4, r.ringGroup g = t.ringGroup g := fun g => by
    simp only [Tail.ringGroup, h.u, h.cfb_eq (show (SHR_GCFG.RING g).addr ∈ shrConfig from grpConfig_mem g)]
  simp only [Tail.groupOfGid, h.cfb_eq (grpConfig_mem _), hring,
    fun g : Fin 4 => h.cf_eq (show (SHR_GCFG.GID g).addr ∈ shrConfig from grpConfig_mem g)]

end
end

/-! ## Followers of a lost source (15 R575) -/

theorem followerLost_settles {n : Stn} {d : Nat} {s : State} (h : (s.fs.stnGet n).setp.lostT = some d) :
    Settles (.followerLost n true) s ((((s.fs.elapse (d - s.fs.now)).p (EXTS_STAT.LOST n) 1).setpMap n (fun x =>
      { x with lostT := none, v := x.out, a := 0 })).evt (stnPage n 0xC) 0) :=
  settles_of_tail _ rfl (by dsimp only; rw [h]; rfl)

theorem followerBack_settles {n : Stn} {d : Nat} {s : State} (h : (s.fs.stnGet n).setp.okT = some d) :
    Settles (.followerLost n false) s ((((s.fs.elapse (d - s.fs.now)).p (EXTS_STAT.LOST n) 0).setpMap n (fun x =>
      { x with okT := none, out := 0, v := 0, a := 0 })).evt (stnPage n 0xC) 2) :=
  settles_of_tail _ rfl (by dsimp only; rw [h]; rfl)

/-! ## Links and routes (16 R608, R609) -/

theorem Tail.orbIsolated_of_link {t : Tail} (h : t.b ORB_STAT.LINK1 = true ∨ t.b ORB_STAT.LINK2 = true) :
    t.orbIsolated = t.p ORB_STAT.ISOLATED 0 := by
  have hiso : (t.u.orbit && t.enabled 0x36 && !t.b ORB_STAT.LINK1 && !t.b ORB_STAT.LINK2) = false := by
    rcases h with h | h <;> simp [h]
  unfold Tail.orbIsolated
  dsimp only
  rw [hiso]
  rfl

/-- The link of O1 goes down and its port is used no more. -/
def Tail.firstDown (t : Tail) : Tail :=
  let r := (t.p ORB_STAT.LINK1 0).evt 0x36 0
  { r with orb := { r.orb with use := r.orb.use.set 0 false, unwrapT := none } }

/-- The routes wrap (16 R609). -/
def Tail.wrapped (t : Tail) : Tail := if t.b ORB_STAT.WRAPPED then t else (t.p ORB_STAT.WRAPPED 1).evt 0x36 2

theorem linkDown_eq (s : State) : exec (.orbitLinkDown false) s = tailNext s (fun t =>
    if !(t.u.orbit && t.enabled 0x36 && t.on 5 && t.b ORB_STAT.LINK1) then t else t.firstDown.wrapped.orbIsolated.finish) := rfl

theorem Tail.firstDown_g (t : Tail) {f : Fd} (hevt : f.addr ≠ (PG_EVT.EVT 0x36).addr) (hok : f.ok)
    (hap : f.addr ≠ ORB_STAT.LINK1.addr ∨ ORB_STAT.LINK1.apart f) : t.firstDown.g f = t.g f :=
  ((t.p ORB_STAT.LINK1 0).g_evt_ne 0x36 0 hevt).trans (t.g_p_apart 0 (by decide) hok hap)

theorem Tail.wrapped_of_not {t : Tail} (h : t.g ORB_STAT.WRAPPED = 0) : t.wrapped = (t.p ORB_STAT.WRAPPED 1).evt 0x36 2 :=
  if_neg (by simp [Tail.b, h])

theorem linkDown_settles {s : State} (horbit : s.fs.u.orbit = true) (hen : s.fs.enabled 0x36 = true) (hon : s.fs.on 5 = true)
    (h1 : s.fs.g ORB_STAT.LINK1 = 1) (h2 : s.fs.g ORB_STAT.LINK2 = 1) (hw : s.fs.g ORB_STAT.WRAPPED = 0) :
    Settles (.orbitLinkDown false) s (((({ (s.fs.p ORB_STAT.LINK1 0).evt 0x36 0 with orb := { s.fs.orb with
      use := s.fs.orb.use.set 0 false, unwrapT := none } } : Tail).p ORB_STAT.WRAPPED 1).evt 0x36 2).p ORB_STAT.ISOLATED 0) := by
  have hwrap : s.fs.firstDown.g ORB_STAT.WRAPPED = 0 := (s.fs.firstDown_g (by decide) (by decide) (by decide)).trans hw
  have hlink : s.fs.firstDown.wrapped.b ORB_STAT.LINK2 = true := by
    have hg : s.fs.firstDown.wrapped.g ORB_STAT.LINK2 = 1 := by
      rw [Tail.wrapped_of_not hwrap, Tail.g_evt_ne _ 0x36 2 (by decide), Tail.g_p_apart _ 1 (by decide) (by decide) (by decide),
        Tail.firstDown_g _ (by decide) (by decide) (by decide), h2]
    simp [Tail.b, hg]
  have hup : s.fs.b ORB_STAT.LINK1 = true := by simp [Tail.b, h1]
  have horb : ((s.fs.p ORB_STAT.LINK1 0).evt 0x36 0).orb = s.fs.orb := Tail.evtV_orb ..
  refine settles_of_tail _ (linkDown_eq s) ?_
  dsimp only
  rw [horbit, hen, hon, hup, if_neg (by decide), Tail.orbIsolated_of_link (.inr hlink), Tail.wrapped_of_not hwrap, Tail.firstDown]
  dsimp only
  rw [horb]

/-- The link of O1 comes up. -/
def Tail.firstUp (t : Tail) : Tail :=
  let r := t.p ORB_STAT.LINK1 1
  if r.b ORB_STAT.LINK1 && r.b ORB_STAT.LINK2 && r.b ORB_STAT.WRAPPED then
    { r with orb := { r.orb with unwrapT := r.after (100 * ms1) } }
  else { r with orb := { r.orb with use := r.orb.use.set 0 true } }

theorem linkUp_eq (s : State) : exec (.orbitLinkUp false) s = tailNext s (fun t =>
    if !(t.u.orbit && t.enabled 0x36 && t.on 5) || t.b ORB_STAT.LINK1 then t else t.firstUp.orbIsolated.finish) := rfl

theorem Tail.firstUp_of_wrapped {t : Tail} (h2 : t.g ORB_STAT.LINK2 = 1) (hw : t.g ORB_STAT.WRAPPED = 1) :
    t.firstUp = { t.p ORB_STAT.LINK1 1 with orb := { t.orb with unwrapT := some (t.now + 40000000) } } := by
  have hg {f : Fd} (hok : f.ok) (hap : f.addr ≠ ORB_STAT.LINK1.addr ∨ ORB_STAT.LINK1.apart f) : (t.p ORB_STAT.LINK1 1).g f = t.g f :=
    t.g_p_apart 1 (by decide) hok hap
  have hup : (t.p ORB_STAT.LINK1 1).g ORB_STAT.LINK1 = 1 := t.g_p 1 (by decide)
  refine if_pos ?_
  simp [Tail.b, hup, hg (f := ORB_STAT.LINK2) (by decide) (by decide), hg (f := ORB_STAT.WRAPPED) (by decide) (by decide), h2, hw]

theorem linkUp_settles {s : State} (horbit : s.fs.u.orbit = true) (hen : s.fs.enabled 0x36 = true) (hon : s.fs.on 5 = true)
    (h1 : s.fs.g ORB_STAT.LINK1 = 0) (h2 : s.fs.g ORB_STAT.LINK2 = 1) (hw : s.fs.g ORB_STAT.WRAPPED = 1) :
    Settles (.orbitLinkUp false) s (({ s.fs.p ORB_STAT.LINK1 1 with orb := { s.fs.orb with unwrapT := some (s.fs.now + 40000000) } } : Tail).p
      ORB_STAT.ISOLATED 0) := by
  have hfirst := Tail.firstUp_of_wrapped h2 hw
  have hlink : s.fs.firstUp.b ORB_STAT.LINK1 = true := by
    have hg : s.fs.firstUp.g ORB_STAT.LINK1 = 1 := by
      rw [hfirst]
      exact s.fs.g_p (f := ORB_STAT.LINK1) 1 (by decide)
    simp [Tail.b, hg]
  have hdown : s.fs.b ORB_STAT.LINK1 = false := by simp [Tail.b, h1]
  refine settles_of_tail _ (linkUp_eq s) ?_
  dsimp only
  rw [horbit, hen, hon, hdown, if_neg (by decide), Tail.orbIsolated_of_link (.inl hlink), hfirst]

theorem unwrap_settles {d : Nat} {s : State} (h : s.fs.orb.unwrapT = some d) :
    Settles .unwrap s ((({ s.fs.elapse (d - s.fs.now) with orb := { s.fs.orb with unwrapT := none, use := Vector.replicate 2 true } } : Tail).p
      ORB_STAT.WRAPPED 0).evt 0x36 3) := by
  have horb := s.fs.elapse_orb (d - s.fs.now)
  refine settles_of_tail _ rfl ?_
  dsimp only
  rw [h]
  dsimp only [Tail.elapseTo]
  rw [horb]

/-! ## Frames sent again (16 R600) -/

/-- The frame of bytes `b` with REPEAT. -/
def repeatOf (b : List Byte) : OrbInfo := { parseFrame b with flags := setBit (parseFrame b).flags 0 true }

/-- The next repetition of group `g` is due 62.5 us from now. -/
def Tail.rearmed (t : Tail) (g : Fin 4) : Tail := { t with shr := t.shr.set g { t.shr[g] with repT := some (t.now + 25000) } }

/-- The frame that the transmitter read, if any, goes on the ring. -/
def Tail.ringRepeat (t : Tail) (g : Fin 4) : Option (List Byte) → Tail
  | some b => t.ringSend g (frameBytes (repeatOf b))
  | none => t

/-- The last frame of group `g` is sent again, to its members here and on the ring. -/
def Tail.sentAgain (t : Tail) (g : Fin 4) : Tail :=
  ((t.txRead g).2.arrive g (repeatOf (t.txRead g).2.shr[g].tx)).ringRepeat g (t.txRead g).1

theorem Tail.Logs.shr_eq {t r : Tail} (h : t.Logs r) : r.shr = t.shr := show r.unlogged.shr = t.unlogged.shr by rw [h.1]

theorem Tail.txRead_logs (t : Tail) (g : Fin 4) : t.Logs (t.txRead g).2 := by
  unfold Tail.txRead
  split
  · exact .rfl t
  · exact (Tail.recordKeeps_logs t).readRec 130 _ (.rfl t)

theorem frameRepeat_settles {g : Fin 4} {d : Nat} {m : Stn} {s : State} (hrep : s.fs.shr[g].repT = some d) (hpacer : s.fs.pacerOf g = some m) :
    Settles (.frameRepeat g.val) s (((s.fs.elapse (d - s.fs.now)).rearmed g).sentAgain g) := by
  refine settles_of_tail _ rfl ?_
  dsimp only
  rw [dif_pos g.isLt, hrep, hpacer]
  rfl

theorem Tail.rearmed_of {t : Tail} {v : Vector ShrGrp 4} {k : Nat} (g : Fin 4) (hshr : t.shr = v) (hnow : t.now = k) :
    t.rearmed g = { t with shr := v.set g { v[g] with repT := some (k + 25000) } } := by
  subst hshr hnow
  rfl

theorem Tail.rearmed_tx (t : Tail) (g : Fin 4) : ((t.rearmed g).txRead g).2.shr[g].tx = t.shr[g].tx := by
  rw [Tail.Logs.shr_eq ((t.rearmed g).txRead_logs g)]
  simp [Tail.rearmed]

/-- The repetition reads the frame from stream 130: it goes to the members, and where it is there, on the ring. -/
theorem frameRepeat_cases {g : Fin 4} {d : Nat} {m : Stn} {s : State} (hrep : s.fs.shr[g].repT = some d) (hpacer : s.fs.pacerOf g = some m) :
    let t : Tail := { s.fs.elapse (d - s.fs.now) with shr := s.fs.shr.set g { s.fs.shr[g] with repT := some (s.fs.now + (d - s.fs.now) + 25000) } }
    ((t.txRead g).1 = none → Settles (.frameRepeat g.val) s ((t.txRead g).2.arrive g (repeatOf s.fs.shr[g].tx)))
    ∧ (∀ b, (t.txRead g).1 = some b → Settles (.frameRepeat g.val) s
          (((t.txRead g).2.arrive g (repeatOf s.fs.shr[g].tx)).ringSend g (frameBytes (repeatOf b)))) := by
  intro t
  have hsent := frameRepeat_settles hrep hpacer
  have htx := (s.fs.elapse (d - s.fs.now)).rearmed_tx g
  rw [Tail.elapse_shr] at htx
  unfold Tail.sentAgain at hsent
  rw [htx, Tail.rearmed_of g (s.fs.elapse_shr _) (s.fs.elapse_now _)] at hsent
  exact ⟨fun h => by rwa [h] at hsent, fun b h => by rwa [h] at hsent⟩

/-! ## Loss (16 R611) -/

theorem lostRegs : ∀ g : Fin 4, ∀ a ∈ shrConfig, a ≠ (SHR_GSTAT.LOST g).addr := by decide

theorem orbLoss_settles {g : Fin 4} {n : Stn} {s : State} (h : s.fs.followers g = [n]) :
    Settles (.orbLoss g.val) s ((((s.fs.elapse ((s.fs.stnGet n).share.seen + 100000 - s.fs.now)).p (SHR_GSTAT.LOST g.val) 1).evt 0x37
      4).assertSource n 11) := by
  let q := s.fs.elapse ((s.fs.stnGet n).share.seen + 100000 - s.fs.now)
  let r := (q.p (SHR_GSTAT.LOST g.val) 1).evt 0x37 4
  have hr : s.fs.SharesAs r := Tail.sharesAs_evt _ _ (Tail.sharesAs_p _ (lostRegs g) (Tail.sharesAs_elapse _ .refl))
  have hnow : r.now = s.fs.now + ((s.fs.stnGet n).share.seen + 100000 - s.fs.now) := (Tail.evtV_now ..).trans (Tail.elapse_now ..)
  have hdue : (r.stnGet n).share.seen + 250 * us1 ≤ r.now := by
    rw [hr.stnGet_eq, hnow]
    show _ + 100000 ≤ _
    omega
  refine settles_of_tail _ rfl ?_
  dsimp only
  rw [dif_pos g.isLt, h]
  show ((r.followers g).foldl _ r).finish = _
  rw [hr.followers_eq, h]
  exact congrArg Tail.finish (if_pos hdue)

/-! ## Succession (16 R614) -/

/-- A count leaves the time and the store. -/
theorem Tail.inc_keeps (t : Tail) (f : Fd) : (t.inc f).now = t.now ∧ (t.inc f).ssn = t.ssn ∧ (t.inc f).store = t.store := ⟨rfl, rfl, rfl⟩

theorem Tail.successor_of {t : Tail} {g : Fin 4} {n : Stn} {f : Nat} (h : t.followers g = [n]) (hpace : t.mayPace g = true)
    (hnext : (t.stnGet n).share.next = t.stnId n.val) (hseq : (t.stnGet n).share.fseq = some f) : t.successor g = some n := by
  simp [Tail.successor, h, hpace, hnext, hseq]

/-- Station `n` as it takes over: its loops start, its role is Pacer, and its first frame carries SUCC. -/
def Tail.pacerBegins (t : Tail) (n : Stn) : Tail :=
  (((t.incBy SHR_CNT.MISSED (missedIn (t.now - (t.stnGet n).share.seen))).loopsMap n (fun l => { l with k := 0 })).setRole n .pacer).shareMap n
    (fun s => { s with succ := true, join := true, plost := false, wait := [] })

/-- Group `g` goes on from FSEQ `f`. -/
def Tail.groupGoesOn (t : Tail) (g : Fin 4) (f : Nat) : Tail := { t with shr := t.shr.set g { t.shr[g] with seq := f } }

theorem Tail.succeed_eq (t : Tail) (g : Fin 4) (n : Stn) :
    t.succeed g n = (((t.pacerBegins n).groupGoesOn g ((t.stnGet n).share.fseq.getD 0)).inc SHR_CNT.TAKEOVERS).evt 0x37 0 := rfl

theorem Tail.groupGoesOn_keeps (t : Tail) (g : Fin 4) (f : Nat) : (t.groupGoesOn g f).now = t.now
    ∧ (∀ n, (t.groupGoesOn g f).stnGet n = t.stnGet n) ∧ (∀ fd : Fd, (t.groupGoesOn g f).g fd = t.g fd) ∧ (t.groupGoesOn g f).shr[g].seq = f :=
  ⟨rfl, fun _ => rfl, fun _ => rfl, by simp [Tail.groupGoesOn]⟩

theorem Tail.pacerBegins_stn (t : Tail) (n : Stn) : ((t.pacerBegins n).stnGet n).share.role = .pacer
    ∧ ((t.pacerBegins n).stnGet n).share.succ = true ∧ ((t.pacerBegins n).stnGet n).share.plost = false
    ∧ ((t.pacerBegins n).stnGet n).loops.k = 0 := by
  simp [Tail.pacerBegins, Tail.setRole, Tail.shareMap, Tail.loopsMap]

theorem roleField_addr (n : Stn) : SHR_CNT.TAKEOVERS.addr ≠ (roleField n).addr := by simp [roleField]; decide

theorem Tail.pacerBegins_keeps (t : Tail) (n : Stn) :
    (t.pacerBegins n).now = t.now ∧ (t.pacerBegins n).g SHR_CNT.TAKEOVERS = t.g SHR_CNT.TAKEOVERS := by
  refine ⟨rfl, ?_⟩
  exact ((t.incBy SHR_CNT.MISSED _).g_p_ne _ (roleField_addr n)).trans
    (t.g_p_apart (f := SHR_CNT.MISSED) _ (by decide) (by decide) (by decide))

/-- A takeover (16 R614): the loops and the role of the station, the group's FSEQ, the count and its latch. -/
theorem Tail.succeed_shows {t : Tail} {n : Stn} {f : Nat} (g : Fin 4) (h : (t.stnGet n).share.fseq = some f) :
    ((t.succeed g n).stnGet n).share.role = .pacer ∧ ((t.succeed g n).stnGet n).share.succ = true
    ∧ ((t.succeed g n).stnGet n).share.plost = false ∧ ((t.succeed g n).stnGet n).loops.k = 0 ∧ (t.succeed g n).shr[g].seq = f
    ∧ (t.succeed g n).now = t.now
    ∧ (t.succeed g n).g SHR_CNT.TAKEOVERS = satInc SHR_CNT.TAKEOVERS.width (t.g SHR_CNT.TAKEOVERS) ∧ (t.succeed g n).evtBit 0x37 0 = true := by
  obtain ⟨hnow, hcount⟩ := t.pacerBegins_keeps n
  obtain ⟨hnow', hstn, hg, hseq⟩ := (t.pacerBegins n).groupGoesOn_keeps g f
  obtain ⟨hrole, hsucc, hplost, hk⟩ := t.pacerBegins_stn n
  have hshr (r : Tail) : ((r.inc SHR_CNT.TAKEOVERS).evt 0x37 0).shr = r.shr := Tail.evtV_shr ..
  rw [Tail.succeed_eq, h, Option.getD_some, Tail.evt_stnGet, Tail.inc_stnGet, hstn, hshr, Tail.g_evt_ne _ 0x37 0 (by decide),
    Tail.g_inc _ (by decide), hg, hcount]
  exact ⟨hrole, hsucc, hplost, hk, hseq, (Tail.evtV_now ..).trans ((Tail.inc_keeps _ _).1.trans (hnow'.trans hnow)), rfl,
    Tail.evt_sets _ _ (by decide)⟩

theorem takeover_settles {g : Fin 4} {n : Stn} {f : Nat} {s : State} (h : s.fs.followers g = [n]) (hnone : s.fs.plostWaits g = none)
    (hpace : s.fs.mayPace g = true) (hnext : (s.fs.stnGet n).share.next = s.fs.stnId n.val) (hseq : (s.fs.stnGet n).share.fseq = some f) :
    let r := s.fs.elapse ((s.fs.stnGet n).share.seen + 52000 - s.fs.now)
    Settles (.successionTakeover g.val) s ((r.elapse (r.sampleIn n)).succeed g n) := by
  refine settles_of_tail _ rfl ?_
  dsimp only
  rw [dif_pos g.isLt, hnone, Tail.successor_of h hpace hnext hseq]
  rfl

/-! ## Frames received (16 R601, R602, R609) -/

/-- The field side that has stored and counted the frame `f` received on O1. -/
def Tail.received (t : Tail) (f : OrbFrame) : Tail :=
  let good := f.good && frameGood f.bytes
  let t := (t.commitOn 128 (fun t => t.record .engine 128 10 good f.bytes)).inc (ORB_CNT.FRAMES 0)
  if good then t else (t.inc (ORB_CNT.CRC_ERR 0)).evt 0x36 5

theorem Tail.sharesAs_received (t : Tail) (f : OrbFrame) : t.SharesAs (t.received f) := by
  unfold Tail.received
  extract_lets good q
  have hq : t.SharesAs q :=
    Tail.sharesAs_p _ (by decide) (Tail.Logs.sharesAs (Tail.logs_commitOn 128
      ((Tail.recordKeeps_logs t).record .engine (by decide) 10 good _ (Tail.logs_ssn _ (.rfl t)))))
  split
  · exact hq
  · exact Tail.sharesAs_evt _ _ (Tail.sharesAs_p _ (by decide) hq)

theorem orbitFrameRx_settles {f : OrbFrame} {s : State} (horbit : s.fs.u.orbit = true) (hen : s.fs.enabled 0x36 = true) (hon : s.fs.on 5 = true)
    (h1 : s.fs.g ORB_STAT.LINK1 = 1) (htype : f.bytes.getD 0 0 = 1) (hlen : 16 ≤ f.bytes.length)
    (hgroup : s.fs.groupOfGid (parseFrame f.bytes).gid = none) (hother : (parseFrame f.bytes).pacer / 4 ≠ s.fs.cf ORB_CFG.UNIT)
    (hhop : (parseFrame f.bytes).hop < 32) (hruns : s.fs.runs 6 = true) :
    Settles (.orbitFrameRx false f) s ((s.fs.received f).forward 0 (parseFrame f.bytes) (f.good && frameGood f.bytes)) := by
  have hr := s.fs.sharesAs_received f
  have hup : s.fs.b ORB_STAT.LINK1 = true := by simp [Tail.b, h1]
  have hgrp := (hr.groupOfGid_eq (parseFrame f.bytes).gid).trans hgroup
  have hmine : ¬ (parseFrame f.bytes).pacer / 4 = (s.fs.received f).cf ORB_CFG.UNIT := by rwa [hr.cf_eq (by decide)]
  have hrun : (s.fs.received f).runs 6 = true := by rw [Tail.runs, hr.clk]; exact hruns
  refine settles_of_tail _ rfl ?_
  extract_lets p up good x k q q1 q2 g mine acts q3 e
  have hq2 : q2 = s.fs.received f := rfl
  rw [← hq2] at hgrp hmine hrun ⊢
  clear_value q2
  have hg : g = none := hgrp
  have hq3 : q3 = q2 := by
    unfold q3
    rw [hg]
  have hactive : ¬ (!(s.fs.u.orbit && s.fs.enabled 0x36 && s.fs.on 5 && up)) = true := by
    rw [horbit, hen, hon, show up = true from hup]
    decide
  have hframe : ¬ (f.bytes.getD 0 0 != 1 || decide (f.bytes.length < 16)) = true := by simp only [htype]; simp [hlen]
  have hnot : ¬ (decide mine && acts) = true := fun h => hmine (of_decide_eq_true (Bool.and_elim_left h))
  rw [if_neg hactive]
  unfold e
  rw [if_neg hframe, if_neg hnot, if_neg hmine, if_neg (show ¬ 32 ≤ x.hop from Nat.not_le.mpr hhop), hq3, if_pos hrun]
  rfl

/-- The field side in which one frame waits to leave on O2. -/
def Tail.oneWaits (t : Tail) (x : OrbInfo) (good : Bool) : Tail := { t with orb := { t.orb with fwd := [(0, x, good)] } }

/-- What O2 takes where one frame waits for it. -/
def Tail.oneSent (t : Tail) (x : OrbInfo) (good : Bool) : Tail :=
  ({ t with orb := { t.orb with fwd := [] } } : Tail).portBegin 1 t.now ((t.oneWaits x good).forwarded x good false)

section
variable {t : Tail} (huse : t.orb.use[1] = true) (hfwd : t.orb.fwd = []) (hown : t.orb.own = []) (x : OrbInfo) (good : Bool)

include hfwd hown in
theorem Tail.orbGaps_of_none : t.orbGaps = t := by
  unfold Tail.orbGaps
  rw [hfwd, hown]
  rfl

include huse in
theorem Tail.oneWaits_port : (t.oneWaits x good).fwdPort 0 = 1 := if_pos huse

include huse hown in
theorem Tail.oneWaits_first (m : Nat) : (t.oneWaits x good).portTake 0 m = t.oneWaits x good := by
  have hidx : (t.oneWaits x good).orb.fwd.findIdx? (fun e => decide ((t.oneWaits x good).fwdPort e.1 = 0)) = none := by
    simp [show (t.oneWaits x good).orb.fwd = [(0, x, good)] from rfl, Tail.oneWaits_port huse]
  have hnone : (t.oneWaits x good).orb.own = [] := hown
  unfold Tail.portTake
  rw [hidx, hnone]

include huse in
theorem Tail.oneWaits_second : (t.oneWaits x good).portTake 1 t.now = t.oneSent x good := by
  have hidx : (t.oneWaits x good).orb.fwd.findIdx? (fun e => decide ((t.oneWaits x good).fwdPort e.1 = 1)) = some 0 := by
    simp [show (t.oneWaits x good).orb.fwd = [(0, x, good)] from rfl, Tail.oneWaits_port huse]
  unfold Tail.portTake
  rw [hidx]
  rfl

include huse hfwd hown in
/-- A frame received on O1 where nothing waits leaves on O2 at once, or waits while that port is busy (16 R602, R607). -/
theorem Tail.forward_one : t.forward 0 x good = if t.orb.busy[1] ≤ t.now then t.oneSent x good else t.oneWaits x good := by
  unfold Tail.forward
  rw [Tail.orbGaps_of_none hfwd hown]
  dsimp only
  rw [hfwd]
  show (t.oneWaits x good).orbStart = _
  unfold Tail.orbStart
  rw [List.foldl_cons, List.foldl_cons, List.foldl_nil]
  rw [show (t.oneWaits x good).now = t.now from rfl, Tail.oneWaits_first huse hown, ite_self]
  exact if_congr Iff.rfl (Tail.oneWaits_second huse x good) rfl

end

/-- The frame of no local group as it leaves: HOP one higher and its new CRC, inverted where the received one was bad (16 R602). -/
theorem Tail.forwarded_of_none {t : Tail} {x : OrbInfo} (good : Bool) (h : t.groupOfGid x.gid = none) :
    t.forwarded x good false = frameBody { x with hop := x.hop + 1 }
      ++ leBytes 4 (if good then crc32c (frameBody { x with hop := x.hop + 1 }) else ~~~(crc32c (frameBody { x with hop := x.hop + 1 }))).toNat := by
  unfold Tail.forwarded
  rw [h]
  rfl

theorem Tail.oneSent_out {t : Tail} {x : OrbInfo} (good : Bool) : (t.oneSent x good).orb.out[1] = (t.oneWaits x good).forwarded x good false := by
  simp [Tail.oneSent, Tail.portBegin]

theorem Tail.oneSent_g (t : Tail) (x : OrbInfo) (good : Bool) (f : Fd) : (t.oneSent x good).g f = t.g f := rfl

theorem Tail.oneWaits_groupOfGid (t : Tail) (x : OrbInfo) (good : Bool) (gid : Nat) : (t.oneWaits x good).groupOfGid gid = t.groupOfGid gid := rfl

/-! ## What a received frame counts -/

/-- The field side that has stored the frame `f` received on O1. -/
def Tail.stored (t : Tail) (f : OrbFrame) : Tail :=
  t.commitOn 128 fun t => t.record .engine 128 10 (f.good && frameGood f.bytes) f.bytes

theorem Tail.stored_logs (t : Tail) (f : OrbFrame) : t.Logs (t.stored f) :=
  Tail.logs_commitOn 128 ((Tail.recordKeeps_logs t).record .engine (by decide) 10 _ _ (Tail.logs_ssn _ (.rfl t)))

theorem Tail.stored_cnt (t : Tail) (f : OrbFrame) : (t.stored f).word (ORB_CNT.FRAMES 0).addr = t.word (ORB_CNT.FRAMES 0).addr :=
  ((t.stored_logs f).2 _ (by decide +kernel)).1

theorem Tail.stored_ssn (t : Tail) (f : OrbFrame) :
    (t.stored f).ssn = if ((t.stored f).sst 128).seq = (t.sst 128).seq then t.ssn else t.ssn + 1 :=
  Tail.commitOn_ssn ((Tail.recordKeeps_ssn { t with ssn := t.ssn + 1 }).record .engine (by decide) 10 _ _ (.refl _)).ssn

/-- The field side that has counted the frame stored in `t`. -/
theorem Tail.received_good {t : Tail} {f : OrbFrame} (h : (f.good && frameGood f.bytes) = true) :
    t.received f = (t.stored f).inc (ORB_CNT.FRAMES 0) := if_pos h

theorem Tail.received_bad {t : Tail} {f : OrbFrame} (h : (f.good && frameGood f.bytes) = false) :
    t.received f = (((t.stored f).inc (ORB_CNT.FRAMES 0)).inc (ORB_CNT.CRC_ERR 0)).evt 0x36 5 := if_neg (by simp [h])

theorem Tail.stored_counts (t : Tail) (f : OrbFrame) :
    ((t.stored f).inc (ORB_CNT.FRAMES 0)).g (ORB_CNT.FRAMES 0) = satInc (ORB_CNT.FRAMES 0).width (t.g (ORB_CNT.FRAMES 0))
    ∧ ((t.stored f).inc (ORB_CNT.FRAMES 0)).g (ORB_CNT.CRC_ERR 0) = t.g (ORB_CNT.CRC_ERR 0) := by
  have hframes : (t.stored f).g (ORB_CNT.FRAMES 0) = t.g (ORB_CNT.FRAMES 0) := congrArg (fdGet _) (t.stored_cnt f)
  have hcrc : (t.stored f).g (ORB_CNT.CRC_ERR 0) = t.g (ORB_CNT.CRC_ERR 0) := congrArg (fdGet _) (t.stored_cnt f)
  refine ⟨by rw [Tail.g_inc _ (by decide), hframes], ?_⟩
  rw [Tail.inc_eq, Tail.g_p_apart _ _ (by decide) (by decide) (by decide), hcrc]

theorem Tail.received_frames (t : Tail) (f : OrbFrame) :
    (t.received f).g (ORB_CNT.FRAMES 0) = satInc (ORB_CNT.FRAMES 0).width (t.g (ORB_CNT.FRAMES 0)) := by
  obtain ⟨hframes, -⟩ := t.stored_counts f
  cases h : f.good && frameGood f.bytes
  case true => rw [Tail.received_good h, hframes]
  case false => rw [Tail.received_bad h, Tail.g_evt_ne _ 0x36 5 (by decide), Tail.inc_eq _ (ORB_CNT.CRC_ERR 0),
    Tail.g_p_apart _ _ (by decide) (by decide) (by decide), hframes]

theorem Tail.received_crc_bad {t : Tail} {f : OrbFrame} (h : (f.good && frameGood f.bytes) = false) :
    (t.received f).g (ORB_CNT.CRC_ERR 0) = satInc (ORB_CNT.CRC_ERR 0).width (t.g (ORB_CNT.CRC_ERR 0)) ∧ (t.received f).evtBit 0x36 5 = true := by
  obtain ⟨-, hcrc⟩ := t.stored_counts f
  rw [Tail.received_bad h]
  exact ⟨by rw [Tail.g_evt_ne _ 0x36 5 (by decide), Tail.g_inc _ (by decide), hcrc], Tail.evt_sets _ _ (by decide)⟩

/-- Counting a stored frame leaves the store and its number. -/
theorem Tail.received_store (t : Tail) (f : OrbFrame) : (t.received f).ssn = (t.stored f).ssn ∧ (t.received f).store = (t.stored f).store := by
  obtain ⟨-, hssn, hstore⟩ := (t.stored f).inc_keeps (ORB_CNT.FRAMES 0)
  obtain ⟨-, hssn', hstore'⟩ := ((t.stored f).inc (ORB_CNT.FRAMES 0)).inc_keeps (ORB_CNT.CRC_ERR 0)
  cases h : f.good && frameGood f.bytes
  case true => rw [Tail.received_good h]; exact ⟨hssn, hstore⟩
  case false =>
    rw [Tail.received_bad h]
    exact ⟨(Tail.evtV_ssn ..).trans (hssn'.trans hssn), (Tail.evtV_store ..).trans (hstore'.trans hstore)⟩

theorem Tail.received_ssn (t : Tail) (f : OrbFrame) :
    (t.received f).ssn = if ((t.received f).sst 128).seq = (t.sst 128).seq then t.ssn else t.ssn + 1 := by
  obtain ⟨hssn, hstore⟩ := t.received_store f
  have hsst : (t.received f).sst 128 = (t.stored f).sst 128 := by unfold Tail.sst; rw [hstore]
  rw [hssn, hsst, Tail.stored_ssn]

theorem Tail.received_now (t : Tail) (f : OrbFrame) : (t.received f).now = t.now := by
  have hstored : (t.stored f).now = t.now := show (t.stored f).unlogged.now = t.unlogged.now by rw [(t.stored_logs f).1]
  have hcounted := ((t.stored f).inc_keeps (ORB_CNT.FRAMES 0)).1.trans hstored
  cases h : f.good && frameGood f.bytes
  case true => rw [Tail.received_good h]; exact hcounted
  case false => rw [Tail.received_bad h]; exact (Tail.evtV_now ..).trans ((Tail.inc_keeps _ _).1.trans hcounted)

/-- A received frame of no local group that is forwarded (16 R601, R602, R609). -/
theorem orbitFrame_shows {f : OrbFrame} {s : State} (huse : s.fs.orb.use[1] = true) (hfwd : s.fs.orb.fwd = []) (hown : s.fs.orb.own = [])
    (hgroup : s.fs.groupOfGid (parseFrame f.bytes).gid = none) :
    let x := parseFrame f.bytes
    let body := frameBody { x with hop := x.hop + 1 }
    let good := f.good && frameGood f.bytes
    let t := (s.fs.received f).forward 0 x good
    t.ssn = (if (t.sst 128).seq = (s.fs.sst 128).seq then s.fs.ssn else s.fs.ssn + 1)
      ∧ (s.fs.now < s.fs.orb.busy[1] → t.orb.fwd = [(0, x, good)]) ∧ (∀ fd : Fd, t.g fd = (s.fs.received f).g fd)
      ∧ (s.fs.orb.busy[1] ≤ s.fs.now → t.orb.out[1] = body ++ leBytes 4 (if good then crc32c body else ~~~(crc32c body)).toNat) := by
  intro x body good t
  have hr := s.fs.sharesAs_received f
  have ht : t = if s.fs.orb.busy[1] ≤ s.fs.now then (s.fs.received f).oneSent x good else (s.fs.received f).oneWaits x good := by
    unfold t
    rw [Tail.forward_one (by rwa [hr.orb]) (by rwa [hr.orb]) (by rwa [hr.orb]), hr.orb, Tail.received_now]
  clear_value t
  subst ht
  split
  case isTrue h =>
    refine ⟨s.fs.received_ssn f, fun hbusy => absurd h (Nat.not_le.mpr hbusy), fun _ => rfl, fun _ => ?_⟩
    rw [Tail.oneSent_out, Tail.forwarded_of_none good ((Tail.oneWaits_groupOfGid ..).trans ((hr.groupOfGid_eq x.gid).trans hgroup))]
  case isFalse h => exact ⟨s.fs.received_ssn f, fun _ => rfl, fun _ => rfl, fun hfree => absurd hfree h⟩

/-- Settles O32: each command of sharing and of the ring ends as its lemma says. -/
theorem sharingOverOrbit : Obligations.SharingOverOrbit := by
  refine ⟨fun _ _ _ => followerLost_settles, fun _ _ _ => followerBack_settles, fun _ => linkDown_settles, fun _ => linkUp_settles,
    fun _ _ => unwrap_settles, fun _ _ _ _ => frameRepeat_cases, fun _ _ _ => orbLoss_settles,
    fun g n f s h hnone hpace hnext hseq => ?_, fun f s horbit hen hon h1 huse htype hlen hgroup hother hhop hruns hfwd hown => ?_⟩
  · let r := s.fs.elapse ((s.fs.stnGet n).share.seen + 52000 - s.fs.now)
    let q := r.elapse (r.sampleIn n)
    have hseq' : (q.stnGet n).share.fseq = some f := by rw [Tail.elapse_stnGet, Tail.elapse_stnGet, hseq]
    obtain ⟨hrole, hsucc, hplost, hk, hgroup, hnow, hcount, hevt⟩ := Tail.succeed_shows g hseq'
    exact ⟨_, takeover_settles h hnone hpace hnext hseq, hrole, hsucc, hplost, hk, hgroup, hnow.trans (r.elapse_now _),
      by rw [hcount, Tail.elapse_g, Tail.elapse_g], hevt⟩
  · have hsettles := orbitFrameRx_settles horbit hen hon h1 htype hlen hgroup hother hhop hruns
    obtain ⟨hssn, hwait, hg, hout⟩ := orbitFrame_shows huse hfwd hown hgroup
    refine ⟨_, hsettles, hssn, hwait, (hg _).trans (s.fs.received_frames f), fun hfree hgood hframe => ?_, fun hfree hbad => ?_⟩
    · have hok : (f.good && frameGood f.bytes) = true := by rw [hgood, hframe]; rfl
      obtain ⟨-, hcrc⟩ := s.fs.stored_counts f
      exact ⟨(hout hfree).trans (by rw [if_pos hok]), (hg _).trans (by rw [Tail.received_good hok, hcrc])⟩
    · have hno : (f.good && frameGood f.bytes) = false := by rw [hbad]; rfl
      obtain ⟨hcrc, hevt⟩ := Tail.received_crc_bad (t := s.fs) hno
      refine ⟨(hout hfree).trans (by rw [if_neg (by simp [hno])]), (hg _).trans hcrc, ?_⟩
      exact (congrArg (fun x : Nat => x.testBit 5) (hg (PG_EVT.EVT 0x36))).trans hevt

end Sys2Proof.Machine
end

section
/-! What the loops, the set-point sources, sharing and modulation of a sample leave of the field side (12, 13, 14, 15, 16, 17): the unit, the
link, OTP, PD1, the time, and of every station the place of its sample instant and its newest samples. -/

namespace Sys2Proof.Machine

/-! ## What a sample keeps -/

/-- The place of the sample instant of a station and its newest samples. -/
def Station.spot (s : Station) : Nat × Vector Int 4 := (s.modu.sampleAt, s.isns.last)

/-- What the steps around a sample keep. -/
def Tail.spot (t : Tail) : UnitInfo × Link × Otp × Aon × Nat × DWord × Vector (Nat × Vector Int 4) 4 :=
  (t.u, t.link, t.otp, t.aon, t.now, t.ft, t.stn.map Station.spot)

section
variable {t r : Tail} {n : Stn}

theorem Tail.spot_of (h : r.spot = t.spot) : r.u = t.u ∧ r.link = t.link ∧ r.otp = t.otp ∧ r.aon = t.aon ∧ r.now = t.now ∧ r.ft = t.ft
    ∧ ∀ m, (r.stnGet m).spot = (t.stnGet m).spot := by
  simp only [Tail.spot, Prod.mk.injEq] at h
  obtain ⟨hu, hlink, hotp, haon, hnow, hft, hstn⟩ := h
  refine ⟨hu, hlink, hotp, haon, hnow, hft, fun m => ?_⟩
  have := congrArg (fun v : Vector (Nat × Vector Int 4) 4 => v[m]) hstn
  simpa [Tail.stnGet] using this

@[simp] theorem Tail.ite_spot (c : Prop) [Decidable c] (a b : Tail) : (if c then a else b).spot = if c then a.spot else b.spot := apply_ite ..

theorem Tail.foldl_spot {α : Type} (f : Tail → α → Tail) (h : ∀ t x, (f t x).spot = t.spot) (l : List α) : (l.foldl f t).spot = t.spot :=
  List.foldlRecOn (motive := fun r : Tail => r.spot = t.spot) _ _ rfl fun _ hr x _ => (h _ x).trans hr

@[simp] theorem Tail.p_spot (f : Fd) (x : Nat) : (t.p f x).spot = t.spot := rfl
@[simp] theorem Tail.pi_spot (f : Fd) (x : Int) : (t.pi f x).spot = t.spot := rfl
@[simp] theorem Tail.pb_spot (f : Fd) (x : Bool) : (t.pb f x).spot = t.spot := rfl
@[simp] theorem Tail.inc_spot (f : Fd) : (t.inc f).spot = t.spot := rfl
@[simp] theorem Tail.incBy_spot (f : Fd) (k : Nat) : (t.incBy f k).spot = t.spot := rfl

@[simp] theorem Tail.evt_spot (p i : Nat) : (t.evt p i).spot = t.spot := by
  unfold Tail.evt Tail.evtV
  split <;> rfl

@[simp] theorem Tail.dsNote_spot (a : Nat) : (t.dsNote a).spot = t.spot := rfl

@[simp] theorem Tail.pDs_spot (f : Fd) (x : Nat) : (t.pDs f x).spot = t.spot := (Tail.p_spot f x).trans (Tail.dsNote_spot f.addr)

/-! ## The parts of a station -/

theorem Tail.stnMap_spot {g : Station → Station} (h : (g (t.stnGet n)).spot = (t.stnGet n).spot) : (t.stnMap n g).spot = t.spot := by
  have hmap : (t.stn.set n.val (g (t.stnGet n))).map Station.spot = t.stn.map Station.spot := by
    ext k hk : 1
    by_cases hkn : n.val = k
    · subst hkn
      simpa [Vector.getElem_set, Tail.stnGet] using h
    · simp [hkn]
  exact congrArg (fun v => (t.u, t.link, t.otp, t.aon, t.now, t.ft, v)) hmap

@[simp] theorem Tail.sqMap_spot (g : Sq → Sq) : (t.sqMap n g).spot = t.spot := Tail.stnMap_spot rfl
@[simp] theorem Tail.fbMap_spot (g : Fb → Fb) : (t.fbMap n g).spot = t.spot := Tail.stnMap_spot rfl
@[simp] theorem Tail.loopsMap_spot (g : Loops → Loops) : (t.loopsMap n g).spot = t.spot := Tail.stnMap_spot rfl
@[simp] theorem Tail.banksMap_spot (g : Banks → Banks) : (t.banksMap n g).spot = t.spot := Tail.stnMap_spot rfl
@[simp] theorem Tail.setpMap_spot (g : SetPt → SetPt) : (t.setpMap n g).spot = t.spot := Tail.stnMap_spot rfl
@[simp] theorem Tail.shareMap_spot (g : Share → Share) : (t.shareMap n g).spot = t.spot := Tail.stnMap_spot rfl
@[simp] theorem Tail.protMap_spot (g : Prot → Prot) : (t.protMap n g).spot = t.spot := Tail.stnMap_spot rfl

@[simp] theorem Tail.moduMap_spot {g : Modu → Modu} (h : ∀ m, (g m).sampleAt = m.sampleAt) : (t.moduMap n g).spot = t.spot :=
  Tail.stnMap_spot (congrArg (fun x => (x, (t.stnGet n).isns.last)) (h _))

@[simp] theorem Tail.isnsMap_spot {g : Isns → Isns} (h : ∀ i, (g i).last = i.last) : (t.isnsMap n g).spot = t.spot :=
  Tail.stnMap_spot (congrArg (fun x => ((t.stnGet n).modu.sampleAt, x)) (h _))

/-! ## What protection and stops, the log and records keep -/

theorem Tail.bare_spot (t : Tail) (n : Stn) : (t.bare n).spot = t.spot := Tail.stnMap_spot (g := Station.bare) rfl

theorem Tail.Only.spot_eq (h : t.Only n r) : r.spot = t.spot := h.part Tail.spot fun x => x.bare_spot n

theorem Tail.Logs.spot_eq (h : t.Logs r) : r.spot = t.spot := show r.unlogged.spot = t.unlogged.spot by rw [h.1]

@[simp] theorem Tail.assertSource_spot (src : Nat) : (t.assertSource n src).spot = t.spot := (Tail.only_assertSource src .refl).spot_eq
@[simp] theorem Tail.dropSource_spot (src : Nat) : (t.dropSource n src).spot = t.spot := (Tail.only_dropSource src .refl).spot_eq
@[simp] theorem Tail.setSource_spot (src : Nat) (on : Bool) : (t.setSource n src on).spot = t.spot := (Tail.only_setSource src on .refl).spot_eq
@[simp] theorem Tail.swapHost_spot : (t.swapHost n).spot = t.spot := (Tail.only_swapHost .refl).spot_eq
@[simp] theorem Tail.swapTo_spot (c s : Option Bool) (src bit : Nat) : (t.swapTo n c s src bit).spot = t.spot :=
  (Tail.only_swapTo c s src bit .refl).spot_eq
@[simp] theorem Tail.closeBrake_spot : (t.closeBrake n).spot = t.spot := (Tail.only_closeBrake .refl).spot_eq
@[simp] theorem Tail.gateStep_spot : (t.gateStep n).spot = t.spot := (Tail.only_gateStep .refl).spot_eq

@[simp] theorem Tail.readRec_spot (k : Nat) (x : RecIx) : (t.readRec k x).2.spot = t.spot :=
  Tail.Logs.spot_eq ((Tail.recordKeeps_logs t).readRec k x (.rfl t))

theorem Tail.record_spot (w : Producer) {k : Nat} (hk : k < 256) (kind : Nat) (v : Bool) (d : List Byte) :
    (t.record w k kind v d).spot = t.spot := Tail.Logs.spot_eq ((Tail.recordKeeps_logs t).record w hk kind v d (.rfl t))

/-- A stream of a station. -/
theorem stnStream_lt (n : Stn) {k : Nat} (hk : k < 16) : 64 + 16 * n.val + k < 256 := by omega

theorem Tail.commit_spot {f : Tail → Tail} (h : ∀ r : Tail, (f r).spot = r.spot) : (t.commit f).spot = t.spot := h { t with ssn := t.ssn + 1 }

theorem Tail.commitAny_spot {f : Tail → Tail} (ks : List Nat) (h : ∀ r : Tail, (f r).spot = r.spot) : (t.commitAny ks f).spot = t.spot := by
  unfold Tail.commitAny
  extract_lets q
  have hq : q.spot = t.spot := h { t with ssn := t.ssn + 1 }
  split
  · exact hq
  · exact hq

theorem Tail.commitOn_spot {f : Tail → Tail} (k : Nat) (h : ∀ r : Tail, (f r).spot = r.spot) : (t.commitOn k f).spot = t.spot :=
  Tail.commitAny_spot [k] h

/-! ## The loops (13) -/

@[simp] theorem Tail.derate_spot (x : Int) : (t.derate n x).2.spot = t.spot := by
  unfold Tail.derate
  split
  · rfl
  · dsimp only
    split
    · rfl
    · simp

theorem Tail.torqueChain_spot (x : Int) : (t.torqueChain n x).2.2.2.spot = t.spot := by
  unfold Tail.torqueChain
  simp

@[simp] theorem Tail.curlFlags_spot (a b c : Bool) : (t.curlFlags n a b c).spot = t.spot := by
  unfold Tail.curlFlags
  simp

@[simp] theorem Tail.currentLoop_spot (x : Int) : (t.currentLoop n x).spot = t.spot := by
  unfold Tail.currentLoop
  simp [Tail.torqueChain_spot]

@[simp] theorem Tail.loopFeedback_spot : (t.loopFeedback n).spot = t.spot := Tail.loopsMap_spot _

@[simp] theorem Tail.speedLoop_spot (r : Bfp) (x : Int) : (t.speedLoop n r x).spot = t.spot := by
  unfold Tail.speedLoop
  simp

@[simp] theorem Tail.speedPreset_spot (x : Int) (r : Bfp) : (t.speedPreset n x r).spot = t.spot := Tail.loopsMap_spot _

@[simp] theorem Tail.outerLoop_spot (x : Int) (b : Bool) : (t.outerLoop n x b).spot = t.spot := by
  unfold Tail.outerLoop
  simp

@[simp] theorem Tail.outerPreset_spot (x : Bfp) : (t.outerPreset n x).spot = t.spot := Tail.loopsMap_spot _

/-! ## Banks, detectors and traces (14) -/

@[simp] theorem Tail.hwApply_spot (x : HwSwap) (a b : Bool) : (t.hwApply n x a b).spot = t.spot := by
  unfold Tail.hwApply
  simp

@[simp] theorem Tail.swapsAt_spot : (t.swapsAt n).spot = t.spot := by
  unfold Tail.swapsAt
  simp [Tail.foldl_spot]

@[simp] theorem Tail.fire_spot (k : Fin 4) : (t.fire n k).spot = t.spot := by
  unfold Tail.fire
  simp

@[simp] theorem Tail.detect_spot : (t.detect n).spot = t.spot := by
  unfold Tail.detect
  simp [Tail.foldl_spot]

@[simp] theorem Tail.trc_spot (x : Trc) : Tail.spot { t with trc := x } = t.spot := rfl

@[simp] theorem Tail.trigger_spot (c s k v : Nat) (w : Word) : (t.trigger c s k v w).spot = t.spot := by
  unfold Tail.trigger
  rw [Tail.evt_spot]
  refine (Tail.trc_spot _).trans ?_
  simp

@[simp] theorem Tail.trcNode_spot (l : List Nat) : (t.trcNode n l).spot = t.spot := by
  unfold Tail.trcNode
  simp

@[simp] theorem Tail.traceRecord_spot (l : List Nat) (v : Bool) {k : Nat} (hk : k < 8) : (t.traceRecord n l v k).spot = t.spot := by
  have hs : 64 + 16 * n.val + 5 + k < 256 := by omega
  unfold Tail.traceRecord
  simp [Tail.record_spot _ hs]

theorem Tail.traceSample_spot (v : Bool) : (t.traceSample n v).spot = t.spot := by
  unfold Tail.traceSample
  extract_lets nodes q r
  have hr : r.spot = t.spot := by
    unfold r
    rw [Tail.record_spot _ (stnStream_lt n (by decide))]
    simp [q]
  refine List.foldlRecOn (motive := fun x : Tail => x.spot = t.spot) _ _ hr fun x hx k hk => ?_
  exact (Tail.traceRecord_spot nodes v (List.mem_range.mp hk)).trans hx

/-! ## Set-point sources (15, 22 section 3) -/

@[simp] theorem Tail.atTarget_spot (x : Bool) : (t.atTarget n x).spot = t.spot := by
  unfold Tail.atTarget
  simp

@[simp] theorem Tail.genTo_spot (g : GenLim) (c : Int) : (t.genTo n g c).spot = t.spot := by
  unfold Tail.genTo
  simp

theorem Tail.setpScan_spot : (t.setpScan n).2.spot = t.spot := by
  unfold Tail.setpScan
  extract_lets k st all data seq new bad q r
  have hr : r.spot = t.spot := by simp [r, q]
  split
  · exact hr
  · split
    · exact hr
    · dsimp only
      split
      · exact (Tail.setpMap_spot _).trans ((Tail.readRec_spot _ _).trans hr)
      · exact (Tail.readRec_spot _ _).trans hr

@[simp] theorem Tail.enterDrive_spot (d : Drive) (k : Kind) : (t.enterDrive n d k).spot = t.spot := by
  unfold Tail.enterDrive
  simp

@[simp] theorem Tail.pulseTake_spot : (t.pulseTake n).2.spot = t.spot := Tail.setpMap_spot _

@[simp] theorem Tail.folStatus_spot (a b : Bool) : (t.folStatus n a b).spot = t.spot := by
  unfold Tail.folStatus
  simp

@[simp] theorem Tail.folRef_spot (x : Int) (b : Bool) : (t.folRef n x b).spot = t.spot := by
  unfold Tail.folRef
  simp

/-- One boundary of a ramp of the output toward `x`, under EDEC and EJMAX where `emg`: `rampOut` for every goal. -/
def Tail.rampToward (t : Tail) (n : Stn) (emg : Bool) (vmax : Nat) (x : Int) : Tail :=
  let s := (t.stnGet n).setp
  let (v, a) := genVel (t.genLim n emg vmax) s.v s.a x
  t.setpMap n (fun s => { s with v := v, a := a, out := v })

theorem Tail.rampOut_eq (t : Tail) (n : Stn) : t.rampOut n = t.rampToward n true 0x7FFF 0 := rfl

theorem Tail.rampToward_spot (emg : Bool) (vmax : Nat) (x : Int) : (t.rampToward n emg vmax x).spot = t.spot := by
  unfold Tail.rampToward
  extract_lets s
  generalize genVel (t.genLim n emg vmax) s.v s.a x = c
  cases c
  exact Tail.setpMap_spot _

@[simp] theorem Tail.rampOut_spot : (t.rampOut n).spot = t.spot := Tail.rampToward_spot true 0x7FFF 0

@[simp] theorem Tail.analogStep_spot (b : Bool) : (t.analogStep n b).spot = t.spot := by
  unfold Tail.analogStep
  simp

@[simp] theorem Tail.pulseFollow_spot : (t.pulseFollow n).spot = t.spot := by
  unfold Tail.pulseFollow
  simp

@[simp] theorem Tail.emg_spot (x : Emg) : Tail.spot { t with emg := x } = t.spot := rfl

theorem Tail.leverCheck_spot : t.leverCheck.2.spot = t.spot := by
  unfold Tail.leverCheck
  extract_lets a b q r
  clear_value a b
  have hq : q.spot = t.spot := by cases a <;> rfl
  have hr : r.spot = t.spot := by cases b <;> exact hq
  split
  · split
    · dsimp only
      split
      · exact hr
      · exact hr
    · exact hr
  · exact hr

@[simp] theorem Tail.leverStep_spot : (t.leverStep n).spot = t.spot := by
  have h := t.leverCheck_spot
  unfold Tail.leverStep
  generalize t.leverCheck = c at h ⊢
  obtain ⟨ch, q⟩ := c
  dsimp only at h ⊢
  rw [Tail.setpMap_spot, Tail.pi_spot, Tail.ite_spot, Tail.rampOut_spot, h]
  cases ch with
  | none => simp [h]
  | some x => simp [h]

@[simp] theorem Tail.renderEnd_spot : (t.renderEnd n).spot = t.spot := by
  unfold Tail.renderEnd
  simp

@[simp] theorem Tail.renderState_spot : (t.renderState n).spot = t.spot := by
  unfold Tail.renderState
  dsimp only
  split
  · split
    · rfl
    · exact Tail.renderEnd_spot
  · split
    · rfl
    · split <;> simp

@[simp] theorem Tail.hostStep_spot (x : Option Word) : (t.hostStep n x).spot = t.spot := by
  unfold Tail.hostStep
  extract_lets s go
  split
  · exact Tail.setpMap_spot _
  · exact Tail.setpMap_spot _

@[simp] theorem Tail.profileStep_spot : (t.profileStep n).spot = t.spot := by
  unfold Tail.profileStep
  simp

@[simp] theorem Tail.haulStep_spot : (t.haulStep n).spot = t.spot := by
  unfold Tail.haulStep
  simp

@[simp] theorem Tail.sourceStep_spot : (t.sourceStep n).spot = t.spot := by
  unfold Tail.sourceStep
  generalize t.driveSel n = c
  cases c with
  | mk d inv =>
    dsimp -zeta only
    extract_lets k s q1 q2 entered q3 q4 q5 rspd q6
    have h4 : q4.spot = t.spot := by
      unfold q4
      split <;> simp [q3, q2, q1]
    clear_value q4
    have h5 : q5.spot = t.spot := by
      have hscan : (q4.setpScan n).2.spot = t.spot := Tail.setpScan_spot.trans h4
      unfold q5
      split <;> (try rw [Tail.p_spot]) <;> split <;> assumption
    have h6 : q6.spot = t.spot := (Tail.genTo_spot ..).trans h5
    clear_value q5 q6
    split <;> simp [h5, h6]

@[simp] theorem Tail.warmUpdate_spot : (t.warmUpdate n).spot = t.spot := by
  unfold Tail.warmUpdate
  simp

@[simp] theorem Tail.takeSource_spot : (t.takeSource n).spot = t.spot := rfl

@[simp] theorem Tail.source_spot : (t.source n).spot = t.spot := by
  unfold Tail.source
  simp

@[simp] theorem Tail.enterRef_spot : (t.enterRef n).spot = t.spot := by
  unfold Tail.enterRef
  simp

@[simp] theorem Tail.loopsTakeover_spot (x : Int) : (t.loopsTakeover n x).spot = t.spot := by
  unfold Tail.loopsTakeover
  simp

/-! ## Modulation (17) -/

@[simp] theorem Tail.modulate_spot : (t.modulate n).spot = t.spot := by
  unfold Tail.modulate
  simp

@[simp] theorem Tail.wantStep_spot : (t.wantStep n).spot = t.spot := by
  unfold Tail.wantStep
  simp

@[simp] theorem Tail.chopper_spot : (t.chopper n).spot = t.spot := by
  unfold Tail.chopper
  extract_lets u von mode ended q setBit12 voff q1 vf h c q2
  have hq : q.spot = t.spot := by simp [q]
  have hset (m : Modu) (b : Bool) : (setBit12 m b).sampleAt = m.sampleAt := rfl
  have h1 : q1.spot = t.spot := (Tail.moduMap_spot fun m => by simp [apply_ite Modu.sampleAt, hset]).trans hq
  have h2 : q2.spot = t.spot := (Tail.moduMap_spot fun m => by simp [apply_ite Modu.sampleAt, hset]).trans hq
  clear_value mode q1 q2
  split
  · exact Tail.wantStep_spot.trans h1
  · exact Tail.wantStep_spot.trans h2
  · exact Tail.wantStep_spot.trans ((Tail.moduMap_spot fun m => hset m false).trans hq)

@[simp] theorem Tail.dlMiss_spot : (t.dlMiss n).spot = t.spot := by
  unfold Tail.dlMiss
  simp

/-! ## Sharing and the ring (16) -/

@[simp] theorem Tail.setRole_spot (r : Role) : (t.setRole n r).spot = t.spot := (Tail.p_spot ..).trans (Tail.shareMap_spot _)
@[simp] theorem Tail.shr_spot (x : Vector ShrGrp 4) : Tail.spot { t with shr := x } = t.spot := rfl
@[simp] theorem Tail.orb_spot (x : Orb) : Tail.spot { t with orb := x } = t.spot := rfl

@[simp] theorem Tail.portBegin_spot (p : Fin 2) (s : Nat) (b : List Byte) : (t.portBegin p s b).spot = t.spot := rfl

@[simp] theorem Tail.portTake_spot (p : Fin 2) (s : Nat) : (t.portTake p s).spot = t.spot := by
  unfold Tail.portTake
  split
  · split
    · rfl
    · rfl
  · split <;> rfl
  · rfl

@[simp] theorem Tail.orbGaps_spot : t.orbGaps.spot = t.spot :=
  Tail.foldl_spot _ (fun t _ => Tail.foldl_spot _ (fun t p => by simp) _) _

@[simp] theorem Tail.orbStart_spot : t.orbStart.spot = t.spot := Tail.foldl_spot _ (fun t p => by simp) _

end

end Sys2Proof.Machine
end

section
/-! What sharing and the sample of a running station leave of the field side (13, 15, 16). -/

namespace Sys2Proof.Machine

section
variable {t r : Tail} {n : Stn}

/-! ## Sharing (16) -/

@[simp] theorem Tail.ringSend_spot (g : Fin 4) (b : List Byte) : (t.ringSend g b).spot = t.spot := by
  unfold Tail.ringSend
  split
  · rfl
  · have hq : t.orbGaps.spot = t.spot := Tail.orbGaps_spot
    generalize t.orbGaps = q at hq ⊢
    dsimp only
    split
    · exact (Tail.evt_spot ..).trans ((Tail.inc_spot _).trans ((Tail.orb_spot _).trans hq))
    · exact Tail.orbStart_spot.trans ((Tail.orb_spot _).trans hq)

@[simp] theorem Tail.txRead_spot (g : Fin 4) : (t.txRead g).2.spot = t.spot := Tail.Logs.spot_eq (t.txRead_logs g)

@[simp] theorem Tail.accept_spot (g : Fin 4) (x : OrbInfo) : (t.accept g x n).spot = t.spot := by
  unfold Tail.accept
  extract_lets s known mode
  split
  · rfl
  · exact (Tail.dropSource_spot _).trans ((Tail.p_spot ..).trans ((Tail.shareMap_spot _).trans (Tail.incBy_spot ..)))

@[simp] theorem Tail.arrive_spot (g : Fin 4) (x : OrbInfo) : (t.arrive g x).spot = t.spot := by
  unfold Tail.arrive
  extract_lets valid _ q
  have hq : q.spot = t.spot := by
    unfold q
    split
    · exact Tail.shr_spot _
    · rfl
  refine (Tail.foldl_spot _ (fun t m => ?_) _).trans hq
  split
  · rfl
  · exact Tail.accept_spot g x

@[simp] theorem Tail.applyOne_spot (g : Fin 4) (x : OrbInfo) : (t.applyOne n g x).spot = t.spot := by
  unfold Tail.applyOne
  simp

@[simp] theorem Tail.applyFrame_spot : (t.applyFrame n).spot = t.spot := by
  unfold Tail.applyFrame
  split
  · exact (Tail.foldl_spot _ (fun t e => Tail.applyOne_spot ..) _).trans (Tail.shareMap_spot _)
  · rfl

theorem Tail.sendFrame_spot (g : Fin 4) (x : OrbInfo) : (t.sendFrame g n x).spot = t.spot := by
  unfold Tail.sendFrame
  extract_lets b q1 q2 _ q3 q4
  have h1 : q1.spot = t.spot := Tail.record_spot _ (stnStream_lt n (by decide)) ..
  have h2 : q2.spot = t.spot := by
    unfold q2
    split
    · exact (Tail.record_spot _ (by decide) ..).trans h1
    · exact h1
  have h3 : q3.spot = t.spot := (Tail.shr_spot _).trans h2
  have h4 : q4.spot = t.spot := (Tail.p_spot ..).trans ((Tail.p_spot ..).trans ((Tail.p_spot ..).trans h3))
  clear_value q4
  have h5 : (q4.txRead g).2.spot = t.spot := (Tail.txRead_spot g).trans h4
  generalize q4.txRead g = c at h5 ⊢
  cases c with
  | mk y q =>
    dsimp only at h5 ⊢
    split
    · exact (Tail.ringSend_spot ..).trans ((Tail.arrive_spot ..).trans h5)
    · exact (Tail.arrive_spot ..).trans h5

@[simp] theorem Tail.pacerFrame_spot : (t.pacerFrame n).spot = t.spot := by
  unfold Tail.pacerFrame
  split
  · split
    · rfl
    · exact Tail.sendFrame_spot ..
  · rfl

@[simp] theorem Tail.leaveRole_spot : (t.leaveRole n).spot = t.spot := by
  unfold Tail.leaveRole
  split
  · rfl
  · refine (Tail.setRole_spot _).trans ?_
    split
    · split
      · rw [Tail.evt_spot, Tail.shr_spot]
        exact Tail.commitAny_spot _ fun r => Tail.sendFrame_spot ..
      · rfl
    · rfl

@[simp] theorem Tail.succeed_spot (g : Fin 4) : (t.succeed g n).spot = t.spot := by
  have hgroup (q : Tail) (f : Nat) : (q.groupGoesOn g f).spot = q.spot := rfl
  rw [Tail.succeed_eq, Tail.evt_spot, Tail.inc_spot, hgroup, Tail.pacerBegins]
  simp

@[simp] theorem Tail.plostTake_spot : (t.plostTake n).spot = t.spot := by
  unfold Tail.plostTake
  split <;> simp

@[simp] theorem Tail.succJoin_spot : (t.succJoin n).spot = t.spot := by
  unfold Tail.succJoin
  simp

@[simp] theorem Tail.shareTa_spot : (t.shareTa n).spot = t.spot := Tail.shareMap_spot _
@[simp] theorem Tail.pacerShare_spot : (t.pacerShare n).spot = t.spot := Tail.shareMap_spot _

/-! ## The sample of a running station (13, 14 R548) -/

@[simp] theorem Tail.runOuter_spot : (t.runOuter n).spot = t.spot := by
  unfold Tail.runOuter
  split
  · exact Tail.commit_spot fun r => Tail.outerLoop_spot ..
  · rfl

@[simp] theorem Tail.runSpeed_spot : (t.runSpeed n).spot = t.spot := by
  unfold Tail.runSpeed
  split
  · rfl
  · refine Tail.commit_spot fun r => ?_
    simp

@[simp] theorem Tail.references_spot : (t.references n).2.spot = t.spot := by
  unfold Tail.references
  split
  · exact Tail.loopsMap_spot _
  · extract_lets q q2 x
    have hq : q.spot = t.spot := by simp [q]
    have hq2 : q2.spot = t.spot := by simp [q2, hq]
    split
    · exact hq
    · dsimp only
      split
      · exact hq2
      · exact (Tail.loopsMap_spot _).trans hq2

@[simp] theorem Tail.proveSample_spot : (t.proveSample n).spot = t.spot := by
  unfold Tail.proveSample
  dsimp only
  split
  · split
    · exact Tail.sqMap_spot _
    · rfl
  · rfl

@[simp] theorem Tail.vsatWatch_spot : (t.vsatWatch n).spot = t.spot := Tail.sqMap_spot _

@[simp] theorem Tail.runCurrent_spot (x : Int) (v : Bool) : (t.runCurrent n x v).spot = t.spot := by
  refine Tail.commit_spot fun r => ?_
  rw [Tail.traceSample_spot]
  simp

@[simp] theorem Tail.runSample_spot (v : Bool) : (t.runSample n v).spot = t.spot := by
  unfold Tail.runSample
  simp

end

end Sys2Proof.Machine
end

section
/-! What feedback and sensing leave of the field side at a sample instant (11, 12, 18 R653). -/

namespace Sys2Proof.Machine

section
variable {t r : Tail} {n : Stn}

/-! ## Feedback (11) -/

@[simp] theorem Tail.pEff_spot (f : Fd) (x : Nat) : (t.pEff f x).spot = t.spot := by
  unfold Tail.pEff
  dsimp only
  split
  · rfl
  · split <;> rfl

@[simp] theorem Tail.fbStatus_spot : (t.fbStatus n).spot = t.spot := by
  unfold Tail.fbStatus
  simp [Tail.pb]

@[simp] theorem Tail.cmpOut_spot (b : Bool) : (t.cmpOut n b).spot = t.spot := Tail.pb_spot ..

@[simp] theorem Tail.compareCheck_spot (p : Nat) : (t.compareCheck n p).spot = t.spot := by
  unfold Tail.compareCheck
  simp

@[simp] theorem Tail.preset_spot : (t.preset n).spot = t.spot := by
  unfold Tail.preset
  simp

@[simp] theorem Tail.fbpPresetCmd_spot : (t.fbpPresetCmd n).spot = t.spot := by
  unfold Tail.fbpPresetCmd
  simp

@[simp] theorem Tail.fbCommands_spot : (t.fbCommands n).spot = t.spot := by
  unfold Tail.fbCommands Tail.fbaPresetCmd Tail.latchArm Tail.gtClr
  simp

@[simp] theorem Tail.lcmpOff_spot : (t.lcmpOff n).spot = t.spot := (Tail.p_spot ..).trans (Tail.fbMap_spot _)

@[simp] theorem Tail.takeLate_spot : (t.takeLate n).spot = t.spot := by
  unfold Tail.takeLate
  extract_lets old wait q1 q2 q3 q4 q5 q6
  have h2 : q2.spot = t.spot := by
    unfold q2
    split
    · exact Tail.fbMap_spot _
    · rfl
  have h3 : q3.spot = t.spot := by
    unfold q3
    split
    · exact (Tail.p_spot ..).trans h2
    · exact h2
  have h4 : q4.spot = t.spot := by
    unfold q4
    split
    · exact h3
    · exact Tail.lcmpOff_spot.trans h3
  have h5 : q5.spot = t.spot := (Tail.cmpOut_spot _).trans h4
  have h6 : q6.spot = t.spot := by
    unfold q6
    split
    · exact (Tail.p_spot ..).trans h5
    · exact h5
  exact Tail.fbStatus_spot.trans (Tail.fbCommands_spot.trans h6)

@[simp] theorem Tail.cmpOspd_spot : (t.cmpOspd n).spot = t.spot := Tail.setSource_spot ..

@[simp] theorem Tail.fbEstimate_spot : (t.fbEstimate n).spot = t.spot := by
  unfold Tail.fbEstimate
  extract_lets mx q1 q2 nb tmo q3 q4
  have h2 : q2.spot = t.spot := Tail.fbStatus_spot.trans (Tail.fbMap_spot _)
  have h3 : q3.spot = t.spot := by
    unfold q3
    split
    · exact h2
    · generalize estimate _ _ _ _ _ _ = c
      obtain ⟨v, low, e⟩ := c
      exact (Tail.fbMap_spot _).trans ((Tail.pb_spot ..).trans ((Tail.pDs_spot ..).trans h2))
  have h4 : q4.spot = t.spot := by
    unfold q4
    split
    · exact h3
    · generalize estimate _ _ _ _ _ _ = c
      obtain ⟨v, low, e⟩ := c
      exact (Tail.fbMap_spot _).trans ((Tail.pDs_spot ..).trans h3)
  split
  · exact h4
  · exact Tail.cmpOspd_spot.trans h4

@[simp] theorem Tail.fbSampleRecord_spot : (t.fbSampleRecord n).spot = t.spot := by
  unfold Tail.fbSampleRecord
  split
  · rfl
  · exact (Tail.fbMap_spot _).trans (Tail.commitOn_spot _ fun r => Tail.record_spot _ (stnStream_lt n (by decide)) ..)

/-! ## Sensing (12) -/

@[simp] theorem Tail.sdStuck_spot (k : Fin 4) : (t.sdStuck n k).spot = t.spot := by
  unfold Tail.sdStuck
  simp

@[simp] theorem Tail.stuckWatch_spot (raw : SampleIn) : (t.stuckWatch n raw).spot = t.spot :=
  Tail.foldl_spot _ (fun t k => by simp) _

@[simp] theorem Tail.protSense_spot (raw : SampleIn) : (t.protSense n raw).spot = t.spot := by
  unfold Tail.protSense Tail.cmpOc Tail.cmpOv Tail.cmpUv Tail.cmpGf
  simp

@[simp] theorem Tail.calFailed_spot : (t.calFailed n).spot = t.spot := by
  unfold Tail.calFailed
  simp

@[simp] theorem Tail.calSample_spot (d : Vector Int 4) (ok : Bool) : (t.calSample n d ok).spot = t.spot := by
  unfold Tail.calSample
  simp

@[simp] theorem Tail.sampleInRecord_spot (x : Sensed) : (t.sampleInRecord n x).spot = t.spot :=
  Tail.commitOn_spot _ fun r => Tail.record_spot _ (stnStream_lt n (k := 0) (by decide)) ..

@[simp] theorem Tail.currentRecord_spot (x : Sensed) (b : Bool) : (t.currentRecord n x b).spot = t.spot :=
  Tail.commitOn_spot _ fun r => Tail.record_spot _ (stnStream_lt n (by decide)) ..

@[simp] theorem Tail.invalidRun_spot (b : Bool) : (t.invalidRun n b).spot = t.spot := by
  unfold Tail.invalidRun
  simp

@[simp] theorem Tail.isnsTakeOver_spot : (t.isnsTakeOver n).spot = t.spot := by
  unfold Tail.isnsTakeOver
  simp

@[simp] theorem Tail.dropPast_spot : (t.dropPast n).spot = t.spot := by
  unfold Tail.dropPast
  dsimp only
  split <;> simp

theorem Tail.diag_spot (x : Diag) : Tail.spot { t with diag := x } = t.spot := rfl

@[simp] theorem Tail.speedWatch_spot : (t.speedWatch n).spot = t.spot := by
  unfold Tail.speedWatch
  extract_lets band slow q1 _ q2
  have h1 : q1.spot = t.spot := by simp [q1]
  have h2 : q2.spot = t.spot := by
    unfold q2
    split
    · exact (Tail.diag_spot _).trans h1
    · exact h1
  split
  · exact (Tail.sqMap_spot _).trans h2
  · split
    · exact h2
    · exact Tail.closeBrake_spot.trans ((Tail.evt_spot ..).trans h2)
  · exact h2

end

end Sys2Proof.Machine
end

section
/-! What a sample reads of sensing (12 R461 to R463), and that nothing before it at a sample instant changes that: not a late output, the
feedback words that take effect, the watch of the other data inputs or the comparators (11 R453, 12 R472, 18 R653). -/

namespace Sys2Proof.Machine

/-! ## Sparse maps -/

theorem smGet_smIns_ne {α : Type} (d : Nat → α) (m : SMap α) {k j : Nat} (v : α) (h : j ≠ k) : smGet d (smIns m k v) j = smGet d m j := by
  have hk : ¬ k = j := fun e => h e.symm
  induction m with
  | nil => simp [smIns, smGet, hk]
  | cons e m ih =>
    obtain ⟨a, w⟩ := e
    simp only [smIns]
    split
    · simp [smGet, hk]
    · split
      · next ha => simp [smGet, ha, hk]
      · simp [smGet, ih]

/-- A key whose entries a selection keeps reads as before, where the selection changes no key. -/
theorem smGet_filterMap {α : Type} (d : Nat → α) {F : Nat × α → Option (Nat × α)} {k : Nat} (hkey : ∀ e e', F e = some e' → e'.1 = e.1)
    (hk : ∀ e, e.1 = k → F e = some e) (m : SMap α) : smGet d (m.filterMap F) k = smGet d m k := by
  induction m with
  | nil => rfl
  | cons e m ih =>
    by_cases h : e.1 = k
    · rw [List.filterMap_cons_some (hk e h)]
      simp [smGet, h]
    · cases hF : F e with
      | none =>
        rw [List.filterMap_cons_none hF, ih]
        simp [smGet, h]
      | some e' =>
        have h' : ¬ e'.1 = k := fun e1 => h ((hkey e e' hF).symm.trans e1)
        rw [List.filterMap_cons_some hF]
        simp [smGet, h, h', ih]

/-! ## What a sample reads -/

/-- The configuration that decides about the sample of channel `k`: the enable bit of sensing, its offset and its gain, and the class of
sample invalidity. -/
def senseRegs (n : Stn) (k : Fin 4) : List Nat :=
  [(PG_CTRL.ENABLE (stnPage n 4)).addr, (ISNS_OFS.OFS n k.val).addr, (ISNS_GAIN.GAIN n k.val).addr, (PROT_CLASS.SINV n).addr]

/-- A register that the sample of channel `k` does not read. -/
abbrev senseFree (n : Stn) (k : Fin 4) (a : Nat) : Prop := a ∉ senseRegs n k ∧ a ≠ (ISNS_STAT.STUCK n).addr

/-- `r` samples channel `k` of station `n` as `t` does; its input is not marked as stuck if it was not. -/
structure Tail.KeepsSense (n : Stn) (k : Fin 4) (t r : Tail) : Prop where
  cfg : (r.stnGet n).isns.cfg = (t.stnGet n).isns.cfg
  valid : (r.stnGet n).isns.validAt[k] = (t.stnGet n).isns.validAt[k]
  reg : ∀ a ∈ senseRegs n k, r.inEff a = t.inEff a
  stuck : (t.g (ISNS_STAT.STUCK n)).testBit k.val = false → (r.g (ISNS_STAT.STUCK n)).testBit k.val = false

section
variable {n : Stn} {k : Fin 4} {o t r : Tail}

theorem Tail.KeepsSense.refl : t.KeepsSense n k t := ⟨rfl, rfl, fun _ _ => rfl, id⟩

theorem Tail.KeepsSense.trans (h : o.KeepsSense n k t) (h' : t.KeepsSense n k r) : o.KeepsSense n k r :=
  ⟨h'.cfg.trans h.cfg, h'.valid.trans h.valid, fun a ha => (h'.reg a ha).trans (h.reg a ha), fun hs => h'.stuck (h.stuck hs)⟩

theorem Tail.KeepsSense.ite (c : Prop) [Decidable c] (h : c → o.KeepsSense n k t) (h' : ¬ c → o.KeepsSense n k r) :
    o.KeepsSense n k (if c then t else r) := by
  split
  · exact h (by assumption)
  · exact h' (by assumption)

theorem Tail.KeepsSense.p {f : Fd} (x : Nat) (hf : senseFree n k f.addr) (h : o.KeepsSense n k t) : o.KeepsSense n k (t.p f x) := by
  obtain ⟨hread, hstuck⟩ := hf
  exact h.trans ⟨rfl, rfl, fun a ha => t.p_inEff_ne x fun e => hread (e ▸ ha), fun hs => by rwa [t.g_p_ne x hstuck.symm]⟩

theorem Tail.KeepsSense.pDs {f : Fd} (x : Nat) (hf : senseFree n k f.addr) (h : o.KeepsSense n k t) : o.KeepsSense n k (t.pDs f x) :=
  .p x hf (h.trans ⟨rfl, rfl, fun _ _ => rfl, id⟩)

/-- A latch is no register that a sample reads. -/
theorem senseRegs_notLatch (n : Stn) (k : Fin 4) : (∀ a ∈ senseRegs n k, a % 256 ≠ 0x0C) ∧ (ISNS_STAT.STUCK n).addr % 256 ≠ 0x0C := by
  revert n k
  decide

theorem Tail.KeepsSense.evt (p i : Nat) (h : o.KeepsSense n k t) : o.KeepsSense n k (t.evt p i) := by
  obtain ⟨hread, hstuck⟩ := senseRegs_notLatch n k
  refine h.trans ⟨?_, ?_, fun a ha => t.evt_inEff_ne p i (hread a ha), fun hs => ?_⟩
  · rw [Tail.evt_stnGet]
  · rw [Tail.evt_stnGet]
  · rwa [t.g_evt_ne p i fun e => hstuck (by rw [e]; exact evt_addr_mod p)]

theorem Tail.KeepsSense.pEff {f : Fd} (x : Nat) (hf : senseFree n k f.addr) (h : o.KeepsSense n k t) : o.KeepsSense n k (t.pEff f x) := by
  have hne {a : Nat} (ha : a ∈ senseRegs n k) : a ≠ f.addr := fun e => hf.1 (e ▸ ha)
  unfold Tail.pEff
  extract_lets w
  refine .ite _ (fun _ => ?_) fun _ => .ite _ (fun _ => ?_) fun _ => ?_
  · exact h.trans ⟨rfl, rfl, fun a ha => smGet_smIns_ne _ _ w (hne ha), id⟩
  · exact h.trans ⟨rfl, rfl, fun a ha => smGet_congr _ _ _ _ (smGet_smIns_ne _ _ w (hne ha)), id⟩
  · exact h.trans ⟨rfl, rfl, fun a ha => Tail.inEff_of_word (t.setWord_word_ne _ _ w (hne ha)) rfl rfl,
      fun hs => by rwa [Tail.g, t.setWord_word_ne _ _ w hf.2.symm]⟩

theorem Tail.KeepsSense.stnMap {g : Station → Station} (hg : (g (t.stnGet n)).isns = (t.stnGet n).isns) (h : o.KeepsSense n k t) :
    o.KeepsSense n k (t.stnMap n g) := by
  refine h.trans ⟨?_, ?_, fun _ _ => rfl, id⟩
  · rw [Tail.stnMap_get, hg]
  · rw [Tail.stnMap_get, hg]

theorem Tail.KeepsSense.isnsMap {g : Isns → Isns} (hg : ∀ i, (g i).cfg = i.cfg ∧ (g i).validAt[k] = i.validAt[k])
    (h : o.KeepsSense n k t) : o.KeepsSense n k (t.isnsMap n g) := by
  obtain ⟨hcfg, hvalid⟩ := hg (t.stnGet n).isns
  refine h.trans ⟨?_, ?_, fun _ _ => rfl, id⟩
  · rw [Tail.isnsMap_isns, hcfg]
  · rw [Tail.isnsMap_isns, hvalid]

theorem senseRegs_notProt (n : Stn) (k : Fin 4) : ∀ a ∈ senseRegs n k, protReg n a = false := by
  revert n k
  decide

theorem Tail.KeepsSense.only (ho : t.Only n r) (h : o.KeepsSense n k t) : o.KeepsSense n k r := by
  refine h.trans ⟨?_, ?_, fun a ha => ho.inEff_eq (senseRegs_notProt n k a ha), fun hs => by rwa [ho.stuck]⟩
  · exact (congrArg Isns.cfg ho.isns_bare :)
  · exact (congrArg (fun i : Isns => i.validAt[k]) ho.isns_bare :)

/-! ## A late output and the words that take effect (14 R525, 11 R453) -/

/-- The registers of feedback and of late outputs that a sample instant writes before its sample. -/
theorem senseFree_feedback (n : Stn) (k : Fin 4) : senseFree n k (FBP_STAT.FB_LOSS n).addr ∧ senseFree n k (FBA_STAT.LOSS n).addr
    ∧ senseFree n k (LCMP_STAT.CMP_DONE n).addr ∧ senseFree n k (LCMP_CMPCNT.HITS n).addr ∧ senseFree n k (LCMP_CMPVAL.VAL n).addr
    ∧ senseFree n k (FBP_POS.POS n).addr ∧ senseFree n k (FBA_POS.POS n).addr ∧ senseFree n k (STN_DL.DL_MISS n).addr
    ∧ senseFree n k (STRC_APPLY.LAST n).addr := by
  revert n k
  decide

theorem Tail.KeepsSense.dlMiss (h : o.KeepsSense n k t) : o.KeepsSense n k (t.dlMiss n) := by
  obtain ⟨-, -, -, -, -, -, -, hdl, hstrc⟩ := senseFree_feedback n k
  unfold Tail.dlMiss
  have hnote : o.KeepsSense n k (t.dsNote (STN_DL.DL_COUNT n).addr) := h.trans ⟨rfl, rfl, fun _ _ => rfl, id⟩
  exact .stnMap rfl (.p _ hstrc (.p (f := STN_DL.DL_COUNT n) _ hdl (.p _ hdl hnote)))

theorem Tail.KeepsSense.fbMap (g : Fb → Fb) (h : o.KeepsSense n k t) : o.KeepsSense n k (t.fbMap n g) := .stnMap rfl h

theorem Tail.KeepsSense.sqMap (g : Sq → Sq) (h : o.KeepsSense n k t) : o.KeepsSense n k (t.sqMap n g) := .stnMap rfl h

theorem Tail.KeepsSense.fbStatus (h : o.KeepsSense n k t) : o.KeepsSense n k (t.fbStatus n) := by
  obtain ⟨hfbp, hfba, -⟩ := senseFree_feedback n k
  unfold Tail.fbStatus
  extract_lets loss aux t1 t2 t3 t4
  have h1 : o.KeepsSense n k t1 := .ite _ (fun _ => .evt _ _ (.fbMap _ h)) fun _ => h
  have h2 : o.KeepsSense n k t2 := .ite _ (fun _ => .evt _ _ h1) fun _ => h1
  have h3 : o.KeepsSense n k t3 := .p (f := FBP_STAT.PAIR_LOSS n) _ hfbp (.p _ hfba (.p _ hfbp h2))
  have h4 : o.KeepsSense n k t4 := .p (f := FBP_STAT.SPD_VALID n) _ hfbp (.p (f := FBP_STAT.POS_VALID n) _ hfbp h3)
  exact .only (Tail.only_setSource _ _ .refl) h4

theorem Tail.KeepsSense.cmpOut (b : Bool) (h : o.KeepsSense n k t) : o.KeepsSense n k (t.cmpOut n b) := by
  obtain ⟨-, -, hstat, -⟩ := senseFree_feedback n k
  exact .p (f := LCMP_STAT.CMP_OUT n) _ hstat h

theorem Tail.KeepsSense.compareCheck (p : Nat) (h : o.KeepsSense n k t) : o.KeepsSense n k (t.compareCheck n p) := by
  obtain ⟨-, -, hstat, hcnt, hval, -⟩ := senseFree_feedback n k
  unfold Tail.compareCheck
  extract_lets q v st hit t1 t2
  have h1 : o.KeepsSense n k t1 := .pEff _ hval (.evt _ _ (.p _ hcnt h))
  have h2 : o.KeepsSense n k t2 := .ite _ (fun _ => .p _ hstat h1) fun _ => h1
  exact .ite _ (fun _ => h) fun _ => .cmpOut _ (.fbMap _ h2)

theorem Tail.KeepsSense.preset (h : o.KeepsSense n k t) : o.KeepsSense n k (t.preset n) := by
  obtain ⟨-, -, -, hcnt, hval, hpos, -⟩ := senseFree_feedback n k
  unfold Tail.preset
  extract_lets p0 p1 v st m t1
  have h1 : o.KeepsSense n k t1 := .evt _ _ (.fbMap _ (.pDs _ hpos h))
  exact .ite _ (fun _ => h1) fun _ => .evt _ _ (.pEff _ hval (.p (f := LCMP_CMPCNT.MISSED n) _ hcnt h1))

theorem Tail.KeepsSense.fbpPresetCmd (h : o.KeepsSense n k t) : o.KeepsSense n k (t.fbpPresetCmd n) :=
  .ite _ (fun _ => h) fun _ => .fbStatus (.ite _ (fun _ => .compareCheck _ (.preset h)) fun _ => .preset h)

theorem Tail.KeepsSense.fbCommands (h : o.KeepsSense n k t) : o.KeepsSense n k (t.fbCommands n) := by
  obtain ⟨hfbp, -, hstat, -, -, -, haux, -⟩ := senseFree_feedback n k
  unfold Tail.fbCommands
  extract_lets q t1 t2 t3 t4 t5 t6
  have h1 : o.KeepsSense n k t1 := .fbMap _ h
  have h2 : o.KeepsSense n k t2 := .ite _ (fun _ => .p (f := FBP_STAT.ENC_OC n) _ hfbp h1) fun _ => h1
  have h3 : o.KeepsSense n k t3 := .ite _ (fun _ => .p (f := LCMP_STAT.LATCHED n) _ hstat h2) fun _ => h2
  have h4 : o.KeepsSense n k t4 := .ite _ (fun _ => .fbpPresetCmd h3) fun _ => h3
  have h5 : o.KeepsSense n k t5 := .ite _ (fun _ => .ite _ (fun _ => .pDs _ haux h4) fun _ => h4) fun _ => h4
  have h6 : o.KeepsSense n k t6 := .ite _ (fun _ => .ite _ (fun _ => .p (f := LCMP_STAT.ARMED n) _ hstat h5) fun _ => h5) fun _ => h5
  exact .ite _ (fun _ => .ite _ (fun _ => .p (f := LCMP_STAT.GT_RUN n) _ hstat (.fbMap _ h6)) fun _ => h6) fun _ => h6

/-- `t` with the words written for station `n` since its last sample instant in effect: the first part of `takeLate`. -/
def Tail.lateTaken (t : Tail) (n : Stn) : Tail :=
  { t with late := t.late.filterMap fun (e : Nat × Word) =>
      if sampleReg e.1 != some n.val || (sourceReg e.1 && (t.stnGet n).sq.st.isRunning) then some e else t.lateNext e }

/-- What follows the words in effect changes nothing that a sample reads. -/
theorem Tail.takeLate_keepsSense (t : Tail) (n : Stn) (k : Fin 4) : (t.lateTaken n).KeepsSense n k (t.takeLate n) := by
  obtain ⟨-, hfba, hstat, -⟩ := senseFree_feedback n k
  unfold Tail.takeLate
  extract_lets old wait t1 t2 t3 t4 t5 t6
  have h1 : (t.lateTaken n).KeepsSense n k t1 := .refl
  have h2 : (t.lateTaken n).KeepsSense n k t2 := .ite _ (fun _ => .fbMap _ h1) fun _ => h1
  have h3 : (t.lateTaken n).KeepsSense n k t3 := .ite _ (fun _ => .p _ hstat h2) fun _ => h2
  have h4 : (t.lateTaken n).KeepsSense n k t4 := .ite _ (fun _ => h3) fun _ => .p (f := LCMP_STAT.GT_RUN n) _ hstat (.fbMap _ h3)
  have h5 : (t.lateTaken n).KeepsSense n k t5 := .cmpOut _ h4
  have h6 : (t.lateTaken n).KeepsSense n k t6 := .ite _ (fun _ => .p (f := FBA_STAT.SW n) _ hfba h5) fun _ => h5
  exact .fbStatus (.fbCommands h6)

/-- What stands in effect after an entry's instant is an entry of the same register. -/
theorem Tail.lateNext_key {e e' : Nat × Word} (h : t.lateNext e = some e') : e'.1 = e.1 ∧ e' ∈ t.ceOld :=
  ⟨by simpa using List.find?_some (p := fun o : Nat × Word => decide (o.1 = e.1)) h, List.mem_of_find?_eq_some h⟩

/-- A register whose words wait for no sample instant of the station reads in effect as before. -/
theorem Tail.lateTaken_inEff {a : Nat} (ha : sampleReg a ≠ some n.val) : (t.lateTaken n).inEff a = t.inEff a := by
  refine smGet_congr _ _ _ _ (smGet_filterMap _ (fun e e' h => ?_) (fun e he => ?_) _)
  · split at h
    · exact congrArg Prod.fst (Option.some.inj h).symm
    · exact (Tail.lateNext_key h).1
  · exact if_pos (by simp [he, ha])

/-- Of the words of the classes nothing stays late after a sample instant: a class is no register of a loop (18 R666, 13 R497). -/
theorem Tail.lateTaken_class (hce : ∀ e ∈ t.ceWords.2, loopReg e.1 = true) :
    (t.lateTaken n).inEff (PROT_CLASS.SINV n).addr = smGet t.word t.held (PROT_CLASS.SINV n).addr := by
  have hreg : sampleReg (PROT_CLASS.SINV n).addr = some n.val ∧ sourceReg (PROT_CLASS.SINV n).addr = false
      ∧ loopReg (PROT_CLASS.SINV n).addr = false := by
    revert n
    decide
  obtain ⟨hsample, hsource, hloop⟩ := hreg
  refine smGet_congr _ _ _ _ (smGet_none _ _ _ fun e' he' hkey => ?_)
  obtain ⟨e, -, he⟩ := List.mem_filterMap.mp he'
  split at he
  · next hwait =>
    obtain rfl := Option.some.inj he
    simp [hkey, hsample, hsource] at hwait
  · obtain ⟨-, hmem⟩ := Tail.lateNext_key he
    unfold Tail.ceOld at hmem
    split at hmem
    · rw [← hkey, hce _ hmem] at hloop
      cases hloop
    · cases hmem

/-- The classes written since the last sample instant take effect (18 R666). -/
theorem Tail.takeLate_class (hce : ∀ e ∈ t.ceWords.2, loopReg e.1 = true) :
    (t.takeLate n).inEff (PROT_CLASS.SINV n).addr = smGet t.word t.held (PROT_CLASS.SINV n).addr :=
  ((t.takeLate_keepsSense n 0).reg _ (by simp [senseRegs])).trans (Tail.lateTaken_class hce)

/-! ## The watch of the data inputs and the comparators (12 R472, 18 R653) -/

/-- The mark of channel `k` follows no other channel's. -/
theorem testBit_setBit_of_ne {m : Nat} (hm : m < 16) {j k : Fin 4} (b : Bool) (hjk : j ≠ k) (hk : m.testBit k.val = false) :
    (setBit m j.val b % 2 ^ 4).testBit k.val = false := by
  revert hm j k b
  revert m
  decide

theorem stuck_ok (n : Stn) (k : Fin 4) : (ISNS_STAT.STUCK n).ok ∧ (ISNS_STAT.STUCK n).addr ∉ senseRegs n k
    ∧ senseFree n k (ISNS_CNT.STUCK n).addr := by
  revert n k
  decide

/-- A mark of another channel. -/
theorem Tail.KeepsSense.mark {j : Fin 4} (b : Bool) (hjk : j ≠ k) (h : o.KeepsSense n k t) :
    o.KeepsSense n k (t.p (ISNS_STAT.STUCK n) (setBit (t.g (ISNS_STAT.STUCK n)) j.val b)) := by
  obtain ⟨hok, hread, -⟩ := stuck_ok n k
  refine h.trans ⟨rfl, rfl, fun a ha => t.p_inEff_ne _ fun e => hread (e ▸ ha), fun hs => ?_⟩
  rw [t.g_p _ hok]
  exact testBit_setBit_of_ne (fdGet_lt hok _) b hjk hs

theorem Tail.KeepsSense.sdStuck {j : Fin 4} (hjk : j ≠ k) (h : o.KeepsSense n k t) : o.KeepsSense n k (t.sdStuck n j) := by
  obtain ⟨-, -, hcnt⟩ := stuck_ok n k
  exact .ite _ (fun _ => h) fun _ => .evt _ _ (.p _ hcnt (.mark true hjk h))

/-- The watch of the inputs leaves a channel whose input is not stuck as it is. -/
theorem Tail.KeepsSense.stuckWatch {raw : SampleIn} (hm : (o.g (ISNS_STAT.STUCK n)).testBit k.val = false)
    (hraw : stuckNow (sdBits (o.stnGet n).isns.cfg (sampleChan raw k)) = false) (h : o.KeepsSense n k t) :
    o.KeepsSense n k (t.stuckWatch n raw) := by
  refine List.foldlRecOn (motive := fun r : Tail => o.KeepsSense n k r) _ _ h fun r hr j _ => ?_
  refine .ite _ (fun hj => .sdStuck (fun e => ?_) hr) fun _ => .ite _ (fun hj => ?_) fun _ => hr
  · rw [e, hr.cfg, hraw] at hj
    cases hj
  · have hjk : j ≠ k := fun e => by
      rw [e, hr.stuck hm] at hj
      cases hj
    exact .isnsMap (fun i => ⟨rfl, by simp [Fin.val_ne_of_ne hjk]⟩) (.mark false hjk hr)

theorem Tail.KeepsSense.protSense (raw : SampleIn) (h : o.KeepsSense n k t) : o.KeepsSense n k (t.protSense n raw) := by
  unfold Tail.protSense
  extract_lets outs ph dc sub t1 t2 t3 t4
  have hset {q : Tail} (src : Nat) (hq : o.KeepsSense n k q) : o.KeepsSense n k (q.assertSource n src) ∧ o.KeepsSense n k (q.dropSource n src) :=
    ⟨.only (Tail.only_assertSource _ .refl) hq, .only (Tail.only_dropSource _ .refl) hq⟩
  have hcmp {q : Tail} (src : Nat) (c c' : Prop) [Decidable c] [Decidable c'] (hq : o.KeepsSense n k q) :
      o.KeepsSense n k (if c then q.assertSource n src else if c' then q.dropSource n src else q) :=
    .ite _ (fun _ => (hset src hq).1) fun _ => .ite _ (fun _ => (hset src hq).2) fun _ => hq
  have h1 : o.KeepsSense n k t1 := .isnsMap (fun _ => ⟨rfl, rfl⟩) h
  have h2 : o.KeepsSense n k t2 := hcmp 3 _ _ h1
  have h3 : o.KeepsSense n k t3 := .ite _ (fun _ => h2) fun _ => hcmp 4 _ _ h2
  have h4 : o.KeepsSense n k t4 := .ite _ (fun _ => h3) fun _ => hcmp 5 _ _ h3
  exact .ite _ (fun _ => .isnsMap (fun _ => ⟨rfl, rfl⟩) h4) fun _ => hcmp 7 _ _ (.isnsMap (fun _ => ⟨rfl, rfl⟩) h4)

end

end Sys2Proof.Machine
end

section
/-! A sample instant (12 R461 to R463, 18 R666, 17 R630): its time and place, the newest values of the phases, the classes in effect. -/

namespace Sys2Proof.Machine

/-! ## What a sample instant leaves beside its stations -/

/-- The unit, the link, OTP, PD1 and the time. -/
def Tail.base (t : Tail) : UnitInfo × Link × Otp × Aon × Nat × DWord := (t.u, t.link, t.otp, t.aon, t.now, t.ft)

section
variable {t r : Tail} {n : Stn} {k : Fin 4}

theorem Tail.base_of_spot (h : r.spot = t.spot) : r.base = t.base := by
  obtain ⟨hu, hlink, hotp, haon, hnow, hft, -⟩ := Tail.spot_of h
  simp only [Tail.base, hu, hlink, hotp, haon, hnow, hft]

theorem Tail.last_of_spot (h : r.spot = t.spot) : (r.stnGet n).isns.last = (t.stnGet n).isns.last := by
  obtain ⟨-, -, -, -, -, -, hstn⟩ := Tail.spot_of h
  exact congrArg Prod.snd (hstn n)

theorem Tail.sampleAt_of_spot (h : r.spot = t.spot) : (r.stnGet n).modu.sampleAt = (t.stnGet n).modu.sampleAt := by
  obtain ⟨-, -, -, -, -, -, hstn⟩ := Tail.spot_of h
  exact congrArg Prod.fst (hstn n)

/-! ## The samples (12 R461 to R463) -/

/-- Channel `k` delivers a valid sample: it is enabled, its input is not marked as stuck, and the window after its start has passed. -/
def Tail.delivers (t : Tail) (n : Stn) (k : Fin 4) : Prop :=
  (fdGet (ISNS_CFG.CH_EN 0) (t.stnGet n).isns.cfg).testBit k.val = true ∧ (t.g (ISNS_STAT.STUCK n)).testBit k.val = false
    ∧ (t.stnGet n).isns.validAt[k] ≤ t.now

/-- The place of a channel in the word of validity. -/
theorem sensed_okBit (k : Fin 4) (ok : Fin 4 → Bool) (c : Bool) (hk : k ≠ 2) :
    (BitVec.ofNat 4 (b2n (ok 0) + 2 * b2n (ok 1) + 4 * b2n c + 8 * b2n (ok 3))).getLsbD k.val = ok k := by
  have hbits : ∀ a b c d : Bool, let w := BitVec.ofNat 4 (b2n a + 2 * b2n b + 4 * b2n c + 8 * b2n d)
      w.getLsbD 0 = a ∧ w.getLsbD 1 = b ∧ w.getLsbD 3 = d := by decide
  obtain ⟨ha, hb, hd⟩ := hbits (ok 0) (ok 1) c (ok 3)
  match k with
  | 0 => exact ha
  | 1 => exact hb
  | 2 => exact absurd rfl hk
  | 3 => exact hd

theorem Tail.sensed_ok {raw : SampleIn} (hk : k ≠ 2) (h : t.delivers n k) : (t.sensed n raw).ok.getLsbD k.val = true := by
  obtain ⟨hen, hstuck, hvalid⟩ := h
  unfold Tail.sensed
  extract_lets i chEn stuck d ok
  refine (sensed_okBit k ok _ hk).trans ?_
  simp only [ok, chEn, stuck, i, hen, hstuck, Bool.not_false, Bool.and_self, Bool.true_and]
  exact decide_eq_true hvalid

theorem Tail.sensed_v (raw : SampleIn) (hk : k ≠ 2) : (t.sensed n raw).v[k] =
    t.isnsValue n k.val (isnsD (t.stnGet n).isns.cfg (isnsRaw (t.stnGet n).isns.cfg (sampleChan raw k))) := by
  match k with
  | 0 => simp [Tail.sensed]
  | 1 => simp [Tail.sensed]
  | 2 => exact absurd rfl hk
  | 3 => simp [Tail.sensed]

/-- The samples delivered, kept for the CE. -/
def Tail.sampled (t : Tail) (n : Stn) (raw : SampleIn) : Tail :=
  let x := t.sensed n raw
  t.isnsMap n fun i =>
    { i with
      code := x.d
      ok := x.ok
      last := Vector.ofFn (fun k => if x.ok.getLsbD k.val then x.v[k] else i.last[k])
      ain := Vector.ofFn (fun k => if x.ainOk.testBit k.val then t.gi (AIN_VAL.VALUE k.val) else i.ain[k])
      ainOk := BitVec.ofNat 8 x.ainOk
      trkTaken := false }

theorem Tail.sampled_last {raw : SampleIn} (hk : k ≠ 2) (h : t.delivers n k) : ((t.sampled n raw).stnGet n).isns.last[k] =
    t.isnsValue n k.val (isnsD (t.stnGet n).isns.cfg (isnsRaw (t.stnGet n).isns.cfg (sampleChan raw k))) := by
  have hok := Tail.sensed_ok (raw := raw) hk h
  rw [Tail.sampled, Tail.isnsMap_isns]
  dsimp only
  rw [Fin.getElem_fin, Vector.getElem_ofFn, ← Tail.sensed_v raw hk]
  exact if_pos hok

theorem Tail.KeepsSense.isnsValue (h : t.KeepsSense n k r) (d : Int) : r.isnsValue n k.val d = t.isnsValue n k.val d := by
  have hofs : r.cfi (ISNS_OFS.OFS n k.val) = t.cfi (ISNS_OFS.OFS n k.val) :=
    congrArg (fun w => sx _ (fdGet _ w)) (h.reg _ (by simp [senseRegs]))
  have hgain : r.cf (ISNS_GAIN.GAIN n k.val) = t.cf (ISNS_GAIN.GAIN n k.val) := congrArg (fdGet _) (h.reg _ (by simp [senseRegs]))
  unfold Tail.isnsValue
  rw [hofs, hgain]

/-- What follows the samples delivered keeps them. -/
theorem Tail.senseSample_spot {raw : SampleIn} (h : t.enabled (stnPage n 4) = true) :
    (t.senseSample n raw).spot = (((t.stuckWatch n raw).protSense n raw).sampled n raw).spot := by
  unfold Tail.senseSample
  rw [if_neg (by simp [h])]
  extract_lets q x trk q1 q2 q3 q4 q5
  have h2 : q2.spot = q1.spot := Tail.p_spot ..
  have h3 : q3.spot = q1.spot := by
    unfold q3
    split
    · exact h2
    · exact (Tail.p_spot ..).trans h2
  have h4 : q4.spot = q1.spot := (Tail.currentRecord_spot ..).trans ((Tail.sampleInRecord_spot _).trans ((Tail.calSample_spot ..).trans h3))
  have h5 : q5.spot = q1.spot := (Tail.incBy_spot ..).trans h4
  exact Tail.isnsTakeOver_spot.trans ((Tail.invalidRun_spot _).trans h5)

theorem Tail.senseSample_base (raw : SampleIn) : (t.senseSample n raw).base = t.base := by
  by_cases h : t.enabled (stnPage n 4) = true
  · have hq : ((t.stuckWatch n raw).protSense n raw).spot = t.spot := (Tail.protSense_spot raw).trans (Tail.stuckWatch_spot raw)
    exact (Tail.base_of_spot (Tail.senseSample_spot h)).trans (Tail.base_of_spot hq :)
  · unfold Tail.senseSample
    rw [if_pos (by simp [h])]
    rfl

/-- A channel whose input shows both levels delivers its value as the configuration in effect says. -/
theorem Tail.senseSample_last {raw : SampleIn} (hen : t.enabled (stnPage n 4) = true) (hk : k ≠ 2) (h : t.delivers n k)
    (hraw : stuckNow (sdBits (t.stnGet n).isns.cfg (sampleChan raw k)) = false) : ((t.senseSample n raw).stnGet n).isns.last[k] =
      t.isnsValue n k.val (isnsD (t.stnGet n).isns.cfg (isnsRaw (t.stnGet n).isns.cfg (sampleChan raw k))) := by
  obtain ⟨hch, hstuck, hvalid⟩ := h
  rw [Tail.last_of_spot (Tail.senseSample_spot hen)]
  have hkeep : t.KeepsSense n k ((t.stuckWatch n raw).protSense n raw) := .protSense raw (.stuckWatch hstuck hraw .refl)
  have hspot : ((t.stuckWatch n raw).protSense n raw).spot = t.spot := (Tail.protSense_spot raw).trans (Tail.stuckWatch_spot raw)
  generalize (t.stuckWatch n raw).protSense n raw = q at hkeep hspot
  obtain ⟨-, -, -, -, hnow, -, -⟩ := Tail.spot_of hspot
  have hq : q.delivers n k := ⟨(congrArg (fun w => (fdGet _ w).testBit k.val) hkeep.cfg).trans hch, hkeep.stuck hstuck,
    (hkeep.valid.trans_le hvalid).trans_eq hnow.symm⟩
  rw [Tail.sampled_last hk hq, hkeep.cfg, hkeep.isnsValue]

/-! ## The instant -/

/-- The station at a sample instant before its sample: a late output is discarded, and what waited takes effect. -/
def Tail.sampleBegins (t : Tail) (n : Stn) : Tail :=
  ((if (t.stnGet n).modu.next.isSome then t.dlMiss n else t).takeLate n).sqMap n fun s => { s with gateWait := false }

theorem Tail.sampleBegins_spot : (t.sampleBegins n).spot = t.spot := by
  unfold Tail.sampleBegins
  simp

/-- The sample, with the place of its instant. -/
def Tail.sampleTaken (t : Tail) (n : Stn) (raw : SampleIn) : Tail :=
  ((t.senseSample n raw).dropPast n).moduMap n fun m => { m with sampleAt := t.now }

theorem Tail.sampleNow_spot (raw : SampleIn) : (t.sampleNow n raw).spot = ((t.sampleBegins n).sampleTaken n raw).spot := by
  unfold Tail.sampleNow
  extract_lets q1 q2 cfg q3 q4 q5 ok
  have h3 : q3 = (t.sampleBegins n).sampleTaken n raw := rfl
  have h4 : q4.spot = q3.spot := Tail.loopFeedback_spot.trans (Tail.fbSampleRecord_spot.trans Tail.fbEstimate_spot)
  have h5 : q5.spot = q3.spot := Tail.leaveRole_spot.trans (Tail.speedWatch_spot.trans h4)
  rw [← h3]
  split
  · exact (Tail.runSample_spot _).trans h5
  · exact h5

theorem Tail.moduMap_base (g : Modu → Modu) : (t.moduMap n g).base = t.base := rfl

theorem Tail.sampleTaken_base (raw : SampleIn) : (t.sampleTaken n raw).base = t.base :=
  (Tail.moduMap_base _).trans ((Tail.base_of_spot Tail.dropPast_spot).trans (Tail.senseSample_base raw))

/-- A sample instant keeps the unit, the link, OTP, PD1 and the time. -/
theorem Tail.sampleNow_base (raw : SampleIn) : (t.sampleNow n raw).base = t.base :=
  (Tail.base_of_spot (Tail.sampleNow_spot raw)).trans ((Tail.sampleTaken_base raw).trans (Tail.base_of_spot Tail.sampleBegins_spot))

/-- The place of the instant is kept (17 R630). -/
theorem Tail.sampleNow_sampleAt (raw : SampleIn) : ((t.sampleNow n raw).stnGet n).modu.sampleAt = t.now := by
  obtain ⟨-, -, -, -, hnow, -, -⟩ := Tail.spot_of (t.sampleBegins_spot (n := n))
  rw [Tail.sampleAt_of_spot (Tail.sampleNow_spot raw), Tail.sampleTaken, Tail.moduMap, Tail.stnMap_get]
  exact hnow

theorem Tail.sampleBegins_keepsSense (t : Tail) (n : Stn) (k : Fin 4) :
    ∃ q, t.KeepsSense n k q ∧ (q.lateTaken n).KeepsSense n k (t.sampleBegins n) := by
  refine ⟨if (t.stnGet n).modu.next.isSome then t.dlMiss n else t, .ite _ (fun _ => .dlMiss .refl) fun _ => .refl, ?_⟩
  exact .sqMap _ (Tail.takeLate_keepsSense _ n k)

/-- The configuration of sensing takes effect at once, not at a sample instant. -/
theorem senseRegs_notLate (n : Stn) (k : Fin 4) : sampleReg (PG_CTRL.ENABLE (stnPage n 4)).addr ≠ some n.val
    ∧ sampleReg (ISNS_OFS.OFS n k.val).addr ≠ some n.val ∧ sampleReg (ISNS_GAIN.GAIN n k.val).addr ≠ some n.val := by
  revert n k
  decide

/-- A register of sensing that waits for no sample instant is in effect as before. -/
theorem Tail.sampleBegins_cf {f : Fd} (hf : f.addr ∈ senseRegs n k) (hlate : sampleReg f.addr ≠ some n.val) :
    (t.sampleBegins n).cf f = t.cf f := by
  obtain ⟨q, hq, hbegins⟩ := t.sampleBegins_keepsSense n k
  exact congrArg (fdGet f) ((hbegins.reg _ hf).trans ((Tail.lateTaken_inEff hlate).trans (hq.reg _ hf)))

theorem Tail.sampleBegins_enabled : (t.sampleBegins n).enabled (stnPage n 4) = t.enabled (stnPage n 4) :=
  congrArg (· != 0) (Tail.sampleBegins_cf (k := 0) (by simp [senseRegs]) (senseRegs_notLate n 0).1)

theorem Tail.sampleBegins_isnsValue (d : Int) : (t.sampleBegins n).isnsValue n k.val d = t.isnsValue n k.val d := by
  obtain ⟨-, hofs, hgain⟩ := senseRegs_notLate n k
  unfold Tail.isnsValue Tail.cfi
  rw [Tail.sampleBegins_cf (k := k) (by simp [senseRegs]) hofs, Tail.sampleBegins_cf (k := k) (by simp [senseRegs]) hgain]

theorem Tail.sampleBegins_cfg : ((t.sampleBegins n).stnGet n).isns.cfg = (t.stnGet n).isns.cfg := by
  obtain ⟨q, hq, hbegins⟩ := t.sampleBegins_keepsSense n 0
  exact hbegins.cfg.trans hq.cfg

theorem Tail.sampleBegins_delivers (h : t.delivers n k) : (t.sampleBegins n).delivers n k := by
  obtain ⟨hch, hstuck, hvalid⟩ := h
  obtain ⟨q, hq, hbegins⟩ := t.sampleBegins_keepsSense n k
  obtain ⟨-, -, -, -, hnow, -, -⟩ := Tail.spot_of (t.sampleBegins_spot (n := n))
  exact ⟨(congrArg (fun w => (fdGet _ w).testBit k.val) Tail.sampleBegins_cfg).trans hch, hbegins.stuck (hq.stuck hstuck),
    ((hbegins.valid.trans hq.valid).trans_le hvalid).trans_eq hnow.symm⟩

/-- The newest value of a channel that delivers (12 R461 to R463). -/
theorem Tail.sampleNow_last {raw : SampleIn} (hen : t.enabled (stnPage n 4) = true) (hk : k ≠ 2) (h : t.delivers n k)
    (hraw : stuckNow (sdBits (t.stnGet n).isns.cfg (sampleChan raw k)) = false) : ((t.sampleNow n raw).stnGet n).isns.last[k] =
      t.isnsValue n k.val (isnsD (t.stnGet n).isns.cfg (isnsRaw (t.stnGet n).isns.cfg (sampleChan raw k))) := by
  have htaken (q : Tail) : ((q.sampleTaken n raw).stnGet n).isns.last = ((q.senseSample n raw).stnGet n).isns.last := by
    rw [Tail.sampleTaken, Tail.moduMap, Tail.stnMap_get]
    exact Tail.last_of_spot Tail.dropPast_spot
  rw [Tail.last_of_spot (Tail.sampleNow_spot raw), htaken,
    Tail.senseSample_last (Tail.sampleBegins_enabled.trans hen) hk (Tail.sampleBegins_delivers h) (by rwa [Tail.sampleBegins_cfg]),
    Tail.sampleBegins_cfg, Tail.sampleBegins_isnsValue]

end

/-! ## The obligation -/

/-- Settles O30: every part of a sample instant is shown to keep what the statement names (`Tail.spot`), but for the sample itself and the
place of the instant; and what comes before the sample keeps what the sample reads (`Tail.KeepsSense`). -/
theorem sampleInstant : Obligations.SampleInstant := by
  unfold Obligations.SampleInstant
  refine ⟨fun n raw s hfit hon hft => ?_, fun n t hce => Tail.takeLate_class hce⟩
  have hbase := Tail.sampleNow_base (t := s.fs.elapse (s.fs.sampleIn n)) (n := n) raw
  simp only [Tail.base, Prod.mk.injEq] at hbase
  obtain ⟨hu, hlink, hotp, haon, hnow, htime⟩ := hbase
  refine ⟨(s.fs.elapse (s.fs.sampleIn n)).sampleNow n raw, settles_of_tail _ rfl (if_pos (by simp [hfit, hon, hft])), hu.trans (by simp),
    hlink.trans (by simp), hotp.trans (by simp), haon.trans (by simp), hnow.trans (Tail.elapse_now ..), htime.trans ?_,
    (Tail.sampleNow_sampleAt raw).trans (Tail.elapse_now ..), fun k hk hen hstuck hraw hch hvalid => ?_⟩
  · rw [Tail.elapse_eq, if_pos hft]
  · rw [Tail.sampleNow_last (by simpa [Tail.enabled] using hen) hk ⟨by simpa using hch, by simp [hstuck], ?_⟩ (by simpa using hraw)]
    · simp [Tail.isnsValue, Tail.cfi]
    · simpa [Tail.elapse_now] using hvalid

end Sys2Proof.Machine
end
